-- ==== Sys2Proof/Word.lean ====
section
/-! DEFINITION. The word types of the device and their plainest arithmetic (R5: bit 0 is the least significant bit). -/

namespace Sys2Proof

/-- A register of the register window: every register is 32 bits wide (R384). -/
abbrev Word := BitVec 32

/-- A 64-bit word: scalar registers, table entries, side-memory words. -/
abbrev Word64 := BitVec 64

/-- One byte of a memory. -/
abbrev Byte := BitVec 8

/-- A queue entry: 64 bytes (R81). -/
abbrev Entry := BitVec 512

/-- A vector register: 2 KiB (R153). -/
abbrev VReg := BitVec 16384

/-- A mask register: 2,048 bits (R154). -/
abbrev MReg := BitVec 2048

/-- A 1,024-bit line: 128 bytes, the grain of the HBM hash and of a frame's segment line. -/
abbrev Line := BitVec 1024

/-- A sparse table: a list of keys and values. An absent key reads as the default its reader names. -/
abbrev SMap (α : Type) := List (Nat × α)

/-- A set of natural numbers held as a list with no repeats. -/
abbrev NSet := List Nat

end Sys2Proof
end

