-- ==== Sys2Proof/Syntax.lean ====
section
/-! DEFINITION. The commands of the block: one constructor of `Instr` for each row of spec/opcode_table.json. -/

namespace Sys2Proof

/-- The three pass contexts of a core (R76). -/
inductive Ctx where
  | f
  | b
  | u
  deriving DecidableEq, Repr

/-- The code of a context: 0 F, 1 B, 2 U (R51). -/
def Ctx.idx : Ctx → Nat
  | .f => 0
  | .b => 1
  | .u => 2

/-- The context of a code, F for the code that never occurs. -/
def Ctx.ofIdx : Nat → Ctx
  | 1 => .b
  | 2 => .u
  | _ => .f

/-- A core: its cluster and its number in the cluster, 0 MC0, 1 MC1, 2 to 5 VC0 to VC3, 6 SC (R12, R170). -/
structure CoreId where
  cluster : Fin 40
  core : Fin 7
  deriving DecidableEq, Repr

/-- A matrix core: its cluster and 0 or 1. -/
structure McId where
  cluster : Fin 40
  mc : Fin 2
  deriving DecidableEq, Repr

/-- The issue of the next long word of one stream of one context of a core in a core cycle (R108, R113). -/
structure Issue where
  id : CoreId
  ctx : Ctx
  access : Bool
  cycle : Nat
  deriving DecidableEq, Repr

/-- A JG.STOP (R144, R145): by the next word of a stream, or through a Periscope session for the stream context named, on the core and
in the cycle of `issue`. -/
structure StopIssue where
  issue : Issue
  session : Option (Fin 64)
  deriving DecidableEq, Repr

/-- One context of one core at a core cycle. -/
structure CtxAt where
  id : CoreId
  ctx : Ctx
  cycle : Nat
  deriving DecidableEq, Repr

/-- A packet of the mesh (R323, R326): its header and its flits of 128 bytes. -/
structure Packet where
  header : Word64
  flits : List Line := []
  deriving DecidableEq, Repr

/-- Who makes a register access (R384, R393): a Periscope session, the Ringmaster's secure firmware, other Ringmaster
code of a partition, a Talel context of a partition, a scalar core's SREGWR, a core's Juggler load or store. -/
inductive Requester where
  | periscope
  | rmSecure
  | rmPlain (part : Fin 4)
  | talel (part : Fin 4)
  | sregwr (cluster : Fin 40) (ctx : Ctx)
  | jg (id : CoreId)
  deriving DecidableEq, Repr

/-- A Talel message: its header fields and its payload as a number, byte 0 least significant; `reserved` says that a
reserved bit of the header is 1 (R344). -/
structure Msg where
  cls : Nat
  ver : Nat := 1
  resp : Bool := false
  ackReq : Bool := false
  ece : Bool := false
  retx : Bool := false
  tc : Nat := 0
  srcCtx : Nat := 0
  dstCtx : Nat := 0
  len : Nat := 0
  psn : Nat := 0
  ackpsn : Option Nat := none
  epoch : Nat := 0
  part : Nat := 0
  tag : Nat := 0
  reserved : Bool := false
  data : Nat := 0
  deriving DecidableEq, Repr

/-- A SecTAG (R340, R342): association number, packet number, the key with its salt and SSCI that the sender protected the frame
with, whether the frame has arrived as it was sent; whether it carries an SCI, its suite is GCM-AES-XPN-256, and it is encrypted from
offset 0 on. -/
structure SecTag where
  an : Nat
  pn : Nat
  key : Nat
  intact : Bool
  sci : Bool := true
  suite : Bool := true
  confidential : Bool := true
  deriving DecidableEq, Repr

/-- What an Ethernet frame carries (R340): a UDP datagram with its IP version, source and destination address, an IP
option or fragment, destination UDP port, a failed checksum, its ECN field (0 none, 1 ECT(1), 2 ECT(0), 3 CE) and its Talel message; a request of ARP, neighbour
discovery, ICMP or ICMPv6 echo (0 to 3); an EAPOL frame; a priority flow control frame with the changes it makes; anything
else. -/
inductive EthBody where
  | udp (v6 : Bool) (src dst : Nat) (options : Bool) (udpPort : Nat) (badSum : Bool) (ecn : Fin 4) (msg : Msg)
  | helper (kind : Nat)
  | eapol (data : Nat)
  | pfc (changes : List (Nat × Bool))
  | other
  deriving DecidableEq, Repr

/-- A received Ethernet frame: bytes from destination address through FCS, IEEE 802.1Q tags, priority, FCS good, FEC
codewords corrected and uncorrectable, SecTAG, body. -/
structure EthFrame where
  size : Nat
  tags : Nat
  prio : Nat
  fcsOk : Bool
  corrected : Nat
  uncorrectable : Nat
  sec : Option SecTag
  body : EthBody
  deriving DecidableEq, Repr

/-- What brings a doorbell or a message to a mailbox channel (R373): the request at the head of a Talel context, or a write
to the channel's page. -/
inductive MbxVia where
  | talel (ctx : Fin 16384)
  | page (channel : Fin 64) (who : Requester) (value : Word)
  deriving DecidableEq, Repr

/-- A carousel frame (R258): its header fields and the bytes of its lines, line 0 first. -/
structure CrsFrame where
  kind : Nat
  empty : Bool := false
  last : Bool := false
  sat : Bool := false
  voidSeen : Bool := false
  step : Nat
  bucket : Nat
  slice : Nat
  segment : Nat
  linesM1 : Nat := 0
  count : Nat := 0
  e : Nat := 0
  contrib : Nat := 0
  data : Nat := 0
  deriving DecidableEq, Repr

/-- The Talel message in which a carousel frame arrives (R258, R350): its context and its PSN. -/
structure CrsMsg where
  ctx : Fin 16384
  psn : Nat
  deriving DecidableEq, Repr

/-- A carousel frame in the message that carries it. -/
structure CrsArrival where
  msg : CrsMsg
  frame : CrsFrame
  deriving DecidableEq, Repr

/-- Where a parity error is found (R397): by a core that fetches a word or reads its registers, queues or stores (context,
core cycle, stream, slot if a slot reads, tile store or not); in a 128-byte line of a pool frame, or of flits on their way to
a home; in a side-memory word; in a row engine's row buffer; in a register page that is read for the request at the head of a
Talel context, for the JG.LD that a core's access stream awaits, or for another requester; in directory state of a tile; in a
mover queue, an STK unit or a small interrupt controller of a cluster; in a step, update or carousel table; in a Ringmaster
core. -/
inductive ParityAt where
  | core (at_ : CtxAt) (access : Bool) (slot : Option (Fin 9)) (tileStore : Bool)
  | line (place : Nat)
  | side (cluster : Fin 40) (word : Fin 524288)
  | rowBuffer (cluster : Fin 40)
  | pageTalel (ctx : Fin 16384)
  | pageLoad (id : CoreId) (ctx : Ctx)
  | pageOther
  | directory (tile : Nat)
  | cluster (c : Fin 40)
  | training
  | ringmaster
  deriving DecidableEq, Repr

/-- A frame of the service port (R428): the header of R418, OP with STATUS in bits 15:8, and its data, byte 0 least significant. -/
structure SvcFrame where
  op : Nat
  chunk : Nat := 0
  chunksM1 : Nat := 0
  len : Nat := 0
  data : Nat := 0
  deriving DecidableEq, Repr

/-- What the training of an HBM channel found (R221, R222): the data and check lanes whose eye is below the PHY's limit, a command lane
that failed, whether the channel trains after its repairs. -/
structure ChannelTraining where
  stack : Fin 12
  channel : Fin 32
  lanes : List Nat := []
  command : Bool := false
  trained : Bool := true
  deriving DecidableEq, Repr

/-- What the work of a bring-up stage found (R440): whether it is done; channels whose training found a fault;
physical sites that fail self-test; the route table that firmware writes, by (48·router + destination)·2 +
lane as an output 0 to 4. -/
structure StageWork where
  done : Bool
  hbm : List ChannelTraining := []
  sites : List (Fin 48) := []
  routes : List (Nat × Nat) := []
  deriving DecidableEq, Repr

/-- The commands. The rows from ILLEGAL_OPCODE to JG_MOVE each stand for the issue of a long word that holds the
operation (R106-R128); every other row is an event of a unit, a register access or a message. -/
inductive Instr where
  | illegalOpcode (u : Issue)
  | slotAbsent (u : Issue)
  | emptyWord (u : Issue)
  | end_ (u : Issue)
  | br (u : Issue)
  | bz (u : Issue)
  | bnz (u : Issue)
  | loop (u : Issue)
  | markStart (u : Issue)
  | markEnd (u : Issue)
  | replayBegin (u : Issue)
  | replayEnd (u : Issue)
  | replayRun (u : Issue)
  | brk (u : Issue)
  | fset (u : Issue)
  | fadd (u : Issue)
  | fwait (u : Issue)
  | qpopi (u : Issue)
  | qpushi (u : Issue)
  | qdrop (u : Issue)
  | imovi (u : Issue)
  | iadd (u : Issue)
  | iaddi (u : Issue)
  | isub (u : Issue)
  | ishli (u : Issue)
  | iand (u : Issue)
  | mxSweep (u : Issue)
  | mxCoord (u : Issue)
  | mxPass (u : Issue)
  | mxDrain (u : Issue)
  | vadd (u : Issue)
  | vsub (u : Issue)
  | vmul (u : Issue)
  | vfma (u : Issue)
  | vrcp (u : Issue)
  | vrsq (u : Issue)
  | vexp2 (u : Issue)
  | vlog2 (u : Issue)
  | vcvt (u : Issue)
  | vrsum (u : Issue)
  | vpass (u : Issue)
  | vmax (u : Issue)
  | vmin (u : Issue)
  | vabs (u : Issue)
  | vneg (u : Issue)
  | vcmp (u : Issue)
  | vsel (u : Issue)
  | vmov (u : Issue)
  | vbcst (u : Issue)
  | vld (u : Issue)
  | vst (u : Issue)
  | vqpop (u : Issue)
  | vqpush (u : Issue)
  | sadd (u : Issue)
  | ssub (u : Issue)
  | sand (u : Issue)
  | sor (u : Issue)
  | sxor (u : Issue)
  | sshl (u : Issue)
  | sshr (u : Issue)
  | ssra (u : Issue)
  | smovi (u : Issue)
  | saddi (u : Issue)
  | scmplt (u : Issue)
  | scmpeq (u : Issue)
  | stoi (u : Issue)
  | itos (u : Issue)
  | smul (u : Issue)
  | sdivu (u : Issue)
  | spass (u : Issue)
  | sld (u : Issue)
  | sst (u : Issue)
  | sqpop (u : Issue)
  | sqpush (u : Issue)
  | sregwr (u : Issue)
  | jgBase (u : Issue)
  | jgLoop (u : Issue)
  | jgDest (u : Issue)
  | jgRun (u : Issue)
  | jgSwap (u : Issue)
  | jgStop (u : StopIssue)
  | jgLd (u : Issue)
  | jgSt (u : Issue)
  | jgMove (u : Issue)
  | rankUpdateAccumulate (m : McId) (t : Nat)
  | drainRowWrite (m : McId) (t : Nat)
  | jgLdResponse (at_ : CtxAt)
  | resultCommit (id : CoreId) (t : Nat)
  | contextIdle (at_ : CtxAt)
  | haltComplete (at_ : CtxAt)
  | run (at_ : CtxAt) (who : Requester)
  | resume (at_ : CtxAt) (who : Requester)
  | reset (at_ : CtxAt) (who : Requester)
  | haltReq (at_ : CtxAt) (who : Requester)
  | haltAll (id : CoreId) (t : Nat) (who : Requester)
  | latAuditWrite (id : CoreId) (t : Nat) (who : Requester) (value : Word)
  | qcfgExtWrite (at_ : CtxAt) (who : Requester) (value : Word)
  | pcWrite (at_ : CtxAt) (access : Bool) (who : Requester) (value : Word)
  | remoteFlagWrite (id : CoreId) (t : Nat)
  | externalPush (at_ : CtxAt) (queue : Fin 4) (src : Nat) (data : Entry)
  | deadlock (id : CoreId) (t : Nat)
  | tileResponse (id : CoreId) (sc : Fin 64) (seq : Nat) (t : Nat)
  | tileDelivered (id : CoreId) (sc : Fin 64) (t : Nat)
  | faultTaken (id : CoreId) (sc : Fin 64) (t : Nat)
  | faultAnswer (id : CoreId) (sc : Fin 64) (t : Nat)
  | faultTimeout (id : CoreId) (sc : Fin 64) (t : Nat)
  | stashFull (id : CoreId) (sc : Fin 64) (t : Nat)
  | moveTileRequest (cluster : Fin 40)
  | moveGrant (tile : Nat)
  | moveCommit (tile : Nat)
  | movingFaultEnquiry (id : CoreId) (sc : Fin 64)
  | stashStore (cluster : Fin 40)
  | stashSpill (cluster : Fin 40)
  | stashFill (cluster : Fin 40)
  | stkRelease (cluster : Fin 40) (who : Requester) (value : Word)
  | stkCfgWrite (cluster : Fin 40) (base : Bool) (who : Requester) (value : Word)
  | hbmTilesWrite (cluster : Fin 40) (who : Requester) (value : Word)
  | stashTakeAway (cluster : Fin 40)
  | atomicStore
  | atomicApply (stack : Fin 12)
  | dirPeek (stack : Fin 12) (who : Requester)
  | hbmRead (line : Nat) (errs : List (Nat × Nat × Nat))
  | poisonNotice
  | hbmWrite (line : Nat) (off : Fin 128) (len : Nat) (data : Line) (mark : Bool) (errs : List (Nat × Nat × Nat))
  | scrubRead (stack : Fin 12) (errs : List (Nat × Nat × Nat))
  | rowRemap (stack : Fin 12) (errs : List (Nat × Nat × Nat))
  | rowRetire (stack : Fin 12)
  | retireNotice (stack : Fin 12)
  | laneRepair (stack : Fin 12)
  | stackLost (stack : Fin 12)
  | repairMapWrite
  | periodicRetrain (stack : Fin 12) (channel : Fin 32) (lanes : List Nat) (command trained : Bool)
  | rowKick (cluster : Fin 40) (port : Fin 8) (who : Requester) (value : Word)
  | kickStart (cluster : Fin 40)
  | rowProcess (cluster : Fin 40)
  | kickDone (cluster : Fin 40)
  | rowAbort (cluster : Fin 40) (who : Requester)
  | sideDataRead (cluster : Fin 40) (high : Bool) (who : Requester)
  | sideDataWrite (cluster : Fin 40) (high : Bool) (who : Requester) (value : Word)
  | frameReceive (port : Fin 18) (f : EthFrame)
  | pfcPause (port : Fin 18)
  | pfcSend (port : Fin 18) (prio : Fin 8)
  | linkChange (port : Fin 18) (up : Bool)
  | connect (port : Fin 18)
  | accept (port : Fin 18) (kind part : Nat) (psn : Nat)
  | close (ctx : Fin 16384)
  | nak (port : Fin 18) (ofConnect : Bool)
  | ack (port : Fin 18)
  | messageReceive (port : Fin 18)
  | ackDelayExpiry (ctx : Fin 16384)
  | rtoExpiry (ctx : Fin 16384)
  | regRead (ctx : Fin 16384)
  | regWrite (ctx : Fin 16384)
  | memRead (ctx : Fin 16384)
  | memWrite (ctx : Fin 16384)
  | atomicFetchAdd (ctx : Fin 16384)
  | mbxDoorbell (via : MbxVia)
  | mbxSend (via : MbxVia)
  | mbxPop (channel : Fin 64) (who : Requester) (value : Word)
  | mbxCfgWrite (channel : Fin 64) (who : Requester) (value : Word)
  | cstateRelease (who : Requester) (value : Word)
  | sakCommit (port : Fin 18) (who : Requester) (value : Word)
  | admission
  | sliceCommit
  | frontierAdvance
  | frontierFlagSend
  | phsLdataWrite (who : Requester) (value : Word)
  | phsLdataRead (who : Requester)
  | hand (port : Fin 128) (who : Requester) (value : Word)
  | gather (port : Fin 128) (who : Requester) (value : Word)
  | quantiseSegment
  | handDone
  | reduceFrame (port : Fin 17) (f : CrsArrival)
  | slotForward (unit : Fin 17)
  | holdExpiry (unit : Fin 17)
  | segmentClose (unit : Fin 17)
  | deadlineExpiry (unit : Fin 17)
  | sliceClose (unit : Fin 17)
  | factorFrame (port : Fin 17) (f : CrsArrival)
  | thinnedClose (unit : Fin 17)
  | paramMulticast
  | paramFrame (port : Fin 17) (f : CrsArrival)
  | prune (unit : Fin 17)
  | pruned (port : Fin 17) (f : CrsArrival)
  | mcCredit (port : Fin 17)
  | pull (ok : Bool) (w1 : Word) (data : Nat) (e : Byte) (w2 : Word)
  | pullRetry
  | cutThroughFail (port : Fin 17) (f : CrsArrival)
  | bankSwitchWrite (who : Requester) (value : Word)
  | oldIdle
  | bdataWrite (who : Requester) (value : Word)
  | bdataRead (who : Requester)
  | recordHandoff
  | thinnedHandoff
  | submit (port : Fin 64) (who : Requester) (value : Word)
  | sliceBegin
  | admissionRetry
  | etaNextWrite (who : Requester) (value : Word)
  | updateLine (slice : Fin 8)
  | batchPush (slice : Fin 8)
  | bdone (who : Requester) (value : Word)
  | batchTimeout
  | paramWrite (slice : Fin 8)
  | updEnableWrite (who : Requester) (value : Word)
  | updLdataWrite (who : Requester) (value : Word)
  | updLdataRead (who : Requester)
  | mirrorRankUpdate (m : McId) (t : Nat) (upset : List (Nat × Nat))
  | mirrorCompare (source : McId)
  | sampleTimeout (source : McId)
  | loupeCompare (m : McId)
  | numericsTrigger
  | ledgerEvent (report : Option (Nat × Nat × Nat))
  | ledgerFlashWrite (ok : Bool)
  | flush (who : Requester) (value : Word)
  | ldgQidxWrite (who : Requester) (value : Word)
  | packetHop (site : Fin 48) (out : Fin 5) (cycle : Nat) (enter : List Packet)
  | crossingArrival (domain : Fin 372) (enter : List Packet)
  | dfreqWrite (who : Requester) (value : Word)
  | freqDone (domain : Fin 372)
  | unlock (domain : Fin 372)
  | relock (domain : Fin 372)
  | sourceLineChange (page : Fin 5120)
  | sicDeliver (cluster : Fin 40)
  | sicComplete (cluster : Fin 40) (who : Requester) (value : Word)
  | sicSwset (cluster : Fin 40) (who : Requester) (value : Word)
  | claim (target : Fin 5) (who : Requester)
  | licComplete (target : Fin 5) (who : Requester) (value : Word)
  | scfgWrite (who : Requester) (value : Word)
  | licSwset (who : Requester) (value : Word)
  | delivery (target : Fin 5) (waiting : Bool)
  | moderationExpiry (target : Fin 5)
  | idleHost (who : Requester) (value : Word)
  | spyglassHit (n : Fin 64)
  | isetWrite (page : Fin 5120) (who : Requester) (value : Word)
  | cntSelWrite (page : Fin 5120) (who : Requester) (value : Word)
  | cntLoRead (page : Fin 5120) (who : Requester)
  | errlogDataRead (page : Fin 5120) (who : Requester)
  | ownerWrite (page : Fin 5120) (who : Requester) (value : Word)
  | registerWrite (word : Fin 5242880) (who : Requester) (value : Word)
  | parity (at_ : ParityAt) (unit : Word)
  | poisonConsumed (id : CoreId) (t : Nat)
  | kill (who : Requester) (value : Word)
  | killDone
  | drainTimeout (what : Fin 6)
  | sharedTrigger
  | partReset (who : Requester) (value : Word)
  | epochAdopt (domain : Fin 372) (part : Fin 4) (epoch : Fin 65536)
  | targetsAcknowledged (what : Fin 5)
  | warm (who : Requester) (value : Word)
  | partConfigWrite (word : Fin 1024) (who : Requester) (value : Word)
  | bootVerify (sram : Nat)
  | image (f : SvcFrame)
  | mgtChunk (ctx : Fin 16384)
  | report (frame : Option SvcFrame)
  | cert (frame : Option SvcFrame)
  | enrol
  | fwStage
  | fwCommit
  | mgtPartReset
  | mgtPartKill
  | mgtWarm
  | remove (via : Option (Requester × Word))
  | alarmAck
  | identify
  | provision
  | alarm (sources : List (Fin 5))
  | removalRequest
  | shortPress
  | buttonDown
  | drainingEnd
  | safe
  | tailWrite
  | latchLever (opened : Bool)
  | status (f : SvcFrame)
  | vbusChange (present : Bool)
  | periscopeOpen (key signature : Nat) (mask : Fin 16)
  | periscopeClose
  | sessionTimeout
  | authLockoutExpiry
  | fullPowerOn
  | powerGood
  | stageAdvance (work : StageWork)
  | undervolt
  | powerEnableLow
  | overvoltage
  | powerCapPeriod (volts amps watts : Fin 65536) (dieMax : BitVec 16)
  | phaseSpare
  | peerPortFail (port : Fin 18)
  | spareLinkTimeout
  | retire
  | sleep (who : Requester) (value : Word)
  | wake (group : Fin 3)
  | inputLoss
  deriving DecidableEq, Repr

end Sys2Proof
end

