-- ==== Sys2Proof/Config.lean ====
section
/-! DEFINITION. What the spec leaves to an implementation, and the free values: opaque constants with no body, so that
nothing can be proved of the value itself. -/

namespace Sys2Proof.Config

/-- Free value: FP32 VRCP of an operand, within 1 ulp of the exact reciprocal (R158). -/
opaque rcpFp32 : BitVec 32 → BitVec 32

/-- Free value: FP32 VRSQ of an operand, within 1 ulp of the exact inverse square root (R158). -/
opaque rsqFp32 : BitVec 32 → BitVec 32

/-- Free value: FP32 VEXP2 of an operand, within 2 ulp of the exact power (R158). -/
opaque exp2Fp32 : BitVec 32 → BitVec 32

/-- Free value: FP32 VLOG2 of an operand, within 2 ulp of the exact logarithm (R158). -/
opaque log2Fp32 : BitVec 32 → BitVec 32

/-- Free value: the row engine's exp of a finite operand (R174: within 2 ulp of e^x). -/
opaque expRow : BitVec 32 → BitVec 32

/-- Free value: what a cycle counter of a domain whose cycles no command names reads (R8, R386), by page, selection and
reference tick. -/
opaque cycleCount : Nat → Nat → Nat → Nat

/-- Free value: how many cycles of a core's domain have passed since the last in which a command of the core acted, for its
counters of all cycles and its status registers (R8, R104, R386), by core and reference tick. -/
opaque cyclesSince : Nat → Nat → Nat

/-- Free value: the bits a unit takes from device memory that answered with an error or with poison, by address and length
(the spec gives such data no meaning, R187, R213). -/
opaque errData : Nat → Nat → Nat

/-- Free value: the exponent of ulp(W) at a |W| beyond the largest finite value of an output format, by format code and |W| in
units of 2^-300 (R309 gives the spacing of the format only where the format has one). -/
opaque loupeUlp : Nat → Nat → Int

/-- What the implementation fixes: the module's base MAC address in its flash (R341). -/
opaque baseMac : BitVec 48

/-- The MAC address of a PORT instance: HP, instance 0, the base address; Pk, instance 1 + k, the base address + 1 + k (R341). -/
def portMac (i : Nat) : Nat := (baseMac.toNat + i) % 2 ^ 48

/-- What the implementation fixes: the frequency in MHz that each HBM stack sets for its PHY's command clock (R333). -/
opaque phyMhz : Nat → Nat

/-- Free value: the measured output of a rail in mV at a reference tick (R446). -/
opaque railMillivolts : Nat → Nat → Nat

/-- SLH-DSA-SHAKE-256s verification (R414): public key, context string by number (0 GNZ-FW, 1 GNZ-FWOWN, 2 GNZ-ENROL, 3 GNZ-PROV,
4 GNZ-PERISCOPE, 5 GNZ-ATTEST), length of the message in bytes, message, signature. -/
opaque slhVerify : Nat → Nat → Nat → Nat → Nat → Bool

/-- The identity key's GNZ-ATTEST signature (R420) by identity key, length of the message and message: 29,792 bytes. -/
opaque slhSign : Nat → Nat → Nat → Nat

/-- SHAKE256, 64 bytes of output, by length of the message in bytes and message (R414). -/
opaque shake256 : Nat → Nat → Nat

/-- The hash of the Wallith root key in the boot ROM (R414). -/
opaque rootHash : Nat

/-- fuzzy_extract of R417: SRAM response and helper data. -/
opaque fuzzyExtract : Nat → Nat → Option Nat

/-- AES-256-GCM decryption of the identity blob (R417): key and blob. -/
opaque openBlob : Nat → Nat → Option Nat

/-- The public key of an identity key, 64 bytes (R414). -/
opaque publicKey : Nat → Nat

/-- The tag of the SVN floor: the SHAKE256 MAC of R416 keyed by the wrapping key. -/
opaque floorMac : Nat → Nat → Nat

/-- Free value: does a physical site pass its self-test at a reference tick (R442)? -/
opaque siteTest : Nat → Nat → Bool

/-- What firmware fixes: the route table that it writes for the sites whose routers are in service, in the form of R327's
tables (R329, R442). -/
opaque firmwareRoutes : List Nat → List (Nat × Nat)

/-- Free value: a measurement of R420 over an area of flash whose layout the spec does not give (2 configuration, 3 spares), by the
values the area holds. -/
opaque measure : Nat → List Nat → Nat

/-- The owner's public key, by its hash: flash holds the hash alone, and R419 verifies with the key. -/
opaque ownerKey : Nat → Nat

/-- Free value: identity blob, helper data, length and bytes of the certificate in the data of a PROVISION, by their length and
bytes (R419 gives the parts and no lengths). -/
opaque provParts : Nat → Nat → Nat × Nat × Nat × Nat

/-- Free value: the 64-byte STATUS block, by the values of its fields in R428's order (R428 gives no layout). -/
opaque statusBlock : List Nat → Nat

/-- Free values drawn one after another: the argument is a counter of State that each draw advances. -/
opaque freeNat : Nat → Nat

end Sys2Proof.Config
end

