-- ==== Sys2Proof/Machine/Bits.lean ====
section
/-! DEFINITION. Bit fields, signed readings, sparse tables and byte memories: the plain operations every unit uses. -/

namespace Sys2Proof.Machine

/-- Bits `hi` down to `lo` of a number, as R5 writes them. -/
def field (n hi lo : Nat) : Nat := (n / 2 ^ lo) % 2 ^ (hi + 1 - lo)

/-- Bit `i` of a number. -/
def bitAt (n i : Nat) : Bool := (n / 2 ^ i) % 2 == 1

/-- The two's complement reading of the low `w` bits of a number. -/
def signedOf (w n : Nat) : Int :=
  let m := n % 2 ^ w
  if m < 2 ^ (w - 1) then (m : Int) else (m : Int) - (2 ^ w : Nat)

/-- The low `w` bits of an integer, two's complement. -/
def wrapTo (w : Nat) (i : Int) : Nat := (i % ((2 ^ w : Nat) : Int)).toNat

/-- `w` ones from bit `lo` up. -/
def ones (lo w : Nat) : Nat := (2 ^ w - 1) * 2 ^ lo

/-- A number with bits `lo + w - 1` to `lo` replaced by the low bits of `v`. -/
def putField (n lo w v : Nat) : Nat :=
  n - (field n (lo + w - 1) lo) * 2 ^ lo + (v % 2 ^ w) * 2 ^ lo

/-- One bit of a flag as a number. -/
def b2n (b : Bool) : Nat := if b then 1 else 0

/-- One less than the width needed to write a positive number: the exponent of its leading bit. -/
def lead (n : Nat) : Nat := Nat.log2 n

/-- A sequence counter of `w` bits: it wraps (R386). -/
def wrapSucc (w n : Nat) : Nat := (n + 1) % 2 ^ w

/-- Distance from `b` up to `a` modulo `2 ^ w`. -/
def modDist (w a b : Nat) : Nat := (a + 2 ^ w - b % 2 ^ w) % 2 ^ w

/-! ### Sparse tables -/

/-- What a sparse table holds at a key. -/
def SMap.get {α : Type} : SMap α → Nat → Option α
  | [], _ => none
  | (k', v) :: r, k => if k = k' then some v else SMap.get r k

/-- What a sparse table holds at a key, or a default. -/
def SMap.getD {α : Type} (m : SMap α) (d : α) (k : Nat) : α := (SMap.get m k).getD d

/-- Write a key of a sparse table, keeping its keys in rising order. -/
def SMap.set {α : Type} : SMap α → Nat → α → SMap α
  | [], k, v => [(k, v)]
  | (k', v') :: r, k, v =>
    if k < k' then (k, v) :: (k', v') :: r
    else if k = k' then (k, v) :: r
    else (k', v') :: SMap.set r k v

/-- Remove a key of a sparse table. -/
def SMap.del {α : Type} (m : SMap α) (k : Nat) : SMap α := m.filter (fun p => decide (p.1 ≠ k))

/-- Change the entry of a key, starting from a default. -/
def SMap.mod {α : Type} (m : SMap α) (d : α) (k : Nat) (f : α → α) : SMap α :=
  SMap.set m k (f (SMap.getD m d k))

/-! ### Sets of numbers -/

/-- Put a number into a set. -/
def NSet.insert (s : NSet) (n : Nat) : NSet := if s.contains n then s else n :: s

/-- Take a number out of a set. -/
def NSet.erase (s : NSet) (n : Nat) : NSet := s.filter (fun m => decide (m ≠ n))

/-! ### Byte memories

A memory is a list of addresses and bytes, addresses strictly rising, no listed byte equal to 0, which is what an
unlisted address reads as (DESIGN CHOICE, log entry 5). -/

/-- One byte of a memory. -/
def Mem.get : List (Nat × Byte) → Nat → Byte
  | [], _ => 0
  | (a', v) :: r, a => if a = a' then v else Mem.get r a

/-- Put a listed byte at its place. -/
def Mem.insert : List (Nat × Byte) → Nat → Byte → List (Nat × Byte)
  | [], a, v => [(a, v)]
  | (a', v') :: r, a, v =>
    if a < a' then (a, v) :: (a', v') :: r
    else if a = a' then (a, v) :: r
    else (a', v') :: Mem.insert r a v

/-- Write one byte: writing 0 removes the entry. -/
def Mem.set (m : List (Nat × Byte)) (a : Nat) (v : Byte) : List (Nat × Byte) :=
  if v = 0 then m.filter (fun p => decide (p.1 ≠ a)) else Mem.insert m a v

/-- The canonical form of a memory. -/
abbrev Mem.wf (m : List (Nat × Byte)) : Prop :=
  m.Pairwise (fun p q => p.1 < q.1) ∧ ∀ p ∈ m, p.2 ≠ 0

/-- Bytes `a` to `a + n - 1`, little-endian, as one number. -/
def Mem.read (m : List (Nat × Byte)) (a : Nat) : Nat → Nat
  | 0 => 0
  | n + 1 => (Mem.get m a).toNat + 256 * Mem.read m (a + 1) n

/-- Write the low `n` bytes of a number at `a`, little-endian. -/
def Mem.write (m : List (Nat × Byte)) (a : Nat) : Nat → Nat → List (Nat × Byte)
  | 0, _ => m
  | n + 1, v => Mem.write (Mem.set m a (BitVec.ofNat 8 v)) (a + 1) n (v / 256)

/-- Bytes from `a` up in a store of `size` bytes whose addresses wrap (R115). -/
def Mem.readMod (m : List (Nat × Byte)) (size a : Nat) : Nat → Nat
  | 0 => 0
  | n + 1 => (Mem.get m (a % size)).toNat + 256 * Mem.readMod m size (a + 1) n

/-- Write bytes from `a` up in a store of `size` bytes whose addresses wrap (R115). -/
def Mem.writeMod (m : List (Nat × Byte)) (size a : Nat) : Nat → Nat → List (Nat × Byte)
  | 0, _ => m
  | n + 1, v => Mem.writeMod (Mem.set m (a % size) (BitVec.ofNat 8 v)) size (a + 1) n (v / 256)

/-- The canonical memory that a list of addresses and bytes stands for. -/
def Mem.canon (l : List (Nat × Byte)) : List (Nat × Byte) := l.foldr (fun p m => Mem.set m p.1 p.2) []

/-- The bytes of `[b, b + n)` of a memory, moved to start at `a`. -/
def Mem.slice (m : List (Nat × Byte)) (b n a : Nat) : List (Nat × Byte) :=
  Mem.canon ((m.filter (fun p => decide (b ≤ p.1 ∧ p.1 < b + n))).map (fun p => (p.1 - b + a, p.2)))

/-- Replace bytes `a` to `a + n - 1` of a memory by bytes `b` to `b + n - 1` of another. -/
def Mem.copy (m : List (Nat × Byte)) (a n : Nat) (src : List (Nat × Byte)) (b : Nat) : List (Nat × Byte) :=
  m.filter (fun p => decide (p.1 < a)) ++ Mem.slice src b n a ++ m.filter (fun p => decide (a + n ≤ p.1))

/-- The bytes of a number, `n` of them, least significant first. -/
def bytesOf : Nat → Nat → List Byte
  | 0, _ => []
  | n + 1, v => BitVec.ofNat 8 v :: bytesOf n (v / 256)

/-- The number that a list of bytes spells, little-endian (R5). -/
def ofBytes : List Byte → Nat
  | [] => 0
  | b :: r => b.toNat + 256 * ofBytes r

/-- The number of a list of 32-bit words, first word least significant. -/
def ofWords : List Word → Nat
  | [] => 0
  | w :: r => w.toNat + 2 ^ 32 * ofWords r

/-- Marks (poisoned sectors or lines) of `[b, b + n)`, moved to start at `a`. -/
def NSet.slice (s : NSet) (b n a : Nat) : NSet :=
  (s.filter (fun p => decide (b ≤ p ∧ p < b + n))).map (fun p => p - b + a)

/-- Replace marks `a` to `a + n - 1` by marks `b` to `b + n - 1` of another set. -/
def NSet.copy (s : NSet) (a n : Nat) (src : NSet) (b : Nat) : NSet :=
  s.filter (fun p => decide (p < a ∨ a + n ≤ p)) ++ NSet.slice src b n a

/-- Put marks `a` to `a + n - 1` into a set. -/
def NSet.insertRange (s : NSet) (a n : Nat) : NSet :=
  s.filter (fun p => decide (p < a ∨ a + n ≤ p)) ++ (List.range n).map (· + a)

/-- Take marks `a` to `a + n - 1` out of a set. -/
def NSet.eraseRange (s : NSet) (a n : Nat) : NSet := s.filter (fun p => decide (p < a ∨ a + n ≤ p))

/-- Is any of the marks `a` to `a + n - 1` in the set? -/
def NSet.anyIn (s : NSet) (a n : Nat) : Bool := s.any (fun p => decide (a ≤ p ∧ p < a + n))

/-- Replace element `n` of a list. -/
def setNth {α : Type} : List α → Nat → α → List α
  | [], _, _ => []
  | _ :: r, 0, v => v :: r
  | x :: r, n + 1, v => x :: setNth r n v

/-- Remove the first element that a test accepts. -/
def dropFirst {α : Type} (p : α → Bool) : List α → List α
  | [] => []
  | x :: r => if p x then r else x :: dropFirst p r

end Sys2Proof.Machine
end

