-- ==== Sys2Proof/Machine/Operands.lean ====
section
/-! DEFINITION. Long words (R106-R129): headers, slots, the opcode tables, which bits each operation uses, its latency,
and the registers and store bytes it reads. -/

namespace Sys2Proof.Machine

/-- The three core kinds of R110. -/
inductive CoreKind where
  | matrix
  | vector
  | scalar
  deriving DecidableEq, Repr

/-- The slot classes of R110. -/
inductive SlotClass where
  | ctl | qf | ad | mx | dr | va | vx | vl | sa0 | sa1 | sm | jg
  deriving DecidableEq, Repr

/-- The operations of the opcode tables of chapters 5 and 6. -/
inductive OpName where
  | end_ | br | bz | bnz | loop | markStart | markEnd | replayBegin | replayEnd | replayRun | brk
  | fset | fadd | fwait | qpopi | qpushi | qdrop
  | imovi | iadd | iaddi | isub | ishli | iand
  | mxSweep | mxCoord | mxPass | mxDrain
  | vadd | vsub | vmul | vfma | vrcp | vrsq | vexp2 | vlog2 | vcvt | vrsum | vpass
  | vmax | vmin | vabs | vneg | vcmp | vsel | vmov | vbcst
  | vld | vst | vqpop | vqpush
  | sadd | ssub | sand | sor | sxor | sshl | sshr | ssra | smovi | saddi | scmplt | scmpeq | stoi | itos
  | smul | sdivu | spass
  | sld | sst | sqpop | sqpush | sregwr
  | jgBase | jgLoop | jgDest | jgRun | jgSwap | jgStop | jgLd | jgSt | jgMove
  deriving DecidableEq, Repr

/-- One slot of a word: its number, its operation and its raw bits. -/
structure SlotOp where
  slot : Nat
  name : OpName
  raw : Nat
  deriving DecidableEq, Repr

/-- Halt cause codes of R101. -/
abbrev causeIllegal : Nat := 0x01
/-- SLOT_ABSENT of R101. -/
abbrev causeSlotAbsent : Nat := 0x02
/-- RESERVED_FIELD of R101. -/
abbrev causeReserved : Nat := 0x03
/-- SLOT_CONFLICT of R101. -/
abbrev causeConflict : Nat := 0x04
/-- QUEUE_OVERRUN of R101. -/
abbrev causeOverrun : Nat := 0x05
/-- ALIGNMENT of R101. -/
abbrev causeAlignment : Nat := 0x06
/-- DEADLOCK of R101. -/
abbrev causeDeadlock : Nat := 0x07
/-- POISON_CONSUMED of R101. -/
abbrev causePoison : Nat := 0x08
/-- PARITY of R101. -/
abbrev causeParity : Nat := 0x09
/-- STASH_FULL of R101. -/
abbrev causeStashFull : Nat := 0x0A
/-- RESIDENCY of R101. -/
abbrev causeResidency : Nat := 0x0B
/-- PRIVILEGE of R101. -/
abbrev causePrivilege : Nat := 0x0C
/-- BREAKPOINT of R101. -/
abbrev causeBreakpoint : Nat := 0x0D
/-- LATENCY_AUDIT of R101. -/
abbrev causeAudit : Nat := 0x0E
/-- REPLAY_LIMIT of R101. -/
abbrev causeReplayLimit : Nat := 0x0F
/-- EXTERNAL of R101. -/
abbrev causeExternal : Nat := 0x10
/-- The slot number that stands for no slot (R101). -/
abbrev noSlot : Nat := 0x1F

/-- The class of a slot of a stream, none where the stream lacks the slot (R110). -/
def slotClass (k : CoreKind) (access : Bool) : Nat → Option SlotClass
  | 0 => some .ctl
  | 1 => some .qf
  | 2 => some .qf
  | 3 => some .ad
  | 4 => if access then none else match k with | .matrix => some .mx | .vector => some .va | .scalar => some .sa0
  | 5 => if access then none else match k with | .matrix => some .dr | .vector => some .vx | .scalar => some .sa1
  | 6 => if access then none else match k with | .matrix => none | .vector => some .vl | .scalar => some .sm
  | 7 => if access then some .jg else none
  | 8 => if access then some .jg else none
  | _ => none

/-- Parcels that a slot of a class takes (R110). -/
def SlotClass.parcels : SlotClass → Nat
  | .ctl => 1
  | .mx => 3
  | _ => 2

/-- The operations of a slot class in the order of their opcodes, from opcode 0x01 up (chapters 5 and 6). -/
def opList : SlotClass → List OpName
  | .ctl => [.end_, .br, .bz, .bnz, .loop, .markStart, .markEnd, .replayBegin, .replayEnd, .replayRun, .brk]
  | .qf => [.fset, .fadd, .fwait, .qpopi, .qpushi, .qdrop]
  | .ad => [.imovi, .iadd, .iaddi, .isub, .ishli, .iand]
  | .mx => [.mxSweep, .mxCoord, .mxPass]
  | .dr => [.mxDrain]
  | .va => [.vadd, .vsub, .vmul, .vfma, .vrcp, .vrsq, .vexp2, .vlog2, .vcvt, .vrsum, .vpass]
  | .vx => [.vmax, .vmin, .vabs, .vneg, .vcmp, .vsel, .vmov, .vbcst]
  | .vl => [.vld, .vst, .vqpop, .vqpush]
  | .sa0 => [.sadd, .ssub, .sand, .sor, .sxor, .sshl, .sshr, .ssra, .smovi, .saddi, .scmplt, .scmpeq, .stoi, .itos,
      .smul, .sdivu, .spass]
  | .sa1 => [.sadd, .ssub, .sand, .sor, .sxor, .sshl, .sshr, .ssra, .smovi, .saddi, .scmplt, .scmpeq, .stoi, .itos]
  | .sm => [.sld, .sst, .sqpop, .sqpush, .sregwr]
  | .jg => [.jgBase, .jgLoop, .jgDest, .jgRun, .jgSwap, .jgStop, .jgLd, .jgSt, .jgMove]

/-- The operation of an opcode (R112 to R128, R147): opcode 0 and every opcode not listed give none. -/
def opOf (c : SlotClass) (code : Nat) : Option OpName := if code = 0 then none else (opList c)[code - 1]?

/-- The bit ranges, high and low, that an operation uses; every other bit of its slot must be 0 (R112). -/
def usedBits : OpName → List (Nat × Nat)
  | .end_ => [(5, 0)]
  | .br => [(31, 16), (5, 0)]
  | .bz | .bnz | .loop => [(31, 16), (9, 0)]
  | .markStart | .markEnd => [(31, 16), (5, 0)]
  | .replayBegin | .replayEnd | .replayRun => [(11, 0)]
  | .brk => [(21, 0)]
  | .fset | .fadd => [(47, 24), (15, 0)]
  | .fwait => [(47, 24), (18, 8), (5, 0)]
  | .qpopi => [(19, 16), (14, 8), (5, 0)]
  | .qpushi => [(47, 16), (10, 8), (5, 0)]
  | .qdrop => [(10, 8), (5, 0)]
  | .imovi => [(63, 32), (9, 0)]
  | .iadd | .isub | .iand => [(17, 0)]
  | .iaddi => [(63, 32), (13, 0)]
  | .ishli => [(22, 18), (13, 0)]
  | .mxSweep => [(73, 48), (44, 32), (30, 0)]
  | .mxCoord => [(63, 32), (5, 0)]
  | .mxPass => [(7, 0)]
  | .mxDrain => [(36, 0)]
  | .vadd | .vsub | .vmul | .vmax | .vmin | .vsel => [(30, 28), (22, 0)]
  | .vfma => [(30, 0)]
  | .vrcp | .vrsq | .vexp2 | .vlog2 | .vrsum | .vabs | .vneg | .vmov => [(30, 28), (17, 0)]
  | .vcvt => [(36, 32), (30, 28), (17, 0)]
  | .vpass => [(33, 32), (5, 0)]
  | .vcmp => [(34, 32), (30, 28), (22, 0)]
  | .vbcst => [(63, 32), (30, 28), (12, 0)]
  | .vld | .vst => [(63, 32), (16, 8), (5, 0)]
  | .vqpop | .vqpush => [(24, 17), (12, 8), (5, 0)]
  | .sadd | .ssub | .sand | .sor | .sxor | .sshl | .sshr | .ssra | .scmplt | .scmpeq | .smul | .sdivu => [(20, 0)]
  | .smovi => [(63, 32), (10, 0)]
  | .saddi => [(63, 32), (15, 0)]
  | .stoi => [(24, 21), (15, 11), (5, 0)]
  | .itos => [(24, 21), (10, 0)]
  | .spass => [(33, 32), (5, 0)]
  | .sld | .sst | .sregwr => [(63, 32), (19, 16), (10, 0)]
  | .sqpop => [(25, 20), (10, 0)]
  | .sqpush => [(22, 20), (15, 0)]
  | .jgBase => [(48, 0)]
  | .jgLoop => [(55, 16), (13, 0)]
  | .jgDest => [(41, 0)]
  | .jgRun => [(12, 0)]
  | .jgSwap | .jgStop => [(11, 0)]
  | .jgLd | .jgSt => [(63, 32), (17, 0)]
  | .jgMove => [(63, 32), (29, 10), (6, 0)]

/-- A number with the bits of some ranges cleared. -/
def clearRanges (n : Nat) : List (Nat × Nat) → Nat
  | [] => n
  | (hi, lo) :: r => clearRanges (n - (field n hi lo) * 2 ^ lo) r

/-- Lanes of a vector TYPE: FP32 512, BF16 1,024, INT8 2,048, INT32 512 (R153). -/
def lanesOf (ty : Nat) : Nat := if ty = 1 then 1024 else if ty = 2 then 2048 else 512

/-- Is VCVT's PART legal for its two types (R125)? -/
def partLegal (src dst part : Nat) : Bool :=
  let a := lanesOf src
  let b := lanesOf dst
  part < (if b < a then a / b else b / a)

/-- Values that an operation's field tables mark reserved, and the queue direction of R120. Checks that need the state of
an engine are the engine's. -/
def reservedValue (access : Bool) (op : OpName) (raw : Nat) : Bool :=
  let popBad (q : Nat) : Bool := if access then q < 4 else 4 ≤ q
  let pushBad (q : Nat) : Bool := if access then 4 ≤ q else q < 4
  match op with
  | .fset | .fadd => field raw 7 6 == 3
  | .qpopi | .qdrop => popBad (field raw 10 8)
  | .qpushi => pushBad (field raw 10 8)
  | .mxPass => field raw 7 6 == 3
  | .mxDrain =>
    4 < field raw 30 28 || field raw 15 14 == 3 || field raw 13 12 == 3 || 9 < field raw 11 8 ||
    field raw 7 6 == 3 || (field raw 13 12 == 0 && field raw 27 14 != 0)
  | .vrcp | .vrsq | .vexp2 | .vlog2 => 1 < field raw 7 6
  | .vrsum => field raw 7 6 == 1 || field raw 7 6 == 2
  | .vcvt => !partLegal (field raw 7 6) (field raw 33 32) (field raw 36 35)
  | .vpass => field raw 33 32 == 3
  | .vcmp => field raw 12 8 == 0 || 7 < field raw 12 8 || 5 < field raw 34 32
  | .vqpop => popBad (field raw 19 17)
  | .vqpush => pushBad (field raw 19 17)
  | .spass => field raw 33 32 == 3
  | .sqpop => popBad (field raw 22 20)
  | .sqpush => pushBad (field raw 22 20)
  | .jgDest => 1 < field raw 39 38 || (field raw 39 38 == 0 && field raw 41 40 != 0)
  | _ => false

/-- Published latency L of an operation (chapter 5's tables). FWAIT and JG.LD have none of their own: 1 and 0. -/
def latencyOf (op : OpName) (raw : Nat) : Nat :=
  let int := 1 < field raw 7 6
  match op with
  | .vadd | .vsub | .vmul => if int then 2 else 4
  | .vfma => if int then 4 else 6
  | .vrcp | .vrsq => 10
  | .vexp2 | .vlog2 => 12
  | .vcvt => 4
  | .vrsum => if int then 8 else 14
  | .vmax | .vmin | .vabs | .vneg | .vcmp | .vsel => 2
  | .vld => 8
  | .vst => 3
  | .vqpop => 2
  | .smul => 3
  | .sdivu => 18
  | .sld => 4
  | .sst => 2
  | _ => 1

/-- The queue an operation pops, if any. -/
def popOf (op : SlotOp) : Option Nat :=
  match op.name with
  | .qpopi | .qdrop => some (field op.raw 10 8)
  | .vqpop => some (field op.raw 19 17)
  | .sqpop => some (field op.raw 22 20)
  | _ => none

/-- The queue an operation pushes, if any. -/
def pushOf (op : SlotOp) : Option Nat :=
  match op.name with
  | .qpushi => some (field op.raw 10 8)
  | .vqpush => some (field op.raw 19 17)
  | .sqpush => some (field op.raw 22 20)
  | _ => none

/-- A decoded word: its size in parcels, its gap, its slots, and the causes that its bits alone raise. -/
structure LongWord where
  parcels : Nat
  gap : Nat
  slots : List SlotOp
  causes : List (Nat × Nat)
  absent : Bool
  deriving DecidableEq, Repr

/-- Decode the slots of a mask from slot `n` up (R106, R110-R112): `fuel` counts the slots left. -/
def decodeSlots (k : CoreKind) (access : Bool) (parcel : Nat → Nat) (mask pos n : Nat) :
    Nat → List SlotOp × List (Nat × Nat) × Nat × Bool
  | 0 => ([], [], pos, false)
  | fuel + 1 =>
    if bitAt mask n then
      match slotClass k access n with
      | none => ([], [(causeSlotAbsent, n)], pos, true)
      | some cl =>
        let raw := parcel pos + (if 2 ≤ cl.parcels then 2 ^ 32 * parcel (pos + 1) else 0) +
          (if 3 ≤ cl.parcels then 2 ^ 64 * parcel (pos + 2) else 0)
        let (ops, cs, p, ab) := decodeSlots k access parcel mask (pos + cl.parcels) (n + 1) fuel
        match opOf cl (field raw 5 0) with
        | none => (ops, (causeIllegal, n) :: cs, p, ab)
        | some nm =>
          let bad := clearRanges raw (usedBits nm) != 0 || reservedValue access nm raw
          let mis := (nm == .br || nm == .bz || nm == .bnz || nm == .loop) && field raw 17 16 != 0
          ({ slot := n, name := nm, raw := raw } :: ops,
            (if bad then [(causeReserved, n)] else []) ++ (if mis then [(causeAlignment, n)] else []) ++ cs, p, ab)
    else decodeSlots k access parcel mask pos (n + 1) fuel

/-- Decode the word whose header is parcel 0 (R106-R112, R129). -/
def decodeWord (k : CoreKind) (access : Bool) (parcel : Nat → Nat) : LongWord :=
  let h := parcel 0
  if field h 31 28 ≠ 10 then
    { parcels := 1, gap := field h 27 16, slots := [], causes := [(causeIllegal, noSlot)], absent := false }
  else
    let (ops, cs, p, ab) := decodeSlots k access parcel (field h 8 0) 1 0 9
    { parcels := p, gap := field h 27 16, slots := ops,
      causes := (if field h 15 9 ≠ 0 then [(causeReserved, noSlot)] else []) ++ cs, absent := ab }

/-- The cause that is recorded of several in one stream: the lowest code, and within it the lowest slot (R99). -/
def firstCause : List (Nat × Nat) → Option (Nat × Nat)
  | [] => none
  | c :: r =>
    match firstCause r with
    | none => some c
    | some d => if c.1 < d.1 || (c.1 == d.1 && c.2 ≤ d.2) then some c else some d

/-- Something an operation reads that may have a write pending (R93, R94). -/
inductive Res where
  | ireg (n : Nat)
  | sreg (n : Nat)
  | vreg (n : Nat)
  | mreg (n : Nat)
  | mem (addr len : Nat)
  deriving DecidableEq, Repr

/-- Registers that an operation reads (the local-store bytes are added where the address is known). I0, S0 and M0 are
never pending (R114). -/
def regsRead (op : SlotOp) : List Res :=
  let r := op.raw
  let i (n : Nat) : List Res := if n = 0 then [] else [.ireg n]
  let s (n : Nat) : List Res := if n = 0 then [] else [.sreg n]
  let m (n : Nat) : List Res := if n = 0 then [] else [.mreg n]
  let mask := m (field r 30 28)
  let va := [Res.vreg (field r 17 13)]
  let vb := [Res.vreg (field r 22 18)]
  match op.name with
  | .bz | .bnz | .loop => i (field r 9 6)
  | .qpushi => i (field r 19 16) ++ i (field r 23 20)
  | .iadd | .isub | .iand => i (field r 13 10) ++ i (field r 17 14)
  | .iaddi | .ishli => i (field r 13 10)
  | .vadd | .vsub | .vmul | .vmax | .vmin | .vcmp | .vsel => va ++ vb ++ mask
  | .vfma => va ++ vb ++ [Res.vreg (field r 27 23)] ++ mask
  | .vrcp | .vrsq | .vexp2 | .vlog2 | .vcvt | .vrsum | .vabs | .vneg | .vmov => va ++ mask
  | .vbcst => mask
  | .vld => i (field r 16 13)
  | .vst => i (field r 16 13) ++ [Res.vreg (field r 12 8)]
  | .vqpush => [Res.vreg (field r 12 8)]
  | .sadd | .ssub | .sand | .sor | .sxor | .sshl | .sshr | .ssra | .scmplt | .scmpeq | .smul | .sdivu =>
    s (field r 15 11) ++ s (field r 20 16)
  | .saddi | .stoi => s (field r 15 11)
  | .itos => i (field r 24 21)
  | .sld => i (field r 19 16)
  | .sst | .sregwr => i (field r 19 16) ++ s (field r 10 6)
  | .sqpush => s (field r 10 6) ++ s (field r 15 11)
  | .jgBase => i (field r 15 12)
  | .jgLd => i (field r 13 10) ++ i (field r 17 14)
  | .jgSt => i (field r 13 10) ++ i (field r 17 14) ++ i (field r 9 6)
  | .jgMove => i (field r 13 10)
  | _ => []

end Sys2Proof.Machine
end

