-- ==== Sys2Proof/Machine/Pages.lean ====
section
/-! DEFINITION. The page directory (R378-R380) and the registers of every page with their access types and reset values,
one line for each register of a block's register table. -/

namespace Sys2Proof.Machine

/-- The blocks that own register pages (R379). PHS and CRS have two kinds of page each. -/
inductive Block where
  | core | jgl | ope | drn | tst | vec | scl | row | pool | dir | mov | stk | hbc | hbp | mesh | clk | crsModule | crsUnit | upd | mck | lck | port | msec | tal | lic | sic | spy | mbx | sec | edge | pwr | ldg | phsLedger | phsStep | part
  deriving DecidableEq, Repr

/-- Block codes of R379. -/
def Block.code : Block → Nat
  | .core => 0x01
  | .jgl => 0x05
  | .ope => 0x02
  | .drn => 0x03
  | .tst => 0x04
  | .vec => 0x06
  | .scl => 0x07
  | .row => 0x08
  | .pool => 0x09
  | .dir => 0x0A
  | .mov => 0x0B
  | .stk => 0x0C
  | .hbc => 0x0D
  | .hbp => 0x0E
  | .mesh => 0x0F
  | .clk => 0x10
  | .crsModule => 0x11
  | .crsUnit => 0x11
  | .upd => 0x12
  | .mck => 0x13
  | .lck => 0x14
  | .port => 0x15
  | .msec => 0x16
  | .tal => 0x17
  | .lic => 0x18
  | .sic => 0x19
  | .spy => 0x1A
  | .mbx => 0x1B
  | .sec => 0x1C
  | .edge => 0x1D
  | .pwr => 0x1E
  | .ldg => 0x1F
  | .phsLedger => 0x20
  | .phsStep => 0x20
  | .part => 0x21

/-- A register or a row of registers of one layout: offset of the first, distance and number (two levels, for port word
tables), reset value, and which bits are RW, W1C, W1S, WO and RC. Every other bit is RO. -/
structure RegSpec where
  first : Nat
  stride : Nat
  count : Nat
  stride2 : Nat
  count2 : Nat
  reset : Nat
  rw : Nat
  w1c : Nat
  w1s : Nat
  wo : Nat
  rc : Nat
  deriving DecidableEq, Repr

/-- The register tables of the chapters, block by block. -/
def Block.regs : Block → List RegSpec
  | .core => [
    ⟨0x010, 4, 1, 0, 1, 0x1, 0x101, 0x0, 0x0, 0x10, 0x0⟩,  -- CTRL (R103)
    ⟨0x014, 4, 1, 0, 1, 0x0, 0x0, 0x0, 0x0, 0x0, 0x0⟩,  -- STATUS (R103)
    ⟨0x018, 4, 1, 0, 1, 0x0, 0x0, 0xFF, 0x0, 0x0, 0x0⟩,  -- ISTATUS (R103)
    ⟨0x100, 64, 3, 0, 1, 0x0, 0x0, 0x0, 0x0, 0xF, 0x0⟩,  -- CTX_CTRL (R104)
    ⟨0x104, 64, 3, 0, 1, 0x0, 0xFFFF, 0x0, 0x0, 0x0, 0x0⟩,  -- PC_EXE (R104)
    ⟨0x108, 64, 3, 0, 1, 0x0, 0xFFFF, 0x0, 0x0, 0x0, 0x0⟩,  -- PC_ACC (R104)
    ⟨0x10C, 64, 3, 0, 1, 0x0, 0x0, 0x0, 0x0, 0x0, 0x0⟩,  -- HALT_CAUSE (R104)
    ⟨0x110, 64, 3, 0, 1, 0x0, 0x0, 0x0, 0x0, 0x0, 0x0⟩,  -- HALT_ADDR (R104)
    ⟨0x114, 64, 3, 0, 1, 0x0, 0x0, 0x0, 0x0, 0x0, 0x0⟩,  -- HALT_SLOT (R104)
    ⟨0x118, 64, 3, 0, 1, 0x0, 0x0, 0x0, 0x0, 0x0, 0x0⟩,  -- DL_EXE (R104)
    ⟨0x11C, 64, 3, 0, 1, 0x0, 0x0, 0x0, 0x0, 0x0, 0x0⟩,  -- DL_ACC (R104)
    ⟨0x120, 64, 3, 0, 1, 0x0, 0x0, 0x0, 0x0, 0x0, 0x0⟩,  -- DL_ADDR (R104)
    ⟨0x124, 64, 3, 0, 1, 0xFF, 0x0, 0x0, 0x0, 0x0, 0x0⟩,  -- QSTATUS (R104)
    ⟨0x128, 64, 3, 0, 1, 0x0, 0xF, 0x0, 0x0, 0x0, 0x0⟩,  -- QCFG (R104)
    ⟨0x1C0, 4, 1, 0, 1, 0x1E14, 0x1F1F, 0x0, 0x0, 0x0, 0x0⟩,  -- STALL_LIMIT (R104)
    ⟨0x1C4, 4, 1, 0, 1, 0x0, 0x0, 0xC0000000, 0x0, 0x0, 0x0⟩]  -- HAZARD (R104)
  | .jgl => [
    ⟨0x100, 4, 1, 0, 1, 0x0, 0x0, 0xC0000000, 0x0, 0x0, 0x0⟩,  -- FAULT (R150)
    ⟨0x104, 4, 1, 0, 1, 0x0, 0x0, 0x0, 0x0, 0x0, 0x0⟩,  -- FAULT_TILE_LO (R150)
    ⟨0x108, 4, 1, 0, 1, 0x0, 0x0, 0x0, 0x0, 0x0, 0x0⟩,  -- FAULT_TILE_HI (R150)
    ⟨0x10C, 4, 1, 0, 1, 0x100000, 0xFFFFFFFF, 0x0, 0x0, 0x0, 0x0⟩,  -- FAULT_LIMIT (R150)
    ⟨0x110, 4, 1, 0, 1, 0x0, 0x0, 0x0, 0x0, 0x0, 0x0⟩,  -- BUS_ERR_LO (R150)
    ⟨0x114, 4, 1, 0, 1, 0x0, 0x0, 0x0, 0x0, 0x0, 0x0⟩,  -- BUS_ERR_HI (R150)
    ⟨0x800, 32, 64, 0, 1, 0x30, 0x0, 0x0, 0x0, 0x0, 0x0⟩,  -- SC_STATE (R151)
    ⟨0x804, 32, 64, 0, 1, 0x0, 0x0, 0x0, 0x0, 0x0, 0x0⟩,  -- SC_CTR01 (R151)
    ⟨0x808, 32, 64, 0, 1, 0x0, 0x0, 0x0, 0x0, 0x0, 0x0⟩,  -- SC_CTR23 (R151)
    ⟨0x80C, 32, 64, 0, 1, 0x0, 0x0, 0x0, 0x0, 0x0, 0x0⟩,  -- SC_POS (R151)
    ⟨0x810, 32, 64, 0, 1, 0x0, 0x0, 0x0, 0x0, 0x0, 0x0⟩]  -- SC_DELIVERED (R151)
  | .ope => [
    ⟨0x100, 4, 1, 0, 1, 0x0, 0x0, 0x0, 0x0, 0x0, 0x0⟩,  -- HOLDER (R51)
    ⟨0x104, 4, 1, 0, 1, 0x0, 0x0, 0x0, 0x0, 0x0, 0x0⟩,  -- STATE (R51)
    ⟨0x108, 4, 1, 0, 1, 0x0, 0x0, 0xC0000000, 0x0, 0x0, 0x0⟩,  -- HAZARD (R51)
    ⟨0x110, 4, 1, 0, 1, 0x0, 0xFFFFFFFF, 0x0, 0x0, 0x0, 0x0⟩,  -- SR_SEED_LO (R75)
    ⟨0x114, 4, 1, 0, 1, 0x0, 0xFFFFFFFF, 0x0, 0x0, 0x0, 0x0⟩,  -- SR_SEED_HI (R75)
    ⟨0x118, 4, 1, 0, 1, 0x0, 0x0, 0x0, 0x0, 0x0, 0x0⟩,  -- SR_COORD (R75)
    ⟨0x200, 4, 1, 0, 1, 0x0, 0x1FFFF, 0x0, 0x0, 0x0, 0x0⟩,  -- DBG_SEL (R51)
    ⟨0x204, 4, 1, 0, 1, 0x0, 0x0, 0x0, 0x0, 0x0, 0x0⟩,  -- DBG_DATA0 (R51)
    ⟨0x208, 4, 1, 0, 1, 0x0, 0x0, 0x0, 0x0, 0x0, 0x0⟩,  -- DBG_DATA1 (R51)
    ⟨0x20C, 4, 1, 0, 1, 0x0, 0x0, 0x0, 0x0, 0x0, 0x0⟩]  -- DBG_ACS (R51)
  | .drn => [
    ⟨0x100, 4, 1, 0, 1, 0x0, 0x0, 0x0, 0x0, 0x0, 0x0⟩,  -- STATE (R52)
    ⟨0x104, 4, 1, 0, 1, 0x0, 0x0, 0xC0000000, 0x0, 0x0, 0x0⟩,  -- OVF_STATUS (R52)
    ⟨0x108, 4, 1, 0, 1, 0x0, 0x0, 0x0, 0x0, 0x0, 0x0⟩]  -- OVF_TAG (R52)
  | .tst => []
  | .vec => [
    ⟨0x100, 4, 1, 0, 1, 0x0, 0x0, 0x0, 0x0, 0x0, 0x0⟩,  -- HOLDER (R181)
    ⟨0x104, 4, 1, 0, 1, 0x0, 0x0, 0xF, 0x0, 0x0, 0x0⟩]  -- EXC (R181)
  | .scl => [
    ⟨0x100, 4, 1, 0, 1, 0x0, 0x0, 0x0, 0x0, 0x0, 0x0⟩,  -- HOLDER (R182)
    ⟨0x104, 4, 1, 0, 1, 0x0, 0x0, 0xC0000000, 0x0, 0x0, 0x0⟩]  -- POST_ERR (R182)
  | .row => [
    ⟨0x010, 4, 1, 0, 1, 0x0, 0x0, 0x0, 0x0, 0x1, 0x0⟩,  -- CTRL (R181)
    ⟨0x014, 4, 1, 0, 1, 0x0, 0x0, 0x0, 0x0, 0x0, 0x0⟩,  -- STATUS (R183)
    ⟨0x100, 4, 1, 0, 1, 0x0, 0xFFFFFF80, 0x0, 0x0, 0x0, 0x0⟩,  -- DESC_BASE_LO (R183)
    ⟨0x104, 4, 1, 0, 1, 0x0, 0xFFFF, 0x0, 0x0, 0x0, 0x0⟩,  -- DESC_BASE_HI (R183)
    ⟨0x108, 4, 1, 0, 1, 0x0, 0x0, 0xC0000000, 0x0, 0x0, 0x0⟩,  -- KICK_ERR (R183)
    ⟨0x10C, 4, 1, 0, 1, 0x0, 0x0, 0x0, 0x0, 0x0, 0x0⟩,  -- NF_ROW (R183)
    ⟨0x110, 4, 1, 0, 1, 0x0, 0x7FFFF, 0x0, 0x0, 0x0, 0x0⟩,  -- SIDE_ADDR (R183)
    ⟨0x114, 4, 1, 0, 1, 0x0, 0xFFFFFFFF, 0x0, 0x0, 0x0, 0x0⟩,  -- SIDE_DATA_LO (R183)
    ⟨0x118, 4, 1, 0, 1, 0x0, 0xFFFFFFFF, 0x0, 0x0, 0x0, 0x0⟩,  -- SIDE_DATA_HI (R183)
    ⟨0x200, 8, 8, 0, 1, 0x0, 0xFFFFFFFF, 0x0, 0x0, 0x0, 0x0⟩,  -- KICKp_LO (R183)
    ⟨0x204, 8, 8, 0, 1, 0x0, 0x0, 0x0, 0x0, 0xFFFFFFFF, 0x0⟩]  -- KICKp_HI (R183)
  | .pool => [
    ⟨0x014, 4, 1, 0, 1, 0x1F00000, 0x0, 0x0, 0x0, 0x0, 0x0⟩]  -- STATUS (R206)
  | .dir => [
    ⟨0x100, 4, 1, 0, 1, 0x0, 0xFFFFFFFF, 0x0, 0x0, 0x0, 0x0⟩,  -- PEEK_TILE_LO (R205)
    ⟨0x104, 4, 1, 0, 1, 0x0, 0x1, 0x0, 0x0, 0x0, 0x0⟩,  -- PEEK_TILE_HI (R205)
    ⟨0x108, 4, 1, 0, 1, 0x0, 0x0, 0x0, 0x0, 0x0, 0x0⟩,  -- PEEK_LO (R205)
    ⟨0x10C, 4, 1, 0, 1, 0x0, 0x0, 0x0, 0x0, 0x0, 0x0⟩,  -- PEEK_HI (R205)
    ⟨0x110, 4, 1, 0, 1, 0x0, 0x0, 0x0, 0x0, 0x0, 0x0⟩]  -- HELD (R205)
  | .mov => [
    ⟨0x014, 4, 1, 0, 1, 0x0, 0x0, 0x0, 0x0, 0x0, 0x0⟩,  -- STATUS (R206)
    ⟨0x100, 4, 1, 0, 1, 0x0, 0x0, 0xC0000000, 0x0, 0x0, 0x0⟩,  -- DECLINE (R206)
    ⟨0x104, 4, 1, 0, 1, 0x0, 0x0, 0x0, 0x0, 0x0, 0x0⟩,  -- DECLINE_TILE_LO (R206)
    ⟨0x108, 4, 1, 0, 1, 0x0, 0x0, 0x0, 0x0, 0x0, 0x0⟩]  -- DECLINE_TILE_HI (R206)
  | .stk => [
    ⟨0x014, 4, 1, 0, 1, 0x0, 0x0, 0x0, 0x0, 0x0, 0x0⟩,  -- STATUS (R207)
    ⟨0x100, 4, 1, 0, 1, 0x0, 0x7FFFFFF, 0x0, 0x0, 0x0, 0x0⟩,  -- CFG (R207)
    ⟨0x104, 4, 1, 0, 1, 0x0, 0x1FFFFFF, 0x0, 0x0, 0x0, 0x0⟩,  -- HBM_BASE (R207)
    ⟨0x108, 4, 1, 0, 1, 0x0, 0x1FFFF, 0x0, 0x0, 0x0, 0x0⟩,  -- HBM_TILES (R207)
    ⟨0x10C, 4, 1, 0, 1, 0x0, 0x0, 0x0, 0x0, 0x3FFFF, 0x0⟩,  -- RELEASE (R207)
    ⟨0x110, 4, 1, 0, 1, 0x0, 0x0, 0xC0000000, 0x0, 0x0, 0x0⟩]  -- FULL (R207)
  | .hbc => [
    ⟨0x014, 4, 1, 0, 1, 0x0, 0x0, 0x0, 0x0, 0x0, 0x0⟩,  -- STATUS (R222)
    ⟨0x100, 4, 1, 0, 1, 0x80003E80, 0x80FFFFFF, 0x0, 0x0, 0x0, 0x0⟩,  -- SCRUB (R222)
    ⟨0x104, 4, 1, 0, 1, 0x203, 0xF0F, 0x0, 0x0, 0x0, 0x0⟩,  -- ROW_POLICY (R222)
    ⟨0x108, 4, 1, 0, 1, 0x0, 0x0, 0xC0000000, 0x0, 0x0, 0x0⟩,  -- ERR_LOC0 (R222)
    ⟨0x10C, 4, 1, 0, 1, 0x0, 0x0, 0x0, 0x0, 0x0, 0x0⟩,  -- ERR_LOC1 (R222)
    ⟨0x110, 4, 1, 0, 1, 0xAAAD0000, 0x0, 0x0, 0x0, 0x0, 0x0⟩]  -- SPARES (R222)
  | .hbp => [
    ⟨0x014, 4, 1, 0, 1, 0x0, 0x0, 0x0, 0x0, 0x0, 0x0⟩,  -- STATUS (R223)
    ⟨0x200, 4, 32, 0, 1, 0xFFFF, 0x0, 0x0, 0x0, 0x0, 0x0⟩]  -- LANEc (R223)
  | .mesh => [
    ⟨0x014, 4, 1, 0, 1, 0x0, 0x0, 0x0, 0x0, 0x0, 0x0⟩,  -- STATUS (R337)
    ⟨0x100, 4, 1, 0, 1, 0x0, 0x0, 0xC0000000, 0x0, 0x0, 0x0⟩]  -- DROP (R337)
  | .clk => [
    ⟨0x100, 4, 1, 0, 1, 0x0, 0x1FF, 0x0, 0x0, 0x0, 0x0⟩,  -- DSEL (R338)
    ⟨0x104, 4, 1, 0, 1, 0x0, 0x0, 0x0, 0x0, 0x0, 0x0⟩,  -- DSTAT (R338)
    ⟨0x108, 4, 1, 0, 1, 0x0, 0xFFFF, 0x0, 0x0, 0x0, 0x0⟩,  -- DFREQ (R338)
    ⟨0x10C, 4, 1, 0, 1, 0x0, 0x0, 0xC0000000, 0x0, 0x0, 0x0⟩]  -- UNLOCK (R338)
  | .crsModule => [
    ⟨0x010, 4, 1, 0, 1, 0x2, 0x3, 0x0, 0x0, 0x0, 0x0⟩,  -- CTRL (R279)
    ⟨0x100, 4, 1, 0, 1, 0x0, 0xFFFF, 0x0, 0x0, 0x0, 0x0⟩,  -- CONTRIB (R279)
    ⟨0x104, 4, 1, 0, 1, 0x0, 0xFFFFFFFF, 0x0, 0x0, 0x0, 0x0⟩,  -- QSEED_LO (R279)
    ⟨0x108, 4, 1, 0, 1, 0x0, 0xFFFFFFFF, 0x0, 0x0, 0x0, 0x0⟩,  -- QSEED_HI (R279)
    ⟨0x10C, 4, 1, 0, 1, 0x0, 0xFFFFFF, 0x0, 0x0, 0x0, 0x0⟩,  -- START (R279)
    ⟨0x110, 4, 1, 0, 1, 0x0, 0x8001FFFF, 0x0, 0x0, 0x0, 0x0⟩,  -- BANK (R279)
    ⟨0x114, 4, 1, 0, 1, 0x0, 0x7FFF, 0x0, 0x0, 0x0, 0x0⟩,  -- BSEL (R279)
    ⟨0x118, 4, 1, 0, 1, 0x0, 0xFFFFFFFF, 0x0, 0x0, 0x0, 0x0⟩,  -- BDATA_LO (R279)
    ⟨0x11C, 4, 1, 0, 1, 0x0, 0xFFFFFFFF, 0x0, 0x0, 0x0, 0x0⟩,  -- BDATA_HI (R279)
    ⟨0x120, 4, 1, 0, 1, 0x0, 0xFFFFFF80, 0x0, 0x0, 0x0, 0x0⟩,  -- SCALE_BASE_LO (R279)
    ⟨0x124, 4, 1, 0, 1, 0x0, 0xFFFF, 0x0, 0x0, 0x0, 0x0⟩,  -- SCALE_BASE_HI (R279)
    ⟨0x128, 4, 1, 0, 1, 0x0, 0xFFFFFF80, 0x0, 0x0, 0x0, 0x0⟩,  -- TAGLOG_BASE_LO (R279)
    ⟨0x12C, 4, 1, 0, 1, 0x0, 0xFFFF, 0x0, 0x0, 0x0, 0x0⟩,  -- TAGLOG_BASE_HI (R279)
    ⟨0x130, 4, 1, 0, 1, 0x2710, 0xFFFFFF, 0x0, 0x0, 0x0, 0x0⟩,  -- PULL_RETRY (R279)
    ⟨0x134, 4, 1, 0, 1, 0x0, 0x0, 0xC0000000, 0x0, 0x0, 0x0⟩,  -- VOID (R279)
    ⟨0x138, 4, 1, 0, 1, 0x0, 0x0, 0x0, 0x0, 0x0, 0x0⟩,  -- VOID_TAG (R279)
    ⟨0x13C, 4, 1, 0, 1, 0x0, 0x0, 0xC0000000, 0x0, 0x0, 0x0⟩,  -- PULL_ERR (R279)
    ⟨0x140, 4, 1, 0, 1, 0x0, 0x0, 0x0, 0x0, 0x0, 0x0⟩,  -- PULL_ERR_TAG (R279)
    ⟨0x800, 16, 128, 4, 4, 0x0, 0x0, 0x0, 0x0, 0xFFFFFFFF, 0x0⟩]  -- HANDp (R279)
  | .crsUnit => [
    ⟨0x014, 4, 1, 0, 1, 0x0, 0x0, 0x0, 0x0, 0x0, 0x0⟩,  -- STATUS (R280)
    ⟨0x100, 4, 1, 0, 1, 0x7D0, 0xFFFFFF, 0x0, 0x0, 0x0, 0x0⟩,  -- HOLD (R280)
    ⟨0x104, 4, 1, 0, 1, 0x2710, 0xFFFFFF, 0x0, 0x0, 0x0, 0x0⟩,  -- DEADLINE (R280)
    ⟨0x108, 4, 1, 0, 1, 0x7D0, 0xFFFFFF, 0x0, 0x0, 0x0, 0x0⟩,  -- MC_HOLD (R280)
    ⟨0x10C, 4, 1, 0, 1, 0x0, 0x3FFF, 0x0, 0x0, 0x0, 0x0⟩,  -- PORT_CTX (R280)
    ⟨0x110, 4, 1, 0, 1, 0x0, 0x0, 0xC0000000, 0x0, 0x0, 0x0⟩,  -- LATE (R280)
    ⟨0x114, 4, 1, 0, 1, 0x0, 0x0, 0x0, 0x0, 0x0, 0x0⟩,  -- LATE_TAG (R280)
    ⟨0x118, 4, 1, 0, 1, 0x0, 0x0, 0xC0000000, 0x0, 0x0, 0x0⟩]  -- PRUNE (R280)
  | .upd => [
    ⟨0x010, 4, 1, 0, 1, 0x0, 0x1, 0x0, 0x0, 0x0, 0x0⟩,  -- CTRL (R299)
    ⟨0x014, 4, 1, 0, 1, 0x0, 0x0, 0x0, 0x0, 0x0, 0x0⟩,  -- STATUS (R300)
    ⟨0x100, 4, 1, 0, 1, 0x0, 0xFFFFFFFF, 0x0, 0x0, 0x0, 0x0⟩,  -- ETA_CUR (R300)
    ⟨0x104, 4, 1, 0, 1, 0x0, 0xFFFFFFFF, 0x0, 0x0, 0x0, 0x0⟩,  -- ETA_PREV (R300)
    ⟨0x108, 4, 1, 0, 1, 0x0, 0xFFFFFFFF, 0x0, 0x0, 0x0, 0x0⟩,  -- ETA_NEXT (R300)
    ⟨0x10C, 4, 1, 0, 1, 0x0, 0xFFFF, 0x0, 0x0, 0x0, 0x0⟩,  -- STEP (R300)
    ⟨0x110, 4, 1, 0, 1, 0x0, 0x0, 0x0, 0x0, 0x0, 0x0⟩,  -- STEP_SIZE_STALE (R300)
    ⟨0x114, 4, 1, 0, 1, 0x0, 0x0, 0x0, 0x0, 0xFFFFFFFF, 0x0⟩,  -- BDONE (R300)
    ⟨0x118, 4, 1, 0, 1, 0x100000, 0xFFFFFFFF, 0x0, 0x0, 0x0, 0x0⟩,  -- BATCH_LIMIT (R300)
    ⟨0x11C, 4, 1, 0, 1, 0x0, 0x703FF, 0x0, 0x0, 0x0, 0x0⟩,  -- LSEL (R300)
    ⟨0x120, 4, 1, 0, 1, 0x0, 0xFFFFFFFF, 0x0, 0x0, 0x0, 0x0⟩,  -- LDATA_LO (R300)
    ⟨0x124, 4, 1, 0, 1, 0x0, 0xFFFFFFFF, 0x0, 0x0, 0x0, 0x0⟩,  -- LDATA_HI (R300)
    ⟨0x128, 4, 1, 0, 1, 0x0, 0x0, 0xC0000000, 0x0, 0x0, 0x0⟩,  -- ERR (R300)
    ⟨0x12C, 4, 1, 0, 1, 0x0, 0x0, 0x0, 0x0, 0x0, 0x0⟩,  -- ERR_TAG (R300)
    ⟨0x800, 16, 64, 4, 4, 0x0, 0x0, 0x0, 0x0, 0xFFFFFFFF, 0x0⟩]  -- SUBMITp (R300)
  | .mck => [
    ⟨0x010, 4, 1, 0, 1, 0x0, 0x3, 0x0, 0x0, 0x0, 0x0⟩,  -- CTRL (R319)
    ⟨0x100, 4, 1, 0, 1, 0xA, 0x1F, 0x0, 0x0, 0x0, 0x0⟩,  -- CFG (R320)
    ⟨0x104, 4, 1, 0, 1, 0x0, 0xFFFFFFFF, 0x0, 0x0, 0x0, 0x0⟩,  -- SALT (R320)
    ⟨0x108, 4, 1, 0, 1, 0x10000, 0xFFFFFFFF, 0x0, 0x0, 0x0, 0x0⟩,  -- LIMIT (R320)
    ⟨0x10C, 4, 1, 0, 1, 0x0, 0x0, 0xC0000000, 0x0, 0x0, 0x0⟩,  -- MISMATCH (R320)
    ⟨0x110, 4, 1, 0, 1, 0x0, 0x0, 0x0, 0x0, 0x0, 0x0⟩]  -- MISMATCH_TILE (R320)
  | .lck => [
    ⟨0x010, 4, 1, 0, 1, 0x0, 0x3, 0x0, 0x0, 0x0, 0x0⟩,  -- CTRL (R321)
    ⟨0x100, 4, 1, 0, 1, 0x304030C, 0x3FF031F, 0x0, 0x0, 0x0, 0x0⟩,  -- CFG (R321)
    ⟨0x104, 4, 1, 0, 1, 0x1, 0xFFFFFFFF, 0x0, 0x0, 0x0, 0x0⟩,  -- SALT (R321)
    ⟨0x108, 4, 1, 0, 1, 0x8, 0x3F, 0x0, 0x0, 0x0, 0x0⟩,  -- REPEAT (R321)
    ⟨0x10C, 4, 1, 0, 1, 0x0, 0x0, 0xC0000000, 0x0, 0x0, 0x0⟩,  -- DISAGREE (R321)
    ⟨0x110, 4, 1, 0, 1, 0x0, 0x0, 0x0, 0x0, 0x0, 0x0⟩,  -- DISAGREE_TILE (R321)
    ⟨0x114, 4, 1, 0, 1, 0x0, 0xFFFFFFE0, 0x0, 0x0, 0x0, 0x0⟩,  -- LOG_BASE_LO (R321)
    ⟨0x118, 4, 1, 0, 1, 0x0, 0xFFFF, 0x0, 0x0, 0x0, 0x0⟩,  -- LOG_BASE_HI (R321)
    ⟨0x11C, 4, 1, 0, 1, 0xA, 0x8000000F, 0x0, 0x0, 0x0, 0x0⟩,  -- LOG_CFG (R321)
    ⟨0x120, 4, 1, 0, 1, 0x0, 0x0, 0x0, 0x0, 0x0, 0x0⟩]  -- LOG_HEAD (R321)
  | .port => [
    ⟨0x014, 4, 1, 0, 1, 0x0, 0x0, 0x0, 0x0, 0x0, 0x0⟩,  -- STATUS (R357)
    ⟨0x100, 4, 1, 0, 1, 0x80000000, 0x8001FF00, 0x0, 0x0, 0x0, 0x0⟩,  -- CFG (R357)
    ⟨0x104, 4, 1, 0, 1, 0x0, 0x0, 0x0, 0x0, 0x0, 0x0⟩,  -- MAC_LO (R357)
    ⟨0x108, 4, 1, 0, 1, 0x0, 0x0, 0x0, 0x0, 0x0, 0x0⟩,  -- MAC_HI (R357)
    ⟨0x10C, 4, 1, 0, 1, 0x0, 0xFFFFFFFF, 0x0, 0x0, 0x0, 0x0⟩,  -- IPV4 (R357)
    ⟨0x110, 4, 4, 0, 1, 0x0, 0xFFFFFFFF, 0x0, 0x0, 0x0, 0x0⟩,  -- IPV6w (R357)
    ⟨0x120, 4, 1, 0, 1, 0x7543, 0x7777, 0x0, 0x0, 0x0, 0x0⟩,  -- PRIO (R357)
    ⟨0x124, 4, 1, 0, 1, 0x10001800, 0xFFFFFFFF, 0x0, 0x0, 0x0, 0x0⟩]  -- XOFF (R357)
  | .msec => [
    ⟨0x010, 4, 1, 0, 1, 0x0, 0x3, 0x0, 0x0, 0x0, 0x0⟩,  -- CTRL (R358)
    ⟨0x100, 4, 1, 0, 1, 0x0, 0x3, 0x0, 0x0, 0x0, 0x0⟩,  -- TX (R358)
    ⟨0x104, 4, 1, 0, 1, 0x0, 0xFFFFFFFF, 0x0, 0x0, 0x0, 0x0⟩,  -- REPLAY (R358)
    ⟨0x108, 4, 1, 0, 1, 0x0, 0x7, 0x0, 0x0, 0x80000000, 0x0⟩,  -- SAK_SEL (R358)
    ⟨0x10C, 4, 8, 0, 1, 0x0, 0x0, 0x0, 0x0, 0xFFFFFFFF, 0x0⟩,  -- SAKw (R358)
    ⟨0x12C, 4, 3, 0, 1, 0x0, 0x0, 0x0, 0x0, 0xFFFFFFFF, 0x0⟩,  -- SALTw (R358)
    ⟨0x138, 4, 1, 0, 1, 0x0, 0x0, 0x0, 0x0, 0xFFFFFFFF, 0x0⟩]  -- SSCI (R358)
  | .tal => [
    ⟨0x014, 4, 1, 0, 1, 0x1, 0x0, 0x0, 0x0, 0x0, 0x0⟩,  -- STAGE (R358)
    ⟨0x100, 4, 1, 0, 1, 0x3D0907D0, 0xFFFFFFFF, 0x0, 0x0, 0x0, 0x0⟩,  -- RTO (R358)
    ⟨0x104, 4, 1, 0, 1, 0x641010, 0xFFFFFFFF, 0x0, 0x0, 0x0, 0x0⟩,  -- RETRY (R358)
    ⟨0x108, 4, 1, 0, 1, 0x4000040, 0x7FF07FF, 0x0, 0x0, 0x0, 0x0⟩,  -- CWND (R358)
    ⟨0x10C, 4, 1, 0, 1, 0x40, 0xFFFF, 0x0, 0x0, 0x0, 0x0⟩,  -- NR_HINT (R358)
    ⟨0x110, 4, 1, 0, 1, 0x0, 0x3FFF, 0x0, 0x0, 0x0, 0x0⟩,  -- CSEL (R358)
    ⟨0x114, 4, 1, 0, 1, 0x0, 0x0, 0x0, 0x0, 0x8000000, 0x0⟩,  -- CSTATE (R358)
    ⟨0x118, 4, 1, 0, 1, 0x0, 0x0, 0xC0000000, 0x0, 0x0, 0x0⟩,  -- FAIL (R358)
    ⟨0x11C, 4, 1, 0, 1, 0xC6A4, 0xFFFF, 0x0, 0x0, 0x0, 0x0⟩]  -- UDP (R358)
  | .lic => [
    ⟨0x100, 4, 1, 0, 1, 0x0, 0xFFF, 0x0, 0x0, 0x0, 0x0⟩,  -- SSEL (R375)
    ⟨0x104, 4, 1, 0, 1, 0x0, 0x7FF, 0x0, 0x0, 0x0, 0x0⟩,  -- SCFG (R375)
    ⟨0x108, 4, 1, 0, 1, 0x0, 0x0, 0x0, 0x0, 0xFFF, 0x0⟩,  -- SWSET (R375)
    ⟨0x10C, 4, 1, 0, 1, 0x0, 0x3FFF, 0x0, 0x0, 0x0, 0x0⟩,  -- HOST_CTX (R375)
    ⟨0x110, 4, 1, 0, 1, 0x0, 0x0, 0x0, 0x10, 0x0, 0x0⟩,  -- IDLE (R375)
    ⟨0x114, 4, 1, 0, 1, 0x0, 0x0, 0xC0000000, 0x0, 0x0, 0x0⟩,  -- ORDER (R375)
    ⟨0x200, 32, 5, 0, 1, 0x0, 0x0, 0x0, 0x0, 0x0, 0x80FF0FFF⟩,  -- CLAIM (R376)
    ⟨0x204, 32, 5, 0, 1, 0x0, 0x0, 0x0, 0x0, 0xFFF, 0x0⟩,  -- COMPLETE (R376)
    ⟨0x208, 32, 5, 0, 1, 0x0, 0xFFFFFFFF, 0x0, 0x0, 0x0, 0x0⟩,  -- MOD (R376)
    ⟨0x20C, 32, 5, 0, 1, 0x0, 0x0, 0x0, 0x0, 0x0, 0x0⟩]  -- DEPTH (R376)
  | .sic => [
    ⟨0x100, 4, 1, 0, 1, 0xC, 0xF, 0x0, 0x0, 0x0, 0x0⟩,  -- CFG (R375)
    ⟨0x104, 4, 1, 0, 1, 0x0, 0x0, 0x0, 0x0, 0x7F, 0x0⟩,  -- SWSET (R375)
    ⟨0x108, 4, 1, 0, 1, 0x0, 0x0, 0x0, 0x0, 0x7F, 0x0⟩,  -- COMPLETE (R375)
    ⟨0x10C, 4, 1, 0, 1, 0x0, 0x0, 0x0, 0x0, 0x0, 0x0⟩,  -- STRAY (R375)
    ⟨0x200, 4, 128, 0, 1, 0x0, 0xF, 0x0, 0x0, 0x0, 0x0⟩]  -- SRCn (R375)
  | .spy => [
    ⟨0x010, 4, 1, 0, 1, 0x0, 0x1, 0x0, 0x0, 0x0, 0x0⟩,  -- CTRL (R376)
    ⟨0x100, 4, 1, 0, 1, 0x1, 0x7, 0x0, 0x0, 0x0, 0x0⟩,  -- WAKE (R376)
    ⟨0x104, 4, 1, 0, 1, 0x0, 0x0, 0xFFFFFFFF, 0x0, 0x0, 0x0⟩,  -- HIT_LO (R376)
    ⟨0x108, 4, 1, 0, 1, 0x0, 0x0, 0xFFFFFFFF, 0x0, 0x0, 0x0⟩,  -- HIT_HI (R376)
    ⟨0x200, 4, 64, 0, 1, 0x0, 0x80000FFF, 0x0, 0x0, 0x0, 0x0⟩]  -- SELn (R376)
  | .mbx => [
    ⟨0x014, 4, 1, 0, 1, 0x0, 0x0, 0x0, 0x0, 0x0, 0x0⟩,  -- STATUS (R376)
    ⟨0x100, 4, 1, 0, 1, 0x0, 0xC0003FFF, 0x0, 0x0, 0x0, 0x0⟩,  -- CFG (R376)
    ⟨0x200, 4, 16, 0, 1, 0x0, 0x0, 0x0, 0x0, 0xFFFFFFFF, 0x0⟩,  -- SENDw (R376)
    ⟨0x240, 4, 1, 0, 1, 0x0, 0x0, 0x0, 0x0, 0xFFFFFFFF, 0x0⟩,  -- SEND_GO (R376)
    ⟨0x280, 4, 16, 0, 1, 0x0, 0x0, 0x0, 0x0, 0x0, 0x0⟩,  -- RECVw (R376)
    ⟨0x2C0, 4, 1, 0, 1, 0x0, 0x0, 0x0, 0x0, 0xFFFFFFFF, 0x0⟩,  -- POP (R376)
    ⟨0x300, 4, 1, 0, 1, 0x0, 0x0, 0x0, 0x0, 0xFFFFFFFF, 0x0⟩,  -- DB_SET (R376)
    ⟨0x304, 4, 1, 0, 1, 0x0, 0x0, 0xFFFFFFFF, 0x0, 0x0, 0x0⟩]  -- DB (R376)
  | .sec => [
    ⟨0x014, 4, 1, 0, 1, 0x0, 0x0, 0x0, 0x0, 0x0, 0x0⟩,  -- STATUS (R431)
    ⟨0x100, 4, 1, 0, 1, 0x0, 0x3, 0x0, 0x0, 0x0, 0x0⟩,  -- ADMIN (R431)
    ⟨0x104, 4, 1, 0, 1, 0x0, 0x0, 0xC0000000, 0x0, 0x0, 0x0⟩,  -- ALARM (R431)
    ⟨0x108, 4, 1, 0, 1, 0x0, 0x0, 0x0, 0x0, 0x0, 0x0⟩,  -- ALARM_TICK_LO (R431)
    ⟨0x10C, 4, 1, 0, 1, 0x0, 0x0, 0x0, 0x0, 0x0, 0x0⟩,  -- ALARM_TICK_HI (R431)
    ⟨0x110, 4, 1, 0, 1, 0x0, 0x0, 0x0, 0x0, 0x0, 0x0⟩,  -- DBG_FAIL (R431)
    ⟨0x114, 4, 1, 0, 1, 0x0, 0x0, 0x0, 0x0, 0x0, 0x0⟩]  -- BOOTS (R431)
  | .edge => [
    ⟨0x010, 4, 1, 0, 1, 0x0, 0x1, 0x0, 0x0, 0x2, 0x0⟩,  -- CTRL (R432)
    ⟨0x014, 4, 1, 0, 1, 0x90000000, 0x0, 0x0, 0x0, 0x0, 0x0⟩,  -- STATUS (R432)
    ⟨0x100, 4, 1, 0, 1, 0x0, 0x0, 0x0, 0x0, 0x0, 0x0⟩,  -- REMOVE (R432)
    ⟨0x104, 4, 1, 0, 1, 0xBEBC200, 0xFFFFFFFF, 0x0, 0x0, 0x0, 0x0⟩]  -- DRAIN_LIMIT (R432)
  | .pwr => [
    ⟨0x014, 4, 1, 0, 1, 0x0, 0x0, 0x0, 0x0, 0x0, 0x0⟩,  -- STATUS (R446)
    ⟨0x100, 4, 1, 0, 1, 0x0, 0x0, 0x0, 0x0, 0x0, 0x0⟩,  -- INPUT (R446)
    ⟨0x104, 4, 1, 0, 1, 0x0, 0x0, 0x0, 0x0, 0x0, 0x0⟩,  -- POWER (R446)
    ⟨0x108, 4, 1, 0, 1, 0xE10, 0xFFFF, 0x0, 0x0, 0x0, 0x0⟩,  -- LIMIT (R446)
    ⟨0x10C, 4, 1, 0, 1, 0x690000, 0xFF0000, 0x0, 0x0, 0x0, 0x0⟩,  -- THERM (R446)
    ⟨0x110, 4, 1, 0, 1, 0x0, 0x7, 0x0, 0x0, 0x0, 0x0⟩,  -- RSEL (R446)
    ⟨0x114, 4, 1, 0, 1, 0x200000, 0x0, 0x0, 0x0, 0x0, 0x0⟩,  -- RSTAT (R446)
    ⟨0x118, 4, 1, 0, 1, 0x0, 0x0, 0x0, 0x0, 0x0, 0x0⟩,  -- SPARES (R446)
    ⟨0x11C, 4, 1, 0, 1, 0x0, 0x7, 0x0, 0x0, 0x0, 0x0⟩,  -- SLEEP (R446)
    ⟨0x120, 4, 1, 0, 1, 0x0, 0x0, 0x0, 0x0, 0x0, 0x0⟩]  -- UV_COUNT (R446)
  | .ldg => [
    ⟨0x010, 4, 1, 0, 1, 0x0, 0x0, 0x0, 0x0, 0x1, 0x0⟩,  -- CTRL (R322)
    ⟨0x014, 4, 1, 0, 1, 0x0, 0x0, 0x0, 0x0, 0x0, 0x0⟩,  -- STATUS (R322)
    ⟨0x100, 4, 1, 0, 1, 0xA803, 0xFFFF07, 0x0, 0x0, 0x0, 0x0⟩,  -- POLICY (R322)
    ⟨0x104, 4, 1, 0, 1, 0x0, 0x0, 0x0, 0x0, 0x0, 0x0⟩,  -- POWERED (R322)
    ⟨0x108, 4, 1, 0, 1, 0x0, 0x1FFFF, 0x0, 0x0, 0x0, 0x0⟩,  -- QIDX (R322)
    ⟨0x10C, 4, 8, 0, 1, 0x0, 0x0, 0x0, 0x0, 0x0, 0x0⟩,  -- QDATAw (R322)
    ⟨0x12C, 4, 1, 0, 1, 0x0, 0x0, 0xC0000000, 0x0, 0x0, 0x0⟩]  -- EVENT (R322)
  | .phsLedger => [
    ⟨0x100, 4, 1, 0, 1, 0x6, 0x8000000F, 0x0, 0x0, 0x0, 0x0⟩,  -- LEDGER_CFG (R246)
    ⟨0x104, 4, 1, 0, 1, 0x0, 0xFFFF8000, 0x0, 0x0, 0x0, 0x0⟩,  -- RING_BASE_LO (R246)
    ⟨0x108, 4, 1, 0, 1, 0x0, 0xFFFF, 0x0, 0x0, 0x0, 0x0⟩,  -- RING_BASE_HI (R246)
    ⟨0x200, 4, 21, 0, 1, 0x0, 0x0, 0x0, 0x0, 0x0, 0x0⟩]  -- HEADr (R246)
  | .phsStep => [
    ⟨0x100, 4, 1, 0, 1, 0x0, 0x8003FFFF, 0x0, 0x0, 0x0, 0x0⟩,  -- STEP_CFG (R245)
    ⟨0x104, 4, 1, 0, 1, 0x0, 0xFFFF03FF, 0x0, 0x0, 0x0, 0x0⟩,  -- FRONT (R245)
    ⟨0x108, 4, 1, 0, 1, 0x0, 0x0, 0x0, 0x0, 0x0, 0x0⟩,  -- ADVANCES (R245)
    ⟨0x10C, 4, 1, 0, 1, 0x0, 0x3FF, 0x0, 0x0, 0x0, 0x0⟩,  -- LSEL (R245)
    ⟨0x110, 4, 1, 0, 1, 0x0, 0xFFFFFFFF, 0x0, 0x0, 0x0, 0x0⟩,  -- LDATA_LO (R245)
    ⟨0x114, 4, 1, 0, 1, 0x0, 0xFFFFFFFF, 0x0, 0x0, 0x0, 0x0⟩,  -- LDATA_HI (R245)
    ⟨0x118, 4, 1, 0, 1, 0x0, 0x0, 0xC0000000, 0x0, 0x0, 0x0⟩,  -- REFUSED (R245)
    ⟨0x11C, 4, 1, 0, 1, 0x0, 0x0, 0x0, 0x0, 0x0, 0x0⟩,  -- REFUSED_STEP (R245)
    ⟨0x400, 4, 40, 0, 1, 0x0, 0x7F, 0x0, 0x0, 0x0, 0x0⟩]  -- SUBc (R245)
  | .part => [
    ⟨0x010, 4, 1, 0, 1, 0x0, 0x0, 0x0, 0x0, 0x1, 0x0⟩,  -- CTRL (R412)
    ⟨0x014, 4, 1, 0, 1, 0x1, 0x0, 0x0, 0x0, 0x0, 0x0⟩,  -- STATUS (R412)
    ⟨0x100, 4, 4, 0, 1, 0x0, 0x0, 0x0, 0x0, 0x0, 0x0⟩,  -- EPOCHp (R412)
    ⟨0x110, 4, 1, 0, 1, 0x0, 0x0, 0x0, 0x0, 0xF, 0x0⟩,  -- RESET (R412)
    ⟨0x114, 4, 1, 0, 1, 0x0, 0x0, 0x0, 0x0, 0x8000003F, 0x0⟩,  -- KILL (R412)
    ⟨0x118, 4, 1, 0, 1, 0x0, 0x3, 0x0, 0x0, 0x0, 0x0⟩,  -- TRAIN (R412)
    ⟨0x11C, 4, 1, 0, 1, 0x0, 0xFFFFFFFF, 0x0, 0x0, 0x0, 0x0⟩,  -- PORTS (R412)
    ⟨0x120, 4, 1, 0, 1, 0x10000, 0xFFFFFFFF, 0x0, 0x0, 0x0, 0x0⟩,  -- DRAIN_LIMIT (R412)
    ⟨0x124, 4, 1, 0, 1, 0x0, 0x0, 0xC0000000, 0x0, 0x0, 0x0⟩,  -- SHARED (R412)
    ⟨0x140, 8, 4, 0, 1, 0x0, 0x1FFFFFF, 0x0, 0x0, 0x0, 0x0⟩,  -- TBASEp (R412)
    ⟨0x144, 8, 4, 0, 1, 0x16FFFFF, 0x1FFFFFF, 0x0, 0x0, 0x0, 0x0⟩,  -- TLIMp (R412)
    ⟨0x200, 4, 40, 0, 1, 0x0, 0xF3, 0x0, 0x0, 0x0, 0x0⟩]  -- CLc (R412)

/-- How many ISTATUS bits a block defines, from bit 0 up. -/
def Block.istBits : Block → Nat
  | .core => 8
  | .jgl => 3
  | .ope => 1
  | .drn => 1
  | .tst => 1
  | .vec => 1
  | .scl => 1
  | .row => 5
  | .pool => 0
  | .dir => 3
  | .mov => 1
  | .stk => 2
  | .hbc => 8
  | .hbp => 3
  | .mesh => 2
  | .clk => 2
  | .crsModule => 7
  | .crsUnit => 6
  | .upd => 8
  | .mck => 2
  | .lck => 6
  | .port => 3
  | .msec => 3
  | .tal => 3
  | .lic => 4
  | .sic => 1
  | .spy => 1
  | .mbx => 3
  | .sec => 6
  | .edge => 5
  | .pwr => 6
  | .ldg => 3
  | .phsLedger => 1
  | .phsStep => 3
  | .part => 6

/-- The counters of a block in CNT_SEL order: true for a cycle counter, false for a statistics counter (R386). -/
def Block.counters : Block → List Bool
  | .core => [false, false, true, true, false, false, false, false]
  | .jgl => [false, false, false, false, false, false, false, false, true, false]
  | .ope => [false, false, true, true, false, false]
  | .drn => [false, false, false, false, true]
  | .tst => [false, false, false, true]
  | .vec => [false, false, false, true, true, false]
  | .scl => [false, false, false, false, true]
  | .row => [false, false, false, false, false, false, false, true, true]
  | .pool => [false, false, false, false, true]
  | .dir => [false, false, false, false, false, false, true, false]
  | .mov => [false, false, false, false, false, false, false, true]
  | .stk => [false, false, false, false, false, false, false, true]
  | .hbc => [false, false, false, false, false, false, false, false, false, false, true]
  | .hbp => [false, false, false]
  | .mesh => [false, false, false, false, false, true]
  | .clk => [true, false, false, false]
  | .crsModule => [false, false, false, false, false, false, false, false, false, false, true]
  | .crsUnit => [false, false, false, false, false, false, false, false, false, false, false, true]
  | .upd => [false, false, false, false, false, false, false, false, false, false, false, false, true]
  | .mck => [false, false, false, false, false, false, false, false]
  | .lck => [false, false, false, false, false, false, false, false]
  | .port => [false, false, false, false, false, false, false, false, false, true]
  | .msec => [false, false, false, false, false]
  | .tal => [false, false, false, false, false, false, false, false, false, false, true, false]
  | .lic => [false, false, false, false, false, false, false, true]
  | .sic => [false, false, true]
  | .spy => [false, false]
  | .mbx => [false, false, false, false, false, false]
  | .sec => [false, false, false, false, false, false, true]
  | .edge => [false, false, false, false, false, false]
  | .pwr => [false, false, false, false, true]
  | .ldg => [false, false, false]
  | .phsLedger => [false, false, false, false, false, true]
  | .phsStep => [false, false, false, false, false, false, false, false, true]
  | .part => [false, false, false, false, false, true]

/-- A page: its block and its instance (R379). -/
structure Page where
  block : Block
  inst : Nat
  deriving DecidableEq, Repr

/-- The page at slot `s` of a cluster's 256 KiB (R379). -/
def clusterPage (c s : Nat) : Option Page :=
  if s < 0x07 then some ⟨.core, 7 * c + s⟩
  else if s < 0x08 then none
  else if s < 0x0F then some ⟨.jgl, 7 * c + (s - 0x08)⟩
  else match s with
    | 0x10 => some ⟨.ope, 2 * c⟩ | 0x11 => some ⟨.ope, 2 * c + 1⟩
    | 0x12 => some ⟨.drn, 2 * c⟩ | 0x13 => some ⟨.drn, 2 * c + 1⟩
    | 0x14 => some ⟨.tst, 2 * c⟩ | 0x15 => some ⟨.tst, 2 * c + 1⟩
    | 0x16 => some ⟨.vec, 4 * c⟩ | 0x17 => some ⟨.vec, 4 * c + 1⟩
    | 0x18 => some ⟨.vec, 4 * c + 2⟩ | 0x19 => some ⟨.vec, 4 * c + 3⟩
    | 0x1A => some ⟨.scl, c⟩ | 0x1B => some ⟨.row, c⟩ | 0x1C => some ⟨.pool, c⟩ | 0x1D => some ⟨.mov, c⟩
    | 0x1E => some ⟨.stk, c⟩ | 0x1F => some ⟨.mesh, c⟩ | 0x20 => some ⟨.mck, c⟩ | 0x21 => some ⟨.lck, c⟩
    | 0x22 => some ⟨.phsLedger, c⟩ | 0x23 => some ⟨.sic, c⟩ | 0x24 => some ⟨.mbx, c⟩
    | _ => none

/-- The six pages that the directory's formulas place on pages of the next block: kept above the window, where a command may
name them and no address reaches them (DESIGN CHOICE, log entry 7). -/
def farPage (i : Nat) : Nat → Option Page
  | 0x15 => if i = 0 ∨ i = 1 then some ⟨.port, 16 + i⟩ else none
  | 0x16 => if i = 0 ∨ i = 1 then some ⟨.msec, 16 + i⟩ else none
  | 0x11 => if i = 0 then some ⟨.crsUnit, 16⟩ else if i = 1 then some ⟨.crsModule, 17⟩ else none
  | _ => none

/-- The page whose 4 KiB hold a window offset (R378, R379). PORT, MSEC and CRS instances 16 and 17 fall on offsets that
the next block's pages occupy; the page listed for the offset's own 64 KiB answers (DESIGN CHOICE, log entry 7). -/
def pageAt (off : Nat) : Option Page :=
  let n := off / 0x1000
  if n < 0xA00 then clusterPage (n / 0x40) (n % 0x40)
  else if 0x1000 ≤ n then farPage (n % 0x10) ((n - 0x1000) / 0x10 - 1)
  else
    let i := n % 0x10
    match n / 0x10 with
    | 0xA0 => if i < 12 then some ⟨.hbc, i⟩ else none
    | 0xA1 => if i < 12 then some ⟨.hbp, i⟩ else none
    | 0xA2 => if i < 12 then some ⟨.dir, i⟩ else none
    | 0xA3 => some ⟨.port, i⟩
    | 0xA4 => some ⟨.msec, i⟩
    | 0xA5 => some ⟨.crsUnit, i⟩
    | 0xA6 => some ⟨.mbx, 40 + i⟩
    | 0xA7 => if i < 8 then some ⟨.mbx, 56 + i⟩ else none
    | 0xA8 => match i with
      | 0 => some ⟨.clk, 0⟩ | 1 => some ⟨.tal, 0⟩ | 2 => some ⟨.upd, 0⟩ | 3 => some ⟨.phsStep, 40⟩
      | 4 => some ⟨.ldg, 0⟩ | 5 => some ⟨.lic, 0⟩ | 6 => some ⟨.spy, 0⟩ | 7 => some ⟨.sec, 0⟩
      | 8 => some ⟨.edge, 0⟩ | 9 => some ⟨.pwr, 0⟩ | 0xA => some ⟨.part, 0⟩
      | _ => none
    | _ => none

/-- Where a page's registers are kept: its window offset (R379). The six pages that the window does not reach are kept
above the window (log entry 7). -/
def Page.base (p : Page) : Nat :=
  let i := p.inst
  let far := 0x1000000 + 0x10000 * p.block.code + 0x1000 * i
  match p.block with
  | .core => 0x40000 * (i / 7) + 0x1000 * (i % 7)
  | .jgl => 0x40000 * (i / 7) + 0x8000 + 0x1000 * (i % 7)
  | .ope => 0x40000 * (i / 2) + 0x10000 + 0x1000 * (i % 2)
  | .drn => 0x40000 * (i / 2) + 0x12000 + 0x1000 * (i % 2)
  | .tst => 0x40000 * (i / 2) + 0x14000 + 0x1000 * (i % 2)
  | .vec => 0x40000 * (i / 4) + 0x16000 + 0x1000 * (i % 4)
  | .scl => 0x40000 * i + 0x1A000
  | .row => 0x40000 * i + 0x1B000
  | .pool => 0x40000 * i + 0x1C000
  | .mov => 0x40000 * i + 0x1D000
  | .stk => 0x40000 * i + 0x1E000
  | .mesh => 0x40000 * i + 0x1F000
  | .mck => 0x40000 * i + 0x20000
  | .lck => 0x40000 * i + 0x21000
  | .phsLedger => 0x40000 * i + 0x22000
  | .sic => 0x40000 * i + 0x23000
  | .mbx => if i < 40 then 0x40000 * i + 0x24000 else 0xA60000 + 0x1000 * (i - 40)
  | .hbc => 0xA00000 + 0x1000 * i
  | .hbp => 0xA10000 + 0x1000 * i
  | .dir => 0xA20000 + 0x1000 * i
  | .port => if i < 16 then 0xA30000 + 0x1000 * i else far
  | .msec => if i < 16 then 0xA40000 + 0x1000 * i else far
  | .crsUnit => if i < 16 then 0xA50000 + 0x1000 * i else far
  | .crsModule => far
  | .clk => 0xA80000
  | .tal => 0xA81000
  | .upd => 0xA82000
  | .phsStep => 0xA83000
  | .ldg => 0xA84000
  | .lic => 0xA85000
  | .spy => 0xA86000
  | .sec => 0xA87000
  | .edge => 0xA88000
  | .pwr => 0xA89000
  | .part => 0xA8A000

/-- Does a row of registers hold an offset of its page? -/
def RegSpec.holds (r : RegSpec) (off : Nat) : Bool :=
  (List.range r.count2).any (fun j =>
    let o := r.first + r.stride2 * j
    decide (o ≤ off) && (off - o) % (max r.stride 1) == 0 && decide ((off - o) / (max r.stride 1) < r.count))

/-- The register at an offset of a block's page. -/
def Block.spec (b : Block) (off : Nat) : Option RegSpec := b.regs.find? (fun r => r.holds off)

/-- Reset value of a register where it differs from instance to instance (HBC.SPARES, PORT.CFG, PART.TBASEp, PART.TLIMp,
CORE.STATUS.KIND): the register tables state each. -/
def Page.resetAt (p : Page) (off : Nat) : Nat :=
  match p.block, off with
  | .hbc, 0x110 => (if p.inst < 8 then 10923 else 10922) * 2 ^ 18 + 0x10000
  | .port, 0x100 => if p.inst = 17 then 0 else 2 ^ 31
  | .part, 0x140 => 0
  | .part, 0x148 => 0x1FFFFFF | .part, 0x150 => 0x1FFFFFF | .part, 0x158 => 0x1FFFFFF
  | .part, 0x144 => 0x16FFFFF
  | .part, 0x14C => 0 | .part, 0x154 => 0 | .part, 0x15C => 0
  | _, 0x040 => 0x80000000
  | b, o => match b.spec o with | some r => r.reset | none => 0

/-- Core kind of a core number 0 to 6 (R379, coded as DONE_CORE of R170). -/
def coreKindCode (k : Nat) : Nat := if k < 2 then 1 else if k < 6 then 2 else 3

end Sys2Proof.Machine
end

