-- ==== Sys2Proof/Machine/State.lean ====
section
/-! DEFINITION. The state of the block: every register, queue, buffer, counter and mode the spec gives it, as plain data,
and the queue of commands that wait. -/

namespace Sys2Proof.Machine

/-! ### Cores -/

/-- States of a context (R80). -/
inductive CtxMode where
  | idle
  | running
  | halting
  | halted
  deriving DecidableEq, Repr

/-- Code of a context state in CORE.STATUS (R80). -/
def CtxMode.code : CtxMode → Nat
  | .idle => 0
  | .running => 1
  | .halting => 2
  | .halted => 3

/-- An entry of a data queue: 64 bytes, the first cycle in which it is poppable (R82), the source of an external push. -/
structure QItem where
  data : Entry
  visible : Nat
  src : Option Nat
  deriving DecidableEq, Repr

/-- A data queue (R81-R85): entries, slots reserved by pushes that have issued and not committed, the cycles from which
popped slots are free again, the EXT bit, the bound producer, and the credits it holds. -/
structure DataQueue where
  items : List QItem := []
  reserved : Nat := 0
  frees : List Nat := []
  ext : Bool := false
  bound : Option Nat := none
  credits : Nat := 32
  deriving DecidableEq, Repr

/-- The writes of one flag that take effect in one cycle (R88): the value before, the set that stands with its rank, the
sum of the adds. -/
structure FlagCycle where
  cycle : Nat
  before : Nat
  set : Option (Nat × Nat)
  add : Nat
  deriving DecidableEq, Repr

/-- A flag: its value at core reset or at the oldest kept write, and its kept writes, newest first (R86-R88). -/
structure FlagCell where
  base : Nat := 0
  hist : List FlagCycle := []
  deriving DecidableEq, Repr

/-- The three kinds of response to a JG.LD (R149), and the refusal of a register read (R394). -/
inductive LoadAns where
  | data (v : Nat)
  | poison
  | error
  | denied
  deriving DecidableEq, Repr

/-- A JG.LD that waits for its response (R149): held by a directory agent (R193), its response once a held load has been
served or its register read, its issue cycle. -/
structure LoadWait where
  reg : Nat
  addr : Nat
  word : Nat
  slot : Nat
  gap : Nat
  held : Bool := false
  got : Option LoadAns := none
  issued : Nat := 0
  deriving DecidableEq, Repr

/-- The open phase of a stream (R242, R244): layer, tick and cycle of its opening, opened during a replay. -/
structure OpenPhase where
  layer : Nat
  tick : Nat
  cycle : Nat
  replay : Bool
  deriving DecidableEq, Repr

/-- One stream of a context: word address, END issued, first cycle in which its next word may issue (R108), JG.LDs
outstanding, I registers, replay table (first word, last word if recorded), active replay (range, return point), the
ledger phase open on it; the layer and range of a layer repeat that waits for it, the layer whose
repeat range it runs, layers whose take point it has passed (R311, R312). -/
structure Stream where
  pc : Nat := 0
  ended : Bool := false
  readyAt : Nat := 0
  loads : List LoadWait := []
  iregs : SMap Word := []
  replay : SMap (Nat × Option Nat) := []
  active : Option (Nat × Nat) := none
  phase : Option OpenPhase := none
  repeatTo : Option (Nat × Nat) := none
  repeating : Option Nat := none
  passed : NSet := []
  deriving DecidableEq, Repr

/-- A pass context (R76). -/
structure Context where
  mode : CtxMode := .idle
  exe : Stream := {}
  acc : Stream := {}
  queues : SMap DataQueue := []
  layer : Nat := 0
  sregs : SMap Word64 := []
  vregs : SMap VReg := []
  mregs : SMap MReg := []
  repeats : Nat := 0
  recompute : Bool := false
  deriving DecidableEq, Repr

/-- What an operation in flight will do when it commits (R90). -/
inductive Effect where
  | ireg (n : Nat) (v : Word)
  | sreg (n : Nat) (v : Word64)
  | vreg (n val keep : Nat)
  | mreg (n val keep : Nat)
  | store (addr len val : Nat)
  | push (q : Nat) (data : Entry)
  | flagAdd (f n : Nat)
  | layer (n : Nat)
  | holder (x : Ctx)
  | done
  deriving DecidableEq, Repr

/-- A result in flight: the cycle at whose end it commits, its issue cycle, its context, stream, slot and word address. -/
structure Pend where
  due : Nat
  issued : Nat
  ctx : Ctx
  access : Bool
  slot : Nat
  word : Nat
  what : Effect
  deriving DecidableEq, Repr

/-- What a tile request of a Juggler stream context has received (R140, R141). -/
inductive TileReply where
  | data (bytes : List Host.Cell) (marks : NSet)
  | accepted
  | fault (kind : Nat)
  | refused (depth : Nat)
  deriving DecidableEq, Repr

/-- A tile request: sequence number, tile number, sent to memory or not (R133), taken by its home with the answer still to
come, reply if it has come with the cycle of its arrival, the cycle in which it was sent, and the bytes and marks of a
store-direction tile once the read port has read it (R139). -/
structure TileReq where
  seq : Nat
  tile : Nat
  sent : Bool
  taken : Bool
  reply : Option (Nat × TileReply)
  sentAt : Nat := 0
  out : Option (List Host.Cell × NSet) := none
  deriving DecidableEq, Repr

/-- A tile on its way through the fill port or the read port of a core (R139): stream context, sequence number in its run, first
cycle, KiB moved (a sidecar counts as one), and what the read port has read. -/
structure PortUse where
  sc : Nat
  seq : Nat
  start : Nat
  done : Nat := 0
  bytes : List Host.Cell := []
  marks : NSet := []
  deriving DecidableEq, Repr

/-- The descriptor of a Juggler stream context (R132, R134). -/
structure JgDesc where
  base : Nat := 0
  counts : List Nat := [1, 1, 1, 1]
  strides : List Int := [0, 0, 0, 0]
  store : Bool := false
  dkind : Nat := 0
  first : Nat := 0
  seg : Nat := 1
  flag : Nat := 0
  half0 : Nat := 0
  sidecar : Bool := false
  notify : Bool := false
  nq : Nat := 0
  deriving DecidableEq, Repr

/-- A Juggler stream context (R130-R146, R151): state code, owner, descriptor, the descriptor its run took, the restart
point (loop counters, position in the segment, half, tiles delivered), a swap or stop recorded, requests in flight, the
word and slot that started the segment and those of a pending swap, and the fault it waits on with the mover's answer
once it is on its way (true SERVICED); its run was started in a recomputation, and a pending swap was (R230); the first cycle
in which its next segment's requests may go out (R136). -/
structure StreamCtx where
  state : Nat := 0
  owner : Option Ctx := none
  desc : JgDesc := {}
  cur : JgDesc := {}
  ctrs : List Nat := [0, 0, 0, 0]
  pos : Nat := 0
  half : Nat := 0
  seq : Nat := 0
  swapPending : Bool := false
  held : Bool := false
  stopping : Bool := false
  reqs : List TileReq := []
  word : Nat := 0
  slot : Nat := 0
  swapWord : Nat := 0
  swapSlot : Nat := 0
  faultTick : Nat := 0
  faultOpen : Bool := false
  faultKind : Nat := 0
  recorded : Bool := false
  answer : Option Bool := none
  recompute : Bool := false
  swapRecompute : Bool := false
  sendFrom : Nat := 0
  deriving DecidableEq, Repr

/-- A write into an operand half, kept while a stage-1 read may still see what stood before it (R35, R45). -/
structure HalfWrite where
  cycle : Nat
  drain : Bool
  addr : Nat
  len : Nat
  before : List Host.Cell
  marks : NSet
  deriving DecidableEq, Repr

/-- A remote flag write on its way into a core (R87, R89): context, flag, add or set, operand. -/
structure FlagMsg where
  ctx : Ctx
  flag : Nat
  add : Bool
  operand : Nat
  deriving DecidableEq, Repr

/-- An external push on its way into a core (R84): context, queue, source, entry. -/
structure PushMsg where
  ctx : Ctx
  queue : Nat
  src : Nat
  data : Entry
  deriving DecidableEq, Repr

/-- A core (R76-R105): the core cycle reached, instruction store, contexts, flags, tile store or local store with its
poison marks by 128-byte line, the vector unit's or scalar ALU's holder, results in flight, Juggler stream contexts, the
first cycles in which the fill port and the read port are free, the tile in each (R139), the last cycle in which the fill port wrote and
the address of the KiB that it wrote then, writes to operand halves still in their window, messages on their way in, the
first cycle of the stall monitor's present count, cycles with a live stream waiting and with a stream context in FAULT_WAIT. -/
structure Core where
  now : Nat := 0
  istore : List Host.Cell := []
  ctxF : Context := {}
  ctxB : Context := {}
  ctxU : Context := {}
  flags : SMap FlagCell := []
  store : List Host.Cell := []
  marks : NSet := []
  holder : Ctx := .f
  pend : List Pend := []
  scs : SMap StreamCtx := []
  portFree : Nat := 0
  readFree : Nat := 0
  filling : Option PortUse := none
  reading : Option PortUse := none
  lastFill : Option (Nat × Nat) := none
  halfLog : List HalfWrite := []
  flagsIn : List FlagMsg := []
  pushIn : List PushMsg := []
  lastIssue : Nat := 0
  waitCycles : Nat := 0
  faultCycles : Nat := 0
  deriving DecidableEq, Repr

/-! ### Outer-product engines -/

/-- SPECIAL of a cell (R62). -/
inductive Special where
  | none
  | pinf
  | ninf
  | nan
  deriving DecidableEq, Repr

/-- A cell of a bank: 48-bit VALUE and SPECIAL (R62). -/
structure Cell where
  value : BitVec 48 := 0
  special : Special := .none
  deriving DecidableEq, Repr

/-- A rounding key (R62). -/
structure RoundKey where
  seed : Word64 := 0
  layer : Nat := 0
  tileRow : Nat := 0
  tileCol : Nat := 0
  deriving DecidableEq, Repr

/-- A bank (R62): cells keyed by 256·row + column (an unlisted cell is zero), ACS, rounding key, product counter, and the
class of the sweep operation that last cleared it (R124). -/
structure Bank where
  cells : SMap Cell := []
  acs : BitVec 10 := 0
  key : RoundKey := {}
  n : Nat := 0
  cls : Nat := 0
  deriving DecidableEq, Repr

/-- A sweep operation in flight (R29): its slot's raw bits, issue cycle, context, word, layer, class, and the ACS, key and
first product number that it took; the next rank update to accumulate; stopped by poison or parity at a rank update (R101). -/
structure Sweep where
  raw : Nat
  start : Nat
  ctx : Ctx
  word : Nat
  layer : Nat
  cls : Nat
  acs : BitVec 10
  key : RoundKey
  n0 : Nat
  next : Nat := 0
  stopped : Option Nat := none
  deriving DecidableEq, Repr

/-- A drain in flight (R41): its slot's raw bits, issue cycle, context, layer, the ACS it took, the leaving rows keyed by
256·original row + column for each bank, the next row to write in drain order, its bank's rounding key, and its word. -/
structure Drain where
  raw : Nat
  start : Nat
  ctx : Ctx
  layer : Nat
  acs : BitVec 10
  front : SMap Cell
  back : SMap Cell
  next : Nat := 0
  key : RoundKey := {}
  word : Nat := 0
  deriving DecidableEq, Repr

/-- An outer-product engine with its drain unit; the last drain that finished, its word and its issue cycle, whose rows may still be in
the return path; the value that OPE.SR_SEED had before the last cycle that wrote it, with that cycle (R66); how many rank updates were
issued and not yet accumulated when their counter was last cleared (R52). -/
structure Ope where
  holder : Ctx := .f
  front : Bank := {}
  back : Bank := {}
  sweeps : List Sweep := []
  drains : List Drain := []
  lastDrain : Option (Nat × Nat) := none
  sweepFree : Nat := 0
  drainFree : Nat := 0
  lastClass : Nat := 0
  coordRow : Nat := 0
  coordCol : Nat := 0
  seedWas : Option (Nat × Word64) := none
  cleared : Nat := 0
  deriving DecidableEq, Repr

/-! ### Memory -/

/-- An addition made in memory (R204): requester, format, offset in the data window, length, the operand's bytes from 0 up, its
poisoned 32-byte sectors from 0 up. -/
structure Atomic where
  who : Requester
  fmt : Nat
  addr : Nat
  len : Nat
  bytes : List Host.Cell
  marks : NSet
  deriving DecidableEq, Repr

/-- A tag (R248). -/
structure Tag where
  step : Nat
  bucket : Nat
  slice : Nat
  deriving DecidableEq, Repr

/-- A unit that waits for the outcome of its own accesses to device memory: a Talel context, a cluster's row engine, the training
units. -/
inductive UnitKey where
  | talel (ctx : Nat)
  | row (cluster : Nat)
  | train
  deriving DecidableEq, Repr

/-- Who learns what became of a write: a unit that waits for it, a ledger ring of a cluster (R243), a cluster's numerics log (R315), the
core and context of a JG.ST (R199), an admitted parameter slice (R237). -/
inductive Origin where
  | unit (key : UnitKey)
  | ledger (cluster ring : Nat)
  | numerics (cluster : Nat)
  | jgSt (core : Nat) (ctx : Ctx)
  | params (tag : Tag)
  deriving DecidableEq, Repr

/-- A store on its way to a Stash (R198): a store-direction tile of a stream context with its bytes, or bytes of another requester. -/
inductive StashOp where
  | tile (core sc seq at_ : Nat) (side : Bool) (bytes : List Host.Cell) (marks : NSet)
  | bytes (who : Option Origin) (side : Bool) (off len val : Nat) (bad : Bool)
  deriving DecidableEq, Repr

/-- A Stash store with its depth. -/
structure StashReq where
  depth : Nat
  op : StashOp
  deriving DecidableEq, Repr

/-- An access that a directory agent holds (R193, R198): a write, an atomic, the atomic of a Talel fetch-add, a core's load, a unit's
read, a load-direction tile of a stream context with the cycle of its arrival, a store to a Stash. -/
inductive HeldOp where
  | write (addr len val : Nat) (bad : Bool) (who : Option Origin)
  | atomic (a : Atomic)
  | fetchAdd (ctx : Nat) (a : Atomic)
  | load (core : Nat) (ctx : Ctx)
  | read (key : UnitKey) (addr len : Nat)
  | fetch (core sc seq at_ : Nat) (side : Bool)
  | store (r : StashReq)
  deriving DecidableEq, Repr

/-- The outcome of a unit's access that its agent has served: address, length, what was read. -/
structure Served where
  key : UnitKey
  addr : Nat
  len : Nat
  ans : LoadAns
  deriving DecidableEq, Repr

/-- A held access: agent (0-11 a stack, 12 + c the STK unit of cluster c), tile, access. -/
structure Held where
  agent : Nat
  tile : Nat
  op : HeldOp
  deriving DecidableEq, Repr

/-- Who makes a move: a cluster's mover for a JG.MOVE request, a directory agent, a cluster's STK unit (R193, R200, R205,
R220). -/
inductive MoveBy where
  | mover (cluster req : Nat)
  | reloc (stack spare : Nat)
  | atomic (stack : Nat)
  | stk (cluster : Nat)
  deriving DecidableEq, Repr

/-- A move in progress (R193): tile, who makes it, destination tier, cluster and frame, granted and copied. -/
structure Move where
  tile : Nat
  by_ : MoveBy
  tier : Nat
  cluster : Nat
  frame : Nat
  granted : Bool := false
  deriving DecidableEq, Repr

/-- A JG.MOVE request at a mover (R194): number, requesting core and context, flag, next tile, tiles without an outcome,
tier, moves not yet committed. -/
structure MoveReq where
  num : Nat
  core : Nat
  ctx : Ctx
  flag : Nat
  tile : Nat
  left : Nat
  tier : Nat
  moving : Nat := 0
  deriving DecidableEq, Repr

/-- A mover: its requests in order, the number of its next request. -/
structure Mover where
  reqs : List MoveReq := []
  next : Nat := 0
  deriving DecidableEq, Repr

/-- The Stash of a cluster (R197): TOP, PHASE (true POP), lent tiles whose homes have been taken away (R202), stores that
have been posted and not accepted. -/
structure Stash where
  top : Nat := 0
  pop : Bool := false
  taken : Nat := 0
  inbox : List StashReq := []
  deriving DecidableEq, Repr

/-! ### HBM stacks -/

/-- The lanes of a channel (R221, R222): failed data-and-check lanes in order, failed command lanes, lost. -/
structure Channel where
  failed : List Nat := []
  command : Nat := 0
  lost : Bool := false
  deriving DecidableEq, Repr

/-- The controller and PHY of a stack (R217-R222). Rows are named ((channel·2 + pseudo)·64 + bank)·16384 + row. The
row-watch table, latest first; the spare rows each row has been pointed at; spare rows used of each bank; rows due for
remap and for retirement; retire notices not yet accepted and relocations in order, each a tile and its retired frame; scrub position and the tick of its
last read; passes; sectors with errors confined to a lane in this pass; channels; lanes declared failed and not yet
repaired; channels found lost; stack lost. -/
structure Stack where
  watch : List (Nat × Nat) := []
  rows : SMap (List Nat) := []
  spares : SMap Nat := []
  remaps : List Nat := []
  retires : List Nat := []
  notices : List (Nat × Nat) := []
  relocs : List (Nat × Nat) := []
  scrub : Nat := 0
  scrubTick : Nat := 0
  passes : Nat := 0
  laneHits : SMap Nat := []
  channels : SMap Channel := []
  laneFails : List (Nat × Nat) := []
  lostChans : List Nat := []
  lost : Bool := false
  deriving DecidableEq, Repr

/-- The repair and retire maps (R218, R219, R221): spare rows of remapped rows and channels by stack (rows keyed
2^28·stack + row, channels 32·stack + channel), spare rows used of each bank (8,192·stack + bank), retired frames, spare
frames used, and the spare frame of each remapped tile. -/
structure RepairMap where
  rows : SMap (List Nat) := []
  spares : SMap Nat := []
  channels : SMap Channel := []
  retired : NSet := []
  spareUsed : NSet := []
  tiles : SMap Nat := []
  deriving DecidableEq, Repr

/-- An event on its way to the unit history ledger (R317). -/
structure LedgerMsg where
  unit : Nat
  kind : Nat
  locus : Nat
  deriving DecidableEq, Repr

/-- A shared-structure trigger that has arisen and not been taken (R403): cause code; partition 0 to 3, 4 for a warm reset,
5 for none; cluster. -/
structure SharedTrig where
  cause : Nat
  target : Nat
  cluster : Nat
  deriving DecidableEq, Repr

/-- Memory: the bytes of HBM and, above 2^40, of the pools' frames; poisoned 32-byte sectors; directory entries that differ
from what firmware's initialisation gives, once that is done; pool frames by 512·cluster + frame with the tile they hold;
held accesses, accesses that wait behind 256 held ones and outcomes that units have not taken; moves; movers and Stashes by cluster; atomics sent and
accepted; stacks; spare frames allocated, frames retired (natural frame t as t, spare k as 2^25 + k), tiles left in a
retired frame; poison notices, ledger events and shared-structure triggers on their way; every HBM access poisoned
(R445); the maps in flash, and the tick of the first change not yet in them. -/
structure Memory where
  dram : List Host.Cell := []
  poison : NSet := []
  dir : SMap Word64 := []
  dirInit : Bool := false
  frames : SMap Nat := []
  held : List Held := []
  waiting : List Held := []
  served : List Served := []
  moves : List Move := []
  movers : SMap Mover := []
  stashes : SMap Stash := []
  atomicsIn : List Atomic := []
  atomics : List Atomic := []
  hbm : SMap Stack := []
  spareUsed : NSet := []
  retired : NSet := []
  inPlace : NSet := []
  poisonNotices : List Nat := []
  ledgerIn : List LedgerMsg := []
  shared : List SharedTrig := []
  allPoison : Bool := false
  repairFlash : RepairMap := {}
  repairSince : Option Nat := none
  deriving DecidableEq, Repr

/-- The canonical form of the memory: addresses strictly rising, no listed byte equal to what an unlisted one reads as. -/
abbrev Memory.wf (m : Memory) : Prop := Mem.wf m.dram

/-! ### Row engines and numerics triggers -/

/-- A kick in a row engine's queue (R169): port, descriptor number, first row, rows. -/
structure RowKick where
  port : Nat
  desc : Nat
  row0 : Nat
  count : Nat
  deriving DecidableEq, Repr

/-- The kick a row engine runs (R170): its descriptor's 1,024 bits, γ and β as FP32, poison among them, rows done. -/
structure RowRun where
  kick : RowKick
  raw : Nat
  gamma : List Nat := []
  beta : List Nat := []
  bad : Bool := false
  done : Nat := 0
  deriving DecidableEq, Repr

/-- A row engine with its side memory (R167-R185): queue, running kick, side-memory words and the poisoned ones among them,
high half of the last snapshot. -/
structure RowEngine where
  queue : List RowKick := []
  run : Option RowRun := none
  side : SMap Word64 := []
  marks : NSet := []
  high : Word := 0
  deriving DecidableEq, Repr

/-- A numerics trigger on its way (R311, R315): log kind, core, context, layer, TILE, WHERE, ULPS of its record. -/
structure NumTrig where
  kind : Nat
  core : Nat
  ctx : Ctx
  layer : Nat
  tile : Nat
  at_ : Nat
  ulps : Nat
  deriving DecidableEq, Repr

/-! ### Carousel -/

/-- A hand (R253): GATHER or HAND, first source tile, destination field, completion flag with context code, core and cluster,
tag, next segment to quantise. -/
structure Hand where
  gather : Bool
  tile : Nat
  dest : Nat
  flag : Nat
  ctx : Nat
  core : Nat
  cluster : Nat
  tag : Tag
  seg : Nat := 0
  deriving DecidableEq, Repr

/-- An input of a slot (R260): port, 31 for this module's own, with what its frame says. -/
structure SlotIn where
  port : Nat
  count : Nat
  sat : Bool
  voidSeen : Bool
  e : Nat
  empty : Bool
  data : Nat
  deriving DecidableEq, Repr

/-- A combine slot (R260): tag, segment, tick of its opening, inputs present in their order. -/
structure Slot where
  tag : Tag
  seg : Nat
  since : Nat
  ins : List SlotIn
  deriving DecidableEq, Repr

/-- A closed segment of a root (R265, R267). -/
structure RootSeg where
  count : Nat
  data : Nat
  sat : Bool
  voidSeen : Bool
  deriving DecidableEq, Repr

/-- A slice at its root (R265): tag, tick of its first input, inputs of its open segments, closed segments, deadline past. -/
structure RootSlice where
  tag : Tag
  since : Nat
  opened : SMap (List SlotIn) := []
  done : SMap RootSeg := []
  deadline : Bool := false
  deriving DecidableEq, Repr

/-- A contributor to a thinned tag (R270): identity, excluded, segments by 128·slice + segment, its slot once complete. -/
structure Contributor where
  ident : Nat
  out : Bool := false
  segs : SMap Nat := []
  sats : NSet := []
  slot : Option Nat := none
  deriving DecidableEq, Repr

/-- A thinned tag at its root (R270): step, bucket, tick of its opening, contributors, slots filled, deadline past, a void frame seen
(R271). -/
structure ThinTag where
  step : Nat
  bucket : Nat
  since : Nat
  contribs : List Contributor := []
  filled : Nat := 0
  deadline : Bool := false
  voidSeen : Bool := false
  deriving DecidableEq, Repr

/-- What tells a carousel frame from others (R258): kind, tag, segment, contributor. -/
structure CrsKey where
  kind : Nat
  tag : Tag
  seg : Nat
  contrib : Nat
  deriving DecidableEq, Repr

/-- A segment in a multicast buffer (R274, R275): frame, children for which it waits. -/
structure McSeg where
  frame : CrsFrame
  children : NSet
  deriving DecidableEq, Repr

/-- A parameter slice in collection (R274): tag, E, lines of its segments. -/
structure Partial where
  tag : Tag
  e : Nat
  segs : SMap Nat
  deriving DecidableEq, Repr

/-- A carousel unit (R260-R276): open slots, oldest first; keys closed, latest first; slots forwarded and not yet
acknowledged; slices and thinned tags of its roots; tags handed to it; multicast buffer; slices in collection; outgoing
factor and parameter frames stomped (R356) as child and frame. -/
structure CrsUnit where
  slots : List Slot := []
  closed : List (Tag × Nat) := []
  kept : List Slot := []
  roots : List RootSlice := []
  thin : List ThinTag := []
  handed : List Tag := []
  mc : List McSeg := []
  parts : List Partial := []
  stomped : List (Nat × CrsKey) := []
  deriving DecidableEq, Repr

/-- A scheduled pull or gather (R277, R278): tag, the hand of a gather, the tick from which it is
tried again. -/
structure PullReq where
  tag : Tag
  hand : Option Hand
  retry : Option Nat := none
  deriving DecidableEq, Repr

/-- The carousel (R248-R280): bucket-table words by bank·16,384 + bucket·4 + word; hand queue; steps and buckets whose own
thinned contribution is void; units; pulls and gathers; tags of records closed and not handed over, with their thinned
counts; slices to multicast; multicast credits of each child (a port, or 32 + u for the local delivery of unit u), the tick at which a
child's ran out, credits returned to the node of each port; children pruned for a step; steps from which ports are absent (R426); the
latest 16 void segments entered in the log, as tag, segment and CONTRIB_ID (R256); by 1,024·bucket + slice the step and the segments of
the latest parameter headers received in shard mode (R278). -/
structure Carousel where
  banks : SMap Word64 := []
  hands : List Hand := []
  voids : List (Nat × Nat) := []
  units : SMap CrsUnit := []
  pulls : List PullReq := []
  records : List (Tag × Option Nat) := []
  multicast : List (Tag × Nat) := []
  credit : SMap Nat := []
  dry : SMap Nat := []
  returned : SMap Nat := []
  pruned : List (Nat × Nat) := []
  absent : SMap Nat := []
  voidLog : List (Tag × Nat × Nat) := []
  headers : SMap (Nat × NSet) := []
  deriving DecidableEq, Repr

/-! ### Step unit -/

/-- A commit on its way to the step unit (R237): tag and layer, bucket and slice of the committed slice. -/
structure Commit where
  step : Nat
  layer : Nat
  bucket : Nat
  slice : Nat
  deriving DecidableEq, Repr

/-- An admitted slice on its way home (R237): its commit, pieces of it that no home has answered yet, whether one was refused, the rule
of a slice of the update unit. -/
structure Homing where
  commit : Commit
  left : Nat
  refused : Bool := false
  rule : Option Nat := none
  deriving DecidableEq, Repr

/-- A path that asks for admission (R236): a multicast slice collected by a unit, a pulled slice with its bytes and scale, a
slice in progress of the update unit. -/
inductive AskPath where
  | multicast (unit : Nat) (part : Partial)
  | pull (tag : Tag) (data e : Nat)
  | update (n : Nat)
  deriving DecidableEq, Repr

/-- A request for admission: tag, layer, slice of the layer, path. -/
structure Ask where
  step : Nat
  layer : Nat
  idx : Nat
  path : AskPath
  deriving DecidableEq, Repr

/-- The step unit (R235-R239): layer entries, arrival bitmaps as numbers, admission requests, admitted slices on their way home,
commits on their way, and frontier adds not yet injected with their core and operand. -/
structure StepUnit where
  entries : SMap Word64 := []
  bitmaps : SMap Nat := []
  asks : List Ask := []
  homing : List Homing := []
  commits : List Commit := []
  sends : List (Nat × Nat) := []
  deriving DecidableEq, Repr

/-! ### Update unit -/

/-- Where a slice's gradient stands (R284-R286): a closed record, FP32 source tiles with their divisor, nowhere (an empty
slice). -/
inductive UpdSrc where
  | record
  | tiles (tile div : Nat)
  | empty
  deriving DecidableEq, Repr

/-- A batch (R295): token, core, slot, row, half, tick of its push; which of its elements are present, and the old w, s1 and s2 that its
slot was written with; given HOLD at its limit. -/
structure Batch where
  token : Nat
  core : Nat
  slot : Nat
  row : Nat
  half : Nat
  since : Nat
  present : List Bool
  old : List (Nat × Nat × Nat)
  late : Bool := false
  deriving DecidableEq, Repr

/-- A slice in progress (R299): tag, source, layer, its layer entry's words, η, rule (0 to 4 as R282 codes them), admitted, tick from
which it asks again; lines passed, next batch as 2·row + half, batches done, w′ of 32 columns by 32·row + column block, sent home. -/
structure UpdSlice where
  tag : Tag
  src : UpdSrc
  layer : Nat
  words : List Nat
  eta : Nat
  rule : Nat
  admitted : Bool := false
  retry : Option Nat := none
  line : Nat := 0
  batch : Nat := 0
  finished : Nat := 0
  out : SMap Nat := []
  written : Bool := false
  deriving DecidableEq, Repr

/-- The update unit (R282-R299): layer-table words by 8·layer + word, input queue, slices in progress by number 0 to 7,
outstanding batches with their slices, next token, the next vector core of each cluster; slices of thinned records that the rebuild
has not handed in yet (R285). -/
structure Update where
  table : SMap Word64 := []
  queue : List (Tag × UpdSrc) := []
  slices : SMap UpdSlice := []
  batches : List (Nat × Batch) := []
  token : Nat := 0
  turns : SMap Nat := []
  rebuilds : List Tag := []
  deriving DecidableEq, Repr

/-! ### Ports and Talel -/

/-- A Talel message in a port's receive buffer (R343): source address, CE mark, priority, bytes of its frame. -/
structure RxMsg where
  peer : Nat
  ce : Bool
  prio : Nat
  size : Nat
  msg : Msg
  deriving DecidableEq, Repr

/-- A port (R340-R343): receive buffer, changes of received PFC frames that have not acted, priorities it has paused,
messages that wait for the link or for a paused priority, installed security associations by 4·direction + number as key,
salt and SSCI in one number, next packet number of each, and the tick from which its contexts wait for the reserve port
(R444). -/
structure Port where
  rx : List RxMsg := []
  pfcIn : List (Nat × Bool) := []
  pausing : NSet := []
  txq : List Msg := []
  keys : SMap Nat := []
  pns : SMap Nat := []
  sparing : Option Nat := none
  deriving DecidableEq, Repr

/-- An unacknowledged message (R352): tick of its last transmission, retransmissions, fast retransmitted since its last
timer retransmission. -/
structure Unacked where
  msg : Msg
  since : Nat
  tries : Nat := 0
  fast : Bool := false
  deriving DecidableEq, Repr

/-- A Talel context (R346-R353). State 0 FREE, 1 OPEN, 2 CLOSING, 3 FAILED; kind, port, partition, peer address and context,
the initial PSNs of both ends. Receiving: next PSN expected, PSNs received above it, ordered messages that wait behind a
gap, messages that have taken their turn and not yet acted, carousel messages accepted that their unit has not taken, PSNs of those
that it has taken before their end (R264, R350), messages accepted since the last acknowledgement with the tick of the first, ECE due. Sending: next PSN, unacknowledged messages, messages that wait for the window, RTO, CWND, messages
acknowledged towards its rise and to go until it may be halved again. -/
structure TalCtx where
  st : Nat := 0
  kind : Nat := 0
  port : Nat := 0
  part : Nat := 0
  peer : Nat := 0
  peerCtx : Nat := 0
  peerPsn : Nat := 0
  myPsn : Nat := 0
  rxNext : Nat := 0
  above : NSet := []
  ahead : List Msg := []
  ready : List Msg := []
  toUnit : List Msg := []
  early : NSet := []
  unanswered : Nat := 0
  firstAt : Option Nat := none
  eceDue : Bool := false
  txNext : Nat := 0
  unacked : List Unacked := []
  queue : List Msg := []
  rto : Nat := 0
  cwnd : Nat := 0
  rise : Nat := 0
  halve : Nat := 0
  deriving DecidableEq, Repr

/-- The MACsec protection of a sent frame (R342): association, packet number, its key with salt and SSCI if one is installed. -/
structure SentTag where
  an : Nat
  pn : Nat
  key : Option Nat
  deriving DecidableEq, Repr

/-- The datagram that carries a sent message (R340, R344, R345): PCP of its tag, DSCP, ECN field, source UDP port, whether its checksum
is computed (0 otherwise); the frame's protection; whether it ended with an invalid FCS (R356). -/
structure Datagram where
  pcp : Nat
  dscp : Nat
  ecn : Nat
  srcPort : Nat
  checksum : Bool
  sec : Option SentTag
  stomped : Bool := false
  deriving DecidableEq, Repr

/-- What a port has sent: a Talel message, a PFC change, a reply of the port itself (0 ARP to 3 ICMPv6 echo), with its protection; or an
EAPOL frame handed to firmware (R340). -/
inductive Sent where
  | talel (port : Nat) (msg : Msg) (d : Datagram)
  | pfc (port prio : Nat) (pause : Bool) (sec : Option SentTag)
  | reply (port kind : Nat) (sec : Option SentTag)
  | eapol (port data : Nat)
  deriving DecidableEq, Repr

/-- Ports, Talel contexts, and what has left the ports, newest first. -/
structure Network where
  ports : SMap Port := []
  ctxs : SMap TalCtx := []
  wire : List Sent := []
  deriving DecidableEq, Repr

/-! ### Mirror and Loupe checks, unit history ledger -/

/-- An entry of a mirror queue (R303): a rank update of a sweep operation with the codes and block scales of its A and B
vectors, one list for each vector index, each element as 256·code + scale. -/
structure MirrorEntry where
  sweep : Sweep
  update : Nat
  a : List (List Nat)
  b : List (List Nat)
  deriving DecidableEq, Repr

/-- A Mirror sample of a source core (R303, R304): its bank (false front), issue cycle of its CLEAR, context, rounding key,
mirror queue, mirror bank, cycle of the duplicate's last rank update, signatures of drained rows, and the issue cycle and
tick of the source drain. -/
structure MirrorSample where
  back : Bool
  start : Nat
  ctx : Ctx
  key : RoundKey
  queue : List MirrorEntry := []
  cells : SMap Cell := []
  last : Nat := 0
  sigs : SMap Nat := []
  drain : Option (Nat × Nat) := none
  deriving DecidableEq, Repr

/-- What a drain tapped of a watched cell (R309): VALUE, SPECIAL, block scale. -/
structure Tap where
  value : Int
  special : Special
  scale : Nat
  deriving DecidableEq, Repr

/-- The exact sum of a watched cell (R308): its 640-bit accumulator in units of 2^-300, and its class. -/
structure ExactSum where
  value : Int := 0
  special : Special := .none
  deriving DecidableEq, Repr

/-- A Loupe sample (R307-R309): code of its bank as MX.DRAIN names it, issue cycle of its CLEAR, context, layer mark, rounding
key, h, exact sums by cell, issue cycle of its drain with the drain's raw bits and ACS, taps by cell, rows drained. -/
structure LoupeSample where
  bank : Nat
  start : Nat
  ctx : Ctx
  layer : Nat
  key : RoundKey
  h : Nat
  sums : SMap ExactSum := []
  drain : Option (Nat × Nat × BitVec 10) := none
  taps : SMap Tap := []
  rows : Nat := 0
  deriving DecidableEq, Repr

/-- The checks (R302-R310): Mirror samples by 2·cluster + source; Loupe samples by 2·cluster + matrix core, oldest first;
each cluster's capture queue, oldest first, an entry by its matrix core's key and its sample's start. -/
structure Numerics where
  mirrors : SMap MirrorSample := []
  loupes : SMap (List LoupeSample) := []
  capture : SMap (List (Nat × Nat)) := []
  deriving DecidableEq, Repr

/-- A record of the unit history ledger (R316): unit, class (0 HEALTHY to 4 RETIRED), last event kind, events, powered seconds
of window-counted events newest first, locus. -/
structure LedgerRec where
  unit : Nat
  cls : Nat
  lastKind : Nat := 0
  events : Nat := 0
  times : List Nat := []
  locus : Nat := 0
  deriving DecidableEq, Repr

/-- The unit history ledger (R316-R319): records by index, indices changed and not yet in flash, newest change first; the
records and powered seconds in flash; powered seconds when the engine started and the tick at which it did; the tick of the
first change not in flash; records that the last tail write lost. -/
structure Ledger where
  recs : SMap LedgerRec := []
  dirty : List Nat := []
  flash : SMap LedgerRec := []
  flashPowered : Nat := 0
  powered : Nat := 0
  since : Nat := 0
  dirtySince : Option Nat := none
  lostTail : Nat := 0
  deriving DecidableEq, Repr

/-! ### Fabric and clocks -/

/-- A packet in a router's input (R326, R332): input port, header, cycle from which it has been at the head of its queue. -/
structure MeshEntry where
  port : Nat
  pkt : Packet
  since : Option Nat := none
  deriving DecidableEq, Repr

/-- A router (R323, R332): packets in its inputs in order of arrival, cycle of each output's last grant, input last granted
by 16·output + level, cycle of each local interface's last control packet. -/
structure Router where
  inputs : List MeshEntry := []
  granted : SMap Nat := []
  turn : SMap Nat := []
  control : SMap Nat := []
  deriving DecidableEq, Repr

/-- A clock domain (R333, R336): state code of CLK.DSTAT, present frequency in MHz, requested frequency, frequency to which it
relocks, lost lock. -/
structure Clock where
  st : Nat := 0
  mhz : Option Nat := none
  want : Option Nat := none
  next : Option Nat := none
  unlocked : Bool := false
  deriving DecidableEq, Repr

/-- The fabric (R323-R337): routers by site; route table by (48·router + destination)·2 + lane; site of each logical cluster
that is not at its own number; dead sites; router of each edge unit that is not at its nominal one (R325); packets in stitch
bridges by 4·receiving router + input and in crossings into each domain, with receiving edges since their commit (R324, R334);
packets that have become usable, newest first, with their domains; error responses sent, newest first; latest cycle of each mesh
field; clock domains; the epoch copies of target interfaces by 4·domain + partition. -/
structure Fabric where
  routers : SMap Router := []
  routes : SMap Nat := []
  sites : SMap Nat := []
  dead : NSet := []
  attach : SMap Nat := []
  bridges : SMap (List (Packet × Nat)) := []
  crossings : SMap (List (Packet × Nat)) := []
  usable : List (Nat × Packet) := []
  cycles : SMap Nat := []
  answers : List Word64 := []
  clocks : SMap Clock := []
  epochs : SMap Nat := []
  deriving DecidableEq, Repr

/-! ### Interrupts and mailboxes -/

/-- A small interrupt controller (R362, R363): software sources set, active sources, next sequence number. -/
structure Sic where
  soft : NSet := []
  active : NSet := []
  seq : Nat := 0
  deriving DecidableEq, Repr

/-- A target of the large interrupt controller (R365-R370): stack of sources with the PRIO of their claim, top first; HELD and
the tick at which it left 0; sources counted as eligible; a delivery due by TICKS. -/
structure LicTarget where
  stack : List (Nat × Nat) := []
  held : Nat := 0
  heldAt : Nat := 0
  seen : NSet := []
  expired : Bool := false
  deriving DecidableEq, Repr

/-- Interrupts and mailboxes (R360-R375): bases of the pages whose line is asserted at its controller; SICs; source
configuration of the LIC as 256·TARGET + PRIO; edges pending; active sources with their targets; targets; the host has had a
doorbell that it has not answered; Ringmaster cores idle; messages of each channel, head first. -/
structure Irq where
  lines : NSet := []
  sics : SMap Sic := []
  cfg : SMap Nat := []
  edges : NSet := []
  active : SMap Nat := []
  targets : SMap LicTarget := []
  hostTold : Bool := false
  rmIdle : NSet := []
  boxes : SMap (List Nat) := []
  deriving DecidableEq, Repr

/-! ### Containment -/

/-- A reset or kill in progress: tick of its start, its DRAIN ended by expiry (R399, R404, R411). -/
structure Draining where
  since : Nat
  expired : Bool := false
  deriving DecidableEq, Repr

/-- Containment (R399-R411): the kill in progress (partition, job, tick), kills that firmware has still to make (R426, R445), partition resets in progress, a warm reset in
progress, the alarm class from which it came. -/
structure Contain where
  kill : Option (Nat × Nat × Nat) := none
  kills : List (Nat × Nat) := []
  resets : SMap Draining := []
  warm : Option Draining := none
  warmClass : Nat := 0
  deriving DecidableEq, Repr

/-! ### Security, service edge, flash, power -/

/-- A firmware image (R415): its bytes as a number, and how many. -/
structure Image where
  len : Nat
  data : Nat
  deriving DecidableEq, Repr

/-- The module's flash (R415-R417, R443): slots A and B; preferred slot; SVN floor and its tag; root key; hash of the
enrolled owner's key; identity blob, helper data, length and bytes of the device certificate; boots; admin partition; spare
Ringmaster core in use; alarm records of tail writes (source, class, tick). -/
structure Flash where
  slotA : Option Image := none
  slotB : Option Image := none
  preferred : Nat := 0
  floor : Nat := 0
  floorTag : Nat := 0
  rootKey : Nat := 0
  owner : Option Nat := none
  blob : Option Nat := none
  helper : Nat := 0
  cert : Nat × Nat := (0, 0)
  boots : Nat := 0
  admin : Nat := 0
  rmSpare : Bool := false
  alarms : List (Nat × Nat × Nat) := []
  deriving DecidableEq, Repr

/-- An MGT or service operation in progress (R418): Talel context (none the service port), TAG, operation, chunks received,
chunks − 1, data gathered and their length, complete. -/
structure MgtOp where
  ctx : Option Nat
  tag : Nat
  op : Nat
  chunks : Nat
  last : Nat
  data : Nat
  len : Nat
  complete : Bool
  deriving DecidableEq, Repr

/-- A Periscope session (R429, R430): privilege mask, tick of its last frame. -/
structure Session where
  mask : Nat
  last : Nat
  deriving DecidableEq, Repr

/-- The security monitor and the service edge (R415-R430): identity key while provisioned; the wrapping key; the running image
with its slot, FALLBACK; RECOVERY; boot verified since the last reset; identity derived in this power-on; class and source of the
last alarm; this press of the button has made its request; firmware version written to every page; alarms that have arisen (source, class, tick); an alarm
held; a Periscope session; the start of the refusal of OPEN; operations of Talel and of the service port; frames sent by the service port,
newest first; removal state code and the tick of its start; tick of the button's press; latch open; VBUS; a tail write due. -/
structure Security where
  identity : Option Nat := none
  wrapKey : Nat := 0
  running : Option Image := none
  slot : Nat := 0
  fallback : Bool := false
  recovery : Bool := false
  verified : Bool := false
  derived : Bool := false
  lastAlarm : Nat × Nat := (0, 0)
  asked : Bool := false
  fwVer : Nat := 0
  alarms : List (Nat × Nat × Nat) := []
  held : Bool := false
  session : Option Session := none
  lockout : Option Nat := none
  mgt : Option MgtOp := none
  svc : Option MgtOp := none
  sent : List SvcFrame := []
  removal : Nat := 0
  removalAt : Nat := 0
  button : Option Nat := none
  latch : Bool := false
  vbus : Bool := false
  tailDue : Bool := false
  deriving DecidableEq, Repr

/-- Power (R433-R446): power enable high; bring-up's work done; power enable known low; input good; rails of R434 only; input below 36 V; tick of power-good and
of the stage's entry; steps of 5% by which core clocks are capped, milliseconds below the restoring bounds, cap and thermal
cap applied; phases disabled and brought in by rail; phases due for replacement by ledger index; Ringmaster cores PERMANENT;
clusters due for promotion; the failed port whose contexts wait for P16; groups asleep, and the tick at which a waking group
began to. -/
structure Power where
  enable : Bool := false
  upDone : Bool := false
  low : Bool := false
  inputOk : Bool := false
  off : Bool := false
  dark : Bool := false
  goodAt : Nat := 0
  stageAt : Nat := 0
  steps : Nat := 0
  calm : Nat := 0
  capping : Bool := false
  thermal : Bool := false
  spared : SMap Nat := []
  phaseDue : List Nat := []
  rmFailed : NSet := []
  siteDue : List Nat := []
  noReserve : Bool := false
  portDown : Option Nat := none
  asleep : NSet := []
  waking : SMap Nat := []
  deriving DecidableEq, Repr

/-! ### The whole block -/

/-- The error log of a page (R390, R391): sequence numbers, ring entries by position, ERRCOUNT. -/
structure ErrLog where
  writeSeq : Nat := 0
  readSeq : Nat := 0
  ring : SMap Word := []
  count : Nat := 0
  deriving DecidableEq, Repr

/-- The state of the block. Registers are keyed by window offset, counters and snapshots by page base and selection or
requester class; an unlisted key holds its reset value. `retireDue` holds causes of retirement that have arisen (R445). -/
structure State where
  pending : List Instr := []
  tick : Nat := 0
  fresh : Nat := 0
  regs : SMap Word := []
  staged : SMap Word := []
  counters : SMap Nat := []
  logs : SMap ErrLog := []
  snaps : SMap Word := []
  cores : SMap Core := []
  opes : SMap Ope := []
  mem : Memory := {}
  retireDue : List Nat := []
  rowEngines : SMap RowEngine := []
  numIn : List NumTrig := []
  step : StepUnit := {}
  net : Network := {}
  crs : Carousel := {}
  upd : Update := {}
  num : Numerics := {}
  ledger : Ledger := {}
  fab : Fabric := {}
  irq : Irq := {}
  cont : Contain := {}
  sec : Security := {}
  flash : Flash := {}
  power : Power := {}
  deriving DecidableEq, Repr

/-- The machine right after full power-on (R441). -/
def State.reset : State := {}

/-- Why a step can stop. No command of this block stops it: what the spec calls a halt, a refusal or an error response is
an effect on the state. -/
inductive Fault where
  /-- Raised by no meaning. -/
  | none
  deriving DecidableEq, Repr

/-- Why a command can have no meaning. -/
inductive Refusal where
  /-- Raised only by an arm of `exec` whose command is not modelled yet; safe. -/
  | notModelled (mnemonic : String)
  deriving DecidableEq, Repr

end Sys2Proof.Machine
end

