-- ==== Sys2Proof/Machine/Ops.lean ====
section
/-! DEFINITION. The named operations over registers, counters, error logs and records that every unit shares (R9-R11,
R378-R394, R448). -/

namespace Sys2Proof.Machine

/-- Where a register of a page is kept. -/
def Page.key (p : Page) (off : Nat) : Nat := p.base + off

/-- The stored value of a register of a page. -/
def State.reg (s : State) (p : Page) (off : Nat) : Word :=
  (SMap.get s.regs (p.key off)).getD (BitVec.ofNat 32 (p.resetAt off))

/-- The stored value of a register as a number. -/
def State.regN (s : State) (p : Page) (off : Nat) : Nat := (s.reg p off).toNat

/-- Put a value into a register of a page. -/
def State.setReg (s : State) (p : Page) (off : Nat) (v : Word) : State :=
  { s with regs := SMap.set s.regs (p.key off) v }

/-- Put a number into a register of a page. -/
def State.setRegN (s : State) (p : Page) (off v : Nat) : State := s.setReg p off (BitVec.ofNat 32 v)

/-- Replace `w` bits from bit `lo` of a register. -/
def State.setField (s : State) (p : Page) (off lo w v : Nat) : State :=
  s.setRegN p off (putField (s.regN p off) lo w v)

/-- The bits last written to a write-only register. -/
def State.stage (s : State) (p : Page) (off : Nat) : Word := SMap.getD s.staged 0 (p.key off)

/-- Keep the bits written to a write-only register. -/
def State.setStage (s : State) (p : Page) (off : Nat) (v : Word) : State :=
  { s with staged := SMap.set s.staged (p.key off) v }

/-- Set a bit of a page's ISTATUS (R381). -/
def State.raise (s : State) (p : Page) (bit : Nat) : State :=
  s.setReg p 0x018 (s.reg p 0x018 ||| BitVec.ofNat 32 (2 ^ bit))

/-- Largest value of a counter (R386). -/
abbrev counterMax : Nat := 2 ^ 64 - 1

/-- The value of a counter. -/
def State.counter (s : State) (p : Page) (sel : Nat) : Nat := SMap.getD s.counters 0 (p.base * 256 + sel)

/-- The error log of a page. -/
def State.log (s : State) (p : Page) : ErrLog := SMap.getD s.logs {} p.base

/-- Write one entry to a page's error log (R390). -/
def State.logWord (s : State) (p : Page) (e : Nat) : State :=
  let l := s.log p
  let l' : ErrLog := { l with
    ring := SMap.set l.ring (l.writeSeq % 16) (BitVec.ofNat 32 e)
    writeSeq := wrapSucc 16 l.writeSeq
    count := min (l.count + 1) (2 ^ 32 - 1) }
  { s with logs := SMap.set s.logs p.base l' }

/-- Count `n` events in a statistics counter: it sticks at all ones and then writes one COUNTER_SAT entry (R386). -/
def State.bumpBy (s : State) (p : Page) (sel n : Nat) : State :=
  let c := s.counter p sel
  let c' := min (c + n) counterMax
  let s' := { s with counters := SMap.set s.counters (p.base * 256 + sel) c' }
  if c < counterMax && c' == counterMax then s'.logWord p (0x65000034 + sel * 2 ^ 16) else s'

/-- Count one event in a statistics counter. -/
def State.bump (s : State) (p : Page) (sel : Nat) : State := s.bumpBy p sel 1

/-- Add to a cycle counter, which wraps without a flag (R386). -/
def State.countCycles (s : State) (p : Page) (sel n : Nat) : State :=
  { s with counters := SMap.set s.counters (p.base * 256 + sel) ((s.counter p sel + n) % 2 ^ 64) }

/-- Count in a statistics counter that is a register of its own: it sticks at all ones (R386). -/
def State.bumpReg (s : State) (p : Page) (off : Nat) : State :=
  let c := s.regN p off
  if c = 2 ^ 32 - 1 then s
  else
    let s' := s.setRegN p off (c + 1)
    if c + 1 = 2 ^ 32 - 1 then s'.logWord p (0x65000000 + off) else s'

/-- Record an event in a record register with VALID in bit 31 and MULTIPLE in bit 30: the first is kept until VALID is
cleared, a further one sets MULTIPLE. -/
def State.record (s : State) (p : Page) (off payload : Nat) : State :=
  let r := s.regN p off
  if bitAt r 31 then s.setRegN p off (putField r 30 1 1)
  else s.setRegN p off (2 ^ 31 + (field r 30 30) * 2 ^ 30 + payload)

/-- Would a record now be the first since VALID was last cleared? -/
def State.isFirst (s : State) (p : Page) (off : Nat) : Bool := !bitAt (s.regN p off) 31

/-- Partition of a cluster: PART.CLc (R405, R412). -/
def State.clusterPart (s : State) (c : Nat) : Nat := field (s.regN ⟨.part, 0⟩ (0x200 + 4 * c)) 1 0

/-- The partition that a requester belongs to, and whether it is secure (R393). -/
def State.reqPart (s : State) : Requester → Nat
  | .periscope => 0
  | .rmSecure => 0
  | .rmPlain p => p.val
  | .talel p => p.val
  | .sregwr c _ => s.clusterPart c.val
  | .jg id => s.clusterPart id.cluster.val

/-- Is a requester secure (R393)? -/
def secure : Requester → Bool
  | .periscope => true
  | .rmSecure => true
  | _ => false

/-- SOURCE code of a requester in an error-log entry (R392). -/
def sourceCode : Requester → Nat
  | .talel _ => 0
  | .rmSecure => 1
  | .rmPlain _ => 1
  | .sregwr _ _ => 2
  | .jg _ => 3
  | .periscope => 4

/-- Cluster of a core requester, 0 otherwise (R392). -/
def reqCluster : Requester → Nat
  | .sregwr c _ => c.val
  | .jg id => id.cluster.val
  | _ => 0

/-- Requester class of a counter snapshot (R388): Periscope, Ringmaster, Talel, cores. -/
def reqClass : Requester → Nat
  | .periscope => 0
  | .rmSecure => 1
  | .rmPlain _ => 1
  | .talel _ => 2
  | .sregwr _ _ => 3
  | .jg _ => 3

/-- KIND codes of R392. -/
abbrev kindIgnored : Nat := 1
/-- KIND RESERVED of R392. -/
abbrev kindReserved : Nat := 2
/-- KIND OWNERSHIP of R392. -/
abbrev kindOwnership : Nat := 3
/-- KIND DEBUG of R392. -/
abbrev kindDebug : Nat := 4
/-- KIND EVENT of R392. -/
abbrev kindEvent : Nat := 5

/-- Enter an access in a page's error log (R392). -/
def State.logReq (s : State) (p : Page) (kind : Nat) (who : Requester) (write : Bool) (off : Nat) : State :=
  s.logWord p (kind * 2 ^ 28 + sourceCode who * 2 ^ 24 + (if secure who then 0 else s.reqPart who) * 2 ^ 22 +
    reqCluster who * 2 ^ 16 + b2n write * 2 ^ 12 + off % 0x1000)

/-- Enter an event of the block's own hardware in a page's error log (R448). -/
def State.logHw (s : State) (p : Page) (off : Nat) : State :=
  s.logWord p (kindEvent * 2 ^ 28 + 5 * 2 ^ 24 + off)

/-- Pages whose OWNER.SECURE always reads 1 (R393). -/
def Page.fixedSecure (p : Page) : Bool :=
  match p.block with
  | .sec => true
  | .part => true
  | .ldg => true
  | .msec => true
  | .mbx => 48 ≤ p.inst
  | _ => false

/-- OWNER as it reads (R393). -/
def State.owner (s : State) (p : Page) : Nat :=
  if p.fixedSecure then putField (s.regN p 0x040) 31 1 1 else s.regN p 0x040

/-- Does a requester reach a page (R394)? -/
def State.admits (s : State) (p : Page) (who : Requester) : Bool :=
  secure who || (!bitAt (s.owner p) 31 && bitAt (s.owner p) (s.reqPart who))

/-- Does a page admit a unit of the block's hardware that acts for a partition (R180, R394)? -/
def State.admitsUnit (s : State) (p : Page) (part : Nat) : Bool := !bitAt (s.owner p) 31 && bitAt (s.owner p) part

/-- Enter a refused write of the block's own hardware (R392, R394). -/
def State.logUnit (s : State) (p : Page) (part cluster off : Nat) : State :=
  s.logWord p (kindOwnership * 2 ^ 28 + 5 * 2 ^ 24 + part * 2 ^ 22 + cluster * 2 ^ 16 + 2 ^ 12 + off)

/-- The number of a core, 7·cluster + core (R379). -/
def coreIdx (id : CoreId) : Nat := 7 * id.cluster.val + id.core.val

/-- The CORE page of a core. -/
def corePage (id : CoreId) : Page := ⟨.core, coreIdx id⟩
/-- The JGL page of a core. -/
def jglPage (id : CoreId) : Page := ⟨.jgl, coreIdx id⟩
/-- The VEC page of a vector core. -/
def vecPage (id : CoreId) : Page := ⟨.vec, 4 * id.cluster.val + (id.core.val - 2)⟩
/-- The SCL page of a scalar core. -/
def sclPage (id : CoreId) : Page := ⟨.scl, id.cluster.val⟩
/-- The OPE page of a matrix core. -/
def opePage (id : CoreId) : Page := ⟨.ope, 2 * id.cluster.val + id.core.val⟩
/-- The DRN page of a matrix core. -/
def drnPage (id : CoreId) : Page := ⟨.drn, 2 * id.cluster.val + id.core.val⟩
/-- The TST page of a matrix core. -/
def tstPage (id : CoreId) : Page := ⟨.tst, 2 * id.cluster.val + id.core.val⟩

/-- Kind of a core (R12). -/
def kindOf (id : CoreId) : CoreKind :=
  if id.core.val < 2 then .matrix else if id.core.val < 6 then .vector else .scalar

/-- A matrix core as a core. -/
def McId.core (m : McId) : CoreId := ⟨m.cluster, ⟨m.mc.val, by have := m.mc.isLt; omega⟩⟩

/-- A core's state. -/
def State.core (s : State) (id : CoreId) : Core := SMap.getD s.cores {} (coreIdx id)

/-- Put a core's state. -/
def State.setCore (s : State) (id : CoreId) (c : Core) : State := { s with cores := SMap.set s.cores (coreIdx id) c }

/-- Change a core's state. -/
def State.modCore (s : State) (id : CoreId) (f : Core → Core) : State := s.setCore id (f (s.core id))

/-- The OPE of a matrix core. -/
def State.ope (s : State) (id : CoreId) : Ope := SMap.getD s.opes {} (coreIdx id)

/-- Put the OPE of a matrix core. -/
def State.setOpe (s : State) (id : CoreId) (o : Ope) : State := { s with opes := SMap.set s.opes (coreIdx id) o }

/-- A free value, drawn from the counter that each draw advances. -/
def State.draw (s : State) : Nat × State := (Config.freeNat s.fresh, { s with fresh := s.fresh + 1 })

end Sys2Proof.Machine
end

