-- ==== Sys2Proof/Machine/Clocks.lean ====
section
/-! DEFINITION. Clock domains: which run, which are up (R333, R336, R371, R434). -/

namespace Sys2Proof.Machine

/-! ### Clock domains (R333, R336) -/

/-- Nominal clock of a domain in MHz; 0 for a recovered receive clock (R333). -/
def nominalMhz (d : Nat) : Nat :=
  if d < 320 then (if d % 8 < 6 then 1900 else if d % 8 = 6 then 1500 else 1800)
  else if d < 324 then 1800
  else if d < 336 then 1250
  else if d < 348 then Config.phyMhz (d - 336)
  else if d < 365 then 0
  else if d < 367 then 1700
  else if d = 367 then 1000
  else 100

/-- Is a domain's frequency settable (R333)? -/
def settable (d : Nat) : Bool := decide (d < 320) && d % 8 != 7

/-- A clock domain's record. -/
def State.clock (s : State) (d : Nat) : Clock := SMap.getD s.fab.clocks {} d

/-- Put a clock domain's record. -/
def State.setClock (s : State) (d : Nat) (k : Clock) : State := { s with fab.clocks := SMap.set s.fab.clocks d k }

/-- Does a domain run whenever the input is above 36 V (R434)? -/
def alwaysOn (d : Nat) : Bool := decide (368 ≤ d) && decide (d < 371)

/-- The sleep group of a domain: 0 Ringmaster, 1 west edge, 2 east edge (R371). -/
def sleepGroup (d : Nat) : Option Nat :=
  if d = 367 then some 0 else if d = 365 then some 1 else if d = 366 then some 2 else none

/-- State code of a domain as CLK.DSTAT shows it: 0 running, 1 stopped for relock, 2 gated, 3 powered down or in reset. -/
def State.domainState (s : State) (d : Nat) : Nat :=
  if s.power.dark then 3
  else if s.power.off && !alwaysOn d then 3
  else match sleepGroup d with
    | some g => if s.power.asleep.contains g then 2 else (s.clock d).st
    | none => (s.clock d).st

/-- Is a domain powered and out of reset? -/
def State.domainUp (s : State) (d : Nat) : Bool := s.domainState d != 3

/-- What a domain's clock drives happens only while cycles of the domain pass (R336). -/
def whileRunning (s : State) (d : Nat) (t : State) : State := if s.domainState d = 0 then t else s

/-- The clock domain of a core (R333). -/
def coreDomain (id : CoreId) : Nat := 8 * id.cluster.val + id.core.val

/-- Do cycles of a core's domain pass? -/
def State.coreRuns (s : State) (id : CoreId) : Bool := s.domainState (coreDomain id) == 0

end Sys2Proof.Machine
end

