-- ==== Sys2Proof/Machine/Flags.lean ====
section
/-! DEFINITION. Flags, data queues, contexts and halts of a core (R80-R105). -/

namespace Sys2Proof.Machine

/-! ### Flags -/

/-- A flag's value after the writes of one cycle: the set that stands, then the sum of the adds (R88). -/
def FlagCycle.after (c : FlagCycle) : Nat :=
  ((match c.set with | some (_, v) => v | none => c.before) + c.add) % 2 ^ 24

/-- A flag's latest value. -/
def FlagCell.value (c : FlagCell) : Nat :=
  match c.hist with
  | [] => c.base
  | w :: _ => w.after

/-- A flag's value as a wait in cycle `t` sees it: writes show from the third cycle after theirs (R87). -/
def FlagCell.seenFrom : List FlagCycle → Nat → Nat → Nat
  | [], base, _ => base
  | w :: r, base, t => if w.cycle + 3 ≤ t then w.after else FlagCell.seenFrom r base t

/-- Drop kept writes that no wait can look behind: all older than one that already shows at `floor`. -/
def pruneFlag : List FlagCycle → Nat → List FlagCycle
  | [], _ => []
  | w :: r, floor => if w.cycle + 3 ≤ floor then [w] else w :: pruneFlag r floor

/-- The value under the kept writes after pruning. -/
def pruneBase (hist : List FlagCycle) (base floor : Nat) : Nat :=
  match hist.dropWhile (fun w => decide (floor < w.cycle + 3)) with
  | [] => base
  | w :: _ => w.before

/-- A write of a flag at the end of cycle `w`: a set with its rank (execute 0, access 1, remote 2) or an add (R88). Of two sets of one rank
in one cycle, by streams of one kind of different contexts or by two remote writes, the later command's stands (DESIGN CHOICE, log
entry 81: R88 ranks the kinds only). -/
def FlagCell.write (c : FlagCell) (w rank : Nat) (add : Bool) (v floor : Nat) : FlagCell :=
  let put (fc : FlagCycle) : FlagCycle :=
    if add then { fc with add := (fc.add + v) % 2 ^ 24 }
    else match fc.set with
      | some (r, _) => if rank < r then fc else { fc with set := some (rank, v % 2 ^ 24) }
      | none => { fc with set := some (rank, v % 2 ^ 24) }
  let hist := match c.hist with
    | fc :: r => if fc.cycle = w then put fc :: r else put ⟨w, fc.after, none, 0⟩ :: c.hist
    | [] => [put ⟨w, c.base, none, 0⟩]
  { base := pruneBase hist c.base floor, hist := pruneFlag hist floor }

/-- Conditions EQ, NE, GE and LT between a flag's value and a threshold (R86). -/
def flagCond (cond value t : Nat) : Bool :=
  let ge := decide (modDist 24 value t < 2 ^ 23)
  match cond with
  | 0 => decide (value = t)
  | 1 => decide (value ≠ t)
  | 2 => ge
  | _ => !ge

/-- Has a wait been released by cycle `t`, if its word was issuable from cycle `ready` (R87)? The condition held for some
value the wait saw from `ready` to `t`. -/
def FlagCell.released (c : FlagCell) (ready t cond v : Nat) : Bool :=
  flagCond cond (FlagCell.seenFrom c.hist c.base ready) v ||
    c.hist.any (fun w => decide (ready ≤ w.cycle + 3) && decide (w.cycle + 3 ≤ t) && flagCond cond w.after v)

/-! ### Contexts -/

/-- A context of a core. -/
def Core.ctx (c : Core) : Ctx → Context
  | .f => c.ctxF
  | .b => c.ctxB
  | .u => c.ctxU

/-- Put a context of a core. -/
def Core.setCtx (c : Core) (x : Ctx) (v : Context) : Core :=
  match x with
  | .f => { c with ctxF := v }
  | .b => { c with ctxB := v }
  | .u => { c with ctxU := v }

/-- Change a context of a core. -/
def Core.modCtx (c : Core) (x : Ctx) (f : Context → Context) : Core := c.setCtx x (f (c.ctx x))

/-- The contexts of a core. -/
def allCtx : List Ctx := [.f, .b, .u]

/-- A stream of a context. -/
def Context.stream (c : Context) (access : Bool) : Stream := if access then c.acc else c.exe

/-- Put a stream of a context. -/
def Context.setStream (c : Context) (access : Bool) (v : Stream) : Context :=
  if access then { c with acc := v } else { c with exe := v }

/-- Is a stream live (R80)? -/
def Context.live (c : Context) (access : Bool) : Bool := c.mode == .running && !(c.stream access).ended

/-- An I register: I0 reads as 0 (R114). -/
def Stream.ireg (st : Stream) (n : Nat) : Word := if n = 0 then 0 else SMap.getD st.iregs 0 n

/-- An S register: S0 reads as 0 (R114). -/
def Context.sreg (c : Context) (n : Nat) : Word64 := if n = 0 then 0 else SMap.getD c.sregs 0 n

/-- A V register. -/
def Context.vreg (c : Context) (n : Nat) : VReg := SMap.getD c.vregs 0 n

/-- An M register: M0 reads as all ones (R114). -/
def Context.mreg (c : Context) (n : Nat) : MReg := if n = 0 then BitVec.allOnes 2048 else SMap.getD c.mregs 0 n

/-- A flag of a context of a core. -/
def Core.flag (c : Core) (x : Ctx) (f : Nat) : FlagCell := SMap.getD c.flags {} (256 * x.idx + f)

/-- The earliest cycle whose flag values some stream may still look back to. -/
def Core.flagFloor (c : Core) : Nat :=
  (allCtx.map (fun x => min (c.ctx x).exe.readyAt (c.ctx x).acc.readyAt)).foldl min c.now

/-- A flag write of a core at the end of a cycle (R86-R88). -/
def Core.writeFlag (c : Core) (x : Ctx) (f w rank : Nat) (add : Bool) (v : Nat) : Core :=
  { c with flags := SMap.set c.flags (256 * x.idx + f) ((c.flag x f).write w rank add v c.flagFloor) }

/-! ### Data queues -/

/-- A queue of a context. -/
def Context.queue (c : Context) (q : Nat) : DataQueue := SMap.getD c.queues {} q

/-- Put a queue of a context. -/
def Context.setQueue (c : Context) (q : Nat) (v : DataQueue) : Context := { c with queues := SMap.set c.queues q v }

/-- Is an entry poppable in cycle `t` (R82)? -/
def DataQueue.canPop (q : DataQueue) (t : Nat) : Bool :=
  match q.items with
  | [] => false
  | i :: _ => decide (i.visible ≤ t)

/-- Slots of a queue that a push issued in cycle `t` cannot take: filled, reserved, or freed less than two cycles before
(R82, R83). -/
def DataQueue.used (q : DataQueue) (t : Nat) : Nat :=
  q.items.length + q.reserved + (q.frees.filter (fun f => decide (t < f))).length

/-- Can `n` pushes issue in cycle `t` (R83)? -/
def DataQueue.canPush (q : DataQueue) (t n : Nat) : Bool := decide (q.used t + n ≤ 32)

/-- Pop the head in cycle `t`: its slot frees for a push issued in `t + 2` or later, and a credit returns to the source of
an external push (R82, R84). -/
def DataQueue.pop (q : DataQueue) (t : Nat) : DataQueue :=
  match q.items with
  | [] => q
  | i :: r =>
    { q with
      items := r
      frees := (t + 2) :: q.frees.filter (fun f => decide (t < f))
      credits := match i.src with | some _ => min (q.credits + 1) 32 | none => q.credits }

/-- Head entry of a queue. -/
def DataQueue.head (q : DataQueue) : Entry :=
  match q.items with
  | [] => 0
  | i :: _ => i.data

/-- Fill a slot at the end of cycle `p`: poppable from `p + 2` (R82). -/
def DataQueue.fill (q : DataQueue) (p : Nat) (d : Entry) (src : Option Nat) : DataQueue :=
  { q with items := q.items ++ [⟨d, p + 2, src⟩] }

/-! ### Halts -/

/-- Offset of a per-context register of a CORE page (R104). -/
def ctxOff (x : Ctx) (o : Nat) : Nat := 0x100 + 0x40 * x.idx + o

/-- The first cycle that the stall monitor may count once a context's streams have stopped being live (R96): the cycles in
which one of them was live and not waiting do not count. -/
def Core.stallFloor (c : Core) (x : Ctx) : Nat :=
  let k := c.ctx x
  let mover := c.scs.any (fun e => e.2.owner == some x && e.2.state == 3 && e.2.faultOpen)
  let one (access : Bool) : Nat :=
    let st := k.stream access
    if !k.live access then 0
    else if !st.loads.isEmpty || (access && mover) then c.now + 1
    else min st.readyAt (c.now + 1)
  max c.lastIssue (max (one false) (one true))

/-- Take a halt cause in one context (R98, R99): recorded while RUNNING, counted while HALTING or HALTED, nothing while
IDLE. -/
def haltCtx (s : State) (id : CoreId) (x : Ctx) (cause : Nat) (access : Bool) (addr slot : Nat) : State :=
  let c := s.core id
  let p := corePage id
  match (c.ctx x).mode with
  | .idle => s
  | .halting => s.bump p 6
  | .halted => s.bump p 6
  | .running =>
    let c := { c with lastIssue := c.stallFloor x }
    let c := c.modCtx x (fun k => { k with mode := .halting })
    let c := { c with scs := c.scs.map (fun e => if e.2.owner == some x then (e.1, { e.2 with held := true }) else e) }
    let s := s.setCore id c
    let s := s.setRegN p (ctxOff x 0x0C) (b2n access * 256 + cause)
    let s := s.setRegN p (ctxOff x 0x10) addr
    let s := s.setRegN p (ctxOff x 0x14) slot
    s.bump p 5

/-- Halt with core scope (R101): the raising context records the cause where it arose, the other RUNNING contexts record
it with STREAM 0, the address of their next execute word and no slot. -/
def haltCore (s : State) (id : CoreId) (x : Option Ctx) (cause : Nat) (access : Bool) (addr slot : Nat) : State :=
  allCtx.foldl (fun s y =>
    if some y = x then haltCtx s id y cause access addr slot
    else if ((s.core id).ctx y).mode == .running then
      haltCtx s id y cause false ((s.core id).ctx y).exe.pc noSlot
    else s) s

/-- Causes whose scope is the core (R101). -/
def coreScope (cause : Nat) : Bool := cause == causeDeadlock || cause == causePoison || cause == causeParity

/-- Take a cause at its scope. -/
def takeCause (s : State) (id : CoreId) (x : Ctx) (cause : Nat) (access : Bool) (addr slot : Nat) : State :=
  if coreScope cause then haltCore s id (some x) cause access addr slot
  else haltCtx s id x cause access addr slot

/-- Record a hazard in CORE.HAZARD and count it (R91, R93). -/
def coreHazard (s : State) (id : CoreId) (kind : Nat) (x : Ctx) (access : Bool) (addr : Nat) : State :=
  let p := corePage id
  let s := s.record p 0x1C4 (kind * 2 ^ 28 + x.idx * 2 ^ 26 + b2n access * 2 ^ 25 + addr)
  (s.raise p 7).bump p 4

/-- Size of a core's store in bytes (R33, R115). -/
def storeSize (k : CoreKind) : Nat :=
  match k with
  | .matrix => 8 * 2 ^ 20
  | .vector => 2 * 2 ^ 20
  | .scalar => 256 * 2 ^ 10

/-! ### Commits -/

/-- The register or store bytes that an effect writes, as something a read or another commit can meet: I0 and S0 take no write (R114). -/
def Effect.target : Effect → Option Res
  | .ireg n _ => if n = 0 then none else some (.ireg n)
  | .sreg n _ => if n = 0 then none else some (.sreg n)
  | .vreg n _ _ => some (.vreg n)
  | .mreg n _ _ => some (.mreg n)
  | .store a l _ => some (.mem a l)
  | .push _ _ => none
  | .flagAdd _ _ => none
  | .layer _ => none
  | .holder _ => none
  | .done => none

/-- Do two ranges of a wrapping store meet? -/
def rangesMeet (size a la b lb : Nat) : Bool :=
  decide ((b + size - a) % size < la) || decide ((a + size - b) % size < lb)

/-- Do two targets of one stream meet? -/
def Res.meets (size : Nat) : Res → Res → Bool
  | .mem a la, .mem b lb => rangesMeet size (a % size) la (b % size) lb
  | x, y => x == y

/-- Do the targets of two results meet (R91)? Registers are each stream's own; store bytes are the core's. -/
def Pend.meets (size : Nat) (p q : Pend) : Bool :=
  match p.what.target, q.what.target with
  | some (.mem a la), some (.mem b lb) => Res.meets size (.mem a la) (.mem b lb)
  | some x, some y => p.ctx == q.ctx && p.access == q.access && x == y
  | _, _ => false

/-- Does result `q` stand over result `p` when both commit in one cycle (R91)? -/
def Pend.over (q p : Pend) : Bool :=
  if q.issued ≠ p.issued then decide (p.issued < q.issued)
  else if q.ctx = p.ctx ∧ q.access = p.access then decide (p.slot < q.slot)
  else if q.access ≠ p.access then p.access
  else decide (q.ctx.idx < p.ctx.idx)

/-- Apply one result to its core (R90). An entry for a queue whose EXT bit is set never enters it (R84). -/
def Core.commit (c : Core) (size : Nat) (p : Pend) : Core :=
  match p.what with
  | .ireg n v => if n = 0 then c else
      c.modCtx p.ctx (fun k => k.setStream p.access
        { k.stream p.access with iregs := SMap.set (k.stream p.access).iregs n v })
  | .sreg n v => if n = 0 then c else c.modCtx p.ctx (fun k => { k with sregs := SMap.set k.sregs n v })
  | .vreg n v keep => c.modCtx p.ctx (fun k =>
      let old := k.vreg n &&& ~~~(BitVec.ofNat 16384 keep)
      { k with vregs := SMap.set k.vregs n (old ||| BitVec.ofNat 16384 v) })
  | .mreg n v keep => c.modCtx p.ctx (fun k =>
      let old := k.mreg n &&& ~~~(BitVec.ofNat 2048 keep)
      { k with mregs := SMap.set k.mregs n (old ||| BitVec.ofNat 2048 v) })
  | .store a l v => { c with store := Mem.writeMod c.store size a l v }
  | .push q d => c.modCtx p.ctx (fun k =>
      let dq := k.queue q
      if dq.ext then k else k.setQueue q { dq.fill p.due d none with reserved := dq.reserved - 1 })
  | .flagAdd f n => c.writeFlag p.ctx f p.due 2 true n
  | .layer n => c.modCtx p.ctx (fun k => { k with layer := n })
  | .holder x => { c with holder := x }
  | .done => c

/-- Poison marks of a store lose each line that a commit writes whole (R149): a 2 KiB VST. -/
def Core.unmark (c : Core) (p : Pend) : Core :=
  match p.what with
  | .store a l _ => if 128 ≤ l then { c with marks := NSet.eraseRange c.marks (a / 128) (l / 128) } else c
  | _ => c

/-- A PASS of a matrix core commits: the OPE has a new holder (R28, R121). -/
def passHolder (s : State) (id : CoreId) (p : Pend) : State :=
  match p.what with
  | .holder x => if id.core.val < 2 then s.setOpe id { s.ope id with holder := x } else s
  | _ => s

/-- Is a result a store's bytes? -/
def Pend.isStore (p : Pend) : Bool := match p.what with | .store _ _ _ => true | _ => false

/-- Commit the results of one cycle in the order of R91, losers before winners: a register's losing result is dropped, a store's loses the
words that a winner then writes. A losing result is recorded and counted once, with the last of its winners (DESIGN CHOICE, log
entry 81, where several win parts of it). -/
def commitAll (s : State) (id : CoreId) (size : Nat) : List Pend → State
  | [] => s
  | p :: rest =>
    let put (s : State) : State := passHolder (s.modCore id (fun c => (c.commit size p).unmark p)) id p
    match (rest.filter (fun q => p.meets size q)).getLast? with
    | none => commitAll (put s) id size rest
    | some q =>
      let s := coreHazard s id 1 q.ctx q.access q.word
      commitAll (if p.isStore then put s else s) id size rest

/-- Insert a result into a list ordered so that each stands over those before it. -/
def insertPend (p : Pend) : List Pend → List Pend
  | [] => [p]
  | q :: r => if p.over q then q :: insertPend p r else p :: q :: r

/-- Order results so that each stands over those before it. -/
def orderPends : List Pend → List Pend
  | [] => []
  | p :: r => insertPend p (orderPends r)

end Sys2Proof.Machine
end

