-- ==== Sys2Proof/Machine/Float.lean ====
section
/-! DEFINITION. Exact arithmetic on the floating-point formats of R54: decoding to an exact value, one rounding to a
format, and the IEEE 754 operations of R71, R156, R159, R160 and R174 built from the two. -/

namespace Sys2Proof.Machine

/-- A floating-point element format (R54): mantissa width, bias, code of the largest finite magnitude, sign position,
and whether the codes above the largest finite one are an infinity and NaNs. -/
structure Fmt where
  w : Nat
  bias : Nat
  maxCode : Nat
  signBit : Nat
  ieee : Bool
  deriving DecidableEq, Repr

/-- FP32 of R54. -/
def fp32 : Fmt := ⟨23, 127, 0x7F7FFFFF, 31, true⟩
/-- BF16 of R54. -/
def bf16 : Fmt := ⟨7, 127, 0x7F7F, 15, true⟩
/-- FP16 of R54. -/
def fp16 : Fmt := ⟨10, 15, 0x7BFF, 15, true⟩
/-- MXFP8 E4M3 of R54: no infinity, NaN only at the top code. -/
def e4m3 : Fmt := ⟨3, 7, 0x7E, 7, false⟩
/-- MXFP8 E5M2 of R54. -/
def e5m2 : Fmt := ⟨2, 15, 0x7B, 7, true⟩
/-- MXFP6 E2M3 of R54. -/
def e2m3 : Fmt := ⟨3, 1, 0x1F, 5, false⟩
/-- MXFP6 E3M2 of R54. -/
def e3m2 : Fmt := ⟨2, 3, 0x1F, 5, false⟩
/-- MXFP4 E2M1 of R54. -/
def e2m1 : Fmt := ⟨1, 1, 0x7, 3, false⟩

/-- A decoded element: a NaN, an infinity with its sign, or a sign, a significand and an exponent (R56). -/
inductive Fp where
  | nan
  | inf (neg : Bool)
  | fin (neg : Bool) (m : Nat) (e : Int)
  deriving DecidableEq, Repr

/-- Code of an infinity's magnitude: the code after the largest finite one. -/
def Fmt.infCode (f : Fmt) : Nat := f.maxCode + 1

/-- The canonical NaN of R156: 0x7FC0_0000, 0x7FC0, and 0x7E00 for FP16. -/
def Fmt.nanCode (f : Fmt) : Nat := f.infCode + 2 ^ (f.w - 1)

/-- Sign bit as a number. -/
def Fmt.sign (f : Fmt) (neg : Bool) : Nat := if neg then 2 ^ f.signBit else 0

/-- Decode an element (R56), with specials as R54 names them. -/
def decodeFp (f : Fmt) (bits : Nat) : Fp :=
  let neg := bitAt bits f.signBit
  let c := bits % 2 ^ f.signBit
  if f.maxCode < c then
    (if f.ieee && c == f.infCode then .inf neg else .nan)
  else
    let E := c / 2 ^ f.w
    let M := c % 2 ^ f.w
    if E = 0 then .fin neg M (1 - (f.bias : Int) - f.w)
    else .fin neg (2 ^ f.w + M) ((E : Int) - f.bias - f.w)

/-- `n / 2 ^ k` rounded to nearest, ties to even. -/
def rneShr (n k : Nat) : Nat :=
  let q := n / 2 ^ k
  let r := n % 2 ^ k
  if 2 * r < 2 ^ k then q else if 2 ^ k < 2 * r then q + 1 else if q % 2 = 0 then q else q + 1

/-- `n / d` rounded to nearest, ties to even, for `d > 0`. -/
def rneDiv (n d : Nat) : Nat :=
  let q := n / d
  let r := n % d
  if 2 * r < d then q else if d < 2 * r then q + 1 else if q % 2 = 0 then q else q + 1

/-- The rounding of a conversion. -/
inductive Rnd where
  | nearest
  | toZero
  deriving DecidableEq, Repr

/-- `m * 2 ^ s` rounded to an integer. -/
def scaleRound (r : Rnd) (m : Nat) (s : Int) : Nat :=
  if 0 ≤ s then m * 2 ^ s.toNat
  else match r with
    | .nearest => rneShr m (-s).toNat
    | .toZero => m / 2 ^ (-s).toNat

/-- Exponent of the smallest step of a format. -/
def Fmt.qmin (f : Fmt) : Int := 1 - (f.bias : Int) - f.w

/-- The magnitude code of `m * 2 ^ e` rounded once to a format whose exponent had no upper bound. -/
def roundCode (f : Fmt) (r : Rnd) (m : Nat) (e : Int) : Nat :=
  if m = 0 then 0
  else
    let q : Int := max ((lead m : Int) + e - f.w) f.qmin
    (q - f.qmin).toNat * 2 ^ f.w + scaleRound r m (e - q)

/-- IEEE 754 rounding: a magnitude above the largest finite value becomes an infinity (R156), or the largest finite
value toward zero (R160). -/
def encIeee (f : Fmt) (r : Rnd) (neg : Bool) (m : Nat) (e : Int) : Nat :=
  let c := roundCode f r m e
  f.sign neg + (if f.maxCode < c then (match r with | .nearest => f.infCode | .toZero => f.maxCode) else c)

/-- Saturating rounding of R71: a magnitude above the largest finite value becomes that value, and the flag says so. -/
def encSat (f : Fmt) (neg : Bool) (m : Nat) (e : Int) : Nat × Bool :=
  let c := roundCode f .nearest m e
  if f.maxCode < c then (f.sign neg + f.maxCode, true) else (f.sign neg + c, false)

/-- The bits of a decoded value in a format, rounded once to nearest as IEEE 754 does. -/
def Fp.enc (f : Fmt) : Fp → Nat
  | .nan => f.nanCode
  | .inf neg => f.sign neg + f.infCode
  | .fin neg m e => encIeee f .nearest neg m e

/-- The negated value. -/
def Fp.neg : Fp → Fp
  | .nan => .nan
  | .inf n => .inf (!n)
  | .fin n m e => .fin (!n) m e

/-- Signed significand at a smaller exponent. -/
def alignTo (neg : Bool) (m : Nat) (e base : Int) : Int :=
  let v : Int := (m * 2 ^ (e - base).toNat : Nat)
  if neg then -v else v

/-- Exact sum of two values, with IEEE 754's zero signs under round to nearest. -/
def Fp.add : Fp → Fp → Fp
  | .nan, _ => .nan
  | _, .nan => .nan
  | .inf a, .inf b => if a = b then .inf a else .nan
  | .inf a, .fin _ _ _ => .inf a
  | .fin _ _ _, .inf b => .inf b
  | .fin na ma ea, .fin nb mb eb =>
    if ma = 0 && mb = 0 then .fin (na && nb) 0 ea
    else
      let base := min ea eb
      let s := alignTo na ma ea base + alignTo nb mb eb base
      .fin (decide (s < 0)) s.natAbs base

/-- Exact product of two values. -/
def Fp.mul : Fp → Fp → Fp
  | .nan, _ => .nan
  | _, .nan => .nan
  | .inf a, .inf b => .inf (a != b)
  | .inf a, .fin n m _ => if m = 0 then .nan else .inf (a != n)
  | .fin n m _, .inf b => if m = 0 then .nan else .inf (n != b)
  | .fin na ma ea, .fin nb mb eb => .fin (na != nb) (ma * mb) (ea + eb)

/-- Is a value a NaN? -/
def Fp.isNan : Fp → Bool
  | .nan => true
  | _ => false

/-- Is a value finite? -/
def Fp.isFin : Fp → Bool
  | .fin _ _ _ => true
  | _ => false

/-- Is a value a zero of either sign? -/
def Fp.isZero : Fp → Bool
  | .fin _ m _ => m = 0
  | _ => false

/-- One rounded addition in a format. -/
def fAdd (f : Fmt) (a b : Nat) : Nat := (Fp.add (decodeFp f a) (decodeFp f b)).enc f
/-- One rounded subtraction in a format. -/
def fSub (f : Fmt) (a b : Nat) : Nat := (Fp.add (decodeFp f a) (decodeFp f b).neg).enc f
/-- One rounded multiplication in a format. -/
def fMul (f : Fmt) (a b : Nat) : Nat := (Fp.mul (decodeFp f a) (decodeFp f b)).enc f
/-- One rounded fused multiply-add in a format (R156). -/
def fFma (f : Fmt) (a b c : Nat) : Nat := (Fp.add (Fp.mul (decodeFp f a) (decodeFp f b)) (decodeFp f c)).enc f

/-- Signed value of a finite number over a common exponent, for comparison. -/
def fpLt : Fp → Fp → Bool
  | .nan, _ => false
  | _, .nan => false
  | .inf a, .inf b => a && !b
  | .inf a, .fin _ _ _ => a
  | .fin _ _ _, .inf b => !b
  | .fin na ma ea, .fin nb mb eb =>
    let base := min ea eb
    decide (alignTo na ma ea base < alignTo nb mb eb base)

/-- Equality of values, −0 equal to +0, a NaN equal to nothing (R159). -/
def fpEq : Fp → Fp → Bool
  | .nan, _ => false
  | _, .nan => false
  | .inf a, .inf b => a == b
  | .inf _, .fin _ _ _ => false
  | .fin _ _ _, .inf _ => false
  | .fin na ma ea, .fin nb mb eb =>
    let base := min ea eb
    decide (alignTo na ma ea base = alignTo nb mb eb base)

/-- Is the sign of a value set? -/
def Fp.isNeg : Fp → Bool
  | .nan => false
  | .inf n => n
  | .fin n _ _ => n

/-- Maximum of two elements: a NaN in either gives the canonical NaN, −0 orders below +0 (R159). -/
def fMax (f : Fmt) (a b : Nat) : Nat :=
  let x := decodeFp f a
  let y := decodeFp f b
  if x.isNan || y.isNan then f.nanCode
  else if fpLt x y then b else if fpLt y x then a
  else if x.isNeg then b else a

/-- Minimum of two elements (R159). -/
def fMin (f : Fmt) (a b : Nat) : Nat :=
  let x := decodeFp f a
  let y := decodeFp f b
  if x.isNan || y.isNan then f.nanCode
  else if fpLt x y then a else if fpLt y x then b
  else if x.isNeg then a else b

/-- A finite value rounded to an integer. -/
def Fp.toInt (r : Rnd) : Fp → Int
  | .fin n m e => let v : Int := (scaleRound r m e : Nat); if n then -v else v
  | _ => 0

/-- An integer as an exact value. -/
def fpOfInt (i : Int) : Fp := .fin (decide (i < 0)) i.natAbs 0

end Sys2Proof.Machine
end

