-- ==== Sys2Proof/Machine/Formats.lean ====
section
/-! DEFINITION. Stored elements: codes of R60 and R47, packing in tile rows (R55), block scales (R57, R58), conversion to an
output format (R71-R74), and the rounding of products (R64-R67). -/

namespace Sys2Proof.Machine

/-- Element format of a code of R60: 0x0 FP32 to 0x7 MXFP4; MXINT8 and INT64 have none. -/
def codeFmt : Nat → Fmt
  | 0 => fp32
  | 1 => bf16
  | 2 => fp16
  | 3 => e4m3
  | 4 => e5m2
  | 5 => e2m3
  | 6 => e3m2
  | 7 => e2m1
  | _ => bf16

/-- Elements per 128-byte tile row (R33). -/
def fmtE : Nat → Nat
  | 0 => 32
  | 1 => 64
  | 2 => 64
  | 7 => 256
  | 9 => 16
  | 0xA => 64
  | _ => 128

/-- Is a code an MX format, with block scales (R54, R58)? -/
def isMx (code : Nat) : Bool := decide (3 ≤ code) && decide (code ≤ 8)

/-- Width in bits of a stored element (R54, R74). -/
def elemBits : Nat → Nat
  | 0 => 32
  | 1 => 16
  | 2 => 16
  | 5 => 6
  | 6 => 6
  | 7 => 4
  | 9 => 64
  | 0xA => 16
  | _ => 8

/-- Decode a stored element under its block scale byte (R56, R57). -/
def decodeElem (code raw scale : Nat) : Fp :=
  if isMx code && scale = 255 then .nan
  else if code = 8 then
    let n := signedOf 8 raw
    .fin (decide (n < 0)) n.natAbs (-6 + (scale : Int) - 127)
  else
    match decodeFp (codeFmt code) raw with
    | .fin n m e => if isMx code then .fin n m (e + (scale : Int) - 127) else .fin n m e
    | x => x

/-- Raw bits of element `n` of a tile row read through a byte reader from the row's first byte (R55). -/
def rawElem (rd : Nat → Nat) (row code n : Nat) : Nat :=
  let w := elemBits code
  let b := (w * n) / 8
  let v := rd (row + b) + 256 * rd (row + b + 1) + 65536 * rd (row + b + 2) + 16777216 * rd (row + b + 3)
  (v / 2 ^ ((w * n) % 8)) % 2 ^ w

/-- Multi-word splits of R61: word `k` (0 hi, 1 mid, 2 lo) of an element of class FP16 or FP32; any other element is its
own word. -/
def splitWord (code word : Nat) : Fp → Fp
  | .fin n m e =>
    if code = 2 then (if word = 0 then .fin n (m / 8) (e + 3) else .fin n (m % 8) e)
    else if code = 0 then
      (match word with
        | 0 => .fin n (m / 2 ^ 16) (e + 16)
        | 1 => .fin n ((m / 256) % 256) (e + 8)
        | _ => .fin n (m % 256) e)
    else .fin n m e
  | x => x

/-- The mixing function of R65, modulo 2^64. -/
def mix (z : Word64) : Word64 :=
  let z := (z ^^^ (z >>> 30)) * 0xBF58476D1CE4E5B9#64
  let z := (z ^^^ (z >>> 27)) * 0x94D049BB133111EB#64
  z ^^^ (z >>> 31)

/-- The 16-bit stochastic value of a product (R65). -/
def stochasticR (key : RoundKey) (n p i j : Nat) : Nat :=
  let w0 : Word64 := BitVec.ofNat 64 (key.layer % 2 ^ 16 * 2 ^ 48 + key.tileRow % 2 ^ 16 * 2 ^ 32 + key.tileCol % 2 ^ 16 * 2 ^ 16)
  let w1 : Word64 := BitVec.ofNat 64 (n % 2 ^ 32 * 2 ^ 24 + p * 2 ^ 16 + i * 2 ^ 8 + j)
  (mix (mix (key.seed ^^^ w0) ^^^ w1)).toNat / 2 ^ 48

/-- Round an exact product `p * 2 ^ d` to the bank's grid (R64): to nearest with ties to even, or stochastically by `r`. -/
def alignProduct (stochastic : Bool) (r : Nat) (p d : Int) : Int :=
  if 0 ≤ d then p * ((2 ^ d.toNat : Nat) : Int)
  else
    let k := (-d).toNat
    if stochastic then (p * 65536 + (r : Int) * ((2 ^ k : Nat) : Int)) / ((2 ^ k * 65536 : Nat) : Int)
    else
      let q : Int := (rneShr p.natAbs k : Nat)
      if p < 0 then -q else q

/-- Class of a product of two elements (R67). -/
def productClass (a b : Fp) : Special :=
  if a.isNan || b.isNan then .nan
  else if a.isFin && b.isFin then .none
  else if a.isZero || b.isZero then .nan
  else if a.isNeg != b.isNeg then .ninf else .pinf

/-- Combination of specials (R67). -/
def Special.join : Special → Special → Special
  | .none, x => x
  | x, .none => x
  | .nan, _ => .nan
  | _, .nan => .nan
  | .pinf, .pinf => .pinf
  | .ninf, .ninf => .ninf
  | _, _ => .nan

/-- The negated class (R67). -/
def Special.negate : Special → Special
  | .pinf => .ninf
  | .ninf => .pinf
  | x => x

/-- The rounded value of the product of two words and its class; a product with a class contributes 0 (R67). -/
def product (a b wa wb : Fp) (stochastic : Bool) (r : Nat) (lsb : Int) : Int × Special :=
  let cls := productClass a b
  match cls, wa, wb with
  | .none, .fin na ma ea, .fin nb mb eb =>
    let p : Int := (ma * mb : Nat)
    (alignProduct stochastic r (if na != nb then -p else p) (ea + eb - lsb), .none)
  | c, _, _ => (0, c)

/-! ### Conversion at a drain and of the row engine -/

/-- SPECIAL as an FP32 value (R73). -/
def Special.toFp : Special → Fp → Fp
  | .none, x => x
  | .pinf, _ => .inf false
  | .ninf, _ => .inf true
  | .nan, _ => .nan

/-- A value written to FP32, BF16 or FP16, with the overflow flag of R71. -/
def convPlain (f : Fmt) : Fp → Nat × Bool
  | .nan => (f.nanCode, false)
  | .inf n => (f.sign n + f.infCode, false)
  | .fin n m e => encSat f n m e

/-- EMAX of an MX format (R72). -/
def mxEmax : Nat → Int
  | 3 => 8
  | 4 => 15
  | 5 => 2
  | 6 => 4
  | 7 => 2
  | _ => 0

/-- Magnitude code of a value on an MX element grid, with no upper bound (R72). -/
def mxCode (code m : Nat) (e : Int) : Nat :=
  if code = 8 then scaleRound .nearest m (e + 6) else roundCode (codeFmt code) .nearest m e

/-- Largest magnitude code of an MX format: MAXF of R72. -/
def mxMax (code : Nat) : Nat := if code = 8 then 127 else (codeFmt code).maxCode

/-- The larger of two finite magnitudes. -/
def magMax (a b : Nat × Int) : Nat × Int :=
  if a.1 = 0 then b else if b.1 = 0 then a
  else
    let base := min a.2 b.2
    if a.1 * 2 ^ (a.2 - base).toNat < b.1 * 2 ^ (b.2 - base).toNat then b else a

/-- The block scale byte of R72 for the finite values of a block. -/
def mxScale (code : Nat) (vs : List Fp) : Nat :=
  let amax := vs.foldl (fun acc v => match v with | .fin _ m e => magMax acc (m, e) | _ => acc) (0, 0)
  if amax.1 = 0 then 0
  else
    let x0 : Int := (lead amax.1 : Int) + amax.2 - mxEmax code
    let x1 : Int := if x0 < -127 then -127 else x0
    let x2 : Int := if x1 ≤ 127 ∧ mxMax code < mxCode code amax.1 (amax.2 - x1) then x1 + 1 else x1
    let x3 : Int := if 127 < x2 then 127 else x2
    (x3 + 127).toNat

/-- One element of a block under its scale (R72, R73), with its overflow flag. -/
def mxElem (code scale : Nat) : Fp → Nat × Bool
  | .nan => (if code = 4 then 0x7F else 0x7F, false)
  | .inf n => (if code = 4 then (if n then 0xFC else 0x7C) else 0x7F, false)
  | .fin n m e =>
    let c := mxCode code m (e - ((scale : Int) - 127))
    let ov := decide (mxMax code < c)
    let c' := if ov then mxMax code else c
    if code = 8 then ((if n then (256 - c') % 256 else c'), ov)
    else ((if n && m != 0 then 2 ^ (codeFmt code).signBit else 0) + c', ov)

/-- Convert one block to an MX format (R72): scale byte, codes and overflow flags. -/
def mxBlock (code : Nat) (vs : List Fp) : Nat × List (Nat × Bool) :=
  if vs.any (fun v => !v.isFin) && 5 ≤ code then (255, vs.map (fun _ => (0, false)))
  else
    let x := mxScale code vs
    (x, vs.map (mxElem code x))

/-- Split a list into pieces of a size. -/
def chunks {α : Type} (size : Nat) : Nat → List α → List (List α)
  | 0, _ => []
  | k + 1, l => l.take size :: chunks size k (l.drop size)

/-- One row converted to an output format: element codes, overflow flags in column order, and scale bytes in block order
(none for a plain format). -/
def convRow (code : Nat) (vs : List Fp) : List (Nat × Bool) × List Nat :=
  if isMx code then
    let b := fmtE code / 4
    let blocks := (chunks b (vs.length / b) vs).map (mxBlock code)
    (blocks.flatMap (fun x => x.2), blocks.map (fun x => x.1))
  else (vs.map (convPlain (codeFmt code)), [])

/-- Pack element codes into a number, element 0 lowest (R55). -/
def packElems (w : Nat) : List Nat → Nat
  | [] => 0
  | x :: r => x % 2 ^ w + 2 ^ w * packElems w r

/-- One row of 256 cells packed into the 128-byte rows of its output tiles, one number per tile. -/
def packRow (code : Nat) (xs : List Nat) : List Nat :=
  (chunks (fmtE code) (xs.length / fmtE code) xs).map (packElems (elemBits code))

end Sys2Proof.Machine
end

