-- ==== Sys2Proof/Machine/Ope.lean ====
section
/-! DEFINITION. The outer-product engine and its drain unit (R28-R53, R56-R75): issue checks, rank updates, drains. -/

namespace Sys2Proof.Machine

/-! ### Tile store (R33) -/

/-- Bytes of an operand half: 32 tile slots and 32 sidecar slots. -/
abbrev halfBytes : Nat := 1056 * 1024

/-- First byte of an operand half: A half 0, A half 1, B half 0, B half 1 in order. -/
def halfBase (isB : Bool) (half : Nat) : Nat := (2 * b2n isB + half) * halfBytes

/-- First byte of the accumulator staging. -/
abbrev stagingBase : Nat := 4 * halfBytes

/-- First byte of the fused-operand region. -/
abbrev fusedBase : Nat := stagingBase + 2112 * 1024

/-- First byte and number of tile slots of a drain destination (DEST_KIND of R123). -/
def destRegion : Nat → Nat × Nat
  | 0 => (stagingBase, 64)
  | 1 => (halfBase false 0, 32)
  | 2 => (halfBase false 1, 32)
  | 3 => (halfBase true 0, 32)
  | _ => (halfBase true 1, 32)

/-- First byte of a tile slot of a region. -/
def slotAddr (base n : Nat) : Nat := base + 32768 * n

/-- First byte of a sidecar slot of a region of `slots` tile slots. -/
def sideAddr (base slots n : Nat) : Nat := base + 32768 * slots + 1024 * n

/-- A byte of an operand half as a stage-1 read in cycle `x` sees it: a write at the end of cycle `w` shows from `w + 1`, a
drained row from `w + 7` (R35, R45). The log is newest first. -/
def asOf (x a : Nat) : List HalfWrite → Byte → Byte
  | [], cur => cur
  | h :: r, cur =>
    if h.addr ≤ a ∧ a < h.addr + h.len then
      if h.cycle + (if h.drain then 7 else 1) ≤ x then cur else asOf x a r (Mem.get h.before a)
    else asOf x a r cur

/-- Is the 128-byte line of a byte poisoned, as a stage-1 read in cycle `x` sees it? -/
def markAsOf (x a : Nat) : List HalfWrite → Bool → Bool
  | [], cur => cur
  | h :: r, cur =>
    if h.addr ≤ a ∧ a < h.addr + h.len then
      if h.cycle + (if h.drain then 7 else 1) ≤ x then cur else markAsOf x a r (h.marks.contains (a / 128))
    else markAsOf x a r cur

/-- Byte reader of a core's store for stage 1 in cycle `x`. -/
def Core.stageByte (c : Core) (x a : Nat) : Nat := (asOf x a c.halfLog (Mem.get c.store a)).toNat

/-- Poison of a byte's line for stage 1 in cycle `x`. -/
def Core.stageMark (c : Core) (x a : Nat) : Bool := markAsOf x a c.halfLog (c.marks.contains (a / 128))

/-- Keep what stood in an operand half before a write at the end of cycle `w`, and forget writes that every read sees. -/
def Core.logHalf (c : Core) (w : Nat) (drain : Bool) (addr len : Nat) : Core :=
  { c with halfLog := ⟨w, drain, addr, len, Mem.slice c.store addr len addr, NSet.slice c.marks (addr / 128) ((len + 127) / 128) (addr / 128)⟩ ::
      c.halfLog.filter (fun h => decide (w < h.cycle + 16)) }

/-! ### Sweep operations -/

/-- Operand side of a sweep: half, start tile, axis, format. -/
structure Side where
  isB : Bool
  half : Nat
  tile : Nat
  rowAxis : Bool
  fmt : Nat
  deriving DecidableEq, Repr

/-- The A side of MX.SWEEP (R122). -/
def sideA (raw : Nat) : Side := ⟨false, field raw 6 6, field raw 12 8, bitAt raw 18, field raw 23 20⟩
/-- The B side of MX.SWEEP (R122). -/
def sideB (raw : Nat) : Side := ⟨true, field raw 7 7, field raw 17 13, bitAt raw 19, field raw 27 24⟩
/-- K of MX.SWEEP. -/
def sweepK (raw : Nat) : Nat := field raw 44 32 + 1
/-- ROWS of MX.SWEEP. -/
def sweepRows (raw : Nat) : Nat := field raw 55 48 + 1
/-- COLS of MX.SWEEP. -/
def sweepCols (raw : Nat) : Nat := field raw 63 56 + 1
/-- CLEAR of MX.SWEEP. -/
def sweepClear (raw : Nat) : Bool := bitAt raw 29

/-- K_MAX of a format (R33). -/
def kMax : Nat → Nat
  | 0 => 1024
  | 1 => 2048
  | 2 => 2048
  | 7 => 8192
  | 0xA => 512
  | _ => 4096

/-- Rate class of a format pair, coded as OPE.STATE.CLASS (R36, R51). -/
def rateClass (a b : Nat) : Option Nat :=
  let fl (x : Nat) : Bool := decide (3 ≤ x) && decide (x ≤ 7)
  if a = 7 ∧ b = 7 then some 2
  else if fl a && fl b then some 1
  else if a = 8 ∧ b = 8 then some 1
  else if a = 1 ∧ b = 1 then some 3
  else if a = 2 ∧ b = 2 then some 4
  else if a = 0 ∧ b = 0 then some 5
  else if a = 0xA ∧ b = 0xA then some 6
  else none

/-- Issue interval s of a class (R36). -/
def classStep (cls : Nat) : Nat := if cls ≤ 2 then 1 else 2

/-- Rank updates U of a sweep operation of K (R36). -/
def classCount (cls k : Nat) : Nat :=
  match cls with
  | 2 => (k + 1) / 2
  | 4 => 3 * k
  | 5 => 6 * k
  | 6 => 3 * k
  | _ => k

/-- Passes per vector index (R38). -/
def classPasses (cls : Nat) : Nat := match cls with | 4 => 3 | 5 => 6 | 6 => 3 | _ => 1

/-- The word of A and of B that a pass multiplies (R38). -/
def passWords (cls p : Nat) : Nat × Nat :=
  match cls, p with
  | 4, 1 => (0, 1)
  | 4, 2 => (1, 0)
  | 5, 1 => (0, 1)
  | 5, 2 => (1, 0)
  | 5, 3 => (0, 2)
  | 5, 4 => (1, 1)
  | 5, 5 => (2, 0)
  | _, _ => (0, 0)

/-- The tile row byte address, sidecar byte address and element number of element `i` of the vector of index `k` (R34),
with the tile number displaced by a plane (R40). -/
def elemPlace (sd : Side) (plane k i : Nat) : Nat × Nat × Nat :=
  let e := fmtE sd.fmt
  let base := halfBase sd.isB sd.half
  let (tile, row, n) :=
    if sd.rowAxis then (sd.tile + plane + (256 / e) * (k / 256) + i / e, k % 256, i % e)
    else (sd.tile + plane + k / e, i, k % e)
  let t := tile % 32
  (slotAddr base t + 128 * row, sideAddr base 32 t + 4 * row + n / (e / 4), n)

/-- Element `i` of the vector of index `k`, as stage 1 of cycle `x` decodes it (R34, R56-R59). -/
def stageElem (c : Core) (x : Nat) (sd : Side) (plane k i : Nat) : Fp :=
  let (ra, sa, n) := elemPlace sd plane k i
  let scale := if isMx sd.fmt then c.stageByte x sa else 127
  decodeElem sd.fmt (rawElem (c.stageByte x) ra sd.fmt n) scale

/-- Does stage 1 of cycle `x` take element `i` from a poisoned line, payload or scale (R149)? -/
def stagePoison (c : Core) (x : Nat) (sd : Side) (plane k i : Nat) : Bool :=
  let (ra, sa, n) := elemPlace sd plane k i
  c.stageMark x (ra + (elemBits sd.fmt * n) / 8) || (isMx sd.fmt && c.stageMark x sa)

/-- The vector indices, pass and plane of rank update `u` (R37, R38, R40). -/
def updateIndices (cls k u : Nat) : List Nat × Nat × Nat :=
  match cls with
  | 2 => (if 2 * u + 1 < k then [2 * u, 2 * u + 1] else [2 * u], 0, 0)
  | 6 => ([u / 3], u % 3, 8 * (u % 3))
  | _ => ([u / classPasses cls], u % classPasses cls, 0)

/-- The banks a sweep operation accumulates into: front, back. -/
def sweepBanks (raw cls : Nat) : Bool × Bool :=
  if cls = 5 ∨ cls = 6 then (true, true) else if bitAt raw 28 then (false, true) else (true, false)

/-- Signs with which a pass enters the front and the back bank; 0 stands for not at all (R38). -/
def passSigns (cls p : Nat) (banks : Bool × Bool) : Int × Int :=
  if cls = 6 then (match p with | 0 => (1, -1) | 1 => (-1, -1) | _ => (0, 1))
  else (if banks.1 then 1 else 0, if banks.2 then 1 else 0)

/-- What one rank update adds to cell (i, j): rounded value and class (R64, R67). -/
def cellProduct (c : Core) (sw : Sweep) (x u i j : Nat) : Int × Special :=
  let a := sideA sw.raw
  let b := sideB sw.raw
  let (ks, p, plane) := updateIndices sw.cls (sweepK sw.raw) u
  let (wa, wb) := passWords sw.cls p
  ks.foldl (fun acc k =>
    let ea := stageElem c x a plane k i
    let eb := stageElem c x b plane k j
    let r := if bitAt sw.raw 30 then stochasticR sw.key (sw.n0 + k) p i j else 0
    let q := product ea eb (splitWord a.fmt wa ea) (splitWord b.fmt wb eb) (bitAt sw.raw 30) r sw.acs.toInt
    (acc.1 + q.1, acc.2.join q.2)) (0, .none)

/-- Add a signed value and class to a cell of a 48-bit bank (R64, R68). -/
def Cell.add (c : Cell) (sign q : Int) (sp : Special) : Cell :=
  ⟨c.value + BitVec.ofInt 48 (sign * q), c.special.join (if sign < 0 then sp.negate else sp)⟩

/-- Add to a pair of cells as one 96-bit accumulator (R39): front low, back high. -/
def addWide (f b : Cell) (q : Int) (sp : Special) : Cell × Cell :=
  let v : BitVec 96 := (b.value ++ f.value) + BitVec.ofInt 96 q
  (⟨v.extractLsb' 0 48, f.special.join sp⟩, ⟨v.extractLsb' 48 48, b.special.join sp⟩)

/-- Where a product for row position `r` lands when its Accumulate stage is in cycle `w`: still in the array with an
original row of the drain of that bank, or in the bank at the row it will have when the shift is over (R43). -/
def landing (d : Option Drain) (w r : Nat) : Bool × Nat :=
  match d with
  | none => (false, r)
  | some d =>
    let j := w - d.start
    if j + 1 ≤ r then (true, r - j - 1) else (false, r + 255 - j)

/-- Does a drain take a bank: 0 front, 1 back (R41)? -/
def Drain.takes (d : Drain) (back : Bool) : Bool :=
  match field d.raw 7 6 with
  | 0 => !back
  | 1 => back
  | _ => true

/-- The drain whose shift of a bank falls in cycle `w`. -/
def Ope.drainAt (o : Ope) (back : Bool) (w : Nat) : Option Drain :=
  o.drains.find? (fun d => d.takes back && decide (d.start ≤ w) && decide (w ≤ d.start + 255))

/-- A cell by its landing place. -/
def readCell (bank leaving : SMap Cell) (place : Bool × Nat) (j : Nat) : Cell :=
  SMap.getD (if place.1 then leaving else bank) {} (256 * place.2 + j)

/-- The four maps a rank update may change: front bank, back bank, and the leaving rows of the drains of each. -/
structure Banks where
  front : SMap Cell
  back : SMap Cell
  leavingF : SMap Cell
  leavingB : SMap Cell
  deriving DecidableEq, Repr

/-- Add one cell's product to the banks (R64). -/
def Banks.addCell (k : Banks) (cls : Nat) (signs : Int × Int) (pf pb : Bool × Nat) (j : Nat) (q : Int) (sp : Special) : Banks :=
  if cls = 5 then
    let (f, b) := addWide (readCell k.front k.leavingF pf j) (readCell k.back k.leavingB pb j) q sp
    let k := if pf.1 then { k with leavingF := SMap.set k.leavingF (256 * pf.2 + j) f } else { k with front := SMap.set k.front (256 * pf.2 + j) f }
    if pb.1 then { k with leavingB := SMap.set k.leavingB (256 * pb.2 + j) b } else { k with back := SMap.set k.back (256 * pb.2 + j) b }
  else
    let k := if signs.1 = 0 then k else
      let c := (readCell k.front k.leavingF pf j).add signs.1 q sp
      if pf.1 then { k with leavingF := SMap.set k.leavingF (256 * pf.2 + j) c } else { k with front := SMap.set k.front (256 * pf.2 + j) c }
    if signs.2 = 0 then k else
      let c := (readCell k.back k.leavingB pb j).add signs.2 q sp
      if pb.1 then { k with leavingB := SMap.set k.leavingB (256 * pb.2 + j) c } else { k with back := SMap.set k.back (256 * pb.2 + j) c }

/-- Rows of a drain still in the array in cycle `w` hold original rows up to 254 − j; the first rank update of a CLEAR
replaces them (R30, R31). -/
def dropShifting (leaving : SMap Cell) (d : Option Drain) (w : Nat) : SMap Cell :=
  match d with
  | none => leaving
  | some d => leaving.filter (fun e => decide (254 < e.1 / 256 + (w - d.start)))

/-- Apply rank update `u` of a sweep operation, issued in cycle `x`, at the end of cycle `x + 5` (R32, R43, R64). -/
def applyUpdate (c : Core) (o : Ope) (sw : Sweep) (u x : Nat) : Ope :=
  let w := x + 5
  let df := o.drainAt false w
  let db := o.drainAt true w
  let banks := sweepBanks sw.raw sw.cls
  let (_, p, _) := updateIndices sw.cls (sweepK sw.raw) u
  let signs := passSigns sw.cls p banks
  let first := sweepClear sw.raw && u == 0
  let lf := match df with | some d => d.front | none => []
  let lb := match db with | some d => d.back | none => []
  let k0 : Banks := ⟨o.front.cells, o.back.cells, lf, lb⟩
  let k1 : Banks := if first then
      { front := if banks.1 then [] else k0.front, back := if banks.2 then [] else k0.back
        leavingF := if banks.1 then dropShifting lf df w else lf
        leavingB := if banks.2 then dropShifting lb db w else lb }
    else k0
  let k2 := (List.range (sweepRows sw.raw)).foldl (fun k i =>
    (List.range (sweepCols sw.raw)).foldl (fun k j =>
      let (q, sp) := cellProduct c sw x u i j
      if q = 0 ∧ sp = .none then k
      else k.addCell sw.cls signs (landing df w i) (landing db w i) j q sp) k) k1
  let fix (d : Drain) : Drain :=
    let d := if some d.start = df.map (·.start) then { d with front := k2.leavingF } else d
    if some d.start = db.map (·.start) then { d with back := k2.leavingB } else d
  { o with
    front := { o.front with cells := k2.front }
    back := { o.back with cells := k2.back }
    drains := o.drains.map fix }

/-- Rank updates that a sweep operation still issues: all U, or those before the one that consumed poison (R101). -/
def Sweep.total (sw : Sweep) : Nat :=
  match sw.stopped with
  | some n => n
  | none => classCount sw.cls (sweepK sw.raw)

/-- The cycle in which a sweep operation's next rank update is accumulated. -/
def Sweep.due (sw : Sweep) : Nat := sw.start + sw.next * classStep sw.cls + 5

/-- Does rank update `u` of a sweep read poison in stage 1 (R101)? -/
def Sweep.readsPoison (c : Core) (sw : Sweep) (u : Nat) : Bool :=
  let x := sw.start + u * classStep sw.cls
  let (ks, _, plane) := updateIndices sw.cls (sweepK sw.raw) u
  !c.marks.isEmpty && ks.any (fun k =>
    (List.range (sweepRows sw.raw)).any (stagePoison c x (sideA sw.raw) plane k) ||
    (List.range (sweepCols sw.raw)).any (stagePoison c x (sideB sw.raw) plane k))

/-- Remove repeats that stand side by side. -/
def dedupRuns : List Nat → List Nat
  | a :: b :: r => if a = b then dedupRuns (b :: r) else a :: dedupRuns (b :: r)
  | r => r

/-- Tile-store lines that rank update `u` of a sweep reads: those that its A and B vectors touch (R396). -/
def Sweep.linesRead (sw : Sweep) (u : Nat) : Nat :=
  let (ks, _, plane) := updateIndices sw.cls (sweepK sw.raw) u
  let side (sd : Side) (n k : Nat) : Nat := (dedupRuns ((List.range n).map (fun i => (elemPlace sd plane k i).1 / 128))).length
  (ks.map (fun k => side (sideA sw.raw) (sweepRows sw.raw) k + side (sideB sw.raw) (sweepCols sw.raw) k)).foldl (· + ·) 0

/-- Tile-store lines that a drained row reads as its fused operand (R48, R124, R396). -/
def fusedLines (raw : Nat) : Nat :=
  if field raw 13 12 = 0 then 0
  else if field raw 15 14 = 2 then 1
  else if bitAt raw 16 then 4 else 8

/-! ### Hazards foreseen at issue (R46) -/

/-- Destination slots of an output (R47). -/
def outSlots : Nat → Nat
  | 0 => 8
  | 1 => 4
  | 2 => 4
  | 7 => 1
  | 9 => 16
  | _ => 2

/-- Cycle after a drain's issue in which its row of drain order 0 is written (R41, R48). -/
def drainDelay (raw : Nat) : Nat := if field raw 13 12 = 0 then 4 else 6

/-- Operand half a drain writes into, if any: is it B's, and which half. -/
def drainHalf (raw : Nat) : Option (Bool × Nat) :=
  match field raw 30 28 with
  | 1 => some (false, 0)
  | 2 => some (false, 1)
  | 3 => some (true, 0)
  | 4 => some (true, 1)
  | _ => none

/-- Does a side's read of index `k` touch tile row `row` of a slot in a drain's destination? -/
def touchesRow (sd : Side) (plane k active row first n : Nat) : Bool :=
  let e := fmtE sd.fmt
  let inDest (t : Nat) : Bool := decide (first ≤ t % 32) && decide (t % 32 < first + n)
  if sd.rowAxis then
    k % 256 == row &&
      (List.range (256 / e)).any (fun g => decide (g * e < active) && inDest (sd.tile + plane + (256 / e) * (k / 256) + g))
  else decide (row < active) && inDest (sd.tile + plane + k / e)

/-- The hazard of a stage-1 read meeting a drain's row writes: 2 in the cycle of the write, 3 inside the return path. -/
def readHazard (sw : Sweep) (draw dstart u : Nat) : Option Nat :=
  match drainHalf draw with
  | none => none
  | some (isB, half) =>
    let x := sw.start + u * classStep sw.cls
    let w0 := dstart + drainDelay draw
    let (ks, _, plane) := updateIndices sw.cls (sweepK sw.raw) u
    let sides := [(sideA sw.raw, sweepRows sw.raw), (sideB sw.raw, sweepCols sw.raw)].filter
      (fun e => e.1.isB == isB && e.1.half == half)
    let hit (dist : Nat) : Bool :=
      decide (w0 + dist ≤ x) && decide (x - dist - w0 < 256) &&
        sides.any (fun e => ks.any (fun k =>
          touchesRow e.1 plane k e.2 (255 - (x - dist - w0)) (field draw 36 31) (outSlots (field draw 11 8))))
    if hit 0 then some 2
    else if (List.range 6).any (fun d => hit (d + 1)) then some 3 else none

/-- Rank updates of a sweep whose reads fall in the window of a drain's row writes. -/
def windowUpdates (sw : Sweep) (dstart : Nat) : List Nat :=
  (List.range 280).filterMap (fun i =>
    let x := dstart + i
    if sw.start ≤ x ∧ (x - sw.start) % classStep sw.cls = 0 ∧ (x - sw.start) / classStep sw.cls < sw.total then
      some ((x - sw.start) / classStep sw.cls) else none)

/-- Hazards of a new sweep operation against drains in flight: kind and bank (R46). The spec says that every early issue is one event;
one for each kind, bank and drain that meet is a DESIGN CHOICE (log entry 81). -/
def sweepHazards (o : Ope) (sw : Sweep) : List (Nat × Nat) :=
  let banks := sweepBanks sw.raw sw.cls
  let last := sw.start + (sw.total - 1) * classStep sw.cls + 5
  let meets (back : Bool) : Bool := o.drains.any (fun d =>
    d.takes back && decide (sw.start + 5 ≤ d.start + 255) && decide (d.start ≤ last))
  (if banks.1 && meets false then [(0, 0)] else []) ++ (if banks.2 && meets true then [(0, 1)] else []) ++
    (o.drains.map (fun d => (d.raw, d.start)) ++ o.lastDrain.toList).flatMap (fun d =>
      ((windowUpdates sw d.2).filterMap (readHazard sw d.1 d.2)).eraseDups.map (fun k => (k, 0)))

/-- Hazards of a new drain against sweep operations in flight (R46): products pending on its bank, accumulations that fall
under its shift, and reads still to be made that its rows meet. Counted as `sweepHazards` counts (log entry 81). -/
def drainHazards (o : Ope) (d : Drain) : List (Nat × Nat) :=
  o.sweeps.flatMap (fun sw =>
    let banks := sweepBanks sw.raw sw.cls
    let st := classStep sw.cls
    let idx := List.range sw.total
    let pending := idx.any (fun u => decide (sw.start + u * st < d.start) && decide (d.start ≤ sw.start + u * st + 5))
    let under := idx.any (fun u => decide (d.start ≤ sw.start + u * st))
    let bank (meets : Bool) (n : Nat) : List (Nat × Nat) :=
      if meets then (if pending then [(1, n)] else []) ++ (if under then [(0, n)] else []) else []
    bank (d.takes false && banks.1) 0 ++ bank (d.takes true && banks.2) 1) ++
  o.sweeps.flatMap (fun sw => ((windowUpdates sw d.start).filterMap (readHazard sw d.raw d.start)).eraseDups.map (fun k => (k, 0)))

/-! ### Issue -/

/-- OPE.SR_SEED as a CLEAR issued in cycle `t` latches it: a write shows from the cycle after its own (R66). -/
def State.seedAt (s : State) (id : CoreId) (t : Nat) : Word64 :=
  match (s.ope id).seedWas with
  | some (w, old) => if t ≤ w then old else (s.reg (opePage id) 0x114) ++ (s.reg (opePage id) 0x110)
  | none => (s.reg (opePage id) 0x114) ++ (s.reg (opePage id) 0x110)

/-- Keep the seed that a write of OPE.SR_SEED in cycle `t` replaces (R66). -/
def State.keepSeed (s : State) (id : CoreId) (t : Nat) : State :=
  let o := s.ope id
  match o.seedWas with
  | some (w, _) => if w = t then s else s.setOpe id { o with seedWas := some (t, (s.reg (opePage id) 0x114) ++ (s.reg (opePage id) 0x110)) }
  | none => s.setOpe id { o with seedWas := some (t, (s.reg (opePage id) 0x114) ++ (s.reg (opePage id) 0x110)) }

/-- The sweep operation that an MX.SWEEP would start (R29, R62). A sweep operation without CLEAR into both banks takes the front bank's
ACS, key and n: where the banks hold different ones the spec names none (DESIGN CHOICE, log entry 81). -/
def newSweep (s : State) (id : CoreId) (x : Ctx) (raw t word : Nat) : Sweep :=
  let o := s.ope id
  let cls := (rateClass (field raw 23 20) (field raw 27 24)).getD 0
  let bank := if (sweepBanks raw cls).1 then o.front else o.back
  let seed := s.seedAt id t
  let layer := ((s.core id).ctx x).layer
  if sweepClear raw then
    ⟨raw, t, x, word, layer, cls, BitVec.ofNat 10 (field raw 73 64), ⟨seed, layer, o.coordRow, o.coordCol⟩, 0, 0, none⟩
  else ⟨raw, t, x, word, layer, cls, bank.acs, bank.key, bank.n, 0, none⟩

/-- The drain that an MX.DRAIN would start: it takes its bank's ACS and cells (R41, R62). -/
def newDrain (s : State) (id : CoreId) (x : Ctx) (raw t : Nat) (word : Nat := 0) : Drain :=
  let o := s.ope id
  let back := field raw 7 6 == 1
  ⟨raw, t, x, ((s.core id).ctx x).layer, if back then o.back.acs else o.front.acs, o.front.cells, o.back.cells, 0,
    if back then o.back.key else o.front.key, word⟩

/-- Is latency audit on (R94)? -/
def auditOn (s : State) (id : CoreId) : Bool := bitAt (s.regN (corePage id) 0x010) 8

/-- Halt causes of MX.SWEEP at issue (R28, R29, R34, R36, R46). -/
def sweepCauses (s : State) (id : CoreId) (x : Ctx) (raw t word : Nat) : List (Nat × Nat) :=
  let o := s.ope id
  (if o.holder ≠ x then [(causeConflict, 4)] else []) ++
  (match rateClass (field raw 23 20) (field raw 27 24) with
    | none => [(causeReserved, 4)]
    | some _ =>
      (if min (kMax (field raw 23 20)) (kMax (field raw 27 24)) < sweepK raw then [(causeReserved, 4)] else []) ++
      (if t < o.sweepFree then [(causeConflict, 4)] else []) ++
      (if auditOn s id && !(sweepHazards o (newSweep s id x raw t word)).isEmpty then [(causeAudit, 4)] else []))

/-- Halt causes of MX.DRAIN at issue (R42, R46, R124). A sweep operation of the same word counts as issued before it. -/
def drainCauses (s : State) (id : CoreId) (x : Ctx) (raw t : Nat) (beside : Option Sweep) : List (Nat × Nat) :=
  let o := s.ope id
  let bank := field raw 7 6
  let fmt := field raw 11 8
  let fuse := field raw 13 12
  let addr := field raw 27 17
  let dest := field raw 36 31
  let wide := o.front.cls == 5
  let res := (bank == 2 && !(o.front.cls == 5 && o.back.cls == 5)) || (bank == 0 && wide) || (bank == 1 && o.back.cls == 5) ||
    (bank == 2 && fmt == 9) || (fuse != 0 && fmt == 9) || (field raw 30 28 != 0 && 32 ≤ dest) ||
    (fuse != 0 && decide (1856 < addr + (if field raw 15 14 = 0 then 256 else 1)))
  let ali := dest % outSlots fmt != 0 || (fuse != 0 && field raw 15 14 == 0 && addr % 64 != 0)
  let o' := match beside with | some sw => { o with sweeps := o.sweeps ++ [sw] } | none => o
  (if o.holder ≠ x then [(causeConflict, 5)] else []) ++
  (if res then [(causeReserved, 5)] else []) ++
  (if ali then [(causeAlignment, 5)] else []) ++
  (if t < o.drainFree then [(causeConflict, 5)] else []) ++
  (if auditOn s id && !(drainHazards o' (newDrain s id x raw t)).isEmpty then [(causeAudit, 5)] else [])

/-- Record the hazards of an issue in OPE.HAZARD and count each (R46). -/
def opeHazards (s : State) (id : CoreId) (x : Ctx) (layer : Nat) (hs : List (Nat × Nat)) : State :=
  hs.foldl (fun s h =>
    let p := opePage id
    let s := s.record p 0x108 (h.1 * 2 ^ 28 + h.2 * 2 ^ 27 + x.idx * 2 ^ 25 + layer)
    (s.raise p 0).bump p 4) s

/-- MX.SWEEP issues (R29, R30, R62). -/
def issueSweep (s : State) (id : CoreId) (x : Ctx) (raw t word : Nat) : State :=
  let sw := newSweep s id x raw t word
  let o := s.ope id
  let s := opeHazards s id x sw.layer (sweepHazards o sw)
  let banks := sweepBanks raw sw.cls
  let upd (b : Bank) : Bank :=
    let b := if sweepClear raw then { b with acs := sw.acs, key := sw.key, n := 0, cls := sw.cls } else b
    { b with n := (b.n + sweepK raw) % 2 ^ 32 }
  let o := { o with
    front := if banks.1 then upd o.front else o.front
    back := if banks.2 then upd o.back else o.back
    sweeps := o.sweeps ++ [sw]
    sweepFree := t + classCount sw.cls (sweepK raw) * classStep sw.cls
    lastClass := sw.cls }
  (s.setOpe id o).bump (opePage id) 1

/-- The cycle from which a drain is in flight no more (R41, R48). -/
def drainEnd (raw start : Nat) : Nat := start + drainDelay raw + 256

/-- MX.DRAIN issues (R41): the bank's rows leave; positions the shift fills hold zero (R62). The cycles of its flight that no
earlier drain covers join those of DRN counter 0x04, which `drainAhead` takes out again until they have passed (R53). -/
def issueDrain (s : State) (id : CoreId) (x : Ctx) (raw t : Nat) (word : Nat := 0) : State :=
  let d := newDrain s id x raw t word
  let o := s.ope id
  let s := opeHazards s id x d.layer (drainHazards o d)
  let clear (b : Bank) (back : Bool) : Bank := if d.takes back then { b with cells := [] } else b
  let o := { o with
    front := clear o.front false
    back := clear o.back true
    drains := o.drains ++ [d]
    drainFree := t + 256 }
  let from_ := ((s.ope id).drains.map (fun e => drainEnd e.raw e.start)).foldl max t
  let s := ((s.setOpe id o).bump (drnPage id) 0).countCycles (drnPage id) 4 (drainEnd raw t - from_)
  if field raw 13 12 = 0 then s else s.bump (drnPage id) 2

/-- Cycles from `t` on that are already in DRN counter 0x04 for the drains in flight (R53). -/
def drainAhead (o : Ope) (t : Nat) : Nat := (o.drains.map (fun d => drainEnd d.raw d.start)).foldl max t - t

/-- Rank updates issued before cycle `t` and not yet accumulated (R52). -/
def issuedAhead (o : Ope) (t : Nat) : Nat :=
  (o.sweeps.map (fun sw =>
    min sw.total ((t + classStep sw.cls - 1 - sw.start) / classStep sw.cls) - sw.next)).foldl (· + ·) 0

/-- MX.COORD (R66). -/
def issueCoord (s : State) (id : CoreId) (raw : Nat) : State :=
  let o := s.ope id
  s.setOpe id { o with coordRow := field raw 47 32, coordCol := field raw 63 48 }

/-! ### Rank updates and drained rows -/

/-- The sweep operation whose next rank update is accumulated in cycle `t`. -/
def dueSweep (o : Ope) (t : Nat) : Option Sweep :=
  o.sweeps.find? (fun sw => decide (sw.next < sw.total) && decide (sw.due = t))

/-- Count a rank update that leaves the pipeline, unless a CLEAR of its counter since its issue has taken it out (R52, R387). -/
def countUpdate (s : State) (id : CoreId) : State :=
  let o := s.ope id
  let s := if 0 < o.cleared then s.setOpe id { o with cleared := o.cleared - 1 } else s.bump (opePage id) 0
  s.countCycles (opePage id) 2 1

/-- Accumulate the rank update due in cycle `t` (R32), read from the store as core `c` holds it. A sweep operation with no update left is
finished. -/
def rankUpdate (s : State) (id : CoreId) (t : Nat) (c : Core) : State :=
  let o := s.ope id
  match dueSweep o t with
  | none => s
  | some sw =>
    let o := applyUpdate c o sw sw.next (t - 5)
    let adv (w : Sweep) : Sweep := if w.start = sw.start then { w with next := w.next + 1 } else w
    let o := { o with sweeps := (o.sweeps.map adv).filter (fun w => decide (w.next < w.total)) }
    (countUpdate (s.setOpe id o) id).bumpBy (tstPage id) 0 (sw.linesRead sw.next)

/-- The value of a leaving cell (R63, R70, R73): 96 bits for an FP32-class drain, whose two SPECIALs join as two products' classes do
where they differ (DESIGN CHOICE, log entry 81: the spec says nothing of it). -/
def cellFp (d : Drain) (i j : Nat) : Fp :=
  let f := SMap.getD d.front {} (256 * i + j)
  let b := SMap.getD d.back {} (256 * i + j)
  let (v, sp) : Int × Special :=
    match field d.raw 7 6 with
    | 0 => (f.value.toInt, f.special)
    | 1 => (b.value.toInt, b.special)
    | _ => ((b.value ++ f.value : BitVec 96).toInt, f.special.join b.special)
  sp.toFp (.fin (decide (v < 0)) v.natAbs d.acs.toInt)

/-- The INT64 code of a leaving cell (R73, R74). -/
def cellInt (d : Drain) (i j : Nat) : Nat :=
  let c := SMap.getD (if field d.raw 7 6 = 1 then d.back else d.front) {} (256 * i + j)
  match c.special with
  | .none => wrapTo 64 c.value.toInt
  | .pinf => 0x7FFFFFFFFFFFFFFF
  | .ninf => 0x8000000000000001
  | .nan => 0x8000000000000000

/-- The fused element for output (i, j), as FP32 (R48, R124). -/
def fusedElem (c : Core) (raw i j : Nat) : Fp :=
  let base := fusedBase + 1024 * field raw 27 17
  let (row, n) := match field raw 15 14 with | 0 => (i, j) | 1 => (0, j) | _ => (0, i)
  if bitAt raw 16 then decodeFp bf16 (Mem.read c.store (base + 1024 * row + 2 * n) 2)
  else decodeFp fp32 (Mem.read c.store (base + 1024 * row + 4 * n) 4)

/-- Are the fused elements of row `i` on a poisoned line (R48, R101)? -/
def fusedPoison (c : Core) (raw i : Nat) : Bool :=
  let base := fusedBase + 1024 * field raw 27 17
  let w := if bitAt raw 16 then 2 else 4
  let (a, n) := match field raw 15 14 with
    | 0 => (base + 1024 * i, 256 * w)
    | 1 => (base, 256 * w)
    | _ => (base + w * i, w)
  field raw 13 12 != 0 && !c.marks.isEmpty &&
    (List.range (n / 128 + 1)).any (fun k => decide (128 * k < n) && c.marks.contains (a / 128 + k))

/-- Round to FP32 as the fused path does: to nearest even, saturating with a flag (R48, R71). -/
def roundSat (v : Fp) : Fp × Bool :=
  let r := convPlain fp32 v
  (decodeFp fp32 r.1, r.2)

/-- Output values of row `i` before conversion, each with the overflow flag of the fused path (R48). -/
def drainValues (c : Core) (d : Drain) (i : Nat) : List (Fp × Bool) :=
  (List.range 256).map (fun j =>
    let v := cellFp d i j
    match field d.raw 13 12 with
    | 0 => (v, false)
    | op =>
      let a := roundSat v
      let e := fusedElem c d.raw i j
      let r := roundSat (if op = 1 then a.1.add e else a.1.mul e)
      (r.1, a.2 || r.2))

/-- Element codes with overflow flags and scale bytes of output row `i` (R47, R71-R74). -/
def drainRow (c : Core) (d : Drain) (i : Nat) : List (Nat × Bool) × List Nat :=
  let fmt := field d.raw 11 8
  if fmt = 9 then ((List.range 256).map (fun j => (cellInt d i j, false)), [])
  else
    let vs := drainValues c d i
    let r := convRow fmt (vs.map (·.1))
    ((r.1.zip vs).map (fun e => (e.1.1, e.1.2 || e.2.2)), r.2)

/-- Bytes 4·row to 4·row + 3 of the sidecar of output slot `n` (R58, R74). -/
def sideWord (fmt : Nat) (scales : List Nat) (acs : BitVec 10) (row n : Nat) : Nat :=
  if fmt = 9 then (if row = 0 ∧ n = 0 then acs.toNat else 0)
  else packElems 8 ((scales.drop (4 * n)).take 4)

/-- Write one output row into its destination slots at the end of cycle `t`; a row made from a poisoned operand carries the mark. -/
def writeRow (c : Core) (raw row t : Nat) (tiles : List Nat) (scales : List Nat) (acs : BitVec 10) (bad : Bool := false) : Core :=
  let (base, slots) := destRegion (field raw 30 28)
  let fmt := field raw 11 8
  let side := isMx fmt || fmt == 9
  let half := field raw 30 28 != 0
  (tiles.zipIdx).foldl (fun c e =>
    let n := field raw 36 31 + e.2
    let a := slotAddr base n + 128 * row
    let b := sideAddr base slots n + 4 * row
    let c := if half then c.logHalf t true a 128 else c
    let c := { c with store := Mem.write c.store a 128 e.1
                      marks := if bad then NSet.insert c.marks (a / 128) else NSet.erase c.marks (a / 128) }
    if side then
      let c := if half then c.logHalf t true b 4 else c
      { c with store := Mem.write c.store b 4 (sideWord fmt scales acs row e.2) }
    else c) c

/-- The drain whose next row is written in cycle `t`. -/
def dueDrain (o : Ope) (t : Nat) : Option Drain :=
  o.drains.find? (fun d => decide (d.start + drainDelay d.raw + d.next = t))

/-- First overflowed column of a row. -/
def firstOverflow (xs : List (Nat × Bool)) : Option Nat := (xs.zipIdx.find? (fun e => e.1.2)).map (·.2)

/-- Record a row's conversion overflows in the drain unit (R49), the first in DRN.OVF_STATUS and DRN.OVF_TAG, and send the
numerics trigger of R311, one for a row. -/
def drainOverflow (s : State) (id : CoreId) (d : Drain) (i : Nat) (xs : List (Nat × Bool)) : State :=
  match firstOverflow xs with
  | none => s
  | some j =>
    let p := drnPage id
    let n := (xs.filter (·.2)).length
    let both := field d.raw 7 6 == 2
    let first := s.isFirst p 0x104
    let s := s.record p 0x104 (b2n both * 2 ^ 25 + (if both then 0 else field d.raw 7 6) * 2 ^ 24 + i * 2 ^ 16 + j * 2 ^ 8 + field d.raw 11 8)
    let s := if first then s.setRegN p 0x108 (d.ctx.idx * 2 ^ 16 + d.layer) else s
    let s := if first && n == 1 then s else s.setField p 0x104 30 1 1
    let tile := (d.key.tileRow % 2 ^ 16) * 2 ^ 16 + d.key.tileCol % 2 ^ 16
    let s : State := { s with numIn := s.numIn ++ [⟨1, coreIdx id, d.ctx, d.layer, tile, i, 0⟩] }
    (s.raise p 0).bumpBy p 3 n

/-- Write the drained row due in cycle `t` (R41, R47-R49). A poisoned fused operand halts the core at the drain's word, and the drain runs on
(R98, R101). -/
def drainRowWriteAt (s : State) (id : CoreId) (t : Nat) : State :=
  let o := s.ope id
  match dueDrain o t with
  | none => s
  | some d =>
    let i := 255 - d.next
    let fmt := field d.raw 11 8
    let (xs, scales) := drainRow (s.core id) d i
    let bad := fusedPoison (s.core id) d.raw i
    let s := s.modCore id (fun c => writeRow c d.raw i t (packRow fmt (xs.map (·.1))) scales d.acs bad)
    let adv (e : Drain) : Drain := if e.start = d.start then { e with next := e.next + 1 } else e
    let s := s.setOpe id { o with
      drains := (o.drains.map adv).filter (fun e => decide (e.next < 256))
      lastDrain := if d.next = 255 then some (d.raw, d.start) else o.lastDrain }
    let s := (s.bumpBy (tstPage id) 0 (fusedLines d.raw)).bumpBy (tstPage id) 1 (outSlots fmt)
    let s := (drainOverflow s id d i xs).bump (drnPage id) 1
    if bad then haltCore s id (some d.ctx) causePoison false d.word 5 else s

/-- OPE.STATE as it reads in the core's present cycle (R51). -/
def opeStateReg (o : Ope) (now : Nat) : Nat :=
  let dr (back : Bool) : Bool := (o.drainAt back now).isSome
  let issuing := o.sweeps.any (fun sw => decide (sw.start ≤ now) && decide (now < sw.start + sw.total * classStep sw.cls))
  let pend := o.sweeps.any (fun sw => (List.range 5).any (fun d =>
    decide (sw.start + d + 1 ≤ now) && (now - d - 1 - sw.start) % classStep sw.cls == 0 &&
      decide ((now - d - 1 - sw.start) / classStep sw.cls < sw.total)))
  o.lastClass * 16 + b2n (dr true) * 8 + b2n (dr false) * 4 + b2n pend * 2 + b2n issuing

/-- DRN.STATE as it reads (R52). -/
def drnStateReg (o : Ope) : Nat :=
  let d := o.drains.head?
  b2n (match d with | some d => field d.raw 7 6 == 2 | none => false) * 4 +
  b2n (match d with | some d => field d.raw 13 12 != 0 | none => false) * 2 + b2n (!o.drains.isEmpty)

/-- Is something of the OPE or the drain unit due in a cycle before `t`? -/
def opeDueBefore (o : Ope) (t : Nat) : Bool :=
  o.sweeps.any (fun sw => decide (sw.next < sw.total) && decide (sw.due < t)) ||
    o.drains.any (fun d => decide (d.start + drainDelay d.raw + d.next < t))

/-- Is something of a context still in flight in the OPE (R98: it runs to completion)? -/
def opeBusyFor (o : Ope) (x : Ctx) : Bool := o.sweeps.any (fun sw => sw.ctx == x) || o.drains.any (fun d => d.ctx == x)

end Sys2Proof.Machine
end

