-- ==== Sys2Proof/Machine/Places.lean ====
section
/-! DEFINITION. The address map (R186-R191), the interleave (R203, R219), directory entries, and reads and writes of the
places where bytes live: HBM addresses, and pool frames above them. -/

namespace Sys2Proof.Machine

/-! ### Windows and tiles -/

/-- What a device address names (R186, R189): a byte of a tile's payload or sidecar, a byte of an alias window, a byte of
the system windows, a register, nothing. -/
inductive Spot where
  | tile (t : Nat) (side : Bool) (off : Nat)
  | alias_ (fmt off : Nat)
  | system (addr : Nat)
  | register (off : Nat)
  | none
  deriving DecidableEq, Repr

/-- Data tiles: 736 GiB in tiles of 32 KiB. -/
abbrev dataTileCount : Nat := 0x1700000

/-- First tile number of the Stash windows (R189). -/
abbrev stashTile0 : Nat := 0x2000000

/-- Tile number of depth `d` of cluster `c` (R189). -/
def stashTile (c d : Nat) : Nat := stashTile0 + 0x20000 * c + d

/-- Is a tile number a data tile? -/
def isDataTile (t : Nat) : Bool := decide (t < dataTileCount)

/-- The cluster and depth of a Stash tile. -/
def stashOf (t : Nat) : Option (Nat × Nat) :=
  if stashTile0 ≤ t ∧ t < stashTile0 + 40 * 0x20000 then some ((t - stashTile0) / 0x20000, t % 0x20000) else none

/-- The format and data tile of a tile of an alias window. -/
def aliasOf (t : Nat) : Option (Nat × Nat) :=
  if 0x4000000 ≤ t ∧ t < 0x4000000 + 5 * 0x2000000 ∧ t % 0x2000000 < dataTileCount then
    some ((t - 0x4000000) / 0x2000000, t % 0x2000000)
  else none

/-- What a device address names. -/
def spotOf (a : Nat) : Spot :=
  if a < 0xB800000000 then .tile (a / 0x8000) false (a % 0x8000)
  else if a < 0xBDC0000000 then .tile ((a - 0xB800000000) / 0x400) true (a % 0x400)
  else if a < 0xC000000000 then .system a
  else if 0x10000000000 ≤ a ∧ a < 0x10000000000 + 40 * 0x100000000 then
    .tile (a / 0x8000) false (a % 0x8000)
  else if 0x14000000000 ≤ a ∧ a < 0x14000000000 + 40 * 0x8000000 then
    .tile (stashTile0 + (a - 0x14000000000) / 0x400) true (a % 0x400)
  else if 0x20000000000 ≤ a ∧ a < 0x20000000000 + 5 * 0x10000000000 ∧ a % 0x10000000000 < 0xB800000000 then
    .alias_ ((a - 0x20000000000) / 0x10000000000) (a % 0x10000000000)
  else if 0xFFFFFF000000 ≤ a ∧ a < 0x1000000000000 then .register (a - 0xFFFFFF000000)
  else .none

/-- Device address of a byte of a tile or of its sidecar (R189). -/
def tileAddr (t : Nat) (side : Bool) (off : Nat) : Nat :=
  if !side then 0x8000 * t + off
  else if t < dataTileCount then 0xB800000000 + 0x400 * t + off else 0x14000000000 + 0x400 * (t - stashTile0) + off

/-! ### The interleave -/

/-- A line's place in the stacks (R203). -/
structure HbmSpot where
  stack : Nat
  channel : Nat
  pseudo : Nat
  bank : Nat
  row : Nat
  column : Nat
  deriving DecidableEq, Repr

/-- The fold f of R203. -/
def hbmFold (m : Nat) : Nat := (m ^^^ (m >>> 8) ^^^ (m >>> 16)) % 256

/-- `hbm_map` of R203. -/
def hbmMap (a : Nat) : HbmSpot :=
  let l := a / 128
  let m := l / 256
  let p8 := (l % 256) ^^^ hbmFold m
  let g := m % 3
  let loc := m / 3
  let row := loc / 512
  ⟨4 * g + p8 / 64, (p8 / 2) % 32, p8 % 2, ((loc / 8) ^^^ row) % 64, row, loc % 8⟩

/-- `hbm_unmap` of R219. -/
def hbmUnmap (h : HbmSpot) : Nat :=
  let loc := h.row * 512 + ((h.bank ^^^ h.row) % 64) * 8 + h.column
  let m := 3 * loc + h.stack / 4
  let p8 := (h.stack % 4) * 64 + h.channel * 2 + h.pseudo
  (m * 256 + (p8 ^^^ hbmFold m)) * 128

/-- A row's name. -/
def HbmSpot.rowKey (h : HbmSpot) : Nat := ((h.channel * 2 + h.pseudo) * 64 + h.bank) * 16384 + h.row

/-- The line of a row's column on a stack. -/
def rowSpot (stack key column : Nat) : HbmSpot :=
  ⟨stack, key / 16384 / 128, (key / 16384 / 64) % 2, (key / 16384) % 64, key % 16384, column⟩

/-- The directory agent of a tile (R192): the stack of its byte 0, or 12 + c for the STK unit of cluster c. -/
def agentOf (t : Nat) : Nat :=
  match stashOf t with
  | some (c, _) => 12 + c
  | none => (hbmMap (0x8000 * t)).stack

/-! ### Directory entries -/

/-- Index of a tile's entry (R190). -/
def entryIdx (t : Nat) : Nat := if t < dataTileCount then t else t - stashTile0 + dataTileCount

/-- A tile's directory entry. After firmware's initialisation a data tile has its home in HBM (R190). -/
def State.entry (s : State) (t : Nat) : Nat :=
  (SMap.getD s.mem.dir (if s.mem.dirInit && isDataTile t then BitVec.ofNat 64 (2 ^ 63) else 0) (entryIdx t)).toNat

/-- Write a tile's directory entry. -/
def State.setEntry (s : State) (t e : Nat) : State :=
  { s with mem.dir := SMap.set s.mem.dir (entryIdx t) (BitVec.ofNat 64 e) }

/-- VALID of an entry. -/
def eValid (e : Nat) : Bool := bitAt e 63
/-- TIER of an entry. -/
def eTier (e : Nat) : Nat := field e 62 62
/-- MOVING of an entry. -/
def eMoving (e : Nat) : Bool := bitAt e 61
/-- POISON of an entry. -/
def ePoison (e : Nat) : Bool := bitAt e 60
/-- REMAPPED of an entry. -/
def eRemapped (e : Nat) : Bool := bitAt e 59
/-- STASH_RES of an entry. -/
def eStashRes (e : Nat) : Bool := bitAt e 58
/-- MOVES of an entry. -/
def eMoves (e : Nat) : Nat := field e 57 50
/-- CLUSTER of an entry. -/
def eCluster (e : Nat) : Nat := field e 39 34
/-- FRAME of an entry. -/
def eFrame (e : Nat) : Nat := field e 33 25
/-- SPARE of an entry. -/
def eSpare (e : Nat) : Nat := field e 16 0

/-- Set one bit of an entry. -/
def eBit (e i : Nat) (b : Bool) : Nat := putField e i 1 (b2n b)

/-- A place in a pool: above every HBM address. -/
def poolPlace (c f : Nat) : Nat := 2 ^ 40 + (512 * c + f) * 0x8400

/-- The place of a spare frame (R186). -/
def sparePlace (k : Nat) : Nat := 0xBDD0000000 + k * 0x8400

/-- Data tile that lends depth `d` of cluster `c` its HBM frame (R190). -/
def State.lender (s : State) (c d : Nat) : Nat := field (s.regN ⟨.stk, c⟩ 0x104) 24 0 + d

/-- Payload and sidecar of a data tile's HBM frame, natural or spare (R190). -/
def State.hbmFrame (s : State) (t : Nat) : Nat × Nat :=
  let e := s.entry t
  if eRemapped e then (sparePlace (eSpare e), sparePlace (eSpare e) + 0x8000)
  else (0x8000 * t, 0xB800000000 + 0x400 * t)

/-- The frame of a tile that lies in HBM. -/
def State.hbmHome (s : State) (t : Nat) : Nat × Nat :=
  match stashOf t with
  | some (c, d) => s.hbmFrame (s.lender c d)
  | none => s.hbmFrame t

/-- Payload and sidecar places of a tile's home (R191). -/
def State.home (s : State) (t : Nat) : Nat × Nat :=
  let e := s.entry t
  if eTier e = 1 then (poolPlace (eCluster e) (eFrame e), poolPlace (eCluster e) (eFrame e) + 0x8000)
  else s.hbmHome t

/-! ### Reads and writes of places -/

/-- A stack's state. -/
def State.stack (s : State) (h : Nat) : Stack := SMap.getD s.mem.hbm {} h

/-- Put a stack's state. -/
def State.setStack (s : State) (h : Nat) (v : Stack) : State := { s with mem.hbm := SMap.set s.mem.hbm h v }

/-- Is a stack lost, or the module retired (R222, R445)? -/
def State.anyLost (s : State) : Bool := s.mem.allPoison || s.mem.hbm.any (fun e => e.2.lost)

/-- Does the line that holds a place lie on a lost stack? -/
def State.placeLost (s : State) (a : Nat) : Bool :=
  s.anyLost && decide (a < 0xC000000000) && (s.mem.allPoison || (s.stack (hbmMap a).stack).lost)

/-- Does the 128-byte line of a place travel with its poison mark (R214, R222)? -/
def State.linePoisoned (s : State) (a : Nat) : Bool := NSet.anyIn s.mem.poison (a / 128 * 4) 4 || s.placeLost a

/-- Is poison met in `[a, a + n)`? -/
def State.meetsPoison (s : State) (a n : Nat) : Bool :=
  NSet.anyIn s.mem.poison (a / 128 * 4) (4 * ((a + n + 127) / 128 - a / 128)) ||
    (s.anyLost && (List.range ((a + n + 127) / 128 - a / 128)).any (fun i => s.placeLost ((a / 128 + i) * 128)))

/-- The lines of `[a, a + n)`, counted from 0, that travel with their poison mark. -/
def State.lineMarks (s : State) (a n : Nat) : NSet :=
  let l := a / 128
  (List.range ((n + 127) / 128)).filter (fun i => s.linePoisoned ((l + i) * 128))

/-- Write bytes of one sector (R215): a whole sector clears its poison, a part of a poisoned sector is lost. -/
def State.writePart (s : State) (a n v : Nat) : State :=
  if n = 32 then { s with mem.dram := Mem.write s.mem.dram a 32 v, mem.poison := NSet.erase s.mem.poison (a / 32) }
  else if s.mem.poison.contains (a / 32) then s
  else { s with mem.dram := Mem.write s.mem.dram a n v }

/-- Write the low `n` bytes of a number at a place, sector by sector (R215). -/
def State.writePlace (s : State) (a n v : Nat) : Nat → State
  | 0 => s
  | fuel + 1 =>
    if n = 0 then s
    else
      let k := min n (32 - a % 32)
      (s.writePart a k (v % 256 ^ k)).writePlace (a + k) (n - k) (v / 256 ^ k) fuel

/-- Write the low `n` bytes of a number at a place. -/
def State.put (s : State) (a n v : Nat) : State := s.writePlace a n v (n / 32 + 2)

/-- Write a line as poison in all four sectors (R215). -/
def State.poisonLine (s : State) (a : Nat) : State := { s with mem.poison := NSet.insertRange s.mem.poison (a / 128 * 4) 4 }

/-- Write whole lines, `n` bytes from a place on a 128-byte boundary, with the poison marks of their lines (R215). -/
def State.putLines (s : State) (a n : Nat) (bytes : List Host.Cell) (from_ : Nat) (marks : NSet) : State :=
  let ps := (marks.filter (fun m => decide (m < n / 128))).flatMap (fun m => (List.range 4).map (fun i => a / 32 + 4 * m + i))
  { s with
    mem.dram := Mem.copy s.mem.dram a n bytes from_
    mem.poison := NSet.eraseRange s.mem.poison (a / 32) (n / 32) ++ ps }

/-- The DIR or STK page of an agent. -/
def agentPage (g : Nat) : Page := if g < 12 then ⟨.dir, g⟩ else ⟨.stk, g - 12⟩

/-! ### What each requester may reach -/

/-- The partition whose tile ranges bound a requester, none for a secure requester (R393, R401). -/
def State.bound (s : State) (who : Requester) : Option Nat := if secure who then none else some (s.reqPart who)

/-- Is a tile in a partition's range (R401)? -/
def State.tileInPart (s : State) (p : Option Nat) (t : Nat) : Bool :=
  match p with
  | none => true
  | some p =>
    match stashOf t with
    | some (c, _) => decide (s.clusterPart c = p)
    | none => decide (field (s.regN ⟨.part, 0⟩ (0x140 + 8 * p)) 24 0 ≤ t) && decide (t ≤ field (s.regN ⟨.part, 0⟩ (0x144 + 8 * p)) 24 0)

/-- Is a tile number in the data range of a core's tile requests (R133, R187, R401)? -/
def State.tileReachable (s : State) (cluster t : Nat) (storePlain : Bool) : Bool :=
  let p := some (s.clusterPart cluster)
  if isDataTile t then s.tileInPart p t
  else match stashOf t with
    | some _ => s.tileInPart p t
    | none => match aliasOf t with
      | some (_, t') => storePlain && s.tileInPart p t'
      | none => false

/-! ### Shared-scale lines -/

/-- One lane of a shared-scale addition (R259), and whether it created an overflow mark. -/
def laneAdd (a b : Nat) : Nat × Bool :=
  let mark := 2 ^ 31
  if a = mark ∨ b = mark then (mark, false)
  else
    let v := signedOf 32 a + signedOf 32 b
    if v ≤ -((2 : Int) ^ 31) ∨ (2 : Int) ^ 31 ≤ v then (mark, true) else (wrapTo 32 v, false)

/-- Shared-scale addition of `n` lanes, and how many marks it created (R259). -/
def linesAdd : Nat → Nat → Nat → Nat × Nat
  | 0, _, _ => (0, 0)
  | n + 1, a, b =>
    let (v, m) := laneAdd (a % 2 ^ 32) (b % 2 ^ 32)
    let (r, k) := linesAdd n (a / 2 ^ 32) (b / 2 ^ 32)
    (v + 2 ^ 32 * r, b2n m + k)

end Sys2Proof.Machine
end

