-- ==== Sys2Proof/Machine/Juggler.lean ====
section
/-! DEFINITION. Juggler stream contexts (R130-R152): descriptors, requests, delivery, segments, swaps, faults and stops. -/

namespace Sys2Proof.Machine

/-- State codes of R131. -/
abbrev scIdle : Nat := 0
/-- RUNNING. -/
abbrev scRunning : Nat := 1
/-- SEG_WAIT. -/
abbrev scSegWait : Nat := 2
/-- FAULT_WAIT. -/
abbrev scFaultWait : Nat := 3
/-- STOPPED. -/
abbrev scStopped : Nat := 4
/-- DONE. -/
abbrev scDone : Nat := 5

/-- Is a state code one in which only the owner may operate on the stream context (R130)? -/
def scActive (st : Nat) : Bool := st == scRunning || st == scSegWait || st == scFaultWait

/-- A stream context of a core. -/
def Core.sc (c : Core) (n : Nat) : StreamCtx := SMap.getD c.scs {} n

/-- Put a stream context. -/
def Core.setSc (c : Core) (n : Nat) (v : StreamCtx) : Core := { c with scs := SMap.set c.scs n v }

/-- Put a stream context of a core of the block. -/
def State.setSc (s : State) (id : CoreId) (n : Nat) (v : StreamCtx) : State := s.modCore id (fun c => c.setSc n v)

/-- Ring size N of a destination kind (R134). -/
def ringSize (k : CoreKind) (dkind : Nat) : Nat :=
  match dkind with
  | 2 => 64
  | 3 => if k = .scalar then 8 else 64
  | _ => 32

/-- Is a destination kind allowed on a core kind (R134)? -/
def dkindAllowed (k : CoreKind) (dkind : Nat) : Bool :=
  match k with
  | .matrix => decide (dkind < 3)
  | _ => dkind == 3

/-- A loop level whose counter is at or above its count ends at once, outermost first (R132, R144). -/
def normStep (n c : List Nat) : List Nat :=
  match n, c with
  | [n0, n1, n2, _], [c0, c1, c2, c3] =>
    if n2 ≤ c2 then [0, 0, 0, c3 + 1]
    else if n1 ≤ c1 then [0, 0, c2 + 1, c3]
    else if n0 ≤ c0 then [0, c1 + 1, c2, c3]
    else c
  | _, _ => c

/-- Counters of a tile of the run, or a level 3 counter at its count when the run has ended. -/
def normCtrs (n c : List Nat) : List Nat := normStep n (normStep n (normStep n (normStep n c)))

/-- Counters of the next tile (R132). -/
def nextCtrs (n c : List Nat) : List Nat :=
  match c with
  | c0 :: r => normCtrs n ((c0 + 1) :: r)
  | [] => []

/-- Has a run ended at these counters? -/
def runEnded (n c : List Nat) : Bool := decide (n.getD 3 1 ≤ c.getD 3 0)

/-- The counters `k` tiles further on. -/
def ctrsAhead (n : List Nat) : Nat → List Nat → List Nat
  | 0, c => c
  | k + 1, c => ctrsAhead n k (nextCtrs n c)

/-- The tile number of a tile of the run (R132). -/
def tileNumber (d : JgDesc) (c : List Nat) : Nat :=
  let off := ((c.zip d.strides).map (fun e => (e.1 : Int) * e.2)).foldl (· + ·) 0
  wrapTo 33 ((d.base : Int) + off)

/-- Requests in flight of a core: a tile outside the data range is not requested (R133, R140). -/
def Core.inFlight (c : Core) : Nat :=
  (c.scs.map (fun e => (e.2.reqs.filter (fun r => r.sent)).length)).foldl (· + ·) 0

/-- Tile number of the next request that a stream context may send, if its window allows one (R140). -/
def StreamCtx.nextTile (sc : StreamCtx) : Option Nat :=
  let k := sc.reqs.length
  let c := ctrsAhead sc.cur.counts k sc.ctrs
  if sc.state = scRunning ∧ !sc.held ∧ !sc.stopping ∧ k < 8 ∧ sc.pos + k < sc.cur.seg ∧ !runEnded sc.cur.counts c then
    some (tileNumber sc.cur c)
  else none

/-- Send the requests that the windows of a stream context and its core allow, at most `fuel` of them, in cycle `t` or when the
context's segment starts (R136, R140). A tile outside the data range meets a WINDOW fault and is not sent (R133, R187, R401). -/
def sendSc (s : State) (id : CoreId) (n t : Nat) : Nat → State
  | 0 => s
  | fuel + 1 =>
    let c := s.core id
    let sc := c.sc n
    match sc.nextTile with
    | none => s
    | some tile =>
      let ok := s.tileReachable id.cluster.val tile (sc.cur.store && !sc.cur.sidecar)
      let num := sc.seq + sc.reqs.length
      if ok && 32 ≤ c.inFlight then s
      else
        let w := max t sc.sendFrom
        let r : TileReq := { seq := num, tile := tile, sent := ok, taken := false, sentAt := w
                             reply := if ok then none else some (w, .fault 4) }
        let s := s.setSc id n { sc with reqs := sc.reqs ++ [r] }
        sendSc (if ok then s.bump (jglPage id) 1 else s) id n t fuel

/-- Send in cycle `t` every request the windows of a core's stream contexts allow, in the order of their numbers. -/
def sendAll (s : State) (id : CoreId) (t : Nat) : State := (s.core id).scs.foldl (fun s e => sendSc s id e.1 t 8) s

/-- Requests of a core that go out in a cycle from `t` on, though JGL counter 0x01 holds them (R152). -/
def Core.sendAhead (c : Core) (t : Nat) : Nat :=
  (c.scs.map (fun e => (e.2.reqs.filter (fun r => r.sent && decide (t ≤ r.sentAt))).length)).foldl (· + ·) 0

/-- Responses that the requests of a list will have: a tile that was never requested has none (R133, R141). -/
def responses (l : List TileReq) : Nat := (l.filter (·.sent)).length

/-! ### Operations of the JG slots -/

/-- Halt causes of a Juggler operation at issue (R134, R136, R147, R148). -/
def jgCauses (s : State) (id : CoreId) (x : Ctx) (op : SlotOp) : List (Nat × Nat) :=
  let c := s.core id
  let sc := c.sc (field op.raw 11 6)
  let conflict (b : Bool) : List (Nat × Nat) := if b then [(causeConflict, op.slot)] else []
  let st := ((c.ctx x).stream true)
  match op.name with
  | .jgBase => conflict (scActive sc.state)
  | .jgLoop => conflict (scActive sc.state)
  | .jgDest =>
    let dk := field op.raw 15 13
    let n := ringSize (kindOf id) dk
    (if 3 < dk || !dkindAllowed (kindOf id) dk || n ≤ field op.raw 22 17 || n < field op.raw 28 23 + 1 ||
        (bitAt op.raw 37 && dk == 3) || (bitAt op.raw 16 && 2 ≤ dk) then [(causeReserved, op.slot)] else []) ++
      conflict (scActive sc.state)
  | .jgRun => conflict (scActive sc.state || (bitAt op.raw 12 && sc.state != scStopped))
  | .jgSwap =>
    conflict (scActive sc.state && (sc.owner != some x || (sc.state != scSegWait && sc.swapPending)))
  | .jgStop => conflict (scActive sc.state && sc.owner != some x)
  | .jgLd | .jgSt =>
    let low := (st.ireg (field op.raw 13 10)).toNat + field op.raw 63 32
    if low % 4 ≠ 0 then [(causeAlignment, op.slot)] else []
  | _ => []

/-- JG.BASE (R147): the base takes BASE_TILE plus the register read before the word. -/
def jgBase (s0 s : State) (id : CoreId) (x : Ctx) (raw : Nat) : State :=
  let n := field raw 11 6
  let ia := (((s0.core id).ctx x).stream true).ireg (field raw 15 12)
  let sc := (s.core id).sc n
  s.setSc id n { sc with desc := { sc.desc with base := (field raw 48 32 * 2 ^ 16 + field raw 31 16 + ia.toNat) % 2 ^ 33 } }

/-- JG.LOOP (R132, R147). -/
def jgLoop (s : State) (id : CoreId) (raw : Nat) : State :=
  let n := field raw 11 6
  let l := field raw 13 12
  let sc := (s.core id).sc n
  s.setSc id n { sc with desc := { sc.desc with
    counts := setNth sc.desc.counts l (field raw 31 16 + 1)
    strides := setNth sc.desc.strides l (signedOf 24 (field raw 55 32)) } }

/-- JG.DEST (R134). -/
def jgDest (s : State) (id : CoreId) (raw : Nat) : State :=
  let n := field raw 11 6
  let sc := (s.core id).sc n
  s.setSc id n { sc with desc := { sc.desc with
    store := bitAt raw 12, dkind := field raw 15 13, half0 := field raw 16 16, first := field raw 22 17
    seg := field raw 28 23 + 1, flag := field raw 36 32 * 8 + field raw 31 29, sidecar := bitAt raw 37
    notify := field raw 39 38 == 1, nq := field raw 41 40 } }

/-- JG.RUN (R136, R144, R147): the run takes the descriptor as it stood before the word. Its requests go out from the next cycle on. -/
def jgRun (s0 s : State) (id : CoreId) (x : Ctx) (raw word slot : Nat) : State :=
  let n := field raw 11 6
  let d := ((s0.core id).sc n).desc
  let sc := (s.core id).sc n
  let sc : StreamCtx :=
    if bitAt raw 12 then
      let c := normCtrs d.counts sc.ctrs
      { sc with owner := some x, cur := d, ctrs := c, pos := sc.pos % d.seg
                half := if d.dkind < 2 then sc.half else 0, reqs := [], swapPending := false, stopping := false
                state := if runEnded d.counts c then scDone else scRunning, word := word, slot := slot, held := false, sendFrom := 0 }
    else
      { sc with owner := some x, cur := d, ctrs := [0, 0, 0, 0], pos := 0, seq := 0, half := d.half0, reqs := []
                swapPending := false, stopping := false, state := scRunning, word := word, slot := slot, held := false, sendFrom := 0 }
  s.setSc id n sc

/-- The half after a swap: toggled for the A and B buffers (R136). -/
def swapHalf (sc : StreamCtx) : Nat := if sc.cur.dkind < 2 then 1 - sc.half else sc.half

/-- JG.SWAP (R136), by the state in which its word finds the stream context (R113); `again` says that it was issued in a
recomputation (R230). The next segment's requests go out from the next cycle on. -/
def jgSwap (s0 s : State) (id : CoreId) (raw word slot : Nat) (again : Bool) : State :=
  let n := field raw 11 6
  let was := (s0.core id).sc n
  let sc := (s.core id).sc n
  if was.state = scSegWait then
    s.setSc id n { sc with state := scRunning, half := swapHalf was, word := word, slot := slot, recompute := again, sendFrom := 0 }
  else if was.state = scRunning ∨ was.state = scFaultWait then
    (s.setSc id n { sc with swapPending := true, swapWord := word, swapSlot := slot, swapRecompute := again }).bump (jglPage id) 6
  else s.bump (jglPage id) 7

/-- A stream context with nothing left to deliver stops (R144). -/
def finishStop (sc : StreamCtx) : StreamCtx :=
  if sc.stopping && sc.reqs.isEmpty && sc.state != scDone then { sc with state := scStopped, stopping := false, swapPending := false }
  else sc

/-- The fault record's outcome, while the recorded fault is still this stream context's (R150). -/
def setFaultOutcome (s : State) (id : CoreId) (n outcome : Nat) (timeout : Bool) : State :=
  if ((s.core id).sc n).recorded then
    let s := s.setField (jglPage id) 0x100 28 2 outcome
    if timeout then s.setField (jglPage id) 0x100 27 1 1 else s
  else s

/-- JG.STOP (R144), by the state in which its word finds the stream context (R113). -/
def stopSc (s0 s : State) (id : CoreId) (n : Nat) : State :=
  let was := (s0.core id).sc n
  let sc := (s.core id).sc n
  if was.state = scFaultWait then
    let s := if sc.faultOpen then setFaultOutcome s id n 3 false else s
    s.setSc id n { sc with state := scStopped, swapPending := false, reqs := [], faultOpen := false, recorded := false, answer := none }
  else if was.state = scRunning ∨ was.state = scSegWait then
    s.setSc id n (finishStop { sc with stopping := true, swapPending := false })
  else s.bump (jglPage id) 7

/-- END of an access stream stops the stream contexts of its context that are in SEG_WAIT (R131). -/
def stopWaiting (s : State) (id : CoreId) (x : Ctx) : State :=
  s.modCore id (fun c => { c with scs := c.scs.map (fun e =>
    if e.2.owner == some x && e.2.state == scSegWait then (e.1, { e.2 with state := scStopped, swapPending := false }) else e) })

/-- RESET of an owner makes its stream contexts IDLE with no owner and clears their restart points; descriptors stay
(R146). -/
def resetScs (c : Core) (x : Ctx) : Core :=
  { c with scs := c.scs.map (fun e => if e.2.owner == some x then (e.1, { ({} : StreamCtx) with desc := e.2.desc }) else e) }

/-! ### Replies, delivery and faults -/

/-- A reply arrives for a request in flight (R140). -/
def putReply (sc : StreamCtx) (seq t : Nat) (r : TileReply) : StreamCtx :=
  { sc with reqs := sc.reqs.map (fun q => if q.seq = seq ∧ q.reply = none then { q with reply := some (t, r) } else q) }

/-- First byte of the destination slot of a tile, and of its sidecar slot, in the core's store (R134). -/
def destAddr (sc : StreamCtx) (slot : Nat) : Nat × Nat :=
  match sc.cur.dkind with
  | 0 => (slotAddr (halfBase false sc.half) slot, sideAddr (halfBase false sc.half) 32 slot)
  | 1 => (slotAddr (halfBase true sc.half) slot, sideAddr (halfBase true sc.half) 32 slot)
  | 2 => (slotAddr stagingBase slot, sideAddr stagingBase 64 slot)
  | _ => (32768 * slot, 0)

/-- Destination slot of the next tile: (FIRST + p) mod N (R132). -/
def destSlot (k : CoreKind) (sc : StreamCtx) : Nat := (sc.cur.first + sc.pos) % ringSize k sc.cur.dkind

/-! ### The fill port and the read port (R139) -/

/-- Cycles that a tile of a stream context takes of a port: one for each KiB, the sidecar last. -/
def StreamCtx.kib (sc : StreamCtx) : Nat := if sc.cur.sidecar then 33 else 32

/-- First byte of KiB `i` of a tile in its destination slot; KiB 32 is the sidecar. -/
def kibAddr (sc : StreamCtx) (slot i : Nat) : Nat :=
  let (a, b) := destAddr sc slot
  if i < 32 then a + 1024 * i else b

/-- First cycle from `t` on in which a queue takes one push more without a further pop. -/
def DataQueue.pushFrom (q : DataQueue) (t : Nat) : Option Nat :=
  if q.canPush t 1 then some t else (q.frees.filter (fun f => decide (t ≤ f) && q.canPush f 1)).min?

/-- First cycle from `t` on in which the entry of a stream context's next tile has a slot (R137). -/
def notifyFrom (c : Core) (sc : StreamCtx) (t : Nat) : Option Nat :=
  match sc.owner with
  | some x =>
    let q := (c.ctx x).queue sc.cur.nq
    if !sc.cur.notify || q.ext then some t else q.pushFrom t
  | none => none

/-- First cycle in which the head tile of a load-direction stream context could be written: it has arrived and its entry has a slot. -/
def fillReady (c : Core) (sc : StreamCtx) : Option Nat :=
  match sc.reqs with
  | r :: _ => (match r.reply with
    | some (a, .data _ _) => notifyFrom c sc a
    | _ => none)
  | [] => none

/-- The tile that the fill port takes next: the one that was ready first, of equals the lowest stream context's (DESIGN CHOICE,
log entry 48: the spec gives the port no order). -/
def fillNext (c : Core) : Option PortUse :=
  (c.scs.foldl (fun (best : Option (Nat × Nat)) e =>
    match fillReady c e.2, best with
    | some a, some (b, n) => if a < b then some (a, e.1) else some (b, n)
    | some a, none => some (a, e.1)
    | none, best => best) none).map (fun e => { sc := e.2, seq := (c.sc e.2).seq, start := max e.1 c.portFree })

/-- The fill port takes its next tile, if it starts in cycle `t` or before. -/
def Core.lockFill (c : Core) (t : Nat) : Core :=
  match c.filling with
  | some _ => c
  | none =>
    match fillNext c with
    | some p => if p.start ≤ t then { c with filling := some p } else c
    | none => c

/-- The fill port writes its next KiB, with its poison marks by line, at the end of its cycle (R139, R149). -/
def fillKib (k : CoreKind) (c : Core) (p : PortUse) : Core :=
  let sc := c.sc p.sc
  match sc.reqs with
  | ⟨_, _, _, _, some (_, .data bytes marks), _, _⟩ :: _ =>
    let a := kibAddr sc (destSlot k sc) p.done
    let w := p.start + p.done
    let c := if sc.cur.dkind < 2 then c.logHalf w false a 1024 else c
    { c with store := Mem.copy c.store a 1024 bytes (1024 * p.done), marks := NSet.copy c.marks (a / 128) 8 marks (8 * p.done)
             filling := some { p with done := p.done + 1 }, lastFill := some (w, a) }
  | _ => { c with filling := none }

/-- The store-direction tile that the read port takes next: the first sent. -/
def readNext (c : Core) : Option PortUse :=
  (c.scs.foldl (fun (best : Option (Nat × Nat × Nat)) e =>
    if !e.2.cur.store then best
    else
      match e.2.reqs.find? (fun r => r.sent && r.out.isNone && r.reply.isNone), best with
      | some r, some b => if r.sentAt < b.1 then some (r.sentAt, e.1, r.seq) else some b
      | some r, none => some (r.sentAt, e.1, r.seq)
      | none, best => best) none).map (fun e => { sc := e.2.1, seq := e.2.2, start := max e.1 c.readFree })

/-- The read port reads its next KiB, with its marks; with the last the tile is on its way (R139). -/
def readKib (k : CoreKind) (c : Core) (p : PortUse) : Core :=
  let sc := c.sc p.sc
  let slot := (sc.cur.first + sc.pos + (p.seq - sc.seq)) % ringSize k sc.cur.dkind
  let a := kibAddr sc slot p.done
  let p : PortUse := { p with
    done := p.done + 1
    bytes := p.bytes ++ Mem.slice c.store a 1024 (1024 * p.done)
    marks := p.marks ++ NSet.slice c.marks (a / 128) 8 (8 * p.done) }
  if p.done < sc.kib then { c with reading := some p }
  else { c.setSc p.sc { sc with reqs := sc.reqs.map (fun r => if r.seq = p.seq then { r with out := some (p.bytes, p.marks) } else r) } with
         reading := none, readFree := p.start + p.done }

/-- The next KiB that a port moves in a cycle before `t`, the earlier cycle first and a read before a write of its cycle. -/
def Core.portStep (k : CoreKind) (t : Nat) (c : Core) : Option Core :=
  let rd := match c.reading with | some p => some p | none => readNext c
  let fl := match (c.lockFill t).filling with
    | some p => if p.done < (c.sc p.sc).kib then some p else none
    | none => none
  let before (p q : Option PortUse) (le : Bool) : Bool :=
    match p, q with
    | some p, some q => decide (p.start + p.done < q.start + q.done) || (le && p.start + p.done == q.start + q.done)
    | some _, none => true
    | none, _ => false
  let due (p : Option PortUse) : Option PortUse := p.filter (fun p => decide (p.start + p.done < t))
  if before rd fl true then (due rd).map (readKib k c) else (due fl).map (fillKib k c)

/-- Let the ports move what they move in cycles before `t`, at most `fuel` KiB. -/
def Core.portRun (k : CoreKind) (t : Nat) : Nat → Core → Core
  | 0, c => c
  | fuel + 1, c =>
    match c.portStep k t with
    | none => c
    | some c => Core.portRun k t fuel c

/-- A core's store, ports and marks as they stand at the start of cycle `t` (R35, R139, R163): both ports have moved what they move in the
cycles before. One tile in the fill port and 32 in flight to memory are 33 tiles of 33 KiB at most. -/
def Core.upTo (k : CoreKind) (c : Core) (t : Nat) : Core := Core.portRun k t 1089 c

/-- A core of the block at the start of cycle `t`. -/
def State.coreAt (s : State) (id : CoreId) (t : Nat) : Core := (s.core id).upTo (kindOf id) t

/-- The ports of a core catch up with the end of cycle `t`. -/
def State.settlePorts (s : State) (id : CoreId) (t : Nat) : State := s.setCore id (s.coreAt id (t + 1))

/-- Does the tile at these counters and position end its segment, and its run (R132)? -/
def endsSegment (sc : StreamCtx) : Bool × Bool :=
  let last := runEnded sc.cur.counts (nextCtrs sc.cur.counts sc.ctrs)
  (sc.pos + 1 == sc.cur.seg || last, last)

/-- The 64-byte entry of a delivered tile (R137). -/
def notifyEntry (k : CoreKind) (sc : StreamCtx) (n tile : Nat) : Entry :=
  let c (i : Nat) : Nat := sc.ctrs.getD i 0 % 2 ^ 16
  BitVec.ofNat 512 (sc.seq % 2 ^ 32 + 2 ^ 32 * destSlot k sc + 2 ^ 40 * (if sc.cur.dkind < 2 then sc.half else 0) + 2 ^ 48 * n +
    2 ^ 56 * b2n (endsSegment sc).1 + 2 ^ 64 * c 0 + 2 ^ 80 * c 1 + 2 ^ 96 * c 2 + 2 ^ 112 * c 3 + 2 ^ 128 * tile)

/-- The cycle in which the head tile of stream context `n` can be delivered at the earliest: a load when the fill port has written its last
KiB, once the port takes it; a store tile when its home has accepted it (R139, R140). -/
def earliestDelivery (c : Core) (n : Nat) : Option Nat :=
  let sc := c.sc n
  match sc.reqs with
  | ⟨_, _, _, _, some (_, .data _ _), _, _⟩ :: _ =>
    (match c.filling with | some p => some p | none => fillNext c).bind (fun p =>
      if p.sc = n then some (p.start + sc.kib - 1) else none)
  | ⟨_, _, _, _, some (r, .accepted), _, _⟩ :: _ => some r
  | _ => none

/-- After a segment's last tile, delivered at the end of cycle `t` (R135, R136): DONE at the end of the run, the next segment if a swap
is pending, whose requests go out from `t + 2` on, STOPPED if the owner's access stream has ended, else SEG_WAIT. -/
def afterSegment (sc : StreamCtx) (runEnd ownerEnded : Bool) (t : Nat) : StreamCtx :=
  if runEnd then { sc with state := scDone, swapPending := false, stopping := false }
  else if sc.stopping then sc
  else if sc.swapPending then
    { sc with half := swapHalf sc, swapPending := false, word := sc.swapWord, slot := sc.swapSlot, recompute := sc.swapRecompute
              sendFrom := t + 2 }
  else { sc with state := if ownerEnded then scStopped else scSegWait }

/-- The requests left once the tile before them is delivered at the end of cycle `t`: a fault or a refusal reaches the head of the
delivery order in the next cycle at the earliest (R141). -/
def nextHead (t : Nat) : List TileReq → List TileReq
  | q :: l => (match q.reply with
    | some (r, .fault k) => { q with reply := some (max r (t + 1), .fault k) } :: l
    | some (r, .refused v) => { q with reply := some (max r (t + 1), .refused v) } :: l
    | _ => q :: l)
  | [] => []

/-- Deliver the head tile of a stream context at the end of cycle `t` (R135-R137, R140): a load's bytes stand in its slot by then. -/
def deliverTile (s : State) (id : CoreId) (n t : Nat) : State :=
  let k := kindOf id
  let c := s.core id
  let sc := c.sc n
  match sc.reqs, sc.owner with
  | ⟨_, tile, _, _, some (_, reply), _, _⟩ :: rest, some x =>
    let c := match reply with
      | .data _ _ => { c with portFree := t + 1, filling := none }
      | _ => c
    let (segEnd, runEnd) := endsSegment sc
    let mk (slot : Nat) (w : Effect) : Pend := ⟨t + 1, t, x, true, slot, sc.word, w⟩
    let c := if sc.cur.notify then
        let c := c.modCtx x (fun kx =>
          let q := kx.queue sc.cur.nq
          if q.ext then kx else kx.setQueue sc.cur.nq { q with reserved := q.reserved + 1 })
        { c with pend := c.pend ++ [mk sc.slot (.push sc.cur.nq (notifyEntry k sc n tile))] }
      else c
    let c := if segEnd then { c with pend := c.pend ++ [mk noSlot (.flagAdd sc.cur.flag 1)] } else c
    let sc' : StreamCtx := { sc with
      reqs := nextHead t rest, seq := sc.seq + 1, pos := (sc.pos + 1) % sc.cur.seg, ctrs := nextCtrs sc.cur.counts sc.ctrs }
    let sc' := if segEnd then afterSegment sc' runEnd (c.ctx x).acc.ended t else sc'
    let s := s.setCore id (c.setSc n (finishStop sc'))
    let s := s.bump (jglPage id) 0
    let s := if id.core.val < 2 then s.bumpBy (tstPage id) (match reply with | .data _ _ => 1 | _ => 0) (if sc.cur.sidecar then 264 else 256) else s
    let s := if segEnd then s.bump (jglPage id) 5 else s
    sendAll s id (t + 1)
  | _, _ => s

/-- Can a delivered tile's queue entry be pushed in cycle `t` (R137)? A queue whose EXT bit is set keeps no slot for it. -/
def notifyFits (c : Core) (sc : StreamCtx) (t : Nat) : Bool :=
  match sc.owner with
  | some x => !sc.cur.notify || ((c.ctx x).queue sc.cur.nq).ext || ((c.ctx x).queue sc.cur.nq).canPush t 1
  | none => true

/-- A fault at the head of the delivery order takes effect in cycle `t` (R141). A stream context that is stopping discards the fault with the
responses after it and is STOPPED: it enters no FAULT_WAIT and records no fault (R144). -/
def takeFault (s : State) (id : CoreId) (n t : Nat) : State :=
  let c := s.core id
  let sc := c.sc n
  match sc.reqs, sc.owner with
  | ⟨num, tile, sent, taken, some (at_, .fault kind), sentAt, out⟩ :: rest, some x =>
    let p := jglPage id
    if sc.stopping then
      let s := s.bumpBy p 2 (responses (⟨num, tile, sent, taken, some (at_, .fault kind), sentAt, out⟩ :: rest))
      sendAll (s.setSc id n { sc with reqs := [], state := scStopped, stopping := false, swapPending := false }) id (t + 1)
    else
    let first := s.isFirst p 0x100
    let s := s.record p 0x100 (kind * 2 ^ 24 + x.idx * 2 ^ 8 + n)
    let s := if first then (s.setRegN p 0x104 (tile % 2 ^ 32)).setRegN p 0x108 (tile / 2 ^ 32) else s
    let s := ((s.raise p 0).bump p 3).bumpBy p 2 (responses rest)
    let sc : StreamCtx := { sc with reqs := [], state := scFaultWait, faultTick := s.tick, faultOpen := true, faultKind := kind, recorded := first, answer := none }
    sendAll (s.setSc id n sc) id (t + 1)
  | _, _ => s

/-- SERVICED in cycle `t`: the stream context requests tiles again from its restart point in the next (R142). -/
def faultServiced (s : State) (id : CoreId) (n t : Nat) : State :=
  let s := setFaultOutcome s id n 1 false
  let sc := (s.core id).sc n
  sendAll (s.setSc id n { sc with state := scRunning, faultOpen := false, recorded := false, answer := none }) id (t + 1)

/-- REFUSED, or no answer in time: the owner halts with RESIDENCY at the word that started the segment (R142). -/
def faultRefused (s : State) (id : CoreId) (n : Nat) (timeout : Bool) : State :=
  let s := setFaultOutcome s id n 2 timeout
  let sc := (s.core id).sc n
  let s := s.setSc id n { sc with faultOpen := false, recorded := false, answer := none }
  let s := (s.bump (jglPage id) 4).raise (jglPage id) 1
  match sc.owner with
  | some x => haltCtx s id x causeResidency true sc.word sc.slot
  | none => s

/-- Reference ticks allowed for a fault answer: values below 1,024 act as 1,024 (R150). -/
def faultLimit (s : State) (id : CoreId) : Nat := max (s.regN (jglPage id) 0x10C) 1024

/-- JGL.SC_STATE as it reads in cycle `t` (R151). -/
def scStateReg (sc : StreamCtx) (t : Nat) : Nat :=
  (sc.reqs.filter (fun r => r.sent && decide (r.sentAt ≤ t))).length * 2 ^ 9 + b2n sc.held * 2 ^ 8 + b2n sc.swapPending * 2 ^ 7 +
    sc.half * 2 ^ 6 + (match sc.owner with | some x => x.idx | none => 3) * 2 ^ 4 + sc.state

/-- The JGL registers of stream contexts as they read in cycle `t` (R151). -/
def jglView (c : Core) (off t : Nat) : Nat :=
  let sc := c.sc ((off - 0x800) / 0x20)
  let k (i : Nat) : Nat := sc.ctrs.getD i 0 % 2 ^ 16
  match off % 0x20 with
  | 0x00 => scStateReg sc t
  | 0x04 => k 1 * 2 ^ 16 + k 0
  | 0x08 => k 3 * 2 ^ 16 + k 2
  | 0x0C => sc.pos
  | 0x10 => sc.seq % 2 ^ 32
  | _ => 0

/-- Has a context a stream context that is neither IDLE, STOPPED nor DONE, or has a request in flight (R131)? -/
def scsBusy (c : Core) (x : Ctx) : Bool :=
  c.scs.any (fun e => e.2.owner == some x && (scActive e.2.state || !e.2.reqs.isEmpty))

/-- Has a context a stream context with a request in flight (R145)? -/
def scsInFlight (c : Core) (x : Ctx) : Bool := c.scs.any (fun e => e.2.owner == some x && !e.2.reqs.isEmpty)

/-- Does a context's access stream await the mover through a stream context (R143)? -/
def scsAwaitMover (c : Core) (x : Ctx) : Bool :=
  c.scs.any (fun e => e.2.owner == some x && e.2.state == scFaultWait && e.2.faultOpen)

end Sys2Proof.Machine
end

