-- ==== Sys2Proof/Machine/Memory.lean ====
section
/-! DEFINITION. Directory agents: accesses, moves, the mover, memory-side adders and the Stash (R186-R208). -/

namespace Sys2Proof.Machine

/-! ### Agents -/

/-- A number 0 to 3 of the partition that a tile's shared trigger resets, 5 for a tile in no range (R403). -/
def State.tileTarget (s : State) (t : Nat) : Nat :=
  match stashOf t with
  | some (c, _) => s.clusterPart c
  | none => ((List.range 4).find? (fun p => s.tileInPart (some p) t)).getD 5

/-- A shared-structure trigger arises (R403). -/
def State.trigger (s : State) (cause target cluster : Nat) : State :=
  { s with mem.shared := s.mem.shared ++ [⟨cause, target, cluster⟩] }

/-- Place of a tile's directory entry (R190). -/
def entryPlace (t : Nat) : Nat := 0xBDC0000000 + 8 * entryIdx t

/-- The agent of a tile accepts an access (R192): it is counted, and a poisoned entry raises ENTRY_POISON and the trigger of
R403. -/
def State.accept (s : State) (t : Nat) : State :=
  let g := agentOf t
  let s := if g < 12 then s.bump ⟨.dir, g⟩ 0 else s
  if s.meetsPoison (entryPlace t) 8 then
    (s.raise (agentPage g) (if g < 12 then 0 else 1)).trigger 1 (s.tileTarget t) (if g < 12 then 0 else g - 12)
  else s

/-- Accesses an agent holds, as DIR.HELD reads (R193). -/
def State.heldCount (s : State) (g : Nat) : Nat := (s.mem.held.filter (fun h => decide (h.agent = g))).length

/-- Does an agent return no credit, so that every further request to it waits (R193)? -/
def State.saturated (s : State) (g : Nat) : Bool :=
  decide (256 ≤ s.heldCount g) || s.mem.waiting.any (fun h => decide (h.agent = g))

/-- Does an agent hold an access to a tile? A later one stays behind it (R192, R198). -/
def State.holdsFor (s : State) (t : Nat) : Bool := s.mem.held.any (fun h => decide (h.tile = t))

/-- Has a tile a home of its own (R190)? -/
def State.hasHome (s : State) (t : Nat) : Bool := eValid (s.entry t) && !eStashRes (s.entry t)

/-! ### Lines of HBM and of the pools -/

/-- The lines of `[a, a + n)` in HBM that a stack not lost serves, by number. -/
def State.hbmLines (s : State) (a n : Nat) : List Nat :=
  ((List.range ((a + n + 127) / 128 - a / 128)).map (fun i => a / 128 + i)).filter (fun l => !s.placeLost (128 * l))

/-- A stack reads sectors without symbols in error: they are counted, poisoned ones among them (R214, R223). -/
def State.sectorsRead (s : State) (stack n bad : Nat) : State :=
  let p : Page := ⟨.hbc, stack⟩
  let s := if n = 0 then s else s.bumpBy p 0 n
  if bad = 0 then s else (s.bumpBy p 3 bad).raise p 2

/-- Count what a read of `[a, a + n)` reads: lines of a pool, or whole lines of HBM with their four sectors (R207, R214, R223). -/
def State.readCounted (s : State) (a n : Nat) : State :=
  if 2 ^ 40 ≤ a then s.bumpBy ⟨.pool, (a - 2 ^ 40) / 0x8400 / 512⟩ 0 ((a + n + 127) / 128 - a / 128)
  else
    let ls := s.hbmLines a n
    (List.range 12).foldl (fun s' h =>
      let mine := ls.filter (fun l => decide ((hbmMap (128 * l)).stack = h))
      let bad := if s.mem.poison.isEmpty then 0
        else ((mine.flatMap (fun l => (List.range 4).map (fun i => 4 * l + i))).filter (fun k => s.mem.poison.contains k)).length
      s'.sectorsRead h (4 * mine.length) bad) s

/-- Count what a write of `[a, a + n)` does before it: lines of a pool, or the sectors of HBM that it covers in part and so reads
(R207, R215, R223). -/
def State.writeCounted (s : State) (a n : Nat) : State :=
  if 2 ^ 40 ≤ a then s.bumpBy ⟨.pool, (a - 2 ^ 40) / 0x8400 / 512⟩ 1 ((a + n + 127) / 128 - a / 128)
  else
    let first := a / 32
    let last := (a + n - 1) / 32
    let partly := (if n ≠ 0 ∧ (a % 32 ≠ 0 ∨ (last = first ∧ n ≠ 32)) then [first] else []) ++
      (if n ≠ 0 ∧ last ≠ first ∧ (a + n) % 32 ≠ 0 then [last] else [])
    partly.foldl (fun s k =>
      if s.placeLost (32 * k) then s
      else s.sectorsRead (hbmMap (32 * k)).stack 1 (b2n (s.mem.poison.contains k))) s

/-! ### Memory-side adders -/

/-- Grain of an alias format in bytes (R204). -/
def grainOf : Nat → Nat
  | 0 => 4
  | 1 => 2
  | 2 => 4
  | 3 => 8
  | _ => 128

/-- One grain's addition, and the overflow marks it creates (R204). -/
def grainAdd (fmt a b : Nat) : Nat × Nat :=
  match fmt with
  | 0 => (fAdd fp32 a b, 0)
  | 1 => (fAdd bf16 a b, 0)
  | 2 => ((a + b) % 2 ^ 32, 0)
  | 3 => ((a + b) % 2 ^ 64, 0)
  | _ => linesAdd 32 a b

/-- Add `n` grains in memory from a place on, the operand's bytes from `b` on; the overflow marks are counted. -/
def addGrains (fmt : Nat) (m op : List Host.Cell) (place b : Nat) : Nat → List Host.Cell × Nat
  | 0 => (m, 0)
  | n + 1 =>
    let g := grainOf fmt
    let (v, k) := grainAdd fmt (Mem.read m place g) (Mem.read op b g)
    let (m', k') := addGrains fmt (Mem.write m place g v) op (place + g) (b + g) n
    (m', k + k')

/-- The DIR page of the controller that holds a place, the agent's for a place in a pool. -/
def placePage (place t : Nat) : Page := if place < 0xC000000000 then ⟨.dir, (hbmMap place).stack⟩ else ⟨.dir, agentOf t⟩

/-- The place of an atomic's first byte. -/
def atomicPlace (s : State) (a : Atomic) : Nat := (s.home (a.addr / 0x8000)).1 + a.addr % 0x8000

/-- The controller of a line applies an accepted atomic to it at the home of its tile (R205). -/
def applyAtomic (s : State) (a : Atomic) : State :=
  let t := a.addr / 0x8000
  let place := atomicPlace s a
  let s := s.readCounted place a.len
  let (m, k) := addGrains a.fmt s.mem.dram a.bytes place 0 (a.len / grainOf a.fmt)
  let s := { s with mem.dram := m }
  let s := if a.marks.isEmpty then s else (s.poisonLine place).setEntry t (eBit (s.entry t) 60 true)
  let p := placePage place t
  let s := s.bump p 4
  if k = 0 then s else (s.raise p 2).bumpBy p 7 k

/-- Discard an atomic (R204). -/
def dropAtomic (s : State) (a : Atomic) : State :=
  let p : Page := ⟨.dir, agentOf (a.addr / 0x8000)⟩
  ((s.raise p 1).bump p 5).logReq p kindEvent a.who true 0x018

/-- The atomics accepted for a tile are applied before any later access to it (R205). -/
def State.settle (s : State) (t : Nat) : State :=
  let mine := s.mem.atomics.filter (fun a => decide (a.addr / 0x8000 = t))
  mine.foldl applyAtomic { s with mem.atomics := s.mem.atomics.filter (fun a => decide (a.addr / 0x8000 ≠ t)) }

/-- The parts of an operand in pieces of `size` bytes, cut where the address is a multiple of `size` (R204, R205). -/
def splitAtomic (size : Nat) (a : Atomic) : Nat → List Atomic
  | 0 => []
  | fuel + 1 =>
    if a.len = 0 then []
    else
      let k := min a.len (size - a.addr % size)
      let rest : Atomic := { a with
        addr := a.addr + k, len := a.len - k, bytes := Mem.slice a.bytes k (a.len - k) 0
        marks := NSet.slice a.marks (k / 32) ((a.len - k) / 32 + 1) 0 }
      { a with len := k, bytes := Mem.slice a.bytes 0 k 0, marks := NSet.slice a.marks 0 ((k + 31) / 32) 0 } ::
        splitAtomic size rest fuel

/-- The agent has accepted an atomic within one tile: its lines go to their controllers (R205). -/
def acceptAtomic (s : State) (a : Atomic) : State :=
  { s with mem.atomics := s.mem.atomics ++ splitAtomic 128 a (a.len / 128 + 2) }

/-! ### Accesses to data tiles -/

/-- Begin a move: MOVING is set (R193). -/
def State.beginMove (s : State) (m : Move) : State :=
  let s := s.settle m.tile
  { (s.setEntry m.tile (eBit (s.entry m.tile) 61 true)) with mem.moves := s.mem.moves ++ [m] }

/-- A byte access's outcome at a tile. -/
inductive Acc where
  | done
  | noHome
  | wait
  | unmapped
  | full
  deriving DecidableEq, Repr

/-- The place of a byte of a tile. -/
def State.tilePlace (s : State) (t : Nat) (side : Bool) (off : Nat) : Nat :=
  if side then (s.home t).2 + off else (s.home t).1 + off

/-- A write served at a tile's home; one with a poison mark poisons its lines and the entry (R190, R215). -/
def serveWrite (s : State) (t : Nat) (side : Bool) (off n v : Nat) (bad : Bool) : State :=
  let s := s.settle t
  let a := s.tilePlace t side off
  let s := (s.writeCounted a n).put a n v
  if !bad then s
  else
    let s : State := { s with mem.poison := NSet.insertRange s.mem.poison (a / 128 * 4) (4 * ((a + n + 127) / 128 - a / 128)) }
    s.setEntry t (eBit (s.entry t) 60 true)

/-- A read served at a tile's home: the value, whether it meets poison. -/
def serveRead (s : State) (t : Nat) (side : Bool) (off n : Nat) : State × LoadAns :=
  let s := s.settle t
  let a := s.tilePlace t side off
  let s' := s.readCounted a n
  let s' := match stashOf t with
    | some (c, _) => if eTier (s.entry t) = 0 then s'.bump ⟨.stk, c⟩ 6 else s'
    | none => s'
  (s', if s.meetsPoison a n then .poison else .data (Mem.read s.mem.dram a n))

/-- The frame in HBM that a data tile's entry names: natural frame t as t, spare frame k as 2^25 + k. -/
def State.frameOf (s : State) (t : Nat) : Nat := if eRemapped (s.entry t) then 2 ^ 25 + eSpare (s.entry t) else t

/-- Is a tile waiting for its relocation, or left in a retired frame (R220)? -/
def State.frameRetired (s : State) (t : Nat) : Bool :=
  eTier (s.entry t) == 0 && ((s.stack (agentOf t)).relocs.contains (t, s.frameOf t) || s.mem.inPlace.contains t)

/-- The fault that a tile request meets at a tile's agent, if any (R141). -/
def State.tileFault (s : State) (t : Nat) : Option Nat :=
  if !s.hasHome t then some 2
  else if eMoving (s.entry t) then some 1
  else if s.frameRetired t then some 3
  else none

/-- A load tile is read at its home: 32 KiB, and its sidecar from byte 32,768 on, with the marks of its poisoned lines
(R139, R191). -/
def readTile (s : State) (t : Nat) (side : Bool) : State × TileReply :=
  let s := s.settle t
  let (a, b) := s.home t
  let bytes := Mem.slice s.mem.dram a 0x8000 0
  let marks := s.lineMarks a 0x8000
  let s' := s.readCounted a 0x8000
  let s' := if side then s'.readCounted b 0x400 else s'
  let s' := match stashOf t with
    | some (c, _) => if eTier (s.entry t) = 0 then s'.bump ⟨.stk, c⟩ 6 else s'
    | none => s'
  if side then
    (s', .data (bytes ++ Mem.slice s.mem.dram b 0x400 0x8000) (marks ++ (s.lineMarks b 0x400).map (· + 256)))
  else (s', .data bytes marks)

/-- A store tile is written at its home (R193): POISON of the entry sets with a poisoned line, and clears with a clean store
of payload and sidecar. -/
def writeTile (s : State) (t : Nat) (side : Bool) (bytes : List Host.Cell) (marks : NSet) : State :=
  let s := s.settle t
  let (a, b) := s.home t
  let s := (s.writeCounted a 0x8000).putLines a 0x8000 bytes 0 marks
  let s := if side then (s.writeCounted b 0x400).putLines b 0x400 bytes 0x8000 (NSet.slice marks 256 8 0) else s
  let e := s.entry t
  if !marks.isEmpty then s.setEntry t (eBit e 60 true)
  else if side then s.setEntry t (eBit e 60 false)
  else s

/-! ### Stash entries -/

/-- A cluster's Stash. -/
def State.stash (s : State) (c : Nat) : Stash := SMap.getD s.mem.stashes {} c

/-- Put a cluster's Stash. -/
def State.setStash (s : State) (c : Nat) (v : Stash) : State := { s with mem.stashes := SMap.set s.mem.stashes c v }

/-- The STK page of a cluster. -/
def stkPage (c : Nat) : Page := ⟨.stk, c⟩

/-- P, the ring's frames (R197). -/
def State.stkP (s : State) (c : Nat) : Nat := field (s.regN (stkPage c) 0x100) 8 0
/-- H, the tiles lent (R197). -/
def State.stkH (s : State) (c : Nat) : Nat := field (s.regN (stkPage c) 0x108) 16 0
/-- SPILL_AHEAD, at most P (R202). -/
def State.stkSpill (s : State) (c : Nat) : Nat := min (field (s.regN (stkPage c) 0x100) 17 9) (s.stkP c)
/-- FILL_AHEAD, at most P (R202). -/
def State.stkFill (s : State) (c : Nat) : Nat := min (field (s.regN (stkPage c) 0x100) 26 18) (s.stkP c)

/-- What occupies a pool frame. -/
def State.frameAt (s : State) (c f : Nat) : Option Nat := SMap.get s.mem.frames (512 * c + f)

/-- Take a pool frame for a tile (R207). -/
def State.takeFrame (s : State) (c f t : Nat) : State :=
  { s.bump ⟨.pool, c⟩ 2 with mem.frames := SMap.set s.mem.frames (512 * c + f) t }

/-- Free a pool frame (R207). -/
def State.freeFrame (s : State) (c f : Nat) : State :=
  { s.bump ⟨.pool, c⟩ 3 with mem.frames := SMap.del s.mem.frames (512 * c + f) }

/-- A Stash depth's outcome for a store (R198): refused, waiting for a spill or for a frame to be lent (R202), moving, served. -/
inductive StashAns where
  | refused
  | spill
  | lend
  | moving
  | home
  deriving DecidableEq, Repr

/-- The Stash gives a store at a depth its home (R198). -/
def stashAccept (s : State) (c d : Nat) : State × StashAns :=
  let t := stashTile c d
  let st := s.stash c
  let P := s.stkP c
  let e := s.entry t
  if P = 0 ∨ P + s.stkH c ≤ d then (s.bump (stkPage c) 5, .refused)
  else if eValid e then (s, if eMoving e then .moving else .home)
  else
    let top := max st.top (d + 1)
    let ring := decide (top ≤ d + P)
    let f := d % P
    let e' := putField (putField (eBit (eBit e 63 true) 61 false) 25 9 (if ring then f else 0)) 34 6 (if ring then c else 0)
    let rise (s : State) : State :=
      s.setStash c { s.stash c with top := top, pop := if st.top < top then false else st.pop }
    if ring then
      if (s.frameAt c f).isSome then (s, .spill)
      else (rise (((s.takeFrame c f t).setEntry t (eBit e' 62 true)).bump (stkPage c) 0), .home)
    else if st.taken ≤ d then (s, .lend)
    else (rise ((s.setEntry t (eBit e' 62 false)).bump (stkPage c) 0), .home)

/-- Put an answer to a tile request of a stream context: it arrives in the cycle named, or in the core's present one if that is past. -/
def answerTile (s : State) (core sc seq t : Nat) (r : TileReply) : State :=
  let c := SMap.getD s.cores {} core
  { s with cores := SMap.set s.cores core (c.setSc sc (putReply (c.sc sc) seq (max t c.now) r)) }

/-- Record a refusal of the Stash (R199). -/
def stashFull (s : State) (c core : Nat) (x : Ctx) (depth : Nat) : State :=
  (s.record (stkPage c) 0x110 ((core % 7) * 2 ^ 27 + x.idx * 2 ^ 25 + depth)).raise (stkPage c) 0

/-! ### Accesses that an agent serves or holds (R192, R193) -/

/-- A ring record's write has been accepted, or refused: the ring's head moves on, and a refusal is counted (R243, R315). -/
def ringTold (s : State) (p : Page) (head flag : Nat) (sent : Option Nat) (refused : Nat) (ok : Bool) : State :=
  let s := s.setRegN p head ((s.regN p head + 1) % 2 ^ 32)
  if ok then (match sent with | some k => s.bump p k | none => s) else (s.raise p flag).bump p refused

/-- A writing path sends a commit (R237). -/
def sendCommit (s : State) (c : Commit) : State := { s with step.commits := s.step.commits ++ [c] }

/-- A piece of an admitted slice has been accepted or refused: once its homes have accepted the whole slice, its commit goes to the step
unit; a slice of which a home refused a piece is dropped without one (R237, R299). -/
def homed (s : State) (t : Tag) (ok : Bool) : State :=
  let mine (h : Homing) : Bool := decide (t = ⟨h.commit.step, h.commit.bucket, h.commit.slice⟩)
  match s.step.homing.find? mine with
  | none => s
  | some h =>
    let h := { h with left := h.left - 1, refused := h.refused || !ok }
    if h.left ≠ 0 then { s with step.homing := s.step.homing.map (fun g => if mine g then h else g) }
    else
      let s : State := { s with step.homing := s.step.homing.filter (fun g => !mine g) }
      let s : State := if h.rule.isSome then { s with upd.slices := s.upd.slices.filter (fun e => !(e.2.written && decide (e.2.tag = t))) } else s
      let upd : Page := ⟨.upd, 0⟩
      if h.refused then
        let s : State := { s with crs.multicast := s.crs.multicast.filter (fun m => decide (m.1 ≠ t)) }
        if h.rule.isSome then s.bump upd 10 else s
      else
        let s := match h.rule with
          | none => s
          | some r => (s.bump upd 0).bump upd (match r with | 3 => 2 | 4 => 3 | _ => 1)
        sendCommit s h.commit

/-- Whoever made a write learns whether its home accepted it. -/
def told (s : State) (who : Option Origin) (addr len : Nat) (ok : Bool) : State :=
  match who with
  | some (.unit key) => { s with mem.served := s.mem.served ++ [⟨key, addr, len, if ok then .data 0 else .error⟩] }
  | some (.ledger c r) => ringTold s ⟨.phsLedger, c⟩ (0x200 + 4 * r) 0 (some 0) 1 ok
  | some (.numerics c) => ringTold s ⟨.lck, c⟩ 0x120 5 none 7 ok
  | some (.jgSt _ _) => s
  | some (.params t) => homed s t ok
  | none => s

/-- A Stash store that its unit accepts acts (R198, R199): a tile's home accepts it, or its request is refused; bytes are written, or
are discarded and, from a JG.ST, recorded. False while it must be held. -/
def stashServe (s : State) (c : Nat) (r : StashReq) : State × Bool :=
  let t := stashTile c r.depth
  match stashAccept s c r.depth, r.op with
  | (_, .spill), _ => (s, false)
  | (_, .lend), _ => (s, false)
  | (_, .moving), .bytes _ _ _ _ _ _ => (s, false)
  | (s, .moving), .tile core sc seq at_ _ _ _ => (answerTile s core sc seq at_ (.fault 1), true)
  | (s, .refused), .tile core sc seq at_ _ _ _ => (answerTile s core sc seq at_ (.refused r.depth), true)
  | (s, .refused), .bytes (some (.jgSt core x)) _ _ _ _ _ => (stashFull s c core x r.depth, true)
  | (s, .refused), .bytes who side off len _ _ => (told s who (tileAddr t side off) len false, true)
  | (s, .home), .tile core sc seq at_ side bytes marks =>
    (answerTile (writeTile s t side bytes marks) core sc seq at_ .accepted, true)
  | (s, .home), .bytes who side off len v bad =>
    (told (serveWrite s t side off len v bad) who (tileAddr t side off) len true, true)

/-- A core's load is answered. -/
def answerLoad (s : State) (core : Nat) (x : Ctx) (ans : LoadAns) : State :=
  let c := SMap.getD s.cores {} core
  let c := c.modCtx x (fun k => { k with acc := { k.acc with loads :=
    (match k.acc.loads with | l :: rest => { l with got := some ans } :: rest | [] => []) } })
  { s with cores := SMap.set s.cores core c }

/-- A read at the home of a tile, an error without one. -/
def readHome (s : State) (t addr len : Nat) : State × LoadAns :=
  match spotOf addr with
  | .tile _ side off => if s.hasHome t then serveRead s t side off len else (s, .error)
  | _ => (s, .error)

/-- An agent serves an access that it has accepted, at the tile's home (R191-R193, R205); false where it must hold it: the tile moves,
an atomic's target has its home in a pool and begins its move to HBM, a store waits for its Stash frame. -/
def performHeld (s : State) (h : Held) : State × Bool :=
  let moving := s.hasHome h.tile && eMoving (s.entry h.tile)
  match h.op with
  | .store r => (match stashOf h.tile with | some (c, _) => stashServe s c r | none => (s, true))
  | .write addr len v bad who =>
    if moving then (s, false)
    else match spotOf addr with
      | .tile t side off =>
        if s.hasHome t then (told (serveWrite s t side off len v bad) who addr len true, true) else (told s who addr len false, true)
      | _ => (s, true)
  | .atomic a =>
    if !s.hasHome h.tile then (dropAtomic s a, true)
    else if moving then (s, false)
    else if eTier (s.entry h.tile) = 1 then (s.beginMove ⟨h.tile, .atomic h.agent, 0, 0, 0, false⟩, false)
    else (acceptAtomic s a, true)
  | .fetchAdd n a =>
    let answer (s : State) (x : LoadAns) : State := { s with mem.served := s.mem.served ++ [⟨.talel n, a.addr, a.len, x⟩] }
    if !s.hasHome h.tile then (answer (dropAtomic s a) .error, true)
    else if moving then (s, false)
    else if eTier (s.entry h.tile) = 1 then (s.beginMove ⟨h.tile, .atomic h.agent, 0, 0, 0, false⟩, false)
    else
      let s := s.settle h.tile
      let place := atomicPlace s a
      let x := if s.meetsPoison place a.len then .poison else .data (Mem.read s.mem.dram place a.len)
      (answer (applyAtomic s a) x, true)
  | .load core x =>
    if moving then (s, false)
    else match ((SMap.getD s.cores {} core).ctx x).acc.loads with
      | l :: _ =>
        let (s, ans) := readHome s h.tile l.addr 4
        (answerLoad s core x ans, true)
      | [] => (s, true)
  | .read key addr len =>
    if moving then (s, false)
    else
      let (s, ans) := readHome s h.tile addr len
      ({ s with mem.served := s.mem.served ++ [⟨key, addr, len, ans⟩] }, true)
  | .fetch core sc seq at_ side =>
    match s.tileFault h.tile with
    | some f => (answerTile s core sc seq at_ (.fault f), true)
    | none =>
      let (s, r) := readTile s h.tile side
      (answerTile s core sc seq at_ r, true)

/-- Does a held store wait for a spill (R208)? -/
def waitsForSpill (s : State) (h : Held) : Bool :=
  match h.op, stashOf h.tile with
  | .store _, some (c, d) => (stashAccept s c d).2 == .spill
  | _, _ => false

/-- An access joins those an agent holds (R193). A ring record that a data tile's agent holds has been accepted (R243). -/
def State.hold (s : State) (h : Held) : State :=
  let (s, h) := match h.op with
    | .write addr len v bad (some o) =>
      (match o with
      | .unit _ => (s, h)
      | _ => (told s (some o) addr len true, { h with op := .write addr len v bad none }))
    | _ => (s, h)
  let s := { s with mem.held := s.mem.held ++ [h] }
  if h.agent < 12 then s.bump ⟨.dir, h.agent⟩ 2 else if waitsForSpill s h then s.bump (stkPage (h.agent - 12)) 4 else s

/-- An access reaches a tile's agent: it waits while the agent gives no credit, and otherwise is accepted and served, or held behind
those that the agent holds for the tile (R192, R193, R198). -/
def arrive (s : State) (h : Held) : State :=
  if s.saturated h.agent then { s with mem.waiting := s.mem.waiting ++ [h] }
  else
    let s := s.accept h.tile
    if s.holdsFor h.tile then s.hold h
    else match performHeld s h with
      | (s, true) => s
      | (s, false) => s.hold h

/-- Serve in acceptance order what can be served of an agent's held accesses; one stays behind an earlier one to its tile. `keep` are
those still held. -/
def serveHeld (s : State) : List Held → List Held → State
  | [], keep => { s with mem.held := s.mem.held ++ keep }
  | h :: rest, keep =>
    if keep.any (fun k => decide (k.tile = h.tile)) then serveHeld s rest (keep ++ [h])
    else match performHeld s h with
      | (s, true) => serveHeld s rest keep
      | (s, false) => serveHeld s rest (keep ++ [h])

/-- An agent goes on with the accesses it holds; those that waited for credit then arrive (R193). -/
def wakeAgent (s : State) (g : Nat) : State :=
  let mine := s.mem.held.filter (fun h => decide (h.agent = g))
  let s := serveHeld { s with mem.held := s.mem.held.filter (fun h => decide (h.agent ≠ g)) } mine []
  let ws := s.mem.waiting.filter (fun h => decide (h.agent = g))
  ws.foldl arrive { s with mem.waiting := s.mem.waiting.filter (fun h => decide (h.agent ≠ g)) }

/-- The agent accepts the part of an atomic that lies in one tile (R204, R205): discarded without a home, held while the
tile moves, held with a move to HBM when the home is a pool. -/
def takeAtomic (s : State) (a : Atomic) : State :=
  let t := a.addr / 0x8000
  arrive s ⟨agentOf t, t, .atomic a⟩

/-- A store into an alias window reaches the adder (R204). -/
def storeAtomic (s : State) (a : Atomic) : State :=
  let g := grainOf a.fmt
  if a.len = 0 ∨ a.addr % g ≠ 0 ∨ a.len % g ≠ 0 then dropAtomic s a
  else (splitAtomic 0x8000 a (a.len / 0x8000 + 2)).foldl takeAtomic s

/-- ATOMIC_STORE: the next store into an alias window reaches its tile's agent. -/
def atomicStore (s : State) : State :=
  match s.mem.atomicsIn with
  | [] => s
  | a :: r => storeAtomic { s with mem.atomicsIn := r } a

/-- ATOMIC_APPLY: a controller applies the oldest accepted atomic of a line that it holds. -/
def atomicApply (s : State) (stack : Nat) : State :=
  let onStack (a : Atomic) : Bool := (hbmMap (atomicPlace s a)).stack == stack
  match s.mem.atomics.find? onStack with
  | none => s
  | some a => applyAtomic { s with mem.atomics := dropFirst onStack s.mem.atomics } a

/-! ### The Stash -/

/-- STASH_STORE: the next store sent to a Stash reaches its unit, unless the unit gives no credit (R198). -/
def stashStore (s : State) (c : Nat) : State :=
  let st := s.stash c
  match st.inbox with
  | [] => s
  | r :: rest =>
    if s.saturated (12 + c) then s
    else arrive (s.setStash c { st with inbox := rest }) ⟨12 + c, stashTile c r.depth, .store r⟩

/-- Is a store to a Stash depth on its way to the unit? A later access of the same requesters waits behind it (R148). -/
def stashBusy (s : State) (t : Nat) : Bool :=
  match stashOf t with
  | some (c, d) => (s.stash c).inbox.any (fun k => decide (k.depth = d))
  | none => false

/-- The depths of a cluster's Stash whose entries pass a test, with their entries. -/
def stashDepths (s : State) (c : Nat) (p : Nat → Nat → Bool) : List Nat :=
  s.mem.dir.filterMap (fun e =>
    if dataTileCount + 0x20000 * c ≤ e.1 ∧ e.1 < dataTileCount + 0x20000 * (c + 1) then
      let d := (e.1 - dataTileCount) % 0x20000
      if p d e.2.toNat then some d else none
    else none)

/-- Is a Stash move of a cluster in flight? -/
def stashMoving (s : State) (c : Nat) : Bool := s.mem.moves.any (fun m => m.by_ == .stk c)

/-- STASH_SPILL: the oldest pool entry below the spill threshold starts to move to its HBM frame (R200). -/
def stashSpill (s : State) (c : Nat) : State :=
  let st := s.stash c
  let lim : Int := min (s.stkH c : Int) ((st.top : Int) + s.stkSpill c - s.stkP c)
  if st.pop || stashMoving s c then s
  else
    match stashDepths s c (fun d e => eValid e && eTier e == 1 && decide ((d : Int) < lim)) with
    | d :: _ => if d < st.taken && !eMoving (s.entry (stashTile c d)) then
        s.beginMove ⟨stashTile c d, .stk c, 0, 0, 0, false⟩ else s
    | [] => s

/-- STASH_FILL: the deepest HBM entry above the fill threshold starts to move into its ring frame, if that is free (R201). -/
def stashFill (s : State) (c : Nat) : State :=
  let st := s.stash c
  if !st.pop || stashMoving s c || s.stkP c = 0 then s
  else
    match (stashDepths s c (fun d e => eValid e && eTier e == 0 && decide (st.top ≤ d + s.stkFill c))).getLast? with
    | some d =>
      let f := d % s.stkP c
      if (s.frameAt c f).isSome || eMoving (s.entry (stashTile c d)) then s
      else (s.takeFrame c f (stashTile c d)).beginMove ⟨stashTile c d, .stk c, 1, c, f, false⟩
    | none => s

/-- A move that has not committed is cancelled: MOVING clears, the home stays, its frame is freed, the held accesses are
served (R201, R399). -/
def cancelMove (s : State) (m : Move) : State :=
  let s := { s with mem.moves := s.mem.moves.filter (fun k => decide (k.tile ≠ m.tile)) }
  let s := s.setEntry m.tile (eBit (s.entry m.tile) 61 false)
  let s := if m.tier = 1 then s.freeFrame m.cluster m.frame else s
  wakeAgent s (agentOf m.tile)

/-- One Stash entry loses its home; its frame, and the frame of a move of it, are free (R201). -/
def releaseDepth (s : State) (c d : Nat) : State :=
  let t := stashTile c d
  let s := match s.mem.moves.find? (fun m => decide (m.tile = t)) with
    | some m =>
      let s := { s with mem.moves := s.mem.moves.filter (fun k => decide (k.tile ≠ t)) }
      if m.tier = 1 then s.freeFrame m.cluster m.frame else s
    | none => s
  let e := s.entry t
  let s := if eTier e = 1 then s.freeFrame (eCluster e) (eFrame e) else s
  (s.setEntry t (eBit (eBit e 63 false) 61 false)).bump (stkPage c) 1

/-- Entries at depth `r` and above lose their homes, TOP becomes `r` and PHASE POP; what the unit held goes on (R201). -/
def stashRelease (s : State) (c r : Nat) : State :=
  let ds := stashDepths s c (fun d e => eValid e && decide (r ≤ d))
  let s := ds.foldl (fun s d => releaseDepth s c d) s
  wakeAgent (s.setStash c { s.stash c with top := r, pop := true }) (12 + c)

/-- A write to STK.RELEASE (R201); false when it is to be logged as ignored. -/
def stkReleaseWrite (s : State) (c v : Nat) : State × Bool :=
  let r := field v 17 0
  if r ≤ (s.stash c).top then (stashRelease s c r, true) else (s, false)

/-- A write to STK.CFG or STK.HBM_BASE (R202); false when it is to be logged as ignored. -/
def stkCfgWrite (s : State) (c : Nat) (base : Bool) (v : Nat) : State × Bool :=
  let st := s.stash c
  let idle := st.top = 0 ∧ !stashMoving s c
  if base then
    if idle ∧ s.stkH c = 0 then (s.setRegN (stkPage c) 0x104 (field v 24 0), true) else (s, false)
  else
    let p := field v 8 0
    let clear := !(s.mem.frames.any (fun e => decide (512 * c ≤ e.1 ∧ e.1 < 512 * c + p)))
    if idle ∧ p ≤ 496 ∧ p + s.stkH c ≤ 131072 ∧ clear then (s.setRegN (stkPage c) 0x100 (field v 26 0), true) else (s, false)

/-- May a data tile be lent (R202)? -/
def lendable (s : State) (t : Nat) : Bool :=
  let e := s.entry t
  isDataTile t && eValid e && eTier e == 0 && !eMoving e && !eStashRes e

/-- Give a lent tile its home back (R202). -/
def giveBack (s : State) (t : Nat) : State :=
  s.setEntry t (eBit (eBit (eBit (s.entry t) 63 true) 62 false) 58 false)

/-- A write to STK.HBM_TILES (R202); false when it is to be logged as ignored. -/
def hbmTilesWrite (s : State) (c v : Nat) : State × Bool :=
  let h := field v 16 0
  let h0 := s.stkH c
  let st := s.stash c
  let base := s.lender c 0
  let put (s : State) : State := s.setRegN (stkPage c) 0x108 h
  if h0 ≤ h then
    if s.stkP c + h ≤ 131072 ∧ ((List.range (h - h0)).all (fun i => lendable s (base + h0 + i))) then (put s, true) else (s, false)
  else if st.top = 0 then
    let n := st.taken - h
    let s := ((List.range n).map (fun i => base + h + i)).foldl giveBack s
    (put (s.setStash c { s.stash c with taken := min st.taken h }), true)
  else (s, false)

/-- STASH_TAKE_AWAY: the agent of the next lent tile takes its home away (R202). -/
def stashTakeAway (s : State) (c : Nat) : State :=
  let st := s.stash c
  let t := s.lender c st.taken
  if st.taken < s.stkH c ∧ !eMoving (s.entry t) ∧ !s.saturated (agentOf t) then
    let s := (s.accept t).settle t
    let e := s.entry t
    let s := if eTier e = 1 then s.freeFrame (eCluster e) (eFrame e) else s
    let s := s.setEntry t (eBit (eBit (eBit e 63 false) 62 false) 58 true)
    wakeAgent (s.setStash c { s.stash c with taken := st.taken + 1 }) (12 + c)
  else s

/-! ### The mover -/

/-- A cluster's mover. -/
def State.mover (s : State) (c : Nat) : Mover := SMap.getD s.mem.movers {} c

/-- Put a cluster's mover. -/
def State.setMover (s : State) (c : Nat) (v : Mover) : State := { s with mem.movers := SMap.set s.mem.movers c v }

/-- The MOV page of a cluster. -/
def movPage (c : Nat) : Page := ⟨.mov, c⟩

/-- Moves a cluster's mover has in flight (R193). -/
def State.inMove (s : State) (c : Nat) : Nat :=
  (s.mem.moves.filter (fun m => match m.by_ with | .mover k _ => decide (k = c) | _ => false)).length

/-- Tiles of a mover that await an outcome. -/
def State.queuedMoves (s : State) (c : Nat) : Nat := ((s.mover c).reqs.map (·.left)).foldl (· + ·) 0

/-- JG.MOVE hands its tiles to the mover (R150). -/
def jgMove (s : State) (id : CoreId) (x : Ctx) (raw : Nat) : State :=
  let c := id.cluster.val
  let mv := s.mover c
  let ia := (((s.core id).ctx x).acc.ireg (field raw 13 10)).toNat
  let r : MoveReq := ⟨mv.next, coreIdx id, x, field raw 21 14,
    wrapTo 33 ((ia : Int) + signedOf 32 (field raw 63 32)), field raw 29 22 + 1, field raw 6 6, 0⟩
  s.setMover c ⟨mv.reqs ++ [r], mv.next + 1⟩

/-- A remote add of 1 to a flag is sent to a core (R87). -/
def sendFlagAdd (s : State) (core : Nat) (x : Ctx) (f : Nat) : State :=
  let c := SMap.getD s.cores {} core
  { s with cores := SMap.set s.cores core { c with flagsIn := c.flagsIn ++ [⟨x, f, true, 1⟩] } }

/-- A request all of whose tiles have outcomes and whose moves have committed adds to its flag (R194). -/
def finishMoves (s : State) (c : Nat) : State :=
  let mv := s.mover c
  let ended := mv.reqs.filter (fun r => decide (r.left = 0 ∧ r.moving = 0))
  let s := s.setMover c { mv with reqs := mv.reqs.filter (fun r => !decide (r.left = 0 ∧ r.moving = 0)) }
  ended.foldl (fun s r => sendFlagAdd s r.core r.ctx r.flag) s

/-- Outcome of a tile of a JG.MOVE (R194), with the frame that a move into this pool takes. -/
def moveOutcome (s : State) (c : Nat) (r : MoveReq) : Nat × Nat :=
  let e := s.entry r.tile
  if !isDataTile r.tile || !s.hasHome r.tile then (3, 0)
  else if r.tier = 0 then (if eTier e = 1 then 0 else 1, 0)
  else if eTier e = 1 ∧ eCluster e = c then (1, 0)
  else
    match (List.range 496).find? (fun f => decide (s.stkP c ≤ f) && (s.frameAt c f).isNone) with
    | some f => (0, f)
    | none => (2, 0)

/-- Record a declined tile (R194). -/
def recordDecline (s : State) (c : Nat) (r : MoveReq) (code : Nat) : State :=
  let p := movPage c
  let first := s.isFirst p 0x100
  let s := s.record p 0x100 (code * 2 ^ 24 + r.ctx.idx * 2 ^ 22 + (r.core % 7) * 2 ^ 19)
  let s := if first then (s.setRegN p 0x104 (r.tile % 2 ^ 32)).setRegN p 0x108 (r.tile / 2 ^ 32) else s
  (s.raise p 0).bump p (code + 1)

/-- MOVE_TILE_REQUEST: the agent of the mover's next tile decides its outcome (R194). A tile that is MOVING, or a mover with
8 moves in flight, waits. -/
def moveTileRequest (s : State) (c : Nat) : State :=
  let mv := s.mover c
  match mv.reqs.find? (fun r => decide (0 < r.left)) with
  | none => s
  | some r =>
    if 8 ≤ s.inMove c || (isDataTile r.tile && eMoving (s.entry r.tile)) || s.saturated (agentOf r.tile) then s
    else
      let s := if isDataTile r.tile then s.accept r.tile else s
      let (code, f) := moveOutcome s c r
      let r' : MoveReq := { r with tile := (r.tile + 1) % 2 ^ 33, left := r.left - 1, moving := if code = 0 then r.moving + 1 else r.moving }
      let s := s.setMover c { mv with reqs := mv.reqs.map (fun q => if q.num = r.num then r' else q) }
      let s := match code with
        | 0 =>
          let s := if r.tier = 1 then s.takeFrame c f r.tile else s
          s.beginMove ⟨r.tile, .mover c r.num, r.tier, c, f, false⟩
        | 1 => s.bump (movPage c) 2
        | _ => recordDecline s c r code
      finishMoves s c

/-- Where a move writes a tile: payload and sidecar places. -/
def moveDest (s : State) (m : Move) : Nat × Nat :=
  match m.by_ with
  | .reloc _ k => if (stashOf m.tile).isSome then s.hbmHome m.tile else (sparePlace k, sparePlace k + 0x8000)
  | _ => if m.tier = 1 then (poolPlace m.cluster m.frame, poolPlace m.cluster m.frame + 0x8000) else s.hbmHome m.tile

/-- Copy lines from a place to another, poison marks included (R193). -/
def copyLines (s : State) (x y n : Nat) : State :=
  let s := (s.readCounted x n).writeCounted y n
  s.putLines y n s.mem.dram x (s.lineMarks x n)

/-- MOVE_GRANT: the agent grants a move and the mover copies payload and sidecar, poison marks included (R193). -/
def moveGrant (s : State) (t : Nat) : State :=
  match s.mem.moves.find? (fun m => decide (m.tile = t) && !m.granted) with
  | none => s
  | some m =>
    let s := s.settle t
    let (a, b) := s.home t
    let (a', b') := moveDest s m
    let s := copyLines (copyLines s a a' 0x8000) b b' 0x400
    { s with mem.moves := s.mem.moves.map (fun k => if k.tile = t then { k with granted := true } else k) }

/-- Answer every fault of a kind that stream contexts wait on for a tile: SERVICED or REFUSED (R193, R195, R220). -/
def answerFaults (s : State) (t kind : Nat) (ok : Bool) : State :=
  s.cores.foldl (fun s e =>
    e.2.scs.foldl (fun s k =>
      if k.2.state == scFaultWait && k.2.faultOpen && k.2.faultKind == kind && k.2.answer.isNone &&
          tileNumber k.2.cur k.2.ctrs == t then
        let c := SMap.getD s.cores {} e.1
        let s := { s with cores := SMap.set s.cores e.1 (c.setSc k.1 { k.2 with answer := some ok }) }
        let s := s.bump (movPage (e.1 / 7)) (if ok then 5 else 6)
        if kind = 1 ∧ agentOf t < 12 then s.bump ⟨.dir, agentOf t⟩ 1 else s
      else s) s) s

/-- The lowest-numbered free spare frame of an agent (R220). -/
def freeSpare (s : State) (stack : Nat) : Nat → Nat → Option Nat
  | 0, _ => none
  | fuel + 1, k =>
    if 131072 ≤ k then none
    else if s.mem.spareUsed.contains k then freeSpare s stack fuel (k + 12)
    else some k

/-- FRAMES_FREE of an agent (R220). -/
def framesFree (s : State) (stack : Nat) : Nat :=
  (if stack < 8 then 10923 else 10922) - (s.mem.spareUsed.filter (fun k => decide (k % 12 = stack))).length

/-- The Stash tile whose home is the frame that a data tile lends (R190). -/
def lentDepth (s : State) (t : Nat) : Option Nat :=
  if !eStashRes (s.entry t) then none
  else
    (List.range 40).findSome? (fun c =>
      let base := s.lender c 0
      if base ≤ t ∧ t < base + (s.stash c).taken then
        let st := stashTile c (t - base)
        if eValid (s.entry st) && eTier (s.entry st) == 0 then some st else none
      else none)

/-- Is a Stash tile whose HBM frame a data tile lends on a move? -/
def lentMoving (s : State) (t : Nat) : Bool :=
  s.mem.moves.any (fun m => match stashOf m.tile with | some (c, d) => s.lender c d == t | none => false)

/-- A spare frame is used; SPARE_LOW sets when fewer than 1,024 of its agent's are left (R220). -/
def useSpare (s : State) (k : Nat) : State :=
  let s := { s with mem.spareUsed := NSet.insert s.mem.spareUsed k }
  if framesFree s (k % 12) < 1024 then s.raise ⟨.hbc, k % 12⟩ 6 else s

/-- An agent takes up the first of its relocations that it can (R220): a tile whose home lies in the retired frame moves to a spare
frame, a tile without a home in HBM only has its entry written, a Stash tile in the frame that it lends is moved by its unit; a home
in another frame stays. A tile that moves, or a frame lent whose Stash tile moves, waits. `fuel` bounds the notices looked at. -/
def startReloc (s : State) (stack : Nat) : Nat → State
  | 0 => s
  | fuel + 1 =>
    let k := s.stack stack
    let busy := s.mem.moves.any (fun m => match m.by_ with | .reloc h _ => decide (h = stack) | _ => false)
    match k.relocs with
    | [] => s
    | (t, fr) :: rest =>
      let e := s.entry t
      let lent := lentDepth s t
      let inHbm := s.hasHome t && eTier e == 0
      if busy || eMoving e || lentMoving s t then s
      else if (inHbm || lent.isSome) && s.frameOf t != fr then startReloc (s.setStack stack { k with relocs := rest }) stack fuel
      else
        match freeSpare s stack 10923 stack with
        | none =>
          let s := (s.setStack stack { k with relocs := rest }).raise ⟨.hbc, stack⟩ 6
          let s := { s with mem.inPlace := NSet.insert s.mem.inPlace t }
          startReloc (answerFaults (s.bump ⟨.hbc, stack⟩ 8) t 3 false) stack fuel
        | some sp =>
          let s := useSpare (s.setStack stack { k with relocs := rest }) sp
          let remap (s : State) : State := s.setEntry t (putField (eBit (s.entry t) 59 true) 0 17 sp)
          if inHbm then s.beginMove ⟨t, .reloc stack sp, 0, 0, 0, false⟩
          else
            match lent with
            | some st =>
              let (a, b) := s.home st
              let s := remap (s.setEntry st (eBit (s.entry st) 61 true))
              let (a', b') := s.hbmHome st
              let s := copyLines (copyLines s a a' 0x8000) b b' 0x400
              { s with mem.moves := s.mem.moves ++ [⟨st, .reloc stack sp, 0, 0, 0, true⟩] }
            | none => startReloc (answerFaults (remap s) t 3 true) stack fuel

/-- An agent goes on with its relocations. -/
def relocate (s : State) (stack : Nat) : State := startReloc s stack ((s.stack stack).relocs.length + 1)

/-- MOVE_COMMIT: the agent writes the entry, answers the MOVING faults and releases the accesses it held (R193). -/
def moveCommit (s : State) (t : Nat) : State :=
  match s.mem.moves.find? (fun m => decide (m.tile = t) && m.granted) with
  | none => s
  | some m =>
    let e := s.entry t
    let s := { s with mem.moves := s.mem.moves.filter (fun k => decide (k.tile ≠ t)) }
    let s := if eTier e = 1 then s.freeFrame (eCluster e) (eFrame e) else s
    let e' := putField (eBit e 61 false) 50 8 (wrapSucc 8 (eMoves e))
    let e' := putField (putField (putField e' 62 1 m.tier) 34 6 (if m.tier = 1 then m.cluster else 0)) 25 9 (if m.tier = 1 then m.frame else 0)
    let e' := match m.by_ with
      | .reloc _ k => if (stashOf t).isSome then e' else putField (eBit e' 59 true) 0 17 k
      | _ => e'
    let s := s.setEntry t e'
    let g := agentOf t
    let s := if g < 12 then s.bump ⟨.dir, g⟩ 3 else s
    let s := match m.by_ with
      | .mover c num =>
        let s := s.bump (movPage c) (if m.tier = 1 then 0 else 1)
        let mv := s.mover c
        finishMoves (s.setMover c { mv with reqs := mv.reqs.map (fun q => if q.num = num then { q with moving := q.moving - 1 } else q) }) c
      | .stk c => s.bump (stkPage c) (if m.tier = 1 then 3 else 2)
      | _ => s
    let s := answerFaults s t 1 true
    let s := match m.by_ with | .reloc _ _ => answerFaults s t 3 true | _ => s
    let s := wakeAgent s g
    match m.by_, stashOf t with
    | .reloc h _, _ => relocate s h
    | _, some (c, d) => relocate s (agentOf (s.lender c d))
    | _, none => relocate s g

/-- RETIRE_NOTICE: an agent accepts its next retire notice (R220). -/
def retireNotice (s : State) (stack : Nat) : State :=
  let k := s.stack stack
  match k.notices with
  | [] => s
  | n :: rest =>
    if s.saturated stack then s
    else relocate ((s.setStack stack { k with notices := rest, relocs := k.relocs ++ [n] }).accept n.1) stack

/-- A stream context's fault is put to the mover of its cluster (R195). Answered at once: NO_HOME and WINDOW, RETIRED once
the entry is remapped or its tile is left in place. -/
def askMover (s : State) (id : CoreId) (n : Nat) : State :=
  let c := s.core id
  let sc := c.sc n
  let t := tileNumber sc.cur sc.ctrs
  let ans (ok : Bool) : State :=
    (s.setSc id n { sc with answer := some ok }).bump (movPage id.cluster.val) (if ok then 5 else 6)
  if sc.state ≠ scFaultWait ∨ !sc.faultOpen ∨ sc.answer.isSome then s
  else match sc.faultKind with
    | 1 => s
    | 3 =>
      if s.mem.inPlace.contains t then ans false
      else if eRemapped (s.entry t) then ans true
      else s
    | _ => ans false

/-- MOVING_FAULT_ENQUIRY: the mover asks a tile's agent about a MOVING fault; one whose entry is no longer MOVING is SERVICED
(R195). -/
def movingFaultEnquiry (s : State) (id : CoreId) (n : Nat) : State :=
  let sc := (s.core id).sc n
  let t := tileNumber sc.cur sc.ctrs
  let t' := match aliasOf t with | some (_, u) => u | none => t
  if sc.state = scFaultWait ∧ sc.faultOpen ∧ sc.answer = none ∧ sc.faultKind = 1 ∧ !eMoving (s.entry t') then
    let s := (s.setSc id n { sc with answer := some true }).bump (movPage id.cluster.val) 5
    if agentOf t' < 12 then s.bump ⟨.dir, agentOf t'⟩ 1 else s
  else s

/-! ### Byte accesses by requesters outside the cores -/

/-- The pieces of an access, cut at the ends of tiles and sidecars: address, length, bytes before it. -/
def piecesOf (a n done : Nat) : Nat → List (Nat × Nat × Nat)
  | 0 => []
  | fuel + 1 =>
    if n = 0 then []
    else
      let k := match spotOf a with
        | .tile _ side off => min n ((if side then 0x400 else 0x8000) - off)
        | _ => n
      (a, k, done) :: piecesOf (a + k) (n - k) (done + k) fuel

/-- The pieces of a unit's access. -/
def accessPieces (a n : Nat) : List (Nat × Nat × Nat) := piecesOf a n 0 (n / 0x400 + 3)

/-- The tile of a piece, none for one that its requester does not reach (R188, R401). -/
def pieceTile (s : State) (part : Option Nat) (a : Nat) : Option Nat :=
  match spotOf a with
  | .tile t _ _ => if s.tileInPart part t then some t else none
  | _ => none

/-- Does a unit reach every piece of an access? -/
def reachesAll (s : State) (part : Option Nat) (a n : Nat) : Bool :=
  (accessPieces a n).all (fun p => (pieceTile s part p.1).isSome)

/-- Enter an access to a system window in the DIR page of the stack that received it (R188). -/
def logSystem (s : State) (who : Requester) (write : Bool) (a : Nat) : State :=
  s.logReq ⟨.dir, (hbmMap a).stack⟩ kindEvent who write 0x018

/-- The same for an access that the block's own hardware makes for a partition (R188, R448). -/
def logSystemUnit (s : State) (part : Option Nat) (cluster : Nat) (write : Bool) (a : Nat) : State :=
  s.logWord ⟨.dir, (hbmMap a).stack⟩ (kindEvent * 2 ^ 28 + 5 * 2 ^ 24 + part.getD 0 * 2 ^ 22 + cluster * 2 ^ 16 + b2n write * 2 ^ 12 + 0x018)

/-- Log the system windows that a unit's access touches; a Talel request's answer logs its own (R188). -/
def logUnreached (s : State) (key : UnitKey) (part : Option Nat) (write : Bool) (a n : Nat) : State :=
  let log (c : Nat) : State :=
    match (accessPieces a n).find? (fun p => match spotOf p.1 with | .system _ => true | _ => false) with
    | some p => logSystemUnit s part c write p.1
    | none => s
  match key with
  | .talel _ => s
  | .row c => log c
  | .train => log 0

/-- Has a unit's access been served, and its outcome not been taken? -/
def servedAt (s : State) (key : UnitKey) (a n : Nat) : Option LoadAns :=
  (s.mem.served.find? (fun e => decide (e.key = key ∧ e.addr = a ∧ e.len = n))).map (·.ans)

/-- Does an access of a unit stand at an agent? -/
def pendingAt (s : State) (key : UnitKey) (a n : Nat) : Bool :=
  (s.mem.held ++ s.mem.waiting).any (fun h => match h.op with
    | .read k b m => decide (k = key ∧ b = a ∧ m = n)
    | .write b m _ _ (some (.unit k)) => decide (k = key ∧ b = a ∧ m = n)
    | .fetchAdd c t => decide (UnitKey.talel c = key ∧ t.addr = a ∧ t.len = n)
    | _ => false)

/-- A unit's access goes to its agent, unless it stands there or has been served; one to a Stash depth to which a store is on its way
waits for that store. -/
def submit (s : State) (key : UnitKey) (a n : Nat) (op : HeldOp) : State :=
  match spotOf a with
  | .tile t _ _ =>
    if (servedAt s key a n).isSome || pendingAt s key a n || stashBusy s t then s
    else match op, stashOf t with
      | .write _ _ v bad who, some (c, d) =>
        (match spotOf a with
        | .tile _ side off => arrive s ⟨12 + c, t, .store ⟨d, .bytes who side off n v bad⟩⟩
        | _ => s)
      | _, _ => arrive s ⟨agentOf t, t, op⟩
  | _ => s

/-- Two answers of neighbouring pieces as one. -/
def LoadAns.join (k : Nat) : LoadAns → LoadAns → LoadAns
  | .data u, .data v => .data (u + 2 ^ (8 * k) * v)
  | .error, _ => .error
  | _, .error => .error
  | _, _ => .poison

/-- The outcome of an access whose pieces have all been served, which is taken; none while one stands at its agent. -/
def takeOutcome (s : State) (key : UnitKey) (a n : Nat) : Option (State × LoadAns) :=
  let ps := accessPieces a n
  if ps.all (fun p => (servedAt s key p.1 p.2.1).isSome) then
    let ans := ps.foldr (fun p x => LoadAns.join p.2.1 ((servedAt s key p.1 p.2.1).getD .error) x) (.data 0)
    some ({ s with mem.served := s.mem.served.filter (fun e =>
      !(decide (e.key = key) && ps.any (fun p => decide (e.addr = p.1 ∧ e.len = p.2.1)))) }, ans)
  else none

/-- A unit's reads go to their agents (R193). -/
def State.askFor (s : State) (key : UnitKey) (part : Option Nat) (a n : Nat) : State :=
  if !reachesAll s part a n then s
  else (accessPieces a n).foldl (fun s p => submit s key p.1 p.2.1 (.read key p.1 p.2.1)) s

/-- A unit's read of device memory (R187, R188, R191-R193): the state after it with the answer, none while a piece of it stands at its
agent. A unit whose read stands there finds the outcome when it asks again. -/
def unitRead (s : State) (key : UnitKey) (part : Option Nat) (a n : Nat) : State × Option LoadAns :=
  if !reachesAll s part a n then (logUnreached s key part false a n, some .error)
  else
    let s := s.askFor key part a n
    match takeOutcome s key a n with
    | some (s, x) => (s, some x)
    | none => (s, none)

/-- A unit's write whose outcome it waits for (R355): true once its homes have made it, false where one refuses it. -/
def unitWriteDone (s : State) (key : UnitKey) (part : Option Nat) (a n v : Nat) : State × Option Bool :=
  if !reachesAll s part a n then (logUnreached s key part true a n, some false)
  else
    let s := (accessPieces a n).foldl (fun s p =>
      submit s key p.1 p.2.1 (.write p.1 p.2.1 (v / 2 ^ (8 * p.2.2) % 2 ^ (8 * p.2.1)) false (some (.unit key)))) s
    match takeOutcome s key a n with
    | some (s, x) => (s, some (x != .error))
    | none => (s, none)

/-- A read-only look at whether a tile's home takes a write now or later: done, or why not. -/
def writeFate (s : State) (part : Option Nat) (a : Nat) : Acc :=
  match spotOf a with
  | .tile t _ _ =>
    if !s.tileInPart part t then .unmapped
    else if s.saturated (agentOf t) then .wait
    else match stashOf t with
      | some (c, d) => if (stashAccept s c d).2 == .refused then .full else .done
      | none => if s.hasHome t then .done else .noHome
  | _ => .unmapped

/-- The worse of two outcomes. -/
def Acc.join : Acc → Acc → Acc
  | .wait, _ => .wait
  | _, .wait => .wait
  | .done, b => b
  | a, _ => a

/-- Would a unit's write have to wait for an agent's credit? -/
def writeWaits (s : State) (part : Option Nat) (a n : Nat) : Bool :=
  (accessPieces a n).any (fun p => writeFate s part p.1 == .wait)

/-- A unit's write goes to its agents, those of its pieces that it reaches, with a poison mark where `bad` (R178, R188, R215); `who`
learns of each piece whether its home accepted it. -/
def unitPost (s : State) (key : UnitKey) (part : Option Nat) (a n v : Nat) (bad : Bool) (who : Option Origin) : State :=
  let s := if reachesAll s part a n then s else logUnreached s key part true a n
  (accessPieces a n).foldl (fun s p =>
    let w := v / 2 ^ (8 * p.2.2) % 2 ^ (8 * p.2.1)
    match spotOf p.1 with
    | .tile t side off =>
      if !s.tileInPart part t then told s who p.1 p.2.1 false
      else match stashOf t with
        | some (c, d) => arrive s ⟨12 + c, t, .store ⟨d, .bytes who side off p.2.1 w bad⟩⟩
        | none => arrive s ⟨agentOf t, t, .write p.1 p.2.1 w bad who⟩
    | _ => told s who p.1 p.2.1 false) s

/-- A unit's write that its agents accept: served, or held while a tile moves or a Stash depth waits for its frame (R193, R198).
Pieces that no home accepts are refused; nothing is written while an agent gives no credit. -/
def unitWrite (s : State) (key : UnitKey) (part : Option Nat) (a n v : Nat) (bad : Bool) : State × Acc :=
  let ps := accessPieces a n
  let fate := ps.foldl (fun f p => f.join (writeFate s part p.1)) .done
  if fate = .wait then (s, .wait) else (unitPost s key part a n v bad none, fate)

/-- A posted write of a core (R79, R193): served, held while its tile moves, sent to a Stash, or refused where no home takes it. -/
def postedWrite (s : State) (part : Option Nat) (cluster : Nat) (who : Origin) (a n v : Nat) : State :=
  match spotOf a with
  | .tile t side off =>
    if !s.tileInPart part t then told s (some who) a n false
    else match stashOf t with
      | some (c, d) =>
        let st := s.stash c
        s.setStash c { st with inbox := st.inbox ++ [⟨d, .bytes (some who) side off n v false⟩] }
      | none => arrive s ⟨agentOf t, t, .write a n v false (some who)⟩
  | .system p => told (logSystemUnit s part cluster true p) (some who) a n false
  | _ => told s (some who) a n false

/-- Records of a ring that no home has accepted yet (R243). -/
def ringPending (s : State) (who : Origin) : Nat :=
  (s.mem.waiting.filter (fun h => match h.op with
    | .write _ _ _ _ o => decide (o = some who)
    | .store r => (match r.op with | .bytes o _ _ _ _ _ => decide (o = some who) | _ => false)
    | _ => false)).length +
  (s.mem.held.filter (fun h => match h.op with
    | .store r => (match r.op with | .bytes o _ _ _ _ _ => decide (o = some who) | _ => false)
    | _ => false)).length +
  (s.mem.stashes.map (fun e => (e.2.inbox.filter (fun r =>
    match r.op with | .bytes o _ _ _ _ _ => decide (o = some who) | _ => false)).length)).foldl (· + ·) 0

/-- A unit gives up what it waits for: its reads are withdrawn, its writes stay without anyone who waits for them. -/
def State.dropUnit (s : State) (key : UnitKey) : State :=
  let mine (h : Held) : Bool := match h.op with | .read k _ _ => decide (k = key) | _ => false
  let quiet (h : Held) : Held := match h.op with
    | .write a n v bad (some (.unit k)) => if k = key then { h with op := .write a n v bad none } else h
    | .fetchAdd c a => if UnitKey.talel c = key then { h with op := .atomic a } else h
    | _ => h
  { s with
    mem.held := (s.mem.held.filter (fun h => !mine h)).map quiet
    mem.waiting := (s.mem.waiting.filter (fun h => !mine h)).map quiet
    mem.served := s.mem.served.filter (fun e => decide (e.key ≠ key)) }

/-- DIR_PEEK: a read of DIR.PEEK_LO snapshots an entry (R190, R192); false when the tile's agent is another unit. -/
def dirPeek (s : State) (stack : Nat) : State × Nat × Bool :=
  let p : Page := ⟨.dir, stack⟩
  let t := (field (s.regN p 0x104) 0 0) * 2 ^ 32 + s.regN p 0x100
  if (isDataTile t || (stashOf t).isSome) && agentOf t == stack then
    let e := s.entry t
    ((s.setRegN p 0x108 (e % 2 ^ 32)).setRegN p 0x10C (e / 2 ^ 32), e % 2 ^ 32, true)
  else ((s.setRegN p 0x108 0).setRegN p 0x10C 0, 0, false)

end Sys2Proof.Machine
end

