-- ==== Sys2Proof/Machine/Training.lean ====
section
/-! DEFINITION. The step unit and the phase ledger (R229-R247), with the step arithmetic of tags (R249). -/

namespace Sys2Proof.Machine

/-! ### Steps of tags (R249) -/

/-- Modulus of a tag's STEP. -/
abbrev stepMod : Nat := 65532

/-- Difference of two steps. -/
def stepDiff (a b : Nat) : Nat := (a + 2 * stepMod - b % stepMod) % stepMod

/-- The step after a step. -/
def stepNext (a : Nat) : Nat := (a + 1) % stepMod

/-- Is tag `a` at or after tag `b`? -/
def stepAtOrAfter (a b : Nat) : Bool := decide (stepDiff a b < 32766)

/-- Is tag `a` later than tag `b`? -/
def stepLater (a b : Nat) : Bool := decide (1 ≤ stepDiff a b) && decide (stepDiff a b ≤ 32765)

/-- Is a number a step at all? -/
def isStep (a : Nat) : Bool := decide (a < stepMod)

/-! ### The step unit -/

/-- The step unit's page. -/
def stepPage : Page := ⟨.phsStep, 40⟩

/-- A layer's entry. -/
def State.stepEntry (s : State) (l : Nat) : Nat := (SMap.getD s.step.entries 0 l).toNat

/-- Write a layer's entry. -/
def State.setStepEntry (s : State) (l e : Nat) : State :=
  { s with step.entries := SMap.set s.step.entries l (BitVec.ofNat 64 e) }

/-- LAYERS_M1. -/
def State.layersM1 (s : State) : Nat := field (s.regN stepPage 0x100) 17 8

/-- Is the step unit enabled? -/
def State.stepOn (s : State) : Bool := bitAt (s.regN stepPage 0x100) 31

/-- Outcome of an admission (R236). -/
def admitCode (s : State) (tag l i : Nat) : Nat :=
  let e := s.stepEntry l
  let d := field e 63 48
  let bit := bitAt (SMap.getD s.step.bitmaps 0 l) i
  if !s.stepOn then 6
  else if s.layersM1 < l ∨ field e 9 0 < i ∨ !isStep tag then 5
  else
    let k := stepDiff tag d
    if k = 1 then
      if bit then 1
      else if 1 ≤ field e 47 46 ∨ field e 45 37 = 0 then 0
      else 2
    else if 2 ≤ k ∧ k ≤ 32765 then 3
    else 4

/-- ADMISSION: the step unit answers a path that asks to write a parameter slice (R236). -/
def admitTag (s : State) (tag l i : Nat) : State × Nat :=
  let code := admitCode s tag l i
  let s := s.bump stepPage (if code ≤ 4 then code else 5)
  if code = 0 then
    ({ s with step.bitmaps := SMap.set s.step.bitmaps l (SMap.getD s.step.bitmaps 0 l + 2 ^ i) }, 0)
  else
    let first := s.isFirst stepPage 0x118
    let s := s.record stepPage 0x118 (code * 2 ^ 27 + (i % 1024) * 2 ^ 10 + l % 1024)
    let s := if first then s.setRegN stepPage 0x11C (tag % 2 ^ 16) else s
    let s := s.raise stepPage 1
    if code = 2 then ((s.setStepEntry l (eBit (s.stepEntry l) 16 true)).raise stepPage 0, 2) else (s, code)

/-- SLICE_COMMIT: the next commit reaches the step unit and may complete its layer's tag (R237). -/
def sliceCommit (s : State) : State :=
  match s.step.commits with
  | [] => s
  | c :: rest =>
    let s : State := { s with step.commits := rest }
    let e := s.stepEntry c.layer
    let n := field e 27 17 + 1
    if field e 9 0 + 1 ≤ n then
      let e := putField e 48 16 (stepNext (field e 63 48))
      let e := putField e 46 2 (field e 47 46 + 3)
      let e := eBit (putField e 17 11 0) 16 false
      { s.setStepEntry c.layer e with step.bitmaps := SMap.del s.step.bitmaps c.layer }
    else s.setStepEntry c.layer (putField e 17 11 n)

/-- A release event for a layer (R238). -/
def releaseEvent (s : State) (l : Nat) : State :=
  if s.layersM1 < l then s
  else
    let s := s.bump stepPage 6
    let e := s.stepEntry l
    let b := (field e 36 28 + 1) % 512
    if b = field e 45 37 ∧ b ≠ 0 then
      let e := putField e 28 9 0
      if field e 47 46 = 3 then ((s.setStepEntry l e).raise stepPage 2).bump stepPage 7
      else s.setStepEntry l (putField e 46 2 (field e 47 46 + 1))
    else s.setStepEntry l (putField e 28 9 b)

/-- The loop of R239: advance the frontier over complete layers, counting; at most `fuel` layers. -/
def frontierLoop (s : State) (last : Nat) : Nat → Nat → Nat → Nat → Nat × Nat × Nat
  | 0, step, layer, n => (step, layer, n)
  | fuel + 1, step, layer, n =>
    if stepDiff (field (s.stepEntry layer) 63 48) step < 32766 then
      let (step', layer') := if layer = last then (stepNext step, 0) else (step, layer + 1)
      frontierLoop s last fuel step' layer' (n + 1)
    else (step, layer, n)

/-- The cores whose F contexts receive frontier adds, in order (R239). -/
def subscribed (s : State) : List Nat :=
  (List.range 40).flatMap (fun c =>
    (List.range 7).filterMap (fun k => if bitAt (s.regN stepPage (0x400 + 4 * c)) k then some (7 * c + k) else none))

/-- FRONTIER_ADVANCE: the step unit advances its frontier and queues a flag add for each subscribed F context (R239). -/
def frontierAdvance (s : State) : State :=
  if !s.stepOn then s
  else
    let f := s.regN stepPage 0x104
    let (step, layer, n) := frontierLoop s s.layersM1 (s.layersM1 + 1) (field f 31 16) (field f 9 0) 0
    if n = 0 then s
    else
      let s := s.setRegN stepPage 0x104 (step * 2 ^ 16 + layer)
      let s := s.setRegN stepPage 0x108 ((s.regN stepPage 0x108 + n) % 2 ^ 32)
      { s with step.sends := s.step.sends ++ (subscribed s).map (fun c => (c, n)) }

/-- FRONTIER_FLAG_SEND: the next frontier add is injected on its way to its F context's flag (R239). -/
def frontierFlagSend (s : State) : State :=
  match s.step.sends with
  | [] => s
  | (core, n) :: rest =>
    let s : State := { s with step.sends := rest }
    let c := SMap.getD s.cores {} core
    { s with cores := SMap.set s.cores core { c with flagsIn := c.flagsIn ++ [⟨.f, field (s.regN stepPage 0x100) 7 0, true, n⟩] } }

/-- A write of PHS.STEP_CFG (R246): EN always, the other fields while EN is 0, a FLAG of 0xFF never; false when part of it is ignored
and to be logged. -/
def stepCfgWrite (s : State) (v : Nat) : State × Bool :=
  let old := s.regN stepPage 0x100
  let en := field v 31 31 * 2 ^ 31
  if bitAt old 31 then (s.setRegN stepPage 0x100 (en + field old 17 0), false)
  else if field v 7 0 = 0xFF then (s.setRegN stepPage 0x100 (en + field v 17 8 * 2 ^ 8 + field old 7 0), false)
  else (s.setRegN stepPage 0x100 (en + field v 17 0), true)

/-- PHS_LDATA_WRITE: a write of PHS.LDATA_HI commits a layer entry and clears its bitmap while EN is 0 (R246). -/
def stepLdataWrite (s : State) (v : Nat) : State × Bool :=
  if s.stepOn then (s, false)
  else
    let l := field (s.regN stepPage 0x10C) 9 0
    let e := (v % 2 ^ 32) * 2 ^ 32 + s.regN stepPage 0x110
    let e := putField e 10 6 0
    ({ (s.setStepEntry l e).setRegN stepPage 0x114 v with step.bitmaps := SMap.del s.step.bitmaps l }, true)

/-- PHS_LDATA_READ: a read of PHS.LDATA_LO snapshots a layer entry (R246). -/
def stepLdataRead (s : State) : State × Nat :=
  let e := s.stepEntry (field (s.regN stepPage 0x10C) 9 0)
  ({ s with snaps := SMap.set s.snaps (stepPage.key 0x114) (BitVec.ofNat 32 (e / 2 ^ 32)) }, e % 2 ^ 32)

/-! ### The phase ledger (R242-R245) -/

/-- The ledger page of a cluster. -/
def ledgerPage (c : Nat) : Page := ⟨.phsLedger, c⟩

/-- A replay of a range starts: a recomputation, if B replays a forward range (R230, R247). -/
def replayStarts (s : State) (id : CoreId) (x : Ctx) (r : Nat) : State :=
  if x = .b ∧ 32 ≤ r then s.bump (ledgerPage id.cluster.val) 4 else s

/-- A core's all-cycles counter at the end of cycle `t`, from its last clear (R244, R386). -/
def State.coreCycles (s : State) (id : CoreId) (t : Nat) : Nat := (t + 1 + 2 ^ 64 - s.counter (corePage id) 3 % 2 ^ 64) % 2 ^ 64

/-- The difference of two counts, sticking at all ones of 32 bits. -/
def stuckDiff (a b : Nat) : Nat := min ((a + 2 ^ 64 - b) % 2 ^ 64) (2 ^ 32 - 1)

/-- Write the ledger record of a phase (R243, R244). -/
def ledgerRecord (s : State) (id : CoreId) (x : Ctx) (access replayed unmatched : Bool) (layer tick cycle ticks cycles : Nat) : State :=
  let c := id.cluster.val
  let p := ledgerPage c
  if !bitAt (s.regN p 0x100) 31 then s
  else
    let s := if unmatched then s.bump p 2 else s
    let r := 3 * id.core.val + x.idx
    let q := (s.regN p (0x200 + 4 * r) + ringPending s (.ledger c r)) % 2 ^ 32
    let size := 2 ^ min (max (field (s.regN p 0x100) 3 0) 6) 12
    let base := (field (s.regN p 0x108) 15 0) * 2 ^ 32 + field (s.regN p 0x104) 31 15 * 2 ^ 15
    let v := layer + 2 ^ 16 * (b2n access + 2 * b2n replayed + 4 * b2n unmatched) + 2 ^ 32 * q + 2 ^ 64 * (tick % 2 ^ 64) +
      2 ^ 128 * cycle + 2 ^ 192 * ticks + 2 ^ 224 * cycles
    postedWrite s (some (s.clusterPart c)) c (.ledger c r) (base + 32 * (r * size + q % size)) 32 v

/-- Close a stream's open phase at cycle `t`, if it has one (R242). -/
def closePhase (s : State) (id : CoreId) (x : Ctx) (access replaying unmatched : Bool) (t : Nat) : State :=
  match (((s.core id).ctx x).stream access).phase with
  | none => s
  | some ph =>
    let s := ledgerRecord s id x access (ph.replay || replaying) unmatched ph.layer ph.tick ph.cycle
      (stuckDiff s.tick ph.tick) (stuckDiff (s.coreCycles id t) ph.cycle)
    s.modCore id (fun c => c.modCtx x (fun k => k.setStream access { k.stream access with phase := none }))

/-- MARK.START opens a phase, closing an open one as UNMATCHED (R242). -/
def openPhase (s : State) (id : CoreId) (x : Ctx) (access replaying : Bool) (layer t : Nat) : State :=
  let s := closePhase s id x access replaying true t
  let ph : OpenPhase := ⟨layer, s.tick, s.coreCycles id t, replaying⟩
  s.modCore id (fun c => c.modCtx x (fun k => k.setStream access { k.stream access with phase := some ph }))

/-- MARK.END closes the open phase, or records that there was none (R242). -/
def endPhase (s : State) (id : CoreId) (x : Ctx) (access replaying : Bool) (layer t : Nat) : State :=
  match (((s.core id).ctx x).stream access).phase with
  | none => ledgerRecord s id x access replaying true layer s.tick (s.coreCycles id t) 0 0
  | some ph => closePhase s id x access replaying (ph.layer != layer) t

end Sys2Proof.Machine
end

