-- ==== Sys2Proof/Machine/Numerics.lean ====
section
/-! DEFINITION. The Mirror and Loupe checks, numerics triggers and layer repeats, the numerics log, and the unit history
ledger (R302-R322). -/

namespace Sys2Proof.Machine

/-- The MCK page of a cluster. -/
def mckPage (c : Nat) : Page := ⟨.mck, c⟩
/-- The LCK page of a cluster. -/
def lckPage (c : Nat) : Page := ⟨.lck, c⟩
/-- The LDG page. -/
def ldgPage : Page := ⟨.ldg, 0⟩

/-! ### The numerics log (R315) -/

/-- Write a record of the numerics log. -/
def numLog (s : State) (c kind core : Nat) (x : Ctx) (layer tile count at_ ulps : Nat) : State :=
  let p := lckPage c
  if !bitAt (s.regN p 0x11C) 31 then s
  else
    let q := (s.regN p 0x120 + ringPending s (.numerics c)) % 2 ^ 32
    let size := 2 ^ max (field (s.regN p 0x11C) 3 0) 6
    let base := field (s.regN p 0x118) 15 0 * 2 ^ 32 + field (s.regN p 0x114) 31 5 * 32
    let v := kind + 2 ^ 8 * core + 2 ^ 11 * x.idx + 2 ^ 16 * (layer % 2 ^ 16) + 2 ^ 32 * q + 2 ^ 64 * (tile % 2 ^ 32) +
      2 ^ 96 * (count % 256) + 2 ^ 104 * (at_ % 256) + 2 ^ 112 * (ulps % 2 ^ 16) + 2 ^ 128 * (s.tick % 2 ^ 64)
    postedWrite s (some (s.clusterPart c)) c (.numerics c) (base + 32 * (q % size)) 32 v

/-- TILE of a log record or a record register: the coordinates of a rounding key. -/
def RoundKey.tile (k : RoundKey) : Nat := k.tileRow % 2 ^ 16 * 2 ^ 16 + k.tileCol % 2 ^ 16

/-! ### Sampling (R302) -/

/-- z of R302 for a rounding key and a salt. -/
def sampleZ (k : RoundKey) (salt : Nat) : Nat :=
  let w0 : Word64 := BitVec.ofNat 64 (k.layer % 2 ^ 16 * 2 ^ 48 + k.tileRow % 2 ^ 16 * 2 ^ 32 + k.tileCol % 2 ^ 16 * 2 ^ 16)
  (mix (mix (k.seed ^^^ w0) ^^^ BitVec.ofNat 64 (salt % 2 ^ 32 * 2 ^ 32))).toNat

/-- RATE_LOG2 as it acts: from 6 to 16. -/
def rateLog (v : Nat) : Nat := min (max (field v 4 0) 6) 16

/-- Is a sweep with this key sampled under a salt and a rate? -/
def sampled (k : RoundKey) (salt rate : Nat) : Bool := sampleZ k salt % 2 ^ rate == 0

/-- Key of a matrix core among samples: 2·cluster + matrix core. -/
def mcKey (id : CoreId) : Nat := 2 * id.cluster.val + id.core.val

/-! ### The Mirror check -/

/-- The Mirror sample of a source core. -/
def State.mirror (s : State) (id : CoreId) : Option MirrorSample := SMap.get s.num.mirrors (mcKey id)

/-- Put the Mirror sample of a source core. -/
def State.setMirror (s : State) (id : CoreId) (m : MirrorSample) : State :=
  { s with num.mirrors := SMap.set s.num.mirrors (mcKey id) m }

/-- Abandon a Mirror sample, counted by its reason's counter (R305). -/
def abandonMirror (s : State) (id : CoreId) (sel : Nat) : State :=
  match s.mirror id with
  | none => s
  | some _ =>
    let s : State := { s with num.mirrors := SMap.del s.num.mirrors (mcKey id) }
    (s.raise (mckPage id.cluster.val) 1).bump (mckPage id.cluster.val) sel

/-- Abandon every Mirror sample: the power of their partners goes (R305, R435). -/
def abandonMirrors (s : State) : State :=
  s.num.mirrors.foldl (fun s e => abandonMirror s ⟨⟨e.1 / 2 % 40, Nat.mod_lt _ (by decide)⟩, ⟨e.1 % 2, by omega⟩⟩ 6) s

/-- The partner of a matrix core (R303). -/
def partner (id : CoreId) : CoreId := ⟨id.cluster, if id.core.val = 0 then 1 else 0⟩

/-- Is the partner of a source in reset or powered down (R305)? -/
def State.partnerDown (s : State) (src : CoreId) : Bool := !s.domainUp (coreDomain (partner src))

/-- Does a sweep operation belong to a Mirror sample (R302)? -/
def MirrorSample.covers (m : MirrorSample) (sw : Sweep) : Bool :=
  let banks := sweepBanks sw.raw sw.cls
  (if m.back then banks.2 else banks.1) && decide (m.start ≤ sw.start) &&
    (match m.drain with | none => true | some (d, _) => decide (sw.start < d))

/-- The codes of a vector as the mirror queue holds them (R303). -/
def stageCodes (c : Core) (x : Nat) (sd : Side) (plane k n : Nat) : List Nat :=
  (List.range n).map (fun i =>
    let (ra, sa, e) := elemPlace sd plane k i
    rawElem (c.stageByte x) ra sd.fmt e * 256 + (if isMx sd.fmt then c.stageByte x sa else 127))

/-- The entry that a rank update puts into the mirror queue (R303). -/
def mirrorEntry (c : Core) (sw : Sweep) (u : Nat) : MirrorEntry :=
  let x := sw.start + u * classStep sw.cls
  let (ks, _, plane) := updateIndices sw.cls (sweepK sw.raw) u
  { sweep := sw, update := u
    a := ks.map (fun k => stageCodes c x (sideA sw.raw) plane k (sweepRows sw.raw))
    b := ks.map (fun k => stageCodes c x (sideB sw.raw) plane k (sweepCols sw.raw)) }

/-- What a duplicate rank update adds to cell (i, j): R64 on the queued vectors. -/
def mirrorProduct (e : MirrorEntry) (i j : Nat) : Int × Special :=
  let sw := e.sweep
  let fa := (sideA sw.raw).fmt
  let fb := (sideB sw.raw).fmt
  let (ks, p, _) := updateIndices sw.cls (sweepK sw.raw) e.update
  let (wa, wb) := passWords sw.cls p
  (ks.zip (e.a.zip e.b)).foldl (fun acc kv =>
    let ca := kv.2.1.getD i 0
    let cb := kv.2.2.getD j 0
    let ea := decodeElem fa (ca / 256) (ca % 256)
    let eb := decodeElem fb (cb / 256) (cb % 256)
    let r := if bitAt sw.raw 30 then stochasticR sw.key (sw.n0 + kv.1) p i j else 0
    let q := product ea eb (splitWord fa wa ea) (splitWord fb wb eb) (bitAt sw.raw 30) r sw.acs.toInt
    (acc.1 + q.1, acc.2.join q.2)) (0, .none)

/-- Code of SPECIAL in a signature (R304). -/
def Special.code : Special → Nat
  | .none => 0
  | .pinf => 1
  | .ninf => 2
  | .nan => 3

/-- SPECIAL of a code. -/
def Special.ofCode : Nat → Special
  | 1 => .pinf
  | 2 => .ninf
  | 3 => .nan
  | _ => .none

/-- The 50 bits that a cell contributes to a signature (R304). -/
def Cell.bits (c : Cell) : Nat := c.special.code * 2 ^ 48 + c.value.toNat

/-- A quiet fault of a mirror adder: bits of its cell that it turns over. -/
def upsetCell (cells : SMap Cell) (e : Nat × Nat) : SMap Cell :=
  let k := e.1 % 65536
  let b := (SMap.getD cells {} k).bits ^^^ (e.2 % 2 ^ 50)
  SMap.set cells k ⟨BitVec.ofNat 48 b, Special.ofCode (b / 2 ^ 48)⟩

/-- Accumulate a queued rank update into the mirror bank (R303). -/
def mirrorAccumulate (cells : SMap Cell) (e : MirrorEntry) : SMap Cell :=
  let base := if sweepClear e.sweep.raw && e.update == 0 then [] else cells
  (List.range (sweepRows e.sweep.raw)).foldl (fun m i =>
    (List.range (sweepCols e.sweep.raw)).foldl (fun m j =>
      let (q, sp) := mirrorProduct e i j
      if q = 0 ∧ sp = .none then m else SMap.set m (256 * i + j) ((SMap.getD m {} (256 * i + j)).add 1 q sp)) m) base

/-- Does a stage 1 of an engine read a rank update in cycle `t`? -/
def Ope.reads (o : Ope) (t : Nat) : Bool :=
  o.sweeps.any (fun sw => decide (sw.start ≤ t) && (t - sw.start) % classStep sw.cls == 0 &&
    decide ((t - sw.start) / classStep sw.cls < sw.total))

/-- MIRROR_RANK_UPDATE: in its cycle `t` a matrix core runs the next queued rank update of its partner's sample, if its own
stage 1 reads none (R303); one whose domain is down runs none, and the sample is abandoned (R305). -/
def mirrorRankUpdate (s : State) (id : CoreId) (t : Nat) (upset : List (Nat × Nat)) : State :=
  let src := partner id
  match s.mirror src with
  | none => s
  | some m =>
    match s.partnerDown src, m.queue with
    | true, _ => abandonMirror s src 6
    | false, [] => s
    | false, e :: rest =>
      if !s.coreRuns id || (s.ope id).reads t || t ≤ m.last || t < (s.core id).now then s
      else
        let cells := upset.foldl upsetCell (mirrorAccumulate m.cells e)
        (s.setMirror src { m with queue := rest, cells := cells, last := t }).bump (mckPage id.cluster.val) 7

/-- One step of the signature's CRC (R304). -/
def crcBit (crc : Nat) (b : Bool) : Nat :=
  let top := bitAt crc 63 != b
  let sh := (2 * crc) % 2 ^ 64
  if top then sh ^^^ 0x42F0E1EBA9EA3693 else sh

/-- The signature of row `i` of a bank: cells in column order, bits from the top (R304). -/
def rowSignature (cells : SMap Cell) (i : Nat) : Nat :=
  (List.range 256).foldl (fun crc j =>
    let v := (SMap.getD cells {} (256 * i + j)).bits
    (List.range 50).foldl (fun crc k => crcBit crc (bitAt v (49 - k))) crc) 0

/-- An event of a unit on its way to the ledger (R317). -/
def reportUnit (s : State) (unit kind locus : Nat) : State :=
  { s with mem.ledgerIn := s.mem.ledgerIn ++ [⟨unit, kind, locus⟩] }

/-- The physical site that serves a logical cluster (R19). -/
def State.siteOf (s : State) (c : Nat) : Nat := SMap.getD s.fab.sites c c

/-- Identity of an OPE (R316). -/
def opeUnit (s : State) (id : CoreId) : Nat := 2 * 2 ^ 28 + s.siteOf id.cluster.val * 2 ^ 20 + id.core.val

/-- HALT_ALL: every RUNNING context of a core halts with EXTERNAL (R101, R104). -/
def haltAllCore (s : State) (id : CoreId) : State := haltCore s id none causeExternal false 0 noSlot

/-- A Mirror mismatch (R306). -/
def mirrorMismatch (s : State) (src : CoreId) (m : MirrorSample) (row : Nat) : State :=
  let c := src.cluster.val
  let p := mckPage c
  let first := s.isFirst p 0x10C
  let s := s.record p 0x10C (src.core.val * 2 ^ 29 + m.ctx.idx * 2 ^ 27 + row * 2 ^ 16 + m.key.layer % 2 ^ 16)
  let s := if first then s.setRegN p 0x110 m.key.tile else s
  let s := (s.raise p 0).bump p 2
  let s := numLog s c 4 src.core.val m.ctx m.key.layer m.key.tile ((s.core src).ctx m.ctx).repeats row 0
  let s := reportUnit (reportUnit s (opeUnit s src) 5 row) (opeUnit s (partner src)) 5 row
  if bitAt (s.regN p 0x010) 1 then haltAllCore s src else s

/-- MIRROR_COMPARE: the partner of a source shifts its mirror bank out and compares signatures row by row, once the source
has drained every row and every queued rank update has run (R304, R306). -/
def mirrorCompare (s : State) (src : CoreId) : State :=
  match s.mirror src with
  | none => s
  | some m =>
    if s.partnerDown src then abandonMirror s src 6
    else if m.drain.isNone || !m.queue.isEmpty || m.sigs.length < 256 || !s.coreRuns (partner src) then s
    else
      let s' : State := { s with num.mirrors := SMap.del s.num.mirrors (mcKey src) }
      match (List.range 256).find? (fun i => rowSignature m.cells i != SMap.getD m.sigs 0 i) with
      | none => s'.bump (mckPage src.cluster.val) 1
      | some row => mirrorMismatch s' src m row

/-- SAMPLE_TIMEOUT: a comparison is not finished MCK.LIMIT ticks after the source drain's issue (R305). -/
def sampleTimeout (s : State) (src : CoreId) : State :=
  match s.mirror src with
  | none => s
  | some m =>
    match m.drain with
    | none => s
    | some (_, at_) =>
      if at_ + max (s.regN (mckPage src.cluster.val) 0x108) 1024 ≤ s.tick then abandonMirror s src 6 else s

/-! ### The Loupe check -/

/-- The Loupe samples of a matrix core, oldest first. -/
def State.loupes (s : State) (id : CoreId) : List LoupeSample := SMap.getD s.num.loupes [] (mcKey id)

/-- Put the Loupe samples of a matrix core. -/
def State.setLoupes (s : State) (id : CoreId) (l : List LoupeSample) : State :=
  { s with num.loupes := SMap.set s.num.loupes (mcKey id) l }

/-- Abandon the Loupe samples of a matrix core that a test names (R307). -/
def abandonLoupes (s : State) (id : CoreId) (p : LoupeSample → Bool) : State :=
  let l := s.loupes id
  let gone := (l.filter p).length
  if gone = 0 then s
  else ((s.setLoupes id (l.filter (fun x => !p x))).raise (lckPage id.cluster.val) 1).bumpBy (lckPage id.cluster.val) 3 gone

/-- Row and column of cell m of a sample (R307). -/
def loupeCell (h m : Nat) : Nat × Nat := (16 * m + h % 16, 16 * m + h / 16)

/-- Does a Loupe sample watch a bank: false front? -/
def LoupeSample.onBank (l : LoupeSample) (back : Bool) : Bool :=
  match l.bank with
  | 0 => !back
  | 1 => back
  | _ => true

/-- Does a sweep operation belong to a Loupe sample (R302)? -/
def LoupeSample.covers (l : LoupeSample) (sw : Sweep) : Bool :=
  let banks := sweepBanks sw.raw sw.cls
  ((l.onBank false && banks.1) || (l.onBank true && banks.2)) && decide (l.start ≤ sw.start) &&
    (match l.drain with | none => true | some (d, _, _) => decide (sw.start < d))

/-- An exact value in units of 2^-300 (R308). -/
def units300 : Fp → Int
  | .fin neg m e =>
    let v : Int := if 0 ≤ e + 300 then ((m * 2 ^ (e + 300).toNat : Nat) : Int) else ((m / 2 ^ (-(e + 300)).toNat : Nat) : Int)
    if neg then -v else v
  | _ => 0

/-- The exact product of two whole elements added to a sum, with the classes of R67 (R308). -/
def ExactSum.add (w : ExactSum) (a b : Fp) : ExactSum :=
  match productClass a b with
  | .none => { w with value := w.value + units300 (a.mul b) }
  | c => { w with special := w.special.join c }

/-- The rank update of a sample captured into its exact sums (R307, R308). -/
def loupeCapture (c : Core) (sw : Sweep) (u : Nat) (l : LoupeSample) : LoupeSample :=
  let x := sw.start + u * classStep sw.cls
  let (ks, p, plane) := updateIndices sw.cls (sweepK sw.raw) u
  if p ≠ 0 then l
  else
    { l with sums := (List.range 16).foldl (fun sums m =>
        let (i, j) := loupeCell l.h m
        if i < sweepRows sw.raw ∧ j < sweepCols sw.raw then
          SMap.set sums m (ks.foldl (fun w k =>
            w.add (stageElem c x (sideA sw.raw) plane k i) (stageElem c x (sideB sw.raw) plane k j)) (SMap.getD sums {} m))
        else sums) l.sums }

/-- Exponent of the spacing of an output format at a magnitude in units of 2^-300, times 2^-shift (R309). -/
def ulpExp (code mag : Nat) (shift : Int) : Int :=
  let e : Int := -300 - shift
  if code = 8 then (if 127 < scaleRound .toZero mag (e + 6) then Config.loupeUlp code mag else -6)
  else
    let f := codeFmt code
    if mag = 0 then f.qmin
    else if f.maxCode < roundCode f .toZero mag e then Config.loupeUlp code mag
    else max ((lead mag : Int) + e - f.w) f.qmin

/-- D of R309 for a cell: VALUE·2^LSB_EXP against W. -/
def loupeD (fmt scale : Nat) (lsb : Int) (value w : Int) : Nat :=
  let u : Int :=
    if fmt = 9 then lsb
    else if isMx fmt then ulpExp fmt w.natAbs ((scale : Int) - 127) + ((scale : Int) - 127)
    else ulpExp fmt w.natAbs 0
  let base : Int := min lsb (-300)
  let diff := (value * ((2 ^ (lsb - base).toNat : Nat) : Int) - w * ((2 ^ (-300 - base).toNat : Nat) : Int)).natAbs
  min (if 0 ≤ base - u then diff * 2 ^ (base - u).toNat else diff / 2 ^ (u - base).toNat) 65535

/-- Outcome of one cell: D, 65,535 where the classes differ, and whether it disagrees (R309). VALUE and the exact sum go on accumulating
beside a special class (R67, R308), so D is judged there too. -/
def loupeCellOutcome (l : LoupeSample) (raw : Nat) (acs : BitVec 10) (tol m : Nat) : Nat × Bool :=
  let t := SMap.getD l.taps ⟨0, .none, 127⟩ m
  let w := SMap.getD l.sums {} m
  if t.special ≠ w.special then (65535, true)
  else
    let d := loupeD (field raw 11 8) t.scale acs.toInt t.value w.value
    (d, decide (tol < d))

/-- The worst disagreeing cell so far, first among equals. -/
def worstCell (best : Option (Nat × Nat)) (m : Nat) (o : Nat × Bool) : Option (Nat × Nat) :=
  if !o.2 then best
  else match best with
    | none => some (m, o.1)
    | some (k, d) => if d < o.1 then some (m, o.1) else some (k, d)

/-- LOUPE_COMPARE: the Loupe path compares the taps of a matrix core's oldest fully drained sample (R309, R310). -/
def loupeCompare (s : State) (id : CoreId) : State :=
  let c := id.cluster.val
  let p := lckPage c
  match s.loupes id with
  | [] => s
  | l :: rest =>
    match l.drain with
    | none => s
    | some (_, raw, acs) =>
      if l.rows < 256 then s
      else
        let s := s.setLoupes id rest
        let mine (e : Nat × Nat) : Bool := decide (e = (mcKey id, l.start))
        let q := SMap.getD s.num.capture [] c
        let s : State := { s with num.capture := SMap.set s.num.capture c ((q.reverse.takeWhile (fun e => !mine e)).reverse) }
        let tol := field (s.regN p 0x100) 23 16
        match (List.range 16).foldl (fun best m => worstCell best m (loupeCellOutcome l raw acs tol m)) none with
        | none => s.bump p 1
        | some (m, d) =>
          let first := s.isFirst p 0x10C
          let s := s.record p 0x10C (id.core.val * 2 ^ 29 + l.ctx.idx * 2 ^ 27 + m * 2 ^ 16 + l.layer % 2 ^ 16)
          let s := if first then s.setRegN p 0x110 l.key.tile else s
          let s := (s.raise p 0).bump p 2
          { s with numIn := s.numIn ++ [⟨3, coreIdx id, l.ctx, l.layer, l.key.tile, m, d⟩] }

/-! ### The checks beside the engine's own work -/

/-- Abandon the samples of a bank: counter 5 of the Mirror check (R305). -/
def abandonBank (s : State) (id : CoreId) (back : Bool) (undrained : Bool) : State :=
  let s := match s.mirror id with
    | some m => if m.back == back && (!undrained || m.drain.isNone) then abandonMirror s id 5 else s
    | none => s
  abandonLoupes s id (fun l => l.onBank back && (!undrained || l.drain.isNone))

/-- Abandon the samples on whose banks hazards 0b00 or 0b01 were recorded (R305). -/
def abandonHazards (s : State) (id : CoreId) (hs : List (Nat × Nat)) : State :=
  hs.foldl (fun s h => if h.1 ≤ 1 then abandonBank s id (h.2 == 1) false else s) s

/-- Choose a CLEAR sweep for the Mirror check (R302, R303). -/
def chooseMirror (s : State) (id : CoreId) (sw : Sweep) : State :=
  let p := mckPage id.cluster.val
  if bitAt (s.regN p 0x010) 0 && sw.cls != 5 && sw.cls != 6 && sampled sw.key (s.regN p 0x104) (rateLog (s.regN p 0x100)) then
    match s.mirror id with
    | some _ => s.bump p 3
    | none => (s.setMirror id { back := (sweepBanks sw.raw sw.cls).2, start := sw.start, ctx := sw.ctx, key := sw.key }).bump p 0
  else s

/-- Choose a CLEAR sweep for the Loupe check (R302, R307). -/
def chooseLoupe (s : State) (id : CoreId) (sw : Sweep) : State :=
  let p := lckPage id.cluster.val
  let salt := s.regN p 0x104
  if bitAt (s.regN p 0x010) 0 && sw.cls != 6 && sampled sw.key salt (rateLog (s.regN p 0x100)) then
    let bank := match sweepBanks sw.raw sw.cls with | (true, true) => 2 | (false, _) => 1 | _ => 0
    (s.setLoupes id (s.loupes id ++ [{ bank := bank, start := sw.start, ctx := sw.ctx, layer := sw.layer, key := sw.key
                                       h := field (sampleZ sw.key salt) 23 16 }])).bump p 0
  else s

/-- MX.SWEEP issues, with the choice of samples and their abandonment (R29, R302-R307). -/
def sweepIssue (s : State) (id : CoreId) (x : Ctx) (raw t word : Nat) : State :=
  let sw := newSweep s id x raw t word
  let hs := sweepHazards (s.ope id) sw
  let banks := sweepBanks raw sw.cls
  let s := issueSweep s id x raw t word
  let drop (s : State) : State :=
    let s := if banks.1 then abandonBank s id false true else s
    if banks.2 then abandonBank s id true true else s
  let s := if sweepClear raw then chooseLoupe (chooseMirror (drop s) id sw) id sw
    else match s.mirror id with
      | some m => if (sw.cls == 5 || sw.cls == 6) && m.covers sw then abandonMirror s id 5 else s
      | none => s
  abandonHazards s id hs

/-- MX.DRAIN issues, which ends the samples of its bank (R41, R302, R304). -/
def drainIssue (s : State) (id : CoreId) (x : Ctx) (raw t word : Nat) : State :=
  let d := newDrain s id x raw t word
  let hs := drainHazards (s.ope id) d
  let s := issueDrain s id x raw t word
  let s := match s.mirror id with
    | some m => if d.takes m.back && m.drain.isNone then s.setMirror id { m with drain := some (t, s.tick) } else s
    | none => s
  let mark (l : LoupeSample) : LoupeSample :=
    if l.drain.isNone && ((l.onBank false && d.takes false) || (l.onBank true && d.takes true)) then
      { l with drain := some (t, raw, d.acs) } else l
  abandonHazards (s.setLoupes id ((s.loupes id).map mark)) id hs

/-- Copy a rank update of a sample into the mirror queue, read from the store as core `c` holds it (R303, R305). -/
def copyMirror (s : State) (id : CoreId) (sw : Sweep) (poison : Bool) (c : Core) : State :=
  match s.mirror id with
  | none => s
  | some m =>
    if !m.covers sw then s
    else if s.partnerDown id then abandonMirror s id 6
    else if poison then abandonMirror s id 5
    else if 2048 ≤ m.queue.length then abandonMirror s id 4
    else s.setMirror id { m with queue := m.queue ++ [mirrorEntry c sw sw.next] }

/-- Copy a rank update of samples into the capture queue of the Loupe path, an entry for each sample, in pass 0 alone; the path takes
entries out at a rate that the spec does not give (R307). Read from the store as core `st` holds it. -/
def copyLoupes (s : State) (id : CoreId) (sw : Sweep) (poison : Bool) (st : Core) : State :=
  let (_, pass, _) := updateIndices sw.cls (sweepK sw.raw) sw.next
  if pass ≠ 0 ∨ !(s.loupes id).any (·.covers sw) then s
  else if poison then abandonLoupes s id (·.covers sw)
  else
    let c := id.cluster.val
    let (n, s) := s.draw
    let left := (SMap.getD s.num.capture [] c).drop n
    if 4096 ≤ left.length then abandonLoupes s id (·.covers sw)
    else
      let mine := ((s.loupes id).filter (·.covers sw)).map (fun l => (mcKey id, l.start))
      let s : State := { s with num.capture := SMap.set s.num.capture c (left ++ mine) }
      s.setLoupes id ((s.loupes id).map (fun l => if l.covers sw then loupeCapture st sw sw.next l else l))

/-- RANK_UPDATE_ACCUMULATE of a matrix core's cycle, with its copies for the samples (R32, R303, R307). -/
def rankUpdateStep (s : State) (id : CoreId) (t : Nat) : State :=
  match dueSweep (s.ope id) t with
  | none => s
  | some sw =>
    let c := s.coreAt id t
    let bad := sw.readsPoison c sw.next
    rankUpdate (copyLoupes (copyMirror s id sw bad c) id sw bad c) id t c

/-- Tap the watched cells of a drained row (R309). -/
def tapRow (d : Drain) (i : Nat) (scales : List Nat) (l : LoupeSample) : LoupeSample :=
  match l.drain with
  | none => l
  | some (start, _, _) =>
    if start ≠ d.start then l
    else
      let taps := (List.range 16).foldl (fun taps m =>
        let (r, j) := loupeCell l.h m
        if r ≠ i then taps
        else
          let f := SMap.getD d.front {} (256 * i + j)
          let b := SMap.getD d.back {} (256 * i + j)
          let (v, sp) : Int × Special := match field d.raw 7 6 with
            | 0 => (f.value.toInt, f.special)
            | 1 => (b.value.toInt, b.special)
            | _ => ((b.value ++ f.value : BitVec 96).toInt, f.special.join b.special)
          let per := fmtE (field d.raw 11 8) / 4
          SMap.set taps m ⟨v, sp, scales.getD (j / per) 127⟩) l.taps
      { l with taps := taps, rows := l.rows + 1 }

/-- DRAIN_ROW_WRITE of a matrix core's cycle, with the signatures and taps of the samples (R48, R304, R309). -/
def drainRowStep (s : State) (id : CoreId) (t : Nat) : State :=
  match dueDrain (s.ope id) t with
  | none => s
  | some d =>
    let i := 255 - d.next
    let s := s.settlePorts id t
    let s := match s.mirror id with
      | some m =>
        if (m.drain.map (·.1)) == some d.start && d.takes m.back then
          s.setMirror id { m with sigs := SMap.set m.sigs i (rowSignature (if m.back then d.back else d.front) i) }
        else s
      | none => s
    let s := if (s.loupes id).isEmpty then s
      else s.setLoupes id ((s.loupes id).map (tapRow d i (drainRow (s.core id) d i).2))
    drainRowWriteAt s id t

/-! ### The layer repeat (R311-R313) -/

/-- REPEAT_MAX as it acts. -/
def repeatMax (s : State) (c : Nat) : Nat := max (field (s.regN (lckPage c) 0x100) 25 24) 1

/-- BASE of the repeat ranges. -/
def repeatBase (s : State) (c : Nat) : Nat := field (s.regN (lckPage c) 0x108) 5 0

/-- The core of a core index. -/
def coreOfIdx (n : Nat) : CoreId := ⟨⟨n / 7 % 40, Nat.mod_lt _ (by decide)⟩, ⟨n % 7, Nat.mod_lt _ (by decide)⟩⟩

/-- Make a request pending for a stream that has none (R311). -/
def Stream.request (st : Stream) (layer range : Nat) : Stream :=
  if st.repeatTo.isSome then st else { st with repeatTo := some (layer, range) }

/-- NUMERICS_TRIGGER: the next trigger arrives: its log record, and a pending request or a LATE record (R311, R315). -/
def numericsTrigger (s : State) : State :=
  match s.numIn with
  | [] => s
  | g :: rest =>
    let s : State := { s with numIn := rest }
    let id := coreOfIdx g.core
    let c := id.cluster.val
    let p := lckPage c
    let k := (s.core id).ctx g.ctx
    let s := numLog s c g.kind id.core.val g.ctx g.layer g.tile k.repeats g.at_ g.ulps
    if k.exe.passed.contains g.layer || k.acc.passed.contains g.layer then
      ((numLog s c 7 id.core.val g.ctx g.layer g.tile k.repeats g.at_ g.ulps).raise p 3).bump p 6
    else if bitAt (s.regN p 0x010) 1 then
      let range := repeatBase s c + k.repeats
      s.modCore id (fun r => r.modCtx g.ctx (fun k =>
        { k with exe := k.exe.request g.layer range, acc := k.acc.request g.layer range }))
    else s

/-- The request that a stream meets at its take point for a layer: the range it will take. -/
def Stream.repeatAt (st : Stream) (layer : Nat) : Option Nat :=
  match st.repeatTo with
  | some (l, r) => if l = layer then some r else none
  | none => none

/-- Is a replay range of a stream valid (R119)? -/
def Stream.validRange (st : Stream) (r : Nat) : Bool :=
  match SMap.get st.replay r with
  | some (_, some _) => true
  | _ => false

/-- Does the request at a take point halt its context with REPLAY_LIMIT (R313)? -/
def repeatRefused (s : State) (c : Nat) (k : Context) (access : Bool) (layer : Nat) : Bool :=
  match (k.stream access).repeatAt layer with
  | none => false
  | some r => k.repeats == repeatMax s c || decide (63 < r) || !(k.stream access).validRange r

/-- REPLAY_LIMIT: the request is cleared in both streams and logged (R313). -/
def repeatLimit (s : State) (id : CoreId) (x : Ctx) (layer : Nat) : State :=
  let c := id.cluster.val
  let p := lckPage c
  let drop (st : Stream) : Stream := if (st.repeatAt layer).isSome then { st with repeatTo := none } else st
  let k := (s.core id).ctx x
  let s := s.modCore id (fun r => r.modCtx x (fun k => { k with exe := drop k.exe, acc := drop k.acc }))
  ((numLog s c 6 id.core.val x layer 0 k.repeats 0 0).raise p 4).bump p 5

/-- A stream takes the repeat that waits for it: its bit clears, and with the second stream's the count rises (R312). -/
def repeatTaken (s : State) (id : CoreId) (x : Ctx) (access : Bool) (layer : Nat) : State :=
  let c := id.cluster.val
  let p := lckPage c
  let s := s.modCore id (fun r => r.modCtx x (fun k =>
    k.setStream access { k.stream access with repeatTo := none, repeating := some layer }))
  let k := (s.core id).ctx x
  if ((k.stream (!access)).repeatAt layer).isSome then s
  else
    let s := s.modCore id (fun r => r.modCtx x (fun k => { k with repeats := k.repeats + 1 }))
    ((numLog s c 5 id.core.val x layer 0 (k.repeats + 1) 0 0).raise p 2).bump p 4

/-- A stream passes its take point for a layer without a request (R311). -/
def Stream.pass (st : Stream) (layer : Nat) : Stream := { st with passed := NSet.insert st.passed layer, repeating := none }

/-! ### The unit history ledger (R316-R319) -/

/-- Powered seconds. -/
def State.poweredSeconds (s : State) : Nat := (s.ledger.powered + (s.tick - s.ledger.since) / 100000000) % 2 ^ 32

/-- Is an event kind counted in the window (R317)? -/
def windowCounted (kind : Nat) : Bool := kind == 1 || kind == 3 || kind == 5 || kind == 7

/-- Does an event kind make its unit PERMANENT at once (R317)? -/
def permanentAtOnce (kind : Nat) : Bool := kind == 4 || kind == 6 || kind == 8

/-- The window in powered seconds (LDG.POLICY). -/
def ledgerWindow (s : State) : Nat := field (s.regN ldgPage 0x100) 23 8 * 3600

/-- PERM_COUNT as it acts. -/
def permCount (s : State) : Nat := min (max (field (s.regN ldgPage 0x100) 2 0) 1) 4

/-- A record after an event at powered time `t` (R318). -/
def LedgerRec.after (r : LedgerRec) (isNew : Bool) (window perm t kind locus : Nat) : LedgerRec :=
  let times := if windowCounted kind then (t :: r.times).take 4 else r.times
  let k := (times.filter (fun u => decide (t ≤ u + window))).length
  let cls :=
    if 3 ≤ r.cls then r.cls
    else if permanentAtOnce kind then 3
    else if isNew then 1
    else if windowCounted kind then (if perm ≤ k then 3 else 2)
    else if r.cls = 1 then 2 else r.cls
  { r with cls := cls, lastKind := kind, events := min (r.events + 1) (2 ^ 32 - 1), times := times, locus := locus }

/-- The index of a unit's record. -/
def ledgerIndex (l : Ledger) (unit : Nat) : Option Nat := (l.recs.find? (fun e => e.2.unit == unit)).map (·.1)

/-- Records that the region holds. -/
abbrev ledgerSize : Nat := 131072

/-- The record that a new unit may overwrite in a full region: the oldest of class UNCLASSIFIED or TRANSIENT whose T0 lies
outside the window (R319). -/
def ledgerVictim (l : Ledger) (window t : Nat) : Option Nat :=
  (l.recs.foldl (fun best e =>
    let t0 := e.2.times.headD 0
    if (e.2.cls = 1 ∨ e.2.cls = 2) ∧ t0 + window < t then
      match best with
      | none => some (e.1, t0)
      | some (i, u) => if t0 < u then some (e.1, t0) else some (i, u)
    else best) (none : Option (Nat × Nat))).map (·.1)

/-- The index for a new unit's record: the next free one, or one to overwrite. -/
def ledgerPlace (l : Ledger) (window t : Nat) : Option Nat :=
  if l.recs.length < ledgerSize then some l.recs.length else ledgerVictim l window t

/-- Put a changed record (R319). -/
def Ledger.put (l : Ledger) (i tick : Nat) (r : LedgerRec) : Ledger :=
  { l with recs := SMap.set l.recs i r, dirty := i :: l.dirty.filter (fun j => decide (j ≠ i))
           dirtySince := some (l.dirtySince.getD tick) }

/-- Units that firmware replaces by a spare become RETIRED (R318). -/
def retireUnits (s : State) (mine : LedgerRec → Bool) : State :=
  s.ledger.recs.foldl (fun s e => if mine e.2 then { s with ledger := s.ledger.put e.1 s.tick { e.2 with cls := 4 } } else s) s

/-- A PERMANENT lane of the port that P16 replaces is replaced with it (R318, R357, R444). -/
def State.laneReplaced (s : State) (r : LedgerRec) : Bool :=
  let p16 := s.regN ⟨.port, 17⟩ 0x014
  decide (r.unit / 2 ^ 28 = 5 ∧ r.cls = 3 ∧ field r.unit 27 20 = field p16 23 20) && bitAt p16 24

/-- The logical cluster that a physical site serves. -/
def State.clusterAt (s : State) (site : Nat) : Option Nat := (List.range 40).find? (fun c => s.siteOf c == site)

/-- What follows from a unit becoming PERMANENT (R437, R442, R443). -/
def unitPermanent (s : State) (unit index : Nat) : State :=
  let kind := unit / 2 ^ 28
  let inst := field unit 27 20
  let pwr : Page := ⟨.pwr, 0⟩
  if kind = 5 then retireUnits s s.laneReplaced
  else if kind = 6 then { s with power.phaseDue := s.power.phaseDue ++ [index] }
  else if kind = 8 then
    if s.power.rmFailed.isEmpty && !s.flash.rmSpare then { s with power.rmFailed := [unit % 2 ^ 20] }
    else { s with retireDue := s.retireDue ++ [4] }
  else if (kind = 1 ∨ kind = 2 ∨ kind = 3 ∨ kind = 7) ∧ inst < 48 then
    match s.clusterAt inst with
    | none => s
    | some c =>
      if s.power.siteDue.contains c then s
      else
        let s : State := { s with power.siteDue := s.power.siteDue ++ [c] }
        let s := if bitAt (s.regN pwr 0x118) 15 then s else (s.setField pwr 0x118 8 6 c).setField pwr 0x118 15 1 1
        s.raise pwr 3
  else s

/-- The ledger engine classifies an event (R318, R319). -/
def ledgerTake (s : State) (unit kind locus : Nat) : State :=
  let t := s.poweredSeconds
  let w := ledgerWindow s
  let s := s.bump ldgPage 0
  let l := s.ledger
  let go (i : Nat) (old : LedgerRec) (isNew : Bool) : State :=
    let r := old.after isNew w (permCount s) t kind locus
    let s : State := { s with ledger := l.put i s.tick r }
    if r.cls = 3 ∧ old.cls ≠ 3 then
      unitPermanent ((s.record ldgPage 0x12C (kind % 256 * 2 ^ 17 + i)).raise ldgPage 0) unit i
    else s
  match ledgerIndex l unit with
  | some i => go i (SMap.getD l.recs ⟨unit, 0, 0, 0, [], 0⟩ i) false
  | none =>
    match ledgerPlace l w t with
    | some i => go i ⟨unit, 0, 0, 0, [], 0⟩ true
    | none => (s.raise ldgPage 1).bump ldgPage 2

/-- LEDGER_EVENT: an event reaches the ledger engine: one that a unit of this block has sent, or a lane failure, phase fault
or test failure (kinds 6, 7, 8) reported as it arises (R317, R318). -/
def ledgerEvent (s : State) : Option (Nat × Nat × Nat) → State
  | some (unit, kind, locus) =>
    if kind = 6 ∨ kind = 7 ∨ kind = 8 then ledgerTake s (unit % 2 ^ 32) kind (locus % 2 ^ 32) else s
  | none =>
    match s.mem.ledgerIn with
    | [] => s
    | e :: rest => ledgerTake { s with mem.ledgerIn := rest } (e.unit % 2 ^ 32) e.kind (e.locus % 2 ^ 32)

/-- Write every changed record to flash (R319). -/
def flushLedger (s : State) : State :=
  let l := s.ledger
  let n := l.dirty.length
  ({ s with ledger := { l with flash := l.recs, dirty := [], dirtySince := none, flashPowered := s.poweredSeconds } } : State).bumpBy
    ldgPage 1 n

/-- LEDGER_FLASH_WRITE: the engine writes its changed records, or the flash fails (R319). -/
def ledgerFlashWrite (s : State) (ok : Bool) : State :=
  if s.ledger.dirty.isEmpty then s else if ok then flushLedger s else s.raise ldgPage 2

/-- The 32 bytes of a ledger record (R316). -/
def LedgerRec.bytes (r : LedgerRec) : Nat :=
  r.unit + 2 ^ 32 * r.cls + 2 ^ 40 * r.lastKind + 2 ^ 64 * r.events +
    (List.range 4).foldl (fun a i => a + 2 ^ (96 + 32 * i) * (r.times.getD i 0 % 2 ^ 32)) 0 + 2 ^ 224 * r.locus

/-- A write of LDG.QIDX snapshots a record (R316, LDG registers). -/
def qidxWrite (s : State) (v : Nat) : State :=
  let i := v % 2 ^ 17
  let b := match SMap.get s.ledger.recs i with | some r => r.bytes | none => 0
  (List.range 8).foldl (fun s w => s.setRegN ldgPage (0x10C + 4 * w) (b / 2 ^ (32 * w) % 2 ^ 32)) (s.setRegN ldgPage 0x108 i)

/-- LDG.STATUS as it reads. -/
def ldgStatus (s : State) : Nat := b2n (!s.ledger.dirty.isEmpty) * 2 ^ 18 + s.ledger.recs.length

end Sys2Proof.Machine
end

