-- ==== Sys2Proof/Machine/Fabric.lean ====
section
/-! DEFINITION. The mesh, crossings between clock domains, clock generators, and the epochs of packets (R323-R339,
R406-R408). -/

namespace Sys2Proof.Machine

/-- The CLK page. -/
def clkPage : Page := ⟨.clk, 0⟩
/-- The PART page. -/
def partPg : Page := ⟨.part, 0⟩

/-! ### Frequencies (R333, R336) -/

/-- Present frequency of a domain. -/
def State.mhz (s : State) (d : Nat) : Nat := ((s.clock d).mhz).getD (nominalMhz d)

/-- Requested frequency of a domain: CLK.DFREQ. -/
def State.wantMhz (s : State) (d : Nat) : Nat := ((s.clock d).want).getD (nominalMhz d)

/-- A frequency clamped to the range of R336. -/
def clampMhz (d v : Nat) : Nat := min (max v (nominalMhz d / 2)) (nominalMhz d)

/-- The cap of R438 on a matrix-core or vector-core domain, in MHz. -/
def State.capMhz (s : State) (d : Nat) : Nat :=
  if d < 320 ∧ d % 8 < 6 then max (nominalMhz d * (100 - 5 * s.power.steps) / 100) (nominalMhz d / 2) else nominalMhz d

/-- Start the relock of a settable domain at the lower of DFREQ and the cap (R336, R438). -/
def retune (s : State) (d : Nat) : State :=
  let k := s.clock d
  let f := min (clampMhz d (s.wantMhz d)) (s.capMhz d)
  if f = s.mhz d ∧ k.next.isNone then s
  else if k.st = 3 then s.setClock d { k with mhz := some f }
  else s.setClock d { k with st := 1, next := some f }

/-- A write of CLK.DFREQ (R336): false where the domain is not settable. -/
def dfreqWrite (s : State) (v : Nat) : State × Bool :=
  let d := field (s.regN clkPage 0x100) 8 0
  if !settable d then (s, false)
  else
    let k := s.clock d
    let f := clampMhz d (v % 2 ^ 16)
    let s := s.setClock d { k with want := some f, st := if k.st = 3 then 3 else 1, next := some (min f (s.capMhz d)) }
    (s, true)

/-- FREQ_DONE: the generator restarts the clock at its new frequency (R336). -/
def freqDone (s : State) (d : Nat) : State :=
  let k := s.clock d
  match k.next with
  | some f =>
    if k.st = 1 ∧ !k.unlocked then
      ((s.setClock d { k with st := 0, next := none, mhz := some f }).raise clkPage 1).bump clkPage 1
    else s
  | none => s

/-- Has a domain a generator of its own that can lose lock? -/
def hasGenerator (d : Nat) : Bool := decide (d < 348) || (decide (365 ≤ d) && decide (d ≤ 367))

/-- UNLOCK: a generator loses lock and stops its clock (R336). -/
def clkUnlock (s : State) (d : Nat) : State :=
  let k := s.clock d
  if hasGenerator d && s.domainUp d && !k.unlocked then
    (((s.setClock d { k with st := 1, unlocked := true }).record clkPage 0x10C d).raise clkPage 0).bump clkPage 2
  else s

/-- RELOCK: a generator that lost lock relocks and restarts its clock (R336). -/
def clkRelock (s : State) (d : Nat) : State :=
  let k := s.clock d
  if k.unlocked then s.setClock d { k with unlocked := false, st := if k.st = 1 && k.next.isNone then 0 else k.st } else s

/-- CLK.DSTAT as it reads. -/
def dstatReg (s : State) : Nat :=
  let d := field (s.regN clkPage 0x100) 8 0
  if 372 ≤ d then 0 else s.domainState d * 2 ^ 16 + s.mhz d % 2 ^ 16

/-- CLK.DFREQ as it reads. -/
def dfreqReg (s : State) : Nat :=
  let d := field (s.regN clkPage 0x100) 8 0
  if 372 ≤ d then 0 else s.wantMhz d % 2 ^ 16

/-! ### Sites -/

/-- Is a router in service: does its site serve a logical cluster, and are its rails up (R323)? -/
def State.inService (s : State) (site : Nat) : Bool := !s.power.off && !s.power.dark && (s.clusterAt site).isSome

/-- The router beyond an output 0 north to 3 west of a site, if the mesh has one (R17). -/
def neighbour (site out : Nat) : Option Nat :=
  match out with
  | 0 => if 8 ≤ site then some (site - 8) else none
  | 1 => if site % 8 < 7 then some (site + 1) else none
  | 2 => if site < 40 then some (site + 8) else none
  | 3 => if 0 < site % 8 then some (site - 1) else none
  | _ => none

/-- The reticle field of a site (R17). -/
def siteField (site : Nat) : Nat := (if site < 24 then 0 else 2) + (if site % 8 < 4 then 0 else 1)

/-- MESH.STATUS.LINKS of a logical cluster's router. -/
def meshLinks (s : State) (c : Nat) : Nat :=
  (List.range 4).foldl (fun a o =>
    match neighbour (s.siteOf c) o with
    | some n => if s.inService n then a + 2 ^ o else a
    | none => a) 0

/-- Manhattan distance of two sites. -/
def siteDist (a b : Nat) : Nat :=
  (max (a / 8) (b / 8) - min (a / 8) (b / 8)) + (max (a % 8) (b % 8) - min (a % 8) (b % 8))

/-- Links and stitch-bridge crossings of the route that a table gives from a router to a site on a lane, coming from a
vertical direction or not; none where it breaks R329 or leaves the routers in service. -/
def walkRoute (up : Nat → Bool) (routes : SMap Nat) (dst : Nat) : Nat → Nat → Nat → Bool → Nat → Nat → Option (Nat × Nat)
  | 0, _, _, _, _, _ => none
  | fuel + 1, site, lane, vertical, links, bridges =>
    if site = dst then some (links, bridges)
    else
      match SMap.get routes ((48 * site + dst) * 2 + lane) with
      | none => none
      | some out =>
        match neighbour site out with
        | none => none
        | some n =>
          let horizontal := out == 1 || out == 3
          if !up n then none
          else if vertical && horizontal && lane == 1 then none
          else
            walkRoute up routes dst fuel n (if vertical && horizontal then 1 else lane) (!horizontal) (links + 1)
              (bridges + b2n (siteField n != siteField site))

/-- Does a route table meet R329 for every pair of routers in service? -/
def routesLegal (up : Nat → Bool) (routes : SMap Nat) : Bool :=
  (List.range 48).all (fun a => !up a || (List.range 48).all (fun b => !up b ||
    match walkRoute up routes b 64 a 0 false 0 0 with
    | some (links, bridges) => decide (links ≤ siteDist a b + 4) && decide (bridges ≤ 4)
    | none => false))

/-! ### Edge units (R325) -/

/-- The nominal router of an edge unit, in the order of the table under R325. -/
def nominalRouter (e : Nat) : Nat :=
  if e < 6 then e + 1
  else if e < 12 then e + 35
  else ([0, 0, 8, 8, 16, 16, 24, 24, 24, 24, 24, 24, 32, 32, 40, 7, 7, 15, 15, 23, 31, 39, 39, 47]).getD (e - 12) 47

/-- The routers on the edge of an edge unit, lowest row or column first. -/
def edgeRouters (e : Nat) : List Nat :=
  if e < 6 then List.range 8
  else if e < 12 then (List.range 8).map (fun c => 40 + c)
  else (List.range 6).map (fun r => 8 * r + (if e < 27 then 0 else 7))

/-- The router in service on an edge unit's edge that lies nearest to its nominal one, a tie to the lower row or column; the nominal
one where the edge has none in service. -/
def nearestRouter (up : Nat → Bool) (e : Nat) : Nat :=
  let home := nominalRouter e
  ((edgeRouters e).foldl (fun best n =>
    if !up n then best
    else match best with
      | none => some n
      | some b => if siteDist n home < siteDist b home then some n else some b) none).getD home

/-- The router to which an edge unit is attached. -/
def State.attachOf (s : State) (e : Nat) : Nat := SMap.getD s.fab.attach (nominalRouter e) e

/-- Firmware fixes the attachment of every edge unit from the site map (R325). -/
def fixAttachments (s : State) : State :=
  { s with fab.attach := (List.range 36).foldl (fun m e =>
      let n := nearestRouter (fun k => (s.clusterAt k).isSome) e
      if n = nominalRouter e then SMap.del m e else SMap.set m e n) s.fab.attach }

/-- Is a site on the boundary of the mesh, so that it has an edge port (R324)? -/
def onBoundary (site : Nat) : Bool := decide (site < 8) || decide (40 ≤ site) || site % 8 == 0 || site % 8 == 7

/-! ### Packets (R326) -/

/-- Parity of the low `n` bits of a number. -/
def parityOf (v : Nat) : Nat → Bool
  | 0 => false
  | n + 1 => bitAt v n != parityOf v n

/-- HPAR of a header: one bit for each 10-bit group of bits [63:6]. -/
def hparOf (h : Nat) : Nat := (List.range 6).foldl (fun a g => a + b2n (parityOf (field h (min (15 + 10 * g) 63) (6 + 10 * g)) 10) * 2 ^ g) 0

/-- Groups of a header whose parity is wrong. -/
def hparBad (h : Nat) : Nat := hparOf h ^^^ (h % 64)

/-- Replace a field of a header, keeping its parity as right or as wrong as it was. -/
def putHeader (h lo w v : Nat) : Nat :=
  let bad := hparBad h
  let h' := putField h lo w v
  putField h' 0 6 (hparOf h' ^^^ bad)

/-- Domain of an edge unit, in the order of the table under R325. -/
def edgeDomain (e : Nat) : Nat :=
  if e < 12 then 324 + e
  else if e = 17 then 367
  else if e = 19 then 368
  else if e = 20 then 369
  else if e < 27 then 365
  else 366

/-- Domain of the interface that a header names (R326): an edge unit is behind the edge port of the router to which it is attached. -/
def headerDomain (s : State) (site unit edge : Nat) : Option Nat :=
  if unit = 8 then (if edge < 36 ∧ s.attachOf edge = site then some (edgeDomain edge) else none)
  else if unit < 8 then (s.clusterAt site).map (fun c => 8 * c + unit)
  else none

/-- Domain of a packet's destination interface. -/
def dstDomain (s : State) (h : Nat) : Option Nat := headerDomain s (field h 21 16) (field h 15 12) (field h 11 6)

/-- PART.EPOCHp. -/
def State.epochOf (s : State) (p : Nat) : Nat := s.regN partPg (0x100 + 4 * p) % 2 ^ 16

/-- The interface that a header names as its source, if the site has it: a core or the cluster fabric, or at a boundary site the
edge port of a unit attached there (R324, R326). -/
def mayEnter (s : State) (site h : Nat) : Bool :=
  let unit := field h 25 22
  decide (unit < 8) || (unit == 8 && onBoundary site && (field h 15 12 == 8 || s.attachOf (field h 11 6) == site))

/-- A header with its places filled in by its source interface (R326): its own site; the site of the logical cluster that the
requester names, or of the edge unit; reserved bits 0. A cluster or unit that does not exist has no site. -/
def addressed (s : State) (site h : Nat) : Nat :=
  let edge := field h 11 6
  let c := field h 21 16
  let dst := if field h 15 12 = 8 then (if edge < 36 then s.attachOf edge else 63) else if c < 40 then s.siteOf c else 63
  let h := putHeader (putHeader (putHeader h 16 6 dst) 26 6 site) 32 5 0
  if field h 15 12 = 8 ∨ field h 25 22 = 8 then h else putHeader h 6 6 0

/-- A header as its source interface sends it: its partition and epoch stamped, lane 0 (R329, R406). -/
def stampHeader (s : State) (h : Nat) : Nat :=
  let p := if field h 25 22 < 8 then
      (match s.clusterAt (field h 31 26) with | some c => s.clusterPart c | none => field h 47 46)
    else field h 47 46
  putHeader (putHeader (putHeader h 46 2 p) 48 16 (s.epochOf p)) 37 1 0

/-- Level of R332 of a packet that has waited `w` cycles at the head of its queue. -/
def meshLevel (h w : Nat) : Nat :=
  match field h 40 39, field h 38 38 with
  | 3, 1 => 1
  | 3, _ => 2
  | 1, p => if 32 ≤ w then 3 else if p = 1 then 4 else 7
  | 0, p => if 32 ≤ w then 3 else if p = 1 then 5 else 8
  | _, p => if 32 ≤ w then 3 else if p = 1 then 6 else 9

/-- The input queue of an entry: port, class, priority, lane (R329). -/
def MeshEntry.queueOf (e : MeshEntry) : Nat :=
  let h := e.pkt.header.toNat
  ((e.port * 4 + field h 40 39) * 2 + field h 38 38) * 2 + field h 37 37

/-- Entries at the head of their queues, with their positions. -/
def meshHeads : List (MeshEntry × Nat) → List Nat → List (MeshEntry × Nat)
  | [], _ => []
  | e :: r, seen =>
    if seen.contains e.1.queueOf then meshHeads r seen else e :: meshHeads r (e.1.queueOf :: seen)

/-- Note the cycle for entries that are at the head of their queues. -/
def markHeads (cycle : Nat) : List MeshEntry → List Nat → List MeshEntry
  | [], _ => []
  | e :: r, seen =>
    if seen.contains e.queueOf then e :: markHeads cycle r seen
    else { e with since := some (e.since.getD cycle) } :: markHeads cycle r (e.queueOf :: seen)

/-- A router. -/
def State.router (s : State) (site : Nat) : Router := SMap.getD s.fab.routers {} site

/-- Put a router. -/
def State.setRouter (s : State) (site : Nat) (r : Router) : State := { s with fab.routers := SMap.set s.fab.routers site r }

/-- A packet enters an input of a router in a fabric cycle. -/
def addInput (s : State) (site cycle : Nat) (e : MeshEntry) : State :=
  let r := s.router site
  s.setRouter site { r with inputs := markHeads cycle (r.inputs ++ [e]) [] }

/-- A router without the packet at a position: the next of its queue has been at the head since this cycle (R332). -/
def Router.without (r : Router) (pos cycle : Nat) : Router := { r with inputs := markHeads cycle (r.inputs.eraseIdx pos) [] }

/-- A packet with another header. -/
def withHeader (p : Packet) (h : Nat) : Packet := { p with header := BitVec.ofNat 64 h }

/-- Packets enter a router from its local interfaces, a control packet of one interface not sooner than 4 cycles after its
last (R326, R332). -/
def meshEnter (s : State) (site cycle : Nat) : List Packet → State
  | [] => s
  | p :: rest =>
    let h := p.header.toNat
    let r := s.router site
    let unit := field h 25 22
    let late := match SMap.get r.control unit with | some c => decide (c + 4 ≤ cycle) | none => true
    let ctl := field h 40 39 == 3
    if !mayEnter s site h ∨ (ctl ∧ !late) then meshEnter s site cycle rest
    else
      let s := s.setRouter site { r with control := if ctl then SMap.set r.control unit cycle else r.control }
      meshEnter (addInput s site cycle ⟨4, withHeader p (stampHeader s (addressed s site h)), none⟩) site cycle rest

/-- The output that a router chooses for a packet: 4 its own site, 5 none (R328). -/
def routeOut (s : State) (site h : Nat) : Nat :=
  let dst := field h 21 16
  if dst = site then 4 else (SMap.get s.fab.routes ((48 * site + dst) * 2 + field h 37 37)).getD 5

/-- The crossing into a domain. -/
def State.crossing (s : State) (d : Nat) : List (Packet × Nat) := SMap.getD s.fab.crossings [] d

/-- The stitch bridge into an input of a router (R324). -/
def State.bridge (s : State) (site port : Nat) : List (Packet × Nat) := SMap.getD s.fab.bridges [] (4 * site + port)

/-- Can a packet not be delivered from this router: no route, no router or interface at its destination (R330)? -/
def unroutable (s : State) (site h : Nat) : Bool :=
  let out := routeOut s site h
  if !s.inService (field h 21 16) then true
  else if out = 4 then (match dstDomain s h with | some d => !s.domainUp d | none => true)
  else match neighbour site out with | some n => !s.inService n | none => true

/-- Must a router discard a packet (R330)? -/
def meshBad (s : State) (site h : Nat) : Bool := hparBad h != 0 || unroutable s site h

/-- May a packet leave by its output now: does the queue into another domain that it meets there hold fewer than 16 entries (R334)? -/
def hasRoom (s : State) (site h out : Nat) : Bool :=
  if out = 4 then (match dstDomain s h with | some d => decide ((s.crossing d).length < 16) | none => true)
  else match neighbour site out with
    | some n => siteField n == siteField site || decide ((s.bridge n ((out + 2) % 4)).length < 16)
    | none => true

/-- Is candidate `a` ahead of `b`: lower level, then the input that comes first after the one last granted (R332)? -/
def meshBefore (turn : SMap Nat) (out : Nat) (a b : Nat × Nat) : Bool :=
  if a.1 ≠ b.1 then decide (a.1 < b.1)
  else
    let last := SMap.getD turn 4 (16 * out + a.1)
    decide ((a.2 + 5 - (last + 1) % 5) % 5 < (b.2 + 5 - (last + 1) % 5) % 5)

/-- The first of some candidates, each as level, input port, position. -/
def meshFirst (turn : SMap Nat) (out : Nat) : List (Nat × Nat × Nat) → Option (Nat × Nat × Nat)
  | [] => none
  | c :: r =>
    match meshFirst turn out r with
    | none => some c
    | some d => if meshBefore turn out (d.1, d.2.1) (c.1, c.2.1) then some d else some c

/-- The MESH page of the cluster that a site serves. -/
def meshPageAt (s : State) (site : Nat) : Page := ⟨.mesh, (s.clusterAt site).getD 0⟩

/-- The error response to a request: the header turned round (R330). -/
def errorResponse (h : Nat) : Word64 :=
  let h1 := putHeader (putHeader h 39 2 1) 41 1 1
  let h2 := putHeader (putHeader h1 16 6 (field h 31 26)) 12 4 (field h 25 22)
  BitVec.ofNat 64 (putHeader (putHeader h2 26 6 (field h 21 16)) 22 4 (field h 15 12))

/-- A posted write or a response that cannot be delivered is discarded (R330). -/
def discardPosted (s : State) (p : Page) (cls port : Nat) : State :=
  ((s.record p 0x100 (cls * 2 ^ 27 + port * 2 ^ 24)).raise p 0).bump p 4

/-- A packet that cannot be delivered: a request is answered with an error, anything else is discarded (R330). -/
def answerPacket (s : State) (p : Page) (port h : Nat) : State :=
  if field h 40 39 = 0 then { s with fab.answers := errorResponse h :: s.fab.answers }
  else discardPosted s p (field h 40 39) port

/-- A packet that cannot be delivered from a router: where the crossing into its destination is down, that answers (R330, R337). -/
def dropUnroutable (s : State) (site port h : Nat) : State :=
  let down := s.inService (field h 21 16) && field h 21 16 == site && (dstDomain s h).isSome
  answerPacket (if down then s.bump clkPage 3 else s) (meshPageAt s site) port h

/-- The MESH page of the router at which a domain is reached: its cluster's, or that of an edge unit's router (R325). -/
def domainMesh (s : State) (d : Nat) : Page :=
  if d < 320 then ⟨.mesh, d / 8⟩
  else meshPageAt s (s.attachOf (
    if 324 ≤ d ∧ d < 348 then (d - 324) % 12
    else if d = 348 then 12
    else if 349 ≤ d ∧ d < 365 then ([13, 14, 15, 16, 18, 24, 25, 26, 27, 28, 29, 30, 31, 32, 33, 34]).getD (d - 349) 35
    else if d = 366 then 27
    else if d = 367 then 17
    else if d = 369 then 20
    else if 368 ≤ d then 19
    else 12))

/-- An access by a posted write meets a crossing into a domain that is down (R330, R337). -/
def postedDown (s : State) (d : Nat) : State := discardPosted s (domainMesh s d) 0 4

/-- A packet whose header parity is wrong (R330, R397, R403). -/
def dropParity (s : State) (site port h : Nat) : State :=
  let p := meshPageAt s site
  let s := ((s.record p 0x100 (2 ^ 29 + field h 40 39 * 2 ^ 27 + port * 2 ^ 24)).raise p 1).bump p 3
  let s := reportUnit s (7 * 2 ^ 28 + site * 2 ^ 20) 1 0
  let c := (s.clusterAt site).getD 0
  if bitAt (hparBad h) 4 then s.trigger 8 4 c else s.trigger 7 (field h 47 46) c

/-- A packet moves to the next router, on lane 1 after a turn from a vertical to a horizontal direction (R329); across a stitch
bridge it goes into the queue between the two fields (R324). -/
def meshForward (s : State) (site out cycle : Nat) (e : MeshEntry) : State :=
  match neighbour site out with
  | none => s
  | some n =>
    let h := e.pkt.header.toNat
    let turns := (e.port == 0 || e.port == 2) && (out == 1 || out == 3) && field h 37 37 == 0
    let p := if turns then withHeader e.pkt (putHeader h 37 1 1) else e.pkt
    let port := (out + 2) % 4
    let s := if siteField n = siteField site then addInput s n cycle ⟨port, p, none⟩
      else { s with fab.bridges := SMap.set s.fab.bridges (4 * n + port) (s.bridge n port ++ [(p, 0)]) }
    if turns then s.bump (meshPageAt s site) 2 else s

/-- A router discards every packet at the head of an input queue that it finds bad (R330). -/
def discardBad (site cycle : Nat) : Nat → State → State
  | 0, s => s
  | fuel + 1, s =>
    let r := s.router site
    match (meshHeads r.inputs.zipIdx []).find? (fun e => meshBad s site e.1.pkt.header.toNat) with
    | none => s
    | some (e, pos) =>
      let h := e.pkt.header.toNat
      let s := s.setRouter site (r.without pos cycle)
      discardBad site cycle fuel (if hparBad h ≠ 0 then dropParity s site e.port h else dropUnroutable s site e.port h)

/-- The packets that wait for an output: each as level, input port, position. -/
def outCandidates (s : State) (site out cycle : Nat) : List (Nat × Nat × Nat) :=
  (meshHeads (s.router site).inputs.zipIdx []).filterMap (fun e =>
    let h := e.1.pkt.header.toNat
    if !meshBad s site h && routeOut s site h == out && hasRoom s site h out then
      some (meshLevel h (cycle - e.1.since.getD cycle), e.1.port, e.2) else none)

/-- A router's output grants the packet that comes first (R332). -/
def meshGrant (s : State) (site out cycle : Nat) : State :=
  let r := s.router site
  match meshFirst r.turn out (outCandidates s site out cycle) with
  | none => s
  | some (level, port, pos) =>
    match r.inputs[pos]? with
    | none => s
    | some e =>
      let r := { r.without pos cycle with
        granted := SMap.set r.granted out cycle
        turn := SMap.set r.turn (16 * out + level) port }
      let p := meshPageAt s site
      let s := (s.setRouter site r).bump p 0
      let s := if level = 3 then s.bump p 1 else s
      if out = 4 then
        match dstDomain s e.pkt.header.toNat with
        | some d => { s with fab.crossings := SMap.set s.fab.crossings d (s.crossing d ++ [(e.pkt, 0)]) }
        | none => s
      else meshForward s site out cycle e

/-- The latest cycle of a mesh field. -/
def State.fieldCycle (s : State) (f : Nat) : Nat := SMap.getD s.fab.cycles 0 f

/-- PACKET_HOP: in a fabric cycle a router's output grants one packet, after packets have entered from the site's interfaces
and bad ones have been discarded (R326-R332). -/
def packetHop (s : State) (site out cycle : Nat) (enter : List Packet) : State :=
  let f := siteField site
  if !s.inService site || s.domainState (320 + f) != 0 then s
  else
    let s : State := { s with fab.cycles := SMap.set s.fab.cycles f (max cycle (s.fieldCycle f)) }
    let s := meshEnter s site cycle enter
    let s := discardBad site cycle (s.router site).inputs.length s
    if (match SMap.get (s.router site).granted out with | some c => decide (cycle ≤ c) | none => false) then s
    else meshGrant s site out cycle

/-! ### Epochs (R407) -/

/-- The copy that a target interface keeps of a partition's epoch. -/
def State.epochCopy (s : State) (d p : Nat) : Nat := SMap.getD s.fab.epochs 0 (4 * d + p)

/-- Has a target an access of a partition that it has accepted and not completed? -/
def targetBusy (s : State) (d p : Nat) : Bool :=
  if 324 ≤ d ∧ d < 336 then s.mem.held.any (fun h => h.agent == d - 324 && s.tileInPart (some p) h.tile)
  else if d < 320 ∧ d % 8 = 7 then
    s.clusterPart (d / 8) == p && (s.mem.held.any (fun h => h.agent == 12 + d / 8) || !(s.stash (d / 8)).inbox.isEmpty)
  else false

/-- What a target interface does with a packet's epoch: none where it cannot take the packet yet, otherwise whether it accepts
it (R407). -/
def takeEpoch (s : State) (d p e : Nat) : Option (State × Bool) :=
  let c := s.epochCopy d p
  let diff := modDist 16 e c
  if diff = 0 then some (s, true)
  else if diff < 2 ^ 15 then
    if targetBusy s d p then none else some ({ s with fab.epochs := SMap.set s.fab.epochs (4 * d + p) e }, true)
  else some (s.bump partPg 3, false)

/-- EPOCH_ADOPT: a packet of a partition's epoch, up to the present one, reaches a target interface (R404, R407). -/
def epochAdopt (s : State) (d p e : Nat) : State :=
  if 2 ^ 15 ≤ modDist 16 (s.epochOf p) e then s
  else match takeEpoch s d p e with
    | some (s, _) => s
    | none => s

/-- Domains of target interfaces: cores and cluster fabrics, HBM controllers, edge blocks, Ringmaster, the always-on island and
what it holds (R324, R333). -/
def isTarget (d : Nat) : Bool := decide (d < 320) || (decide (324 ≤ d) && decide (d < 336)) || (decide (365 ≤ d) && decide (d < 372))

/-- Has every target that is up adopted a partition's present epoch? -/
def allAdopted (s : State) (p : Nat) : Bool :=
  (List.range 372).all (fun d => !isTarget d || !s.domainUp d || s.epochCopy d p == s.epochOf p)

/-- What tells the order of packets at an interface (R327): source interface, class, priority. -/
def orderKey (h : Nat) : Nat × Nat × Nat := (field h 31 22, field h 40 39, field h 38 38)

/-- Values that become usable: their target checks their epoch (R334, R407). One that it cannot take yet holds back those that come
after it from the same source in its class and priority (R327). -/
def crossUsable (s : State) (d : Nat) (behind : List (Nat × Nat × Nat)) : List (Packet × Nat) → State
  | [] => s
  | (w, n) :: rest =>
    let h := w.header.toNat
    let back (s : State) : State := { s with fab.crossings := SMap.set s.fab.crossings d (s.crossing d ++ [(w, n)]) }
    if n < 3 ∨ behind.contains (orderKey h) then crossUsable (back s) d behind rest
    else match takeEpoch s d (field h 47 46) (field h 63 48) with
      | none => crossUsable (back s) d (orderKey h :: behind) rest
      | some (s, true) => crossUsable { s with fab.usable := (d, w) :: s.fab.usable } d behind rest
      | some (s, false) => crossUsable s d behind rest

/-- Entries of a queue into a domain that is down: each is answered or discarded, as a MESH page shows (R330, R337). -/
def crossDown (p : Page) (s : State) : List (Packet × Nat) → State
  | [] => s
  | (w, _) :: rest => crossDown p (answerPacket (s.bump clkPage 3) p 4 w.header.toNat) rest

/-- A receiving edge passes for the stitch bridge into an input of a router: what has become usable enters the router (R324, R334). -/
def bridgeEdge (s : State) (key cycle : Nat) : State :=
  let q := (SMap.getD s.fab.bridges [] key).map (fun e => (e.1, e.2 + 1))
  let left := q.filter (fun e => decide (e.2 < 3))
  let s : State := { s with fab.bridges := if left.isEmpty then SMap.del s.fab.bridges key else SMap.set s.fab.bridges key left }
  (q.filter (fun e => decide (3 ≤ e.2))).foldl (fun s e => addInput s (key / 4) cycle ⟨key % 4, e.1, none⟩) s

/-- The stitch bridges into a mesh field. -/
def bridgesInto (s : State) (f : Nat) : List Nat := (s.fab.bridges.map (·.1)).filter (fun k => siteField (k / 4) == f)

/-- A fabric cycle begins in a mesh field, or is not running: its stitch bridges (R324, R334, R337). -/
def fieldEdge (s : State) (f : Nat) : State :=
  match s.domainState (320 + f) with
  | 0 =>
    let n := s.fieldCycle f + 1
    (bridgesInto s f).foldl (fun s k => bridgeEdge s k n) { s with fab.cycles := SMap.set s.fab.cycles f n }
  | 3 =>
    (bridgesInto s f).foldl (fun s k =>
      crossDown (meshPageAt s (k / 4)) { s with fab.bridges := SMap.del s.fab.bridges k } (SMap.getD s.fab.bridges [] k)) s
  | _ => s

/-- CROSSING_ARRIVAL: a receiving-clock cycle begins in a domain; a value becomes usable in the third that begins after its
commit; values committed since then enter the crossing, 16 at most (R334, R336, R337). -/
def crossingArrival (s : State) (d : Nat) (enter : List Packet) : State :=
  let s := if 320 ≤ d ∧ d < 324 then fieldEdge s (d - 320) else s
  let held := s.crossing d
  let st := s.domainState d
  if st = 3 then crossDown (domainMesh s d) { s with fab.crossings := SMap.del s.fab.crossings d } (held ++ enter.map (fun w => (w, 0)))
  else
    let s := if st = 0 then
        crossUsable { s with fab.crossings := SMap.del s.fab.crossings d } d [] (held.map (fun e => (e.1, e.2 + 1)))
      else s
    let now := s.crossing d
    { s with fab.crossings := SMap.set s.fab.crossings d (now ++ (enter.take (16 - now.length)).map (fun w => (w, 0))) }

end Sys2Proof.Machine
end

