-- ==== Sys2Proof/Machine/Talel.lean ====
section
/-! DEFINITION. Ethernet ports, MACsec and the Talel transport (R340-R359). -/

namespace Sys2Proof.Machine

/-! ### Pages and registers -/

/-- The TAL page. -/
def talPage : Page := ⟨.tal, 0⟩
/-- The PORT page of an instance: 0 HP, 1 + k Pk. -/
def portPage (i : Nat) : Page := ⟨.port, i⟩
/-- The MSEC page of an instance. -/
def msecPage (i : Nat) : Page := ⟨.msec, i⟩
/-- The PART page. -/
def partPage : Page := ⟨.part, 0⟩

/-- Stages of R347. -/
abbrev stLink : Nat := 1
/-- TRAIN. -/
abbrev stTrain : Nat := 2
/-- MGMT. -/
abbrev stMgmt : Nat := 3
/-- READY. -/
abbrev stReady : Nat := 4
/-- DRAINING. -/
abbrev stDraining : Nat := 5
/-- RETIRED. -/
abbrev stRetired : Nat := 6

/-- The present stage (R347). -/
def State.stage347 (s : State) : Nat := field (s.regN talPage 0x014) 3 0

/-- The present epoch of a partition (R406). -/
def State.epoch (s : State) (p : Nat) : Nat := s.regN partPage (0x100 + 4 * p) % 2 ^ 16

/-- A port's state. -/
def State.port (s : State) (i : Nat) : Port := SMap.getD s.net.ports {} i

/-- Put a port's state. -/
def State.setPort (s : State) (i : Nat) (p : Port) : State := { s with net.ports := SMap.set s.net.ports i p }

/-- A context's state. -/
def State.tctx (s : State) (n : Nat) : TalCtx := SMap.getD s.net.ctxs {} n

/-- Put a context's state, keeping TAL.STAGE.OPEN the number of OPEN contexts. -/
def State.setTctx (s : State) (n : Nat) (c : TalCtx) : State :=
  let ctxs := SMap.set s.net.ctxs n c
  let s : State := { s with net.ctxs := ctxs }
  s.setField talPage 0x014 16 15 (ctxs.filter (fun e => decide (e.2.st = 1))).length

/-- RTO_INIT in ticks: below 100 acts as 100. -/
def State.rtoInit (s : State) : Nat := max 100 (field (s.regN talPage 0x100) 15 0)
/-- RTO_MAX·64 ticks. -/
def State.rtoMax (s : State) : Nat := 64 * field (s.regN talPage 0x100) 31 16
/-- CWND.MAX: above 1,024 acts as 1,024; never below the bound 4 (R353). -/
def State.cwndMax (s : State) : Nat := max 4 (min 1024 (field (s.regN talPage 0x108) 26 16))
/-- CWND.INIT: below 4 acts as 4. -/
def State.cwndInit (s : State) : Nat := min s.cwndMax (max 4 (field (s.regN talPage 0x108) 10 0))

/-! ### Sending -/

/-- Priority of a traffic class on a port (R345). -/
def State.prioOf (s : State) (i tc : Nat) : Nat := field (s.regN (portPage i) 0x120) (4 * tc + 2) (4 * tc)

/-- Does the partner pause a priority of a port (R343)? -/
def State.paused (s : State) (i q : Nat) : Bool := bitAt (s.regN (portPage i) 0x014) (8 + q)

/-- Is a port's link up (R341)? -/
def State.linkUp (s : State) (i : Nat) : Bool := bitAt (s.regN (portPage i) 0x014) 0

/-- May frames pass a port: its link is up, and it is not the reserve port in its own place, which carries no traffic (R22, R341)? -/
def State.mayCarry (s : State) (i : Nat) : Bool := s.linkUp i && decide (i ≠ 17)

/-- A frame leaves a port: it is counted, and while EN is 1 protected under the association that MSEC.TX.AN names (R342). -/
def frameOut (s : State) (i : Nat) (frame : Option SentTag → Sent) : State :=
  let s := s.bump (portPage i) 1
  if bitAt (s.regN (msecPage i) 0x010) 0 then
    let k := field (s.regN (msecPage i) 0x100) 1 0
    let p := s.port i
    let pn := SMap.getD p.pns 1 k
    let s := { s with net.wire := frame (some ⟨k, pn, SMap.get p.keys k⟩) :: s.net.wire }
    (s.setPort i { p with pns := SMap.set p.pns k (pn + 1) }).bump (msecPage i) 0
  else { s with net.wire := frame none :: s.net.wire }

/-- A message leaves a port in a datagram: ECT(0), DSCP 8·PCP, source port 49,152 + SRC_CTX, a computed checksum except for carousel and
parameter multicast messages (R340, R344, R345). -/
def wireOut (s : State) (i : Nat) (m : Msg) : State :=
  let q := s.prioOf i m.tc
  frameOut s i (fun sec => .talel i m
    { pcp := q, dscp := 8 * q, ecn := 2, srcPort := 49152 + m.srcCtx, checksum := !(m.cls == 4 || m.cls == 5), sec := sec })

/-- Hand a message to a port: it leaves at once, or waits for the link or for its priority (R341, R343). -/
def transmit (s : State) (i : Nat) (m : Msg) : State :=
  if s.mayCarry i && !s.paused i (s.prioOf i m.tc) then wireOut s i m
  else
    let p := s.port i
    s.setPort i { p with txq := p.txq ++ [m] }

/-- Send what waits at a port and may now leave, in order. -/
def flushPort (s : State) (i : Nat) : State :=
  let p := s.port i
  p.txq.foldl (fun s m => transmit s i m) (s.setPort i { p with txq := [] })

/-- Is a message a stateless NAK that waits in a port's NAK transmit queue (R348)? -/
def isStatelessNak (m : Msg) : Bool := m.cls == 6 && m.resp && m.ackpsn.isNone && m.data % 256 == 1

/-- A stateless NAK (R348): dropped, counted and reported when the port's queue of 256 is full. -/
def statelessNak (s : State) (i dst code tag psn : Nat) : State :=
  if 256 ≤ ((s.port i).txq.filter isStatelessNak).length then (s.bump talPage 2).raise talPage 1
  else
    let retry := if code = 1 then s.regN talPage 0x10C % 2 ^ 16 else 0
    let d := 1 + code * 2 ^ 8 + s.stage347 * 2 ^ 16 + retry * 2 ^ 32 + tag * 2 ^ 64 + psn * 2 ^ 96
    transmit (s.bump talPage 1) i { cls := 6, resp := true, tc := 3, dstCtx := dst, len := 16, data := d }

/-! ### PSN arithmetic -/

/-- PSNs are compared modulo 2^24 (R349): the distance from `b` up to `a`. -/
def psnDist (a b : Nat) : Nat := modDist 24 a b

/-- The PSN after a PSN. -/
def psnNext (a : Nat) : Nat := wrapSucc 24 a

/-- Does PSN `a` come before `b`? -/
def psnBefore (a b : Nat) : Bool := decide (0 < psnDist b a) && decide (psnDist b a < 2 ^ 23)

/-! ### Contexts -/

/-- Header fields that every message of a context carries (R344, R351). -/
def stamp (s : State) (n : Nat) (m : Msg) : Msg :=
  let c := s.tctx n
  { m with srcCtx := n, dstCtx := c.peerCtx, ackpsn := some c.rxNext, epoch := s.epoch c.part, part := c.part }

/-- A message of a context has been given its acknowledgement number: what it acknowledges waits no longer (R351). -/
def answered (c : TalCtx) : TalCtx := { c with unanswered := 0, firstAt := none }

/-- Messages leave the queue of a context while fewer than CWND are unacknowledged (R353). -/
def pump (s : State) (n : Nat) : Nat → State
  | 0 => s
  | fuel + 1 =>
    let c := s.tctx n
    match c.queue with
    | [] => s
    | m :: rest =>
      if min c.cwnd s.cwndMax ≤ c.unacked.length then s
      else
        let m := stamp s n { m with psn := c.txNext }
        let c := { answered c with queue := rest, txNext := psnNext c.txNext, unacked := c.unacked ++ [⟨m, s.tick, 0, false⟩] }
        pump (transmit (s.setTctx n c) c.port m) n fuel

/-- Send a message of a context, in PSN order. -/
def sendMsg (s : State) (n : Nat) (m : Msg) : State :=
  let c := s.tctx n
  let s := s.setTctx n { c with queue := c.queue ++ [m] }
  pump s n (c.queue.length + 1)

/-- The SACK ranges of a context (R351): the first PSN of each run received above the gap and the PSN after its last, at
most 8, from `k` PSNs above the next expected up. `fuel` bounds the window. -/
def sackRanges (c : TalCtx) : Nat → Nat → Option Nat → Nat → List (Nat × Nat)
  | 0, _, _, _ => []
  | _, _, _, 0 => []
  | fuel + 1, k, start, left + 1 =>
    let p := (c.rxNext + k) % 2 ^ 24
    if c.above.contains p then sackRanges c fuel (k + 1) (some (start.getD p)) (left + 1)
    else match start with
      | some q => (q, p) :: sackRanges c fuel (k + 1) none left
      | none => sackRanges c fuel (k + 1) none (left + 1)

/-- The payload of the ranges of an ACK from byte 4 on. -/
def sackBytes : List (Nat × Nat) → Nat
  | [] => 0
  | (a, b) :: r => a + b * 2 ^ 32 + 2 ^ 64 * sackBytes r

/-- Send a CTL ACK (R351). -/
def sendAck (s : State) (n : Nat) : State :=
  let c := s.tctx n
  let rs := if c.above.isEmpty then [] else sackRanges c 1025 0 none 8
  let m := stamp s n { cls := 6, tc := 3, ece := c.eceDue, psn := c.txNext, len := 4 + 8 * rs.length, data := rs.length * 2 ^ 8 + 2 ^ 32 * sackBytes rs }
  transmit (s.setTctx n { answered c with eceDue := false }) c.port m

/-- Answer a refused message of a context with a CTL NAK (R354). -/
def sendNak (s : State) (n code : Nat) (refused : Msg) : State :=
  let c := s.tctx n
  let d := 1 + code * 2 ^ 8 + s.stage347 * 2 ^ 16 + refused.tag * 2 ^ 64 + refused.psn * 2 ^ 96
  let m := stamp s n { cls := 6, resp := true, tc := 3, psn := c.txNext, len := 16, data := d }
  transmit (s.setTctx n (answered c)) c.port m

/-- The default traffic class of a message class (R345). -/
def tcOf : Nat → Nat
  | 1 => 2
  | 2 => 0
  | 3 => 2
  | 4 => 1
  | 5 => 1
  | _ => 3

/-- Answer a request (R355). -/
def respond (s : State) (n : Nat) (req : Msg) (len data : Nat) : State :=
  sendMsg s n { cls := req.cls, resp := true, tc := tcOf req.cls, tag := req.tag, len := len, data := data }

/-- A context becomes FAILED (R352). -/
def failCtx (s : State) (n : Nat) : State :=
  let c := s.tctx n
  let s := (s.setTctx n { c with st := 3, unacked := [], queue := [], ahead := [], above := [], ready := [] }).dropUnit (.talel n)
  ((s.record talPage 0x118 n).raise talPage 0).bump talPage 8

/-- Retransmit an unacknowledged message with RETX set (R352), for the timer (counter 3), for SACK ranges (counter 4), or on a reserve port
that has come into service (no counter, R357): a message already retransmitted RETRY_MAX times fails its context; retries do not
count while the port waits for the reserve port (R444). The timer doubles RTO. -/
def retransmit (s : State) (n psn : Nat) (why : Option Nat) : State :=
  let c := s.tctx n
  match c.unacked.find? (fun u => decide (u.msg.psn = psn)) with
  | none => s
  | some u =>
    let waiting := (s.port c.port).sparing.isSome
    if !waiting && decide (max 1 (field (s.regN talPage 0x104) 7 0) ≤ u.tries) then failCtx s n
    else
      let m := { u.msg with retx := true, ackpsn := some c.rxNext }
      let u' : Unacked := { msg := m, since := s.tick, tries := if waiting then u.tries else u.tries + 1, fast := why == some 4 }
      let rto := if why = some 3 then min (2 * c.rto) (max s.rtoMax s.rtoInit) else c.rto
      let c := { answered c with rto := rto, unacked := c.unacked.map (fun v => if v.msg.psn = psn then u' else v) }
      let s := transmit (s.setTctx n c) c.port m
      match why with | some k => s.bump talPage k | none => s

/-- CWND rises by 1 for each CWND messages acknowledged (R353), counted afresh from a halving (DEDUCED, log entry 36). -/
def riseCwnd (most : Nat) : Nat → Nat → Nat → Nat × Nat
  | 0, cwnd, acc => (cwnd, acc)
  | fuel + 1, cwnd, acc => if cwnd ≤ acc then riseCwnd most fuel (min most (cwnd + 1)) (acc - cwnd) else (cwnd, acc)

/-- Take the acknowledgement number of a message (R352, R353); `ece` for an ACK with ECE, which halves CWND at most once per
CWND messages acknowledged. A CLOSING context with nothing left to acknowledge is FREE. -/
def takeAck (s : State) (n ackpsn : Nat) (ece : Bool) : State :=
  let c := s.tctx n
  let left := c.unacked.filter (fun u => !psnBefore u.msg.psn ackpsn)
  let k := c.unacked.length - left.length
  let c := { c with unacked := left, rto := if k = 0 then c.rto else s.rtoInit, cwnd := min c.cwnd s.cwndMax, halve := c.halve - k }
  let halving := ece && decide (c.halve = 0)
  let (cwnd, rise) :=
    if ece then (if halving then (max 4 (c.cwnd / 2), 0) else (c.cwnd, c.rise))
    else riseCwnd s.cwndMax (k + 1) c.cwnd (c.rise + k)
  let c := { c with cwnd := cwnd, rise := rise, halve := if halving then cwnd else c.halve }
  let s := if halving then s.bump talPage 7 else s
  if c.st == 2 && c.unacked.isEmpty && c.queue.isEmpty then s.setTctx n {}
  else pump (s.setTctx n c) n c.queue.length

/-! ### Receiving -/

/-- The messages of a port that are read: a malformed one is discarded and counted (R344). -/
def malformed (m : Msg) : Bool :=
  m.ver != 1 || m.reserved || decide (8208 < m.len) || decide (16384 ≤ m.srcCtx) || decide (16384 ≤ m.dstCtx)

/-- SUB of a CTL message (R351). -/
def subOf (m : Msg) : Nat := m.data % 256

/-- The context that a message of a port names, if it is OPEN and bound to that port, peer and peer context (R346, R348). -/
def State.named (s : State) (i : Nat) (r : RxMsg) : Option Nat :=
  let c := s.tctx r.msg.dstCtx
  if c.st = 1 ∧ c.port = i ∧ c.peer = r.peer ∧ c.peerCtx = r.msg.srcCtx then some r.msg.dstCtx else none

/-- Take the next message of a port's receive buffer. -/
def State.popRx (s : State) (i : Nat) : Option (RxMsg × State) :=
  let p := s.port i
  match p.rx with
  | [] => none
  | r :: rest => some (r, s.setPort i { p with rx := rest })

/-- Take the next message of a port when a test accepts it. -/
def State.popRxIf (s : State) (i : Nat) (ok : Msg → Bool) : Option (RxMsg × State) :=
  match s.popRx i with
  | none => none
  | some (r, s) => if ok r.msg then some (r, s) else none

/-- Does a context's kind carry a class (R345)? -/
def carries (kind cls : Nat) : Bool :=
  match cls with
  | 1 => kind == 0 || kind == 1
  | 2 => true
  | 3 => true
  | 4 => kind == 2
  | 5 => kind == 2
  | 6 => true
  | 7 => kind == 0
  | _ => false

/-- The NAK code that a request's payload or epoch earns before it acts (R354, R355, R369, R409), 0 for none. -/
def reqCode (s : State) (c : TalCtx) (m : Msg) : Nat :=
  let d := m.data
  let stale :=
    let k := modDist 16 m.epoch (s.epoch c.part)
    if k = 0 then 0 else if k < 2 ^ 15 then 12 else 9
  if !carries c.kind m.cls then 5
  else match m.cls with
    | 1 =>
      let op := field d 1 0
      if 1 < op ∨ field d 95 32 ≠ 0 then 12
      else if m.len ≠ 12 + (if op = 1 then 4 * (field d 7 2 + 1) else 0) then 12
      else if field d 31 8 % 4 ≠ 0 then 10
      else 0
    | 2 =>
      let op := field d 1 0
      let len := field d 31 16
      if stale ≠ 0 then stale
      else if op = 3 ∨ field d 15 2 ≠ 0 ∨ len < 4 ∨ 8192 < len ∨ field d 95 80 ≠ 0 then 12
      else if m.len ≠ 12 + (if op = 0 then 0 else len) then 12
      else if len % 4 ≠ 0 ∨ field d 79 32 % 4 ≠ 0 then 10
      else 0
    | 3 =>
      if stale ≠ 0 then stale
      else if field d 7 1 ≠ 0 ∨ 63 < field d 15 8 ∨ field d 95 32 ≠ 0 then 12
      else if m.len ≠ 12 + (if bitAt d 0 then 64 else 4) then 12
      else 0
    | 6 => if subOf m = 4 then 0 else 12
    | _ => 0

/-- A message takes its turn (R350): one of a class that the context does not carry is refused; a carousel message goes to its unit,
unless the unit has taken its frame already (R264); a response ends here, a refused request is answered, and any other waits for the
command that carries it out. -/
def deliver (s : State) (n : Nat) (m : Msg) : State :=
  let c := s.tctx n
  if !carries c.kind m.cls then sendNak s n 5 m
  else if m.cls = 4 ∨ m.cls = 5 then
    s.setTctx n (if c.early.contains m.psn then { c with early := NSet.erase c.early m.psn } else { c with toUnit := c.toUnit ++ [m] })
  else if m.resp then s
  else
    let code := reqCode s c m
    if code = 0 then s.setTctx n { c with ready := c.ready ++ [m] } else sendNak s n code m

/-- Deliver the messages that a filled gap lets through. -/
def deliverAhead (s : State) (n : Nat) : Nat → State
  | 0 => s
  | fuel + 1 =>
    let c := s.tctx n
    if c.above.contains c.rxNext then
      let p := c.rxNext
      let s := s.setTctx n { c with
        rxNext := psnNext p, above := NSet.erase c.above p, ahead := c.ahead.filter (fun m => decide (m.psn ≠ p)) }
      let s := match c.ahead.find? (fun m => decide (m.psn = p)) with
        | some m => deliver s n m
        | none => s
      deliverAhead s n fuel
    else s

/-- Bytes that a port's reorder store holds (R350). -/
def State.reorderBytes (s : State) (i : Nat) : Nat :=
  s.net.ctxs.foldl (fun k e => if e.2.port = i then k + (e.2.ahead.map (fun m => 24 + m.len)).foldl (· + ·) 0 else k) 0

/-- A message has been accepted: an acknowledgement is due after ACK_EVERY messages, at once on ACK_REQ or a gap (R351). -/
def acceptAck (s : State) (n : Nat) (ce now : Bool) : State :=
  let c := s.tctx n
  let c := { c with unanswered := c.unanswered + 1, firstAt := some (c.firstAt.getD s.tick), eceDue := c.eceDue || ce }
  let s := s.setTctx n c
  if now || decide (max 1 (field (s.regN talPage 0x104) 15 8) ≤ c.unanswered) then sendAck s n else s

/-- The PSN rules of R349 and R350 for a message of an OPEN context. -/
def sequence (s : State) (n : Nat) (r : RxMsg) : State :=
  let m := r.msg
  let c := s.tctx n
  let d := psnDist m.psn c.rxNext
  if 1024 ≤ d then
    if psnBefore m.psn c.rxNext then sendAck (s.bump talPage 5) n else s.bump talPage 6
  else if c.above.contains m.psn then sendAck (s.bump talPage 5) n
  else if d = 0 then
    let s := s.setTctx n { c with rxNext := psnNext m.psn }
    let s := deliverAhead (deliver s n m) n 1024
    acceptAck s n r.ce m.ackReq
  else
    let direct := m.cls == 4 || m.cls == 5
    if !direct && decide (4194304 < s.reorderBytes c.port + 24 + m.len) then sendAck (s.bump talPage 6) n
    else
      let s := s.setTctx n { c with above := NSet.insert c.above m.psn, ahead := if direct then c.ahead else c.ahead ++ [m] }
      let s := if direct then deliver s n m else s
      acceptAck s n r.ce true

/-- MESSAGE_RECEIVE: the next message of a port that is no CONNECT, ACK or NAK (R344-R351); an ACCEPT that answers no CONNECT of this
module names no OPEN context. -/
def messageReceive (s : State) (i : Nat) : State :=
  let mine (m : Msg) : Bool := malformed m || !(m.cls == 6 && decide (subOf m < 3))
  match s.popRxIf i mine with
  | none => s
  | some (r, s') =>
    let m := r.msg
    if malformed m then (s'.bump talPage 9).raise talPage 2
    else match s'.named i r with
      | none => statelessNak s' i m.srcCtx 2 m.tag m.psn
      | some n =>
        let s := match m.ackpsn with | some a => takeAck s' n a false | none => s'
        sequence s n r

/-- ACK: a CTL ACK arrives (R348, R352, R353). -/
def ackReceive (s : State) (i : Nat) : State :=
  match s.popRxIf i (fun m => !malformed m && m.cls == 6 && subOf m == 0) with
  | none => s
  | some (r, s) =>
    let m := r.msg
    let c := s.tctx m.dstCtx
    if (c.st = 1 ∨ c.st = 2) ∧ c.port = i ∧ c.peer = r.peer ∧ c.peerCtx = m.srcCtx then
      let n := m.dstCtx
      let s := match m.ackpsn with | some a => takeAck s n a m.ece | none => s
      let ranges := (List.range (min 8 (field m.data 15 8))).map (fun k =>
        (field m.data (55 + 64 * k) (32 + 64 * k), field m.data (87 + 64 * k) (64 + 64 * k)))
      let later (p : Nat) : Nat := (ranges.map (fun (a, b) => if psnBefore p a then psnDist b a else 0)).foldl (· + ·) 0
      let within (p : Nat) : Bool := ranges.any (fun (a, b) => decide (psnDist p a < psnDist b a))
      let lost := ((s.tctx n).unacked.filter (fun u => !u.fast && !within u.msg.psn && decide (3 ≤ later u.msg.psn))).map (·.msg.psn)
      lost.foldl (fun s p => retransmit s n p (some 4)) s
    else s.bump talPage 11

/-- NAK: a CTL NAK arrives (R348, R354): on an OPEN context it ends the refused request; one that answers a CONNECT this
module sent is taken by that CONNECT; any other is discarded and counted. -/
def nakReceive (s : State) (i : Nat) (ofConnect : Bool) : State :=
  match s.popRxIf i (fun m => !malformed m && m.cls == 6 && subOf m == 1) with
  | none => s
  | some (r, s) =>
    let m := r.msg
    match s.named i r with
    | some n =>
      let s := match m.ackpsn with | some a => takeAck s n a false | none => s
      let c := s.tctx n
      pump (s.setTctx n { c with unacked := c.unacked.filter (fun u => decide (u.msg.psn ≠ field m.data 119 96)) }) n (c.queue.length + 1)
    | none => if ofConnect then s else s.bump talPage 11

/-! ### Opening and closing -/

/-- Does a stage admit a context kind (R346, R347)? -/
def admitted (stage kind : Nat) : Bool :=
  if stage = stMgmt ∨ stage = stRetired then kind == 0 else stage == stReady

/-- Does a port take a context kind (R346)? -/
def kindOnPort (i kind : Nat) : Bool := if i = 0 then kind == 0 || kind == 1 else kind == 2

/-- Are 64 contexts of kind MGMT (R346)? -/
def mgmtFull (s : State) : Bool := decide (64 ≤ (s.net.ctxs.filter (fun e => e.2.kind == 0 && e.2.st != 0)).length)

/-- The lowest-numbered FREE context from `k` up. -/
def freeCtx (s : State) : Nat → Nat → Option Nat
  | 0, _ => none
  | fuel + 1, k => if 16384 ≤ k then none else if (s.tctx k).st = 0 then some k else freeCtx s fuel (k + 1)

/-- Send the ACCEPT of a context: it carries the initial PSN, which it takes, and the present epoch (R349, R351, R409). -/
def sendAccept (s : State) (n : Nat) : State :=
  let c := s.tctx n
  let m := stamp s n { cls := 6, tc := 3, psn := c.myPsn, len := 8, data := 3 + c.myPsn * 2 ^ 32 }
  let c := { answered c with txNext := psnNext c.myPsn, unacked := [⟨m, s.tick, 0, false⟩] }
  transmit (s.setTctx n c) c.port m

/-- A context as it opens. -/
def openCtx (s : State) (n kind port part peer peerCtx peerPsn myPsn : Nat) : State :=
  (s.setTctx n { st := 1, kind := kind, port := port, part := part, peer := peer, peerCtx := peerCtx, peerPsn := peerPsn
                 myPsn := myPsn, rxNext := psnNext peerPsn, txNext := psnNext myPsn, rto := s.rtoInit, cwnd := s.cwndInit }).bump talPage 0

/-- CONNECT: a CTL CONNECT arrives and opens, repeats or refuses a context (R346-R348). -/
def connectReceive (s : State) (i : Nat) : State :=
  match s.popRxIf i (fun m => !malformed m && m.cls == 6 && subOf m == 2) with
  | none => s
  | some (r, s) =>
    let m := r.msg
    let kind := field m.data 15 8
    let part := field m.data 17 16
    let psn := field m.data 55 32
    let same (e : Nat × TalCtx) : Bool :=
      e.2.st == 1 && e.2.port == i && e.2.peer == r.peer && e.2.peerCtx == m.srcCtx
    let old := (s.net.ctxs.find? same).map (·.1)
    match old with
    | some n =>
      if (s.tctx n).peerPsn = psn then
        let c := s.tctx n
        transmit s i (stamp s n { cls := 6, tc := 3, psn := c.myPsn, len := 8, data := 3 + c.myPsn * 2 ^ 32 })
      else openNew (failCtx s n) r m kind part psn
    | none => openNew s r m kind part psn
where
  /-- A CONNECT that names no OPEN context. -/
  openNew (s : State) (r : RxMsg) (m : Msg) (kind part psn : Nat) : State :=
    let refuse (code : Nat) : State := statelessNak s i m.srcCtx code m.tag m.psn
    if !admitted s.stage347 (if 2 < kind then 2 else kind) then refuse 1
    else if !kindOnPort i kind then refuse 4
    else if kind = 0 ∧ mgmtFull s then refuse 3
    else match freeCtx s 16384 0 with
      | none => refuse 3
      | some n => sendAccept (openCtx s n kind i part r.peer m.srcCtx psn 0) n

/-- ACCEPT: an ACCEPT answers a CONNECT that this module's firmware sent for a FREE context, and opens it (R346, R349). A CONNECT that the
kinds of R346 bar was never sent: such an ACCEPT is answered as one that names no OPEN context (R348). -/
def acceptReceive (s : State) (i kind part psn : Nat) : State :=
  match s.popRxIf i (fun m => !malformed m && m.cls == 6 && subOf m == 3) with
  | none => s
  | some (r, s') =>
    let n := r.msg.dstCtx
    if !kindOnPort i kind || (kind == 0 && mgmtFull s) then statelessNak s' i r.msg.srcCtx 2 r.msg.tag r.msg.psn
    else if (s.tctx n).st = 0 then
      sendAck (openCtx s' n kind i (part % 4) r.peer r.msg.srcCtx (field r.msg.data 55 32) (psn % 2 ^ 24)) n
    else s

/-- Take the request at the head of an OPEN context when a test accepts it. -/
def State.popReady (s : State) (n : Nat) (ok : Msg → Bool) : Option (Msg × State) :=
  let c := s.tctx n
  if c.st ≠ 1 then none
  else match c.ready with
    | [] => none
    | m :: rest => if ok m then some (m, s.setTctx n { c with ready := rest }) else none

/-- A context closes: CLOSING until what it has sent is acknowledged, then FREE (R346). -/
def closeCtx (s : State) (n : Nat) : State :=
  let c := s.tctx n
  let s := s.dropUnit (.talel n)
  if c.unacked.isEmpty && c.queue.isEmpty then s.setTctx n {} else s.setTctx n { c with st := 2 }

/-- This module closes an OPEN context, with a REASON and the step from which it is absent (R346, R426). -/
def sendClose (s : State) (n reason step : Nat) : State :=
  let s := sendMsg s n { cls := 6, tc := 3, len := 4, data := 4 + reason * 2 ^ 8 + step * 2 ^ 16 }
  s.setTctx n { s.tctx n with st := 2 }

/-- ACK_DELAY_EXPIRY: ACK_DELAY ticks after the first message not yet acknowledged (R351). -/
def ackDelayExpiry (s : State) (n : Nat) : State :=
  let c := s.tctx n
  match c.st, c.firstAt with
  | 1, some t => if t + field (s.regN talPage 0x104) 31 16 ≤ s.tick then sendAck s n else s
  | _, _ => s

/-- RTO_EXPIRY: the oldest message unacknowledged for RTO is retransmitted or fails its context (R352). -/
def rtoExpiry (s : State) (n : Nat) : State :=
  let c := s.tctx n
  if c.st = 1 ∨ c.st = 2 then
    match c.unacked.find? (fun u => decide (u.since + c.rto ≤ s.tick)) with
    | some u => retransmit s n u.msg.psn (some 3)
    | none => s
  else s

/-- CSTATE_RELEASE: a FAILED context returns to FREE (R346); false when it was not FAILED. -/
def cstateRelease (s : State) (v : Nat) : State × Bool :=
  let n := field (s.regN talPage 0x110) 13 0
  if !bitAt v 27 then (s, true)
  else if (s.tctx n).st = 3 then (s.setTctx n {}, true) else (s, false)

/-- TAL.CSTATE as it reads (R346). -/
def cstateView (s : State) : Nat :=
  let c := s.tctx (field (s.regN talPage 0x110) 13 0)
  c.st * 2 ^ 30 + c.kind * 2 ^ 28 + c.port * 2 ^ 22 + c.part * 2 ^ 20 + c.peerCtx

/-! ### Frames -/

/-- SAK_COMMIT: a write of SAK_SEL with COMMIT installs the staged key, salt and SSCI for an association (R342). -/
def sakCommit (s : State) (i v : Nat) : State :=
  let p := msecPage i
  let s := s.setRegN p 0x108 (v % 8)
  if !bitAt v 31 then s
  else
    let key := ofWords ((List.range 12).map (fun w => s.stage p (0x10C + 4 * w)))
    let q := s.port i
    let a := v % 8
    s.setPort i { q with keys := SMap.set q.keys a key, pns := SMap.set q.pns a 1 }

/-- Every SAK is zeroised (R342). -/
def zeroiseSaks (s : State) : State := { s with net.ports := s.net.ports.map (fun e => (e.1, { e.2 with keys := [] })) }

/-- The MACsec rules of R342: does a frame pass? An untagged frame passes unless REQUIRE is 1, PFC and EAPOL frames then
excepted; a tagged one must use the options of R340, carry a good ICV and a packet number not below the replay window. -/
def macsec (s : State) (i : Nat) (f : EthFrame) : State × Bool :=
  let p := msecPage i
  let en := bitAt (s.regN p 0x010) 0
  match f.sec with
  | none =>
    let exempt := match f.body with | .pfc _ => true | .eapol _ => true | _ => false
    if en && bitAt (s.regN p 0x010) 1 && !exempt then ((s.bump p 4).raise p 2, false) else (s, true)
  | some t =>
    if !en then (s.bump (portPage i) 5, false)
    else
      let q := s.port i
      let a := 4 + t.an % 4
      let next := SMap.getD q.pns 1 a
      if !(t.sci && t.suite && t.confidential) then (s.bump (portPage i) 5, false)
      else if !(t.intact && SMap.get q.keys a == some t.key) then ((s.bump p 2).raise p 0, false)
      else if t.pn + s.regN p 0x104 < next then ((s.bump p 3).raise p 1, false)
      else ((s.setPort i { q with pns := SMap.set q.pns a (max next (t.pn + 1)) }).bump p 1, true)

/-- The link-local address of a port by modified EUI-64 (R340). -/
def linkLocal (i : Nat) : Nat :=
  let mac := Config.portMac i % 2 ^ 48
  0xFE80 * 2 ^ 112 + (field mac 47 24 ^^^ 0x020000) * 2 ^ 40 + 0xFFFE * 2 ^ 24 + field mac 23 0

/-- Is an IP address one of a port's (R340)? -/
def State.portAddr (s : State) (i : Nat) (v6 : Bool) (a : Nat) : Bool :=
  if v6 then
    let g := ofWords ((List.range 4).map (fun w => s.reg (portPage i) (0x110 + 4 * w)))
    a == linkLocal i || (g != 0 && a == g)
  else a != 0 && a == s.regN (portPage i) 0x10C

/-- Bytes in a port's receive buffer. -/
def Port.rxBytes (p : Port) : Nat := p.rx.foldl (fun n r => n + r.size) 0

/-- FRAME_RECEIVE: a frame arrives at a port whose link is up (R340, R342). One for which the 8 MiB receive buffer has no room is lost
(R343). -/
def frameReceive (s : State) (i : Nat) (f : EthFrame) : State :=
  let p := portPage i
  if !s.mayCarry i then s
  else
    let s := s.bump p 0
    let s := s.bumpBy p 2 f.corrected
    let s := if f.uncorrectable = 0 then s else (s.bumpBy p 3 f.uncorrectable).raise p 1
    if !f.fcsOk then s.bump p 4
    else if 9216 < f.size then (s.bump p 5).raise p 2
    else if 1 < f.tags then s.bump p 5
    else
      let (s, ok) := macsec s i f
      if !ok then s
      else match f.body with
        | .udp v6 src dst options udpPort badSum ecn m =>
          if options || ecn == 1 || !s.portAddr i v6 dst || udpPort != s.regN talPage 0x11C % 2 ^ 16 then s.bump p 5
          else if badSum then s
          else
            let q := s.port i
            let prio := if f.tags = 0 then 0 else f.prio % 8
            if 8388608 < q.rxBytes + f.size then s
            else s.setPort i { q with rx := q.rx ++ [⟨src, ecn == 3, prio, f.size, m⟩] }
        | .helper k =>
          if 3 < k then s.bump p 5
          else frameOut s i (.reply i k)
        | .eapol d => { s with net.wire := .eapol i d :: s.net.wire }
        | .pfc cs =>
          let q := s.port i
          (s.setPort i { q with pfcIn := q.pfcIn ++ cs }).bump p 6
        | .other => s.bump p 5

/-- PFC_PAUSE: the next received change pauses or resumes a priority (R343). -/
def pfcPause (s : State) (i : Nat) : State :=
  let q := s.port i
  match q.pfcIn with
  | [] => s
  | (k, on) :: rest =>
    let s := s.setPort i { q with pfcIn := rest }
    if k < 8 ∧ bitAt (s.regN (portPage i) 0x100) (8 + k) then flushPort (s.setField (portPage i) 0x014 (8 + k) 1 (b2n on)) i
    else s

/-- PFC_SEND: the receive buffer's data of a priority crosses XOFF or XON (R343). -/
def pfcSend (s : State) (i k : Nat) : State :=
  let q := s.port i
  let held := (q.rx.filter (fun r => decide (r.prio = k))).foldl (fun n r => n + r.size) 0
  let x := s.regN (portPage i) 0x124
  let send (pause : Bool) : State :=
    let s := (s.setPort i { q with pausing := if pause then NSet.insert q.pausing k else NSet.erase q.pausing k }).bump (portPage i) 7
    frameOut s i (.pfc i k pause)
  if !bitAt (s.regN (portPage i) 0x100) (8 + k) || !s.mayCarry i then s
  else if !q.pausing.contains k && decide (1024 * field x 15 0 < held) then send true
  else if q.pausing.contains k && decide (held < 1024 * field x 31 16) then send false
  else s

/-- LINK_CHANGE: a port's link comes up or goes down (R341): an enabled port comes up with its lanes aligned, and sends what
waits. -/
def linkChange (s : State) (i : Nat) (up : Bool) : State :=
  let p := portPage i
  if up == s.linkUp i || (up && !bitAt (s.regN p 0x100) 31) then s
  else
    let s := s.setField p 0x014 0 7 (if up then 0x7F else 0)
    let s := if up then s else s.setField p 0x014 8 8 0
    let s := s.raise p 0
    if up then flushPort s i else s

end Sys2Proof.Machine
end

