-- ==== Sys2Proof/Machine/Approx.lean ====
section
/-! DEFINITION. The functions of R158 and R174 whose results are not exact: powers of two and of e, the base-2 logarithm,
the reciprocal and the inverse square root, computed in fixed point with 192 fraction bits, and the results that the
spec's accuracy permits. -/

namespace Sys2Proof.Machine

/-- Fraction bits of the fixed-point values here. -/
def fixBits : Nat := 192

/-- 1 in fixed point. -/
def fixOne : Nat := 2 ^ fixBits

/-- The natural logarithm of 2 in fixed point, to the nearest. -/
def ln2Fix : Nat := 0xb17217f7d1cf79abc9e3b39803f2f6af40f343267298b62e

/-- Terms `n` and on of the series of e^r, `term` being term `n - 1`. -/
def expTerms (r : Nat) : Nat → Nat → Nat → Nat
  | 0, _, _ => 0
  | fuel + 1, n, term =>
    let t := term * r / (n * fixOne)
    t + expTerms r fuel (n + 1) t

/-- e^r for a fixed-point `r` from 0 to ln 2: 48 terms leave an error below 2^-180. -/
def expFix (r : Nat) : Nat := fixOne + expTerms r 48 1 fixOne

/-- Odd powers of `z` over their exponents, from exponent `n` on: `power` is z^n. -/
def atanhTerms (zz : Nat) : Nat → Nat → Nat → Nat
  | 0, _, _ => 0
  | fuel + 1, n, power => power / n + atanhTerms zz fuel (n + 2) (power * zz / fixOne)

/-- ln of a fixed-point number from 1 up to 2, as 2·atanh of (m - 1)/(m + 1), which is at most 1/3. -/
def lnFix (m : Nat) : Nat :=
  let z := (m - fixOne) * fixOne / (m + fixOne)
  2 * atanhTerms (z * z / fixOne) 64 1 z

/-- A finite operand in fixed point, its magnitude bounded by 1,024: beyond that every power here over- or underflows. Exact
for every operand in bounds, since each is a multiple of 2^-149. -/
def fixOf (neg : Bool) (m : Nat) (e : Int) : Int :=
  let v := if (lead m : Int) + e < 10 then m * 2 ^ (e + fixBits).toNat else 1024 * fixOne
  if neg then -(v : Int) else v

/-- 2^x as a significand and an exponent. -/
def exp2Exact (neg : Bool) (m : Nat) (e : Int) : Nat × Int :=
  let x := fixOf neg m e
  (expFix ((x % fixOne).toNat * ln2Fix / fixOne), x / fixOne - fixBits)

/-- e^x as a significand and an exponent. -/
def expExact (neg : Bool) (m : Nat) (e : Int) : Nat × Int :=
  let x := fixOf neg m e
  (expFix (x % ln2Fix).toNat, x / ln2Fix - fixBits)

/-- log2 of a positive number as a sign, a significand and an exponent. -/
def log2Exact (m : Nat) (e : Int) : Bool × Nat × Int :=
  let k := lead m
  let frac := lnFix (m * 2 ^ (fixBits - k)) * fixOne / ln2Fix
  let v := ((k : Int) + e) * fixOne + frac
  (decide (v < 0), v.natAbs, -(fixBits : Int))

/-- Exponent of one ulp of a format at `m * 2 ^ e`: the spacing of its values there. -/
def ulpAt (f : Fmt) (m : Nat) (e : Int) : Int :=
  if m = 0 then f.qmin else max ((lead m : Int) + e - f.w) f.qmin

/-- Is an FP32 result within `n` ulp of `m * 2 ^ e` with a sign? An infinity stands for 2^128, the value after the largest
finite one, and a result has the sign of the exact value. -/
def withinUlp (n : Nat) (neg : Bool) (m : Nat) (e : Int) (bits : Nat) : Bool :=
  let near (sg : Bool) (cm : Nat) (ce : Int) : Bool :=
    let u := ulpAt fp32 m e
    let base := min (min ce e) u
    decide ((alignTo sg cm ce base - alignTo neg m e base).natAbs ≤ n * 2 ^ (u - base).toNat) && (m = 0 || sg == neg)
  match decodeFp fp32 bits with
  | .nan => false
  | .inf sg => near sg 1 128
  | .fin sg cm ce => near sg cm ce

/-- The result of a function whose exact value is `m * 2 ^ e`, inexact below when `sticky`: in BF16 the exact value rounded once
to nearest; in FP32 the implementation's own result, which is within `n` ulp; an infinity from 2^128 on (R156, R158). A free
value outside the bound stands for the nearest result. -/
def approxResult (ty n : Nat) (neg : Bool) (m : Nat) (e : Int) (sticky : Bool) (own : BitVec 32) : Nat :=
  let f := if ty = 1 then bf16 else fp32
  if ty = 1 then encIeee f .nearest neg (2 * m + b2n sticky) (e - 1)
  else if m != 0 && decide (128 ≤ (lead m : Int) + e) then f.sign neg + f.infCode
  else if withinUlp n neg m e own.toNat then own.toNat
  else encIeee f .nearest neg (2 * m + b2n sticky) (e - 1)

end Sys2Proof.Machine
end

