-- ==== Sys2Proof/Machine/Vector.lean ====
section
/-! DEFINITION. What the vector unit's operations compute (R153-R163): lanes, masks, one result per operation. -/

namespace Sys2Proof.Machine

/-- Lane width in bits of a TYPE (R153). -/
def laneBits (ty : Nat) : Nat := if ty = 1 then 16 else if ty = 2 then 8 else 32

/-- The floating-point format of a TYPE. -/
def typeFmt (ty : Nat) : Fmt := if ty = 1 then bf16 else fp32

/-- Is a TYPE an integer type? -/
def isInt (ty : Nat) : Bool := 1 < ty

/-- VEC.EXC bits (R162). -/
abbrev excInvalid : Nat := 1
/-- VEC.EXC.OVERFLOW. -/
abbrev excOverflow : Nat := 2
/-- VEC.EXC.DIV_ZERO. -/
abbrev excDivZero : Nat := 4
/-- VEC.EXC.SATURATE. -/
abbrev excSaturate : Nat := 8

/-- The result of a vector operation: the value, the bits that it writes, the conditions it raises. -/
structure VRes where
  val : Nat
  keep : Nat
  cond : Nat
  deriving DecidableEq, Repr

/-- Lane `n` of a register of `w`-bit lanes (R153). -/
def laneOf (v : Nat) (w n : Nat) : Nat := (v / 2 ^ (w * n)) % 2 ^ w

/-- Run an operation on lanes 0 to `n - 1`, writing those whose mask bit is 1 (R154, R125). -/
def runLanes (w mask : Nat) (f : Nat → Nat × Nat) : Nat → VRes
  | 0 => ⟨0, 0, 0⟩
  | n + 1 =>
    let r := runLanes w mask f n
    if bitAt mask n then
      let x := f n
      ⟨r.val + (x.1 % 2 ^ w) * 2 ^ (w * n), r.keep + ones (w * n) w, r.cond ||| x.2⟩
    else r

/-- Conditions of a floating-point result from its operands (R162). -/
def fpConds (f : Fmt) (ops : List Nat) (res : Nat) : Nat :=
  let xs := ops.map (decodeFp f)
  match decodeFp f res with
  | .nan => if xs.any Fp.isNan then 0 else excInvalid
  | .inf _ => if xs.all Fp.isFin then excOverflow else 0
  | .fin _ _ _ => 0

/-- A two-operand lane function with its conditions: floating point by `ff`, integers by `fi` modulo the lane width. -/
def lane2 (ty : Nat) (ff : Fmt → Nat → Nat → Nat) (fi : Int → Int → Int) (a b : Nat) : Nat × Nat :=
  if isInt ty then (wrapTo (laneBits ty) (fi (signedOf (laneBits ty) a) (signedOf (laneBits ty) b)), 0)
  else
    let r := ff (typeFmt ty) a b
    (r, fpConds (typeFmt ty) [a, b] r)

/-- VADD (R156, R157). -/
def vecAdd (ty mask a b : Nat) : VRes :=
  runLanes (laneBits ty) mask
    (fun n => lane2 ty fAdd (· + ·) (laneOf a (laneBits ty) n) (laneOf b (laneBits ty) n)) (lanesOf ty)

/-- VSUB (R156, R157). -/
def vecSub (ty mask a b : Nat) : VRes :=
  runLanes (laneBits ty) mask
    (fun n => lane2 ty fSub (· - ·) (laneOf a (laneBits ty) n) (laneOf b (laneBits ty) n)) (lanesOf ty)

/-- VMUL (R156, R157). -/
def vecMul (ty mask a b : Nat) : VRes :=
  runLanes (laneBits ty) mask
    (fun n => lane2 ty fMul (· * ·) (laneOf a (laneBits ty) n) (laneOf b (laneBits ty) n)) (lanesOf ty)

/-- VFMA: VA·VB + VC, fused on floating-point lanes (R156, R157). -/
def vecFma (ty mask a b c : Nat) : VRes :=
  let w := laneBits ty
  runLanes w mask (fun n =>
    let x := laneOf a w n
    let y := laneOf b w n
    let z := laneOf c w n
    if isInt ty then (wrapTo w (signedOf w x * signedOf w y + signedOf w z), 0)
    else
      let r := fFma (typeFmt ty) x y z
      (r, fpConds (typeFmt ty) [x, y, z] r)) (lanesOf ty)

/-- Integer square root of a number below `2 ^ (2 * fuel)`, bit by bit. -/
def isqrtFrom (n : Nat) : Nat → Nat → Nat
  | 0, r => r
  | k + 1, r => let r' := r + 2 ^ k; isqrtFrom n k (if r' * r' ≤ n then r' else r)

/-- VRCP of one lane, with its conditions (R158, R162). -/
def rcpLane (ty x : Nat) : Nat × Nat :=
  let f := typeFmt ty
  match decodeFp f x with
  | .nan => (f.nanCode, 0)
  | .inf n => (f.sign n, 0)
  | .fin n 0 _ => (f.sign n + f.infCode, excDivZero)
  | .fin n m e =>
    let k := lead m + fixBits
    let r := approxResult ty 1 n (2 ^ k / m) (-e - k) (2 ^ k % m != 0) (Config.rcpFp32 (BitVec.ofNat 32 x))
    (r, fpConds f [x] r)

/-- VRSQ of one lane, with its conditions (R158, R162). -/
def rsqLane (ty x : Nat) : Nat × Nat :=
  let f := typeFmt ty
  match decodeFp f x with
  | .nan => (f.nanCode, 0)
  | .inf true => (f.nanCode, excInvalid)
  | .inf false => (0, 0)
  | .fin n 0 _ => (f.sign n + f.infCode, excDivZero)
  | .fin true _ _ => (f.nanCode, excInvalid)
  | .fin false m e =>
    let m' := if e % 2 = 0 then m else 2 * m
    let e' := if e % 2 = 0 then e else e - 1
    let k := lead m' / 2 + fixBits
    let q := isqrtFrom (2 ^ (2 * k) / m') (k + 1) 0
    let r := approxResult ty 1 false q (-(e' / 2) - k) (q * q * m' != 2 ^ (2 * k)) (Config.rsqFp32 (BitVec.ofNat 32 x))
    (r, fpConds f [x] r)

/-- VEXP2 of one lane, with its conditions (R158, R162). -/
def exp2Lane (ty x : Nat) : Nat × Nat :=
  let f := typeFmt ty
  match decodeFp f x with
  | .nan => (f.nanCode, 0)
  | .inf true => (0, 0)
  | .inf false => (f.infCode, 0)
  | .fin _ 0 _ => ((f.bias) * 2 ^ f.w, 0)
  | .fin n m e =>
    let v := exp2Exact n m e
    let r := approxResult ty 2 false v.1 v.2 false (Config.exp2Fp32 (BitVec.ofNat 32 x))
    (r, fpConds f [x] r)

/-- VLOG2 of one lane, with its conditions (R158, R162). -/
def log2Lane (ty x : Nat) : Nat × Nat :=
  let f := typeFmt ty
  match decodeFp f x with
  | .nan => (f.nanCode, 0)
  | .inf true => (f.nanCode, excInvalid)
  | .inf false => (f.infCode, 0)
  | .fin _ 0 _ => (f.sign true + f.infCode, excDivZero)
  | .fin true _ _ => (f.nanCode, excInvalid)
  | .fin false m e =>
    let v := log2Exact m e
    let r := approxResult ty 2 v.1 v.2.1 v.2.2 false (Config.log2Fp32 (BitVec.ofNat 32 x))
    (r, fpConds f [x] r)

/-- A one-operand operation on all lanes. -/
def vecUnary (g : Nat → Nat → Nat × Nat) (ty mask a : Nat) : VRes :=
  runLanes (laneBits ty) mask (fun n => g ty (laneOf a (laneBits ty) n)) (lanesOf ty)

/-- VRCP. -/
def vecRcp : Nat → Nat → Nat → VRes := vecUnary rcpLane
/-- VRSQ. -/
def vecRsq : Nat → Nat → Nat → VRes := vecUnary rsqLane
/-- VEXP2. -/
def vecExp2 : Nat → Nat → Nat → VRes := vecUnary exp2Lane
/-- VLOG2. -/
def vecLog2 : Nat → Nat → Nat → VRes := vecUnary log2Lane

/-- Saturate an integer to `w` bits, with the SATURATE condition. -/
def satInt (w : Nat) (i : Int) : Nat × Nat :=
  let hi : Int := (2 ^ (w - 1) : Nat) - 1
  let lo : Int := -(2 ^ (w - 1) : Nat)
  if hi < i then (wrapTo w hi, excSaturate) else if i < lo then (wrapTo w lo, excSaturate) else (wrapTo w i, 0)

/-- Convert one element from a TYPE to a TYPE (R160). -/
def convLane (src dst : Nat) (r : Rnd) (x : Nat) : Nat × Nat :=
  if src = dst then (x, 0)
  else if isInt src then
    let i := signedOf (laneBits src) x
    if isInt dst then satInt (laneBits dst) i
    else (encIeee (typeFmt dst) r (decide (i < 0)) i.natAbs 0, 0)
  else
    let v := decodeFp (typeFmt src) x
    if isInt dst then
      match v with
      | .nan => (0, 0)
      | .inf n => (wrapTo (laneBits dst) (if n then -(2 ^ (laneBits dst - 1) : Nat) else ((2 ^ (laneBits dst - 1) : Nat) - 1)), excSaturate)
      | .fin _ _ _ => satInt (laneBits dst) (v.toInt r)
    else
      match v with
      | .nan => ((typeFmt dst).nanCode, 0)
      | .inf n => ((typeFmt dst).sign n + (typeFmt dst).infCode, 0)
      | .fin n m e =>
        let c := encIeee (typeFmt dst) r n m e
        (c, if (decodeFp (typeFmt dst) c).isFin then 0 else excOverflow)

/-- VCVT: the lane mapping of R160 and the mask over destination lanes. -/
def vecCvt (src dst part : Nat) (r : Rnd) (mask a : Nat) : VRes :=
  let ls := lanesOf src
  let ld := lanesOf dst
  let sub := if ls < ld then mask / 2 ^ (part * ls) else mask
  let res := runLanes (laneBits dst) sub (fun n =>
    convLane src dst r (laneOf a (laneBits src) (if ld < ls then part * ld + n else n))) (min ls ld)
  if ls < ld then ⟨res.val * 2 ^ (laneBits dst * part * ls), res.keep * 2 ^ (laneBits dst * part * ls), res.cond⟩
  else res

/-- One level of the fixed summation tree of R161. -/
def pairSums (g : Nat → Nat → Nat) : List Nat → List Nat
  | a :: b :: r => g a b :: pairSums g r
  | l => l

/-- The fixed pairwise tree over a power of two of elements (R161, R174). -/
def treeSum (g : Nat → Nat → Nat) : Nat → List Nat → Nat
  | 0, l => l.headD 0
  | k + 1, l => treeSum g k (pairSums g l)

/-- VRSUM (R161): lane 0 takes the sum, every other lane 0, masked lanes are not written. -/
def vecRsum (ty mask a : Nat) : VRes :=
  let xs := (List.range 512).map (laneOf a 32)
  let s := if isInt ty then treeSum (fun x y => (x + y) % 2 ^ 32) 9 xs else treeSum (fAdd fp32) 9 xs
  let cond := if isInt ty || !bitAt mask 0 then 0 else fpConds fp32 xs s
  let r := runLanes 32 mask (fun n => (if n = 0 then s else 0, 0)) 512
  ⟨r.val, r.keep, cond⟩

/-- VMAX (R157, R159). -/
def vecMax (ty mask a b : Nat) : VRes :=
  runLanes (laneBits ty) mask
    (fun n => lane2 ty fMax max (laneOf a (laneBits ty) n) (laneOf b (laneBits ty) n)) (lanesOf ty)

/-- VMIN (R157, R159). -/
def vecMin (ty mask a b : Nat) : VRes :=
  runLanes (laneBits ty) mask
    (fun n => lane2 ty fMin min (laneOf a (laneBits ty) n) (laneOf b (laneBits ty) n)) (lanesOf ty)

/-- VABS: clears the sign bit of a floating-point lane, every other bit kept (R156); wraps on integers (R157). -/
def vecAbs (ty mask a : Nat) : VRes :=
  let w := laneBits ty
  runLanes w mask (fun n =>
    let x := laneOf a w n
    (if isInt ty then wrapTo w ((signedOf w x).natAbs : Int) else x % 2 ^ (w - 1), 0)) (lanesOf ty)

/-- VNEG: inverts the sign bit of a floating-point lane (R156); wraps on integers (R157). -/
def vecNeg (ty mask a : Nat) : VRes :=
  let w := laneBits ty
  runLanes w mask (fun n =>
    let x := laneOf a w n
    (if isInt ty then wrapTo w (-(signedOf w x)) else (x + 2 ^ (w - 1)) % 2 ^ w, 0)) (lanesOf ty)

/-- A comparison of two elements: COND EQ, NE, LT, LE, GT, GE as 0 to 5 (R159). -/
def cmpLane (ty cond a b : Nat) : Bool :=
  let w := laneBits ty
  let x := decodeFp (typeFmt ty) a
  let y := decodeFp (typeFmt ty) b
  let lt := if isInt ty then decide (signedOf w a < signedOf w b) else fpLt x y
  let gt := if isInt ty then decide (signedOf w b < signedOf w a) else fpLt y x
  let eq := if isInt ty then decide (signedOf w a = signedOf w b) else fpEq x y
  match cond with
  | 0 => eq
  | 1 => !eq
  | 2 => lt
  | 3 => lt || eq
  | 4 => gt
  | _ => gt || eq

/-- VCMP: bits of the mask register written; bits at or above the lane count are cleared (R159). -/
def vecCmp (ty cond mask a b : Nat) : VRes :=
  let w := laneBits ty
  let l := lanesOf ty
  let r := runLanes 1 mask (fun n => (b2n (cmpLane ty cond (laneOf a w n) (laneOf b w n)), 0)) l
  ⟨r.val, r.keep + ones l (2048 - l), 0⟩

/-- VSEL: every lane written, from VA where the mask bit is 1 and from VB elsewhere (R159). -/
def vecSel (ty mask a b : Nat) : VRes :=
  let w := laneBits ty
  runLanes w (ones 0 2048) (fun n => (if bitAt mask n then laneOf a w n else laneOf b w n, 0)) (lanesOf ty)

/-- VMOV: copies bits (R156). -/
def vecMov (ty mask a : Nat) : VRes :=
  runLanes (laneBits ty) mask (fun n => (laneOf a (laneBits ty) n, 0)) (lanesOf ty)

/-- VBCST: every lane takes the low lane-width bits of IMM (chapter 5's opcode table). -/
def vecBcst (ty mask imm : Nat) : VRes :=
  runLanes (laneBits ty) mask (fun _ => (imm % 2 ^ laneBits ty, 0)) (lanesOf ty)

/-! ### Scalar ALU (R165) -/

/-- The result of an SA0 or SA1 operation that writes an S register. -/
def scalarAlu (op : OpName) (a b : Word64) (imm : Nat) : Word64 :=
  match op with
  | .sadd => a + b
  | .ssub => a - b
  | .sand => a &&& b
  | .sor => a ||| b
  | .sxor => a ^^^ b
  | .sshl => a <<< (b.toNat % 64)
  | .sshr => a >>> (b.toNat % 64)
  | .ssra => a.sshiftRight (b.toNat % 64)
  | .smovi => (BitVec.ofNat 32 imm).signExtend 64
  | .saddi => a + (BitVec.ofNat 32 imm).signExtend 64
  | .scmplt => if a.slt b then 1 else 0
  | .scmpeq => if a = b then 1 else 0
  | .smul => a * b
  | .sdivu => if b = 0 then BitVec.allOnes 64 else a / b
  | _ => 0

end Sys2Proof.Machine
end

