-- ==== Sys2Proof/Machine/Row.lean ====
section
/-! DEFINITION. The row engine: kicks, descriptors, row operations and the side memory (R167-R185). -/

namespace Sys2Proof.Machine

/-- A cluster's row engine. -/
def State.row (s : State) (c : Nat) : RowEngine := SMap.getD s.rowEngines {} c

/-- Put a cluster's row engine. -/
def State.setRow (s : State) (c : Nat) (v : RowEngine) : State := { s with rowEngines := SMap.set s.rowEngines c v }

/-- The ROW page of a cluster. -/
def rowPage (c : Nat) : Page := ⟨.row, c⟩

/-! ### Descriptors (R170) -/

/-- OP of a descriptor. -/
def rOp (d : Nat) : Nat := field d 7 0
/-- IN_FMT of a descriptor. -/
def rInFmt (d : Nat) : Nat := field d 11 8
/-- OUT_FMT of a descriptor. -/
def rOutFmt (d : Nat) : Nat := field d 15 12
/-- AFFINE of a descriptor. -/
def rAffine (d : Nat) : Bool := bitAt d 17
/-- CAUSAL of a descriptor. -/
def rCausal (d : Nat) : Bool := bitAt d 18
/-- STAT_LOC of a descriptor. -/
def rStatLoc (d : Nat) : Nat := field d 19 19
/-- Row length N of a descriptor. -/
def rN (d : Nat) : Nat := field d 78 64 + 1
/-- CG_BASE of a descriptor. -/
def rCgBase (d : Nat) : Nat := field d 242 224
/-- STAT_BASE of a descriptor: a side-memory word or a device byte address. -/
def rStatBase (d : Nat) : Nat := if rStatLoc d = 0 then field d 274 256 else field d 303 256
/-- PARAM_BASE of a descriptor. -/
def rParamBase (d : Nat) : Nat := field d 687 640

/-- The fields of a descriptor, as first bit and width; every other bit is reserved. -/
def rowFields : List (Nat × Nat) :=
  [(0, 8), (8, 8), (16, 4), (24, 5), (32, 8), (40, 8), (48, 16), (64, 15), (96, 32), (128, 32), (160, 32), (192, 32),
    (224, 19), (256, 48), (320, 33), (384, 32), (416, 32), (448, 33), (512, 33), (576, 32), (640, 48)]

/-- A descriptor with its fields cleared: its reserved bits. -/
def rowReserved (d : Nat) : Nat := rowFields.foldl (fun d f => putField d f.1 f.2 0) d

/-- The reason code of the first check that a kick fails, 0 for none (R171). -/
def rowReason (d row0 count : Nat) : Nat :=
  let op := rOp d
  if !([1, 2, 3, 0x11, 0x12, 0x13, 0x20].contains op) then 1
  else if 1 < rInFmt d ∨ !([0, 1, 3, 4].contains (rOutFmt d)) ∨ field d 26 24 = 7 then 2
  else if rowReserved d ≠ 0 then 3
  else if rStatLoc d = 0 ∧ 524288 < rStatBase d + row0 + count then 4
  else if rAffine d ∧ 0x10 ≤ op ∧ 524288 < rCgBase d + 2 * rN d then 5
  else if (rStatLoc d = 1 ∧ rStatBase d % 8 ≠ 0) ∨ rParamBase d % 64 ≠ 0 then 6
  else if rCausal d ∧ field d 191 160 = 0 then 7
  else 0

/-! ### Arithmetic (R174) -/

/-- FP32 infinity. -/
abbrev pInf32 : Nat := 0x7F800000
/-- FP32 negative infinity. -/
abbrev nInf32 : Nat := 0xFF800000
/-- The canonical FP32 NaN. -/
abbrev nan32 : Nat := 0x7FC00000

/-- Is an FP32 value finite? -/
def finite32 (x : Nat) : Bool := (x / 2 ^ 23) % 256 != 255

/-- Is an FP32 value a NaN? -/
def isNan32 (x : Nat) : Bool := decide (0x7F800000 < x % 2 ^ 31)

/-- Add neighbours: one level of the tree. -/
def addPairs : List Nat → List Nat
  | a :: b :: r => fAdd fp32 a b :: addPairs r
  | r => r

/-- Sum of one chunk of at most 64 values, absent ones +0. -/
def sumChunk (v : List Nat) : Nat :=
  let w := v ++ List.replicate (64 - v.length) 0
  (addPairs (addPairs (addPairs (addPairs (addPairs (addPairs w)))))).headD 0

/-- `sum` of R174. -/
def sum32 (v : List Nat) : Nat :=
  (chunks 64 ((v.length + 63) / 64) v).foldl (fun acc w => fAdd fp32 acc (sumChunk w)) 0

/-- The FP32 value nearest to 1/N. -/
def invN (n : Nat) : Nat :=
  let k := 23 + (if 2 ^ lead n = n then lead n else lead n + 1)
  encIeee fp32 .nearest false (rneDiv (2 ^ k) n) (-(k : Int))

/-- exp of the row engine, within 2 ulp of e^x: exp(-∞) is +0, a NaN stays one (R174). -/
def expRow32 (x : Nat) : Nat :=
  match decodeFp fp32 x with
  | .nan => nan32
  | .inf true => 0
  | .inf false => pInf32
  | .fin n m e =>
    let v := expExact n m e
    approxResult 0 2 false v.1 v.2 false (Config.expRow (BitVec.ofNat 32 x))

/-- rcp of R174. -/
def rcp32 (x : Nat) : Nat := (rcpLane 0 x).1
/-- rsqrt of R174. -/
def rsq32 (x : Nat) : Nat := (rsqLane 0 x).1
/-- FP32 product. -/
def mul32 (a b : Nat) : Nat := fMul fp32 a b
/-- FP32 sum. -/
def add32 (a b : Nat) : Nat := fAdd fp32 a b
/-- FP32 difference. -/
def sub32 (a b : Nat) : Nat := fSub fp32 a b

/-- Multiply and add γ and β where a kick is affine. -/
def affine (h g b : List Nat) : List Nat :=
  (h.zip (g.zip b)).map (fun e => add32 (mul32 e.1 e.2.1) e.2.2)

/-- Element-wise product. -/
def mulL (a b : List Nat) : List Nat := (a.zip b).map (fun e => mul32 e.1 e.2)

/-- What a row's operation gives (R173-R177): outputs, record to write, column terms by word offset (none for a non-finite
term), whether the row counts as non-finite. -/
structure RowOut where
  out : List Nat
  record : Option (Nat × Nat) := none
  terms : List (Nat × Option Nat) := []
  nonfinite : Bool := false
  deriving DecidableEq, Repr

/-- Is element `j` of row `r` masked (R173)? -/
def rowMasked (d r j : Nat) : Bool :=
  rCausal d && decide (((r % max (field d 191 160) 1 : Nat) : Int) + signedOf 32 (field d 223 192) < (j : Int))

/-- LN_FWD. -/
def lnFwd (d : Nat) (x g b : List Nat) : RowOut :=
  let n := rN d
  if x.any (fun v => !finite32 v) then ⟨x.map (fun _ => nan32), some (nan32, nan32), [], true⟩
  else
    let mu := mul32 (sum32 x) (invN n)
    let dv := x.map (fun v => sub32 v mu)
    let r := rsq32 (add32 (mul32 (sum32 (dv.map (fun v => mul32 v v))) (invN n)) (field d 127 96))
    let h := dv.map (fun v => mul32 v r)
    ⟨if rAffine d then affine h g b else h, some (mu, r), [], false⟩

/-- RMS_FWD. -/
def rmsFwd (d : Nat) (x g : List Nat) : RowOut :=
  let n := rN d
  if x.any (fun v => !finite32 v) then ⟨x.map (fun _ => nan32), some (nan32, nan32), [], true⟩
  else
    let r := rsq32 (add32 (mul32 (sum32 (x.map (fun v => mul32 v v))) (invN n)) (field d 127 96))
    let h := x.map (fun v => mul32 v r)
    ⟨if rAffine d then mulL h g else h, some (0, r), [], false⟩

/-- z of the SMAX operations. -/
def smaxZ (d r : Nat) (x : List Nat) : List Nat :=
  x.zipIdx.map (fun e => if rowMasked d r e.2 then nInf32 else mul32 (field d 159 128) e.1)

/-- SMAX_FWD. -/
def smaxFwd (d r : Nat) (x : List Nat) : RowOut :=
  let z := smaxZ d r x
  if z.any (fun v => isNan32 v || v == pInf32) then ⟨x.map (fun _ => nan32), some (nan32, nan32), [], true⟩
  else if z.all (fun v => v == nInf32) then ⟨x.map (fun _ => 0), some (nInf32, 0), [], true⟩
  else
    let m := z.foldl (fMax fp32) nInf32
    let e := z.map (fun v => expRow32 (sub32 v m))
    let s := sum32 e
    ⟨e.map (fun v => mul32 v (rcp32 s)), some (m, s), [], false⟩

/-- A column term, none when it is not finite. -/
def colTerm (off t : Nat) : Nat × Option Nat := (off, if finite32 t then some t else none)

/-- LN_BWD and RMS_BWD: `ln` tells which, the record gives (μ, r) or r. -/
def normBwd (ln : Bool) (d : Nat) (x dy g : List Nat) (rec1 rec2 : Nat) : RowOut :=
  let n := rN d
  let cg := rAffine d
  if x.any (fun v => !finite32 v) || dy.any (fun v => !finite32 v) || isNan32 rec2 || isNan32 rec1 then
    ⟨x.map (fun _ => nan32), none,
      if cg then (List.range (if ln then 2 * n else n)).map (fun j => (j, none)) else [], true⟩
  else
    let h := x.map (fun v => mul32 (if ln then sub32 v rec1 else v) rec2)
    let gj := if cg then mulL dy g else dy
    let a := mul32 (sum32 gj) (invN n)
    let b := mul32 (sum32 (mulL gj h)) (invN n)
    let dx := (gj.zip h).map (fun e =>
      mul32 rec2 (sub32 (if ln then sub32 e.1 a else e.1) (mul32 e.2 b)))
    let terms := (mulL dy h).zipIdx.map (fun e => colTerm e.2 e.1) ++
      (if ln then dy.zipIdx.map (fun e => colTerm (n + e.2) e.1) else [])
    ⟨dx, none, if cg then terms else [], false⟩

/-- SMAX_BWD. -/
def smaxBwd (d r : Nat) (x dy : List Nat) (m s : Nat) : RowOut :=
  if x.any (fun v => !finite32 v) || dy.any (fun v => !finite32 v) || isNan32 m || isNan32 s then
    ⟨x.map (fun _ => nan32), none, [], true⟩
  else if s = 0 then ⟨x.map (fun _ => 0), none, [], true⟩
  else
    let y := (smaxZ d r x).map (fun v => mul32 (expRow32 (sub32 v m)) (rcp32 s))
    let t := (dy.zip y).zipIdx.map (fun e => if rowMasked d r e.2 then 0 else mul32 e.1.1 e.1.2)
    let S := sum32 t
    let dx := (dy.zip y).zipIdx.map (fun e =>
      if rowMasked d r e.2 then 0 else mul32 (field d 159 128) (mul32 e.1.2 (sub32 e.1.1 S)))
    ⟨dx, none, [], false⟩

/-! ### Column gradients (R176) -/

/-- The word that a non-finite column term leaves. -/
abbrev cgMark : Nat := 2 ^ 63

/-- Add a column term to a side-memory word. -/
def addColumn (cgExp w : Nat) (t : Option Nat) : Nat :=
  if w = cgMark then w
  else match t with
    | none => cgMark
    | some v =>
      let f := match decodeFp fp32 v with
        | .fin neg m e => Fp.toInt .nearest (.fin neg m (e - signedOf 8 cgExp))
        | _ => 0
      wrapTo 64 ((w : Int) + f)

/-- A column word as FP32, and whether it overflowed (R176). -/
def flushWord (cgExp w : Nat) : Nat × Bool :=
  if w = cgMark then (nan32, false)
  else
    let v := signedOf 64 w
    encSat fp32 (decide (v < 0)) v.natAbs (signedOf 8 cgExp)

/-! ### Reading and writing rows -/

/-- The partition that a cluster's units act for. -/
def State.unitPart (s : State) (c : Nat) : Option Nat := some (s.clusterPart c)

/-- Bits and poison that a unit takes from a read (an error or poison answer gives free data, R178). -/
def ansBits (a n : Nat) : LoadAns → Nat × Bool
  | .data v => (v, false)
  | .poison => (Config.errData a n % 256 ^ n, true)
  | .error => (Config.errData a n % 256 ^ n, true)
  | .denied => (Config.errData a n % 256 ^ n, true)

/-- A unit's read, none while it stands at its agent: the state after it, the bits, poison. -/
def takeRead (s : State) (key : UnitKey) (part : Option Nat) (a n : Nat) : Option (State × Nat × Bool) :=
  match unitRead s key part a n with
  | (_, none) => none
  | (s', some x) => some (s', ansBits a n x)

/-- Device address of a tile row of a grid (R172). -/
def gridAddr (base band row col : Nat) : Nat :=
  ((base + (row / 256) * band + col) % 2 ^ 33) * 0x8000 + (row % 256) * 128

/-- `n` elements of a tile row, widened to FP32. -/
def unpackElems (fmt v : Nat) : Nat → List Nat
  | 0 => []
  | n + 1 => if fmt = 0 then v % 2 ^ 32 :: unpackElems fmt (v / 2 ^ 32) n else (v % 2 ^ 16) * 2 ^ 16 :: unpackElems fmt (v / 2 ^ 16) n

/-- Read the tile rows of one row of a grid: `k` tile rows from column tile `col` on. -/
def readGrid (s : State) (c : Nat) (fmt base band row col : Nat) : Nat → Option (State × List Nat × Bool)
  | 0 => some (s, [], false)
  | k + 1 =>
    match takeRead s (.row c) (s.unitPart c) (gridAddr base band row col) 128 with
    | none => none
    | some (s, v, bad) =>
      match readGrid s c fmt base band row (col + 1) k with
      | none => none
      | some (s, r, bad') => some (s, unpackElems fmt v (if fmt = 0 then 32 else 64) ++ r, bad || bad')

/-- Tile rows that an input row takes. -/
def inTiles (d : Nat) : Nat :=
  let per := if rInFmt d = 0 then 32 else 64
  (rN d + per - 1) / per

/-- One row of a grid: its first N elements. -/
def readRow (s : State) (c : Nat) (d base band row : Nat) : Option (State × List Nat × Bool) :=
  match readGrid s c (rInFmt d) base band row 0 (inTiles d) with
  | none => none
  | some (s, v, bad) => some (s, v.take (rN d), bad)

/-- A row engine's write, with a poison mark (R178). -/
def rowPut (s : State) (c : Nat) (a n v : Nat) (bad : Bool) : State := (unitWrite s (.row c) (s.unitPart c) a n v bad).1

/-- The scale bytes of a converted row: a block that a NaN reaches has 0xFF (R177); its elements stay as R72 converts them
(DESIGN CHOICE, log entry 82). -/
def rowScales (fmt : Nat) (vs : List Fp) (scales : List Nat) : List Nat :=
  let b := fmtE fmt / 4
  (scales.zip (chunks b (vs.length / b) vs)).map (fun e => if e.2.any Fp.isNan then 255 else e.1)

/-- Write one output row into the tile rows of a grid, zero beyond N, MX scales into the sidecars (R172). -/
def writeGrid (s : State) (c : Nat) (fmt base band row : Nat) (vs : List Nat) (bad : Bool) : State × Nat :=
  let e := fmtE fmt
  let k := (vs.length + e - 1) / e
  let padded := vs.map (decodeFp fp32) ++ List.replicate (k * e - vs.length) (.fin false 0 0)
  let (codes, scales) := convRow fmt padded
  let scales := rowScales fmt padded scales
  let rows := packRow fmt (codes.map (·.1))
  let s := rows.zipIdx.foldl (fun s r =>
    let t := (base + (row / 256) * band + r.2) % 2 ^ 33
    let s := rowPut s c (gridAddr base band row r.2) 128 r.1 bad
    if isMx fmt then
      rowPut s c (tileAddr t true (4 * (row % 256))) 4 (packElems 8 ((scales.drop (4 * r.2)).take 4)) bad
    else s) s
  (s, (codes.filter (·.2)).length)

/-- Read a side-memory word: value and poison. -/
def RowEngine.word (r : RowEngine) (n : Nat) : Nat × Bool := ((SMap.getD r.side 0 n).toNat, r.marks.contains n)

/-- Write a side-memory word. -/
def RowEngine.setWord (r : RowEngine) (n v : Nat) (bad : Bool) : RowEngine :=
  { r with side := SMap.set r.side n (BitVec.ofNat 64 v), marks := if bad then NSet.insert r.marks n else NSet.erase r.marks n }

/-! ### Kicks -/

/-- ROW_KICK: a write of KICKp_HI submits a kick (R169). -/
def rowKickWrite (s : State) (who : Requester) (c port v : Nat) : State :=
  let r := s.row c
  if 64 ≤ r.queue.length then
    ((s.raise (rowPage c) 0).bump (rowPage c) 1).logReq (rowPage c) kindEvent who true (0x204 + 8 * port)
  else
    s.setRow c { r with queue := r.queue ++ [⟨port, field v 31 24, s.regN (rowPage c) (0x200 + 8 * port), field v 23 0 + 1⟩] }

/-- Bytes of an element of γ or β. -/
def paramWidth (d : Nat) : Nat := if bitAt d 16 then 2 else 4

/-- Addresses of γ and, in LN_FWD, of β, which begins at the next multiple of 64 bytes (R170). -/
def paramAddrs (d : Nat) : List Nat :=
  if !rAffine d || !([1, 2, 0x11, 0x12].contains (rOp d)) then []
  else rParamBase d :: (if rOp d = 1 then [(rParamBase d + paramWidth d * rN d + 63) / 64 * 64] else [])

/-- The parameter vectors at some addresses, FP32 or BF16, and whether one carries poison. -/
def readVectors (s : State) (c d : Nat) : List Nat → Option (State × List (List Nat) × Bool)
  | [] => some (s, [], false)
  | a :: rest =>
    match takeRead s (.row c) (s.unitPart c) a (paramWidth d * rN d) with
    | none => none
    | some (s, v, bad) =>
      match readVectors s c d rest with
      | none => none
      | some (s, r, bad') => some (s, unpackElems (if paramWidth d = 4 then 0 else 1) v (rN d) :: r, bad || bad')

/-- KICK_START: the engine starts its oldest queued kick and checks its descriptor (R168, R171). -/
def kickStart (s : State) (c : Nat) : State :=
  let r := s.row c
  let p := rowPage c
  match r.run, r.queue with
  | none, k :: rest =>
    let part := s.unitPart c
    let at_ := (field (s.regN p 0x104) 15 0) * 2 ^ 32 + field (s.regN p 0x100) 31 7 * 128 + 128 * k.desc
    match takeRead s (.row c) part at_ 128 with
    | none => s.askFor (.row c) part at_ 128
    | some (s1, d, _) =>
      let code := rowReason d k.row0 k.count
      if code ≠ 0 then
        let s := s1.setRow c { r with queue := rest }
        ((s.record p 0x108 (k.port * 2 ^ 27 + k.desc * 2 ^ 16 + code)).raise p 1).bump p 2
      else
        match readVectors s1 c d (paramAddrs d) with
        | none => (paramAddrs d).foldl (fun s a => s.askFor (.row c) part a (paramWidth d * rN d)) s
        | some (s2, vs, bad) => s2.setRow c { r with queue := rest, run := some ⟨k, d, vs.getD 0 [], vs.getD 1 [], bad, 0⟩ }
  | _, _ => s

/-- Count conversion overflows of a row and send the numerics trigger (R177, R311). -/
def rowOverflow (s : State) (c d n : Nat) : State :=
  if n = 0 then s
  else
    let s := (s.raise (rowPage c) 3).bumpBy (rowPage c) 6 n
    if field d 28 27 = 3 then s
    else { s with numIn := s.numIn ++ [⟨2, 7 * c + field d 26 24, Ctx.ofIdx (field d 28 27), field d 63 48, 0, 0, 0⟩] }

/-- The record of a row, in side memory or device memory (R175): none while its tile must wait. -/
def readRecord (s : State) (c d row : Nat) : Option (State × Nat × Bool) :=
  if rStatLoc d = 0 then
    let (v, bad) := (s.row c).word (rStatBase d + row)
    some (s, v, bad)
  else takeRead s (.row c) (s.unitPart c) (rStatBase d + 8 * row) 8

/-- Write the record of a row (R175, R178). -/
def writeRecord (s : State) (c d row : Nat) (rec_ : Option (Nat × Nat)) (bad : Bool) : State :=
  match rec_ with
  | none => s
  | some (a, b) =>
    let v := a + 2 ^ 32 * b
    if rStatLoc d = 0 then s.setRow c ((s.row c).setWord (rStatBase d + row) v bad)
    else rowPut s c (rStatBase d + 8 * row) 8 v bad

/-- Add a row's column terms (R176, R178). -/
def addTerms (s : State) (c d : Nat) (terms : List (Nat × Option Nat)) (bad : Bool) : State :=
  s.setRow c (terms.foldl (fun r t =>
    let n := rCgBase d + t.1
    let (w, b) := r.word n
    r.setWord n (addColumn (field d 47 40) w t.2) (b || bad)) (s.row c))

/-- The reads of device memory that a row makes: address and length. -/
def rowReads (d row : Nat) : List (Nat × Nat) :=
  let grid (base band : Nat) : List (Nat × Nat) := (List.range (inTiles d)).map (fun j => (gridAddr base band row j, 128))
  grid (field d 352 320) (field d 415 384) ++
    (if rOp d < 0x10 then [] else grid (field d 544 512) (field d 607 576)) ++
    (if 0x10 ≤ rOp d ∧ rStatLoc d = 1 then [(rStatBase d + 8 * row, 8)] else [])

/-- One row of a forward or backward kick, none while a read of it stands at its agent or an agent gives no credit for its writes. -/
def processRow (s : State) (c : Nat) (k : RowRun) (row : Nat) : Option State :=
  let d := k.raw
  let part := s.unitPart c
  let op := rOp d
  match readRow s c d (field d 352 320) (field d 415 384) row with
  | none => none
  | some (s1, x, bx) =>
    let dy := if op < 0x10 then some (s1, [], false) else readRow s1 c d (field d 544 512) (field d 607 576) row
    match dy with
    | none => none
    | some (s2, dyv, bd) =>
      let rec_ := if op < 0x10 then some (s2, 0, false) else readRecord s2 c d row
      match rec_ with
      | none => none
      | some (s3, rv, br) =>
        let r1 := rv % 2 ^ 32
        let r2 := rv / 2 ^ 32
        let o := match op with
          | 1 => lnFwd d x k.gamma k.beta
          | 2 => rmsFwd d x k.gamma
          | 3 => smaxFwd d row x
          | 0x11 => normBwd true d x dyv k.gamma r1 r2
          | 0x12 => normBwd false d x dyv k.gamma r1 r2
          | _ => smaxBwd d row x dyv r1 r2
        let bad := bx || bd || br || k.bad
        let ybase := field d 480 448
        let yband := field d 447 416
        let e := fmtE (rOutFmt d)
        let tiles := (List.range ((rN d + e - 1) / e)).map (fun j => gridAddr ybase yband row j)
        if tiles.any (fun a => writeWaits s3 part a 128) ||
            (op < 0x10 && rStatLoc d == 1 && writeWaits s3 part (rStatBase d + 8 * row) 8) then none
        else
          let (s4, ovf) := writeGrid s3 c (rOutFmt d) ybase yband row o.out bad
          let s4 := writeRecord s4 c d row o.record bad
          let s4 := addTerms s4 c d o.terms bad
          let s4 := rowOverflow s4 c d ovf
          let s4 :=
            if o.nonfinite then
              let s4 := if bitAt (s4.regN (rowPage c) 0x018) 2 then s4 else s4.setRegN (rowPage c) 0x10C row
              (s4.raise (rowPage c) 2).bump (rowPage c) 5
            else s4
          some (s4.bump (rowPage c) 4)

/-- CG_FLUSH: convert, write and clear the column words from `j` on (R176). -/
def flushColumns (s : State) (c d : Nat) : Nat → Nat → State × Nat
  | 0, _ => (s, 0)
  | n + 1, j =>
    let w := rCgBase d + j
    let (v, bad) := (s.row c).word w
    let (f, ovf) := flushWord (field d 47 40) v
    let s := rowPut s c (rParamBase d + 4 * j) 4 f bad
    let s := s.setRow c ((s.row c).setWord w 0 false)
    let (s, k) := flushColumns s c d n (j + 1)
    (s, b2n ovf + k)

/-- ROW_PROCESS: the next row of the running kick is processed once its input is complete (R173-R179); a CG_FLUSH is done in
one such step. -/
def rowProcess (s : State) (c : Nat) : State :=
  match (s.row c).run with
  | none => s
  | some k =>
    if k.kick.count ≤ k.done then s
    else if rOp k.raw = 0x20 then
      let n := if rAffine k.raw then 2 * rN k.raw else rN k.raw
      if (List.range ((4 * n + 0x7FFF) / 0x8000 + 1)).any (fun i =>
          writeWaits s (s.unitPart c) (rParamBase k.raw + min (0x8000 * i) (4 * n - 4)) 4) then s
      else
        let (s, ovf) := flushColumns s c k.raw n 0
        let s := rowOverflow s c k.raw ovf
        s.setRow c { s.row c with run := some { k with done := k.kick.count } }
    else
      let row := (k.kick.row0 + k.done) % 2 ^ 32
      match processRow s c k row with
      | none => (rowReads k.raw row).foldl (fun s a => s.askFor (.row c) (s.unitPart c) a.1 a.2) s
      | some s => s.setRow c { s.row c with run := some { k with done := k.done + 1 } }

/-- KICK_DONE: every write of the kick has been accepted; its completion flag is added (R180). -/
def kickDone (s : State) (c : Nat) : State :=
  let r := s.row c
  match r.run with
  | none => s
  | some k =>
    if k.done < k.kick.count then s
    else
      let s := (s.setRow c { r with run := none }).bump (rowPage c) 0
      let x := field k.raw 28 27
      if x = 3 then s
      else
        let core := 7 * c + field k.raw 26 24
        let p : Page := ⟨.core, core⟩
        if s.admitsUnit p (s.clusterPart c) then sendFlagAdd s core (Ctx.ofIdx x) (field k.raw 39 32)
        else s.logUnit p (s.clusterPart c) c (0x400 * (x + 1) + 4 * field k.raw 39 32)

/-- ROW_ABORT, and what a job kill or a partition reset does to the row engine (R181): the kick in progress ends after the row
it has done, queued kicks are dropped, no completion flag is added. -/
def rowAbort (s : State) (c : Nat) : State :=
  let r := s.row c
  let n := r.queue.length + (if r.run.isSome then 1 else 0)
  (((s.setRow c { r with queue := [], run := none }).dropUnit (.row c)).bumpBy (rowPage c) 3 n).raise (rowPage c) 4

/-! ### The side-memory window (R184) -/

/-- SIDE_ADDR moves on. -/
def sideStep (s : State) (c : Nat) : State :=
  s.setRegN (rowPage c) 0x110 ((field (s.regN (rowPage c) 0x110) 18 0 + 1) % 524288)

/-- A read of SIDE_DATA_LO or SIDE_DATA_HI; poison makes it an error response. -/
def sideRead (s : State) (c : Nat) (high : Bool) : State × Nat :=
  let r := s.row c
  if high then (sideStep s c, r.high.toNat)
  else
    let (v, _) := r.word (field (s.regN (rowPage c) 0x110) 18 0)
    (s.setRow c { r with high := BitVec.ofNat 32 (v / 2 ^ 32) }, v % 2 ^ 32)

/-- A write of SIDE_DATA_LO or SIDE_DATA_HI; false when it is ignored and logged. -/
def sideWrite (s : State) (c : Nat) (high : Bool) (v : Nat) : State × Bool :=
  let r := s.row c
  if r.run.isSome || !r.queue.isEmpty then (s, false)
  else if !high then (s.setRegN (rowPage c) 0x114 v, true)
  else
    let w := s.regN (rowPage c) 0x114 + 2 ^ 32 * (v % 2 ^ 32)
    (sideStep (s.setRow c (r.setWord (field (s.regN (rowPage c) 0x110) 18 0) w false)) c, true)

/-- ROW.STATUS as it reads. -/
def rowStatusReg (r : RowEngine) : Nat :=
  r.queue.length * 2 ^ 16 + (match r.run with | some k => k.kick.desc * 256 + 1 | none => 0)

end Sys2Proof.Machine
end

