-- ==== Sys2Proof/Machine/Carousel.lean ====
section
/-! DEFINITION. The carousel: hands, quantisation, reduction, roots, thinned mode, parameter multicast, pulls and gathers
(R248-R281). -/

namespace Sys2Proof.Machine

/-! ### Pages, table, regions -/

/-- The carousel's module page. -/
def crsPage : Page := ⟨.crsModule, 17⟩
/-- A carousel unit's page. -/
def unitPage (u : Nat) : Page := ⟨.crsUnit, u⟩

/-- A bucket's entry (R250): its four words. -/
structure Bucket where
  w0 : Nat
  w1 : Nat
  w2 : Nat
  w3 : Nat
  deriving DecidableEq, Repr

/-- The bank a tag uses: ACTIVE XOR B (R251). -/
def State.bankOf (s : State) (step : Nat) : Nat :=
  let r := s.regN crsPage 0x110
  let b := bitAt r 31 && stepAtOrAfter step (field r 15 0)
  (field r 16 16 + b2n b) % 2

/-- A word of the bucket table. -/
def State.bword (s : State) (bank bucket w : Nat) : Nat := (SMap.getD s.crs.banks 0 (bank * 16384 + bucket * 4 + w)).toNat

/-- The entry that a tag uses. -/
def State.bucket (s : State) (step b : Nat) : Bucket :=
  let k := s.bankOf step
  ⟨s.bword k b 0, s.bword k b 1, s.bword k b 2, s.bword k b 3⟩

/-- VALID. -/
def Bucket.valid (b : Bucket) : Bool := bitAt b.w0 63
/-- OWNER. -/
def Bucket.owner (b : Bucket) : Bool := bitAt b.w0 62
/-- CONTRIB. -/
def Bucket.contribs (b : Bucket) : Bool := bitAt b.w0 61
/-- MC_LOCAL. -/
def Bucket.mcLocal (b : Bucket) : Bool := bitAt b.w0 60
/-- REDUCE is THINNED. -/
def Bucket.thinned (b : Bucket) : Bool := bitAt b.w0 59
/-- DIST is SHARD. -/
def Bucket.shard (b : Bucket) : Bool := bitAt b.w0 58
/-- ROUND is STOCHASTIC. -/
def Bucket.stochastic (b : Bucket) : Bool := bitAt b.w0 57
/-- H. -/
def Bucket.h (b : Bucket) : Nat := field b.w0 56 52
/-- MARGIN. -/
def Bucket.margin (b : Bucket) : Nat := field b.w0 51 48
/-- RED_OUT. -/
def Bucket.redOut (b : Bucket) : Nat := field b.w0 47 43
/-- MC_IN. -/
def Bucket.mcIn (b : Bucket) : Nat := field b.w0 42 38
/-- Source tiles of a FULL slice, tiles of a factor slice. -/
def Bucket.tiles (b : Bucket) : Nat := field b.w0 33 29 + 1
/-- Contributor slots of a thinned owner. -/
def Bucket.fslots (b : Bucket) : Nat := field b.w0 28 16 + 1
/-- The layer. -/
def Bucket.layer (b : Bucket) : Nat := field b.w1 29 20
/-- SLICE_BASE. -/
def Bucket.sliceBase (b : Bucket) : Nat := field b.w1 19 10
/-- Slices. -/
def Bucket.slices (b : Bucket) : Nat := field b.w1 9 0 + 1
/-- Lines of a parameter slice. -/
def Bucket.plines (b : Bucket) : Nat := field b.w2 63 51 + 1
/-- RED_BASE. -/
def Bucket.redBase (b : Bucket) : Nat := field b.w2 47 0
/-- OWNER_CTX. -/
def Bucket.ownerCtx (b : Bucket) : Nat := field b.w3 61 48
/-- Segments of a REDUCE or FACTOR slice (R258). -/
def Bucket.segs (b : Bucket) : Nat := 4 * b.tiles
/-- Segments of a PARAM slice (R258). -/
def Bucket.psegs (b : Bucket) : Nat := (b.plines + 63) / 64
/-- MC_OUT as a list of ports. -/
def Bucket.mcOut (b : Bucket) : List Nat := (List.range 16).filter (fun p => bitAt (field b.w1 63 48) p)
/-- Does a port deliver reduce or factor frames of the bucket? -/
def Bucket.redIn (b : Bucket) (p : Nat) : Bool := decide (p < 16) && bitAt (field b.w1 47 32) p

/-- Where a parameter slice of a tag lies (R250). -/
def Bucket.paramAddr (b : Bucket) (t : Tag) : Nat :=
  field b.w3 47 0 + ((t.step % 3) * b.slices + t.slice) * 128 * b.plines

/-- Does a committed word of the table hold a reserved value (R250)? -/
def bwordReserved (w v : Nat) : Bool :=
  match w with
  | 0 => field v 56 52 == 0 || decide (16 < field v 56 52) || decide (16 ≤ field v 47 43) ||
      (decide (16 ≤ field v 42 38) && field v 42 38 != 31) || field v 15 0 != 0
  | 1 => field v 31 30 != 0
  | 2 => field v 50 48 != 0
  | _ => field v 63 62 != 0

/-- Is the carousel enabled? -/
def State.crsOn (s : State) : Bool := bitAt (s.regN crsPage 0x010) 0

/-- The partition of the training units (R400). -/
def State.trainPart (s : State) : Nat := field (s.regN partPage 0x118) 1 0

/-- A unit's state. -/
def State.unit (s : State) (u : Nat) : CrsUnit := SMap.getD s.crs.units {} u

/-- Put a unit's state. -/
def State.setUnit (s : State) (u : Nat) (v : CrsUnit) : State := { s with crs.units := SMap.set s.crs.units u v }

/-- A carousel unit's number: unit 16 acts as the unit of the port that P16 replaces (R250, R357). -/
def State.unitNo (s : State) (p : Nat) : Nat :=
  let r := s.regN (portPage 17) 0x014
  if p = 16 ∧ bitAt r 24 then field r 23 20 else p

/-- BDATA_WRITE: a write of CRS.BDATA_HI commits a table word (R250, R251): 0 committed, 1 ignored, 2 reserved. -/
def bdataWrite (s : State) (v : Nat) : State × Nat :=
  let sel := s.regN crsPage 0x114
  let bank := field sel 14 14
  let r := s.regN crsPage 0x110
  let used := s.crsOn && (bitAt r 31 || bank == field r 16 16)
  let word := v * 2 ^ 32 + s.regN crsPage 0x118
  if used then (s, 1)
  else
    let s := s.setRegN crsPage 0x11C v
    if bwordReserved (field sel 1 0) word then (s, 2)
    else ({ s with crs.banks := SMap.set s.crs.banks (bank * 16384 + field sel 13 0) (BitVec.ofNat 64 word) }, 0)

/-- BDATA_READ: a read of CRS.BDATA_LO snapshots a table word (R279). -/
def bdataRead (s : State) : State × Nat :=
  let sel := s.regN crsPage 0x114
  let w := s.bword (field sel 14 14) (field sel 13 2) (field sel 1 0)
  ({ s with snaps := SMap.set s.snaps (crsPage.key 0x11C) (BitVec.ofNat 32 (w / 2 ^ 32)) }, w % 2 ^ 32)

/-- BANK_SWITCH_WRITE: a write of CRS.BANK (R251, R252): clearing ARM clears OLD_IDLE. -/
def bankSwitchWrite (s : State) (v : Nat) : State :=
  let idle := bitAt v 31 && bitAt (s.regN crsPage 0x110) 30
  s.setRegN crsPage 0x110 (field v 31 31 * 2 ^ 31 + b2n idle * 2 ^ 30 + field v 16 0)

/-- Is a tag one that OLD_IDLE has closed (R252)? -/
def State.tagClosed (s : State) (step : Nat) : Bool :=
  let r := s.regN crsPage 0x110
  bitAt r 31 && bitAt r 30 && !stepAtOrAfter step (field r 15 0)

/-! ### Tables in memory -/

/-- What a training unit reads of device memory in one go: the values with the state after the reads, or the address and length of a
read that stands at its agent. -/
abbrev Reading (α : Type) : Type := StateT State (Except (Nat × Nat)) α

/-- A training unit's read of device memory. -/
def trainRead (a n : Nat) : Reading Nat := fun s =>
  match takeRead s .train (some s.trainPart) a n with
  | none => .error (a, n)
  | some (s, v, _) => .ok (v, s)

/-- The same of one line, with what answered it. -/
def lineRead (a : Nat) : Reading LoadAns := fun s =>
  match unitRead s .train (some s.trainPart) a 128 with
  | (_, none) => .error (a, 128)
  | (s, some x) => .ok (x, s)

/-- A read of a table that the carousel or the update unit keeps in memory: poison is a shared-structure trigger (R403). -/
def tableRead (a n : Nat) : Reading Nat := fun s =>
  match takeRead s .train (some s.trainPart) a n with
  | none => .error (a, n)
  | some (s, v, bad) => .ok (v, if bad then s.trigger 6 s.trainPart 0 else s)

/-- A training unit's read goes to its agent, where the unit waits for it. -/
def trainAsk (s : State) (a n : Nat) : State := s.askFor .train (some s.trainPart) a n

/-- Act on what a unit reads; while one of its reads must wait it does nothing but leave that read at its agent (R193). -/
def whenRead {α : Type} (s : State) (m : Reading α) (act : α → State → State) : State :=
  match m s with
  | .error (a, n) => trainAsk s a n
  | .ok (v, s) => act v s

/-- A training unit's write of device memory goes to its agents. -/
def trainWrite (s : State) (a n v : Nat) : State := unitPost s .train (some s.trainPart) a n v false none

/-- Would a training unit's write wait? -/
def trainWaits (s : State) (a n : Nat) : Bool := writeWaits s (some s.trainPart) a n

/-- A 48-bit base address held in two registers of the module page. -/
def State.crsBase (s : State) (off : Nat) : Nat := s.regN crsPage off + 2 ^ 32 * (s.regN crsPage (off + 4) % 2 ^ 16)

/-- Address of a slice's scale (R257). -/
def State.scaleAddr (s : State) (b j : Nat) : Nat := s.crsBase 0x120 + 2 * (1024 * b + j)

/-- Address of a slice's taglog word (R268). -/
def State.taglogAddr (s : State) (b j : Nat) : Nat := s.crsBase 0x128 + 4 * (1024 * b + j)

/-- The scale exponent of a hand or a root, as a byte (R257). -/
def scaleE (t : Tag) : Reading Nat := do
  let s ← get
  let r := s.regN crsPage 0x10C
  if field r 15 0 = t.step then pure (field r 23 16) else tableRead (s.scaleAddr t.bucket t.slice) 1

/-- Write a slice's scale: its byte and the reserved byte after it (R257). -/
def writeScale (s : State) (b j e : Nat) : State := trainWrite s (s.scaleAddr b j) 2 (e % 256)

/-- OPENED of a slice's taglog word. -/
def openedOf (t : Tag) : Reading Nat := do
  let s ← get
  let w ← tableRead (s.taglogAddr t.bucket t.slice) 4
  pure (field w 31 16)

/-! ### Records of lost inputs -/

/-- Record a discarded input (R262, R266): kind 0 UPSTREAM, 1 LOCAL, 2 ROOT, 3 E_MISMATCH, 4 DUP_LOCAL. -/
def lateInput (s : State) (u kind port : Nat) (t : Tag) (seg : Nat) : State :=
  let p := unitPage u
  let first := s.isFirst p 0x110
  let s := s.record p 0x110 (kind * 2 ^ 27 + port * 2 ^ 22 + seg % 128 * 2 ^ 15 + t.slice)
  let s := if first then s.setRegN p 0x114 (t.step * 2 ^ 16 + t.bucket) else s
  let s := (s.raise p 0).bump p 3
  if kind = 3 then s.raise p 4 else s

/-! ### Hands -/

/-- The core of a completion flag, by index, if it exists. -/
def Hand.target (h : Hand) : Option Nat := if h.ctx = 3 ∨ 40 ≤ h.cluster ∨ 7 ≤ h.core then none else some (7 * h.cluster + h.core)

/-- Add 1 to a hand's completion flag by a remote flag write (R254). -/
def addHandFlag (s : State) (h : Hand) : State :=
  match h.target with
  | none => s
  | some core =>
    let p : Page := ⟨.core, core⟩
    if s.admitsUnit p s.trainPart then sendFlagAdd s core (Ctx.ofIdx h.ctx) h.flag
    else s.logUnit p s.trainPart 0 (0x400 * (h.ctx + 1) + 4 * h.flag)

/-- Kind of a core by its index. -/
def kindOfIdx (core : Nat) : CoreKind := if core % 7 < 2 then .matrix else if core % 7 < 6 then .vector else .scalar

/-- Does a gather's destination hold its slice (R254, R278)? -/
def gatherFits (h : Hand) (b : Bucket) : Bool :=
  let dk := field h.dest 15 13
  let k := kindOfIdx h.core
  decide (h.cluster < 40) && decide (h.core < 7) && dkindAllowed k dk && decide (field h.dest 11 6 < ringSize k dk) &&
    decide (128 * b.plines ≤ 32768 * ringSize k dk)

/-- Put a pull or gather at its place: bucket order, then slice order (R277). -/
def insertPull (p : PullReq) : List PullReq → List PullReq
  | [] => [p]
  | q :: r =>
    if p.tag.bucket * 1024 + p.tag.slice < q.tag.bucket * 1024 + q.tag.slice then p :: q :: r else q :: insertPull p r

/-- Gathers at the head of the hand queue go to the pull engine (R253, R278). -/
def promoteGathers (s : State) : State :=
  let gs := s.crs.hands.takeWhile (·.gather)
  let pulls := gs.foldl (fun ps h => insertPull ⟨h.tag, some h, none⟩ ps) s.crs.pulls
  { s with crs.hands := s.crs.hands.dropWhile (·.gather), crs.pulls := pulls }

/-- A hand is submitted by a write of word 3 of a hand port (R253, R254). -/
def handWrite (s : State) (who : Requester) (p v : Nat) : State :=
  let off := 0x800 + 16 * p
  let w (i : Nat) : Nat := (s.stage crsPage (off + 4 * i)).toNat
  let op := field v 31 30
  let h : Hand := {
    gather := op = 1, tile := w 0 + 2 ^ 32 * field (w 1) 31 31, dest := w 0, flag := field (w 1) 30 23
    ctx := field (w 1) 22 21, core := field (w 1) 20 18, cluster := field (w 1) 17 12
    tag := ⟨field (w 2) 31 16, field (w 2) 11 0, field v 9 0⟩ }
  let b := s.bucket h.tag.step h.tag.bucket
  let u := b.redOut
  if !s.crsOn then s.bump crsPage 2
  else if s.tagClosed h.tag.step then lateInput s u 1 31 h.tag 0
  else if 256 ≤ s.crs.hands.length then ((s.raise crsPage 1).bump crsPage 2).logReq crsPage kindEvent who true (off + 12)
  else
    let bad := decide (1 < op) || !isStep h.tag.step || !b.valid || (op == 0 && !b.contribs) || decide (b.slices ≤ h.tag.slice) ||
      (op == 1 && !gatherFits h b)
    if bad then
      let s := ((s.raise crsPage 0).bump crsPage 1).logReq crsPage (if 1 < op then kindReserved else kindEvent) who true (off + 12)
      if op = 0 then addHandFlag s h else s
    else if op = 0 ∧ (s.unit u).handed.contains h.tag then lateInput s u 4 31 h.tag 0
    else
      let s := { s.bump crsPage 0 with crs.hands := s.crs.hands ++ [h] }
      let s := if op = 0 then s.setUnit u { s.unit u with handed := (h.tag :: (s.unit u).handed).take 8192 } else s
      promoteGathers s

/-! ### Quantisation -/

/-- QSEED (R279). -/
def State.qseed (s : State) : Nat := s.regN crsPage 0x104 + 2 ^ 32 * s.regN crsPage 0x108

/-- The stochastic value of an element (R255). -/
def quantR (s : State) (t : Tag) (e : Nat) : Nat :=
  let w0 := BitVec.ofNat 64 (t.step * 2 ^ 48 + t.bucket * 2 ^ 32 + t.slice * 2 ^ 16 + s.regN crsPage 0x100 % 2 ^ 16)
  (mix (mix (BitVec.ofNat 64 s.qseed ^^^ w0) ^^^ BitVec.ofNat 64 e)).toNat / 2 ^ 48

/-- `quantise` of R255: a finite FP32 element times 2^(−E), rounded, clamped to QMAX; true when clamped. -/
def quantise (stochastic : Bool) (r : Nat) (e : Int) (qmax : Int) (bits : Nat) : Int × Bool :=
  match decodeFp fp32 bits with
  | .fin neg m x =>
    let p : Int := if neg then -(m : Int) else m
    let q := alignProduct stochastic r p (x - e)
    if qmax < q then (qmax, true) else if q < -qmax then (-qmax, true) else (q, false)
  | _ => (0, false)

/-- Is an FP32 value a NaN or an infinity? -/
def nonFinite (bits : Nat) : Bool := field bits 30 23 == 255

/-- Is any of the first `n` FP32 values of a number non-finite? -/
def anyNonFinite : Nat → Nat → Bool
  | 0, _ => false
  | n + 1, v => nonFinite (v % 2 ^ 32) || anyNonFinite n (v / 2 ^ 32)

/-- Quantise `n` FP32 values from element `e0` on into lanes of `w` bits: the lanes and how many clamped. -/
def quantLanes (f : Nat → Nat → Int × Bool) (w : Nat) : Nat → Nat → Nat → Nat × Nat
  | 0, _, _ => (0, 0)
  | n + 1, e0, v =>
    let (q, c) := f e0 (v % 2 ^ 32)
    let (r, k) := quantLanes f w n (e0 + 1) (v / 2 ^ 32)
    (wrapTo w q + 2 ^ w * r, k + b2n c)

/-! ### Frames -/

/-- The payload of a frame (R258) and its length. -/
def frameBytes (f : CrsFrame) : Nat :=
  f.kind + 2 ^ 8 * (b2n f.empty + 2 * b2n f.last + 4 * b2n f.sat + 8 * b2n f.voidSeen) + 2 ^ 16 * f.step + 2 ^ 32 * f.bucket +
    2 ^ 48 * f.slice + 2 ^ 64 * f.segment + 2 ^ 72 * f.linesM1 + 2 ^ 80 * f.count + 2 ^ 96 * f.e + 2 ^ 112 * f.contrib +
    (if f.empty then 0 else 2 ^ 128 * f.data)

/-- Payload bytes of a frame. -/
def frameLen (f : CrsFrame) : Nat := if f.empty ∨ f.kind = 4 then 16 else 16 + 128 * (f.linesM1 + 1)

/-- The Talel context on which a unit sends (R258). -/
def State.portCtx (s : State) (u : Nat) : Nat := s.regN (unitPage u) 0x10C % 2 ^ 14

/-- Send a frame on a unit's port (R258): REDUCE and FACTOR in class CRS, PARAM and PRUNE in class PMC, PRUNE in traffic
class 3. A context that is not OPEN sends nothing. -/
def sendFrame (s : State) (u : Nat) (f : CrsFrame) : State :=
  let n := s.portCtx u
  if (s.tctx n).st ≠ 1 then s
  else sendMsg (s.bump (unitPage u) 1) n { cls := if f.kind < 3 then 4 else 5, tc := if f.kind = 4 then 3 else 1, len := frameLen f, data := frameBytes f }

/-- The frame that a message carries; unused bits are ignored (R258). -/
def frameOf (m : Msg) : CrsFrame :=
  let d := m.data
  let empty := bitAt d 8
  let lines := field d 77 72
  { kind := field d 3 0, empty := empty, last := bitAt d 9, sat := bitAt d 10, voidSeen := bitAt d 11, step := field d 31 16
    bucket := field d 43 32, slice := field d 57 48, segment := field d 70 64, linesM1 := lines, count := field d 95 80
    e := field d 103 96, contrib := field d 127 112
    data := if empty || field d 3 0 == 4 then 0 else d / 2 ^ 128 % 2 ^ (1024 * (lines + 1)) }

/-- Put a context's state where it stays open or not as it was. -/
def State.putTctx (s : State) (n : Nat) (c : TalCtx) : State := { s with net.ctxs := SMap.set s.net.ctxs n c }

/-- A unit takes a frame from a message of its port's PEER context, each PSN once (R350): the message is one that Talel has accepted, or
one that it can still accept, whose header has come (R264). None where it brings the unit no frame. -/
def takeMessage (s : State) (u n psn : Nat) (f : CrsFrame) : Option State :=
  let c := s.tctx n
  if c.kind ≠ 2 ∨ c.port ≠ u + 1 then none
  else match c.toUnit.find? (fun m => decide (m.psn = psn ∧ frameOf m = f)) with
    | some m => some (s.putTctx n { c with toUnit := c.toUnit.erase m })
    | none =>
      if c.st = 1 ∧ psnDist psn c.rxNext < 1024 ∧ !c.above.contains psn ∧ !c.early.contains psn then
        some (s.putTctx n { c with early := NSet.insert c.early psn })
      else none

/-- A frame of a message acts on its unit, unless it has to wait: `act` says whether it has been taken. -/
def withFrame (s : State) (port : Nat) (m : CrsMsg) (f : CrsFrame) (act : State → State × Bool) : State :=
  match takeMessage s (s.unitNo port) m.ctx.val m.psn f with
  | none => s
  | some t => match act t with
    | (t, true) => t
    | (_, false) => (act s).1

/-- Which frame a frame is (R258). -/
def frameKey (f : CrsFrame) : CrsKey := ⟨f.kind, ⟨f.step, f.bucket, f.slice⟩, f.segment, f.contrib⟩

/-- Which frame a carousel message carries. -/
def msgKey (m : Msg) : CrsKey :=
  ⟨field m.data 3 0, ⟨field m.data 31 16, field m.data 43 32, field m.data 57 48⟩, field m.data 70 64, field m.data 127 112⟩

/-- Does a message carry a frame? -/
def carriesFrame (k : CrsKey) (m : Msg) : Bool := (m.cls == 4 || m.cls == 5) && !m.resp && decide (msgKey m = k)

/-- Has a frame been sent on a unit's port and not been acknowledged by the next hop (R356)? -/
def State.onWire (s : State) (u : Nat) (k : CrsKey) : Bool := (s.tctx (s.portCtx u)).unacked.any (fun x => carriesFrame k x.msg)

/-- Does a frame wait for transmission on a unit's port? -/
def State.queued (s : State) (u : Nat) (k : CrsKey) : Bool := (s.tctx (s.portCtx u)).queue.any (carriesFrame k)

/-- Is a REDUCE frame that a unit forwarded not yet acknowledged by its next hop (R356)? -/
def State.unsent (s : State) (u : Nat) (t : Tag) (seg : Nat) : Bool :=
  s.queued u ⟨1, t, seg, 0⟩ || s.onWire u ⟨1, t, seg, 0⟩

/-- Send an unacknowledged frame again under its PSN, with RETX set and a new payload; one that still waits for transmission takes the
new payload there (R356). -/
def resendFrame (s : State) (u : Nat) (k : CrsKey) (f : CrsFrame) : State :=
  let n := s.portCtx u
  let c := s.tctx n
  let put (m : Msg) : Msg := { m with data := frameBytes f, len := frameLen f }
  let c := { c with queue := c.queue.map (fun m => if carriesFrame k m then put m else m) }
  match c.unacked.find? (fun x => carriesFrame k x.msg) with
  | none => s.setTctx n c
  | some x =>
    let m := { put x.msg with retx := true }
    let c := { c with unacked := c.unacked.map (fun y => if y.msg.psn = m.psn then { y with msg := m, since := s.tick } else y) }
    transmit (s.setTctx n c) c.port m

/-- The latest sent frame of a list that a test picks ends with an invalid FCS. -/
def stompFirst (test : Nat → Msg → Bool) : List Sent → List Sent
  | [] => []
  | .talel i m d :: r => if test i m then .talel i m { d with stomped := true } :: r else .talel i m d :: stompFirst test r
  | x :: r => x :: stompFirst test r

/-- A frame that is leaving a unit's port ends with an invalid FCS (R356). -/
def stomp (s : State) (u : Nat) (k : CrsKey) : State :=
  { s.bump (portPage (u + 1)) 8 with net.wire := stompFirst (fun i m => i == u + 1 && carriesFrame k m) s.net.wire }

/-- Take a frame that still waits for transmission on a unit's port out again. -/
def unqueue (s : State) (u : Nat) (k : CrsKey) : State :=
  let n := s.portCtx u
  let c := s.tctx n
  s.setTctx n { c with queue := c.queue.filter (fun m => !carriesFrame k m) }

/-! ### Combining -/

/-- The sum of inputs (R259), and the overflow marks it creates. -/
def sumInputs : List SlotIn → Nat × Nat
  | [] => (0, 0)
  | i :: r => r.foldl (fun (v, k) j => let (w, m) := linesAdd 2048 v j.data; (w, k + m)) (i.data, 0)

/-- Count overflow marks that a unit created (R259). -/
def marksMade (s : State) (u n : Nat) : State := if n = 0 then s else (s.raise (unitPage u) 5).bumpBy (unitPage u) 9 n

/-- Is a port's input expected for a tag (R260, R426)? -/
def State.expects (s : State) (b : Bucket) (step p : Nat) : Bool :=
  b.redIn p && (match SMap.get s.crs.absent p with | some a => !stepAtOrAfter step a | none => true)

/-- Are all inputs of a segment present (R260, R265)? -/
def State.allPresent (s : State) (b : Bucket) (step : Nat) (ins : List SlotIn) : Bool :=
  (List.range 16).all (fun p => !s.expects b step p || ins.any (fun i => i.port == p)) &&
    (!b.contribs || ins.any (fun i => i.port == 31))

/-- Exclude upstream inputs of another E, each recorded as E_MISMATCH (R262). -/
def excludeE (s : State) (u : Nat) (t : Tag) (seg e : Nat) (ins : List SlotIn) : State × List SlotIn :=
  let bad := ins.filter (fun i => i.port != 31 && i.e != e)
  (bad.foldl (fun s i => lateInput s u 3 i.port t seg) s, ins.filter (fun i => i.port == 31 || i.e == e))

/-- The outgoing frame of included inputs (R261), and the overflow marks it creates. -/
def combined (b : Bucket) (t : Tag) (seg e : Nat) (ins : List SlotIn) : CrsFrame × Nat :=
  let full := ins.filter (fun i => !i.empty)
  let (v, k) := sumInputs full
  ({ kind := 1, empty := full.isEmpty, last := seg + 1 == b.segs, sat := ins.any (·.sat), voidSeen := ins.any (·.voidSeen)
     step := t.step, bucket := t.bucket, slice := t.slice, segment := seg, linesM1 := if full.isEmpty then 0 else 63
     count := (ins.map (·.count)).foldl (· + ·) 0 % 2 ^ 16, e := e, data := v }, k)

/-- A unit starts to forward a slot: the included inputs and the header are fixed and the frame is sent (R261). -/
def forwardSlot (s : State) (u : Nat) (sl : Slot) : State :=
  let b := s.bucket sl.tag.step sl.tag.bucket
  let e := match sl.ins.find? (fun i => i.port == 31) with
    | some i => i.e
    | none => match sl.ins with | i :: _ => i.e | [] => 0
  let (s, ins) := excludeE s u sl.tag sl.seg e sl.ins
  let (f, k) := combined b sl.tag sl.seg e ins
  let s := sendFrame (marksMade s u k) u f
  let x := s.unit u
  let keep := ({ sl with ins := ins } :: x.kept).filter (fun q => s.unsent u q.tag q.seg)
  s.setUnit u { x with
    slots := x.slots.filter (fun q => decide (q.tag ≠ sl.tag ∨ q.seg ≠ sl.seg)), kept := keep
    closed := ((sl.tag, sl.seg) :: x.closed).take 8192 }

/-- SLOT_FORWARD: the oldest slot whose inputs are all present starts to forward (R261). -/
def slotForward (s : State) (u : Nat) : State :=
  match (s.unit u).slots.find? (fun q => s.allPresent (s.bucket q.tag.step q.tag.bucket) q.tag.step q.ins) with
  | some q => forwardSlot s u q
  | none => s

/-- HOLD_EXPIRY: CRS.HOLD ticks have passed since a slot opened (R261). -/
def holdExpiry (s : State) (u : Nat) : State :=
  match (s.unit u).slots.find? (fun q => decide (q.since + s.regN (unitPage u) 0x100 ≤ s.tick)) with
  | some q => (forwardSlot s u q).bump (unitPage u) 2
  | none => s

/-- Slots whose lines a unit keeps: those open, and those forwarded whose frame the next hop has not acknowledged (R356). -/
def State.keptSlots (s : State) (u : Nat) : List Slot :=
  (s.unit u).slots ++ (s.unit u).kept.filter (fun q => s.unsent u q.tag q.seg)

/-- Factor frames with lines of this module's own that a unit has sent and its next hop has not acknowledged (R269, R356). -/
def State.factorsHeld (s : State) (u : Nat) : Nat :=
  let c := s.tctx (s.portCtx u)
  let mine (m : Msg) : Bool := m.cls == 4 && field m.data 3 0 == 2 && !bitAt m.data 8 && field m.data 127 112 == s.regN crsPage 0x100 % 2 ^ 16
  (c.queue.filter mine).length + (c.unacked.filter (fun x => mine x.msg)).length

/-- Segments of this module's own that a unit's contribution buffer holds (R254). -/
def State.contribHeld (s : State) (u : Nat) : Nat :=
  let own (ins : List SlotIn) : Nat := (ins.filter (fun i => i.port == 31 && !i.empty)).length
  ((s.keptSlots u).map (fun q => own q.ins)).foldl (· + ·) 0 +
    ((s.unit u).roots.map (fun r => (r.opened.map (fun e => own e.2)).foldl (· + ·) 0)).foldl (· + ·) 0 + s.factorsHeld u

/-- Bytes of upstream lines that a unit holds in its combine buffer (R260, R356). -/
def State.combineHeld (s : State) (u : Nat) : Nat :=
  ((s.keptSlots u).map (fun q => 8192 * (q.ins.filter (fun i => i.port != 31 && !i.empty)).length)).foldl (· + ·) 0

/-- Has a unit the slot and the combine buffer that an input of a segment needs (R263)? An EMPTY frame and this module's own segment need
no combine buffer. -/
def State.roomFor (s : State) (u : Nat) (t : Tag) (seg : Nat) (i : SlotIn) : Bool :=
  let x := s.unit u
  (x.slots.any (fun q => q.tag == t && q.seg == seg) || decide (x.slots.length < 1024)) &&
    (i.port == 31 || i.empty || decide (s.combineHeld u + 8192 ≤ 4194304))

/-- Without that room the oldest open slot forwards at once (R263). -/
def evictFor (s : State) (u : Nat) (t : Tag) (seg : Nat) (i : SlotIn) : State :=
  if s.roomFor u t seg i then s
  else match (s.unit u).slots with
    | q :: _ => ((forwardSlot s u q).bump (unitPage u) 4).raise (unitPage u) 1
    | [] => s

/-- Is an input of a segment late at a hop: its slot is closed, or holds an input of that port (R262)? -/
def State.hopLate (s : State) (u : Nat) (t : Tag) (seg port : Nat) : Bool :=
  let x := s.unit u
  x.closed.contains (t, seg) || x.slots.any (fun q => q.tag == t && q.seg == seg && q.ins.any (fun j => j.port == port))

/-- An input becomes present at a hop (R260, R262, R263). False while it must wait for the space that an eviction frees: the lines of the
evicted slot stay until the next hop acknowledges them (DESIGN CHOICE, log entry 41). -/
def hopInput (s : State) (u : Nat) (t : Tag) (seg : Nat) (i : SlotIn) : State × Bool :=
  let late (s : State) : State := lateInput s u (if i.port = 31 then 1 else 0) i.port t seg
  if s.hopLate u t seg i.port then (late s, true)
  else
    let s := evictFor s u t seg i
    let x := s.unit u
    let here (q : Slot) : Bool := q.tag == t && q.seg == seg
    if s.hopLate u t seg i.port then (late s, true)
    else if !s.roomFor u t seg i then (s, false)
    else if x.slots.any here then
      (s.setUnit u { x with slots := x.slots.map (fun q => if here q then { q with ins := q.ins ++ [i] } else q) }, true)
    else (s.setUnit u { x with slots := x.slots ++ [⟨t, seg, s.tick, [i]⟩] }, true)

/-! ### Roots -/

/-- An input becomes present at a root whose taglog word holds OPENED (R265, R266). -/
def rootTake (s : State) (u : Nat) (t : Tag) (seg : Nat) (i : SlotIn) (opened : Nat) : State :=
  let x := s.unit u
  let late := lateInput s u (if i.port = 31 then 1 else 2) i.port t seg
  if !stepLater t.step opened then late
  else
    let r := (x.roots.find? (fun r => r.tag == t)).getD ⟨t, s.tick, [], [], false⟩
    let ins := SMap.getD r.opened [] seg
    if (SMap.get r.done seg).isSome || ins.any (fun j => j.port == i.port) then late
    else
      let r := { r with opened := SMap.set r.opened seg (ins ++ [i]) }
      let roots := if x.roots.any (fun q => q.tag == t) then x.roots.map (fun q => if q.tag == t then r else q) else x.roots ++ [r]
      s.setUnit u { x with roots := roots }

/-- The same with the taglog read. -/
def rootInput (u : Nat) (t : Tag) (seg : Nat) (i : SlotIn) : Reading Unit := do
  let opened ← openedOf t
  modify (fun s => rootTake s u t seg i opened)

/-- Close one segment of a root slice with the inputs present (R265). -/
def closeSegment (s : State) (u : Nat) (t : Tag) (e seg : Nat) : State :=
  match (s.unit u).roots.find? (fun r => r.tag == t) with
  | none => s
  | some r =>
    let (s, ins) := excludeE s u t seg e (SMap.getD r.opened [] seg)
    let (f, k) := combined (s.bucket t.step t.bucket) t seg e ins
    let s := marksMade s u k
    let r := { r with opened := SMap.del r.opened seg, done := SMap.set r.done seg ⟨f.count, f.data, f.sat, f.voidSeen⟩ }
    let x := s.unit u
    s.setUnit u { x with roots := x.roots.map (fun q => if q.tag == t then r else q) }

/-- SEGMENT_CLOSE: a root closes the first segment all of whose inputs are present (R265). -/
def segmentClose (s : State) (u : Nat) : State :=
  let ready := (s.unit u).roots.findSome? (fun r =>
    (r.opened.find? (fun e => s.allPresent (s.bucket r.tag.step r.tag.bucket) r.tag.step e.2)).map (fun e => (r.tag, e.1)))
  match ready with
  | none => s
  | some (t, seg) => whenRead s (scaleE t) (fun e s => closeSegment s u t e seg)

/-- DEADLINE_EXPIRY: CRS.DEADLINE ticks have passed since the first input of a slice, or since the opening of a thinned tag
(R265, R270). -/
def deadlineExpiry (s : State) (u : Nat) : State :=
  let x := s.unit u
  let past (since : Nat) : Bool := decide (since + s.regN (unitPage u) 0x104 ≤ s.tick)
  match x.roots.find? (fun r => !r.deadline && past r.since && decide (r.done.length < (s.bucket r.tag.step r.tag.bucket).segs)) with
  | some r => whenRead s (scaleE r.tag) (fun e s =>
      let s := s.setUnit u { s.unit u with roots := (s.unit u).roots.map (fun q => if q.tag == r.tag then { q with deadline := true } else q) }
      let segs := (List.range (s.bucket r.tag.step r.tag.bucket).segs).filter (fun g => (SMap.get r.done g).isNone)
      segs.foldl (fun s g => closeSegment s u r.tag e g) s)
  | none =>
    match x.thin.find? (fun r => !r.deadline && past r.since && decide (r.filled < (s.bucket r.step r.bucket).fslots)) with
    | some r => s.setUnit u { x with thin := x.thin.map (fun q => if q.step = r.step ∧ q.bucket = r.bucket then { q with deadline := true } else q) }
    | none => s

/-- Bits needed to write a positive number. -/
def bitlen (n : Nat) : Nat := if n = 0 then 0 else Nat.log2 n + 1

/-- NEXT_E of R268 as a byte. -/
def nextE (b : Bucket) (e : Nat) (a c : Nat) (sat : Bool) : Nat :=
  let e := signedOf 8 e
  let n : Int :=
    if a = 0 ∨ c = 0 then e
    else if b.thinned then e + bitlen a - 7 + b.margin
    else e + bitlen a - (Nat.log2 c : Nat) - (31 - (b.h : Int)) + b.margin
  let n := if sat then max n (e + 2) else n
  wrapTo 8 (min (max n (-128)) 127)

/-- The largest magnitude of `n` lanes that are not the mark, and whether any is the mark. -/
def lanesMax : Nat → Nat → Nat × Bool
  | 0, _ => (0, false)
  | n + 1, v =>
    let (a, m) := lanesMax n (v / 2 ^ 32)
    let x := v % 2 ^ 32
    if x = 2 ^ 31 then (a, true) else (max a (signedOf 32 x).natAbs, m)

/-- Base of a slice's record (R267). -/
def Bucket.recordAddr (b : Bucket) (t : Tag) : Nat :=
  b.redBase + ((t.step % 2) * b.slices + t.slice) * (512 + 0x8000 * b.tiles)

/-- Write OPENED of a taglog word. -/
def writeOpened (s : State) (t : Tag) : State := trainWrite s (s.taglogAddr t.bucket t.slice + 2) 2 t.step

/-- SLICE_CLOSE: the root writes the record, the next scale and the taglog, and hands the record over (R267, R268). -/
def sliceClose (s : State) (u : Nat) : State :=
  match (s.unit u).roots.find? (fun r => decide (r.done.length = (s.bucket r.tag.step r.tag.bucket).segs)) with
  | none => s
  | some r =>
    let t := r.tag
    let b := s.bucket t.step t.bucket
    let a := b.recordAddr t
    if trainWaits s a (512 + 0x8000 * b.tiles) || trainWaits s (s.scaleAddr t.bucket t.slice) 2 || trainWaits s (s.taglogAddr t.bucket t.slice) 4 then s
    else whenRead s (scaleE t) (fun e s =>
        let segs := r.done.map (·.2)
        let peaks := segs.map (fun g => lanesMax 2048 g.data)
        let amax := (peaks.map (·.1)).foldl max 0
        let most := (segs.map (·.count)).foldl max 0
        let sat := segs.any (·.sat)
        let flags := b2n r.deadline + 2 * b2n sat + 4 * b2n (segs.any (·.voidSeen)) + 8 * b2n (peaks.any (·.2))
        let counts := r.done.foldl (fun n g => n + g.2.count * 2 ^ (8 * (256 + 2 * g.1))) 0
        let head := t.step + 2 ^ 16 * t.bucket + 2 ^ 32 * t.slice + 2 ^ 48 * e + 2 ^ 56 * flags + 2 ^ 64 * b.segs + 2 ^ 80 * most +
          2 ^ 96 * amax + counts
        let s := trainWrite s a 512 head
        let s := r.done.foldl (fun s g => trainWrite s (a + 512 + 8192 * g.1) 8192 g.2.data) s
        let s := writeScale s t.bucket t.slice (nextE b e amax most sat)
        let s := writeOpened s t
        let x := s.unit u
        let s := s.setUnit u { x with roots := x.roots.filter (fun q => !(q.tag == t)) }
        let s : State := { s with crs.records := s.crs.records ++ [(t, none)] }
        s.bump (unitPage u) (if r.deadline then 6 else 5))

/-! ### Thinned mode -/

/-- Base of the thinned area of a tag's parity (R271). -/
def Bucket.thinBase (b : Bucket) (step : Nat) : Nat :=
  b.redBase + (step % 2) * (0x8000 + b.fslots * b.slices * 0x8000 * b.tiles)

/-- Write the slot of a complete contributor: its factor tiles, every sidecar byte E + 127 of the slice (R271). -/
def writeContributor (s : State) (b : Bucket) (step slot : Nat) (c : Contributor) (es : List Nat) : State :=
  let base := b.thinBase step + 0x8000 + slot * b.slices * 0x8000 * b.tiles
  es.zipIdx.foldl (fun s ej =>
    let a := base + 0x8000 * b.tiles * ej.2
    let s := (List.range b.segs).foldl (fun s g => trainWrite s (a + 8192 * g) 8192 (SMap.getD c.segs 0 (128 * ej.2 + g))) s
    let side := ((ej.1 + 127) % 256) * ((2 ^ 8192 - 1) / 255)
    (List.range b.tiles).foldl (fun s k => trainWrite s (tileAddr (a / 0x8000 + k) true 0) 0x400 side) s) s

/-- The scales of every slice of a bucket for a tag. -/
def allScales (step bucket : Nat) : Nat → Nat → Reading (List Nat)
  | 0, _ => pure []
  | n + 1, j => do
    let e ← scaleE ⟨step, bucket, j⟩
    let es ← allScales step bucket n (j + 1)
    pure (e :: es)

/-- A FACTOR frame at the root, with OPENED of its taglog word and the bucket's scales (R266, R270, R271): late once its tag has closed. -/
def factorTake (s : State) (u port : Nat) (f : CrsFrame) (opened : Nat) (es : List Nat) : State :=
  let t : Tag := ⟨f.step, f.bucket, f.slice⟩
  let b := s.bucket f.step f.bucket
  let x := s.unit u
  let mine (q : ThinTag) : Bool := q.step == f.step && q.bucket == f.bucket
  let q := (x.thin.find? mine).getD ⟨f.step, f.bucket, s.tick, [], 0, false, false⟩
  if !stepLater f.step opened || q.deadline || decide (b.fslots ≤ q.filled) then lateInput s u 2 port t f.segment
  else if !f.empty && es.getD f.slice 0 != f.e then lateInput s u 3 port t f.segment
  else
    let c := (q.contribs.find? (fun c => c.ident == f.contrib)).getD ⟨f.contrib, false, [], [], none⟩
    let c := if f.empty ∨ f.count ≠ 1 then { c with out := true }
      else { c with segs := SMap.set c.segs (128 * f.slice + f.segment) f.data, sats := if f.sat then NSet.insert c.sats f.slice else c.sats }
    let whole := !c.out && c.slot.isNone && decide (c.segs.length = b.segs * b.slices)
    let s := if whole then writeContributor s b f.step q.filled c es else s
    let c := if whole then { c with slot := some q.filled } else c
    let cs := if q.contribs.any (fun d => d.ident == c.ident) then q.contribs.map (fun d => if d.ident == c.ident then c else d)
      else q.contribs ++ [c]
    let q := { q with contribs := cs, filled := q.filled + b2n whole, voidSeen := q.voidSeen || f.voidSeen }
    let x := s.unit u
    s.setUnit u { x with thin := if x.thin.any mine then x.thin.map (fun p => if mine p then q else p) else x.thin ++ [q] }

/-- A FACTOR frame reaches the root (R270, R271). -/
def rootFactor (u port : Nat) (f : CrsFrame) : Reading Unit := do
  let opened ← openedOf ⟨f.step, f.bucket, f.slice⟩
  let s ← get
  let es ← allScales f.step f.bucket (s.bucket f.step f.bucket).slices 0
  modify (fun s => factorTake s u port f opened es)

/-- The largest magnitude of `n` signed bytes. -/
def bytesMax : Nat → Nat → Nat
  | 0, _ => 0
  | n + 1, v => max (signedOf 8 (v % 256)).natAbs (bytesMax n (v / 256))

/-- THINNED_CLOSE: the root closes a thinned tag, at its deadline or when FSLOTS_M1 + 1 contributors are complete, and hands
its record over (R270, R271). -/
def thinnedClose (s : State) (u : Nat) : State :=
  match (s.unit u).thin.find? (fun q => q.deadline || decide ((s.bucket q.step q.bucket).fslots ≤ q.filled)) with
  | none => s
  | some q =>
    let b := s.bucket q.step q.bucket
    let base := b.thinBase q.step
    if trainWaits s base 0x8000 || trainWaits s (s.scaleAddr q.bucket 0) (2 * b.slices) || trainWaits s (s.taglogAddr q.bucket 0) (4 * b.slices) then s
    else
      whenRead s (allScales q.step q.bucket b.slices 0) (fun es s =>
        let inc := q.contribs.filter (fun c => c.slot.isSome)
        let sat := inc.any (fun c => !c.sats.isEmpty)
        let head := q.step + 2 ^ 16 * q.bucket + 2 ^ 32 * inc.length + 2 ^ 56 * (b2n q.deadline + 2 * b2n sat + 4 * b2n q.voidSeen) +
          inc.foldl (fun n c => n + c.ident * 2 ^ (8 * (512 + 2 * c.slot.getD 0))) 0
        let s := trainWrite s base 0x8000 head
        let s := es.zipIdx.foldl (fun s ej =>
          let a := (inc.map (fun c => ((List.range b.segs).map (fun g => bytesMax 8192 (SMap.getD c.segs 0 (128 * ej.2 + g)))).foldl max 0)).foldl max 0
          let e' := nextE b ej.1 a 1 (inc.any (fun c => c.sats.contains ej.2))
          writeOpened (writeScale s q.bucket ej.2 e') ⟨q.step, q.bucket, ej.2⟩) s
        let x := s.unit u
        let s := s.setUnit u { x with thin := x.thin.filter (fun p => !(p.step == q.step && p.bucket == q.bucket)) }
        let s : State := { s with crs.records := s.crs.records ++ [(⟨q.step, q.bucket, 0⟩, some inc.length)] }
        s.bumpBy (unitPage u) (if q.deadline then 6 else 5) b.slices)

/-! ### The quantiser -/

/-- Take an input of this module's own to its root or its slot. -/
def localInput (b : Bucket) (t : Tag) (seg : Nat) (i : SlotIn) : Reading Unit :=
  if b.owner then rootInput b.redOut t seg i else modify (fun s => (hopInput s b.redOut t seg i).1)

/-- A FACTOR frame of this module's own: to its root, or sent (R269, R270). -/
def localFactor (b : Bucket) (f : CrsFrame) : Reading Unit :=
  if b.owner then rootFactor b.redOut 31 f else modify (fun s => sendFrame s b.redOut f)

/-- Record a void segment (R256); what its log entry stands for, which the layout of R392 has no room for, is kept beside the log. -/
def recordVoid (s : State) (t : Tag) (seg : Nat) : State :=
  let first := s.isFirst crsPage 0x134
  let s := s.record crsPage 0x134 (seg * 2 ^ 23 + t.slice)
  let s := if first then s.setRegN crsPage 0x138 (t.step * 2 ^ 16 + t.bucket) else s
  let s := ((s.raise crsPage 2).bump crsPage 3).logHw crsPage 0x018
  { s with crs.voidLog := ((t, seg, s.regN crsPage 0x100 % 2 ^ 16) :: s.crs.voidLog).take 16 }

/-- Count clamped elements (R255). -/
def clampsMade (s : State) (n : Nat) : State := if n = 0 then s else (s.raise crsPage 3).bumpBy crsPage 4 n

/-- One segment of a FULL slice (R255, R256). -/
def quantFull (b : Bucket) (h : Hand) (e : Nat) : Reading Unit := do
  let t := h.tag
  let v ← trainRead ((h.tile + h.seg / 4) % 2 ^ 33 * 0x8000 + h.seg % 4 * 8192) 8192
  if anyNonFinite 2048 v then
    modify (fun s => recordVoid s t h.seg)
    localInput b t h.seg ⟨31, 0, false, true, e, true, 0⟩
  else
    let s ← get
    let f (k bits : Nat) : Int × Bool := quantise b.stochastic (quantR s t k) (signedOf 8 e) (2 ^ (31 - b.h) - 1) bits
    let q := quantLanes f 32 2048 (2048 * h.seg) v
    modify (fun s => clampsMade s q.2)
    localInput b t h.seg ⟨31, 1, q.2 != 0, false, e, false, q.1⟩

/-- Read the four source pieces of a factor segment (R269). -/
def factorPieces (tile seg : Nat) : Nat → Reading (List Nat)
  | 0 => pure []
  | n + 1 => do
    let v ← trainRead ((tile + 4 * (seg / 4) + (3 - n)) % 2 ^ 33 * 0x8000 + seg % 4 * 8192) 8192
    let vs ← factorPieces tile seg n
    pure (v :: vs)

/-- The first segment of a factor slice that holds a non-finite element. -/
def factorVoid (tile : Nat) : Nat → Nat → Reading (Option Nat)
  | 0, _ => pure none
  | n + 1, g => do
    let vs ← factorPieces tile g 4
    if vs.any (anyNonFinite 2048) then pure (some g) else factorVoid tile n (g + 1)

/-- The elements of a factor segment: line after line, 32 elements of each piece (R269). -/
def factorElems (vs : List Nat) (line : Nat) : Nat :=
  vs.zipIdx.foldl (fun n v => n + v.1 / 2 ^ (1024 * line) % 2 ^ 1024 * 2 ^ (1024 * v.2)) 0

/-- One segment of a factor slice (R269): its void contribution is one EMPTY frame, and nothing after it. -/
def quantFactor (b : Bucket) (h : Hand) (e : Nat) : Reading Unit := do
  let t := h.tag
  let s ← get
  let frame : CrsFrame := { kind := 2, step := t.step, bucket := t.bucket, slice := t.slice, segment := h.seg, e := e, contrib := s.regN crsPage 0x100 % 2 ^ 16 }
  if s.crs.voids.contains (t.step, t.bucket) then pure ()
  else
    match ← (if h.seg = 0 then factorVoid h.tile b.segs 0 else pure none) with
    | some g =>
      modify (fun s => { recordVoid s t g with crs.voids := ((t.step, t.bucket) :: s.crs.voids).take 8192 })
      localFactor b { frame with empty := true, voidSeen := true, count := 0 }
    | none =>
      let vs ← factorPieces h.tile h.seg 4
      let f (k bits : Nat) : Int × Bool := quantise b.stochastic (quantR s t k) (signedOf 8 e - 6) 127 bits
      let q := (List.range 64).foldl (fun (d, k) l =>
        let (q, c) := quantLanes f 8 128 (128 * (64 * h.seg + l)) (factorElems vs l)
        (d + q * 2 ^ (1024 * l), k + c)) (0, 0)
      modify (fun s => clampsMade s q.2)
      localFactor b { frame with last := h.seg + 1 == b.segs, sat := q.2 != 0, linesM1 := 63, count := 1, data := q.1 }

/-- One segment of a hand. -/
def quantSegment (b : Bucket) (h : Hand) : Reading Unit := do
  let e ← scaleE h.tag
  if b.thinned then quantFactor b h e else quantFull b h e

/-- QUANTISE_SEGMENT: the quantiser converts the next segment of the hand at the head of the queue (R254-R256, R269). It
waits while the contribution buffer is full. -/
def quantiseSegment (s : State) : State :=
  match s.crs.hands with
  | [] => s
  | h :: rest =>
    let b := s.bucket h.tag.step h.tag.bucket
    if b.segs ≤ h.seg ∨ 256 ≤ s.contribHeld b.redOut then s
    else whenRead s (quantSegment b h) (fun _ s => { s with crs.hands := { h with seg := h.seg + 1 } :: rest })

/-- HAND_DONE: every source tile of the hand at the head has been read and its flag is added (R254). -/
def handDone (s : State) : State :=
  match s.crs.hands with
  | [] => s
  | h :: rest =>
    if h.seg < (s.bucket h.tag.step h.tag.bucket).segs then s
    else promoteGathers (addHandFlag { s with crs.hands := rest } h)

/-! ### Frames that arrive -/

/-- The children whose copies of a frame were stomped get the upstream retransmission under the same PSN (R356): the state, and those
children. -/
def resendStomped (s : State) (u : Nat) (f : CrsFrame) : State × List Nat :=
  let x := s.unit u
  let mine (k : Nat × CrsKey) : Bool := decide (k.2 = frameKey f)
  let s := s.setUnit u { x with stomped := x.stomped.filter (fun k => !mine k) }
  let outs := (x.stomped.filter mine).map (·.1)
  (outs.foldl (fun s c => resendFrame s c (frameKey f) f) s, outs)

/-- What every arriving frame meets first (R249, R251, R252, R258, R279): counted, dropped while the carousel is off, with a
reserved KIND or STEP, or of a tag that OLD_IDLE has closed. None when it goes no further. -/
def frameIn (s : State) (u : Nat) (f : CrsFrame) : State × Bool :=
  let p := unitPage u
  let s := s.bump p 0
  if !s.crsOn then (s, false)
  else if f.kind = 0 ∨ 4 < f.kind ∨ !isStep f.step then (s.bump p 10, false)
  else if s.tagClosed f.step then (lateInput s u 0 u ⟨f.step, f.bucket, f.slice⟩ f.segment, false)
  else (s, true)

/-- REDUCE_FRAME: a REDUCE frame's header arrives (R260, R266). A frame of reserved KIND is discarded here. -/
def reduceFrame (s : State) (port : Nat) (f : CrsFrame) : State × Bool :=
  let u := s.unitNo port
  if f.kind = 2 ∨ f.kind = 3 ∨ f.kind = 4 then (s, false)
  else
    let (s', ok) := frameIn s u f
    if !ok then (s', true)
    else
      let b := s'.bucket f.step f.bucket
      let t : Tag := ⟨f.step, f.bucket, f.slice⟩
      let i : SlotIn := ⟨u, f.count, f.sat, f.voidSeen, f.e, f.empty, f.data⟩
      if !b.valid || !b.redIn u || b.thinned then (s', true)
      else if b.owner then
        match rootInput b.redOut t f.segment i s' with
        | .ok (_, s') => (s', true)
        | .error (a, n) => (trainAsk s a n, false)
      else
        match hopInput s' b.redOut t f.segment i with
        | (s', true) => (s', true)
        | (_, false) => (evictFor s b.redOut t f.segment i, false)

/-- FACTOR_FRAME: a FACTOR frame is forwarded alone, or collected at the root (R270). -/
def factorFrame (s : State) (port : Nat) (f : CrsFrame) : State × Bool :=
  let u := s.unitNo port
  if f.kind ≠ 2 then (s, false)
  else
    let (s', ok) := frameIn s u f
    let b := s'.bucket f.step f.bucket
    if !ok || !b.valid || !b.redIn u || !b.thinned then (s', true)
    else if b.owner then
      match rootFactor b.redOut u f s' with
      | .ok (_, s') => (s', true)
      | .error (a, n) => (trainAsk s a n, false)
    else
      let (s', again) := resendStomped s' u f
      (if again.isEmpty then sendFrame s' b.redOut f else s', true)

/-! ### Parameter multicast -/

/-- Credits a child has left (R275). -/
def State.credit (s : State) (c : Nat) : Nat := SMap.getD s.crs.credit 512 c

/-- The child that stands for a unit's local delivery (R275). -/
def localChild (u : Nat) : Nat := 32 + u

/-- A child gives back credits for segments that it has freed (R275). -/
def addCredit (s : State) (c n : Nat) : State := { s with crs.credit := SMap.set s.crs.credit c (min 512 (s.credit c + n)) }

/-- A frame's tag. -/
def frameTag (f : CrsFrame) : Tag := ⟨f.step, f.bucket, f.slice⟩

/-- Does a segment wait in a unit's multicast buffer for some child? -/
def CrsUnit.waits (x : CrsUnit) (t : Tag) (seg : Nat) : Bool := x.mc.any (fun m => frameTag m.frame == t && m.frame.segment == seg)

/-- Segments that a unit has collected (R274), in collection or waiting for admission. -/
def State.collected (s : State) (u : Nat) : List (Tag × Nat) :=
  let asked := s.step.asks.filterMap (fun a => match a.path with | .multicast v p => if v = u then some p else none | _ => none)
  ((s.unit u).parts ++ asked).flatMap (fun p => p.segs.map (fun g => (p.tag, g.1)))

/-- Segments in a unit's multicast buffer (R280). -/
def State.mcSegs (s : State) (u : Nat) : Nat :=
  (s.unit u).mc.length + ((s.collected u).filter (fun k => !(s.unit u).waits k.1 k.2)).length

/-- The node of a port gets back credits for segments that this module has freed (R275). -/
def returnCredits (s : State) (u n : Nat) : State :=
  { s with crs.returned := SMap.set s.crs.returned u (SMap.getD s.crs.returned 0 u + n) }

/-- A segment leaves a unit's buffer for a child or a slice: its credit goes back once nothing else there holds it (R275). The owner's own
segments came with no credit. -/
def freeSegment (s : State) (u : Nat) (t : Tag) (seg : Nat) : State :=
  if (s.bucket t.step t.bucket).owner || (s.unit u).waits t seg || (s.collected u).contains (t, seg) then s else returnCredits s u 1

/-- The segments of a collected slice leave a unit's buffer (R275). -/
def freePartial (s : State) (u : Nat) (p : Partial) : State :=
  p.segs.foldl (fun s g => freeSegment s u p.tag g.1) (addCredit s (localChild u) p.segs.length)

/-- A parameter segment is delivered to this module: a slice whose segments are all here asks for admission (R274). -/
def collect (s : State) (u : Nat) (f : CrsFrame) : State :=
  let t := frameTag f
  let b := s.bucket f.step f.bucket
  let x := s.unit u
  let p := (x.parts.find? (fun p => p.tag == t)).getD ⟨t, f.e, []⟩
  let p := { p with e := f.e, segs := SMap.set p.segs f.segment f.data }
  let rest := x.parts.filter (fun q => !(q.tag == t))
  if p.segs.length = b.psegs then
    let s := s.setUnit u { x with parts := rest }
    { s with step.asks := s.step.asks ++ [⟨t.step, b.layer, b.sliceBase + t.slice, .multicast u p⟩] }
  else s.setUnit u { x with parts := rest ++ [p] }

/-- A child takes a segment for which it has credit (R275). -/
def serveChild (s : State) (c : Nat) (f : CrsFrame) : State :=
  let left := s.credit c - 1
  let s : State := { s with crs.credit := SMap.set s.crs.credit c left }
  let s : State := if left = 0 then { s with crs.dry := SMap.set s.crs.dry c s.tick } else s
  if 32 ≤ c then collect s (c - 32) f else sendFrame s c f

/-- Segments that wait for a child go out while it has credit, oldest first (R275). -/
def drainChild (s : State) (c : Nat) : Nat → State
  | 0 => s
  | fuel + 1 =>
    if s.credit c = 0 then s
    else
      match s.crs.units.findSome? (fun e => (e.2.mc.find? (fun m => m.children.contains c)).map (fun m => (e.1, m))) with
      | none => s
      | some (u, m) =>
        let x := s.unit u
        let mc := x.mc.map (fun q => if q = m then { q with children := NSet.erase q.children c } else q)
        let s := s.setUnit u { x with mc := mc.filter (fun q => !q.children.isEmpty) }
        drainChild (freeSegment (serveChild s c m.frame) u (frameTag m.frame) m.frame.segment) c fuel

/-- Is a slice of a layer already admitted for a step (R236)? -/
def State.admittedSlice (s : State) (step layer i : Nat) : Bool :=
  let d := stepDiff step (field (s.stepEntry layer) 63 48)
  decide (32766 ≤ d) || d == 0 || (d == 1 && bitAt (SMap.getD s.step.bitmaps 0 layer) i)

/-- Schedule a pull unless it is scheduled. -/
def addPull (s : State) (t : Tag) (retry : Option Nat) : State :=
  if s.crs.pulls.any (fun p => p.tag == t && p.hand.isNone) then s
  else { s with crs.pulls := insertPull ⟨t, none, retry⟩ s.crs.pulls }

/-- The buckets whose MC_IN is a port, for a step. -/
def State.bucketsFrom (s : State) (step q : Nat) : List Nat :=
  let k := s.bankOf step
  (s.crs.banks.filterMap (fun e => if e.1 / 16384 = k ∧ e.1 % 4 = 0 then some (e.1 % 16384 / 4) else none)).filter (fun b =>
    let x := s.bucket step b
    x.valid && x.mcIn == q)

/-- A parameter header arrives in shard mode (R278). -/
def noteHeader (s : State) (f : CrsFrame) : State :=
  let k := 1024 * f.bucket + f.slice
  let old := match SMap.get s.crs.headers k with
    | some (step, segs) => if step = f.step then segs else []
    | none => []
  { s with crs.headers := SMap.set s.crs.headers k (f.step, NSet.insert old f.segment) }

/-- Has a slice been received whole (R276): every header of it in shard mode, otherwise the slice, admitted or waiting for admission? -/
def State.receivedWhole (s : State) (b : Bucket) (t : Tag) : Bool :=
  if b.shard then
    (match SMap.get s.crs.headers (1024 * t.bucket + t.slice) with
    | some (step, segs) => decide (step = t.step ∧ segs.length = b.psegs)
    | none => false)
  else
    s.step.asks.any (fun a => match a.path with | .multicast _ p => p.tag == t | _ => false) ||
      s.admittedSlice t.step b.layer (b.sliceBase + t.slice)

/-- Pulls of every slice of a step that has not been received whole from a port (R276). -/
def schedulePulls (s : State) (step q : Nat) : State :=
  (s.bucketsFrom step q).foldl (fun s k =>
    let b := s.bucket step k
    if !b.mcLocal then s
    else (List.range b.slices).foldl (fun s j => if s.receivedWhole b ⟨step, k, j⟩ then s else addPull s ⟨step, k, j⟩ none) s) s

/-- Discard the partial slices of a step that a unit collects (R275, R276). -/
def dropPartials (s : State) (u step : Nat) : State :=
  let x := s.unit u
  let s := s.setUnit u { x with parts := x.parts.filter (fun p => p.tag.step != step) }
  (x.parts.filter (fun p => p.tag.step == step)).foldl (fun s p => freePartial s u p) s

/-- Discard the segments of a step that came from a unit's port and wait for a child (R276). -/
def dropWaiting (s : State) (u step : Nat) : State :=
  let x := s.unit u
  let gone (m : McSeg) : Bool := m.frame.step == step && !(s.bucket step m.frame.bucket).owner
  let s := s.setUnit u { x with mc := x.mc.filter (fun m => !gone m) }
  (x.mc.filter gone).foldl (fun s m => freeSegment s u (frameTag m.frame) m.frame.segment) s

/-- Send a PRUNE frame on a port (R275). -/
def sendPrune (s : State) (c step : Nat) : State :=
  sendFrame s c { kind := 4, empty := true, step := step, bucket := 0, slice := 0, segment := 0 }

/-- Prune a child for a step (R275). -/
def pruneChild (s : State) (u c step : Nat) : State :=
  let last (m : McSeg) : Bool := m.frame.step == step && m.children == [c]
  let drop (x : CrsUnit) : CrsUnit :=
    { x with mc := (x.mc.filter (fun m => !last m)).map (fun m => if m.frame.step = step then { m with children := NSet.erase m.children c } else m) }
  let freed := s.crs.units.flatMap (fun e => (e.2.mc.filter last).map (fun m => (e.1, m.frame)))
  let s : State := { s with crs.units := s.crs.units.map (fun e => (e.1, drop e.2)), crs.pruned := ((c, step) :: s.crs.pruned).take 8192 }
  let s := freed.foldl (fun s e => freeSegment s e.1 (frameTag e.2) e.2.segment) s
  let s := if 32 ≤ c then schedulePulls (dropPartials s u step) step u else sendPrune s c step
  ((s.record (unitPage u) 0x118 (min c 31 * 2 ^ 16 + step)).raise (unitPage u) 2).bump (unitPage u) 7

/-- The child whose waiting segment is the oldest in a unit, with its step. -/
def CrsUnit.oldestWait (x : CrsUnit) : Option (Nat × Nat) :=
  match x.mc with
  | m :: _ => match m.children with | c :: _ => some (c, m.frame.step) | [] => none
  | [] => none

/-- A full buffer prunes the child whose waiting segment is the oldest, until there is room (R275). -/
def makeMcRoom (s : State) (u : Nat) : Nat → State
  | 0 => s
  | fuel + 1 =>
    if s.mcSegs u < 512 then s
    else match (s.unit u).oldestWait with
      | some (c, step) => makeMcRoom (pruneChild s u c step) u fuel
      | none => s

/-- A parameter segment goes to the children of its node that the step has not pruned: those with credit and nothing
waiting take it at once, for the others it stays in the buffer (R273, R275). -/
def offer (s : State) (u : Nat) (f : CrsFrame) (children : List Nat) : State :=
  let cs := children.filter (fun c => !s.crs.pruned.contains (c, f.step))
  let waits (s : State) (c : Nat) : Bool :=
    s.credit c == 0 || s.crs.units.any (fun e => e.2.mc.any (fun m => m.children.contains c))
  let (s, later) := cs.foldl (fun (s, later) c => if waits s c then (s, later ++ [c]) else (serveChild s c f, later)) (s, [])
  let s := if later.isEmpty then s else makeMcRoom s u 64
  let later := later.filter (fun c => !s.crs.pruned.contains (c, f.step))
  if later.isEmpty then freeSegment s u (frameTag f) f.segment
  else s.setUnit u { s.unit u with mc := (s.unit u).mc ++ [⟨f, later⟩] }

/-- The lines of a committed slice that the owner sends, nothing in shard mode (R273). -/
def multicastLines (b : Bucket) (t : Tag) : Reading Nat :=
  if b.shard then pure 0 else trainRead (b.paramAddr t) (128 * b.plines)

/-- PARAM_MULTICAST: the owner sends a committed slice on its MC_OUT ports (R273). -/
def paramMulticast (s : State) : State :=
  match s.crs.multicast with
  | [] => s
  | (t, e) :: rest =>
    let b := s.bucket t.step t.bucket
    let this (c : Commit) : Bool := c.step == t.step && c.bucket == t.bucket && c.slice == t.slice
    if s.step.commits.any this || s.step.homing.any (fun h => this h.commit) || trainWaits s (s.taglogAddr t.bucket t.slice) 2 then s
    else whenRead s (multicastLines b t) (fun v s =>
        let s := trainWrite { s with crs.multicast := rest } (s.taglogAddr t.bucket t.slice) 2 t.step
        (List.range b.psegs).foldl (fun s g =>
          let lines := min 64 (b.plines - 64 * g)
          offer s b.redOut { kind := 3, empty := b.shard, last := g + 1 == b.psegs, step := t.step, bucket := t.bucket
                             slice := t.slice, segment := g, linesM1 := if b.shard then 0 else lines - 1, e := e
                             data := v / 2 ^ (65536 * g) % 2 ^ (1024 * lines) } b.mcOut) s)

/-- PARAM_FRAME: a PARAM frame arrives on MC_IN and is forwarded and collected (R273, R274, R356). -/
def paramFrame (s : State) (port : Nat) (f : CrsFrame) : State × Bool :=
  let u := s.unitNo port
  if f.kind ≠ 3 then (s, false)
  else
    let (s', ok) := frameIn s u f
    let b := s'.bucket f.step f.bucket
    if !ok || !b.valid || b.mcIn != u then (s', true)
    else if b.shard && b.mcLocal && trainWaits s' (s'.scaleAddr f.bucket f.slice) 2 then (s, false)
    else
      let (s', again) := resendStomped s' u f
      let s' := if b.shard && b.mcLocal then noteHeader (writeScale s' f.bucket f.slice f.e) f else s'
      let out := b.mcOut.filter (fun c => !again.contains c)
      (offer s' u f (if b.mcLocal && !b.shard then out ++ [localChild u] else out), true)

/-- PRUNE: a child for which a segment waits has held no credit for CRS.MC_HOLD ticks (R275). -/
def pruneRow (s : State) (u : Nat) : State :=
  let x := s.unit u
  let dryOut (c : Nat) : Bool :=
    s.credit c == 0 && decide ((SMap.getD s.crs.dry 0 c) + s.regN (unitPage u) 0x108 ≤ s.tick)
  match x.mc.findSome? (fun m => (m.children.find? dryOut).map (fun c => (c, m.frame.step))) with
  | some (c, step) => pruneChild s u c step
  | none => s

/-- PRUNED: a PRUNE frame arrives (R276). -/
def prunedFrame (s : State) (port : Nat) (f : CrsFrame) : State × Bool :=
  let u := s.unitNo port
  if f.kind ≠ 4 then (s, false)
  else
    let (s, ok) := frameIn s u f
    if !ok then (s, true)
    else
      let s := (s.raise (unitPage u) 3).bump (unitPage u) 8
      let s := dropWaiting (dropPartials s u f.step) u f.step
      let outs := ((s.bucketsFrom f.step u).flatMap (fun b => (s.bucket f.step b).mcOut)).eraseDups
      (schedulePulls (outs.foldl (fun s c => sendPrune s c f.step) s) f.step u, true)

/-- MC_CREDIT: a child returns a credit, and what waits for it goes out (R275). -/
def mcCredit (s : State) (port : Nat) : State :=
  let c := s.unitNo port
  drainChild (addCredit s c 1) c 1024

/-- A link comes up: its child grants 512 credits (R275). -/
def grantCredits (s : State) (port : Nat) : State :=
  let c := s.unitNo port
  drainChild { s with crs.credit := SMap.set s.crs.credit c 512 } c 1024

/-! ### Admission -/

/-- Write an admitted slice home: its commit follows once its homes have accepted the whole of it (R237). -/
def homeSlice (s : State) (b : Bucket) (t : Tag) (v : Nat) (rule : Option Nat) : State :=
  let a := b.paramAddr t
  let s := { s with step.homing := s.step.homing ++ [⟨⟨t.step, b.layer, t.bucket, t.slice⟩, (accessPieces a (128 * b.plines)).length, false, rule⟩] }
  unitPost s .train (some s.trainPart) a (128 * b.plines) v false (some (.params t))

/-- Write an admitted slice home with its scale, the scale of a slice whose home has refused it staying as it is (R237, R274, R277). -/
def homeParams (s : State) (b : Bucket) (t : Tag) (v e : Nat) : State :=
  let s := homeSlice s b t v none
  let this (c : Commit) : Bool := decide (c = ⟨t.step, b.layer, t.bucket, t.slice⟩)
  if s.step.commits.any this || s.step.homing.any (fun h => this h.commit && !h.refused) then writeScale s t.bucket t.slice e else s

/-- Ticks until a refused pull, gather or update slice is tried again (R277). -/
def State.pullRetry (s : State) : Nat := max 100 (s.regN crsPage 0x130)

/-- The lines of a collected slice. -/
def Partial.lines (p : Partial) : Nat := p.segs.foldl (fun n g => n + g.2 * 2 ^ (65536 * g.1)) 0

/-- Change a slice in progress of the update unit. -/
def Update.mapSlice (u : Update) (n : Nat) (f : UpdSlice → UpdSlice) : Update :=
  { u with slices := u.slices.map (fun e => (e.1, if e.1 = n then f e.2 else e.2)) }

/-- ADMISSION: the step unit answers the first path that asks, and the path acts on the outcome (R236, R274, R277, R299). -/
def admission (s : State) : State :=
  match s.step.asks with
  | [] => s
  | a :: rest =>
    let s0 : State := { s with step.asks := rest }
    let home (s : State) (t : Tag) : Bool :=
      trainWaits s ((s.bucket t.step t.bucket).paramAddr t) (128 * (s.bucket t.step t.bucket).plines) || trainWaits s (s.scaleAddr t.bucket t.slice) 2
    match a.path with
    | .multicast u p =>
      if home s p.tag then s
      else
        let (s, code) := admitTag s0 a.step a.layer a.idx
        let b := s.bucket p.tag.step p.tag.bucket
        let s := drainChild (freePartial s u p) (localChild u) 1024
        match code with
        | 0 => homeParams s b p.tag p.lines p.e
        | 2 => addPull s p.tag none
        | 3 => addPull s p.tag none
        | _ => s
    | .pull t v e =>
      if home s t then s
      else
        let (s, code) := admitTag s0 a.step a.layer a.idx
        match code with
        | 0 => (homeParams s (s.bucket t.step t.bucket) t v e).bump crsPage 5
        | 2 => addPull s t (some (s.tick + s.pullRetry))
        | 3 => addPull s t (some (s.tick + s.pullRetry))
        | _ => s
    | .update n =>
      let (s, code) := admitTag s0 a.step a.layer a.idx
      match code with
      | 0 => { s with upd := s.upd.mapSlice n (fun x => { x with admitted := true, retry := none }) }
      | 2 => { s with upd := s.upd.mapSlice n (fun x => { x with retry := some (s.tick + s.pullRetry) }) }
      | 3 => { s with upd := s.upd.mapSlice n (fun x => { x with retry := some (s.tick + s.pullRetry) }) }
      | _ => { s.bump ⟨.upd, 0⟩ 10 with upd := { s.upd with slices := SMap.del s.upd.slices n } }

/-! ### Pulls and gathers -/

/-- Record a failed pull or gather (R277, R278). -/
def pullFailed (s : State) (p : PullReq) : State :=
  let g := p.hand.isSome
  let first := s.isFirst crsPage 0x13C
  let s := s.record crsPage 0x13C (b2n g * 2 ^ 29 + p.tag.slice)
  let s := if first then s.setRegN crsPage 0x140 (p.tag.step * 2 ^ 16 + p.tag.bucket) else s
  (s.raise crsPage (if g then 5 else 4)).bump crsPage (if g then 9 else 7)

/-- Mark lines of a store: line `l` of a slice is the store's line `at_ + (l - first)`. -/
def marksAt (marks : NSet) (at_ first : Nat) (bad : NSet) : NSet := bad.foldl (fun ms l => NSet.insert ms (at_ + (l - first))) marks

/-- A gather writes its slice into consecutive slots of a core's store, lines that carry poison marked there, and adds its flag (R278). -/
def gatherDone (s : State) (h : Hand) (b : Bucket) (v : Nat) (bad : NSet) : State :=
  let core := 7 * h.cluster + h.core
  let k := kindOfIdx h.core
  let dk := field h.dest 15 13
  let sc : StreamCtx := { cur := { dkind := dk, first := field h.dest 11 6 }, half := field h.dest 12 12 }
  let c := SMap.getD s.cores {} core
  let n := 128 * b.plines
  let c := (List.range ((n + 32767) / 32768)).foldl (fun (c : Core) i =>
    let a := (destAddr sc ((field h.dest 11 6 + i) % ringSize k dk)).1
    let m := min 32768 (n - 32768 * i)
    let c := if dk < 2 then c.logHalf c.now false a m else c
    { c with store := Mem.write c.store a m (v / 2 ^ (8 * 32768 * i) % 2 ^ (8 * m))
             marks := marksAt (NSet.eraseRange c.marks (a / 128) (m / 128)) (a / 128) (256 * i)
               (bad.filter (fun l => decide (256 * i ≤ l ∧ l < 256 * i + m / 128))) }) c
  (addHandFlag { s with cores := SMap.set s.cores core c } h).bump crsPage 8

/-- A Talel memory read sent to the owner of a bucket (R277). -/
def pullRead (s : State) (b : Bucket) (a n : Nat) : State :=
  if (s.tctx b.ownerCtx).st ≠ 1 then s
  else sendMsg s b.ownerCtx { cls := 2, tc := tcOf 2, len := 12, data := n * 2 ^ 16 + a * 2 ^ 32 }

/-- The reads of a slice's lines, at most 8,192 bytes each. -/
def pullLines (s : State) (b : Bucket) (a : Nat) : Nat → Nat → State
  | 0, _ => s
  | fuel + 1, n => if n = 0 then s else pullLines (pullRead s b a (min n 8192)) b (a + 8192) fuel (n - 8192)

/-- The lines of a slice at home, each with what answered it. -/
def linesRead (a : Nat) : Nat → Reading (List LoadAns)
  | 0 => pure []
  | n + 1 => do
    let x ← lineRead a
    let r ← linesRead (a + 128) n
    pure (x :: r)

/-- Lines as one number, and which of them carry poison; none where a home refused one. -/
def linesOf (a : Nat) (xs : List LoadAns) : Option (Nat × NSet) :=
  if xs.any (fun x => x == .error || x == .denied) then none
  else
    let v := xs.zipIdx.foldl (fun v x => v + (ansBits (a + 128 * x.2) 128 x.1).1 * 2 ^ (1024 * x.2)) 0
    some (v, (xs.zipIdx.filter (fun x => x.1 == .poison)).map (·.2))

/-- A gather of this module's own shard reads its own memory, in the order of R277: none where the read fails, `some none` where the slice
is not written yet (R278). -/
def ownGather (b : Bucket) (t : Tag) (log : Nat) : Reading (Option (Option (Nat × NSet))) := do
  let w1 ← tableRead log 4
  if 32766 ≤ stepDiff (field w1 15 0) t.step then pure (some none)
  else
    let xs ← linesRead (b.paramAddr t) b.plines
    let w2 ← tableRead log 4
    pure (if 3 ≤ stepDiff (field w2 31 16) t.step then none else (linesOf (b.paramAddr t) xs).map some)

/-- PULL: the pull engine serves the first pull or gather that is not waiting (R277, R278). The arguments are the owner's
answers: the reads succeeded, first taglog word, lines, scale byte, second taglog word. The reads after the first go out once it shows
the slice written. A gather on this module's own shard reads its own memory. -/
def pullSlice (s : State) (ok : Bool) (w1 data e w2 : Nat) : State :=
  if !bitAt (s.regN crsPage 0x010) 1 then s
  else
    match s.crs.pulls.find? (fun p => p.retry.isNone) with
    | none => s
    | some p =>
      let t := p.tag
      let b := s.bucket t.step t.bucket
      let gone (s : State) : State := { s with crs.pulls := dropFirst (fun q => q == p) s.crs.pulls }
      let later (s : State) : State :=
        let s := gone s
        { s with crs.pulls := insertPull { p with retry := some (s.tick + s.pullRetry) } s.crs.pulls }
      let log := s.taglogAddr t.bucket t.slice
      match b.owner, p.hand with
      | true, some h => whenRead s (ownGather b t log) (fun r s =>
          match r with
          | none => pullFailed (gone s) p
          | some none => later s
          | some (some (v, bad)) => gatherDone (gone s) h b v bad)
      | _, _ =>
        let s := pullRead s b log 4
        if !ok || (s.tctx b.ownerCtx).st != 1 then pullFailed (gone s) p
        else if 32766 ≤ stepDiff (field w1 15 0) t.step then later s
        else
          let s := if b.shard && p.hand.isNone then s else pullLines s b (b.paramAddr t) 256 (128 * b.plines)
          let s := gone (pullRead (pullRead s b (s.scaleAddr t.bucket t.slice / 4 * 4) 4) b log 4)
          let data := data % 2 ^ (1024 * b.plines)
          if 3 ≤ stepDiff (field w2 31 16) t.step then pullFailed s p
          else match p.hand with
            | some h => gatherDone s h b data []
            | none =>
              if b.shard then writeScale s t.bucket t.slice e
              else { s with step.asks := s.step.asks ++ [⟨t.step, b.layer, b.sliceBase + t.slice, .pull t data e⟩] }

/-- PULL_RETRY: PULL_RETRY ticks have passed and a pull or gather is tried again (R277, R278). -/
def pullRetryRow (s : State) : State :=
  let due (p : PullReq) : Bool := match p.retry with | some t => decide (t ≤ s.tick) | none => false
  match s.crs.pulls.find? due with
  | none => s
  | some p =>
    { s.bump crsPage 6 with crs.pulls := s.crs.pulls.map (fun q => if q = p then { q with retry := none } else q) }

/-! ### Cut-through failure -/

/-- A frame that a unit sends on a child's port is stomped: on the wire it ends with an invalid FCS and waits for the upstream
retransmission; one that has not begun to leave is taken out and goes out with that retransmission (R356). -/
def stompCopy (s : State) (u c : Nat) (f : CrsFrame) : State :=
  let s := if s.queued c (frameKey f) then (let s := unqueue s c (frameKey f); if f.kind = 3 then addCredit s c 1 else s) else s
  if s.onWire c (frameKey f) then
    let x := s.unit u
    stomp (s.setUnit u { x with stomped := x.stomped ++ [(c, frameKey f)] }) c (frameKey f)
  else s

/-- A segment that failed leaves a unit's multicast buffer and its slice (R356). -/
def dropSegment (s : State) (u : Nat) (f : CrsFrame) : State :=
  let x := s.unit u
  let n := if (s.collected u).contains (frameTag f, f.segment) then 1 else 0
  let cut (p : Partial) : Partial := { p with segs := SMap.del p.segs f.segment }
  let mine (a : Ask) : Option Partial := match a.path with
    | .multicast v p => if v = u ∧ p.tag = frameTag f then some p else none
    | _ => none
  let back := (s.step.asks.filterMap mine).map cut
  let parts := x.parts.map (fun p => if p.tag == frameTag f then cut p else p)
  let mc := x.mc.filter (fun m => !(frameTag m.frame == frameTag f && m.frame.segment == f.segment))
  let s := s.setUnit u { x with parts := parts ++ back, mc := mc }
  addCredit { s with step.asks := s.step.asks.filter (fun a => (mine a).isNone) } (localChild u) n

/-- CUT_THROUGH_FAIL: an input whose forwarding has begun fails its FCS or ICV (R356): the outgoing frame is stomped; a REDUCE
frame is sent again without the input, a FACTOR or PARAM frame waits for the upstream retransmission. Its message has not been
accepted, so that its retransmission brings the frame again. -/
def cutThroughFail (s : State) (port : Nat) (m : CrsMsg) (f : CrsFrame) : State :=
  let q := s.unitNo port
  let c := s.tctx m.ctx.val
  let again (s : State) : State := s.putTctx m.ctx.val { s.tctx m.ctx.val with early := NSet.erase (s.tctx m.ctx.val).early m.psn }
  let t := frameTag f
  let b := s.bucket f.step f.bucket
  if c.kind ≠ 2 ∨ c.port ≠ q + 1 ∨ !c.early.contains m.psn then s
  else if f.kind = 1 then
    let u := b.redOut
    match (s.unit u).kept.find? (fun k => k.tag == t && k.seg == f.segment && k.ins.any (fun i => i.port == q)) with
    | none => s
    | some k =>
      if !s.unsent u t f.segment then s
      else
        let ins := k.ins.filter (fun i => i.port != q)
        let e := match k.ins.find? (fun i => i.port == 31) with
          | some i => i.e
          | none => match k.ins with | i :: _ => i.e | [] => 0
        let (g, _) := combined b t f.segment e ins
        let x := s.unit u
        let s := s.setUnit u { x with kept := x.kept.map (fun j => if j = k then { j with ins := ins } else j) }
        let s := if s.onWire u (frameKey g) then stomp s u (frameKey g) else s
        again (resendFrame s u (frameKey g) g)
  else if f.kind = 2 then again (stompCopy s q b.redOut f)
  else if f.kind = 3 then again (b.mcOut.foldl (fun s c => stompCopy s q c f) (dropSegment s q f))
  else s

/-- CRS.STATUS of a unit page (R280). -/
def unitStatus (s : State) (u : Nat) : Nat := (s.unit u).slots.length * 2 ^ 16 + min (s.mcSegs u) 512

end Sys2Proof.Machine
end

