-- ==== Sys2Proof/Machine/Update.lean ====
section
/-! DEFINITION. The update unit (R282-R301), and the end of an old bucket-table bank (R252). -/

namespace Sys2Proof.Machine

/-- The UPD page. -/
def updPage : Page := ⟨.upd, 0⟩

/-- The source identity of the update unit's external pushes (R84, R85); other cores push under their index, below 280. -/
abbrev srcUpdate : Nat := 280

/-! ### Layer table (R282) -/

/-- The six words of a layer's entry. -/
def State.layerWords (s : State) (l : Nat) : List Nat := (List.range 6).map (fun w => (SMap.getD s.upd.table 0 (8 * l + w)).toNat)

/-- WARM_RULE. -/
def lWarm (w : List Nat) : Nat := field (w.getD 0 0) 62 60
/-- MAIN_RULE. -/
def lMain (w : List Nat) : Nat := field (w.getD 0 0) 59 57
/-- PARAM_FMT is BF16. -/
def lBf16 (w : List Nat) : Bool := bitAt (w.getD 0 0) 56
/-- S1_EN. -/
def lS1 (w : List Nat) : Bool := bitAt (w.getD 0 0) 55
/-- S2_EN. -/
def lS2 (w : List Nat) : Bool := bitAt (w.getD 0 0) 54
/-- CLUSTER. -/
def lCluster (w : List Nat) : Nat := field (w.getD 0 0) 53 48
/-- VMASK. -/
def lVmask (w : List Nat) : Nat := field (w.getD 0 0) 47 44
/-- REBUILD_MC. -/
def lRebuild (w : List Nat) : Nat := field (w.getD 0 0) 43 43
/-- FIRST_STEP. -/
def lFirst (w : List Nat) : Nat := field (w.getD 0 0) 39 24
/-- WARMUP: 0 acts as 1. -/
def lWarmup (w : List Nat) : Nat := max 1 (field (w.getD 0 0) 23 16)
/-- STAT_EXP. -/
def lStatExp (w : List Nat) : Int := signedOf 8 (w.getD 0 0)
/-- LSCALE. -/
def lScale (w : List Nat) : Nat := field (w.getD 1 0) 63 32
/-- DECAY. -/
def lDecay (w : List Nat) : Nat := field (w.getD 1 0) 31 16
/-- C, the columns of a slice. -/
def lCols (w : List Nat) : Nat := field (w.getD 1 0) 15 6 + 1
/-- BETA1. -/
def lBeta (w : List Nat) : Nat := field (w.getD 2 0) 63 32
/-- EPS. -/
def lEps (w : List Nat) : Nat := field (w.getD 2 0) 31 0
/-- LAMBDA. -/
def lLambda (w : List Nat) : Nat := field (w.getD 3 0) 63 32
/-- N, the parameter slices of the layer. -/
def lSlices (w : List Nat) : Nat := field (w.getD 3 0) 31 22 + 1
/-- STAT_BASE. -/
def lStatBase (w : List Nat) : Nat := field (w.getD 4 0) 47 0
/-- STATE_BASE. -/
def lStateBase (w : List Nat) : Nat := field (w.getD 5 0) 47 0

/-- UPD_LDATA_WRITE: a write of UPD.LDATA_HI commits a word while EN is 0 (R282, R300): 0 committed, 1 ignored, 2 reserved. -/
def updLdataWrite (s : State) (v : Nat) : State × Nat :=
  let sel := s.regN updPage 0x11C
  if bitAt (s.regN updPage 0x010) 0 then (s, 1)
  else if 5 < field sel 18 16 then (s, 2)
  else
    let word := v * 2 ^ 32 + s.regN updPage 0x120
    ({ s.setRegN updPage 0x124 v with upd.table := SMap.set s.upd.table (8 * field sel 9 0 + field sel 18 16) (BitVec.ofNat 64 word) }, 0)

/-- UPD_LDATA_READ: a read of UPD.LDATA_LO snapshots a word (R300). -/
def updLdataRead (s : State) : State × Nat :=
  let sel := s.regN updPage 0x11C
  let w := (SMap.getD s.upd.table 0 (8 * field sel 9 0 + field sel 18 16)).toNat
  ({ s with snaps := SMap.set s.snaps (updPage.key 0x124) (BitVec.ofNat 32 (w / 2 ^ 32)) }, w % 2 ^ 32)

/-- Record an event in UPD.ERR (R300): 1 DESC_ERR, 2 SUBMIT_REJECT, 3 BATCH_TIMEOUT, 4 LAG_MISSING, 5 STALE_TAG. -/
def updError (s : State) (kind : Nat) (t : Tag) (layer : Nat) : State :=
  let first := s.isFirst updPage 0x128
  let s := s.record updPage 0x128 (kind * 2 ^ 27 + t.slice * 2 ^ 10 + layer)
  if first then s.setRegN updPage 0x12C (t.step * 2 ^ 16 + t.bucket) else s

/-- Are the carousel and the update unit both enabled (R299)? -/
def State.updOn (s : State) : Bool := s.crsOn && bitAt (s.regN updPage 0x010) 0

/-! ### Slices handed in -/

/-- A slice joins the input queue of 256, or is discarded and counted (R299). -/
def updEnqueue (s : State) (t : Tag) (src : UpdSrc) : State :=
  if !s.updOn || decide (256 ≤ s.upd.queue.length) then s.bump updPage 10
  else { s with upd.queue := s.upd.queue ++ [(t, src)] }

/-- RECORD_HANDOFF: a root hands a closed FULL slice over (R284). It waits while the input queue is full. -/
def recordHandoff (s : State) : State :=
  match s.crs.records.find? (fun r => r.2.isNone) with
  | none => s
  | some (t, k) =>
    if s.updOn && decide (256 ≤ s.upd.queue.length) then s
    else updEnqueue { s with crs.records := dropFirst (fun r => r == (t, k)) s.crs.records } t .record

/-- An external push by a unit of the block: it takes one of its credits (R84). -/
def unitPush (s : State) (core : Nat) (x : Ctx) (q src : Nat) (data : Nat) : State :=
  let c := SMap.getD s.cores {} core
  let c := c.modCtx x (fun k => k.setQueue q { k.queue q with credits := (k.queue q).credits - 1 })
  { s with cores := SMap.set s.cores core { c with pushIn := c.pushIn ++ [⟨x, q, src, BitVec.ofNat 512 data⟩] } }

/-- THINNED_HANDOFF: a thinned record reaches the unit (R285): with COUNT 0 its slices follow one another as empty slices,
otherwise a rebuild entry is pushed. -/
def thinnedHandoff (s : State) : State :=
  match s.crs.records.find? (fun r => r.2.isSome) with
  | none => s
  | some (t, k) =>
    let b := s.bucket t.step t.bucket
    let gone : State := { s with crs.records := dropFirst (fun r => r == (t, k)) s.crs.records }
    if !s.updOn then gone.bumpBy updPage 10 (b.slices - t.slice)
    else if k = some 0 then
      if 256 ≤ s.upd.queue.length then s
      else
        let rs := if t.slice + 1 = b.slices then gone.crs.records
          else s.crs.records.map (fun r => if r = (t, k) then ({ t with slice := t.slice + 1 }, k) else r)
        updEnqueue { s with crs.records := rs } t .empty
    else
      let w := s.layerWords b.layer
      let core := 7 * lCluster w + lRebuild w
      if 40 ≤ lCluster w then gone
      else if (((SMap.getD s.cores {} core).ctx .u).queue 0).credits = 0 then s
      else unitPush { gone with upd.rebuilds := gone.upd.rebuilds ++ (List.range b.slices).map (fun j => ⟨t.step, t.bucket, j⟩) } core .u 0 srcUpdate
        (t.step + 2 ^ 16 * t.bucket + 2 ^ 32 * k.getD 0 + 2 ^ 48 * field b.w0 37 34 + 2 ^ 64 * b.thinBase t.step)

/-- SUBMIT: a write of word 3 of a submit port hands a rebuilt slice in (R286). A slice of a tag that OLD_IDLE has closed is discarded as a
late hand is (R252). -/
def submitWrite (s : State) (p v : Nat) : State :=
  let off := 0x800 + 16 * p
  let w (i : Nat) : Nat := (s.stage updPage (off + 4 * i)).toNat
  let t : Tag := ⟨field (w 2) 31 16, field (w 2) 11 0, field v 9 0⟩
  let b := s.bucket t.step t.bucket
  let bad := !b.valid || !b.thinned || !b.owner || field (w 1) 25 0 == 0 || decide (b.slices ≤ t.slice) ||
    field (w 1) 30 26 != 0 || field (w 2) 15 12 != 0 || field v 31 10 != 0
  if bad then ((updError s 2 t b.layer).raise updPage 5).bump updPage 10
  else if s.tagClosed t.step then lateInput s b.redOut 1 31 t 0
  else updEnqueue { s with upd.rebuilds := s.upd.rebuilds.filter (fun r => decide (r ≠ t)) } t (.tiles (w 0 + 2 ^ 32 * field (w 1) 31 31) (field (w 1) 25 0))

/-! ### Decoding (R284, R285) -/

/-- A quotient `m·2^e / d` rounded once to FP32. -/
def quotient32 (neg : Bool) (m d : Nat) (e : Int) : Nat :=
  let k : Nat := 96
  let q := m * 2 ^ k / d
  encIeee fp32 .nearest neg (2 * q + b2n (m * 2 ^ k % d != 0)) (e - k - 1)

/-- FP32 division as IEEE 754 has it. -/
def fDiv32 (a b : Nat) : Nat :=
  match decodeFp fp32 a, decodeFp fp32 b with
  | .nan, _ => fp32.nanCode
  | _, .nan => fp32.nanCode
  | .inf _, .inf _ => fp32.nanCode
  | .inf n, .fin n' _ _ => fp32.sign (n != n') + fp32.infCode
  | .fin n _ _, .inf n' => fp32.sign (n != n')
  | .fin n m e, .fin n' m' e' =>
    if m' = 0 then (if m = 0 then fp32.nanCode else fp32.sign (n != n') + fp32.infCode)
    else quotient32 (n != n') m m' (e - e')

/-- The correctly rounded FP32 reciprocal square root (R294). -/
def rsqrt32 (a : Nat) : Nat :=
  match decodeFp fp32 a with
  | .nan => fp32.nanCode
  | .inf neg => if neg then fp32.nanCode else 0
  | .fin neg m e =>
    if m = 0 then fp32.sign neg + fp32.infCode
    else if neg then fp32.nanCode
    else
      let m' := if e % 2 = 0 then m else 2 * m
      let e' := if e % 2 = 0 then e else e - 1
      let k : Nat := 64
      let q := isqrtFrom (2 ^ (2 * k) / m') (k + 1) 0
      encIeee fp32 .nearest false (2 * q + b2n (q * q * m' != 2 ^ (2 * k))) (-(e' / 2) - k - 1)

/-- Columns of a block of 32. -/
def blockCols (w : List Nat) (b : Nat) : Nat := min 32 (lCols w - 32 * b)

/-- The gradients of columns 32b on of a row: none for an absent element; and how many source elements were non-finite. -/
def gradBlock (x : UpdSlice) (i b : Nat) : Reading (List (Option Nat) × Nat) := do
  let s ← get
  let n := blockCols x.words b
  match x.src with
  | .empty => pure (List.replicate n none, 0)
  | .record =>
    let a := (s.bucket x.tag.step x.tag.bucket).recordAddr x.tag
    let line := 256 * b + i
    let e ← trainRead (a + 6) 1
    let count ← trainRead (a + 256 + 2 * (line / 64)) 2
    let v ← trainRead (a + 512 + 128 * line) 128
    pure ((unpackElems 0 v n).map (fun x =>
      if count = 0 ∨ x = 2 ^ 31 then none
      else some (quotient32 (decide (signedOf 32 x < 0)) (signedOf 32 x).natAbs count (signedOf 8 e))), 0)
  | .tiles tile div =>
    let v ← trainRead ((tile + b) % 2 ^ 33 * 0x8000 + 128 * i) 128
    let xs := unpackElems 0 v n
    pure (xs.map (fun x => if nonFinite x then none
      else match decodeFp fp32 x with
        | .fin neg m e => some (quotient32 neg m div e)
        | _ => none), (xs.filter nonFinite).length)

/-- Blocks of 32 columns in a slice. -/
def blocks (w : List Nat) : Nat := (lCols w + 31) / 32

/-- Is every element of a slice absent (R284)? -/
def emptySlice (x : UpdSlice) : Nat → Reading Bool
  | 0 => pure true
  | n + 1 => do
    let g ← gradBlock x (n % 256) (n / 256)
    if g.1.all (·.isNone) then emptySlice x n else pure false

/-! ### Statistics (R287-R289) -/

/-- Address of a word of a generation of a layer's statistics. -/
def statAddr (w : List Nat) (gen word : Nat) : Nat := lStatBase w + gen * (8 * lSlices w * (258 + lCols w)) + 8 * word

/-- Word number of a layer row, of column `j` of a bucket, of the bucket's TOT and INFO. -/
def rowWord (q : Nat) : Nat := q
/-- Word number of a column statistic. -/
def colWord (w : List Nat) (n0 j : Nat) : Nat := 256 * lSlices w + lCols w * n0 + j
/-- Word number of TOT; INFO follows it. -/
def totWord (w : List Nat) (n0 : Nat) : Nat := 256 * lSlices w + lCols w * lSlices w + 2 * n0

/-- Is generation 1 − p valid for a tag (R288)? -/
def lagValid (w : List Nat) (n0 step : Nat) : Reading Bool := do
  let a := statAddr w ((step + 1) % 2) (totWord w n0)
  let tot ← tableRead a 8
  let info ← tableRead (a + 8) 8
  let d := stepDiff step (lFirst w)
  pure (field info 15 0 == stepDiff step 1 && bitAt tot 63 && decide (1 ≤ d) && decide (d < 32766))

/-- fix(g) of R288. -/
def fixSquare (w : List Nat) (g : Nat) : Nat :=
  match decodeFp fp32 g with
  | .fin _ m e => (alignProduct false 0 ((m * m : Nat) : Int) (2 * e - lStatExp w)).toNat
  | _ => 0

/-- dec(x) of R288. -/
def decayed (w : List Nat) (x : Nat) : Nat := x * lDecay w / 65536

/-- A saturating statistics sum, and whether it saturated. -/
def statAdd (a b : Nat) : Nat × Nat := if 2 ^ 63 ≤ a + b then (2 ^ 63 - 1, 1) else (a + b, 0)

/-- Count saturations (R288). -/
def satMade (s : State) (n : Nat) : State := if n = 0 then s else (s.raise updPage 2).bumpBy updPage 11 n

/-- Would a write of the words that a line touches have to wait? -/
def statWaits (s : State) (x : UpdSlice) (n0 : Nat) : Bool :=
  let p := x.tag.step % 2
  trainWaits s (statAddr x.words p (256 * (n0 + x.tag.slice))) 2048 || trainWaits s (statAddr x.words p (colWord x.words n0 0)) (8 * lCols x.words) ||
    trainWaits s (statAddr x.words p (totWord x.words n0)) 16

/-- A word of generation 1 − p as it enters generation p: decayed, 0 where that generation is not valid (R288). -/
def carried (w : List Nat) (lag : Bool) (gen word : Nat) : Reading Nat :=
  if lag then do
    let v ← tableRead (statAddr w gen word) 8
    pure (decayed w v)
  else pure 0

/-- Set `n` column words of generation `p` to what generation 1 − p gives them (R288). -/
def startColumns (w : List Nat) (lag : Bool) (p word : Nat) : Nat → Reading Unit
  | 0 => pure ()
  | n + 1 => do
    let v ← carried w lag (1 - p) word
    modify (fun s => trainWrite s (statAddr w p word) 8 v)
    startColumns w lag p (word + 1) n

/-- The first slice of a tag of a bucket starts the generation (R288). -/
def startGeneration (x : UpdSlice) (n0 : Nat) (lag : Bool) : Reading Unit := do
  let w := x.words
  let p := x.tag.step % 2
  let tot := statAddr w p (totWord w n0)
  let info ← tableRead (tot + 8) 8
  if field info 15 0 = x.tag.step then pure ()
  else
    startColumns w lag p (colWord w n0 0) (lCols w)
    modify (fun s => trainWrite (trainWrite s tot 8 0) (tot + 8) 8 x.tag.step)

/-- Add terms to the words at an address, one to each: how many sums saturated (R288). -/
def addWords (a : Nat) : List Nat → Reading Nat
  | [] => pure 0
  | x :: r => do
    let v ← tableRead a 8
    let y := statAdd v x
    modify (fun s => trainWrite s a 8 y.1)
    let k ← addWords (a + 8) r
    pure (y.2 + k)

/-- Add terms to one word. -/
def statSum (v : Nat) (xs : List Nat) : Nat × Nat :=
  xs.foldl (fun (v, k) x => let (v, k') := statAdd v x; (v, k + k')) (v, 0)

/-- The statistics of one line of a slice (R288): row `i`, columns 32b on. -/
def statLine (x : UpdSlice) (n0 i b : Nat) (lag : Bool) (gs : List (Option Nat)) : Reading Unit := do
  let w := x.words
  let p := x.tag.step % 2
  let fixes := gs.map (fun g => match g with | some g => fixSquare w g | none => 0)
  let q := rowWord (256 * (n0 + x.tag.slice) + i)
  let old ← (if b = 0 then carried w lag (1 - p) q else tableRead (statAddr w p q) 8)
  let r := statSum old fixes
  modify (fun s => trainWrite s (statAddr w p q) 8 r.1)
  let k ← addWords (statAddr w p (colWord w n0 (32 * b))) fixes
  modify (fun s => satMade s (r.2 + k))

/-- When a slice's last row is written: TOT, SLICES_DONE and TOT.VALID (R288). -/
def finishStats (x : UpdSlice) (n0 slices : Nat) : Reading Unit := do
  let w := x.words
  let p := x.tag.step % 2
  let tot := statAddr w p (totWord w n0)
  let rows ← tableRead (statAddr w p (256 * (n0 + x.tag.slice))) 2048
  let t ← tableRead tot 8
  let info ← tableRead (tot + 8) 8
  let sum := statSum (t % 2 ^ 63) ((List.range 256).map (fun i => rows / 2 ^ (64 * i) % 2 ^ 64))
  let done := field info 41 32 + 1
  modify (fun s =>
    let s := trainWrite s tot 8 (sum.1 + (if done = slices then 2 ^ 63 else 0))
    satMade (trainWrite s (tot + 8) 8 (field info 15 0 + done % 1024 * 2 ^ 32)) sum.2)

/-- v of R289 for the elements of a block: +0 where generation 1 − p is not valid. -/
def lagBlock (x : UpdSlice) (n0 i b : Nat) (lag : Bool) : Reading (List Nat) :=
  let w := x.words
  let n := blockCols w b
  let g := (x.tag.step + 1) % 2
  let f (v : Nat) : Nat := encIeee fp32 .nearest false v (lStatExp w)
  if lag then do
    let r ← tableRead (statAddr w g (256 * (n0 + x.tag.slice) + i)) 8
    let t ← tableRead (statAddr w g (totWord w n0)) 8
    let cs ← tableRead (statAddr w g (colWord w n0 (32 * b))) (8 * n)
    let t := f (t % 2 ^ 63)
    pure ((List.range n).map (fun j => if t = 0 then 0 else fDiv32 (fMul fp32 (f r) (f (cs / 2 ^ (64 * j) % 2 ^ 64))) t))
  else pure (List.replicate n 0)

/-! ### State tensors and rules -/

/-- Address of row `i`, column 32b, of state tensor `k` (0 MASTER, 1 S1, 2 S2) of a slice's state block (R282). -/
def tensorAddr (x : UpdSlice) (n0 k i b : Nat) : Nat :=
  let w := x.words
  let held := b2n (lBf16 w) + b2n (lS1 w) + b2n (lS2 w)
  let before := match k with | 0 => 0 | 1 => b2n (lBf16 w) | _ => b2n (lBf16 w) + b2n (lS1 w)
  lStateBase w + (n0 + x.tag.slice) * 1024 * lCols w * held + before * 1024 * lCols w + 4 * (lCols w * i + 32 * b)

/-- Address of row `i`, column 32b, of the weights of tag s − 1: the parameter region under FP32, MASTER under BF16 (R282). -/
def weightAddr (s : State) (x : UpdSlice) (n0 i b : Nat) : Nat :=
  if lBf16 x.words then tensorAddr x n0 0 i b
  else
    let k := s.bucket x.tag.step x.tag.bucket
    k.paramAddr { x.tag with step := stepDiff x.tag.step 1 } + 4 * (lCols x.words * i + 32 * b)

/-- Read FP32 values. -/
def readVals (a n : Nat) : Reading (List Nat) := do
  let v ← trainRead a (4 * n)
  pure (unpackElems 0 v n)

/-- One element under a fixed rule (R294): w′ and s1′, and whether it kept its old values for want of a finite w′, or under MOMENTUM of a
finite s1′. -/
def applyRule (x : UpdSlice) (w s1 v : Nat) : Option Nat → Nat × Nat × Bool
  | none => (w, s1, false)
  | some g =>
    let wd := x.words
    let lw := fMul fp32 (lLambda wd) w
    let move (t : Nat) : Nat := fSub fp32 w (fMul fp32 x.eta (fAdd fp32 t lw))
    let (w', s1') := match x.rule with
      | 0 => (move g, s1)
      | 1 =>
        let t := fAdd fp32 (fMul fp32 (lBeta wd) s1) g
        (move t, t)
      | 2 =>
        let ve := fAdd fp32 v (lEps wd)
        (move (if ve = 0 then 0 else fMul fp32 g (rsqrt32 ve)), s1)
      | _ => (w, s1)
    if nonFinite w' ∨ (x.rule = 1 ∧ nonFinite s1') then (w, s1, true) else (w', s1', false)

/-- Count elements under NONFINITE. -/
def nonFiniteMade (s : State) (n : Nat) : State := if n = 0 then s else (s.raise updPage 0).bumpBy updPage 6 n

/-- Pack FP32 values. -/
def packVals (vs : List Nat) : Nat := packElems 32 vs

/-- Put a slice back. -/
def State.setSlice (s : State) (n : Nat) (x : UpdSlice) : State := { s with upd.slices := SMap.set s.upd.slices n x }

/-- One line of a slice (R284, R288, R294): decode, statistics and, under a fixed rule, the rule's datapath. -/
def lineWork (n : Nat) (x : UpdSlice) : Reading Unit := do
  let s ← get
  let w := x.words
  let k := s.bucket x.tag.step x.tag.bucket
  let n0 := k.sliceBase
  let b := x.line / 256
  let i := x.line % 256
  let m := blockCols w b
  let g ← gradBlock x i b
  let lag ← lagValid w n0 x.tag.step
  let vs ← lagBlock x n0 i b lag
  let ws ← readVals (weightAddr s x n0 i b) m
  let ss ← (if lS1 w then readVals (tensorAddr x n0 1 i b) m else pure (List.replicate m 0))
  modify (fun s => nonFiniteMade s g.2)
  if x.line = 0 then startGeneration x n0 lag else pure ()
  statLine x n0 i b lag g.1
  if x.line + 1 = 256 * blocks w then finishStats x n0 k.slices else pure ()
  if x.rule = 4 then modify (fun s => s.setSlice n { x with line := x.line + 1 })
  else
    let rs := (ws.zip (ss.zip (vs.zip g.1))).map (fun e => applyRule x e.1 e.2.1 e.2.2.1 e.2.2.2)
    let out := packVals (rs.map (·.1))
    modify (fun s =>
      let s := nonFiniteMade s (rs.filter (fun r => r.2.2)).length
      let s := if lBf16 w ∧ x.rule ≠ 3 then trainWrite s (tensorAddr x n0 0 i b) (4 * m) out else s
      let s := if lS1 w ∧ x.rule = 1 then trainWrite s (tensorAddr x n0 1 i b) (4 * m) (packVals (rs.map (fun r => r.2.1))) else s
      s.setSlice n { x with line := x.line + 1, out := SMap.set x.out (32 * i + b) out })

/-- Would a write of the state tensors that a line touches have to wait? -/
def tensorWaits (s : State) (x : UpdSlice) (n0 : Nat) : Bool :=
  let b := x.line / 256
  let i := x.line % 256
  let m := 4 * blockCols x.words b
  x.rule != 4 && ((lBf16 x.words && trainWaits s (tensorAddr x n0 0 i b) m) || (lS1 x.words && trainWaits s (tensorAddr x n0 1 i b) m))

/-- UPDATE_LINE: one line of a slice passes decode, statistics and, under a fixed rule, the rule's datapath (R284, R288,
R294). -/
def updateLine (s : State) (n : Nat) : State :=
  match SMap.get s.upd.slices n with
  | none => s
  | some x =>
    let n0 := (s.bucket x.tag.step x.tag.bucket).sliceBase
    if !x.admitted || decide (256 * blocks x.words ≤ x.line) || statWaits s x n0 || tensorWaits s x n0 then s
    else whenRead s (lineWork n x) (fun _ s => s)

/-! ### Beginning a slice -/

/-- The checks of R283. -/
def descOk (w : List Nat) (b : Bucket) : Bool :=
  let w0 := w.getD 0 0
  bitAt w0 63 && decide (lWarm w < 4) && decide (lMain w < 5) && field w0 42 40 == 0 && field w0 15 8 == 0 &&
    field (w.getD 1 0) 5 0 == 0 && field (w.getD 3 0) 21 0 == 0 && decide (lCluster w < 40) &&
    ((lWarm w != 1 && lMain w != 1) || lS1 w) && (lMain w != 4 || lVmask w != 0) &&
    b.plines == (if lBf16 w then 4 else 8) * lCols w && (b.thinned || lCols w == 32 * b.tiles) &&
    decide (b.sliceBase + b.slices ≤ lSlices w)

/-- The step boundary of R292. -/
def stepBoundary (s : State) (step : Nat) : State :=
  let r := s.regN updPage 0x10C
  if !isStep step || !stepLater step (field r 15 0) then s
  else
    let s := s.setReg updPage 0x104 (s.reg updPage 0x100)
    let s := if bitAt r 31 then s.setReg updPage 0x100 (s.reg updPage 0x108)
      else (s.bumpReg updPage 0x110).raise updPage 7
    s.setRegN updPage 0x10C step

/-- The step size of a slice (R293), with STALE_TAG recorded. -/
def stepSize (s : State) (w : List Nat) (t : Tag) (layer : Nat) : State × Nat :=
  let d := stepDiff (s.regN updPage 0x10C % 2 ^ 16) t.step
  let s := if d = 0 ∨ d = 1 then s else ((updError s 5 t layer).raise updPage 3).bump updPage 8
  (s, fMul fp32 (s.regN updPage (if d = 0 then 0x100 else 0x104)) (lScale w))

/-- The rule of a slice (R290), with LAG_MISSING recorded, once for a slice. -/
def chooseRule (s : State) (w : List Nat) (t : Tag) (layer : Nat) (empty lag : Bool) : State × Nat :=
  let missing (s : State) : State := ((updError s 4 t layer).raise updPage 6).bump updPage 7
  let d := stepDiff t.step (lFirst w)
  let run := decide (lWarmup w ≤ d) && decide (d < 32766)
  if empty then (s, 3)
  else
    let rule := if run && lag then lMain w else lWarm w
    let held := rule == 2 && !lag
    (if (run && !lag) || held then missing s else s, if held then 3 else rule)

/-- The number of a free slice in progress. -/
def freeSlice (s : State) : Option Nat := (List.range 8).find? (fun n => (SMap.get s.upd.slices n).isNone)

/-- Is a slice empty, and is generation 1 − p valid for it? -/
def sliceFacts (x : UpdSlice) (n0 : Nat) : Reading (Bool × Bool) := do
  let empty ← emptySlice x (256 * blocks x.words)
  let lag ← lagValid x.words n0 x.tag.step
  pure (empty, lag)

/-- SLICE_BEGIN: the unit begins the next slice of its queue (R283, R290, R292, R293, R299): it asks for admission. -/
def sliceBegin (s : State) : State :=
  match s.upd.queue, freeSlice s with
  | (t, src) :: rest, some n =>
    let b := s.bucket t.step t.bucket
    let w := s.layerWords b.layer
    let begun (s : State) : State := stepBoundary { s with upd.queue := rest } t.step
    if !descOk w b then ((updError (begun s) 1 t b.layer).raise updPage 4).bump updPage 10
    else
      let x : UpdSlice := { tag := t, src := src, layer := b.layer, words := w, eta := 0, rule := 3 }
      whenRead s (sliceFacts x b.sliceBase) (fun r s =>
        let (s, rule) := chooseRule (begun s) w t b.layer r.1 r.2
        let (s, eta) := stepSize s w t b.layer
        let s := s.setSlice n { x with eta := eta, rule := rule }
        { s with step.asks := s.step.asks ++ [⟨t.step, b.layer, b.sliceBase + t.slice, .update n⟩] })
  | _, _ => s

/-- ADMISSION_RETRY: a slice held after BUSY or EARLY asks again (R299). -/
def admissionRetry (s : State) : State :=
  let due (e : Nat × UpdSlice) : Bool := match e.2.retry with | some t => decide (t ≤ s.tick) | none => false
  match s.upd.slices.find? due with
  | none => s
  | some (n, x) =>
    let s := (s.setSlice n { x with retry := none }).bump updPage 9
    { s with step.asks := s.step.asks ++ [⟨x.tag.step, x.layer, (s.bucket x.tag.step x.tag.bucket).sliceBase + x.tag.slice, .update n⟩] }

/-! ### Batches (R295-R298) -/

/-- Batches of a row. -/
def halves (w : List Nat) : Nat := if 512 < lCols w then 2 else 1

/-- Batches of a slice. -/
def batchesOf (w : List Nat) : Nat := 256 * halves w

/-- Columns of a batch. -/
def batchCols (w : List Nat) (half : Nat) : Nat := min 512 (lCols w - 512 * half)

/-- Local-store address of a batch slot. -/
def slotBase (k : Nat) : Nat := 0x1A0000 + 12288 * k

/-- Values of a row from a block of 32 columns on, `n` blocks. -/
def gatherBlocks {α : Type} (f : Nat → Reading (List α)) : Nat → Nat → Reading (List α)
  | 0, _ => pure []
  | n + 1, b => do
    let x ← f b
    let r ← gatherBlocks f n (b + 1)
    pure (x ++ r)

/-- The core of a slice's VMASK whose turn it is among those of its cluster that have a free slot and a credit, and its slot (R295). -/
def pickCore (s : State) (w : List Nat) : Option (Nat × Nat) :=
  let order := (List.range 4).map (fun k => (SMap.getD s.upd.turns 0 (lCluster w) + k) % 4)
  (order.filter (fun k => bitAt (lVmask w) k)).findSome? (fun k =>
    let core := 7 * lCluster w + 2 + k
    let used := (s.upd.batches.filter (fun e => e.2.core == core)).map (fun e => e.2.slot)
    if (((SMap.getD s.cores {} core).ctx .u).queue 0).credits = 0 then none
    else ((List.range 32).find? (fun j => !used.contains j)).map (fun j => (core, j)))

/-- What a batch's slot is filled with (R295). -/
structure BatchData where
  gs : List (Option Nat)
  ws : List Nat
  s1 : List Nat
  s2 : List Nat
  vs : List Nat
  lag : Bool
  deriving DecidableEq, Repr

/-- The elements of a batch: row `i`, half `h`. -/
def batchRead (x : UpdSlice) (i h : Nat) : Reading BatchData := do
  let s ← get
  let w := x.words
  let n0 := (s.bucket x.tag.step x.tag.bucket).sliceBase
  let cols := batchCols w h
  let all {α : Type} (f : Nat → Reading (List α)) : Reading (List α) := gatherBlocks f ((cols + 31) / 32) (16 * h)
  let tensor (k : Nat) : Reading (List Nat) := all (fun b => readVals (tensorAddr x n0 k i b) (blockCols w b))
  let zero := List.replicate cols 0
  let gs ← all (fun b => do let g ← gradBlock x i b; pure g.1)
  let ws ← all (fun b => readVals (weightAddr s x n0 i b) (blockCols w b))
  let s1 ← (if lS1 w then tensor 1 else pure zero)
  let s2 ← (if lS2 w then tensor 2 else pure zero)
  let lag ← lagValid w n0 x.tag.step
  let vs ← all (fun b => lagBlock x n0 i b lag)
  pure ⟨gs, ws, s1, s2, vs, lag⟩

/-- A batch's slot is written and its entry pushed (R295). -/
def batchSend (s : State) (n : Nat) (x : UpdSlice) (i h core slot : Nat) (d : BatchData) : State :=
  let base := slotBase slot
  let c := SMap.getD s.cores {} core
  let areas := [d.gs.map (·.getD 0), d.ws, d.s1, d.s2, d.vs, List.replicate 512 x.eta]
  let store := areas.zipIdx.foldl (fun m a => Mem.write m (base + 2048 * a.2) 2048 (packVals a.1)) c.store
  let c := { c with store := store, marks := NSet.eraseRange c.marks (base / 128) 96 }
  let s : State := { s with cores := SMap.set s.cores core c }
  let tok := s.upd.token
  let entry := tok + 2 ^ 32 * slot + 2 ^ 40 * b2n d.lag + 2 ^ 48 * x.layer + 2 ^ 64 * x.tag.step + 2 ^ 80 * x.tag.bucket +
    2 ^ 96 * x.tag.slice + 2 ^ 112 * i + 2 ^ 128 * (512 * h) + 2 ^ 144 * batchCols x.words h + 2 ^ 160 * base
  let s := unitPush s core .u 0 srcUpdate entry
  let s := s.setSlice n { x with batch := x.batch + 1 }
  { s with upd := { s.upd with
      batches := s.upd.batches ++ [(n, ⟨tok, core, slot, i, h, s.tick, d.gs.map (·.isSome), d.ws.zip (d.s1.zip d.s2), false⟩)]
      token := (tok + 1) % 2 ^ 32
      turns := SMap.set s.upd.turns (lCluster x.words) ((core % 7 - 2 + 1) % 4) } }

/-- BATCH_PUSH: the unit writes a batch's slot in a vector core's local store and pushes its entry (R295). At most 128 batches are
outstanding (R300); the last batch of a slice follows its lines, since the unit has then finished reading its source tiles (R286). -/
def batchPush (s : State) (n : Nat) : State :=
  match SMap.get s.upd.slices n with
  | none => s
  | some x =>
    let w := x.words
    let lines := decide (x.batch + 1 = batchesOf w) && decide (x.line < 256 * blocks w)
    if !x.admitted || x.rule != 4 || decide (batchesOf w ≤ x.batch) || lines || decide (128 ≤ s.upd.batches.length) then s
    else
      match pickCore s w with
      | none => s
      | some (core, slot) =>
        let i := x.batch / halves w
        let h := x.batch % halves w
        whenRead s (batchRead x i h) (fun d s => batchSend s n x i h core slot d)

/-- Results of a batch by element (R297): w′, s1′, s2′ kept, and how many were non-finite. -/
def batchResult (present : List Bool) (old new : List (Nat × Nat × Nat)) : List (Nat × Nat × Nat) × Nat :=
  let rs := (present.zip (old.zip new)).map (fun e =>
    let (p, o, v) := (e.1, e.2.1, e.2.2)
    if !p then (o, false)
    else if nonFinite v.1 ∨ nonFinite v.2.1 ∨ nonFinite v.2.2 then (o, true)
    else (v, false))
  (rs.map (·.1), (rs.filter (·.2)).length)

/-- Put the results of a batch into the state block and the output buffer (R297); `new` is none under HOLD (R298). -/
def finishBatch (s : State) (n : Nat) (x : UpdSlice) (k : Batch) (new : Option (List (Nat × Nat × Nat))) : State :=
  let w := x.words
  let cols := batchCols w k.half
  let n0 := (s.bucket x.tag.step x.tag.bucket).sliceBase
  let (rs, bad) := match new with | some v => batchResult k.present k.old v | none => (k.old, 0)
  let s := nonFiniteMade s bad
  let put (s : State) (t : Nat) (vs : List Nat) : State := trainWrite s (tensorAddr x n0 t k.row (16 * k.half)) (4 * cols) (packVals vs)
  let s := if lBf16 w ∧ new.isSome then put s 0 (rs.map (·.1)) else s
  let s := if lS1 w ∧ new.isSome then put s 1 (rs.map (fun r => r.2.1)) else s
  let s := if lS2 w ∧ new.isSome then put s 2 (rs.map (fun r => r.2.2)) else s
  let out := (List.range ((cols + 31) / 32)).foldl (fun o b =>
    SMap.set o (32 * k.row + 16 * k.half + b) (packVals (((rs.map (·.1)).drop (32 * b)).take 32))) x.out
  s.setSlice n { x with out := out, finished := x.finished + 1 }

/-- Take a batch out of the outstanding ones. -/
def dropBatch (s : State) (tok : Nat) : State := { s with upd.batches := s.upd.batches.filter (fun e => e.2.token != tok) }

/-- BDONE: a TOKEN completes a batch and frees its slot (R297, R298). -/
def bdone (s : State) (tok : Nat) : State :=
  match s.upd.batches.find? (fun e => e.2.token == tok) with
  | none => s.bump updPage 5
  | some (n, k) =>
    if k.late then dropBatch s tok
    else match SMap.get s.upd.slices n with
      | none => dropBatch s tok
      | some x =>
        let cols := batchCols x.words k.half
        let store := (SMap.getD s.cores {} k.core).store
        let area (j : Nat) : List Nat := unpackElems 0 (Mem.read store (slotBase k.slot + 2048 * j) (4 * cols)) cols
        (dropBatch (finishBatch s n x k (some ((area 1).zip ((area 2).zip (area 3))))) tok).bump updPage 4

/-- BATCH_TIMEOUT: a batch without BDONE within BATCH_LIMIT ticks is given HOLD; its slot stays reserved (R298). -/
def batchTimeout (s : State) : State :=
  let limit := max 1024 (s.regN updPage 0x118)
  match s.upd.batches.find? (fun e => !e.2.late && decide (e.2.since + limit ≤ s.tick)) with
  | none => s
  | some (n, k) =>
    match SMap.get s.upd.slices n with
    | none => dropBatch s k.token
    | some x =>
      let s := finishBatch s n x k none
      let s := ((updError s 3 x.tag x.layer).raise updPage 1).bump updPage 5
      { s with upd.batches := s.upd.batches.map (fun e => if e.2.token = k.token then (e.1, { e.2 with late := true }) else e) }

/-! ### Writing the parameters -/

/-- The bytes of an updated parameter slice, row-major, FP32 or BF16 (R299). -/
def paramBytes (x : UpdSlice) : Nat :=
  let w := x.words
  x.out.foldl (fun n e =>
    let i := e.1 / 32
    let b := e.1 % 32
    let vs := unpackElems 0 e.2 (blockCols w b)
    let at_ := lCols w * i + 32 * b
    if lBf16 w then n + packElems 16 (vs.map (fun v => (convPlain bf16 (decodeFp fp32 v)).1)) * 2 ^ (16 * at_)
    else n + packVals vs * 2 ^ (32 * at_)) 0

/-- PARAM_WRITE: the updated slice goes home; once its homes have accepted it, it is committed, counted and multicast (R237, R299). -/
def paramWrite (s : State) (n : Nat) : State :=
  match SMap.get s.upd.slices n with
  | none => s
  | some x =>
    let w := x.words
    let b := s.bucket x.tag.step x.tag.bucket
    let ready := x.admitted && !x.written && decide (256 * blocks w ≤ x.line) && (x.rule != 4 || decide (batchesOf w ≤ x.finished))
    if !ready || trainWaits s (b.paramAddr x.tag) (128 * b.plines) then s
    else whenRead s (tableRead (s.scaleAddr x.tag.bucket x.tag.slice) 1) (fun e s =>
        let s := s.setSlice n { x with written := true }
        let s : State := { s with crs.multicast := s.crs.multicast ++ [(x.tag, e)] }
        homeSlice s b x.tag (paramBytes x) (some x.rule))

/-! ### Registers -/

/-- ETA_NEXT_WRITE: the shadow is replaced and PENDING set (R291). -/
def etaNextWrite (s : State) (v : Nat) : State := (s.setRegN updPage 0x108 v).setField updPage 0x10C 31 1 1

/-- UPD_ENABLE_WRITE: a write of UPD.CTRL; CUR_STEP, ETA_CUR and ETA_PREV stand as they are (R300). -/
def updEnableWrite (s : State) (v : Nat) : State := s.setRegN updPage 0x010 (v % 2)

/-- UPD.STATUS (R300). -/
def updStatus (s : State) : Nat := s.upd.batches.length * 2 ^ 16 + s.upd.slices.length

/-! ### The end of an old bank (R252) -/

/-- Is any tag before SWITCH_STEP held on the module? -/
def State.oldHeld (s : State) : Bool :=
  let sw := field (s.regN crsPage 0x110) 15 0
  let old (step : Nat) : Bool := isStep step && !stepAtOrAfter step sw
  let msg (m : Msg) : Bool := (m.cls == 4 || m.cls == 5) && !m.resp && old (field m.data 31 16)
  s.crs.hands.any (fun h => old h.tag.step) ||
    s.crs.units.any (fun e => e.2.slots.any (fun q => old q.tag.step) || e.2.roots.any (fun r => old r.tag.step) ||
      e.2.thin.any (fun q => old q.step) || e.2.mc.any (fun m => old m.frame.step) || e.2.parts.any (fun p => old p.tag.step)) ||
    s.net.ctxs.any (fun e => e.2.queue.any msg || e.2.unacked.any (fun u => msg u.msg)) ||
    s.crs.pulls.any (fun p => old p.tag.step) || s.crs.records.any (fun r => old r.1.step) ||
    s.crs.multicast.any (fun m => old m.1.step) || s.step.asks.any (fun a => old a.step) || s.step.homing.any (fun h => old h.commit.step) ||
    s.upd.queue.any (fun q => old q.1.step) || s.upd.slices.any (fun e => old e.2.tag.step) || s.upd.rebuilds.any (fun t => old t.step)

/-- OLD_IDLE: OLD_IDLE rises once no tag before SWITCH_STEP is held (R252). -/
def oldIdle (s : State) : State :=
  let r := s.regN crsPage 0x110
  if bitAt r 31 && !bitAt r 30 && !s.oldHeld then (s.setRegN crsPage 0x110 (r + 2 ^ 30)).raise crsPage 6 else s

end Sys2Proof.Machine
end

