-- ==== Sys2Proof/Machine/Irq.lean ====
section
/-! DEFINITION. Source lines, the small and the large interrupt controllers, Spyglass and mailboxes (R360-R377). -/

namespace Sys2Proof.Machine

/-- The LIC page. -/
def licPg : Page := ⟨.lic, 0⟩
/-- The SIC page of a cluster. -/
def sicPage (c : Nat) : Page := ⟨.sic, c⟩
/-- The SPY page. -/
def spyPage : Page := ⟨.spy, 0⟩
/-- The MBX page of a channel. -/
def mbxPage (k : Nat) : Page := ⟨.mbx, k⟩

/-- The clock domain that a page lies in (R333). -/
def Page.domain (p : Page) : Nat :=
  let i := p.inst
  match p.block with
  | .core | .jgl => 8 * (i / 7) + i % 7
  | .ope | .drn | .tst => 8 * (i / 2) + i % 2
  | .vec => 8 * (i / 4) + 2 + i % 4
  | .scl => 8 * i + 6
  | .row | .pool | .mov | .stk | .mesh | .mck | .lck | .phsLedger | .sic => 8 * i + 7
  | .hbc | .dir => 324 + i
  | .hbp => 336 + i
  | .port | .msec => if i < 9 then 365 else 366
  | .crsUnit => if i < 8 then 365 else 366
  | .crsModule | .upd | .phsStep => 365
  | .clk | .tal | .ldg | .lic | .part => 367
  | .spy => 368
  | .sec => 369
  | .edge => 370
  | .pwr => 371
  | .mbx => if i < 40 then 8 * i + 7 else if i < 60 then 367 else 369

/-! ### Source lines (R360, R361, R364) -/

/-- The level of a page's source line (R360): MBX.ISTATUS.EMPTY drives it only under EMPTY_KIND 0b01 (R374). -/
def lineLevel (s : State) (p : Page) : Bool :=
  let on := s.regN p 0x018 &&& s.regN p 0x01C
  match p.block with
  | .mbx => (if field (s.regN p 0x100) 31 30 = 1 then on else putField on 1 1 0) != 0
  | _ => on != 0

/-- The page behind SIC source `n` of a cluster (R361). -/
def sicSource (c n : Nat) : Option Page :=
  if n < 7 then some ⟨.core, 7 * c + n⟩
  else if n = 7 ∨ n = 15 then none
  else if n < 15 then some ⟨.jgl, 7 * c + n - 8⟩
  else match n with
    | 16 => some ⟨.ope, 2 * c⟩
    | 17 => some ⟨.ope, 2 * c + 1⟩
    | 18 => some ⟨.drn, 2 * c⟩
    | 19 => some ⟨.drn, 2 * c + 1⟩
    | 20 => some ⟨.vec, 4 * c⟩
    | 21 => some ⟨.vec, 4 * c + 1⟩
    | 22 => some ⟨.vec, 4 * c + 2⟩
    | 23 => some ⟨.vec, 4 * c + 3⟩
    | 24 => some ⟨.scl, c⟩
    | 25 => some ⟨.row, c⟩
    | 26 => some ⟨.pool, c⟩
    | 27 => some ⟨.mov, c⟩
    | 28 => some ⟨.stk, c⟩
    | 29 => some ⟨.mesh, c⟩
    | 30 => some ⟨.mck, c⟩
    | 31 => some ⟨.lck, c⟩
    | 32 => some ⟨.phsLedger, c⟩
    | 33 => some ⟨.mbx, c⟩
    | 34 => some ⟨.sic, c⟩
    | 35 => some ⟨.tst, 2 * c⟩
    | 36 => some ⟨.tst, 2 * c + 1⟩
    | _ => none

/-- The page behind LIC source `n` (R364). -/
def licSource (n : Nat) : Option Page :=
  if n < 2560 then sicSource (n / 64) (n % 64)
  else if n < 2584 then some ⟨.mbx, n - 2560 + 40⟩
  else if n < 2620 then
    let h := (n - 2584) / 3
    (match (n - 2584) % 3 with | 0 => some ⟨.hbc, h⟩ | 1 => some ⟨.hbp, h⟩ | _ => some ⟨.dir, h⟩)
  else if n < 2674 then
    let i := (n - 2620) / 3
    (match (n - 2620) % 3 with
      | 0 => some ⟨.port, i⟩
      | 1 => some ⟨.msec, i⟩
      | _ => some (if i < 17 then ⟨.crsUnit, i⟩ else ⟨.crsModule, 17⟩))
  else match n with
    | 2674 => some ⟨.tal, 0⟩
    | 2675 => some ⟨.upd, 0⟩
    | 2676 => some ⟨.phsStep, 40⟩
    | 2677 => some ⟨.ldg, 0⟩
    | 2678 => some ⟨.clk, 0⟩
    | 2679 => some ⟨.sec, 0⟩
    | 2680 => some ⟨.edge, 0⟩
    | 2681 => some ⟨.pwr, 0⟩
    | 2682 => some ⟨.part, 0⟩
    | 2683 => some ⟨.spy, 0⟩
    | 2684 => some ⟨.lic, 0⟩
    | _ => none

/-- Is a page's line asserted as its controller sees it? -/
def State.lineSeen (s : State) (p : Page) : Bool := s.irq.lines.contains p.base

/-! ### The small interrupt controller -/

/-- A small interrupt controller. -/
def State.sic (s : State) (c : Nat) : Sic := SMap.getD s.irq.sics {} c

/-- Put a small interrupt controller. -/
def State.setSic (s : State) (c : Nat) (v : Sic) : State := { s with irq.sics := SMap.set s.irq.sics c v }

/-- PRIO of a SIC source. -/
def sicPrio (s : State) (c n : Nat) : Nat := field (s.regN (sicPage c) (0x200 + 4 * n)) 2 0

/-- ROUTE of a SIC source. -/
def sicRoute (s : State) (c n : Nat) : Bool := bitAt (s.regN (sicPage c) (0x200 + 4 * n)) 3 && decide (n < 64)

/-- Is the line of a SIC source asserted? -/
def sicAsserted (s : State) (c n : Nat) : Bool := match sicSource c n with | some p => s.lineSeen p | none => false

/-- Is a SIC source pending (R362)? -/
def sicPending (s : State) (c n : Nat) : Bool :=
  sicPrio s c n != 0 && !sicRoute s c n && (sicAsserted s c n || (s.sic c).soft.contains n) && !(s.sic c).active.contains n

/-- The pending source of a SIC with the highest PRIO, the lowest number among equals (R362), looking from `n` up. -/
def sicBest (s : State) (c : Nat) : Nat → Nat → Option Nat → Option Nat
  | 0, _, best => best
  | fuel + 1, n, best =>
    let take := sicPending s c n && (match best with | some m => decide (sicPrio s c m < sicPrio s c n) | none => true)
    sicBest s c fuel (n + 1) (if take then some n else best)

/-- The scalar core of a cluster. -/
def scalarCore (c : Nat) : CoreId := coreOfIdx (7 * (c % 40) + 6)

/-- The source number of a SIC as an external producer (R84). -/
def srcSic (c : Nat) : Nat := 281 + c

/-- SIC_DELIVER: the SIC pushes its best pending source to the queue that SIC.CFG names (R362). -/
def sicDeliver (s : State) (c : Nat) : State :=
  let cfg := s.regN (sicPage c) 0x100
  let x := Ctx.ofIdx (field cfg 3 2)
  let q := field cfg 1 0
  let id := scalarCore c
  match sicBest s c 128 0 none with
  | none => s
  | some n =>
    if field cfg 3 2 = 3 ∨ (((s.core id).ctx x).queue q).credits = 0 ∨ !s.domainUp (coreDomain id) ∨ s.domainState (8 * c + 7) ≠ 0 then s
    else
      let k := s.sic c
      let s := unitPush s (coreIdx id) x q (srcSic c) (n + sicPrio s c n * 2 ^ 8 + k.seq * 2 ^ 32)
      (s.setSic c { soft := NSet.erase k.soft n, active := NSet.insert k.active n, seq := wrapSucc 32 k.seq }).bump (sicPage c) 0

/-! ### The large interrupt controller -/

/-- A target of the LIC. -/
def State.licTarget (s : State) (t : Nat) : LicTarget := SMap.getD s.irq.targets {} t

/-- Put a target of the LIC. -/
def State.setLicTarget (s : State) (t : Nat) (v : LicTarget) : State := { s with irq.targets := SMap.set s.irq.targets t v }

/-- Running priority of a target: the PRIO held by the top of its stack (R365, R368). -/
def LicTarget.running (t : LicTarget) : Nat := match t.stack with | [] => 0 | e :: _ => e.2

/-- Configuration of a LIC source. -/
def licCfg (s : State) (n : Nat) : Nat := SMap.getD s.irq.cfg 0 n

/-- Is the line of a LIC source asserted? A cluster source's line is passed on while it is routed and not masked (R362). -/
def licAsserted (s : State) (n : Nat) : Bool :=
  match licSource n with
  | none => false
  | some p => s.lineSeen p && (decide (2560 ≤ n) || (sicRoute s (n / 64) (n % 64) && sicPrio s (n / 64) (n % 64) != 0))

/-- Is a LIC source pending (R365, R368)? -/
def licPending (s : State) (n : Nat) : Bool :=
  licCfg s n % 256 != 0 && (licAsserted s n || s.irq.edges.contains n) && (SMap.get s.irq.active n).isNone

/-- The sources eligible for a target (R365). -/
def licEligible (s : State) (t : Nat) : List Nat :=
  (s.irq.cfg.filter (fun e => e.2 / 256 == t && decide ((s.licTarget t).running < e.2 % 256) && licPending s e.1)).map (·.1)

/-- The eligible source with the highest PRIO, the lowest number among equals (R366). -/
def licBest (s : State) (t : Nat) : Option Nat :=
  (licEligible s t).foldl (fun best n =>
    match best with
    | none => some n
    | some m =>
      let a := licCfg s n % 256
      let b := licCfg s m % 256
      if b < a ∨ (a = b ∧ n < m) then some n else some m) none

/-- Count the sources that have become eligible for a target in HELD (R370). -/
def settleTarget (s : State) (t : Nat) : State :=
  let k := s.licTarget t
  let now := licEligible s t
  let fresh := (now.filter (fun n => !k.seen.contains n)).length
  if fresh = 0 ∧ now = k.seen then s
  else s.setLicTarget t { k with held := k.held + fresh, heldAt := if k.held = 0 then s.tick else k.heldAt, seen := now }

/-- Count the sources that have become eligible, for each target. -/
def settleLic (s : State) : State := (List.range 5).foldl settleTarget s

/-- SOURCE_LINE_CHANGE: the level of a page's source line reaches its controller (R360). A line in a domain that is gated does
not change; one in a domain that is down is not asserted. -/
def sourceLineChange (s : State) (n : Nat) : State :=
  match pageAt (0x1000 * n) with
  | none => s
  | some p =>
    let d := s.domainState p.domain
    let ctl := if n < 0xA00 then 8 * (n / 0x40) + 7 else 367
    if d = 2 ∨ s.domainState ctl ≠ 0 then s
    else
      let level := d != 3 && lineLevel s p
      if level == s.lineSeen p then s
      else settleLic { s with irq.lines := if level then NSet.insert s.irq.lines p.base else NSet.erase s.irq.lines p.base }

/-- SIC_COMPLETE: a write of SIC.COMPLETE ends a source's active state, or is stray (R363). -/
def sicComplete (s : State) (c v : Nat) : State :=
  let n := v % 128
  let k := s.sic c
  if k.active.contains n then s.setSic c { k with active := NSet.erase k.active n }
  else ((s.bumpReg (sicPage c) 0x10C).raise (sicPage c) 0).bump (sicPage c) 1

/-- SIC_SWSET: a write of SIC.SWSET makes a software source pending (R362); false below 64. -/
def sicSwset (s : State) (c v : Nat) : State × Bool :=
  let n := v % 128
  if n < 64 then (s, false) else (s.setSic c { s.sic c with soft := NSet.insert (s.sic c).soft n }, true)

/-- A write of SIC.SRCn: ROUTE 1 on a software source is ignored and logged (SIC registers). -/
def sicSrcWrite (s : State) (c n v : Nat) : State × Bool :=
  let bad := decide (64 ≤ n) && bitAt v 3
  (settleLic (s.setRegN (sicPage c) (0x200 + 4 * n) (if bad then v % 8 else v % 16)), !bad)

/-- CLAIM: a read of LIC.CLAIMt claims the best eligible source onto the stack (R366). -/
def licClaim (s : State) (t : Nat) : State × Nat :=
  let s : State := if t = 4 then { s with irq.hostTold := false } else s
  let k := s.licTarget t
  if 32 ≤ k.stack.length then ((s.raise licPg 2).bump licPg 1, 0)
  else match licBest s t with
    | none => (s.bump licPg 1, 0)
    | some n =>
      let prio := licCfg s n % 256
      let s := s.setLicTarget t { k with stack := (n, prio) :: k.stack }
      let s : State := { s with irq.active := SMap.set s.irq.active n t, irq.edges := NSet.erase s.irq.edges n }
      ((settleLic s).bump licPg 0, 2 ^ 31 + prio * 2 ^ 16 + n)

/-- LIC_COMPLETE: a write of LIC.COMPLETEt pops the stack, is an order fault, or is stray (R367). -/
def licComplete (s : State) (t v : Nat) : State :=
  let n := v % 4096
  let k := s.licTarget t
  match k.stack with
  | [] => (s.raise licPg 1).bump licPg 3
  | (top, _) :: rest =>
    if top = n then
      let s := s.setLicTarget t { k with stack := rest }
      settleLic { s with irq.active := SMap.del s.irq.active n }
    else if SMap.get s.irq.active n = some t then
      ((s.record licPg 0x114 (t * 2 ^ 24 + top * 2 ^ 12 + n)).raise licPg 0).bump licPg 2
    else (s.raise licPg 1).bump licPg 3

/-- SCFG_WRITE: a write of LIC.SCFG (R368): 0 taken, 1 ignored, 2 reserved. -/
def licScfgWrite (s : State) (v : Nat) : State × Nat :=
  let n := field (s.regN licPg 0x100) 11 0
  if (SMap.get s.irq.active n).isSome then (s, 1)
  else if 4 < field v 10 8 then (s, 2)
  else
    let s : State := { s with irq.cfg := SMap.set s.irq.cfg n (v % 2 ^ 11) }
    (settleLic (if v % 256 = 0 then { s with irq.edges := NSet.erase s.irq.edges n } else s), 0)

/-- An edge makes a LIC source pending once (R360, R365). -/
def licEdge (s : State) (n : Nat) : State := settleLic { s with irq.edges := NSet.insert s.irq.edges n }

/-- LIC_SWSET: a write of LIC.SWSET (R364); false for a source that is not a software source. -/
def licSwset (s : State) (v : Nat) : State × Bool :=
  let n := v % 4096
  if n < 3072 then (s, false) else (licEdge s n, true)

/-- Send the host's doorbell, or count it as failed (R369). -/
def hostDoorbell (s : State) (n prio : Nat) : State :=
  let ctx := field (s.regN licPg 0x10C) 13 0
  let s := s.bump licPg 6
  if (s.tctx ctx).st = 1 then
    let s := sendMsg s ctx { cls := 3, tc := tcOf 3, len := 16, data := 0xFF00 + (prio * 2 ^ 16 + n) * 2 ^ 96 }
    { s with irq.hostTold := true }
  else s.raise licPg 3

/-- Is a target idle (R370): a Ringmaster core while it waits, the host from its write of IDLE.HOST? -/
def licIdle (s : State) (t : Nat) : Bool := if t = 4 then bitAt (s.regN licPg 0x110) 4 else s.irq.rmIdle.contains t

/-- DELIVERY: a delivery that is due signals a Ringmaster core or sends the host a doorbell (R369, R370). `waiting` says
whether a Ringmaster core waits for an interrupt. -/
def licDeliver (s : State) (t : Nat) (waiting : Bool) : State :=
  let s : State := if t = 4 then s
    else { s with irq.rmIdle := if waiting then NSet.insert s.irq.rmIdle t else NSet.erase s.irq.rmIdle t }
  let k := s.licTarget t
  let idle := licIdle s t
  let due := idle || decide (max (field (s.regN licPg (0x208 + 0x20 * t)) 31 24) 1 ≤ k.held) || k.expired
  match licBest s t with
  | none => s
  | some n =>
    if !due || (t == 4 && s.irq.hostTold) || s.domainState 367 != 0 then s
    else
      let prio := licCfg s n % 256
      let s := (s.setLicTarget t { k with held := 0, expired := false }).bump licPg (if idle then 4 else 5)
      if t = 4 then hostDoorbell (s.setField licPg 0x110 4 1 0) n prio
      else { s with irq.rmIdle := NSet.erase s.irq.rmIdle t }

/-- MODERATION_EXPIRY: MOD.TICKS have passed since HELD left 0, and a delivery is due (R370). -/
def moderationExpiry (s : State) (t : Nat) : State :=
  let k := s.licTarget t
  let ticks := field (s.regN licPg (0x208 + 0x20 * t)) 23 0
  if ticks ≠ 0 ∧ k.held ≠ 0 ∧ k.heldAt + ticks ≤ s.tick ∧ (licBest s t).isSome then s.setLicTarget t { k with expired := true }
  else s

/-- IDLE_HOST: a write of 1 to LIC.IDLE.HOST (R369, R370). -/
def idleHostWrite (s : State) (v : Nat) : State :=
  if bitAt v 4 then { s.setField licPg 0x110 4 1 1 with irq.hostTold := false } else s

/-- LIC.SCFG as it reads. -/
def licScfgReg (s : State) : Nat :=
  let n := field (s.regN licPg 0x100) 11 0
  b2n (licPending s n) * 2 ^ 31 + b2n (SMap.get s.irq.active n).isSome * 2 ^ 30 + b2n (licAsserted s n) * 2 ^ 29 + licCfg s n

/-- LIC.DEPTHt as it reads. -/
def licDepthReg (s : State) (t : Nat) : Nat := (s.licTarget t).running * 2 ^ 8 + (s.licTarget t).stack.length

/-- LIC.IDLE as it reads. -/
def licIdleReg (s : State) : Nat :=
  putField (s.regN licPg 0x110) 0 4 ((List.range 4).foldl (fun a t => a + b2n (s.irq.rmIdle.contains t) * 2 ^ t) 0)

/-- SIC.SRCn as it reads. -/
def sicSrcReg (s : State) (c n : Nat) : Nat :=
  s.regN (sicPage c) (0x200 + 4 * n) + b2n (sicPending s c n) * 2 ^ 8 + b2n ((s.sic c).active.contains n) * 2 ^ 9 +
    b2n (sicAsserted s c n) * 2 ^ 10

/-! ### Spyglass (R371) -/

/-- Sources whose HIT bit is set, by number of their SEL. -/
def spyHits (s : State) : List Nat :=
  (List.range 64).filter (fun n => bitAt (s.regN spyPage (if n < 32 then 0x104 else 0x108)) (n % 32))

/-- The source of a SEL. -/
def spySel (s : State) (n : Nat) : Nat := field (s.regN spyPage (0x200 + 4 * n)) 11 0

/-- The Ringmaster domain runs again: each source whose HIT bit is set becomes pending in the LIC once (R371). -/
def spyPending (s : State) : State := (spyHits s).foldl (fun s n => licEdge s (spySel s n)) s

/-- RELOCK: a generator that lost lock relocks (R336, R371). -/
def relock (s : State) (d : Nat) : State :=
  let t := clkRelock s d
  if d = 367 ∧ s.domainState 367 ≠ 0 ∧ t.domainState 367 = 0 then spyPending t else t

/-- SPYGLASS_HIT: a watched line is asserted; its HIT bit sets, sleeping groups are asked to wake, and the LIC is told at once or
when its domain runs again (R371). -/
def spyglassHit (s : State) (n : Nat) : State :=
  let src := spySel s n
  let off := if n < 32 then 0x104 else 0x108
  match licSource src with
  | none => s
  | some p =>
    let level := s.domainState p.domain == 0 && lineLevel s p &&
      (decide (2560 ≤ src) || (sicRoute s (src / 64) (src % 64) && sicPrio s (src / 64) (src % 64) != 0))
    if !bitAt (s.regN spyPage 0x010) 0 || !bitAt (s.regN spyPage (0x200 + 4 * n)) 31 || !level || bitAt (s.regN spyPage off) (n % 32) then s
    else
      let s := ((s.setField spyPage off (n % 32) 1 1).raise spyPage 0).bump spyPage 0
      let groups := (List.range 3).filter (fun g =>
        bitAt (s.regN spyPage 0x100) g && s.power.asleep.contains g && (SMap.get s.power.waking g).isNone)
      let s := groups.foldl (fun (s : State) g =>
        ({ s with power.waking := SMap.set s.power.waking g s.tick } : State).bump spyPage 1) s
      if s.domainState 367 = 0 then licEdge s src else s

/-! ### Mailboxes (R372-R375) -/

/-- The messages of a channel. -/
def State.box (s : State) (k : Nat) : List Nat := SMap.getD s.irq.boxes [] k

/-- Put the messages of a channel. -/
def State.setBox (s : State) (k : Nat) (l : List Nat) : State := { s with irq.boxes := SMap.set s.irq.boxes k l }

/-- A message is sent to a channel: accepted, or discarded at 16 messages (R373). -/
def boxSend (s : State) (k msg : Nat) (who : Requester) : State :=
  let p := mbxPage k
  if 16 ≤ (s.box k).length then ((s.raise p 2).bump p 2).logReq p kindEvent who true 0x240
  else ((s.setBox k (s.box k ++ [msg % 2 ^ 512])).raise p 0).bump p 0

/-- A doorbell of a channel (R373). -/
def boxDoorbell (s : State) (k bits : Nat) : State :=
  let p := mbxPage k
  ((s.setReg p 0x304 (s.reg p 0x304 ||| BitVec.ofNat 32 bits)).raise p 0).bump p 3

/-- The interrupt back to a channel's sender (R374). -/
def boxEmpty (s : State) (k : Nat) : State :=
  let p := mbxPage k
  let cfg := s.regN p 0x100
  match field cfg 31 30 with
  | 0 => s
  | 1 => s.bump p 4
  | 2 =>
    let n := field cfg 13 0
    let s := s.bump p 4
    if (s.tctx n).st = 1 then sendMsg s n { cls := 3, tc := tcOf 3, len := 16, data := k * 2 ^ 8 + 0x01000000 * 2 ^ 96 } else s
  | _ => licEdge (s.bump p 4) (field cfg 11 0)

/-- POP: a write of MBX.POP removes the head message (R373, R374). -/
def boxPop (s : State) (k : Nat) : State :=
  let p := mbxPage k
  match s.box k with
  | [] => s.bump p 5
  | _ :: rest =>
    let s := (s.setBox k rest).bump p 1
    if rest.isEmpty then boxEmpty (s.raise p 1) k else s

/-- A write of MBX.CFG (R374); false where it names no software source. -/
def boxCfgWrite (s : State) (k v : Nat) : State × Bool :=
  if field v 31 30 = 3 ∧ (field v 13 0 < 3072 ∨ 4095 < field v 13 0) then (s, false)
  else (s.setRegN (mbxPage k) 0x100 (field v 31 30 * 2 ^ 30 + field v 13 0), true)

/-- The 64 bytes staged in MBX.SENDw (R373). -/
def boxStaged (s : State) (k : Nat) : Nat := ofWords ((List.range 16).map (fun w => s.stage (mbxPage k) (0x200 + 4 * w)))

/-- A channel whose home enters reset loses its messages, its DB and its staging (R375). -/
def boxReset (s : State) (k : Nat) : State :=
  let p := mbxPage k
  let s := s.setBox k []
  let s := (List.range 16).foldl (fun s w => s.setStage p (0x200 + 4 * w) 0) s
  s.setReg p 0x304 0

/-- MBX.STATUS as it reads. -/
def boxStatus (s : State) (k : Nat) : Nat := b2n (s.regN (mbxPage k) 0x304 != 0) * 2 ^ 5 + (s.box k).length

/-- MBX.RECVw as it reads. -/
def boxRecv (s : State) (k w : Nat) : Nat := match s.box k with | [] => 0 | m :: _ => m / 2 ^ (32 * w) % 2 ^ 32

end Sys2Proof.Machine
end

