-- ==== Sys2Proof/Machine/Contain.lean ====
section
/-! DEFINITION. Containment: resets of contexts, cores and domains, the job kill, partition resets, the warm reset, reserve
promotion, and retirement's cause (R103, R397-R413, R442, R443). -/

namespace Sys2Proof.Machine

/-! ### Context and core resets -/

/-- Pushes on their way into a queue of a context (R84). -/
def Core.pushesIn (c : Core) (x : Ctx) (q : Nat) : Nat := (c.pushIn.filter (fun m => m.ctx == x && m.queue == q)).length

/-- A queue as RESET leaves it: empty, unbound, every credit that the context holds returned, which those of the `away` pushes still on
their way are not; the EXT bit stays (R85, R103). -/
def DataQueue.cleared (q : DataQueue) (away : Nat := 0) : DataQueue := { ext := q.ext, credits := 32 - away }

/-- RESET of a context that is IDLE or HALTED (R85, R103, R114, R118, R119, R146): its queues and architected registers clear,
credits return, replay tables and layer mark clear, its stream contexts become IDLE. Its PC registers, flags and stores stay. -/
def ctxReset (s : State) (id : CoreId) (x : Ctx) : State :=
  let c := s.core id
  let k := c.ctx x
  let st (v : Stream) : Stream := { pc := v.pc, readyAt := v.readyAt }
  let k' : Context := { exe := st k.exe, acc := st k.acc, queues := k.queues.map (fun e => (e.1, e.2.cleared (c.pushesIn x e.1))) }
  let c := resetScs (c.setCtx x k') x
  let c := { c with pend := c.pend.filter (fun p => p.ctx != x) }
  let s := s.setCore id c
  let p := corePage id
  [0x0C, 0x18, 0x1C].foldl (fun s o => s.setRegN p (ctxOff x o) 0) s

/-- A core reset (R77, R80, R86, R114, R118, R119, R405): contexts, flags, holders, queues, registers, banks and stream contexts
take their reset values; stores, the instruction store and configuration stay. -/
def coreReset (s : State) (id : CoreId) : State :=
  let c := s.coreAt id (s.core id).now
  let s := s.countCycles (drnPage id) 4 (2 ^ 64 - drainAhead (s.ope id) c.now % 2 ^ 64)
  let fresh (x : Ctx) : Context := { queues := (c.ctx x).queues.map (fun e => (e.1, e.2.cleared)) }
  let c' : Core := {
    now := c.now, istore := c.istore, ctxF := fresh .f, ctxB := fresh .b, ctxU := fresh .u, store := c.store, marks := c.marks
    portFree := c.portFree, readFree := c.readFree, halfLog := c.halfLog, lastIssue := c.now, waitCycles := c.waitCycles, faultCycles := c.faultCycles }
  let s := s.setCore id c'
  let s : State := { s with opes := SMap.del s.opes (coreIdx id) }
  let s := allCtx.foldl (fun s x =>
    [0x0C, 0x10, 0x14, 0x18, 0x1C, 0x20].foldl (fun s o => s.setRegN (corePage id) (ctxOff x o) 0) s) s
  if id.core.val < 2 then abandonLoupes (abandonMirror (abandonMirror s id 6) (partner id) 6) id (fun _ => true) else s

/-- The cores of some clusters. -/
def coresOf (cs : List Nat) : List CoreId := cs.flatMap (fun c => (List.range 7).map (fun k => coreOfIdx (7 * c + k)))

/-- Clusters of a partition (R400). -/
def State.partClusters (s : State) (p : Nat) : List Nat := (List.range 40).filter (fun c => s.clusterPart c == p)

/-- JOB of a cluster. -/
def State.clusterJob (s : State) (c : Nat) : Nat := field (s.regN partPg (0x200 + 4 * c)) 7 4

/-- Clusters of a job (R398). -/
def State.jobClusters (s : State) (p j : Nat) : List Nat := (s.partClusters p).filter (fun c => s.clusterJob c == j)

/-- Is every context of some cores HALTED or IDLE (R399)? -/
def allStopped (s : State) (ids : List CoreId) : Bool :=
  ids.all (fun id => allCtx.all (fun x => ((s.core id).ctx x).mode == .idle || ((s.core id).ctx x).mode == .halted))

/-- Is every context of some cores IDLE (R412)? -/
def allIdle (s : State) (ids : List CoreId) : Bool := ids.all (fun id => allCtx.all (fun x => ((s.core id).ctx x).mode == .idle))

/-- Write HALT_ALL on every core of some clusters (R399, R404). -/
def haltClusters (s : State) (cs : List Nat) : State := (coresOf cs).foldl haltAllCore s

/-- Cluster of a core requester. -/
def whoCluster : Requester → Option Nat
  | .sregwr c _ => some c.val
  | .jg id => some id.cluster.val
  | _ => none

/-- Has a core neither a tile request nor a JG.LD that awaits a response? -/
def coreQuiet (c : Core) : Bool :=
  c.scs.all (fun e => e.2.reqs.all (fun r => !r.sent || r.reply.isSome)) &&
    allCtx.all (fun x => (c.ctx x).exe.loads.isEmpty && (c.ctx x).acc.loads.all (fun l => l.got.isSome))

/-- Did some cluster make a write that an agent has not accepted? One without a sender on record counts as made there. -/
def originIn (ours : Nat → Bool) (who : Option Origin) : Bool :=
  match who with
  | some (.unit (.row c)) => ours c
  | some (.unit _) => false
  | some (.ledger c _) => ours c
  | some (.numerics c) => ours c
  | some (.jgSt core _) => ours (core / 7)
  | some (.params _) => false
  | none => true

/-- Is every source interface of some clusters quiet (R399)? Flag adds on their way keep no record of their source, so any of them
counts (log entry 59). -/
def State.quiet (s : State) (cs : List Nat) : Bool :=
  let ours (i : Nat) : Bool := cs.contains i
  (coresOf cs).all (fun id => coreQuiet (s.core id)) &&
    s.cores.all (fun e => e.2.flagsIn.isEmpty &&
      e.2.pushIn.all (fun p => !(if p.src < 280 then ours (p.src / 7) else decide (281 ≤ p.src) && ours (p.src - 281)))) &&
    s.mem.stashes.all (fun e => e.2.inbox.all (fun r =>
      match r.op with | .tile core _ _ _ _ _ _ => !ours (core / 7) | .bytes who _ _ _ _ _ => !originIn ours who)) &&
    s.mem.atomicsIn.all (fun a => match whoCluster a.who with | some c => !ours c | none => true) &&
    s.mem.waiting.all (fun h => match h.op with
      | .write _ _ _ _ who => !originIn ours who
      | .atomic a => (match whoCluster a.who with | some c => !ours c | none => true)
      | .fetchAdd _ _ => true
      | .load core _ => !ours (core / 7)
      | .read key _ _ => !(match key with | .row c => ours c | _ => false)
      | .fetch core _ _ _ _ => !ours (core / 7)
      | .store r => (match r.op with | .tile core _ _ _ _ _ _ => !ours (core / 7) | .bytes who _ _ _ _ _ => !originIn ours who)) &&
    cs.all (fun c => (s.row c).run.isNone)

/-! ### Work on clusters (R399) -/

/-- Steps 3 to 5 of R399 on a cluster: the row engine aborts, the Stash is released, the mover drops its tiles and its moves are
cancelled, the SIC clears. -/
def clearCluster (s : State) (c : Nat) : State :=
  let s := stashRelease (rowAbort s c) c 0
  let mine := s.mem.moves.filter (fun m => match m.by_ with | .mover k _ => decide (k = c) | _ => false)
  let s := mine.foldl cancelMove s
  let s := s.setMover c { s.mover c with reqs := [] }
  s.setSic c { s.sic c with soft := [], active := [] }

/-- Step 2 of R399 on a core: HALTED contexts are RESET, the stream contexts of every context become IDLE, flags take 0. -/
def killCore (s : State) (id : CoreId) : State :=
  let s := allCtx.foldl (fun s x =>
    if ((s.core id).ctx x).mode == .halted then ctxReset s id x else s.modCore id (fun c => resetScs c x)) s
  s.modCore id (fun c => { c with flags := [] })

/-- PART.DRAIN_LIMIT as it acts. -/
def drainLimit (s : State) : Nat := max (s.regN partPg 0x120) 1024

/-- A write of PART.KILL (R399); false when it is ignored, for a partition being reset or during another kill. -/
def killWrite (s : State) (v : Nat) : State × Bool :=
  let p := field v 5 4
  let j := field v 3 0
  if !bitAt v 31 then (s, true)
  else if s.cont.kill.isSome || (SMap.get s.cont.resets p).isSome || s.cont.warm.isSome then (s.raise partPg 5, false)
  else (haltClusters { s with cont.kill := some (p, j, s.tick) } (s.jobClusters p j), true)

/-- Firmware makes its next kill, if it has one left (R426, R445). -/
def nextKill (s : State) : State :=
  match s.cont.kills with
  | [] => s
  | (p, j) :: rest => haltClusters { s with cont.kill := some (p, j, s.tick), cont.kills := rest } (s.jobClusters p j)

/-- Firmware kills every job (R426, R445), one after another. -/
def killAll (s : State) : State :=
  let jobs := (List.range 40).map (fun c => (s.clusterPart c, s.clusterJob c))
  let s : State := haltClusters { s with cont.kills := if s.cont.warm.isSome then [] else jobs.eraseDups } (List.range 40)
  if s.cont.kill.isSome then s else nextKill s

/-- KILL_DONE: the contexts of the killed job have halted, its cores and clusters are cleared, and it is quiet (R399). -/
def killDone (s : State) : State :=
  match s.cont.kill with
  | none => s
  | some (p, j, _) =>
    let cs := s.jobClusters p j
    let ids := coresOf cs
    if !allStopped s ids then s
    else
      let t := cs.foldl clearCluster (ids.foldl killCore s)
      if !t.quiet cs then s
      else nextKill ((({ t with cont.kill := none } : State).raise partPg 1).bump partPg 2)

/-! ### Partition resets (R400-R405) -/

/-- A partition with no cluster is UNUSED (R400). -/
def State.unused (s : State) (p : Nat) : Bool := (s.partClusters p).isEmpty

/-- PART.STATUS as it reads. CLEAR is within one step, so CLEARING is never seen. -/
def partStatus (s : State) : Nat :=
  (List.range 4).foldl (fun a p =>
    a + 4 ^ p * (if (SMap.get s.cont.resets p).isSome || (s.cont.warm.isSome && !s.unused p) then 2
                 else if s.unused p then 0 else 1)) 0

/-- FENCE of a partition: its epoch rises and its cores halt (R404). -/
def fence (s : State) (p : Nat) : State :=
  haltClusters (s.setRegN partPg (0x100 + 4 * p) (wrapSucc 16 (s.epochOf p))) (s.partClusters p)

/-- End the Periscope session, if one is open (R430). -/
def endSession (s : State) : State := { s with sec.session := none }

/-- Put TAL.STAGE. -/
def State.enterStage (s : State) (n : Nat) : State := s.setField talPage 0x014 0 4 n

/-- FENCE of a warm reset (R411): every partition that is not UNUSED at once; TAL.STAGE is MGMT until RELEASE, if the stage was
above it; a session ends; the firmware must be verified anew. A warm reset in progress is joined. -/
def startWarm (s : State) (cls : Nat) : State :=
  match s.cont.warm with
  | some _ => { s with cont.warmClass := max s.cont.warmClass cls }
  | none =>
    let s := ((List.range 4).filter (fun p => !s.unused p)).foldl fence s
    let s : State := { s with cont := { kill := none, kills := [], resets := [], warm := some ⟨s.tick, false⟩, warmClass := cls } }
    let s : State := endSession { s with sec.verified := false }
    if s.stage347 = stReady ∨ s.stage347 = stDraining then s.enterStage stMgmt else s

/-- A trigger resets its target (R403, R404): a partition, all for 4, none for 5. One for a partition being reset joins that
reset. Each partition reset and each joined trigger is counted. -/
def takeTrigger (s : State) (cause target cluster : Nat) : State :=
  let s := (s.record partPg 0x124 (cause * 2 ^ 26 + (if target < 4 then target else 0) * 2 ^ 24 + cluster)).raise partPg 3
  if target = 4 then startWarm s 0
  else if 5 ≤ target then s
  else
    let s := s.bump partPg 0
    if s.cont.warm.isSome || (SMap.get s.cont.resets target).isSome then s
    else
      let kill := match s.cont.kill with
        | some (p, j, t) => if p = target then none else some (p, j, t)
        | none => none
      let s : State := { s with cont := { s.cont with kill := kill, resets := SMap.set s.cont.resets target ⟨s.tick, false⟩ } }
      fence s target

/-- SHARED_TRIGGER: the next fault in a shared structure resets its partition or the module (R403). -/
def sharedTrigger (s : State) : State :=
  match s.mem.shared with
  | [] => s
  | t :: rest => takeTrigger { s with mem.shared := rest } t.cause t.target t.cluster

/-- PART_RESET: a write of PART.RESET resets each partition that its mask names (R403). -/
def partResetWrite (s : State) (v : Nat) : State :=
  ((List.range 4).filter (fun p => bitAt v p)).foldl (fun s p => takeTrigger s 0xA p 0) s

/-- DRAIN_TIMEOUT: DRAIN_LIMIT ticks have passed since a kill (4), a partition reset (0 to 3) or a warm reset (5) began (R399,
R404, R411). -/
def drainTimeout (s : State) (what : Nat) : State :=
  let late (t : Nat) : Bool := decide (t + drainLimit s ≤ s.tick)
  let count (s : State) : State := (s.raise partPg 4).bump partPg 4
  if what = 4 then
    match s.cont.kill with
    | some (p, _, t) => if late t then nextKill (takeTrigger (count { s with cont.kill := none }) 9 p 0) else s
    | none => s
  else if what < 4 then
    match SMap.get s.cont.resets what with
    | some d => if late d.since then takeTrigger (count s) 9 4 0 else s
    | none => s
  else
    match s.cont.warm with
    | some d => if late d.since && !d.expired then count { s with cont.warm := some { d with expired := true } } else s
    | none => s

/-! ### Reserve promotion (R442) -/

/-- Sites that serve no cluster and are not dead, lowest first. -/
def State.reserves (s : State) : List Nat :=
  (List.range 48).filter (fun n => (s.clusterAt n).isNone && !s.fab.dead.contains n)

/-- Sites in service once `site` serves cluster `c`. -/
def State.sitesWith (s : State) (c site : Nat) : List Nat := (List.range 40).map (fun k => if k = c then site else s.siteOf k)

/-- A table of the spec's form as a sparse table. -/
def tableOf (l : List (Nat × Nat)) : SMap Nat := l.foldl (fun m e => SMap.set m e.1 e.2) []

/-- Mark every unit of a site RETIRED in the ledger (R318, R442). -/
def retireSite (s : State) (site : Nat) : State :=
  let mine (u : Nat) : Bool := [1, 2, 3, 7].contains (u / 2 ^ 28) && field u 27 20 == site
  retireUnits s (fun r => mine r.unit)

/-- PENDING and CLUSTER of PWR.SPARES follow the clusters due. -/
def sparesPending (s : State) : State :=
  let p : Page := ⟨.pwr, 0⟩
  match s.power.siteDue with
  | [] => (s.setField p 0x118 15 1 0).setField p 0x118 8 6 0
  | c :: _ => (s.setField p 0x118 15 1 1).setField p 0x118 8 6 c

/-- Promote the first reserve site of a list that passes its self-test and whose map passes the route test; one that fails its
self-test becomes dead (R442). Whether one was promoted. -/
def promoteFrom (test : Nat → Bool) (s : State) (c : Nat) : List Nat → State × Bool
  | [] => ({ s with power.noReserve := true }, false)
  | n :: rest =>
    let sites := s.sitesWith c n
    let routes := tableOf (Config.firmwareRoutes sites)
    if !test n then promoteFrom test { s with fab.dead := NSet.insert s.fab.dead n } c rest
    else if !routesLegal (fun k => sites.contains k) routes then promoteFrom test s c rest
    else
      let old := s.siteOf c
      let s : State := { s with
        fab.sites := SMap.set s.fab.sites c n
        fab.dead := NSet.insert s.fab.dead old
        fab.routes := routes
        power.siteDue := s.power.siteDue.filter (fun k => decide (k ≠ c)) }
      (sparesPending ((retireSite (fixAttachments s) old).bump ⟨.pwr, 0⟩ 3), true)

/-- A reserve site is brought into service for each of some clusters that is due for one (R442). -/
def promoteDue (s : State) (cs : List Nat) : State :=
  (s.power.siteDue.filter (fun c => cs.contains c)).foldl (fun s c => (promoteFrom (fun n => Config.siteTest n s.tick) s c s.reserves).1) s

/-! ### CLEAR and RELEASE (R405) -/

/-- Partition of a port, by PORT instance: HP serves every partition (R400). -/
def State.portPart (s : State) (i : Nat) : Option Nat :=
  if i = 0 then none
  else
    let k := s.unitNo (i - 1)
    if 16 ≤ k then none else some (field (s.regN partPg 0x11C) (2 * k + 1) (2 * k))

/-- HOST and PEER contexts of a kind of owner become FAILED (R405, R411). -/
def failContexts (s : State) (mine : TalCtx → Bool) : State :=
  (s.net.ctxs.filter (fun e => (e.2.st == 1 || e.2.st == 2) && (e.2.kind == 1 || e.2.kind == 2) && mine e.2)).foldl
    (fun s e => failCtx s e.1) s

/-- The work of CLEAR on the training units (R405). -/
def clearTraining (s : State) : State :=
  let s := ((s.setField crsPage 0x010 0 1 0).setField updPage 0x010 0 1 0).setField stepPage 0x100 31 1 0
  let unit (u : CrsUnit) : CrsUnit := { u with slots := [], kept := [], roots := [], thin := [], handed := [], mc := [], parts := [] }
  let keepAsk (a : Ask) : Bool := match a.path with | .pull _ _ _ => true | _ => false
  { s with
    crs.units := s.crs.units.map (fun e => (e.1, unit e.2))
    crs.hands := []
    crs.pulls := s.crs.pulls.filter (fun p => p.hand.isNone)
    crs.records := []
    crs.multicast := []
    upd.queue := []
    upd.slices := []
    upd.batches := []
    upd.rebuilds := []
    step.homing := s.step.homing.filter (fun h => h.rule.isNone)
    step.asks := s.step.asks.filter keepAsk }

/-- CLEAR on some clusters: core resets, steps 3 to 5 of R399, mailbox channels homed there, reserve promotion (R405, R442). -/
def clearClusters (s : State) (cs : List Nat) : State :=
  let s := (coresOf cs).foldl coreReset s
  let s := cs.foldl (fun s c => boxReset (clearCluster s c) c) s
  promoteDue s cs

/-- CLEAR and RELEASE of a partition (R404, R405). -/
def clearPart (s : State) (p : Nat) : State :=
  let s := clearClusters s (s.partClusters p)
  let s := failContexts s (fun c => c.part == p || s.portPart c.port == some p)
  let s := if s.trainPart = p then clearTraining s else s
  ({ s with cont.resets := SMap.del s.cont.resets p } : State).raise partPg 0

/-! ### Domain resets -/

/-- A reset of some pages sets their registers, counters, logs and snapshots to their reset values (R389, R390, R441). -/
def resetPages (s : State) (p : Page → Bool) (keep : Nat → Bool) : State :=
  let gone (k : Nat) : Bool := match pageAt k with | some q => p q | none => false
  { s with
    regs := s.regs.filter (fun e => !gone e.1 || keep e.1)
    staged := s.staged.filter (fun e => !gone e.1)
    counters := s.counters.filter (fun e => !gone (e.1 / 256))
    logs := s.logs.filter (fun e => !gone e.1)
    snaps := s.snaps.filter (fun e => !gone e.1) }

/-- Registers of the Ringmaster domain that a warm reset keeps: TAL.STAGE, which R411 sets, and the epochs, which R408 orders. -/
def warmKeeps (k : Nat) : Bool :=
  k == 0xA81014 || (decide (0xA8A100 ≤ k) && decide (k < 0xA8A110))

/-- The Ringmaster domain's reset of a warm reset (R375, R441, R443): its pages, the LIC, its mailbox channels, requested
frequencies; a PERMANENT Ringmaster core is replaced by the spare and becomes RETIRED (R318); the LIC is told of the Spyglass's hits
(R371). -/
def ringmasterReset (s : State) : State :=
  let s := (List.range 20).foldl (fun s k => boxReset s (40 + k)) s
  let s := resetPages s (fun p => p.domain == 367) warmKeeps
  let s : State := { s with counters := SMap.set (SMap.set s.counters (clkPage.base * 256) s.tick) (partPg.base * 256 + 5) s.tick }
  let s : State := { s with irq := { s.irq with
    cfg := [], edges := [], active := [], targets := [], hostTold := false, rmIdle := [] } }
  let asked := (s.fab.clocks.filter (fun e => e.2.want.isSome)).map (·.1)
  let s := asked.foldl (fun s d => retune (s.setClock d { s.clock d with want := none }) d) s
  let s := if s.power.rmFailed.isEmpty then s
    else
      let s := retireUnits s (fun r => decide (r.unit / 2 ^ 28 = 8) && s.power.rmFailed.contains (r.unit % 2 ^ 20))
      { s with power.rmFailed := [], flash.rmSpare := true }
  spyPending s

/-- TAL.STAGE after a warm reset (R411, R423, R426, R445): READY, unless an alarm is held, the module is unprovisioned, a
removal is in progress, or the module had not reached it. -/
def warmStage (s : State) : State :=
  if s.stage347 ≠ stMgmt ∨ !s.power.upDone ∨ s.sec.held ∨ s.sec.identity.isNone then s
  else if s.sec.removal ≠ 0 then s.enterStage stDraining
  else s.enterStage stReady

/-- TARGETS_ACKNOWLEDGED: every target has adopted the new epoch and every source is quiet, or a warm reset's DRAIN has expired;
CLEAR runs and RELEASE follows (R404, R405, R411). `what` names a partition, or 4 a warm reset, which also waits until the
boot ROM has verified the firmware. -/
def targetsAcknowledged (s : State) (what : Nat) : State :=
  let drained (p : Nat) : Bool := allAdopted s p && s.quiet (s.partClusters p)
  if what < 4 then
    if (SMap.get s.cont.resets what).isSome && drained what then clearPart s what else s
  else
    match s.cont.warm with
    | none => s
    | some d =>
      let parts := (List.range 4).filter (fun p => !s.unused p)
      if (d.expired || parts.all drained) && (s.sec.verified || s.sec.recovery) then
        let s := clearTraining (failContexts (clearClusters s (List.range 40)) (fun _ => true))
        let s := ringmasterReset s
        let s : State := { s with cont.warm := none, cont.warmClass := 0 }
        warmStage ((s.raise partPg 2).bump partPg 1)
      else s

/-! ### Configuration (R412) -/

/-- The partitions that a write of a PART register concerns: those of the old and the new value. -/
def configParts (s : State) (off v : Nat) : List Nat :=
  let old := s.regN partPg off
  if off = 0x118 then [field old 1 0, field v 1 0]
  else if off = 0x11C then
    ((List.range 16).filter (fun k => field old (2 * k + 1) (2 * k) != field v (2 * k + 1) (2 * k))).flatMap
      (fun k => [field old (2 * k + 1) (2 * k), field v (2 * k + 1) (2 * k)])
  else if 0x200 ≤ off then [field old 1 0, field v 1 0]
  else [(off - 0x140) / 8]

/-- Is a register one of those that R412 guards? -/
def partGuarded (off : Nat) : Bool :=
  off == 0x118 || off == 0x11C || (decide (0x140 ≤ off) && decide (off < 0x160)) || (decide (0x200 ≤ off) && decide (off < 0x2A0))

/-- A write of PART.CLc, PORTS, TRAIN, TBASEp or TLIMp: only while every context of the partitions concerned is IDLE (R412);
false when it is ignored. -/
def partConfigWrite (s : State) (off v : Nat) : State × Bool :=
  let mask := match Block.spec .part off with | some r => r.rw | none => 0
  if (configParts s off v).all (fun p => allIdle s (coresOf (s.partClusters p))) then
    (s.setRegN partPg off (BitVec.ofNat 32 v &&& BitVec.ofNat 32 mask).toNat, true)
  else (s, false)

end Sys2Proof.Machine
end

