-- ==== Sys2Proof/Machine/CoreOps.lean ====
section
/-! DEFINITION. What happens in a core in a cycle, apart from the issue of words: when a word may issue, what is due, runs, halts
and resumes, queues and flags written from outside, commits, the stall monitor, tiles delivered and faults (R80-R104,
R130-R146). -/

namespace Sys2Proof.Machine

/-! ### Words and their waits -/

/-- Is a stream of a context recomputing: a stream of B that replays a forward range (R230)? -/
def recomputing (x : Ctx) (st : Stream) : Bool :=
  x == .b && (match st.active with | some (r, _) => decide (32 ≤ r) | none => false)

/-- The substitutions of a recomputation in one slot (R230): a CTX field coded F acts as B, stream context k as k XOR 32. -/
def substitute (op : SlotOp) : SlotOp :=
  let ctx (lo : Nat) : Nat := if field op.raw (lo + 1) lo = 0 then putField op.raw lo 2 1 else op.raw
  let raw := match op.name with
    | .fset | .fadd | .mxPass => ctx 6
    | .vpass | .spass => ctx 32
    | .jgBase | .jgLoop | .jgDest | .jgRun | .jgSwap | .jgStop => putField op.raw 6 6 (field op.raw 11 6 ^^^ 32)
    | _ => op.raw
  { op with raw := raw }

/-- The next word of a stream, with the substitutions of a recomputation (R106, R230). A PC that is no multiple of 4 is taken as
it is, its parcels lying at that byte address (DESIGN CHOICE, log entry 81: the spec gives such a PC no effect). -/
def nextWord (s : State) (id : CoreId) (x : Ctx) (access : Bool) : LongWord :=
  let c := s.core id
  let st := (c.ctx x).stream access
  let w := decodeWord (kindOf id) access (fun n => Mem.readMod c.istore 65536 (st.pc + 4 * n) 4)
  if recomputing x st then { w with slots := w.slots.map substitute } else w

/-- What a word waits for in cycle `t`: slot, kind (1 pop of an empty queue, 2 push to a full queue, 3 flag wait), REMOTE,
number of the queue or flag (R83, R87, R104). A slot whose own bits raise a halt cause names no queue and no flag
(R112, R129; DEDUCED, log entry 21). -/
def waitsOf (c : Core) (x : Ctx) (access : Bool) (w : LongWord) (t : Nat) : List (Nat × Nat × Bool × Nat) :=
  if w.absent then []
  else
    let k := c.ctx x
    let ready := (k.stream access).readyAt
    (w.slots.filter (fun op => !w.causes.any (fun e => e.2 == op.slot))).filterMap (fun op =>
      match popOf op with
      | some q => if (k.queue q).canPop t then none else some (op.slot, 1, false, q)
      | none =>
        match pushOf op with
        | some q =>
          let n := (w.slots.filter (fun o => pushOf o == some q)).length
          if (k.queue q).canPush t n then none else some (op.slot, 2, false, q)
        | none =>
          if op.name = .fwait then
            let f := field op.raw 15 8
            if (c.flag x f).released ready t (field op.raw 17 16) (field op.raw 47 24) then none
            else some (op.slot, 3, bitAt op.raw 18, f)
          else none)

/-- Could a stream's next word issue in cycle `t` (R83, R108, R149)? -/
def issuable (s : State) (id : CoreId) (x : Ctx) (access : Bool) (t : Nat) : Bool :=
  let c := s.core id
  let k := c.ctx x
  let st := k.stream access
  k.live access && decide (st.readyAt ≤ t) && st.loads.isEmpty && (waitsOf c x access (nextWord s id x access) t).isEmpty

/-- Is some stream of a core issuable in cycle `t`? -/
def anyIssuable (s : State) (id : CoreId) (t : Nat) : Bool :=
  allCtx.any (fun x => issuable s id x false t || issuable s id x true t)

/-! ### The stall monitor (R96, R97) -/

/-- Is a stream live and waiting on a queue or a flag in cycle `t`, and what for first? -/
def streamWait (s : State) (id : CoreId) (x : Ctx) (access : Bool) (t : Nat) : Option (Nat × Nat × Bool × Nat) :=
  let c := s.core id
  let k := c.ctx x
  let st := k.stream access
  if k.live access && decide (st.readyAt ≤ t) && st.loads.isEmpty && !(access && scsAwaitMover c x) then
    (waitsOf c x access (nextWord s id x access) t).head?
  else none

/-- Does cycle `t` pass the stall monitor's test (R96)? -/
def stallTest (s : State) (id : CoreId) (t : Nat) : Bool :=
  let c := s.core id
  let one (x : Ctx) (a : Bool) : Bool := !(c.ctx x).live a || (streamWait s id x a t).isSome
  allCtx.any (fun x => (c.ctx x).live false || (c.ctx x).live true) && allCtx.all (fun x => one x false && one x true)

/-- First cycle of the monitor's present count: no stream in an issue gap from there on. -/
def stallStart (s : State) (id : CoreId) : Nat :=
  let c := s.core id
  let one (x : Ctx) (a : Bool) : Nat := if (c.ctx x).live a then ((c.ctx x).stream a).readyAt else 0
  (allCtx.map (fun x => max (one x false) (one x true))).foldl max c.lastIssue

/-- Limit of the stall monitor in cycle `t` (R96). A wait with REMOTE = 1 counts while it is not satisfied; one that is, in a word that still
waits for something else, does not (DESIGN CHOICE, log entry 81). -/
def stallLimit (s : State) (id : CoreId) (t : Nat) : Nat :=
  let r := s.regN (corePage id) 0x1C0
  let remote := allCtx.any (fun x => [false, true].any (fun a =>
    match streamWait s id x a t with
    | some _ => (waitsOf (s.core id) x a (nextWord s id x a) t).any (fun w => w.2.2.1)
    | none => false))
  let e := if remote then field r 12 8 else field r 4 0
  2 ^ max e 10

/-- Has the count reached its limit in cycle `t` or before? -/
def stallDue (s : State) (id : CoreId) (t : Nat) : Bool :=
  bitAt (s.regN (corePage id) 0x010) 0 && stallTest s id t && decide (stallLimit s id t ≤ t + 1 - stallStart s id)

/-- DL_EXE or DL_ACC of a stream at a DEADLOCK halt (R104): of several objects that a word waits on, that of the lowest slot (DESIGN
CHOICE, log entry 81). -/
def deadlockObject (s : State) (id : CoreId) (x : Ctx) (access : Bool) (t : Nat) : Nat :=
  match streamWait s id x access t with
  | none => 0
  | some (_, kind, remote, n) => 2 ^ 31 + kind * 2 ^ 29 + b2n remote * 2 ^ 28 + x.idx * 2 ^ 8 + n

/-! ### What is due -/

/-- The rank update whose stage-1 read falls in cycle `t`, with its sweep operation, if it passes a test. -/
def readsAt (o : Ope) (t : Nat) (ok : Sweep → Nat → Bool) : Option (Sweep × Nat) :=
  o.sweeps.findSome? (fun sw =>
    let step := classStep sw.cls
    let u := (t - sw.start) / step
    if sw.start ≤ t ∧ (t - sw.start) % step = 0 ∧ u < sw.total ∧ sw.next ≤ u && ok sw u then some (sw, u) else none)

/-- Does a stage-1 read of cycle `t` meet poison: the sweep and its rank update (R101)? -/
def poisonedRead (s : State) (id : CoreId) (t : Nat) : Option (Sweep × Nat) :=
  if id.core.val < 2 then readsAt (s.ope id) t (fun sw u => sw.readsPoison (s.coreAt id t) u) else none

/-- Does a stage-1 read meet poison in one of the `n` cycles from `a` on? A read whose rank update is not yet accumulated lies
at most 6 cycles back. -/
def poisonIn (s : State) (id : CoreId) (a : Nat) : Nat → Bool
  | 0 => false
  | n + 1 => (poisonedRead s id a).isSome || poisonIn s id (a + 1) n

/-- Is something of a core due in a cycle before `t`: a commit, a rank update, a drained row, a stage-1 read of poison, a word
that could issue, a DEADLOCK? -/
def dueBefore (s : State) (id : CoreId) (t : Nat) : Bool :=
  (s.core id).pend.any (fun p => decide (p.due < t)) || opeDueBefore (s.ope id) t || poisonIn s id (t - 6) (min t 6) ||
    (decide (0 < t) && (anyIssuable s id (t - 1) || stallDue s id (t - 1)))

/-- May a command of a core act in cycle `t`: the core's clock runs, the core has not passed the cycle, and nothing is due
before it? -/
def coreDue (s : State) (id : CoreId) (t : Nat) : Bool :=
  s.coreRuns id && decide ((s.core id).now ≤ t) && !dueBefore s id t

/-- A core reaches cycle `t`: the cycles that pass are counted while a live stream waits, for a queue or a flag and not for memory or the
mover (R96), or a stream context is in FAULT_WAIT (R105, R152); the fill port takes its next tile. -/
def Core.reach (c : Core) (t : Nat) : Core :=
  let one (x : Ctx) (a : Bool) : List Nat :=
    if (c.ctx x).live a && ((c.ctx x).stream a).loads.isEmpty && !(a && scsAwaitMover c x) then [max c.now ((c.ctx x).stream a).readyAt] else []
  let wait := match allCtx.flatMap (fun x => one x false ++ one x true) with
    | [] => 0
    | a :: r => t - r.foldl min a
  let fault := if c.scs.any (fun e => e.2.state == scFaultWait) then t - c.now else 0
  { c.lockFill t with now := max c.now t, waitCycles := c.waitCycles + wait, faultCycles := c.faultCycles + fault }

/-- Do something in a core in cycle `t`, if it may act there. -/
def inCycle (s : State) (id : CoreId) (t : Nat) (act : State → State) : State :=
  if coreDue s id t then act (s.modCore id (fun c => c.reach t)) else s

/-! ### Commits -/

/-- A stream context's entry for a queue whose EXT bit is set halts the owner with SLOT_CONFLICT when it commits (R84, R137). -/
def pushConflict (id : CoreId) (s : State) (p : Pend) : State :=
  match p.what with
  | .push q _ => if (((s.core id).ctx p.ctx).queue q).ext then haltCtx s id p.ctx causeConflict true p.word p.slot else s
  | _ => s

/-- A fill and vector stores that write one word in one cycle: the stores' bytes are to stand, and each collision is recorded (R163). -/
def fillMeets (s : State) (id : CoreId) (t : Nat) (mine : List Pend) : State :=
  match (s.core id).lastFill with
  | some (w, a) =>
    if w = t ∧ kindOf id ≠ .matrix then
      (mine.filter (fun p => match p.what with
        | .store b l _ => rangesMeet (storeSize (kindOf id)) a 1024 (b % storeSize (kindOf id)) l
        | _ => false)).foldl (fun s p => coreHazard s id 1 p.ctx p.access p.word) s
    else s
  | none => s

/-- RESULT_COMMIT: every result due at the end of cycle `t` commits, once every word that issues in the cycle has issued
(R90, R91), over what a fill writes in that cycle (R163). -/
def resultCommit (s : State) (id : CoreId) (t : Nat) : State :=
  let mine := (s.core id).pend.filter (fun p => decide (p.due = t))
  if mine.isEmpty || anyIssuable s id t then s
  else inCycle s id t (fun s =>
    let s := s.modCore id (fun c => { c with pend := c.pend.filter (fun p => decide (p.due ≠ t)) })
    let s := if mine.any (·.isStore) then fillMeets (s.settlePorts id t) id t mine else s
    mine.foldl (pushConflict id) (commitAll s id (storeSize (kindOf id)) (orderPends mine)))

/-- Has a context an operation that has issued and not committed (R80, R98)? -/
def opsOut (s : State) (id : CoreId) (x : Ctx) : Bool :=
  let c := s.core id
  let k := c.ctx x
  c.pend.any (fun p => p.ctx == x) || opeBusyFor (s.ope id) x || !k.exe.loads.isEmpty || !k.acc.loads.isEmpty

/-- CONTEXT_IDLE: both streams have issued END, every operation has committed and every stream context it owns is at rest: the
context enters IDLE and its DONE bit sets (R80, R131). -/
def contextIdle (s : State) (id : CoreId) (x : Ctx) (t : Nat) : State :=
  let k := (s.core id).ctx x
  if k.mode = .running ∧ k.exe.ended ∧ k.acc.ended ∧ !opsOut s id x ∧ !scsBusy (s.core id) x then
    inCycle s id t (fun s =>
      (s.modCore id (fun c => c.modCtx x (fun k => { k with mode := .idle }))).raise (corePage id) (3 + x.idx))
  else s

/-- HALT_COMPLETE: everything a HALTING context had issued has committed and no tile request of its stream contexts is in
flight: it enters HALTED and its HALT bit sets (R98, R145). -/
def haltComplete (s : State) (id : CoreId) (x : Ctx) (t : Nat) : State :=
  let k := (s.core id).ctx x
  if k.mode = .halting ∧ !opsOut s id x ∧ !scsInFlight (s.core id) x then
    inCycle s id t (fun s =>
      (s.modCore id (fun c => c.modCtx x (fun k => { k with mode := .halted }))).raise (corePage id) x.idx)
  else s

/-! ### CORE.CTX_CTRL and CORE.CTRL (R95, R102-R104) -/

/-- HALT_REQ: a RUNNING context halts with EXTERNAL (R101, R104). -/
def haltRequest (s : State) (id : CoreId) (x : Ctx) : State :=
  let k := (s.core id).ctx x
  if k.mode = .running then haltCtx s id x causeExternal false k.exe.pc noSlot else s

/-- RESET: acts while IDLE or HALTED, otherwise ignored and counted (R103). -/
def resetRequest (s : State) (id : CoreId) (x : Ctx) : State :=
  match ((s.core id).ctx x).mode with
  | .idle => ctxReset s id x
  | .halted => ctxReset s id x
  | _ => s.bump (corePage id) 7

/-- RESUME (R102): acts while HALTED; after POISON_CONSUMED or PARITY it is refused and logged. A wait is judged anew from the cycle after
it: a release latched before the halt does not hold (DESIGN CHOICE, log entry 81: R87 says nothing of a halt). -/
def resumeRequest (s : State) (id : CoreId) (x : Ctx) (who : Requester) (t : Nat) : State :=
  let p := corePage id
  let cause := field (s.regN p (ctxOff x 0x0C)) 7 0
  if ((s.core id).ctx x).mode ≠ .halted then s.bump p 7
  else if cause = causePoison ∨ cause = causeParity then (s.bump p 7).logReq p kindIgnored who true (ctxOff x 0)
  else
    let start (st : Stream) : Stream := { st with readyAt := max st.readyAt (t + 1) }
    let s := s.modCore id (fun c =>
      let c := c.modCtx x (fun k => { k with mode := .running, exe := start k.exe, acc := start k.acc })
      { c with scs := c.scs.map (fun e => if e.2.owner == some x then (e.1, { e.2 with held := false }) else e) })
    let s := [0x0C, 0x18, 0x1C].foldl (fun s o => s.setRegN p (ctxOff x o) 0) s
    sendAll s id (t + 1)

/-- RUN: while IDLE, both streams start at their PCs (R80, R104). -/
def runRequest (s : State) (id : CoreId) (x : Ctx) (t : Nat) : State :=
  if ((s.core id).ctx x).mode = .idle then
    let start (st : Stream) : Stream := { st with ended := false, readyAt := t + 1 }
    s.modCore id (fun c => c.modCtx x (fun k => { k with mode := .running, exe := start k.exe, acc := start k.acc }))
  else s.bump (corePage id) 7

/-- A write of CTX_CTRL: HALT_REQ, RESET, RESUME and RUN act in this order (R104). -/
def ctxCtrlWrite (s : State) (id : CoreId) (x : Ctx) (who : Requester) (t v : Nat) : State :=
  let s := if bitAt v 3 then haltRequest s id x else s
  let s := if bitAt v 2 then resetRequest s id x else s
  let s := if bitAt v 1 then resumeRequest s id x who t else s
  if bitAt v 0 then runRequest s id x t else s

/-- A write of CORE.CTRL (R95, R96, R101): LAT_AUDIT changes only while every context is IDLE or HALTED. -/
def coreCtrlWrite (s : State) (id : CoreId) (who : Requester) (v : Nat) : State :=
  let p := corePage id
  let old := s.regN p 0x010
  let c := s.core id
  let still := allCtx.all (fun x => (c.ctx x).mode == .idle || (c.ctx x).mode == .halted)
  let refused := bitAt v 8 != bitAt old 8 && !still
  let audit := if refused then bitAt old 8 else bitAt v 8
  let s := if refused then s.logReq p kindIgnored who true 0x010 else s
  let s := if bitAt v 0 && !bitAt old 0 then s.modCore id (fun c => { c with lastIssue := max c.lastIssue c.now }) else s
  let s := s.setRegN p 0x010 (b2n audit * 2 ^ 8 + b2n (bitAt v 0))
  if bitAt v 4 then haltAllCore s id else s

/-- A write of QCFG: only while the context is IDLE; clearing an EXT bit ends its binding (R84, R85). False when ignored. -/
def qcfgWrite (s : State) (id : CoreId) (x : Ctx) (v : Nat) : State × Bool :=
  if ((s.core id).ctx x).mode ≠ .idle then (s, false)
  else
    let put (k : Context) (q : Nat) : Context :=
      let dq := k.queue q
      k.setQueue q (if bitAt v q then { dq with ext := true }
        else { dq with ext := false, bound := none, credits := 32 - (s.core id).pushesIn x q })
    (s.modCore id (fun c => c.modCtx x (fun k => (List.range 4).foldl put k)), true)

/-- A write of a PC register: only while IDLE or HALTED (R102, R104). False when ignored. -/
def pcWrite (s : State) (id : CoreId) (x : Ctx) (access : Bool) (v : Nat) : State × Bool :=
  match ((s.core id).ctx x).mode with
  | .running => (s, false)
  | .halting => (s, false)
  | _ => (s.modCore id (fun c => c.modCtx x (fun k => k.setStream access { k.stream access with pc := v % 2 ^ 16 })), true)

/-! ### Flags and queues written from outside -/

/-- REMOTE_FLAG_WRITE: the next remote flag write leaves the crossing in cycle `t` and takes effect at its end (R87, R88). -/
def remoteFlagWrite (s : State) (id : CoreId) (t : Nat) : State :=
  match (s.core id).flagsIn with
  | [] => s
  | m :: rest =>
    inCycle s id t (fun s => s.modCore id (fun c => { c with flagsIn := rest }.writeFlag m.ctx m.flag t 2 m.add m.operand))

/-- An external push arrives at a queue at the end of cycle `t` (R84, R85). The credits are the bound source's alone: a push of a unit has
taken its own when it was sent (`own`), and has it back where the push is discarded from a queue that is bound to no other source;
another agent's push takes one as it is bound. -/
def externalArrive (s : State) (id : CoreId) (x : Ctx) (q src : Nat) (data : Entry) (t : Nat) (own : Bool) : State :=
  let k := (s.core id).ctx x
  let dq := k.queue q
  let overrun (s : State) : State := haltCtx s id x causeOverrun false k.exe.pc noSlot
  let keep (d : DataQueue) : State := s.modCore id (fun c => c.modCtx x (fun k => k.setQueue q d))
  if !dq.ext then overrun (keep { dq with credits := if own then min (dq.credits + 1) 32 else dq.credits })
  else if dq.bound.isSome && dq.bound != some src then overrun s
  else
    let credits := if own then dq.credits else if dq.bound.isSome then dq.credits - 1 else 31
    let dq := { dq with bound := some src, credits := credits }
    if 32 ≤ dq.used t then overrun (keep dq) else keep (dq.fill t data (some src))

/-- Sources below this number are agents that the block has no unit for; the update unit is 280, the SIC of cluster c 281 + c. -/
abbrev unitSources : Nat := 280

/-- EXTERNAL_PUSH: a push that a unit of the block has sent, or one of another agent, leaves the crossing in cycle `t` (R84). -/
def externalPush (s : State) (id : CoreId) (x : Ctx) (q src : Nat) (data : Entry) (t : Nat) : State :=
  let is (m : PushMsg) : Bool := m.ctx == x && m.queue == q && m.src == src
  match (s.core id).pushIn.find? is with
  | some m =>
    inCycle s id t (fun s =>
      externalArrive (s.modCore id (fun c => { c with pushIn := dropFirst is c.pushIn })) id x q src m.data t true)
  | none =>
    if unitSources ≤ src ∧ src < unitSources + 41 then s
    else inCycle s id t (fun s => externalArrive s id x q src data t false)

/-- DEADLOCK: the monitor's count reaches its limit in cycle `t`; every RUNNING context halts and each stream's wait is
recorded (R97). -/
def deadlock (s : State) (id : CoreId) (t : Nat) : State :=
  if !stallDue s id t then s
  else inCycle s id t (fun s =>
    let p := corePage id
    let s' := allCtx.foldl (fun s' x =>
      let k := (s.core id).ctx x
      if k.mode ≠ .running then s'
      else
        let addr (a : Bool) : Nat := if (streamWait s id x a t).isSome then (k.stream a).pc else 0
        let s' := (s'.setRegN p (ctxOff x 0x18) (deadlockObject s id x false t)).setRegN p (ctxOff x 0x1C) (deadlockObject s id x true t)
        s'.setRegN p (ctxOff x 0x20) (addr true * 2 ^ 16 + addr false)) s
    (haltCore s' id none causeDeadlock false 0 noSlot).raise p 6)

/-! ### Tiles of stream contexts -/

/-- The bytes and marks that a store-direction tile carries, the sidecar from byte 32,768 on, once the read port has read it (R134, R139). -/
def takeTile (c : Core) (n seq : Nat) : Option (List Host.Cell × NSet) :=
  ((c.sc n).reqs.find? (fun r => decide (r.seq = seq))).bind (·.out)

/-- Count a tile or a JG.ST that a recomputation suppresses (R230). -/
def suppressed (s : State) (id : CoreId) : State := s.bump (ledgerPage id.cluster.val) 3

/-- Marks of 128-byte lines as marks of 32-byte sectors. -/
def sectorMarks (marks : NSet) : NSet := marks.flatMap (fun n => [4 * n, 4 * n + 1, 4 * n + 2, 4 * n + 3])

/-- Is the reply to a tile request of stream context `n` possible in cycle `t`: the request has gone out in an earlier cycle, and a
store-direction tile has been read (R139, R140)? The bytes and marks that go with it. -/
def requestOut (s : State) (id : CoreId) (n seq t : Nat) : Option (TileReq × List Host.Cell × NSet) :=
  let sc := (s.core id).sc n
  match sc.reqs.find? (fun r => decide (r.seq = seq) && r.sent && !r.taken && r.reply.isNone) with
  | none => none
  | some r =>
    if t ≤ r.sentAt then none
    else if sc.cur.store then (takeTile (s.coreAt id t) n seq).map (fun o => (r, o.1, o.2))
    else some (r, [], [])

/-- The home of a tile takes a request, with the bytes and marks of a store; its reply arrives in cycle `t` (R139-R141, R193, R198, R204,
R230). A request waits while the agent gives no credit; a store to a Stash is answered by STASH_STORE, one that a recomputation
suppresses at once. -/
def serveTile (s : State) (id : CoreId) (n seq t : Nat) (r : TileReq) (bytes : List Host.Cell) (marks : NSet) : State :=
  let sc := (s.core id).sc n
  let put (s : State) (a : TileReply) : State := s.setSc id n (putReply ((s.core id).sc n) seq t a)
  match aliasOf r.tile with
  | some (f, t') =>
    let who := Requester.jg id
    put (storeAtomic s ⟨who, f, 0x8000 * t', 0x8000, bytes, sectorMarks marks⟩) .accepted
  | none =>
    if sc.cur.store && sc.recompute && (stashOf r.tile).isSome then put (suppressed s id) .accepted
    else if s.saturated (agentOf r.tile) then s
    else if !sc.cur.store then
      if stashBusy s r.tile then s
      else if s.holdsFor r.tile && (stashOf r.tile).isSome then
        (arrive s ⟨agentOf r.tile, r.tile, .fetch (coreIdx id) n seq t sc.cur.sidecar⟩).setSc id n
          { sc with reqs := sc.reqs.map (fun e => if e.seq = seq then { e with taken := true } else e) }
      else
        let s := s.accept r.tile
        match s.tileFault r.tile with
        | some f => put s (.fault f)
        | none =>
          let (s, a) := readTile s r.tile sc.cur.sidecar
          put s a
    else
      match stashOf r.tile with
      | some (cl, d) =>
        let st := s.stash cl
        let q : StashReq := ⟨d, .tile (coreIdx id) n seq t sc.cur.sidecar bytes marks⟩
        let s := s.setStash cl { st with inbox := st.inbox ++ [q] }
        s.setSc id n { sc with reqs := sc.reqs.map (fun e => if e.seq = seq then { e with taken := true } else e) }
      | none =>
        let s := s.accept r.tile
        match s.tileFault r.tile with
        | some f => put s (.fault f)
        | none => put (writeTile s r.tile sc.cur.sidecar bytes marks) .accepted

/-- Can a request be served before its core reaches the reply's cycle `t`: a load, or a store tile that the read port has read by the core's
present cycle? -/
def servedAhead (s : State) (id : CoreId) (n seq t : Nat) : Bool :=
  let c := s.core id
  s.coreRuns id && decide (c.now ≤ t) && (!(c.sc n).cur.store || (takeTile (s.coreAt id c.now) n seq).isSome)

/-- TILE_RESPONSE: a tile request in flight reaches the tile's agent, and its reply comes in cycle `t`, which may lie ahead of the core's
present cycle (R139-R141, R193). -/
def tileResponse (s : State) (id : CoreId) (n seq t : Nat) : State :=
  match requestOut s id n seq t with
  | none => s
  | some (r, bytes, marks) =>
    let read (s : State) (t : Nat) : State := if ((s.core id).sc n).cur.store then s.setCore id (s.coreAt id t) else s
    if servedAhead s id n seq t then serveTile (read s (s.core id).now) id n seq t r bytes marks
    else inCycle s id t (fun s => serveTile (read s t) id n seq t r bytes marks)

/-- TILE_DELIVERED: the head tile of a stream context is delivered at the end of cycle `t`, after the words of the cycle have issued
(R135-R140). -/
def tileDelivered (s : State) (id : CoreId) (n t : Nat) : State :=
  let c := s.core id
  let sc := c.sc n
  match earliestDelivery c n, sc.owner with
  | some e, some _ =>
    if t < e ∨ !notifyFits c sc t ∨ anyIssuable s id t then s
    else inCycle s id t (fun s => deliverTile (if sc.cur.store then s else s.settlePorts id t) id n t)
  | _, _ => s

/-- FAULT_TAKEN: a fault at the head of the delivery order takes effect in cycle `t`, and the mover is asked (R141, R195). -/
def faultTaken (s : State) (id : CoreId) (n t : Nat) : State :=
  match ((s.core id).sc n).reqs with
  | ⟨_, _, _, _, some (r, .fault _), _, _⟩ :: _ =>
    if t < r then s
    else inCycle s id t (fun s =>
      let s := takeFault (s.setCore id (s.coreAt id t)) id n t
      if ((s.core id).sc n).state = scFaultWait then askMover s id n else s)
  | _ => s

/-- The stall monitor counts afresh from the cycle after `t` if the access stream of stream context `n`'s owner is live: it awaited
the mover until then (R96, R143). -/
def awaitedMover (s : State) (id : CoreId) (n t : Nat) : State :=
  s.modCore id (fun c => match (c.sc n).owner with
    | some x => if (c.ctx x).live true then { c with lastIssue := max c.lastIssue (t + 1) } else c
    | none => c)

/-- FAULT_ANSWER: the mover's answer reaches the stream context in cycle `t` (R142). -/
def faultAnswer (s : State) (id : CoreId) (n t : Nat) : State :=
  let sc := (s.core id).sc n
  if sc.state ≠ scFaultWait ∨ !sc.faultOpen then s
  else match sc.answer with
    | none => s
    | some ok =>
      inCycle s id t (fun s =>
        let s := awaitedMover s id n t
        if ok then faultServiced s id n t else faultRefused s id n false)

/-- FAULT_TIMEOUT: no answer has come within the limit (R142). -/
def faultTimeout (s : State) (id : CoreId) (n t : Nat) : State :=
  let sc := (s.core id).sc n
  if sc.state ≠ scFaultWait ∨ !sc.faultOpen ∨ s.tick < sc.faultTick + faultLimit s id then s
  else inCycle s id t (fun s => faultRefused (awaitedMover s id n t) id n true)

/-- STASH_FULL: a store-direction tile that its Stash refused reaches the head of the delivery order: the stream context stops
there, its owner halts and STK.FULL records the refusal (R199). -/
def stashFullAt (s : State) (id : CoreId) (n t : Nat) : State :=
  let sc := (s.core id).sc n
  match sc.reqs, sc.owner with
  | ⟨_, tile, _, _, some (r, .refused _), _, _⟩ :: rest, some x =>
    if t < r then s
    else inCycle s id t (fun s =>
      let s := (s.setCore id (s.coreAt id t)).bumpBy (jglPage id) 2 (responses rest)
      let s := s.setSc id n { sc with state := scStopped, reqs := [], swapPending := false, stopping := false }
      let s := match stashOf tile with
        | some (c, d) => stashFull s c (coreIdx id) x d
        | none => s
      haltCtx (sendAll s id (t + 1)) id x causeStashFull true sc.word sc.slot)
  | _, _ => s

/-! ### Poison (R101) -/

/-- The stage-1 read of rank update `u` of a sweep operation takes poison or a parity error: that rank update adds nothing and none after it
issues, samples of the sweep operation are abandoned, and the core halts at its word (R101, R305, R307). The rank update has issued and
counts (R52). -/
def stopSweep (s : State) (id : CoreId) (sw : Sweep) (u cause : Nat) : State :=
  let o := s.ope id
  let stop (w : Sweep) : Sweep := if w.start = sw.start then { w with stopped := some u } else w
  let s := s.setOpe id { o with sweeps := (o.sweeps.map stop).filter (fun w => decide (w.next < w.total)) }
  let s := ((s.bump (opePage id) 0).countCycles (opePage id) 2 1).bumpBy (tstPage id) 0 (sw.linesRead u)
  let s := match s.mirror id with
    | some m => if m.covers sw then abandonMirror s id 5 else s
    | none => s
  let s := abandonLoupes s id (fun l => l.covers sw)
  haltCore s id (some sw.ctx) cause false sw.word 4

/-- POISON_CONSUMED: a stage-1 read of cycle `t` takes poison (R101). -/
def poisonConsumed (s : State) (id : CoreId) (t : Nat) : State :=
  match poisonedRead s id t with
  | none => s
  | some (sw, u) =>
    if t < (s.core id).now ∨ !s.coreRuns id ∨ (s.core id).pend.any (fun p => decide (p.due < t)) || opeDueBefore (s.ope id) t then s
    else
      stopSweep (s.modCore id (fun c => c.reach t)) id sw u causePoison

/-! ### Registers as they read -/

/-- The cycle of a core's domain in which a register of one of its pages is read: how many have passed since the last in which a
command of the core acted is free. -/
def State.readCycle (s : State) (id : CoreId) : Nat := (s.core id).now + Config.cyclesSince (coreIdx id) s.tick

/-- CORE.STATUS (R104). -/
def coreStatusReg (s : State) (id : CoreId) : Nat :=
  let c := s.core id
  let kind := match kindOf id with | .matrix => 1 | .vector => 2 | .scalar => 3
  let counting := bitAt (s.regN (corePage id) 0x010) 0 && stallTest s id (s.readCycle id) && decide (stallStart s id ≤ s.readCycle id)
  kind * 2 ^ 8 + b2n counting * 2 ^ 6 + c.ctxU.mode.code * 2 ^ 4 + c.ctxB.mode.code * 2 ^ 2 + c.ctxF.mode.code

/-- CORE.QSTATUS as it reads in cycle `t` (R104). FULL takes a slot popped less than two cycles ago for filled, as a push does (R82; DESIGN
CHOICE, log entry 81: the table says entries). -/
def qstatusReg (c : Core) (x : Ctx) (t : Nat) : Nat :=
  let k := c.ctx x
  let bits (p : DataQueue → Bool) : Nat := ((List.range 8).map (fun q => b2n (p (k.queue q)) * 2 ^ q)).foldl (· + ·) 0
  bits (fun d => decide (32 ≤ d.used t)) * 2 ^ 8 + bits (fun d => !d.canPop t)

/-- CORE.QCFG (R104). -/
def qcfgReg (c : Core) (x : Ctx) : Nat :=
  ((List.range 4).map (fun q => b2n ((c.ctx x).queue q).ext * 2 ^ q)).foldl (· + ·) 0

end Sys2Proof.Machine
end

