-- ==== Sys2Proof/Machine/Hbm.lean ====
section
/-! DEFINITION. The HBM4 stacks: the memory code, reads and writes of lines, scrubbing, row remap and retirement, lanes and
stack loss (R209-R224). -/

namespace Sys2Proof.Machine

/-! ### The memory code (R211-R213) -/

/-- Twice an element of GF(256) under x^8 + x^4 + x^3 + x^2 + 1. -/
def gfTwice (a : Nat) : Nat := if a < 128 then 2 * a else (2 * a - 256) ^^^ 0x1D

/-- The product of two elements of GF(256), from the low bits of the second up. -/
def gfMulBits : Nat → Nat → Nat → Nat
  | 0, _, _ => 0
  | n + 1, a, b => (if b % 2 = 1 then a else 0) ^^^ gfMulBits n (gfTwice a) (b / 2)

/-- The product of two elements of GF(256). -/
def gfMul (a b : Nat) : Nat := gfMulBits 8 a b

/-- A power of an element of GF(256). -/
def gfPow (a : Nat) : Nat → Nat
  | 0 => 1
  | n + 1 => gfMul a (gfPow a n)

/-- The inverse of a non-zero element. -/
def gfInv (a : Nat) : Nat :=
  let a2 := gfMul a a
  let a4 := gfMul a2 a2
  let a8 := gfMul a4 a4
  let a16 := gfMul a8 a8
  let a32 := gfMul a16 a16
  let a64 := gfMul a32 a32
  let a128 := gfMul a64 a64
  gfMul a2 (gfMul a4 (gfMul a8 (gfMul a16 (gfMul a32 (gfMul a64 a128)))))

/-- α to a power: α is the element 2. -/
def alphaPow (n : Nat) : Nat := gfPow 2 n

/-- The element of GF(16) that a symbol's four bits stand for (R212). -/
def symElem (v : Nat) : Nat :=
  let b := alphaPow 17
  let b2 := gfMul b b
  let b3 := gfMul b2 b
  (if bitAt v 0 then 1 else 0) ^^^ (if bitAt v 1 then b else 0) ^^^ (if bitAt v 2 then b2 else 0) ^^^ (if bitAt v 3 then b3 else 0)

/-- A symbol in error: position 0 to 71 and the bits that differ. -/
abbrev SymErr := Nat × Nat

/-- Syndrome S_k of a sector's errors (R212): the stored word is a codeword. -/
def syndrome (k : Nat) (errs : List SymErr) : Nat :=
  errs.foldl (fun a e => a ^^^ gfMul (symElem e.2) (alphaPow (k * e.1 % 255))) 0

/-- Outcome of a decoded sector (R213), with the symbol correction that a CE makes. -/
inductive Decoded where
  | clean
  | ce (pos val : Nat)
  | poison (ce : Bool)
  | ue
  deriving DecidableEq, Repr

/-- The symbol in error, if the syndromes are those of one (R213). -/
def singleErr (s1 s2 s3 s4 : Nat) : Option SymErr :=
  if s1 = 0 then none
  else
    let x := gfMul s2 (gfInv s1)
    match (List.range 72).find? (fun i => alphaPow i == x) with
    | none => none
    | some i =>
      let v := gfMul s1 (gfInv x)
      if s3 = gfMul s2 x ∧ s4 = gfMul s3 x ∧ gfPow v 15 = 1 then
        ((List.range 16).find? (fun b => symElem b == v)).map (fun b => (i, b))
      else none

/-- Decode a sector from its syndromes (R213). -/
def decodeSyndromes (s1 s2 s3 s4 : Nat) : Decoded :=
  if s1 = 0 ∧ s2 = 0 ∧ s3 = 0 ∧ s4 = 0 then .clean
  else if s1 = 0 ∧ s2 = 0 ∧ s3 = 0 ∧ s4 = 1 then .poison false
  else match singleErr s1 s2 s3 s4 with
    | some (i, v) => .ce i v
    | none => if (singleErr s1 s2 s3 (s4 ^^^ 1)).isSome then .poison true else .ue

/-- Decode a sector, poisoned or not, with symbols in error (R213). -/
def decodeSector (poisoned : Bool) (errs : List SymErr) : Decoded :=
  decodeSyndromes (syndrome 1 errs) (syndrome 2 errs) (syndrome 3 errs) (syndrome 4 errs ^^^ b2n poisoned)

/-- Turn over the data bits of a sector that errors name (R211). -/
def flipSector (m : List Host.Cell) (a : Nat) (errs : List SymErr) : List Host.Cell :=
  errs.foldl (fun m e =>
    if 8 ≤ e.1 ∧ e.1 < 72 then
      let p := a + (e.1 - 8) / 2
      Mem.set m p (Mem.get m p ^^^ BitVec.ofNat 8 (e.2 % 16 * (if e.1 % 2 = 1 then 16 else 1)))
    else m) m

/-- The lane of a symbol on a pseudo-channel (R211, R221). -/
def symLane (pseudo pos : Nat) : Nat := 36 * pseudo + (if pos < 8 then 32 + pos / 2 else (pos - 8) / 2)

/-! ### Records of a controller -/

/-- Unit identity of an HBM bank (R316). -/
def bankUnit (h : HbmSpot) : Nat := 4 * 2 ^ 28 + h.stack * 2 ^ 20 + h.channel * 128 + h.pseudo * 64 + h.bank

/-- A unit reports an event to the ledger (R317). -/
def State.toLedger (s : State) (unit kind locus : Nat) : State :=
  { s with mem.ledgerIn := s.mem.ledgerIn ++ [⟨unit, kind, locus⟩] }

/-- The HBC page of a stack. -/
def hbcPage (h : Nat) : Page := ⟨.hbc, h⟩
/-- The HBP page of a stack. -/
def hbpPage (h : Nat) : Page := ⟨.hbp, h⟩

/-- CE_LIMIT, where 0 acts as 1. -/
def State.ceLimit (s : State) (h : Nat) : Nat := max (field (s.regN (hbcPage h) 0x104) 3 0) 1
/-- LANE_LIMIT, where 0 acts as 1. -/
def State.laneLimit (s : State) (h : Nat) : Nat := max (field (s.regN (hbcPage h) 0x104) 11 8) 1

/-- A row is due for remap, unless it already is (R217, R218). -/
def dueRemap (s : State) (stack key : Nat) : State :=
  let k := s.stack stack
  if k.remaps.contains key || k.retires.contains key then s
  else s.setStack stack { k with remaps := k.remaps ++ [key] }

/-- Count a CE outcome of a row in the row-watch table (R217). -/
def watchRow (s : State) (stack key : Nat) : State :=
  let k := s.stack stack
  let n : Nat := match k.watch.find? (fun e => decide (e.1 = key)) with | some e => e.2 | none => 0
  let rest := k.watch.filter (fun e => decide (e.1 ≠ key))
  let full : Bool := n == 0 && decide (256 ≤ rest.length)
  let s := s.setStack stack { k with watch := (key, n + 1) :: (if full then rest.take 255 else rest) }
  let s := if full then s.bump (hbcPage stack) 9 else s
  if s.ceLimit stack ≤ n + 1 then dueRemap s stack key else s

/-- A sector with errors confined to one lane is counted for the lane in this scrub pass (R221). -/
def watchLane (s : State) (h : HbmSpot) (errs : List SymErr) : State :=
  match errs with
  | [] => s
  | e :: r =>
    let lane := symLane h.pseudo e.1
    if r.all (fun f => symLane h.pseudo f.1 == lane) then
      let k := s.stack h.stack
      let key := 72 * h.channel + lane
      let n := SMap.getD k.laneHits 0 key + 1
      let fails := if s.laneLimit h.stack ≤ n && !k.laneFails.contains (h.channel, lane) then
        k.laneFails ++ [(h.channel, lane)] else k.laneFails
      s.setStack h.stack { k with laneHits := SMap.set k.laneHits key n, laneFails := fails }
    else s

/-- The tile whose home lies in the frame that a data tile's address or spare frame names: the Stash tile to which the frame is lent,
if one has its home there (R190). -/
def frameTile (s : State) (t : Nat) : Nat := (lentDepth s t).getD t

/-- The tile that a spare frame serves. -/
def spareTile (s : State) (k : Nat) : Option Nat :=
  (s.mem.dir.find? (fun e => eRemapped e.2.toNat && eSpare e.2.toNat == k)).map (fun e => frameTile s e.1)

/-- The tile whose bytes an HBM address of the data, sidecar and spare windows holds. -/
def tileOfHbm (s : State) (a : Nat) : Option Nat :=
  match spotOf a with
  | .tile t _ _ => some (frameTile s t)
  | .system p => if 0xBDD0000000 ≤ p ∧ p < 0xBED8000000 then spareTile s ((p - 0xBDD0000000) / 0x8400) else none
  | _ => none

/-- Poison has come about at an HBM address: a notice to the tile's agent, or a shared-structure trigger for the directory and
firmware windows (R214, R402, R403). -/
def poisonArises (s : State) (a : Nat) : State :=
  let notice (t : Nat) : State := { s with mem.poisonNotices := s.mem.poisonNotices ++ [t] }
  match spotOf a with
  | .tile t _ _ => notice (frameTile s t)
  | .system p =>
    if p < 0xBDD0000000 then
      let i := (p - 0xBDC0000000) / 32 * 4
      (List.range 4).foldl (fun s k =>
        let t := if i + k < dataTileCount then i + k else i + k - dataTileCount + stashTile0
        if (stashOf t).isSome || isDataTile t then s.trigger 2 (s.tileTarget t) (match stashOf t with | some (c, _) => c | none => 0)
        else s) s
    else if p < 0xBED8000000 then
      match spareTile s ((p - 0xBDD0000000) / 0x8400) with
      | some t => notice t
      | none => s
    else if p < 0xBEF8000000 then s.trigger 4 4 0
    else s.trigger 3 (min ((p - 0xBEF8000000) / 0x42000000) 3) 0
  | _ => s

/-- Depth at which a row is served (R218). -/
def rowDepth (s : State) (stack key : Nat) : Nat := (SMap.getD (s.stack stack).rows [] key).length

/-! ### Reads, writes and scrubbing -/

/-- One sector of a line is read, decoded and acted on (R213, R214). -/
def readSector (s : State) (line sector : Nat) (errs : List SymErr) (scrub : Bool) : State :=
  let a := 128 * line + 32 * sector
  let h := hbmMap a
  let p := hbcPage h.stack
  let poisoned := s.mem.poison.contains (a / 32)
  let s := s.bump p 0
  let ceSeen (s : State) : State :=
    let s := ((s.bump p 1).raise p 0).toLedger (bankUnit h) 2 h.row
    watchLane (watchRow s h.stack h.rowKey) h errs
  let setPoison (s : State) : State := { s with mem.poison := NSet.insert s.mem.poison (a / 32) }
  match decodeSector poisoned errs with
  | .clean => { s with mem.dram := flipSector s.mem.dram a errs }
  | .ce i v => ceSeen { s with mem.dram := flipSector s.mem.dram a (errs ++ [(i, v)]) }
  | .poison ce =>
    let s := (setPoison s).bump p 3 |>.raise p 2
    if ce then ceSeen s else s
  | .ue =>
    let first := s.isFirst p 0x108
    let s := ((setPoison s).bump p 2).raise p 1
    let s := s.record p 0x108 (b2n scrub * 2 ^ 29 + rowDepth s h.stack h.rowKey * 2 ^ 27 + h.row * 2 ^ 13 + h.bank * 2 ^ 7 +
      h.pseudo * 2 ^ 6 + h.channel * 2)
    let s := if first then s.setRegN p 0x10C (h.column * 4 + sector) else s
    let s := (s.toLedger (bankUnit h) 3 h.row)
    dueRemap (watchLane (poisonArises s a) h errs) h.stack h.rowKey

/-- HBM_READ: a line is read, its four sectors decoded (R213, R214). The operand lists each sector's symbols in error. A lost
stack answers with poison and decodes nothing (R222). -/
def hbmRead (s : State) (line : Nat) (errs : List (Nat × SymErr)) (scrub : Bool) : State :=
  if 3 * 2 ^ 31 ≤ line ∨ s.placeLost (128 * line) then s
  else (List.range 4).foldl (fun s k =>
    readSector s line k ((errs.filter (fun e => decide (e.1 = k))).map (·.2)) scrub) s

/-- HBM_WRITE: bytes `off` to `off + n - 1` of a line are written (R215): whole sectors get a new code, a partly written
sector is read and decoded first; a line written with its poison mark is poison in all four sectors. -/
def hbmWrite (s : State) (line off n : Nat) (data : Line) (mark : Bool) (errs : List (Nat × SymErr)) : State :=
  let n := min n (128 - off)
  if 3 * 2 ^ 31 ≤ line ∨ 128 ≤ off ∨ s.placeLost (128 * line) then s
  else
    let partly (k : Nat) : Bool := decide (off < 32 * k + 32 ∧ 32 * k < off + n) && !decide (off ≤ 32 * k ∧ 32 * k + 32 ≤ off + n)
    let s := (List.range 4).foldl (fun s k =>
      if partly k then readSector s line k ((errs.filter (fun e => decide (e.1 = k))).map (·.2)) false else s) s
    let s := s.put (128 * line + off) n (data.toNat % 256 ^ n)
    if mark then
      let s := s.poisonLine (128 * line)
      match tileOfHbm s (128 * line) with
      | some t => s.setEntry t (eBit (s.entry t) 60 true)
      | none => s
    else s

/-- POISON_NOTICE: the next poison notice reaches its tile's agent, which sets POISON in the entry (R214). -/
def poisonNotice (s : State) : State :=
  match s.mem.poisonNotices with
  | [] => s
  | t :: r =>
    if s.saturated (agentOf t) then s
    else
      let s := ({ s with mem.poisonNotices := r } : State).accept t
      s.setEntry t (eBit (s.entry t) 60 true)

/-- The HBM line at a scrub position (R216): local line, then pseudo-channel. -/
def scrubLine (stack pos : Nat) : Nat :=
  let loc := pos / 64
  let row := loc / 512
  hbmUnmap ⟨stack, (pos % 64) / 2, pos % 2, ((loc / 8) ^^^ row) % 64, row, loc % 8⟩ / 128

/-- Does a line lie in a retired frame (R220)? -/
def lineRetired (s : State) (line : Nat) : Bool :=
  match spotOf (128 * line) with
  | .tile t _ _ => s.mem.retired.contains t
  | .system a => decide (0xBDD0000000 ≤ a ∧ a < 0xBED8000000) && s.mem.retired.contains (2 ^ 25 + (a - 0xBDD0000000) / 0x8400)
  | _ => false

/-- The next scrub position whose line lies in no retired frame, and whether the pass ended on the way. -/
def scrubNext (s : State) (stack : Nat) : Nat → Nat → Bool → Nat × Bool
  | 0, pos, e => (pos, e)
  | fuel + 1, pos, e =>
    let (pos, e) := if 2 ^ 29 ≤ pos then (0, true) else (pos, e)
    if lineRetired s (scrubLine stack pos) then scrubNext s stack fuel (pos + 1) e else (pos, e)

/-- Reference ticks between scrub reads, at least 100. -/
def State.scrubInterval (s : State) (h : Nat) : Nat := max (field (s.regN (hbcPage h) 0x100) 23 0) 100

/-- SCRUB_READ: the controller reads the next line of its stack once SCRUB.INTERVAL ticks have passed (R216, R217). -/
def scrubRead (s : State) (stack : Nat) (errs : List (Nat × SymErr)) : State :=
  let k := s.stack stack
  if bitAt (s.regN (hbcPage stack) 0x100) 31 && decide (k.scrubTick + s.scrubInterval stack ≤ s.tick) && !k.lost then
    let (pos, _) := scrubNext s stack (256 * (s.mem.retired.length + 1)) k.scrub false
    let s := (hbmRead s (scrubLine stack pos) errs true).bump (hbcPage stack) 4
    let k := s.stack stack
    let (nxt, ended) := scrubNext s stack (256 * (s.mem.retired.length + 1)) (pos + 1) false
    let k := { k with scrub := nxt, scrubTick := s.tick }
    s.setStack stack (if ended then { k with passes := wrapSucc 16 k.passes, watch := [], laneHits := [] } else k)
  else s

/-! ### Rows -/

/-- A change that the Ringmaster is to write to the maps in flash within 1 s (R218). -/
def mapChanged (s : State) : State :=
  { s with mem.repairSince := match s.mem.repairSince with | some t => some t | none => some s.tick }

/-- A row is read for its copy, each sector decoded and acted on (R214, R218): the operand lists the symbols in error of the row's
sectors 0 to 31. -/
def readRowSectors (s : State) (stack key : Nat) (errs : List (Nat × SymErr)) : State :=
  (List.range 32).foldl (fun s i =>
    readSector s (hbmUnmap (rowSpot stack key (i / 4)) / 128) (i % 4) ((errs.filter (fun e => decide (e.1 = i))).map (·.2)) false) s

/-- ROW_REMAP: the first row due for remap is read, and copied into the lowest unused spare row of its bank, a sector that reads UE
as poison (R218). A row at depth 2, or without a spare row, is retired instead. -/
def rowRemap (s : State) (stack : Nat) (errs : List (Nat × SymErr)) : State :=
  let k := s.stack stack
  match k.remaps with
  | [] => s
  | key :: rest =>
    let used := SMap.getD k.rows [] key
    let bank := key / 16384
    let n := SMap.getD k.spares 0 bank
    if 2 ≤ used.length ∨ 16 ≤ n then s.setStack stack { k with remaps := rest, retires := k.retires ++ [key] }
    else
      let s := readRowSectors s stack key errs
      let k := s.stack stack
      let s := s.setStack stack { k with
        remaps := k.remaps.filter (fun r => decide (r ≠ key)), rows := SMap.set k.rows key (used ++ [n]), spares := SMap.set k.spares bank (n + 1)
        watch := k.watch.filter (fun e => decide (e.1 ≠ key)) }
      let p := hbcPage stack
      let s := (s.bump p (5 + used.length)).raise p 3
      mapChanged (if n + 1 = 16 then s.raise p 6 else s)

/-- Retire the frame of one line of a row and send the notice (R219). -/
def retireLine (s : State) (stack a : Nat) : State :=
  let send (s : State) (fr t : Nat) : State :=
    let s := if s.mem.retired.contains fr then s
      else ({ s with mem.retired := fr :: s.mem.retired } : State).bump (hbcPage stack) 7
    let g := agentOf t
    if g < 12 then s.setStack g { s.stack g with notices := (s.stack g).notices ++ [(t, fr)] } else s
  match spotOf a with
  | .tile t _ _ => send s t t
  | .system p =>
    if 0xBDD0000000 ≤ p ∧ p < 0xBED8000000 then
      let k := (p - 0xBDD0000000) / 0x8400
      match s.mem.dir.find? (fun e => eRemapped e.2.toNat && eSpare e.2.toNat == k) with
      | some e => send s (2 ^ 25 + k) e.1
      | none =>
        let s := useSpare s k
        if s.mem.retired.contains (2 ^ 25 + k) then s
        else ({ s with mem.retired := (2 ^ 25 + k) :: s.mem.retired } : State).bump (hbcPage stack) 7
    else s.raise (hbcPage stack) 5
  | _ => s

/-- ROW_RETIRE: the first row due for retirement retires (R219). -/
def rowRetire (s : State) (stack : Nat) : State :=
  let k := s.stack stack
  match k.retires with
  | [] => s
  | key :: rest =>
    let s := (s.setStack stack { k with retires := rest }).raise (hbcPage stack) 4
    mapChanged ((List.range 8).foldl (fun s c => retireLine s stack (hbmUnmap (rowSpot stack key c))) s)

/-- REPAIR_MAP_WRITE: the Ringmaster writes what has changed into the maps in flash (R218, R219, R221). -/
def repairMapWrite (s : State) : State :=
  match s.mem.repairSince with
  | none => s
  | some _ =>
    let all {α : Type} (w : Nat) (f : Stack → SMap α) : SMap α :=
      (List.range 12).flatMap (fun h => (f (s.stack h)).map (fun e => (w * h + e.1, e.2)))
    { s with
      mem.repairSince := none
      mem.repairFlash := {
        rows := all (2 ^ 28) (·.rows), spares := all 8192 (·.spares), channels := all 32 (·.channels)
        retired := s.mem.retired, spareUsed := s.mem.spareUsed
        tiles := s.mem.dir.filterMap (fun e =>
          if e.1 < dataTileCount && eRemapped e.2.toNat then some (e.1, eSpare e.2.toNat) else none) } }

/-- Firmware applies the stored maps at bring-up (R218, R221, R440). -/
def applyRepairMaps (s : State) : State :=
  let r := s.mem.repairFlash
  let part {α : Type} (w h : Nat) (m : SMap α) : SMap α :=
    m.filterMap (fun e => if e.1 / w = h then some (e.1 % w, e.2) else none)
  let s := (List.range 12).foldl (fun s h => s.setStack h { s.stack h with
    rows := part (2 ^ 28) h r.rows, spares := part 8192 h r.spares, channels := part 32 h r.channels }) s
  { s with mem.retired := r.retired, mem.spareUsed := r.spareUsed }

/-! ### Lanes and stack loss -/

/-- A channel's lanes. -/
def Stack.channel (k : Stack) (ch : Nat) : Channel := SMap.getD k.channels {} ch

/-- LANE_REPAIR: the first lane declared failed is steered onto a spare (R221), or its channel is lost (R222). Lane 72 names
a command lane. -/
def laneRepair (s : State) (stack : Nat) : State :=
  let k := s.stack stack
  match k.laneFails with
  | [] => s
  | (ch, lane) :: rest =>
    let c := k.channel ch
    let k := { k with laneFails := rest, laneHits := SMap.del k.laneHits (72 * ch + lane) }
    let s := s.toLedger (4 * 2 ^ 28 + stack * 2 ^ 20 + ch * 128) 4 lane
    let spare := if lane = 72 then decide (c.command < 1) else decide (c.failed.length < 2)
    if spare then
      let c := if lane = 72 then { c with command := c.command + 1 } else { c with failed := c.failed ++ [lane] }
      let s := s.setStack stack { k with channels := SMap.set k.channels ch c }
      mapChanged ((s.bump (hbpPage stack) 0).raise (hbpPage stack) 0)
    else s.setStack stack { k with lostChans := k.lostChans ++ [ch] }

/-- The outcome of a channel's training (R221, R222): `lanes` are those whose eye is below the PHY's limit, `command` a failed command
lane; a channel that does not train at all fails and is lost. -/
def trainChannel (s : State) (stack ch : Nat) (lanes : List Nat) (command trained : Bool) : State :=
  let k := s.stack stack
  let new := ((lanes.filter (fun l => decide (l < 72))) ++ (if command then [72] else [])).filter
    (fun l => !k.laneFails.contains (ch, l))
  let k := { k with laneFails := k.laneFails ++ new.map (fun l => (ch, l)) }
  if trained then s.setStack stack k
  else ((s.setStack stack { k with lostChans := k.lostChans ++ [ch] }).bump (hbpPage stack) 2).raise (hbpPage stack) 2

/-- PERIODIC_RETRAIN: the PHY retrains a channel (R221, R222). -/
def periodicRetrain (s : State) (stack ch : Nat) (lanes : List Nat) (command trained : Bool) : State :=
  if (s.stack stack).lost then s
  else trainChannel (s.bump (hbpPage stack) 1) stack ch lanes command trained

/-- STACK_LOST: a lost channel loses its stack, and the module is to retire (R222, R445). -/
def stackLost (s : State) (stack : Nat) : State :=
  let k := s.stack stack
  match k.lostChans with
  | [] => s
  | cs =>
    let chans := cs.foldl (fun m ch => SMap.set m ch { SMap.getD m {} ch with lost := true }) k.channels
    let s := s.setStack stack { k with lost := true, lostChans := [], channels := chans }
    let s := (s.raise (hbcPage stack) 7).raise (hbpPage stack) 1
    { s with retireDue := s.retireDue ++ [1] }

/-- A channel is trained at bring-up: every lane declared failed is repaired, and a channel beyond its spares, or that does not train
after its repairs, loses its stack (R221, R222, R440). -/
def bringUpChannel (s : State) (stack ch : Nat) (lanes : List Nat) (command trained : Bool) : State :=
  let s := trainChannel s stack ch lanes command trained
  stackLost ((s.stack stack).laneFails.foldl (fun s _ => laneRepair s stack) s) stack

/-- HBC.STATUS as it reads. -/
def hbcStatusReg (k : Stack) : Nat := b2n k.lost * 2 ^ 31 + k.passes

/-- HBC.SPARES as it reads (R218, R220). -/
def hbcSparesReg (s : State) (stack : Nat) : Nat :=
  framesFree s stack * 2 ^ 18 + (65536 - ((s.stack stack).spares.map (·.2)).foldl (· + ·) 0)

/-- HBP.STATUS as it reads. -/
def hbpStatusReg (k : Stack) : Nat := (k.channels.map (fun e => if e.2.lost then 2 ^ e.1 else 0)).foldl (· + ·) 0

/-- HBP.LANEc as it reads. -/
def hbpLaneReg (k : Stack) (ch : Nat) : Nat :=
  let c := k.channel ch
  b2n c.lost * 2 ^ 31 + min c.failed.length 2 * 2 ^ 27 + min c.command 1 * 2 ^ 26 + c.failed.getD 1 0xFF * 2 ^ 8 + c.failed.getD 0 0xFF

end Sys2Proof.Machine
end

