-- ==== Sys2Proof/Machine/Power.lean ====
section
/-! DEFINITION. Power, bring-up, sleep, spares and retirement (R433-R447), and what a port's link brings with it (R275, R444). -/

namespace Sys2Proof.Machine

/-- The PWR page. -/
def pwrPage : Page := ⟨.pwr, 0⟩
/-- The SEC page. -/
def secPage : Page := ⟨.sec, 0⟩
/-- The EDGE page. -/
def edgePage : Page := ⟨.edge, 0⟩

/-- Has the module retired (R445)? -/
def State.isRetired (s : State) : Bool := field (s.regN pwrPage 0x014) 11 8 != 0

/-! ### Power-on (R434, R441) -/

/-- What a power-on leaves: every domain but those of R434 at its reset values, the ledger as flash holds it, the site map as flash
holds it; a retired module stays retired (R445). -/
def powerOn (s : State) : State :=
  let cause := field (s.regN pwrPage 0x014) 11 8
  let s := resetPages s (fun p => !alwaysOn p.domain) (fun _ => false)
  let s : State := { s with
    counters := [(clkPage, 0), (partPg, 5), (pwrPage, 4)].foldl (fun m e => SMap.set m (e.1.base * 256 + e.2) s.tick) s.counters
    cores := [], opes := [], rowEngines := [], numIn := [], step := {}, net := { wire := s.net.wire }, crs := {}, upd := {}, num := {}
    mem := { repairFlash := s.mem.repairFlash, allPoison := s.mem.allPoison }
    ledger := {
      recs := s.ledger.flash, flash := s.ledger.flash, flashPowered := s.ledger.flashPowered, powered := s.ledger.flashPowered
      since := s.tick, lostTail := s.ledger.lostTail }
    fab := { sites := s.fab.sites, dead := s.fab.dead }
    irq := { boxes := s.irq.boxes.filter (fun e => decide (60 ≤ e.1)) }
    cont := {}
    sec := { s.sec with
      identity := none, wrapKey := 0, running := none, slot := 0, fallback := false, recovery := false, verified := false
      derived := false, fwVer := 0, mgt := none, removal := 0, removalAt := 0 }
    retireDue := [] }
  let s := s.setRegN secPage 0x110 0
  let s := (s.setRegN edgePage 0x100 0)
  let s : State := { s with power := { s.power with
    off := false, upDone := false, goodAt := s.tick, stageAt := s.tick, steps := 0, calm := 0, capping := false, thermal := false
    noReserve := false, portDown := none, asleep := [], waking := [] } }
  let s := spyPending (sparesPending (s.setField pwrPage 0x014 8 4 cause))
  if s.isRetired then s.enterStage stRetired else s

/-- FULL_POWER_ON: the input rises above 36 V (R434, R441): every domain is reset, and only those of R434 run. -/
def fullPowerOn (s : State) : State :=
  if !s.power.dark then s
  else
    let cause := field (s.regN pwrPage 0x014) 11 8
    let t : State := { State.reset with
      pending := s.pending, fresh := s.fresh, flash := s.flash, ledger := s.ledger
      net := { wire := s.net.wire }
      mem := { repairFlash := s.mem.repairFlash, allPoison := s.mem.allPoison }
      fab := { sites := s.fab.sites, dead := s.fab.dead }
      sec := { latch := s.sec.latch, vbus := s.sec.vbus, button := none, sent := s.sec.sent }
      power := { off := true, spared := s.power.spared, rmFailed := s.power.rmFailed, siteDue := s.power.siteDue } }
    let t := powerOn t
    sparesPending ({ t.setField pwrPage 0x014 8 4 cause with power.off := true })

/-- POWER_GOOD: power enable is high and the input has been good for 10 ms (R434): bring-up starts at LINK. A module that has been
removed from service returns only through a power cycle (R426). -/
def powerGood (s : State) : State :=
  let p := s.power
  let due := !p.dark && (!p.enable || (p.off && (s.sec.removal != 3 || p.low || !p.inputOk)))
  if !due then s
  else powerOn { s with power := { p with enable := true, low := false, inputOk := true } }

/-- The rails other than those of R434 go (R435), the tail write starting first where the threshold asks for it. -/
def railsOff (s : State) (tail : Bool) : State :=
  let s := abandonMirrors s
  { s with power.off := true, sec.tailDue := s.sec.tailDue || (tail && s.sec.removal != 3) }

/-- UNDERVOLT: the input has been below 38 V for 10 µs (R435, R427). A removal request of the same tick is dropped. -/
def undervolt (s : State) : State :=
  if s.power.off || s.power.dark then s
  else
    let s : State := if s.sec.removal = 1 ∧ s.sec.removalAt = s.tick then { s with sec.removal := 0 } else s
    let s := (s.bumpReg pwrPage 0x120).raise pwrPage 4
    railsOff { s with power.inputOk := false } true

/-- POWER_ENABLE_LOW: power enable falls low (R435): outside SAFE it acts as the undervoltage threshold does. -/
def powerEnableLow (s : State) : State :=
  if s.power.low || s.power.dark then s
  else
    let s : State := { s with power.enable := false, power.low := true }
    if s.sec.removal = 3 ∨ s.power.off then s else railsOff s true

/-- An alarm arises (R421). -/
def raiseAlarm (s : State) (source cls : Nat) : State := { s with sec.alarms := s.sec.alarms ++ [(source, cls, s.tick)] }

/-- OVERVOLTAGE: the input has been above 62 V for 10 µs (R435). -/
def overvoltage (s : State) : State :=
  if s.power.dark || (s.power.off && !s.power.inputOk) then s
  else raiseAlarm (railsOff { s with power.inputOk := false } false) 2 2

/-- INPUT_LOSS: the input falls below 36 V and everything stops (R434). -/
def inputLoss (s : State) : State :=
  if s.power.dark then s
  else endSession { abandonMirrors s with power.dark := true, power.off := true, power.inputOk := false, power.enable := false, sec.alarms := [], sec.held := false }

/-! ### Bring-up (R440) -/

/-- Physical sites that have failed a self-test: reserves become dead; an active site is replaced by a reserve, or retires the
module when none passes (R442, R445). -/
def failedSites (s : State) (failed : List Nat) : State :=
  let s : State := { s with fab.dead := (failed.filter (fun n => (s.clusterAt n).isNone)).foldl NSet.insert s.fab.dead }
  failed.foldl (fun s n =>
    match s.clusterAt n with
    | none => s
    | some c =>
      let (s, ok) := promoteFrom (fun k => !failed.contains k) s c s.reserves
      if ok then s else { s with retireDue := s.retireDue ++ [6] }) s

/-- Sites in service, one for each logical cluster. -/
def State.activeSites (s : State) : List Nat := (List.range 40).map s.siteOf

/-- FW_MINOR and FW_MAJOR of an image: header bytes 4 and 5 (R415). -/
def Image.version (i : Image) : Nat := i.data / 2 ^ 32 % 2 ^ 16

/-- The work of TRAIN (R440): HBM training with the stored maps, the directory, self-test, reserve promotion, route tables,
attachments of the edge units (R325), side memories, the firmware version. None where the route table breaks R329. -/
def trainWork (s : State) (w : StageWork) : Option State :=
  let s := applyRepairMaps s
  let s := w.hbm.foldl (fun s h => bringUpChannel s h.stack.val h.channel.val h.lanes h.command h.trained) s
  let failed := w.sites.map (·.val)
  let s := failedSites s failed
  let s := (s.power.siteDue).foldl (fun s c => (promoteFrom (fun k => !failed.contains k) s c s.reserves).1) s
  let routes := tableOf w.routes
  if !routesLegal (fun n => s.activeSites.contains n) routes then none
  else some { fixAttachments s with
    fab.routes := routes
    mem.dirInit := true
    rowEngines := s.rowEngines.map (fun e => (e.1, { e.2 with side := [], marks := [] }))
    sec.fwVer := match s.sec.running with | some i => i.version | none => 0 }

/-- Enter a stage of bring-up. -/
def State.nextStage (s : State) (n : Nat) : State := { s.enterStage n with power.stageAt := s.tick }

/-- STAGE_ADVANCE: a stage's work is done, or the latest time of the next stage has passed (R440). -/
def stageAdvance (s : State) (w : StageWork) : State :=
  let t := s.tick - s.power.goodAt
  if s.power.off || s.power.dark || s.sec.recovery || !s.sec.verified || s.sec.removal != 0 || s.power.upDone then s
  else if s.stage347 = stLink then
    if s.linkUp 0 || decide (50000000 ≤ t) then s.nextStage stTrain else s
  else if s.stage347 = stTrain then
    if 60000000 < t then (if s.retireDue.contains 5 then s else { s with retireDue := s.retireDue ++ [5] })
    else if w.done then
      match trainWork s w with
      | some s => s.nextStage stMgmt
      | none => s
    else s
  else if s.stage347 = stMgmt then
    if w.done || decide (250000000 ≤ t) then
      let s : State := { failedSites s (w.sites.map (·.val)) with power.upDone := true }
      if s.sec.held || s.sec.identity.isNone || s.cont.warm.isSome then s else s.nextStage stReady
    else s
  else s

/-! ### Clock caps and phases (R437, R438) -/

/-- Retune every matrix-core and vector-core domain. -/
def retuneCapped (s : State) : State :=
  (List.range 320).foldl (fun s d => if d % 8 < 6 then retune s d else s) s

/-- POWER_CAP_PERIOD: a 1 ms average of input power and the hottest die sensor lower or restore the core clocks by 5% (R438). -/
def powerCapPeriod (s : State) (volts amps watts : Nat) (dieMax : BitVec 16) : State :=
  if s.power.off || s.power.dark then s
  else
    let s := (s.setRegN pwrPage 0x100 (volts * 2 ^ 16 + amps)).setRegN pwrPage 0x104 watts
    let s := s.setField pwrPage 0x10C 0 16 dieMax.toNat
    let limit := min (max (field (s.regN pwrPage 0x108) 15 0) 1800) 3600
    let hot := min (field (s.regN pwrPage 0x10C) 23 16) 115
    let die := dieMax.toInt
    let p := s.power
    let tooMuch := decide (limit < watts)
    let tooHot := decide (((10 * hot : Nat) : Int) < die)
    let p' : Power :=
      if tooMuch || tooHot then
        { p with steps := min (p.steps + 1) 10, calm := 0, capping := p.capping || tooMuch, thermal := p.thermal || tooHot }
      else if decide (watts + 100 < limit) && decide (die < 10 * (hot : Int) - 50) then
        let calm := min (p.calm + 1) 10
        let steps := if calm = 10 then p.steps - 1 else p.steps
        { p with steps := steps, calm := calm, capping := p.capping && steps != 0, thermal := p.thermal && steps != 0 }
      else { p with calm := 0 }
    let s : State := { s with power := p' }
    let s := if p'.steps = p.steps then s else retuneCapped s
    let s := if tooMuch then s.raise pwrPage 0 else s
    let s := if tooHot then s.raise pwrPage 1 else s
    let s := if p'.capping then s.bump pwrPage 0 else s
    if p'.thermal then s.bump pwrPage 1 else s

/-- Phases in service and the setpoint of a rail in mV (R436). -/
def railOf : Nat → Nat × Nat
  | 0 => (48, 650)
  | 1 => (16, 750)
  | 2 => (12, 1050)
  | 3 => (8, 400)
  | 4 => (6, 900)
  | 5 => (4, 800)
  | 6 => (2, 3300)
  | _ => (0, 0)

/-- PHASE_SPARE: the next PERMANENT phase is replaced by a spare of its rail, or retires the module (R437, R445). -/
def phaseSpare (s : State) : State :=
  match s.power.phaseDue with
  | [] => s
  | i :: rest =>
    let s : State := { s with power.phaseDue := rest }
    match SMap.get s.ledger.recs i with
    | none => s
    | some r =>
      let rail := field r.unit 27 20
      let used := SMap.getD s.power.spared 0 rail
      if used < 2 then
        let s : State := { s with power.spared := SMap.set s.power.spared rail (used + 1), ledger := s.ledger.put i s.tick { r with cls := 4 } }
        (s.raise pwrPage 2).bump pwrPage 2
      else { s with retireDue := s.retireDue ++ [3] }

/-- PWR.RSTAT as it reads. -/
def rstatReg (s : State) : Nat :=
  let r := field (s.regN pwrPage 0x110) 2 0
  if 7 ≤ r then 0
  else (railOf r).1 * 2 ^ 24 + (2 - SMap.getD s.power.spared 0 r) * 2 ^ 20 + Config.railMillivolts r s.tick % 2 ^ 16

/-- PWR.SPARES as it reads. -/
def sparesReg (s : State) : Nat :=
  let v := s.regN pwrPage 0x118
  b2n s.power.noReserve * 2 ^ 31 + b2n s.flash.rmSpare * 2 ^ 30 + b2n (bitAt (s.regN (portPage 17) 0x014) 24) * 2 ^ 29 +
    s.reserves.length * 2 ^ 24 + v % 2 ^ 16

/-- PWR.STATUS as it reads. -/
def pwrStatusReg (s : State) : Nat :=
  field (s.regN pwrPage 0x014) 11 8 * 2 ^ 8 + b2n s.power.enable * 8 + b2n s.power.inputOk * 4 + b2n s.power.thermal * 2 + b2n s.power.capping

/-! ### Ports (R444, R357) -/

/-- The port that a port's rows act on: P16 in service in place of Pk is Pk's page, contexts and keys (R357). -/
def State.portNo (s : State) (i : Nat) : Nat :=
  let r := s.regN (portPage 17) 0x014
  if i = 17 ∧ bitAt r 24 then field r 23 20 + 1 else i

/-- Retransmit every unacknowledged message of a port's contexts (R357). -/
def resendPort (s : State) (i : Nat) : State :=
  (s.net.ctxs.filter (fun e => e.2.port == i && (e.2.st == 1 || e.2.st == 2))).foldl (fun s e =>
    (e.2.unacked.map (·.msg.psn)).foldl (fun s n => retransmit s e.1 n none) s) s

/-- LINK_CHANGE: a port's link comes up or goes down (R341); a link that comes up brings multicast credits (R275), and, for a
reserve port awaited, ends the wait (R357, R444). In RECOVERY every link stays down (R416). -/
def linkChangeRow (s : State) (port : Nat) (up : Bool) : State :=
  let i := s.portNo port
  if up == s.linkUp i || (up && (s.sec.recovery || !s.domainUp (portPage i).domain)) then s
  else
    let s := linkChange s i up
    if !up || !s.linkUp i then s
    else
      let s := if i = 0 then s else grantCredits s (i - 1)
      if s.power.portDown = some i then
        let s := resendPort s i
        ({ s with power.portDown := none } : State).setPort i { s.port i with sparing := none }
      else s

/-- The contexts of a port become FAILED (R444). -/
def failPort (s : State) (i : Nat) : State := failContexts s (fun c => c.port == i)

/-- PEER_PORT_FAIL: a port fails for good (R444, R445): HP retires the module, the first peer port is replaced by P16, a further
one stays down. -/
def peerPortFail (s : State) (port : Nat) : State :=
  if port = 0 then { s with retireDue := s.retireDue ++ [2] }
  else
    let r := s.regN (portPage 17) 0x014
    let i := s.portNo port
    let s := linkChange s i false
    if port = 17 ∧ !bitAt r 24 then s
    else if bitAt r 24 then failPort s i
    else
      let s := (s.setField (portPage 17) 0x014 24 1 1).setField (portPage 17) 0x014 20 4 (i - 1)
      let s := retireUnits s s.laneReplaced
      ({ s with power.portDown := some i } : State).setPort i { s.port i with sparing := some s.tick }

/-- SPARE_LINK_TIMEOUT: P16's link is not up 500 ms after the failure (R444). -/
def spareLinkTimeout (s : State) : State :=
  match s.power.portDown with
  | none => s
  | some i =>
    match (s.port i).sparing with
    | none => s
    | some t =>
      if t + 50000000 ≤ s.tick ∧ !s.linkUp i then
        let s := failPort s i
        ({ s with power.portDown := none } : State).setPort i { s.port i with sparing := none }
      else s

/-! ### Retirement (R445) -/

/-- Send CLOSE with REASON 0x01 and a step of absence on every OPEN PEER context (R426, R445). -/
def closePeers (s : State) (step : Nat) : State :=
  (s.net.ctxs.filter (fun e => e.2.st == 1 && e.2.kind == 2)).foldl (fun s e => sendClose s e.1 1 step) s

/-- PHS.FRONT.STEP. -/
def State.frontStep (s : State) : Nat := field (s.regN stepPage 0x104) 31 16

/-- RETIRE: a cause of retirement has arisen (R445). -/
def retire (s : State) : State :=
  match s.retireDue with
  | [] => s
  | c :: rest =>
    let s : State := { s with retireDue := rest }
    if s.isRetired then s
    else
      let s := killAll (s.setField pwrPage 0x014 8 4 c)
      let s := repairMapWrite (flushLedger (closePeers s s.frontStep))
      ({ s.enterStage stRetired with mem.allPoison := true } : State).raise pwrPage 5

/-! ### Sleep (R441) -/

/-- SLEEP: a write of PWR.SLEEP puts the named groups to sleep (R441). -/
def sleepWrite (s : State) (v : Nat) : State :=
  let groups := (List.range 3).filter (fun g => bitAt v g)
  let s := s.setRegN pwrPage 0x11C (v % 8)
  { s with power.asleep := groups.foldl NSet.insert s.power.asleep }

/-- WAKE: a group that has been asked to wake has done so, 40 µs for the Ringmaster's, 150 µs for an edge's (R371, R441). -/
def wake (s : State) (g : Nat) : State :=
  match SMap.get s.power.waking g with
  | none => s
  | some t =>
    if s.tick < t + (if g = 0 then 4000 else 15000) then s
    else
      let s : State := { s with power.asleep := NSet.erase s.power.asleep g, power.waking := SMap.del s.power.waking g }
      let s := s.setField pwrPage 0x11C g 1 0
      if g = 0 then spyPending s else s

end Sys2Proof.Machine
end

