-- ==== Sys2Proof/Machine/Secure.lean ====
section
/-! DEFINITION. Boot, identity, management requests, attestation, the security monitor, the service edge, the service port and
Periscope (R414-R432). -/

namespace Sys2Proof.Machine

/-! ### Boot and identity (R415-R417) -/

/-- Bytes of a signature (R414). -/
abbrev sigLen : Nat := 29792

/-- `n` bytes of a number from byte `a` up. -/
def sub (v a n : Nat) : Nat := v / 2 ^ (8 * a) % 2 ^ (8 * n)

/-- SVN of an image: header byte 6 (R415). -/
def Image.svn (i : Image) : Nat := sub i.data 6 1

/-- Bytes of an image's header and body (R415). -/
def Image.bodyEnd (i : Image) : Nat := 256 + sub i.data 8 4

/-- The SVN floor as it acts: 255 when its tag fails (R416). -/
def State.svnFloor (s : State) : Nat :=
  if s.flash.floorTag = Config.floorMac s.sec.wrapKey s.flash.floor then s.flash.floor else 255

/-- Does the root key in flash hash to the ROM's hash (R415)? -/
def rootOk (s : State) : Bool := Config.shake256 64 s.flash.rootKey == Config.rootHash

/-- Are an image's signatures good: the vendor's, and the owner's endorsement while one is enrolled (R415)? -/
def signedOk (s : State) (i : Image) : Bool :=
  let n := i.bodyEnd
  let body := sub i.data 0 n
  sub i.data 0 4 == 0x4C4D5A47 && decide (n + sigLen ≤ i.len) && rootOk s &&
    Config.slhVerify s.flash.rootKey 0 n body (sub i.data n sigLen) &&
    match s.flash.owner with
    | none => true
    | some h =>
      let key := sub i.data (n + sigLen) 64
      decide (n + sigLen + 64 + sigLen ≤ i.len) && Config.shake256 64 key == h &&
        Config.slhVerify key 1 n body (sub i.data (n + sigLen + 64) sigLen)

/-- Does an image pass the four checks of R415? -/
def imageOk (s : State) (i : Image) : Bool := signedOk s i && decide (s.svnFloor ≤ i.svn)

/-- The image of a slot: 0 A, 1 B. -/
def Flash.image (f : Flash) (slot : Nat) : Option Image := if slot = 0 then f.slotA else f.slotB

/-- "GNZ-WRAP" (R417). -/
abbrev wrapTag : Nat := 0x504152572D5A4E47

/-- IDENTITY_DERIVE: identity at power-up from the SRAM response (R417). A failure with the blob present is an alarm. -/
def deriveIdentity (s : State) (sram : Nat) : State :=
  let s : State := { s with sec.derived := true, sec.identity := none, sec.wrapKey := 0 }
  let failed (s : State) : State := if s.flash.blob.isSome then raiseAlarm s 8 1 else s
  match Config.fuzzyExtract sram s.flash.helper with
  | none => failed s
  | some r =>
    let k := Config.shake256 40 (wrapTag + 2 ^ 64 * (r % 2 ^ 256)) % 2 ^ 256
    let s : State := { s with sec.wrapKey := k }
    match s.flash.blob with
    | none => s
    | some b =>
      match Config.openBlob k b with
      | none => failed s
      | some sk => { s with sec.identity := some sk }

/-- Run an image (R415). -/
def runImage (s : State) (slot : Nat) (i : Image) : State :=
  { s with sec.running := some i, sec.slot := slot, sec.verified := true
           sec.fwVer := if s.stage347 < stMgmt then s.sec.fwVer else i.version }

/-- RECOVERY: no stage is entered and every link stays down (R416). -/
def enterRecovery (s : State) : State :=
  let s := (List.range 18).foldl (fun s i => linkChange s i false) s
  let s : State := { s with sec.recovery := true, sec.running := none }
  s.enterStage stLink

/-- A boot is counted in SEC.BOOTS, which sticks at all ones with one COUNTER_SAT entry (R386, R431). -/
def countBoot (s : State) : State :=
  let n := s.flash.boots
  if n = 2 ^ 32 - 1 then s
  else
    let s : State := { s with flash.boots := n + 1 }
    if n + 1 = 2 ^ 32 - 1 then s.logWord secPage (0x65000000 + 0x114) else s

/-- BOOT_VERIFY: the boot ROM verifies the preferred image and falls back if it fails; at power-up identity is derived first
(R415-R417). -/
def bootVerify (s : State) (sram : Nat) : State :=
  if s.sec.verified || s.sec.recovery || s.power.off || s.power.dark then s
  else
    let s := if s.sec.derived then s else deriveIdentity s sram
    let s := countBoot s
    let slot := s.flash.preferred
    let good (n : Nat) : Option Image := (s.flash.image n).filter (imageOk s)
    match good slot with
    | some i => runImage { s with sec.fallback := false } slot i
    | none =>
      let s : State := (raiseAlarm { s with sec.fallback := true } 7 1).raise secPage 3
      match good (1 - slot) with
      | some i => runImage s (1 - slot) i
      | none => enterRecovery s

/-! ### Alarms (R421-R423) -/

/-- Class of an alarm source that the monitor watches directly (R421). -/
def sourceClass (source : Nat) : Nat := if source = 1 then 3 else 2

/-- The alarm of the highest class, the first among equals. -/
def worstAlarm : List (Nat × Nat × Nat) → Option (Nat × Nat × Nat)
  | [] => none
  | a :: r =>
    match worstAlarm r with
    | none => some a
    | some b => if a.2.1 < b.2.1 then some b else some a

/-- What an alarm that acts does by its class (R422). -/
def alarmActs (s : State) (cls : Nat) : State :=
  if cls < 2 then s
  else
    let s : State := zeroiseSaks (endSession { s with sec.held := true })
    let s : State := if cls = 3 then { s with flash.blob := none, flash.owner := none, sec.identity := none } else s
    if s.power.off || s.power.dark then s else startWarm s cls

/-- Alarms of one tick: each is counted, the highest class is recorded and acts, during a warm reset from an earlier alarm only if
its class is higher (R422). -/
def takeAlarms (s : State) (as_ : List (Nat × Nat × Nat)) : State :=
  let s := as_.foldl (fun s a => (s.bump secPage (a.2.1 - 1)).raise secPage (a.2.1 - 1)) s
  match worstAlarm as_ with
  | none => s
  | some (source, cls, tick) =>
    let first := s.isFirst secPage 0x104
    let s := s.record secPage 0x104 (cls * 2 ^ 28 + source * 2 ^ 24)
    let s := if first then (s.setRegN secPage 0x108 (tick % 2 ^ 32)).setRegN secPage 0x10C (tick / 2 ^ 32 % 2 ^ 32) else s
    let s : State := { s with sec.lastAlarm := (cls, source) }
    if s.cont.warm.isSome ∧ 0 < s.cont.warmClass ∧ cls ≤ s.cont.warmClass then s else alarmActs s cls

/-- ALARM: the security monitor takes the alarms of one tick: those that this block has raised, and violations 1 to 4 of R421 that
it sees now. -/
def alarm (s : State) (sources : List Nat) : State :=
  if s.power.dark then s
  else
    let seen := (sources.filter (fun n => decide (1 ≤ n))).map (fun n => (n, sourceClass n, s.tick))
    match s.sec.alarms with
    | [] => takeAlarms s seen
    | a :: _ =>
      let now := s.sec.alarms.filter (fun b => decide (b.2.2 = a.2.2))
      let s : State := { s with sec.alarms := s.sec.alarms.filter (fun b => decide (b.2.2 ≠ a.2.2)) }
      if a.2.2 = s.tick then takeAlarms s (now ++ seen) else takeAlarms (takeAlarms s now) seen

/-! ### Management requests (R418, R419) -/

/-- A header of R418 with data. -/
def mgtData (op status chunk last data : Nat) : Nat :=
  op + status * 2 ^ 8 + chunk * 2 ^ 16 + last * 2 ^ 32 + data * 2 ^ 64

/-- Send one chunk of an answer, on a Talel context or on the service port. -/
def sendChunk (s : State) (dst : Option Nat) (tag op status chunk last len data : Nat) : State :=
  match dst with
  | some n => respond s n { cls := 7, tag := tag } (8 + len) (mgtData op status chunk last data)
  | none => { s with sec.sent := ⟨op + status * 2 ^ 8, chunk, last, len, data⟩ :: s.sec.sent }

/-- Answer an operation with an outcome and data, in chunks of 8,192 bytes (R418, R420). -/
def sendAnswer (s : State) (dst : Option Nat) (tag op status len data : Nat) : State :=
  let n := max 1 ((len + 8191) / 8192)
  (List.range n).foldl (fun s k =>
    let l := min 8192 (len - 8192 * k)
    sendChunk s dst tag op status k (n - 1) l (sub data (8192 * k) l)) s

/-- Outcome codes of R419. -/
abbrev mgtOk : Nat := 0
/-- BAD_OP. -/
abbrev mgtBadOp : Nat := 1
/-- NOT_ADMIN. -/
abbrev mgtNotAdmin : Nat := 2
/-- BAD_SIGNATURE. -/
abbrev mgtBadSig : Nat := 3
/-- STATE. -/
abbrev mgtState : Nat := 4
/-- ROLLBACK. -/
abbrev mgtRollback : Nat := 5
/-- UNPROVISIONED. -/
abbrev mgtUnprov : Nat := 6
/-- BUSY. -/
abbrev mgtBusy : Nat := 7

/-- A chunk reaches the operation it belongs to (R418): a first chunk opens one, the next one in order is gathered, and any other
ends the operation with BAD_OP. -/
def gatherChunk (old : Option MgtOp) (ctx : Option Nat) (tag op chunk last len data : Nat) : Option MgtOp :=
  match old with
  | none => if chunk = 0 then some ⟨ctx, tag, op, 1, last, data, len, decide (last = 0)⟩ else none
  | some k =>
    if chunk = k.chunks ∧ last = k.last ∧ op = k.op then
      some { k with chunks := k.chunks + 1, data := k.data + data * 2 ^ (8 * k.len), len := k.len + len, complete := decide (chunk = last) }
    else none

/-- MGT_CHUNK: the chunk at the head of a context is gathered until its operation is complete; the module runs one operation at a
time (R418). An operation whose context is no longer OPEN is dropped. -/
def mgtChunk (s : State) (n : Nat) : State :=
  match s.popReady n (fun m => m.cls == 7) with
  | none => s
  | some (m, s) =>
    let op := sub m.data 0 1
    let len := m.len - 8
    let bad := decide (m.len < 8) || decide (8200 < len) || sub m.data 1 1 != 0 || sub m.data 6 2 != 0 || op == 0 || decide (12 < op)
    let say (s : State) (st : Nat) : State := sendAnswer s (some n) m.tag op st 0 0
    let cur := s.sec.mgt.filter (fun k => match k.ctx with | some c => (s.tctx c).st == 1 | none => false)
    let other := match cur with | some k => k.complete || k.ctx != some n || k.tag != m.tag | none => false
    if other then say s mgtBusy
    else if bad then say { s with sec.mgt := none } mgtBadOp
    else
      match gatherChunk cur (some n) m.tag op (sub m.data 2 2) (sub m.data 4 2) len (sub m.data 8 len) with
      | some k => { s with sec.mgt := some k }
      | none => say { s with sec.mgt := none } mgtBadOp

/-- The complete management operation of a code, taken. -/
def takeMgt (s : State) (op : Nat) : Option (MgtOp × State) :=
  match s.sec.mgt with
  | some k => if k.complete && k.op == op then some (k, { s with sec.mgt := none }) else none
  | none => none

/-- Answer a management operation without data. -/
def MgtOp.answer (k : MgtOp) (s : State) (status : Nat) : State := sendAnswer s k.ctx k.tag k.op status 0 0

/-- Partition of an operation's context. -/
def MgtOp.part (k : MgtOp) (s : State) : Nat := match k.ctx with | some c => (s.tctx c).part | none => 0

/-- Is an operation's context of the admin partition (R419)? -/
def MgtOp.isAdmin (k : MgtOp) (s : State) : Bool := k.part s == s.flash.admin

/-- Is the module provisioned (R417)? -/
def State.provisioned (s : State) : Bool := s.sec.identity.isSome

/-- The hash of the identity key, 0 while unprovisioned. -/
def State.identityHash (s : State) : Nat :=
  match s.sec.identity with
  | some sk => Config.shake256 64 (Config.publicKey sk) % 2 ^ 512
  | none => 0

/-- The values that M_SPARES measures (R420). -/
def spareValues (s : State) : List Nat :=
  let r := s.mem.repairFlash
  r.rows.flatMap (fun e => e.1 :: e.2) ++ r.spares.flatMap (fun e => [e.1, e.2]) ++
    r.channels.flatMap (fun e => e.1 :: e.2.command :: b2n e.2.lost :: e.2.failed) ++ r.retired ++ r.spareUsed ++
    r.tiles.flatMap (fun e => [e.1, e.2]) ++ s.activeSites

/-- The values that M_CFG measures (R420): SEC.ADMIN, port addresses, OWNER of every page. -/
def configValues (s : State) : List Nat :=
  s.flash.admin :: (List.range 18).flatMap (fun i => [0x104, 0x108, 0x10C, 0x110, 0x114, 0x118, 0x11C].map (fun o => s.regN (portPage i) o)) ++
    (List.range 5120).filterMap (fun n => (pageAt (0x1000 * n)).map (fun p => s.owner p))

/-- The 512-byte body of a report (R420). -/
def reportBody (s : State) (nonce : Nat) : Nat :=
  let fw := match s.sec.running with | some i => i | none => ⟨0, 0⟩
  let put (off v : Nat) : Nat := v * 2 ^ (8 * off)
  1 + put 2 512 + put 8 (nonce % 2 ^ 256) + put 40 (Config.shake256 fw.bodyEnd (sub fw.data 0 fw.bodyEnd) % 2 ^ 512) +
    put 104 (Config.measure 2 (configValues s) % 2 ^ 512) + put 168 (Config.measure 3 (spareValues s) % 2 ^ 512) +
    put 232 s.identityHash + put 296 (s.flash.owner.getD 0 % 2 ^ 512) + put 360 fw.version + put 362 fw.svn + put 363 s.svnFloor +
    put 364 (s.sec.slot + 2 * b2n s.sec.fallback) + put 368 s.poweredSeconds + put 372 (s.flash.boots % 2 ^ 32) +
    put 376 s.sec.lastAlarm.1 + put 377 s.sec.lastAlarm.2

/-- Send a report (R420): the body and its signature, 30,304 bytes in 4 chunks. -/
def sendReport (s : State) (dst : Option Nat) (tag op nonceLen nonce : Nat) : State :=
  match s.sec.identity with
  | none => sendAnswer s dst tag op mgtUnprov 0 0
  | some sk =>
    if nonceLen ≠ 32 then sendAnswer s dst tag op mgtBadOp 0 0
    else
      let body := reportBody s nonce
      let s := s.bump secPage 5
      sendAnswer s dst tag op mgtOk 30304 (body + Config.slhSign sk 512 body % 2 ^ (8 * sigLen) * 2 ^ 4096)

/-- Send the device certificate (R419). -/
def sendCert (s : State) (dst : Option Nat) (tag op : Nat) : State :=
  if !s.provisioned then sendAnswer s dst tag op mgtUnprov 0 0
  else sendAnswer s dst tag op mgtOk s.flash.cert.1 s.flash.cert.2

/-- The service port takes a frame (R428): VBUS is present and the edge runs; it is counted. -/
def svcFrame (s : State) : Option State :=
  if !s.sec.vbus || s.power.dark then none else some (s.bump edgePage 4)

/-- A frame that the service port answers at once, one operation at a time (R428). -/
def svcRequest (s : State) (f : SvcFrame) (act : State → State) : State :=
  match svcFrame s with
  | none => s
  | some s =>
    let op := f.op % 2 ^ 8
    if s.sec.svc.isSome then sendAnswer s none 0 op mgtBusy 0 0
    else if f.chunk ≠ 0 ∨ f.chunksM1 ≠ 0 then sendAnswer s none 0 op mgtBadOp 0 0
    else act s

/-- REPORT: an attestation report for a nonce, by management request or by service port (R419, R420, R428). -/
def report (s : State) : Option SvcFrame → State
  | none => match takeMgt s 1 with
    | some (k, s) => sendReport s k.ctx k.tag 1 k.len k.data
    | none => s
  | some f => svcRequest s f (fun s => sendReport s none 0 (f.op % 2 ^ 8) f.len f.data)

/-- CERT: the device certificate (R419, R428). -/
def cert (s : State) : Option SvcFrame → State
  | none => match takeMgt s 2 with
    | some (k, s) => sendCert s k.ctx k.tag 2
    | none => s
  | some f => svcRequest s f (fun s => sendCert s none 0 (f.op % 2 ^ 8))

/-- ENROL: the owner key is enrolled or transferred (R419). -/
def enrol (s : State) : State :=
  match takeMgt s 3 with
  | none => s
  | some (k, s) =>
    let key := sub k.data 0 64
    let signer := match s.flash.owner with | none => s.flash.rootKey | some h => Config.ownerKey h
    let rootGood := s.flash.owner.isSome || rootOk s
    if !k.isAdmin s then k.answer s mgtNotAdmin
    else if !s.provisioned then k.answer s mgtUnprov
    else if k.len ≠ 64 + sigLen then k.answer s mgtBadOp
    else if !rootGood || !Config.slhVerify signer 2 128 (s.identityHash + key * 2 ^ 512) (sub k.data 64 sigLen) then k.answer s mgtBadSig
    else k.answer { s with flash.owner := some (Config.shake256 64 key % 2 ^ 512) } mgtOk

/-- Put an image into a slot. -/
def Flash.putImage (f : Flash) (slot : Nat) (i : Image) : Flash :=
  if slot = 0 then { f with slotA := some i } else { f with slotB := some i }

/-- FW_STAGE: image bytes go into the slot that is not running (R419). -/
def fwStage (s : State) : State :=
  match takeMgt s 4 with
  | none => s
  | some (k, s) =>
    if !k.isAdmin s then k.answer s mgtNotAdmin
    else k.answer { s with flash := s.flash.putImage (1 - s.sec.slot) ⟨k.len, k.data⟩ } mgtOk

/-- FW_COMMIT: the staged slot is verified and preferred from the next boot; RAISE_SVN raises the floor to its SVN (R415,
R419). -/
def fwCommit (s : State) : State :=
  match takeMgt s 5 with
  | none => s
  | some (k, s) =>
    let slot := 1 - s.sec.slot
    if !k.isAdmin s then k.answer s mgtNotAdmin
    else if k.len ≠ 1 then k.answer s mgtBadOp
    else
      match s.flash.image slot with
      | none => k.answer s mgtState
      | some i =>
        if !signedOk s i then k.answer s mgtBadSig
        else if i.svn < s.svnFloor then k.answer s mgtRollback
        else
          let s : State := { s with flash.preferred := slot }
          let s : State := if bitAt k.data 0 then
              { s with flash.floor := i.svn, flash.floorTag := Config.floorMac s.sec.wrapKey i.svn }
            else s
          k.answer s mgtOk

/-- MGT_PART_RESET: the request acts as a write of PART.RESET (R419). -/
def mgtPartReset (s : State) : State :=
  match takeMgt s 6 with
  | none => s
  | some (k, s) =>
    let mask := sub k.data 0 1
    if k.len ≠ 1 ∨ 16 ≤ mask then k.answer s mgtBadOp
    else if !k.isAdmin s && putField mask (k.part s) 1 0 != 0 then k.answer s mgtNotAdmin
    else k.answer (partResetWrite s mask) mgtOk

/-- A write of PART.KILL by the secure firmware, an ignored one logged (R399). -/
def killByFirmware (s : State) (v : Nat) : State :=
  match killWrite s v with
  | (s, true) => s
  | (s, false) => s.logReq partPg kindIgnored .rmSecure true 0x114

/-- MGT_PART_KILL: the request acts as a write of PART.KILL (R419). -/
def mgtPartKill (s : State) : State :=
  match takeMgt s 7 with
  | none => s
  | some (k, s) =>
    let p := sub k.data 0 1
    let j := sub k.data 1 1
    if k.len ≠ 2 ∨ 4 ≤ p ∨ 16 ≤ j then k.answer s mgtBadOp
    else if !k.isAdmin s && p != k.part s then k.answer s mgtNotAdmin
    else k.answer (killByFirmware s (2 ^ 31 + p * 16 + j)) mgtOk

/-- MGT_WARM: the request acts as a write of PART.CTRL.WARM (R419). -/
def mgtWarm (s : State) : State :=
  match takeMgt s 8 with
  | none => s
  | some (k, s) => if !k.isAdmin s then k.answer s mgtNotAdmin else startWarm (k.answer s mgtOk) 0

/-! ### Removal (R426, R427) -/

/-- Halt every F context with HALT_REQ (R426). -/
def haltForward (s : State) : State :=
  (coresOf (List.range 40)).foldl (fun s id => haltCtx s id .f causeExternal false ((s.core id).ctx .f).exe.pc noSlot) s

/-- A removal request: 1 by the button, 2 by REMOVE. One made while a removal is in progress is ignored and counted; whether it
was taken (R426). -/
def startRemoval (s : State) (cause : Nat) : State × Bool :=
  let s := s.bump edgePage 0
  if s.sec.removal ≠ 0 then (s, false)
  else
    let step := s.frontStep
    let s := s.setRegN edgePage 0x100 (step * 2 ^ 16 + cause)
    let s := if s.isRetired then s else s.enterStage stDraining
    let s := closePeers (haltForward s) step
    (({ s with sec.removal := 1, sec.removalAt := s.tick } : State).raise edgePage 0, true)

/-- REMOVE as a management request (R419). -/
def mgtRemove (s : State) : State :=
  match takeMgt s 9 with
  | none => s
  | some (k, s) =>
    if !k.isAdmin s then k.answer s mgtNotAdmin
    else match startRemoval s 2 with
      | (s, true) => k.answer s mgtOk
      | (s, false) => k.answer s mgtState

/-- BUTTON_DOWN: the removal-request button goes down (R426). -/
def buttonDown (s : State) : State :=
  if s.sec.button.isSome || s.power.dark then s else { s with sec.button := some s.tick, sec.asked := false }

/-- REMOVAL_REQUEST: the button has been down for 2 s (R426). With power enable low, or in the tick of an undervoltage
threshold, it changes nothing. -/
def removalRequest (s : State) : State :=
  match s.sec.button with
  | none => s
  | some t =>
    if s.sec.asked || decide (s.tick < t + 200000000) || s.power.dark then s
    else
      let s : State := { s with sec.asked := true }
      if s.power.low || s.power.off then s else (startRemoval s 1).1

/-- SHORT_PRESS: the button is released; before 2 s that is a short press (R426). -/
def shortPress (s : State) : State :=
  match s.sec.button with
  | none => s
  | some t =>
    let s' : State := { s with sec.button := none, sec.asked := false }
    if s.sec.asked || decide (t + 200000000 ≤ s.tick) || s.power.low then s' else (s'.raise edgePage 1).bump edgePage 1

/-- EDGE.DRAIN_LIMIT as it acts. -/
def edgeLimit (s : State) : Nat := max (s.regN edgePage 0x104) 1000000

/-- DRAINING_END: every B and U context is IDLE, the hand queue empty and no slice in the update unit, or DRAIN_LIMIT has expired;
firmware kills every job, and FLUSHING follows (R426). -/
def drainingEnd (s : State) : State :=
  let done := (coresOf (List.range 40)).all (fun id => ((s.core id).ctx .b).mode == .idle && ((s.core id).ctx .u).mode == .idle) &&
    s.crs.hands.isEmpty && s.upd.queue.isEmpty && s.upd.slices.isEmpty
  if s.sec.removal = 1 ∧ (done ∨ s.sec.removalAt + edgeLimit s ≤ s.tick) then killAll { s with sec.removal := 2 } else s

/-- SAFE: the kills are done, the ledger and the maps are flushed, every context is closed, and every domain but the always-on ones
powers down (R426). -/
def safe (s : State) : State :=
  if s.sec.removal ≠ 2 ∨ s.cont.kill.isSome ∨ !s.cont.kills.isEmpty then s
  else
    let s := repairMapWrite (flushLedger s)
    let s := (s.net.ctxs.filter (fun e => e.2.st == 1)).foldl (fun s e => sendClose s e.1 0 0) s
    ({ s with sec.removal := 3, power.off := true } : State).raise edgePage 4

/-- TAIL_WRITE: the alarm record, then up to 256 changed ledger records, newest change first (R427). -/
def tailWrite (s : State) : State :=
  if !s.sec.tailDue || s.power.dark then s
  else
    let l := s.ledger
    let now := l.dirty.take 256
    let flash := now.foldl (fun m i => match SMap.get l.recs i with | some r => SMap.set m i r | none => m) l.flash
    let a := s.sec.lastAlarm
    ({ s with
      sec.tailDue := false
      flash.alarms := s.flash.alarms ++ [(a.2, a.1, s.tick)]
      ledger := { l with flash := flash, dirty := l.dirty.drop 256, lostTail := (l.dirty.drop 256).length
                         flashPowered := s.poweredSeconds } } : State).bump edgePage 5

/-- LATCH_LEVER: the latch lever opens or closes (R427): an opening outside SAFE starts the tail write and is a class 2 alarm. -/
def latchLever (s : State) (opened : Bool) : State :=
  if opened == s.sec.latch || s.power.dark then s
  else
    let s := ({ s with sec.latch := opened } : State).raise edgePage 2
    if !opened then s
    else
      let s := s.bump edgePage 2
      if s.sec.removal = 3 then s else raiseAlarm { s with sec.tailDue := true } 5 2

/-! ### Other operations (R419, R423) -/

/-- ALARM_ACK: a held alarm is released, and the stage goes on to READY (R423). -/
def alarmAck (s : State) : State :=
  match takeMgt s 10 with
  | none => s
  | some (k, s) =>
    if !k.isAdmin s then k.answer s mgtNotAdmin
    else if !s.sec.held then k.answer s mgtState
    else
      let s : State := { s with sec.held := false }
      k.answer (if s.cont.warm.isSome then s else warmStage s) mgtOk

/-- IDENTIFY: the Marquee's pattern is turned on or off (R419, R424). -/
def identify (s : State) : State :=
  match takeMgt s 11 with
  | none => s
  | some (k, s) =>
    if k.len ≠ 1 ∨ 2 ≤ sub k.data 0 1 then k.answer s mgtBadOp
    else k.answer (s.setField edgePage 0x010 0 1 (sub k.data 0 1)) mgtOk

/-- PROVISION: a new identity is installed on an unprovisioned module, which restarts as at power-up with no owner (R419,
R423). -/
def provision (s : State) : State :=
  match takeMgt s 12 with
  | none => s
  | some (k, s) =>
    let n := k.len - sigLen
    if s.provisioned then k.answer s mgtState
    else if k.len < sigLen then k.answer s mgtBadOp
    else if !rootOk s || !Config.slhVerify s.flash.rootKey 3 n (sub k.data 0 n) (sub k.data n sigLen) then k.answer s mgtBadSig
    else
      let (blob, helper, len, data) := Config.provParts n (sub k.data 0 n)
      let s := k.answer s mgtOk
      powerOn { s with flash.blob := some blob, flash.helper := helper, flash.cert := (len, data), flash.owner := none }

/-! ### The service port and Periscope (R428-R430) -/

/-- Code of the Marquee's state (R424). -/
def marquee (s : State) : Nat :=
  if s.sec.removal = 3 ∨ s.power.low then 1
  else if s.sec.held then 2
  else if s.sec.recovery then 3
  else if s.sec.removal ≠ 0 then 4
  else if bitAt (s.regN edgePage 0x010) 0 then 5
  else if s.sec.derived ∧ !s.provisioned then 6
  else if s.stage347 = stRetired then 7
  else if s.stage347 = stReady then 8
  else 9

/-- The alert line (R425). -/
def alert (s : State) : Bool := s.sec.removal == 3 || s.sec.held || s.sec.recovery || s.stage347 == stRetired

/-- EDGE.STATUS as it reads (R432). -/
def edgeStatus (s : State) : Nat :=
  marquee s * 2 ^ 28 + s.sec.removal * 2 ^ 26 + b2n s.sec.vbus * 8 + b2n s.sec.latch * 4 + b2n s.sec.button.isSome * 2 + b2n (alert s)

/-- SEC.STATUS as it reads (R431). -/
def secStatus (s : State) : Nat :=
  b2n s.provisioned * 2 ^ 31 + b2n s.flash.owner.isSome * 2 ^ 30 + b2n s.sec.fallback * 2 ^ 29 + s.sec.slot * 2 ^ 28 +
    b2n s.sec.session.isSome * 2 ^ 27 + b2n s.sec.held * 2 ^ 26 + s.svnFloor * 2 ^ 8 +
    (match s.sec.running with | some i => i.svn | none => 0)

/-- STATUS: an unauthenticated service frame returns the status block (R428). -/
def statusFrame (s : State) (f : SvcFrame) : State :=
  svcRequest s f (fun s =>
    let count (c : Nat) : Nat := (s.ledger.recs.filter (fun e => decide (e.2.cls = c))).length
    let v := [edgeStatus s, secStatus s, s.regN talPage 0x014, s.regN secPage 0x104, s.poweredSeconds] ++ (List.range 5).map count
    sendAnswer s none 0 (f.op % 2 ^ 8) mgtOk 64 (Config.statusBlock v % 2 ^ 512))

/-- IMAGE: in RECOVERY a frame of a firmware image arrives; the complete image goes into slot A, is verified, and restarts the
boot (R416, R428). -/
def imageFrame (s : State) (f : SvcFrame) : State :=
  match svcFrame s with
  | none => s
  | some s =>
    let op := f.op % 2 ^ 8
    let say (s : State) (st : Nat) : State := sendAnswer s none 0 op st 0 0
    if !s.sec.recovery then say s mgtState
    else if 8200 < f.len then say { s with sec.svc := none } mgtBadOp
    else
      match gatherChunk s.sec.svc none 0 op f.chunk f.chunksM1 f.len (sub f.data 0 f.len) with
      | none => say { s with sec.svc := none } mgtBadOp
      | some k =>
        if !k.complete then { s with sec.svc := some k }
        else
          let i : Image := ⟨k.len, k.data⟩
          let s : State := { s with sec.svc := none, flash.slotA := some i }
          if imageOk s i then
            say { s with flash.preferred := 0, sec.recovery := false, sec.verified := false, power.goodAt := s.tick, power.stageAt := s.tick
                         power.upDone := false } mgtOk
          else say s mgtBadSig

/-- VBUS_CHANGE: VBUS appears or goes away on the service port (R428, R430). -/
def vbusChange (s : State) (present : Bool) : State :=
  if present == s.sec.vbus || s.power.dark then s
  else
    let s := ({ s with sec.vbus := present } : State).raise edgePage 3
    if present then s.bump edgePage 3 else endSession { s with sec.svc := none }

/-- A failed attempt to open a session (R429). -/
def authFail (s : State) : State :=
  let r := s.regN secPage 0x110
  let total := min (field r 7 0 + 1) 255
  let run := min (field r 15 8 + 1) 255
  let s := s.setRegN secPage 0x110 (run * 2 ^ 8 + total)
  let s := if total = 255 ∧ field r 7 0 = 254 then s.logWord secPage (0x65000000 + 0x110) else s
  let s := ((s.raise secPage 5).bump secPage 3).logReq secPage kindEvent .periscope true 0x018
  let s : State := if run % 3 = 0 then raiseAlarm { s with sec.lockout := some s.tick } 6 1 else s
  if total = 8 ∧ field r 7 0 = 7 then raiseAlarm s 6 2 else s

/-- PERISCOPE_OPEN: the tool answers a fresh nonce with a key, a signature and a privilege mask (R429). -/
def periscopeOpen (s : State) (key signature mask : Nat) : State :=
  if !s.sec.vbus || s.power.dark || s.sec.lockout.isSome || s.sec.session.isSome then s
  else
    let (n, s) := s.draw
    let hash := Config.shake256 64 key
    let ok := hash == (match s.flash.owner with | some h => h | none => Config.rootHash) &&
      Config.slhVerify key 4 100 (n % 2 ^ 256 + s.identityHash * 2 ^ 256 + mask * 2 ^ 768) signature
    if ok then
      let s : State := { s with sec.session := some ⟨mask, s.tick⟩ }
      (((s.setField secPage 0x110 8 8 0).raise secPage 4).bump secPage 4).logReq secPage kindEvent .periscope true 0x018
    else authFail s

/-- PERISCOPE_CLOSE: the tool ends the session (R430). -/
def periscopeClose (s : State) : State :=
  if s.sec.session.isNone then s else (endSession s).logReq secPage kindEvent .periscope true 0x018

/-- SESSION_TIMEOUT: 30 s have passed with no frame (R430). -/
def sessionTimeout (s : State) : State :=
  match s.sec.session with
  | some k => if k.last + 3000000000 ≤ s.tick then endSession s else s
  | none => s

/-- AUTH_LOCKOUT_EXPIRY: the refusal of OPEN ends after 60 s (R429). -/
def authLockoutExpiry (s : State) : State :=
  match s.sec.lockout with
  | some t => if t + 6000000000 ≤ s.tick then { s with sec.lockout := none } else s
  | none => s

end Sys2Proof.Machine
end

