-- ==== Sys2Proof/Machine/RegBus.lean ====
section
/-! DEFINITION. The register bus: what a read and a write of every register of every page returns and does (R9, R11,
R381-R395 and the register tables of the chapters). -/

namespace Sys2Proof.Machine

/-- What a register access is answered (R378, R394): a value (0 for a write), data with a poison mark (R397), page absent, the
page's domain down (R337), refused. -/
inductive BusAns where
  | value (v : Nat)
  | poison
  | absent
  | down
  | denied
  deriving DecidableEq, Repr

/-! ### Counters (R386-R388) -/

/-- The core in whose domain a page of a core or of its engines lies. -/
def Page.coreId (p : Page) : CoreId :=
  let i := p.inst
  match p.block with
  | .ope | .drn | .tst => coreOfIdx (7 * (i / 2) + i % 2)
  | .vec => coreOfIdx (7 * (i / 4) + 2 + i % 4)
  | .scl => coreOfIdx (7 * i + 6)
  | _ => coreOfIdx i

/-- Cycles of a core's domain that have passed, for a counter of all cycles: how many since its last command is free. -/
def State.cyclesOf (s : State) (p : Page) (sel : Nat) : Nat :=
  (s.readCycle p.coreId + 1 + 2 ^ 64 - s.counter p sel % 2 ^ 64) % 2 ^ 64

/-- Cycles with a live stream waiting up to the cycle of a read (R105): those since the core's last command count where nothing was due in
them. -/
def State.waitNow (s : State) (id : CoreId) : Nat :=
  if dueBefore s id (s.readCycle id) then (s.core id).waitCycles else ((s.core id).reach (s.readCycle id)).waitCycles

/-- A counter as it stands now: 0 for a selection that the block does not list. -/
def State.counterNow (s : State) (p : Page) (sel : Nat) : Nat :=
  match p.block.counters[sel]? with
  | none => 0
  | some false =>
    let n := s.counter p sel
    let now := s.readCycle p.coreId
    match p.block, sel with
    | .ope, 0 => min (n + (issuedAhead (s.ope p.coreId) now - (s.ope p.coreId).cleared)) counterMax
    | .jgl, 1 => n - (s.core p.coreId).sendAhead now
    | _, _ => n
  | some true =>
    let ticks := (s.tick + 2 ^ 64 - s.counter p sel % 2 ^ 64) % 2 ^ 64
    match p.block, sel with
    | .core, 2 => s.waitNow p.coreId % 2 ^ 64
    | .core, _ => s.cyclesOf p sel
    | .jgl, _ => ((s.core p.coreId).reach (s.readCycle p.coreId)).faultCycles % 2 ^ 64
    | .ope, 2 => (s.counter p 2 + issuedAhead (s.ope p.coreId) (s.readCycle p.coreId)) % 2 ^ 64
    | .ope, _ => s.cyclesOf p sel
    | .drn, _ => (s.counter p sel + 2 ^ 64 - drainAhead (s.ope p.coreId) (s.readCycle p.coreId) % 2 ^ 64) % 2 ^ 64
    | .tst, _ => s.cyclesOf p sel
    | .vec, 3 => s.counter p 3
    | .vec, _ => s.cyclesOf p sel
    | .scl, _ => s.cyclesOf p sel
    | .clk, _ => ticks
    | .part, _ => ticks
    | .sec, _ => ticks
    | .pwr, _ => ticks
    | _, _ => Config.cycleCount p.base sel s.tick % 2 ^ 64

/-- CNT_SEL as it reads (R387). -/
def cntSelReg (s : State) (p : Page) : Nat :=
  let sel := field (s.regN p 0x030) 7 0
  let sat := p.block.counters[sel]? == some false && s.counter p sel == counterMax
  b2n sat * 2 ^ 31 + sel

/-- CLEAR of a statistics counter (R387): a counter whose events are counted later than they happen keeps those apart. -/
def clearCounter (s : State) (p : Page) (sel : Nat) : State :=
  let c := s.core p.coreId
  let s : State := { s with counters := SMap.del s.counters (p.base * 256 + sel) }
  match p.block, sel with
  | .ope, 0 => s.setOpe p.coreId { s.ope p.coreId with cleared := issuedAhead (s.ope p.coreId) c.now }
  | .jgl, 1 => if c.sendAhead c.now = 0 then s else s.bumpBy p 1 (c.sendAhead c.now)
  | _, _ => s

/-- A write of CNT_SEL: SEL, and CLEAR of the counter that it names (R387). -/
def cntSelWrite (s : State) (p : Page) (who : Requester) (v : Nat) : State :=
  let sel := field v 7 0
  let s := s.setRegN p 0x030 sel
  if !bitAt v 30 then s
  else match p.block.counters[sel]? with
    | none => s
    | some false => clearCounter s p sel
    | some true => s.logReq p kindIgnored who true 0x030

/-- A read of CNT_LO: the low half, the high half kept as the snapshot of the requester's class (R388). -/
def cntLoRead (s : State) (p : Page) (who : Requester) : State × Nat :=
  let v := s.counterNow p (field (s.regN p 0x030) 7 0)
  ({ s with snaps := SMap.set s.snaps (p.base + reqClass who) (BitVec.ofNat 32 (v / 2 ^ 32)) }, v % 2 ^ 32)

/-! ### The error log (R390, R391) -/

/-- A read of ERRLOG_DATA (R391). -/
def errlogRead (s : State) (p : Page) : State × Nat :=
  let l := s.log p
  let d := modDist 16 l.writeSeq l.readSeq
  if d = 0 then (s, 0)
  else
    let r := if d ≤ 16 then l.readSeq else (l.writeSeq + 2 ^ 16 - 16) % 2 ^ 16
    let e := (SMap.getD l.ring 0 (r % 16)).toNat
    ({ s with logs := SMap.set s.logs p.base { l with readSeq := wrapSucc 16 r } },
     if d ≤ 16 then e else putField e 13 1 1)

/-! ### What registers read as -/

/-- A read-only view of a core page. -/
def coreView (s : State) (p : Page) (off : Nat) : Nat :=
  let c := s.core p.coreId
  let x := Ctx.ofIdx ((off - 0x100) / 0x40)
  let r := (off - 0x100) % 0x40
  if off = 0x014 then coreStatusReg s p.coreId
  else if 0x400 ≤ off then (c.flag (Ctx.ofIdx ((off - 0x400) / 0x400)) (off % 0x400 / 4)).value
  else if 0x100 ≤ off ∧ off < 0x1C0 then
    if r = 0x04 then (c.ctx x).exe.pc
    else if r = 0x08 then (c.ctx x).acc.pc
    else if r = 0x24 then qstatusReg c x (s.readCycle p.coreId)
    else if r = 0x28 then qcfgReg c x
    else s.regN p off
  else s.regN p off

/-- POOL.STATUS as it reads (R206). -/
def poolStatus (s : State) (c : Nat) : Nat :=
  let homes := (s.mem.frames.filter (fun e => decide (512 * c + s.stkP c ≤ e.1) && decide (e.1 < 512 * (c + 1)))).length
  (496 - s.stkP c - homes) * 2 ^ 16 + homes

/-- TAL.STAGE as it reads: the OPEN contexts and the stage (R347). -/
def stageReg (s : State) : Nat := (s.net.ctxs.filter (fun e => e.2.st == 1)).length % 2 ^ 15 * 2 ^ 16 + s.stage347

/-- What a block's own register reads as. -/
def blockView (s : State) (p : Page) (off : Nat) : Nat :=
  let i := p.inst
  let plain := s.regN p off
  let at14 (v : Nat) : Nat := if off = 0x014 then v else plain
  let held (o : Nat) : Nat := if off = o then (SMap.getD s.snaps 0 (p.key o)).toNat else plain
  match p.block with
  | .core => coreView s p off
  | .jgl => if 0x800 ≤ off then jglView (s.core p.coreId) off (s.readCycle p.coreId) else plain
  | .ope =>
    let o := s.ope p.coreId
    if off = 0x100 then o.holder.idx
    else if off = 0x104 then opeStateReg o (s.readCycle p.coreId)
    else if off = 0x118 then o.coordRow * 2 ^ 16 + o.coordCol
    else plain
  | .drn => if off = 0x100 then drnStateReg (s.ope p.coreId) else plain
  | .vec => if off = 0x100 then (s.core p.coreId).holder.idx else plain
  | .scl => if off = 0x100 then (s.core p.coreId).holder.idx else plain
  | .row => at14 (rowStatusReg (s.row i))
  | .pool => at14 (poolStatus s i)
  | .dir => if off = 0x110 then s.heldCount i else plain
  | .mov => at14 (min (s.queuedMoves i) 255 * 16 + s.inMove i)
  | .stk => at14 (b2n (s.stash i).pop * 2 ^ 31 + (s.stash i).top)
  | .hbc => if off = 0x110 then hbcSparesReg s i else at14 (hbcStatusReg (s.stack i))
  | .hbp => if 0x200 ≤ off ∧ off < 0x280 then hbpLaneReg (s.stack i) ((off - 0x200) / 4) else at14 (hbpStatusReg (s.stack i))
  | .mesh => at14 (meshLinks s i)
  | .clk => if off = 0x104 then dstatReg s else if off = 0x108 then dfreqReg s else plain
  | .crsModule => held 0x11C
  | .crsUnit => at14 (unitStatus s i)
  | .upd => if off = 0x014 then updStatus s else held 0x124
  | .port => if off = 0x104 then Config.portMac i % 2 ^ 32 else if off = 0x108 then Config.portMac i / 2 ^ 32 % 2 ^ 16 else plain
  | .tal => if off = 0x114 then cstateView s else at14 (stageReg s)
  | .lic =>
    if off = 0x104 then licScfgReg s
    else if off = 0x110 then licIdleReg s
    else if 0x200 ≤ off ∧ off < 0x2A0 ∧ off % 0x20 = 0x0C then licDepthReg s ((off - 0x200) / 0x20)
    else plain
  | .sic => if 0x200 ≤ off ∧ off < 0x400 then sicSrcReg s i ((off - 0x200) / 4) else plain
  | .mbx => if 0x280 ≤ off ∧ off < 0x2C0 then boxRecv s i ((off - 0x280) / 4) else at14 (boxStatus s i)
  | .sec => if off = 0x100 then s.flash.admin else if off = 0x114 then s.flash.boots else at14 (secStatus s)
  | .edge => at14 (edgeStatus s)
  | .pwr => if off = 0x114 then rstatReg s else if off = 0x118 then sparesReg s else at14 (pwrStatusReg s)
  | .ldg => if off = 0x104 then s.poweredSeconds else at14 (ldgStatus s)
  | .phsStep => held 0x114
  | .part => at14 (partStatus s)
  | _ => plain

/-- What a register reads as, where the read has no effect. -/
def regView (s : State) (p : Page) (who : Requester) (off : Nat) : Nat :=
  if off = 0x000 then p.block.code * 2 ^ 24 + p.inst
  else if off = 0x004 then 0xB0010000 + s.sec.fwVer % 2 ^ 16
  else if off = 0x008 then p.block.istBits * 2 ^ 16 + 0x1000 + p.block.counters.length
  else if off = 0x020 then s.regN p 0x018
  else if off = 0x024 then (s.log p).writeSeq * 2 ^ 16 + (s.log p).readSeq
  else if off = 0x02C then (s.log p).count
  else if off = 0x030 then cntSelReg s p
  else if off = 0x038 then (SMap.getD s.snaps 0 (p.base + reqClass who)).toNat
  else if off = 0x040 then s.owner p
  else blockView s p off

/-- May a requester use the debug registers of a matrix core now (R51)? -/
def debugOpen (s : State) (id : CoreId) (who : Requester) : Bool :=
  who == .periscope && allCtx.all (fun x => let m := ((s.core id).ctx x).mode; m == .idle || m == .halted)

/-- Is an offset of an OPE page a debug register (R51)? -/
def isDebug (p : Page) (off : Nat) : Bool := p.block == .ope && decide (0x200 ≤ off) && decide (off < 0x210)

/-- A debug register as an admitted session reads it: the selected cell of a bank, or its ACS (R51). -/
def debugView (s : State) (p : Page) (off : Nat) : Nat :=
  let sel := s.regN p 0x200
  let o := s.ope p.coreId
  let b := if bitAt sel 16 then o.back else o.front
  let v := (SMap.getD b.cells {} (256 * field sel 15 8 + field sel 7 0)).value.toNat
  if off = 0x200 then sel
  else if off = 0x204 then v % 2 ^ 32
  else if off = 0x208 then v / 2 ^ 32
  else b.acs.toNat

/-- A read of a register of a page by a requester that the page admits. A Periscope read of a debug register while the core runs reads as 0
and enters nothing in the log: R51 says both that an access while the core runs is entered and that a Periscope read enters nothing
(DESIGN CHOICE, log entry 81). -/
def pageRead (s : State) (p : Page) (who : Requester) (off : Nat) : State × BusAns :=
  let ok (r : State × Nat) : State × BusAns := (r.1, .value r.2)
  if isDebug p off then
    if debugOpen s p.coreId who then (s, .value (debugView s p off))
    else (if who == .periscope then s else s.logReq p kindDebug who false off, .value 0)
  else if off = 0x028 then ok (errlogRead s p)
  else if off = 0x034 then ok (cntLoRead s p who)
  else match p.block with
    | .row =>
      if off = 0x114 then
        let bad := ((s.row p.inst).word (field (s.regN p 0x110) 18 0)).2
        let (s, v) := sideRead s p.inst false
        (s, if bad then .poison else .value v)
      else if off = 0x118 then ok (sideRead s p.inst true)
      else (s, .value (regView s p who off))
    | .dir =>
      if off = 0x108 then
        match dirPeek s p.inst with
        | (s, v, true) => (s, .value v)
        | (s, v, false) => (s.logReq p kindEvent who false off, .value v)
      else (s, .value (regView s p who off))
    | .crsModule => if off = 0x118 then ok (bdataRead s) else (s, .value (regView s p who off))
    | .upd => if off = 0x120 then ok (updLdataRead s) else (s, .value (regView s p who off))
    | .phsStep => if off = 0x110 then ok (stepLdataRead s) else (s, .value (regView s p who off))
    | .lic =>
      if 0x200 ≤ off ∧ off < 0x2A0 ∧ off % 0x20 = 0 then ok (licClaim s ((off - 0x200) / 0x20))
      else (s, .value (regView s p who off))
    | _ => (s, .value (regView s p who off))

/-! ### What writes do -/

/-- Enter a write that the page's state does not accept (R392). -/
def State.ignored (s : State) (p : Page) (who : Requester) (off : Nat) : State := s.logReq p kindIgnored who true off

/-- A write that was taken, or ignored and logged. -/
def tookOr (r : State × Bool) (p : Page) (who : Requester) (off : Nat) : State := if r.2 then r.1 else r.1.ignored p who off

/-- A write that was taken (0), ignored (1) or carried a reserved value (2). -/
def tookCode (r : State × Nat) (p : Page) (who : Requester) (off : Nat) : State :=
  if r.2 = 0 then r.1 else if r.2 = 1 then r.1.ignored p who off else r.1.logReq p kindReserved who true off

/-- What a write does to a register by its access types alone (R9, R11): RW bits take their values, W1C bits clear, W1S bits
set, WO bits are kept for the unit, other bits stay. -/
def plainWrite (s : State) (p : Page) (off v : Nat) (r : RegSpec) : State :=
  let w := BitVec.ofNat 32 v
  let m (n : Nat) : Word := BitVec.ofNat 32 n
  if r.wo ≠ 0 then s.setStage p off (w &&& m r.wo)
  else if r.rw = 0 ∧ r.w1c = 0 ∧ r.w1s = 0 then s
  else
    let old := s.reg p off
    s.setReg p off ((((old &&& ~~~(m r.rw)) ||| (w &&& m r.rw)) &&& ~~~(w &&& m r.w1c)) ||| (w &&& m r.w1s))

/-- A plain write of the register at an offset; a write to a reserved offset is logged (R385). -/
def tableWrite (s : State) (p : Page) (who : Requester) (off v : Nat) : State :=
  match p.block.spec off with
  | some r => plainWrite s p off v r
  | none => s.logReq p kindReserved who true off

/-- A write that takes effect only while a condition holds, and is else ignored and logged. -/
def guardedWrite (s : State) (p : Page) (who : Requester) (off v : Nat) (ok : Bool) : State :=
  if ok then tableWrite s p who off v else s.ignored p who off

/-- A write whose field `hi` to `lo` takes effect only while a condition holds: at another time it is ignored and logged, and the other
fields are written. -/
def fieldGuarded (s : State) (p : Page) (who : Requester) (off v hi lo : Nat) (ok : Bool) : State :=
  let old := s.regN p off
  if ok then tableWrite s p who off v
  else (tableWrite s p who off (putField v lo (hi + 1 - lo) (field old hi lo))).ignored p who off

/-- A write to a CORE page (R85, R89, R102-R104) that acts in core cycle `t`. -/
def coreWrite (s : State) (p : Page) (who : Requester) (off v t : Nat) : State :=
  let id := p.coreId
  let x := Ctx.ofIdx ((off - 0x100) / 0x40)
  let r := (off - 0x100) % 0x40
  if off = 0x010 then coreCtrlWrite s id who v
  else if 0x400 ≤ off then
    let op := field v 31 30
    if 1 < op then s.logReq p kindReserved who true off
    else
      let m : FlagMsg := ⟨Ctx.ofIdx ((off - 0x400) / 0x400), off % 0x400 / 4, op == 1, field v 23 0⟩
      s.modCore id (fun c => { c with flagsIn := c.flagsIn ++ [m] })
  else if 0x100 ≤ off ∧ off < 0x1C0 ∧ r = 0 then ctxCtrlWrite s id x who t v
  else if 0x100 ≤ off ∧ off < 0x1C0 ∧ r = 0x04 then tookOr (pcWrite s id x false v) p who off
  else if 0x100 ≤ off ∧ off < 0x1C0 ∧ r = 0x08 then tookOr (pcWrite s id x true v) p who off
  else if 0x100 ≤ off ∧ off < 0x1C0 ∧ r = 0x28 then tookOr (qcfgWrite s id x v) p who off
  else tableWrite s p who off v

/-- A write to a JGL page: clearing FAULT.VALID ends the record of the fault that it describes (R142, R150). -/
def jglWrite (s : State) (p : Page) (who : Requester) (off v : Nat) : State :=
  let s := tableWrite s p who off v
  if off = 0x100 ∧ bitAt v 31 then
    s.modCore p.coreId (fun c => { c with scs := c.scs.map (fun e => (e.1, { e.2 with recorded := false })) })
  else s

/-- A write to a ROW page (R169, R181, R184). -/
def rowWrite (s : State) (p : Page) (who : Requester) (off v : Nat) : State :=
  if off = 0x010 then (if bitAt v 0 then rowAbort s p.inst else s)
  else if off = 0x114 then tookOr (sideWrite s p.inst false v) p who off
  else if off = 0x118 then tookOr (sideWrite s p.inst true v) p who off
  else if 0x200 ≤ off ∧ off < 0x240 ∧ off % 8 = 4 then rowKickWrite s who p.inst ((off - 0x200) / 8) v
  else tableWrite s p who off v

/-- A write to a STK page (R201, R202). -/
def stkWrite (s : State) (p : Page) (who : Requester) (off v : Nat) : State :=
  if off = 0x100 then tookOr (stkCfgWrite s p.inst false v) p who off
  else if off = 0x104 then tookOr (stkCfgWrite s p.inst true v) p who off
  else if off = 0x108 then tookOr (hbmTilesWrite s p.inst v) p who off
  else if off = 0x10C then tookOr (stkReleaseWrite s p.inst v) p who off
  else tableWrite s p who off v

/-- A write to the carousel's module page (R251, R253, R279). -/
def crsWrite (s : State) (p : Page) (who : Requester) (off v : Nat) : State :=
  if off = 0x100 ∨ off = 0x10C then guardedWrite s p who off v (!s.crsOn)
  else if off = 0x110 then bankSwitchWrite s v
  else if off = 0x11C then tookCode (bdataWrite s v) p who off
  else if 0x800 ≤ off ∧ off % 16 = 12 then handWrite s who ((off - 0x800) / 16) v
  else tableWrite s p who off v

/-- A write to the UPD page (R286, R291, R297, R300). -/
def updWrite (s : State) (p : Page) (who : Requester) (off v : Nat) : State :=
  let on := bitAt (s.regN p 0x010) 0
  if off = 0x010 then updEnableWrite s v
  else if off = 0x100 ∨ off = 0x104 ∨ off = 0x10C then guardedWrite s p who off v (!on)
  else if off = 0x108 then etaNextWrite s v
  else if off = 0x114 then bdone s v
  else if off = 0x124 then tookCode (updLdataWrite s v) p who off
  else if 0x800 ≤ off ∧ off < 0xC00 ∧ off % 16 = 12 then submitWrite s ((off - 0x800) / 16) v
  else tableWrite s p who off v

/-- A write to a PORT page (R357). -/
def portWrite (s : State) (p : Page) (who : Requester) (off v : Nat) : State :=
  let off_ := !bitAt (s.regN p 0x100) 31
  if off = 0x100 then fieldGuarded s p who off v 16 16 off_
  else if 0x10C ≤ off ∧ off ≤ 0x120 then guardedWrite s p who off v off_
  else tableWrite s p who off v

/-- A write to the LIC page (R364, R367-R370, R376). -/
def licWrite (s : State) (p : Page) (who : Requester) (off v : Nat) : State :=
  if off = 0x104 then tookCode (licScfgWrite s v) p who off
  else if off = 0x108 then tookOr (licSwset s v) p who off
  else if off = 0x110 then idleHostWrite s v
  else if 0x200 ≤ off ∧ off < 0x2A0 ∧ off % 0x20 = 4 then licComplete s ((off - 0x200) / 0x20) v
  else tableWrite s p who off v

/-- A write to a SIC page (R362, R363). -/
def sicWrite (s : State) (p : Page) (who : Requester) (off v : Nat) : State :=
  if off = 0x104 then tookOr (sicSwset s p.inst v) p who off
  else if off = 0x108 then sicComplete s p.inst v
  else if 0x200 ≤ off ∧ off < 0x400 then tookOr (sicSrcWrite s p.inst ((off - 0x200) / 4) v) p who off
  else tableWrite s p who off v

/-- A write to a mailbox page (R373, R374). -/
def mbxWrite (s : State) (p : Page) (who : Requester) (off v : Nat) : State :=
  if off = 0x100 then
    match boxCfgWrite s p.inst v with
    | (s, true) => s
    | (s, false) => s.logReq p kindReserved who true off
  else if off = 0x240 then boxSend s p.inst (boxStaged s p.inst) who
  else if off = 0x2C0 then boxPop s p.inst
  else if off = 0x300 then boxDoorbell s p.inst v
  else tableWrite s p who off v

/-- A write to a phase-ledger page or a Loupe log's registers, whose ring takes no change while EN is 1 (R246, R321). -/
def ringWrite (s : State) (p : Page) (who : Requester) (cfg lo hi off v : Nat) : State :=
  let on := bitAt (s.regN p cfg) 31
  if off = cfg then fieldGuarded s p who off v 3 0 (!on)
  else if off = lo ∨ off = hi then guardedWrite s p who off v (!on)
  else tableWrite s p who off v

/-- A write to the step unit's page (R246). -/
def stepWrite (s : State) (p : Page) (who : Requester) (off v : Nat) : State :=
  if off = 0x100 then tookOr (stepCfgWrite s v) p who off
  else if off = 0x114 then tookOr (stepLdataWrite s v) p who off
  else if off = 0x104 ∨ 0x400 ≤ off ∧ off < 0x4A0 then guardedWrite s p who off v (!s.stepOn)
  else tableWrite s p who off v

/-- A write to the PART page (R399, R403, R411, R412). -/
def partWrite (s : State) (p : Page) (who : Requester) (off v : Nat) : State :=
  if off = 0x010 then (if bitAt v 0 then startWarm s 0 else s)
  else if off = 0x110 then partResetWrite s v
  else if off = 0x114 then tookOr (killWrite s v) p who off
  else if partGuarded off && (Block.spec .part off).isSome then tookOr (partConfigWrite s off v) p who off
  else tableWrite s p who off v

/-- What a write to a block's own register does, in core cycle `t` for a CORE page. -/
def blockWrite (s : State) (p : Page) (who : Requester) (off v t : Nat) : State :=
  match p.block with
  | .core => coreWrite s p who off v t
  | .jgl => jglWrite s p who off v
  | .row => rowWrite s p who off v
  | .stk => stkWrite s p who off v
  | .clk => if off = 0x108 then tookOr (dfreqWrite s v) p who off else tableWrite s p who off v
  | .crsModule => crsWrite s p who off v
  | .upd => updWrite s p who off v
  | .lck => ringWrite s p who 0x11C 0x114 0x118 off v
  | .phsLedger => ringWrite s p who 0x100 0x104 0x108 off v
  | .phsStep => stepWrite s p who off v
  | .ope => tableWrite (if off = 0x110 ∨ off = 0x114 then s.keepSeed p.coreId t else s) p who off v
  | .port => portWrite s p who off v
  | .msec => if off = 0x108 then sakCommit s p.inst v else tableWrite s p who off v
  | .tal =>
    if off = 0x114 then tookOr (cstateRelease s v) p who off
    else if off = 0x11C then guardedWrite s p who off v (decide (s.stage347 < stMgmt))
    else tableWrite s p who off v
  | .lic => licWrite s p who off v
  | .sic => sicWrite s p who off v
  | .mbx => mbxWrite s p who off v
  | .sec => if off = 0x100 then { s with flash.admin := v % 4 } else tableWrite s p who off v
  | .edge =>
    if off = 0x010 then
      let s := s.setRegN p 0x010 (v % 2)
      if bitAt v 1 then (startRemoval s 2).1 else s
    else tableWrite s p who off v
  | .pwr => if off = 0x11C then sleepWrite s v else tableWrite s p who off v
  | .ldg =>
    if off = 0x010 then (if bitAt v 0 then flushLedger s else s)
    else if off = 0x108 then qidxWrite s v
    else tableWrite s p who off v
  | .part => partWrite s p who off v
  | _ => tableWrite s p who off v

/-- A write of OWNER by a secure requester (R393). -/
def ownerTake (s : State) (p : Page) (who : Requester) (v : Nat) : State :=
  if bitAt (s.owner p) 30 then s.logReq p kindOwnership who true 0x040
  else s.setRegN p 0x040 (field v 31 30 * 2 ^ 30 + field v 3 0)

/-- A write of a register of a page by a requester that the page admits, in core cycle `t` for a CORE page. -/
def pageWrite (s : State) (p : Page) (who : Requester) (off v t : Nat) : State :=
  let mask := BitVec.ofNat 32 (2 ^ p.block.istBits - 1)
  let w := BitVec.ofNat 32 v
  if off = 0x018 then s.setReg p off (s.reg p off &&& ~~~w)
  else if off = 0x01C then s.setReg p off (w &&& mask)
  else if off = 0x020 then s.setReg p 0x018 (s.reg p 0x018 ||| (w &&& mask))
  else if off = 0x024 then { s with logs := SMap.set s.logs p.base { s.log p with readSeq := v % 2 ^ 16 } }
  else if off = 0x030 then cntSelWrite s p who v
  else if off = 0x040 then ownerTake s p who v
  else if off = 0x000 ∨ off = 0x004 ∨ off = 0x008 ∨ off = 0x028 ∨ off = 0x02C ∨ off = 0x034 ∨ off = 0x038 then s
  else if (off = 0x010 ∨ off = 0x014) ∧ (p.block.spec off).isNone then s
  else if off < 0x100 ∧ off ≠ 0x010 ∧ off ≠ 0x014 then s.logReq p kindReserved who true off
  else if isDebug p off && !debugOpen s p.coreId who then s.logReq p kindDebug who true off
  else blockWrite s p who off v t

/-! ### Access -/

/-- The privilege bit that a Periscope access needs (R429): 0 for debug registers, 1 for halting, resuming and stopping
contexts, 2 for other writes; other reads need none (DEDUCED, log entry 30). -/
def periscopeNeeds (p : Page) (write : Bool) (off v : Nat) : Option Nat :=
  if isDebug p off then some 0
  else if !write then none
  else if p.block = .core ∧ ((0x100 ≤ off ∧ off < 0x1C0 ∧ (off - 0x100) % 0x40 = 0) ∨ (off = 0x010 ∧ bitAt v 4)) then some 1
  else some 2

/-- What a Periscope access needs is granted by the session's privilege mask (R430). -/
def maskAdmits (s : State) (p : Page) (write : Bool) (off v : Nat) : Bool :=
  match s.sec.session, periscopeNeeds p write off v with
  | some k, some n => bitAt k.mask n
  | some _, none => true
  | none, _ => false

/-- A frame of the Periscope session arrives (R430). -/
def touchSession (s : State) : State :=
  { s with sec.session := s.sec.session.map (fun k => { k with last := s.tick }) }

/-- The checks that every access to a register meets (R337, R378, R393, R394, R430): the page, or the answer that ends it. -/
def busCheck (s : State) (off : Nat) (who : Requester) (write : Bool) (v : Nat) : State × Except BusAns Page :=
  let o := off % 0x1000
  match pageAt off with
  | none => (s, .error .absent)
  | some p =>
    if who == .periscope && s.sec.session.isNone then (s, .error .absent)
    else
      let s := if who == .periscope then touchSession s else s
      if !s.domainUp p.domain then (s.bump clkPage 3, .error .down)
      else if !s.admits p who || (write && o == 0x040 && !secure who) || (who == .periscope && !maskAdmits s p write o v) then
        (s.logReq p kindOwnership who write o, .error .denied)
      else (s, .ok p)

/-- A read of the register at a window offset. -/
def busRead (s : State) (off : Nat) (who : Requester) : State × BusAns :=
  match busCheck s off who false 0 with
  | (s, .error a) => (s, a)
  | (s, .ok p) => pageRead s p who (off % 0x1000 / 4 * 4)

/-- A write of the register at a window offset, in core cycle `t` where the page is a core's. -/
def busWriteAt (s : State) (off : Nat) (who : Requester) (v t : Nat) : State × BusAns :=
  match busCheck s off who true v with
  | (s, .error a) => (s, a)
  | (s, .ok p) => (pageWrite s p who (off % 0x1000 / 4 * 4) (v % 2 ^ 32) t, .value 0)

/-- The core cycle in which a write to a page takes effect where its requester names none: the one that the core has reached. -/
def cycleAt (s : State) (off : Nat) : Nat :=
  match pageAt off with
  | some p => (s.core p.coreId).now
  | none => 0

/-- A write of the register at a window offset. -/
def busWrite (s : State) (off : Nat) (who : Requester) (v : Nat) : State × BusAns := busWriteAt s off who v (cycleAt s off)

/-- A write of a page's register by a command. -/
def writeReg (s : State) (p : Page) (off : Nat) (who : Requester) (v : Word) : State := (busWrite s (p.key off) who v.toNat).1

/-- A read of a page's register by a command. -/
def readReg (s : State) (p : Page) (off : Nat) (who : Requester) : State := (busRead s (p.key off) who).1

end Sys2Proof.Machine
end

