-- ==== Sys2Proof/Machine/Issue.lean ====
section
/-! DEFINITION. The issue of long words: halt causes at issue, what each operation reads, does and commits, the next word of a
stream, and the responses to JG.LD (R83, R90-R129, R147-R149, R229-R230, R242, R311-R313). -/

namespace Sys2Proof.Machine

/-! ### Operands -/

/-- The issuing stream. -/
def issuingStream (u : Issue) (s : State) : Stream := ((s.core u.id).ctx u.ctx).stream u.access

/-- Address that an operation forms in its core's store: base register plus offset (R115). -/
def localAddr (s : State) (u : Issue) (op : SlotOp) : Nat :=
  let base := match op.name with
    | .vld | .vst => field op.raw 16 13
    | _ => field op.raw 19 16
  ((issuingStream u s).ireg base).toNat + field op.raw 63 32

/-- Device address of a JG.LD or JG.ST (R148). -/
def deviceAddr (s : State) (u : Issue) (raw : Nat) : Nat :=
  let st := issuingStream u s
  let base : Nat := (st.ireg (field raw 17 14)).toNat % 2 ^ 16 * 2 ^ 32 + (st.ireg (field raw 13 10)).toNat
  wrapTo 48 ((base : Int) + signedOf 32 (field raw 63 32))

/-- Window offset of an SREGWR (R127). -/
def sregwrOff (s : State) (u : Issue) (op : SlotOp) : Nat := localAddr s u op % 2 ^ 24

/-- Registers and store bytes that an operation reads (R93, R94). -/
def resRead (s : State) (u : Issue) (op : SlotOp) : List Res :=
  (regsRead op).eraseDups ++ (match op.name with
    | .vld => [.mem (localAddr s u op % storeSize (kindOf u.id)) 2048]
    | .sld => [.mem (localAddr s u op % storeSize (kindOf u.id)) 8]
    | _ => [])

/-- How many early reads an operation makes: sources whose pending write by the same stream has not committed (R93). A source that several
pending writes meet, or that an operation names twice, is one early read (DESIGN CHOICE, log entry 81). -/
def earlyReads (s : State) (u : Issue) (op : SlotOp) : Nat :=
  let c := s.core u.id
  let mine := c.pend.filter (fun p => p.ctx == u.ctx && p.access == u.access)
  ((resRead s u op).filter (fun r => mine.any (fun p =>
    match p.what.target with | some tgt => Res.meets (storeSize (kindOf u.id)) r tgt | none => false))).length

/-- Does a load from the local store take poison (R101)? -/
def loadPoison (s : State) (u : Issue) (op : SlotOp) : Bool :=
  let size := storeSize (kindOf u.id)
  let n := match op.name with | .vld => 2048 | .sld => 8 | _ => 0
  let a := localAddr s u op % size
  n != 0 && (List.range (n / 128 + 2)).any (fun i =>
    decide (128 * i < n + a % 128) && (s.coreAt u.id u.cycle).marks.contains ((a / 128 + i) % (size / 128)))

/-- The context that holds a core's engine (R77). -/
def holderOf (s : State) (id : CoreId) : Ctx := if id.core.val < 2 then (s.ope id).holder else (s.core id).holder

/-! ### Halt causes at issue (R99, R129) -/

/-- Causes that an operation raises from the core's state. -/
def opCauses (s : State) (u : Issue) (w : LongWord) (op : SlotOp) : List (Nat × Nat) :=
  let word := (issuingStream u s).pc
  let st := issuingStream u s
  let x := u.ctx
  let one (b : Bool) (c : Nat) : List (Nat × Nat) := if b then [(c, op.slot)] else []
  let engine := one (holderOf s u.id != x) causeConflict
  let align (n : Nat) : List (Nat × Nat) := one (localAddr s u op % n != 0) causeAlignment
  let audit := one (auditOn s u.id && earlyReads s u op != 0) causeAudit
  let sweep := w.slots.find? (fun o => o.name == .mxSweep)
  audit ++ (match op.name with
    | .mxSweep => sweepCauses s u.id x op.raw u.cycle word
    | .mxDrain => drainCauses s u.id x op.raw u.cycle (sweep.map (fun o => newSweep s u.id x o.raw u.cycle word))
    | .qpushi | .vqpush | .sqpush =>
      one (match pushOf op with | some q => (((s.core u.id).ctx x).queue q).ext | none => false) causeConflict
    | .replayRun => one (st.active.isSome || !st.validRange (field op.raw 11 6)) causeReserved
    | .vld => align 64 ++ one (loadPoison s u op) causePoison
    | .vst => align 64
    | .sld => align 8 ++ one (loadPoison s u op) causePoison
    | .sst => align 8
    | .sregwr => align 4
    | .jgBase | .jgLoop | .jgDest | .jgRun | .jgSwap | .jgStop | .jgLd | .jgSt => jgCauses s u.id x op
    | _ => if u.access || op.slot < 4 || 5 < op.slot then [] else engine)

/-- The layer whose take point a word is, for the present attempt (R311): MARK.END outside a replay, REPLAY.END of the active
repeat range. -/
def takePoint (st : Stream) (w : LongWord) : Option Nat :=
  match w.slots.find? (fun o => o.name == .markEnd || o.name == .replayEnd) with
  | none => none
  | some op =>
    match st.active, st.repeating, op.name with
    | none, _, .markEnd => some (field op.raw 31 16)
    | some (r, _), some l, .replayEnd => if field op.raw 11 6 = r then some l else none
    | _, _, _ => none

/-- Every cause of a word but BREAKPOINT. -/
def wordCauses (s : State) (u : Issue) : List (Nat × Nat) :=
  let w := nextWord s u.id u.ctx u.access
  let k := (s.core u.id).ctx u.ctx
  w.causes ++ w.slots.flatMap (opCauses s u w) ++
    (match takePoint (k.stream u.access) w with
     | some l => if repeatRefused s u.id.cluster.val k u.access l then [(causeReplayLimit, 0)] else []
     | none => [])

/-- Does a word hold BRK? -/
def hasBrk (w : LongWord) : Bool := w.slots.any (fun o => o.name == .brk)

/-- The cause that a word which could issue now would be halted by (R99). -/
def issueCause (s : State) (u : Issue) : Option (Nat × Nat) :=
  if issuable s u.id u.ctx u.access u.cycle then
    firstCause (wordCauses s u ++ (if hasBrk (nextWord s u.id u.ctx u.access) then [(causeBreakpoint, 0)] else []))
  else none

/-! ### Effects of operations -/

/-- Keep a result until the cycle at whose end it commits (R90). -/
def addPend (s : State) (u : Issue) (op : SlotOp) (word L : Nat) (e : Effect) : State :=
  s.modCore u.id (fun c => { c with pend := c.pend ++ [⟨u.cycle + L - 1, u.cycle, u.ctx, u.access, op.slot, word, e⟩] })

/-- Reserve a slot of a queue for an entry that commits at the end of the issue cycle (R83). -/
def pushLocal (s : State) (u : Issue) (op : SlotOp) (word q : Nat) (data : Entry) : State :=
  let s := s.modCore u.id (fun c => c.modCtx u.ctx (fun k =>
    k.setQueue q { k.queue q with reserved := (k.queue q).reserved + 1 }))
  addPend s u op word 1 (.push q data)

/-- A context hands its engine over: the holder changes and the grant flag of the named context rises by 1, at the end of the
cycle (R28, R77, R121). -/
def passEngine (s : State) (u : Issue) (op : SlotOp) (word code : Nat) : State :=
  let y := Ctx.ofIdx code
  let s := s.modCore u.id (fun c => c.writeFlag y 255 u.cycle (b2n u.access) true 1)
  addPend s u op word 1 (.holder y)

/-- CTL operations but for the next word that they choose (R116-R119, R242, R238, R311). -/
def ctlEffect (s : State) (u : Issue) (op : SlotOp) (word : Nat) : State :=
  let raw := op.raw
  let st := issuingStream u s
  let l := field raw 31 16
  let r := field raw 11 6
  let setStream (f : Stream → Stream) (s : State) (x : Ctx) : State :=
    s.modCore u.id (fun c => c.modCtx x (fun k => k.setStream u.access (f (k.stream u.access))))
  let record (f : Stream → Stream) : State :=
    let s := setStream f s u.ctx
    if u.ctx = .f ∧ 32 ≤ r then setStream f s .b else s
  match op.name with
  | .end_ =>
    let s := setStream (fun st => { st with ended := true }) s u.ctx
    if u.access then stopWaiting s u.id u.ctx else s
  | .loop => addPend s u op word 1 (.ireg (field raw 9 6) (st.ireg (field raw 9 6) - 1))
  | .markStart =>
    let replaying := st.active.isSome
    let s := openPhase s u.id u.ctx u.access replaying l u.cycle
    let s := if replaying then s else s.modCore u.id (fun c => c.modCtx u.ctx (fun k =>
      let k := k.setStream u.access { k.stream u.access with passed := NSet.erase (k.stream u.access).passed l }
      if l ≠ k.layer then { k with repeats := 0 } else k))
    addPend s u op word 1 (.layer l)
  | .markEnd =>
    let replaying := st.active.isSome
    let s := endPhase s u.id u.ctx u.access replaying l u.cycle
    if u.ctx = .b ∧ !replaying ∧ !u.access then releaseEvent s l else s
  | .replayBegin => record (fun st => { st with replay := SMap.set st.replay r (word, none) })
  | .replayEnd => record (fun st => match SMap.get st.replay r with
      | some (a, _) => { st with replay := SMap.set st.replay r (a, some word) }
      | none => st)
  | .replayRun => replayStarts s u.id u.ctx r
  | _ => s

/-- QF and AD operations (R86, R114, R120). -/
def qfEffect (s0 s : State) (u : Issue) (op : SlotOp) (word : Nat) : State :=
  let raw := op.raw
  let st := issuingStream u s0
  let q := field raw 10 8
  let head := (((s0.core u.id).ctx u.ctx).queue q).head
  let i (hi lo : Nat) : Word := st.ireg (field raw hi lo)
  let imm := BitVec.ofNat 32 (field raw 63 32)
  let put (v : Word) : State := addPend s u op word 1 (.ireg (field raw 9 6) v)
  match op.name with
  | .fset | .fadd =>
    let y := Ctx.ofIdx (field raw 7 6)
    s.modCore u.id (fun c => c.writeFlag y (field raw 15 8) u.cycle (b2n u.access) (op.name == .fadd) (field raw 47 24))
  | .qpopi =>
    addPend s u op word 1 (.ireg (field raw 19 16) (BitVec.ofNat 32 (head.toNat / 2 ^ (32 * field raw 14 11))))
  | .qpushi =>
    pushLocal s u op word q (BitVec.ofNat 512
      ((i 19 16).toNat + 2 ^ 32 * (i 23 20).toNat + 2 ^ 64 * field raw 47 24))
  | .imovi => put imm
  | .iadd => put (i 13 10 + i 17 14)
  | .iaddi => put (i 13 10 + imm)
  | .isub => put (i 13 10 - i 17 14)
  | .ishli => put (i 13 10 <<< field raw 22 18)
  | .iand => put (i 13 10 &&& i 17 14)
  | _ => s

/-- The result of a VA or VX operation (R156-R161). -/
def vecResult (k : Context) (op : SlotOp) : VRes :=
  let raw := op.raw
  let ty := field raw 7 6
  let m := (k.mreg (field raw 30 28)).toNat
  let a := (k.vreg (field raw 17 13)).toNat
  let b := (k.vreg (field raw 22 18)).toNat
  let c := (k.vreg (field raw 27 23)).toNat
  match op.name with
  | .vadd => vecAdd ty m a b
  | .vsub => vecSub ty m a b
  | .vmul => vecMul ty m a b
  | .vfma => vecFma ty m a b c
  | .vrcp => vecRcp ty m a
  | .vrsq => vecRsq ty m a
  | .vexp2 => vecExp2 ty m a
  | .vlog2 => vecLog2 ty m a
  | .vcvt => vecCvt ty (field raw 33 32) (field raw 36 35) (if bitAt raw 34 then .toZero else .nearest) m a
  | .vrsum => vecRsum ty m a
  | .vmax => vecMax ty m a b
  | .vmin => vecMin ty m a b
  | .vabs => vecAbs ty m a
  | .vneg => vecNeg ty m a
  | .vcmp => vecCmp ty (field raw 34 32) m a b
  | .vsel => vecSel ty m a b
  | .vmov => vecMov ty m a
  | _ => vecBcst ty m (field raw 63 32)

/-- The conditions that a vector operation raises set their sticky bits; the operation counts once (R162, R182). -/
def raiseExc (s : State) (id : CoreId) (cond : Nat) : State :=
  let p := vecPage id
  if cond = 0 then s
  else
    let s := s.bump p 5
    let old := s.regN p 0x104
    if old ||| cond = old then s else (s.setRegN p 0x104 (old ||| cond)).raise p 0

/-- VA, VX and VL operations (R153-R164, R126). -/
def vecEffect (s0 s : State) (u : Issue) (op : SlotOp) (word : Nat) : State :=
  let raw := op.raw
  let k := (s0.core u.id).ctx u.ctx
  let L := latencyOf op.name raw
  let p := vecPage u.id
  let size := storeSize .vector
  let v := field raw 12 8
  let seg := 512 * field raw 24 20
  let s := s.bump p (op.slot - 4)
  let s := if op.slot = 4 then s.countCycles p 3 1 else s
  match op.name with
  | .vpass => passEngine s u op word (field raw 33 32)
  | .vld => addPend s u op word L (.vreg v (Mem.readMod (s0.coreAt u.id u.cycle).store size (localAddr s0 u op) 2048) (ones 0 16384))
  | .vst => addPend s u op word L (.store (localAddr s0 u op % size) 2048 (k.vreg v).toNat)
  | .vqpop => addPend s u op word L (.vreg v ((k.queue (field raw 19 17)).head.toNat * 2 ^ seg) (ones seg 512))
  | .vqpush => pushLocal s u op word (field raw 19 17) (BitVec.ofNat 512 ((k.vreg v).toNat / 2 ^ seg))
  | .vcmp =>
    let r := vecResult k op
    addPend s u op word L (.mreg v r.val r.keep)
  | _ =>
    let r := vecResult k op
    addPend (raiseExc s u.id r.cond) u op word L (.vreg v r.val r.keep)

/-! ### Accesses of one core to register pages, in issue order (R384) -/

/-- Is a load one of a register whose page has not been read yet? -/
def LoadWait.unread (l : LoadWait) : Bool := (match spotOf l.addr with | .register _ => true | _ => false) && l.got.isNone

/-- The oldest unread register load of a core: of one cycle F's first. -/
def nextLoad (c : Core) : Option (Ctx × LoadWait) :=
  allCtx.foldl (fun (best : Option (Ctx × LoadWait)) x =>
    match ((c.ctx x).acc.loads.find? (·.unread)), best with
    | some l, some (y, m) => if l.issued < m.issued then some (x, l) else some (y, m)
    | some l, none => some (x, l)
    | none, best => best) none

/-- A register load reads its page: what the page answers is kept for the response. -/
def readLoad (s : State) (id : CoreId) (x : Ctx) (l : LoadWait) : State :=
  let off := match spotOf l.addr with | .register off => off | _ => 0
  let (s, a) := busRead s off (.jg id)
  let ans : LoadAns := match a with
    | .value v => .data v
    | .poison => .poison
    | .denied => .denied
    | _ => .error
  let rec put : List LoadWait → List LoadWait
    | [] => []
    | h :: r => if h.unread then { h with got := some ans } :: r else h :: put r
  s.modCore id (fun c => c.modCtx x (fun k => { k with acc := { k.acc with loads := put k.acc.loads } }))

/-- Register loads of a core read their pages, oldest first, at most `fuel` of them, until the core answers `stop`. -/
def readLoads (stop : Core → Bool) (s : State) (id : CoreId) : Nat → State
  | 0 => s
  | fuel + 1 =>
    if stop (s.core id) then s
    else match nextLoad (s.core id) with
      | none => s
      | some (x, l) => readLoads stop (readLoad s id x l) id fuel

/-- Every register load that a core has issued reads its page before an access issued later does (R384). -/
def earlierLoads (s : State) (id : CoreId) : State := readLoads (fun _ => false) s id 6

/-- An SREGWR reaches its page, or its refusal is recorded (R166). -/
def sregwrEffect (s : State) (u : Issue) (off : Nat) (v : Nat) : State :=
  let p := sclPage u.id
  let who := Requester.sregwr u.id.cluster u.ctx
  match busWrite ((earlierLoads s u.id).bump p 2) off who v with
  | (s, .value _) => s
  | (s, _) =>
    (((s.record p 0x104 (u.ctx.idx * 2 ^ 28 + off)).raise p 0).bump p 3).logReq p kindEvent who true 0x104

/-- SA0, SA1 and SM operations (R127, R164-R166). -/
def scalarEffect (s0 s : State) (u : Issue) (op : SlotOp) (word : Nat) : State :=
  let raw := op.raw
  let k := (s0.core u.id).ctx u.ctx
  let L := latencyOf op.name raw
  let p := sclPage u.id
  let size := storeSize .scalar
  let a := k.sreg (field raw 15 11)
  let d := field raw 10 6
  let s := s.bump p (if op.slot = 6 then 1 else 0)
  match op.name with
  | .spass => passEngine s u op word (field raw 33 32)
  | .stoi => addPend s u op word L (.ireg (field raw 24 21) (a.truncate 32))
  | .itos => addPend s u op word L (.sreg d ((k.exe.ireg (field raw 24 21)).zeroExtend 64))
  | .sld => addPend s u op word L (.sreg d (BitVec.ofNat 64 (Mem.readMod (s0.coreAt u.id u.cycle).store size (localAddr s0 u op) 8)))
  | .sst => addPend s u op word L (.store (localAddr s0 u op % size) 8 (k.sreg d).toNat)
  | .sqpop =>
    addPend s u op word L (.sreg d (BitVec.ofNat 64 ((k.queue (field raw 22 20)).head.toNat / 2 ^ (64 * field raw 25 23))))
  | .sqpush => pushLocal s u op word (field raw 22 20) (BitVec.ofNat 512 ((k.sreg d).toNat + 2 ^ 64 * a.toNat))
  | .sregwr => sregwrEffect s u (sregwrOff s0 u op) (k.sreg d).toNat
  | _ => addPend s u op word L (.sreg d (scalarAlu op.name a (k.sreg (field raw 20 16)) (field raw 63 32)))

/-- A posted store of JG.ST (R148, R188, R198, R204, R230, R394): a register, an alias window, memory; refused stores are
discarded. -/
def jgStore (s : State) (u : Issue) (a v : Nat) : State :=
  let who := Requester.jg u.id
  let part := s.unitPart u.id.cluster.val
  match spotOf a with
  | .register off =>
    match busWrite (earlierLoads s u.id) off who v with
    | (s, .down) => postedDown s (((pageAt off).map Page.domain).getD 0)
    | (s, _) => s
  | .system _ => logSystem s who true a
  | .alias_ fmt off =>
    if s.tileInPart part (off / 0x8000) then
      storeAtomic s ⟨who, fmt, off, 4, Mem.write [] 0 4 v, []⟩
    else s
  | .tile t _ _ =>
    if recomputing u.ctx (issuingStream u s) && (stashOf t).isSome then suppressed s u.id
    else postedWrite s part u.id.cluster.val (.jgSt (coreIdx u.id) u.ctx) a 4 v
  | .none => s

/-- Juggler operations (R130, R144-R150). -/
def jgEffect (s0 s : State) (u : Issue) (op : SlotOp) (word gap : Nat) : State :=
  let raw := op.raw
  match op.name with
  | .jgBase => jgBase s0 s u.id u.ctx raw
  | .jgLoop => jgLoop s u.id raw
  | .jgDest => jgDest s u.id raw
  | .jgRun =>
    let s := jgRun s0 s u.id u.ctx raw word op.slot
    let n := field raw 11 6
    s.setSc u.id n { (s.core u.id).sc n with recompute := recomputing u.ctx (issuingStream u s0) }
  | .jgSwap => jgSwap s0 s u.id raw word op.slot (recomputing u.ctx (issuingStream u s0))
  | .jgStop => stopSc s0 s u.id (field raw 11 6)
  | .jgLd =>
    let l : LoadWait := { reg := field raw 9 6, addr := deviceAddr s0 u raw, word := word, slot := op.slot, gap := gap, issued := u.cycle }
    s.modCore u.id (fun c => c.modCtx u.ctx (fun k => { k with acc := { k.acc with loads := k.acc.loads ++ [l] } }))
  | .jgSt => jgStore s u (deviceAddr s0 u raw) ((issuingStream u s0).ireg (field raw 9 6)).toNat
  | .jgMove => jgMove s u.id u.ctx raw
  | _ => s

/-- One operation of a word: what it reads it reads from the state before the word (R113). -/
def opEffect (s0 : State) (u : Issue) (word gap : Nat) (s : State) (op : SlotOp) : State :=
  let k := kindOf u.id
  if op.slot = 0 then ctlEffect s u op word
  else if op.slot ≤ 3 then qfEffect s0 s u op word
  else if 7 ≤ op.slot then jgEffect s0 s u op word gap
  else match k with
    | .matrix =>
      match op.name with
      | .mxSweep => sweepIssue s u.id u.ctx op.raw u.cycle word
      | .mxCoord => issueCoord s u.id op.raw
      | .mxDrain => drainIssue s u.id u.ctx op.raw u.cycle word
      | _ => (passEngine s u op word (field op.raw 7 6)).bump (opePage u.id) 5
    | .vector => vecEffect s0 s u op word
    | .scalar => scalarEffect s0 s u op word

/-! ### The next word -/

/-- Where a stream goes after a word, with its replay state (R116, R119, R311, R312): `taken` says that the word takes a layer
repeat. -/
def nextStream (st : Stream) (w : LongWord) (after : Nat) (repeat_ : Option Nat) : Stream :=
  let first (r : Nat) : Nat := match SMap.get st.replay r with | some (a, _) => a | none => 0
  let go (st : Stream) (pc : Nat) : Stream := { st with pc := pc }
  let ret := match st.active with | some (_, b) => b | none => after
  match repeat_ with
  | some r => go { st with active := some (r, ret) } (first r)
  | none =>
    match w.slots.find? (fun o => decide (o.slot = 0)) with
    | none => go st after
    | some op =>
      let target := field op.raw 31 16
      let i := st.ireg (field op.raw 9 6)
      match op.name with
      | .br => go st target
      | .bz => go st (if i = 0 then target else after)
      | .bnz => go st (if i = 0 then after else target)
      | .loop => go st (if i = 1 then after else target)
      | .replayRun => go { st with active := some (field op.raw 11 6, after) } (first (field op.raw 11 6))
      | .replayEnd =>
        match st.active with
        | some (r, b) => if field op.raw 11 6 = r then go { st with active := none } b else go st after
        | none => go st after
      | _ => go st after

/-- Pop each queue that a word names once (R83). -/
def popQueues (s : State) (u : Issue) (w : LongWord) : State :=
  let qs := (w.slots.filterMap popOf).eraseDups
  s.modCore u.id (fun c => c.modCtx u.ctx (fun k =>
    qs.foldl (fun k q => k.setQueue q ((k.queue q).pop u.cycle)) k))

/-- The slots of a word in the order in which their effects are put together: the drain before the sweep beside it, whose
CLEAR it does not see (R113, R124). -/
def slotOrder (w : LongWord) : List SlotOp :=
  w.slots.filter (fun o => o.name == .mxDrain) ++ w.slots.filter (fun o => o.name != .mxDrain)

/-- Early reads of a word are recorded while audit is off (R93). -/
def recordEarly (s0 s : State) (u : Issue) (w : LongWord) (word : Nat) : State :=
  if auditOn s0 u.id then s
  else
    let n := (w.slots.map (earlyReads s0 u)).foldl (· + ·) 0
    (List.range n).foldl (fun s _ => coreHazard s u.id 0 u.ctx u.access word) s

/-- Does a word start or continue a tile run, whose requests go out in the next cycle (R136)? -/
def startsTiles (w : LongWord) : Bool := w.slots.any (fun o => o.name == .jgRun || o.name == .jgSwap)

/-- A word issues: every slot takes effect, the stream moves on (R108, R113). -/
def performWord (s : State) (u : Issue) : State :=
  let w := nextWord s u.id u.ctx u.access
  let st := issuingStream u s
  let word := st.pc
  let after := (word + 4 * w.parcels) % 65536
  let s1 := recordEarly s s u w word
  let s1 := popQueues s1 u w
  let s1 := (slotOrder w).foldl (opEffect s u word w.gap) s1
  let s1 := if startsTiles w then sendAll s1 u.id (u.cycle + 1) else s1
  let point := takePoint st w
  let repeat_ := match point with | some l => st.repeatAt l | none => none
  let s2 := match point, repeat_ with
    | some l, some r => replayStarts (repeatTaken s1 u.id u.ctx u.access l) u.id u.ctx r
    | some l, none => s1.modCore u.id (fun c => c.modCtx u.ctx (fun k => k.setStream u.access ((k.stream u.access).pass l)))
    | none, _ => s1
  let go := nextStream st w after repeat_
  let s2 := s2.modCore u.id (fun c =>
    let c := c.modCtx u.ctx (fun k => k.setStream u.access
      { k.stream u.access with pc := go.pc, active := go.active, readyAt := u.cycle + 1 + w.gap })
    { c with lastIssue := max c.lastIssue (u.cycle + 1) })
  s2.bump (corePage u.id) (b2n u.access)

/-- A halt cause is taken at issue (R99-R101): the word is suppressed, or, for BREAKPOINT alone, issues. -/
def haltAtIssue (s : State) (u : Issue) (cause slot : Nat) : State :=
  let word := (issuingStream u s).pc
  if (wordCauses s u).isEmpty then
    let s := performWord s u
    haltCtx s u.id u.ctx causeBreakpoint u.access (issuingStream u s).pc 0
  else
    let w := nextWord s u.id u.ctx u.access
    let s := if cause = causeReplayLimit then
        match takePoint (issuingStream u s) w with
        | some l => repeatLimit s u.id u.ctx l
        | none => s
      else s
    takeCause s u.id u.ctx cause u.access word slot

/-- The streams of the other contexts of a core whose word in this cycle halts the whole core. -/
def coreCause (s : State) (u : Issue) : Option (Issue × Nat × Nat) :=
  (allCtx.flatMap (fun y => [(⟨u.id, y, false, u.cycle⟩ : Issue), ⟨u.id, y, true, u.cycle⟩])).findSome? (fun v =>
    match issueCause s v with
    | some (c, n) => if v.ctx != u.ctx && coreScope c then some (v, c, n) else none
    | none => none)

/-- A stream's next word issues in a cycle, or its context halts (R98, R99): the causes of both streams of the context are
weighed before either issues, the execute stream's first; a cause of another context that halts the core comes first. The other stream's
word of that cycle counts as one further cause, and the further causes of the recorded word's own slots as none (DESIGN CHOICE, log
entry 81). -/
def issueNow (s : State) (u : Issue) : State :=
  let e : Issue := { u with access := false }
  let a : Issue := { u with access := true }
  match coreCause s u with
  | some (v, c, n) => haltAtIssue s v c n
  | none =>
    match issueCause s e, issueCause s a with
    | some (c, n), none => haltAtIssue s e c n
    | some (c, n), some _ => (haltAtIssue s e c n).bump (corePage u.id) 6
    | none, some (c, n) => haltAtIssue s a c n
    | none, none => performWord s u

/-- The issue of a stream's next word in a core cycle: nothing happens unless the word can issue then (R83, R108), no stage-1
read of the cycle takes poison (R101) and everything due in earlier cycles is done. -/
def issueWord (s : State) (u : Issue) : State :=
  if issuable s u.id u.ctx u.access u.cycle && (poisonedRead s u.id u.cycle).isNone then
    inCycle s u.id u.cycle (fun s => issueNow s u)
  else s

/-- The issue of a stream's next word, if it is one that a test accepts. -/
def issueIf (s : State) (u : Issue) (ok : LongWord → Bool) : State :=
  if ok (nextWord s u.id u.ctx u.access) then issueWord s u else s

/-- Does a word hold an operation? -/
def hasOp (n : OpName) (w : LongWord) : Bool := w.slots.any (fun o => o.name == n)

/-- Does a word hold an undefined opcode or a bad header (R107, R112)? -/
def isIllegal (w : LongWord) : Bool := w.causes.any (fun c => c.1 == causeIllegal)

/-- Has a word no slot, and a header that a stream can decode (R109)? -/
def isEmptyWord (w : LongWord) : Bool := w.slots.isEmpty && !w.absent && !isIllegal w

/-- JG.STOP of a stream context through a Periscope session whose mask lets it stop contexts (R145, R429). -/
def sessionStop (s : State) (id : CoreId) (n t : Nat) : State :=
  match s.sec.session with
  | some k =>
    let s := touchSession s
    if bitAt k.mask 1 then inCycle s id t (fun s => stopSc s s id n) else s
  | none => s

/-! ### Responses to JG.LD (R149) -/

/-- The answer to a JG.LD that is not a register read, none while it must wait: the state after it. -/
def loadAnswer (s : State) (id : CoreId) (x : Ctx) (l : LoadWait) : State × Option LoadAns :=
  let who := Requester.jg id
  match spotOf l.addr with
  | .tile t side off =>
    if !s.tileInPart (s.unitPart id.cluster.val) t then (s, some .error)
    else
      let g := agentOf t
      if stashBusy s t then (s, none)
      else if s.saturated g || s.holdsFor t || (s.hasHome t && eMoving (s.entry t)) then
        let s := s.modCore id (fun c => c.modCtx x (fun k =>
          { k with acc := { k.acc with loads := (match k.acc.loads with | h :: r => { h with held := true } :: r | [] => []) } }))
        (arrive s ⟨g, t, .load (coreIdx id) x⟩, none)
      else if !s.hasHome t then (s.accept t, some .error)
      else
        let (s, a) := serveRead (s.accept t) t side off 4
        (s, some a)
  | .system _ => (logSystem s who false l.addr, some .error)
  | _ => (s, some .error)

/-- The head load of a stream is answered: the next one waits, or the stream goes on GAP cycles later (R149). -/
def loadDone (s : State) (id : CoreId) (x : Ctx) (l : LoadWait) (t : Nat) : State :=
  s.modCore id (fun c => c.modCtx x (fun k =>
    let rest := k.acc.loads.drop 1
    { k with acc := { k.acc with loads := rest, readyAt := if rest.isEmpty then t + 1 + l.gap else k.acc.readyAt } }))

/-- A response writes a load's register at the end of cycle `t`. -/
def loadWrite (s : State) (id : CoreId) (x : Ctx) (l : LoadWait) (t v : Nat) : State :=
  s.modCore id (fun c => { c with pend := c.pend ++ [⟨t, t, x, true, l.slot, l.word, .ireg l.reg (BitVec.ofNat 32 v)⟩] })

/-- An error response to a JG.LD (R149). -/
def loadError (s : State) (id : CoreId) (x : Ctx) (l : LoadWait) (t : Nat) : State :=
  let p := jglPage id
  let s := if bitAt (s.regN p 0x018) 2 then s
    else (s.setRegN p 0x110 (l.addr % 2 ^ 32)).setRegN p 0x114 (l.addr / 2 ^ 32)
  let s := ((s.raise p 2).bump p 9).logReq p kindEvent (.jg id) false 0x110
  loadWrite s id x l t (2 ^ 32 - 1)

/-- What a response does to the stream that awaits it: a refusal halts the context when it returns (R394). -/
def takeAnswer (s : State) (id : CoreId) (x : Ctx) (l : LoadWait) (t : Nat) (a : LoadAns) : State :=
  match a with
  | .data v => loadDone (loadWrite s id x l t v) id x l t
  | .error => loadDone (loadError s id x l t) id x l t
  | .poison => haltCore (loadDone s id x l t) id (some x) causePoison true l.word l.slot
  | .denied => haltCtx (loadDone s id x l t) id x causePrivilege true l.word l.slot

/-- The response to a register read by JG.LD: the page is read now unless a later access of the core had to wait for it (R384, R394). -/
def loadRegister (s : State) (id : CoreId) (x : Ctx) (l : LoadWait) (t : Nat) : State :=
  let head (c : Core) : Option LoadAns := match (c.ctx x).acc.loads with | h :: _ => h.got | [] => none
  let s := readLoads (fun c => (head c).isSome) s id 6
  match head (s.core id) with
  | some a => takeAnswer s id x l t a
  | none => s

/-- JG_LD_RESPONSE: the response to the oldest JG.LD of a context's access stream comes in cycle `t` (R149). A held load is
answered once its agent has served it. -/
def jgLdResponse (s : State) (id : CoreId) (x : Ctx) (t : Nat) : State :=
  match ((s.core id).ctx x).acc.loads with
  | [] => s
  | l :: _ =>
    if t + l.gap < ((s.core id).ctx x).acc.readyAt then s
    else inCycle s id t (fun s =>
      match l.got with
      | some a => takeAnswer s id x l t a
      | none =>
        if l.held then s
        else match spotOf l.addr with
          | .register _ => loadRegister s id x l t
          | _ =>
            match loadAnswer s id x l with
            | (s, some a) => takeAnswer s id x l t a
            | (s, none) => s)

end Sys2Proof.Machine
end

