-- ==== Sys2Proof/Machine/TalelReq.lean ====
section
/-! DEFINITION. The requests that Talel contexts bring: registers, memory, atomic additions, mailboxes, and CLOSE (R346, R354,
R355, R372-R375, R395, R426). -/

namespace Sys2Proof.Machine

/-- The requester that a context stands for (R394). -/
def talelOf (s : State) (n : Nat) : Requester := .talel (Fin.ofNat 4 (s.tctx n).part)

/-- Answer a request, if its context is still OPEN. -/
def answerReq (s : State) (n : Nat) (req : Msg) (len data : Nat) : State :=
  if (s.tctx n).st = 1 then respond s n req len data else s

/-- Refuse a request, if its context is still OPEN (R354). -/
def refuseReq (s : State) (n code : Nat) (req : Msg) : State :=
  if (s.tctx n).st = 1 then sendNak s n code req else s

/-- Carry out the request at the head of a context when a test accepts it: one whose epoch has grown old meanwhile is refused
(R409). -/
def withRequest (s : State) (n : Nat) (ok : Msg → Bool) (act : State → Msg → State) : State :=
  match s.popReady n ok with
  | none => s
  | some (m, t) =>
    let code := reqCode t (t.tctx n) m
    if code ≠ 0 then refuseReq t n code m else act t m

/-! ### REG (R355, R395) -/

/-- The checks of R395 on a REG request: its NAK, or its page. -/
def regCheck (s : State) (n : Nat) (m : Msg) : State × Nat :=
  let off := field m.data 31 8
  let last := off % 0x1000 + 4 * field m.data 7 2
  let write := decide (field m.data 1 0 = 1)
  let who := talelOf s n
  match pageAt off with
  | none => (s, 6)
  | some p =>
    if 0x1000 ≤ last then (s, 10)
    else if !s.domainUp p.domain then (s.bump clkPage 3, 8)
    else if !s.admits p who then (s.logReq p kindOwnership who write (off % 0x1000), 7)
    else if write && decide (off % 0x1000 ≤ 0x040) && decide (0x040 ≤ last) then (s.logReq p kindOwnership who write 0x040, 7)
    else (s, 0)

/-- Read `k` registers in increasing offset: their values, register 0 least significant, and whether one came with poison. -/
def regReads (s : State) (who : Requester) (off : Nat) : Nat → State × Nat × Bool
  | 0 => (s, 0, false)
  | k + 1 =>
    let (s, a) := busRead s off who
    let (s, v, bad) := regReads s who (off + 4) k
    match a with
    | .value x => (s, x + 2 ^ 32 * v, bad)
    | _ => (s, 2 ^ 32 * v, true)

/-- Write `k` registers in increasing offset from a number's words. -/
def regWrites (s : State) (who : Requester) (off : Nat) : Nat → Nat → State
  | 0, _ => s
  | k + 1, v => regWrites (busWrite s off who (v % 2 ^ 32)).1 who (off + 4) k (v / 2 ^ 32)

/-- Is a message a REG request with an OP? -/
def isReg (op : Nat) (m : Msg) : Bool := m.cls == 1 && field m.data 1 0 == op

/-- REG_READ: the registers are read in increasing offset and returned (R355, R395). -/
def regRead (s : State) (n : Nat) : State :=
  withRequest s n (isReg 0) (fun s m =>
    let k := field m.data 7 2 + 1
    match regCheck s n m with
    | (s, 0) =>
      match regReads s (talelOf s n) (field m.data 31 8) k with
      | (s, v, false) => answerReq s n m (4 * k) v
      | (s, _, true) => refuseReq s n 11 m
    | (s, code) => refuseReq s n code m)

/-- REG_WRITE: the registers are written in increasing offset; the answer carries no data (R355, R395). -/
def regWrite (s : State) (n : Nat) : State :=
  withRequest s n (isReg 1) (fun s m =>
    match regCheck s n m with
    | (s, 0) => answerReq (regWrites s (talelOf s n) (field m.data 31 8) (field m.data 7 2 + 1) (m.data / 2 ^ 96)) n m 0 0
    | (s, code) => refuseReq s n code m)

/-! ### MEM (R355) -/

/-- Is a message a MEM request with an OP? -/
def isMem (op : Nat) (m : Msg) : Bool := m.cls == 2 && field m.data 1 0 == op

/-- Address of a MEM request. -/
def memAddr (m : Msg) : Nat := field m.data 79 32

/-- LEN of a MEM request. -/
def memLen (m : Msg) : Nat := field m.data 31 16

/-- A MEM request to an address that is not mapped for its context (R354, R401); one to a system window is logged (R188). -/
def unmappedReq (s : State) (n : Nat) (m : Msg) : State :=
  let write := decide (field m.data 1 0 ≠ 0)
  let log (s : State) (a : Nat) : Option State :=
    match spotOf a with | .system p => some (logSystem s (talelOf s n) write p) | _ => none
  let s := match log s (memAddr m) with
    | some s' => s'
    | none => (log s (memAddr m + memLen m - 1)).getD s
  refuseReq s n 6 m

/-- MEM_READ: the bytes are read at their tiles' homes (R193, R355). -/
def talelRead (s : State) (n : Nat) : State :=
  match s.popReady n (isMem 0) with
  | none => s
  | some (m, t) =>
    let code := reqCode t (t.tctx n) m
    if code ≠ 0 then refuseReq t n code m
    else match unitRead t (.talel n) (some (t.tctx n).part) (memAddr m) (memLen m) with
      | (_, none) => s.askFor (.talel n) (some (t.tctx n).part) (memAddr m) (memLen m)
      | (u, some (.data v)) => answerReq u n m (memLen m) v
      | (u, some .poison) => refuseReq u n 11 m
      | (u, some _) => unmappedReq u n m

/-- A MEM write into an alias window: a reduce (R204). -/
def talelReduce (s : State) (n : Nat) (m : Msg) (fmt off : Nat) : State :=
  let part := some (s.tctx n).part
  let last := (off + memLen m - 1) / 0x8000
  if last < dataTileCount && s.tileInPart part (off / 0x8000) && s.tileInPart part last then
    answerReq (storeAtomic s ⟨talelOf s n, fmt, off, memLen m, Mem.write [] 0 (memLen m) (m.data / 2 ^ 96), []⟩) n m 0 0
  else unmappedReq s n m

/-- MEM_WRITE: the bytes are written at their tiles' homes, or added through an alias window (R193, R204, R355). -/
def talelWrite (s : State) (n : Nat) : State :=
  match s.popReady n (isMem 1) with
  | none => s
  | some (m, t) =>
    let code := reqCode t (t.tctx n) m
    if code ≠ 0 then refuseReq t n code m
    else match spotOf (memAddr m) with
      | .alias_ fmt off => talelReduce t n m fmt off
      | _ =>
        let put (s : State) : State × Option Bool :=
          unitWriteDone s (.talel n) (some (t.tctx n).part) (memAddr m) (memLen m) (m.data / 2 ^ 96 % 2 ^ (8 * memLen m))
        match put t with
        | (_, none) => (put s).1
        | (u, some true) => answerReq u n m 0 0
        | (u, some false) => unmappedReq u n m

/-- ATOMIC_FETCH_ADD: one grain is added to and its previous value returned (R204, R205, R355). The atomic is held while its tile moves,
or has its home in a pool and so moves to HBM; the request is answered once it has been applied. -/
def talelFetchAdd (s : State) (n : Nat) : State :=
  match s.popReady n (isMem 2) with
  | none => s
  | some (m, t) =>
    let code := reqCode t (t.tctx n) m
    let len := memLen m
    if code ≠ 0 then refuseReq t n code m
    else match spotOf (memAddr m) with
      | .alias_ fmt off =>
        let tile := off / 0x8000
        let a : Atomic := ⟨talelOf t n, fmt, off, len, Mem.write [] 0 len (m.data / 2 ^ 96), []⟩
        if !t.tileInPart (some (t.tctx n).part) tile then refuseReq t n 6 m
        else if len ≠ grainOf fmt then refuseReq t n 10 m
        else if off % len ≠ 0 then refuseReq (dropAtomic t a) n 10 m
        else
          let ask (s : State) : State :=
            if (servedAt s (.talel n) off len).isSome || pendingAt s (.talel n) off len then s
            else arrive s ⟨agentOf tile, tile, .fetchAdd n a⟩
          match takeOutcome (ask t) (.talel n) off len with
          | none => ask s
          | some (u, .data x) => answerReq u n m len x
          | some (u, .poison) => refuseReq u n 11 m
          | some (u, _) => refuseReq u n 6 m
      | _ => unmappedReq t n m

/-! ### MBX (R355, R372-R375) -/

/-- The checks that an access to a channel meets: a NAK code, 0 for none. -/
def boxCheck (s : State) (who : Requester) (k off : Nat) : State × Nat :=
  if !s.domainUp (mbxPage k).domain then (s.bump clkPage 3, 8)
  else if !s.admits (mbxPage k) who then (s.logReq (mbxPage k) kindOwnership who true off, 7)
  else (s, 0)

/-- Is a message an MBX request of a kind? -/
def isMbx (send : Bool) (m : Msg) : Bool := m.cls == 3 && bitAt m.data 0 == send

/-- A Talel MBX doorbell (R373). -/
def talelDoorbell (s : State) (n : Nat) : State :=
  withRequest s n (isMbx false) (fun s m =>
    let k := field m.data 15 8
    match boxCheck s (talelOf s n) k 0x300 with
    | (s, 0) => answerReq (boxDoorbell s k (field m.data 127 96)) n m 0 0
    | (s, code) => refuseReq s n code m)

/-- A Talel MBX mailbox send (R373). -/
def talelSend (s : State) (n : Nat) : State :=
  withRequest s n (isMbx true) (fun s m =>
    let k := field m.data 15 8
    match boxCheck s (talelOf s n) k 0x240 with
    | (s, 0) => answerReq (boxSend s k (m.data / 2 ^ 96 % 2 ^ 512) (talelOf s n)) n m 0 0
    | (s, code) => refuseReq s n code m)

/-- MBX_DOORBELL, from a Talel context or by a write of MBX.DB_SET (R373). -/
def mbxDoorbell (s : State) (via : MbxVia) : State :=
  match via with
  | .talel n => talelDoorbell s n
  | .page k who v => writeReg s (mbxPage k) 0x300 who v

/-- MBX_SEND, from a Talel context or by a write of MBX.SEND_GO (R373). -/
def mbxSend (s : State) (via : MbxVia) : State :=
  match via with
  | .talel n => talelSend s n
  | .page k who v => writeReg s (mbxPage k) 0x240 who v

/-! ### CLOSE (R346, R426) -/

/-- CLOSE: the peer closes a context; REASON REMOVAL takes its port out of the inputs of later steps. -/
def closeReceive (s : State) (n : Nat) : State :=
  match s.popReady n (fun m => m.cls == 6 && subOf m == 4) with
  | none => s
  | some (m, s) =>
    let c := s.tctx n
    let s := if c.kind = 2 ∧ 1 ≤ c.port ∧ field m.data 15 8 = 1 then
        { s with crs.absent := SMap.set s.crs.absent (s.unitNo (c.port - 1)) (field m.data 31 16) }
      else s
    closeCtx (sendAck s n) n

end Sys2Proof.Machine
end

