-- ==== Sys2Proof/Machine/Parity.lean ====
section
/-! DEFINITION. Parity errors: what the consumer that finds one does, and the event that reaches the unit history ledger (R101,
R317, R396-R398, R403, R411). -/

namespace Sys2Proof.Machine

/-- A parity error that a core finds: it halts, and a tile-store read also sets TST.ISTATUS.PARITY and counts (R396). In a stage-1 read of
the OPE the sweep operation stops at the rank update that made it, as for poison, and in a drain's fused read the core halts at the
drain's word (R101). -/
def parityCore (s : State) (at_ : CtxAt) (access : Bool) (slot : Option (Fin 9)) (tileStore : Bool) : State :=
  let id := at_.id
  let s := if tileStore && decide (id.core.val < 2) then
      let p : Page := ⟨.tst, 2 * id.cluster.val + id.core.val⟩
      (s.raise p 0).bump p 2
    else s
  let n : Nat := match slot with | some k => k.val | none => noSlot
  let engine := tileStore && decide (id.core.val < 2) && !access
  match readsAt (s.ope id) at_.cycle (fun _ _ => true), dueDrain (s.ope id) at_.cycle with
  | some (sw, u), _ =>
    if engine && n == 4 then stopSweep s id sw u causeParity
    else takeCause s id at_.ctx causeParity access (((s.core id).ctx at_.ctx).stream access).pc n
  | none, some d =>
    if engine && n == 5 then haltCore s id (some d.ctx) causeParity false d.word 5
    else takeCause s id at_.ctx causeParity access (((s.core id).ctx at_.ctx).stream access).pc n
  | none, none => takeCause s id at_.ctx causeParity access (((s.core id).ctx at_.ctx).stream access).pc n

/-- A line is poison from now on: its tile's agent hears of it (R190, R214, R397). -/
def parityLine (s : State) (place : Nat) : State :=
  let a := place / 128 * 128
  if a < 0xC000000000 then poisonArises (s.poisonLine a) a
  else if 2 ^ 40 ≤ a ∧ a < 2 ^ 40 + 40 * 512 * 0x8400 then
    let f := (a - 2 ^ 40) / 0x8400
    let s := s.poisonLine a
    match s.frameAt (f / 512) (f % 512) with
    | some t => { s with mem.poisonNotices := s.mem.poisonNotices ++ [t] }
    | none => s
  else s

/-- A register page read for a JG.LD: the load is answered with an error (R149). -/
def parityLoad (s : State) (id : CoreId) (x : Ctx) : State :=
  s.modCore id (fun c => c.modCtx x (fun k => { k with acc := { k.acc with loads := (match k.acc.loads with
    | l :: r => { l with got := some .error } :: r
    | [] => []) } }))

/-- Does the access stream of a context await a register? -/
def awaitsRegister (s : State) (id : CoreId) (x : Ctx) : Bool :=
  match ((s.core id).ctx x).acc.loads with
  | l :: _ => match spotOf l.addr with | .register _ => l.got.isNone | _ => false
  | [] => false

/-- PARITY: a consumer finds a parity error in bits that a unit holds (R397). -/
def parity (s : State) (at_ : ParityAt) (unit : Nat) : State :=
  let report (s : State) : State := reportUnit s unit 1 0
  match at_ with
  | .core a access slot ts =>
    if ((s.core a.id).ctx a.ctx).mode = .idle then s
    else inCycle s a.id a.cycle (fun s => report (parityCore s a access slot ts))
  | .line place => report (parityLine s place)
  | .side c w => report (s.setRow c.val { s.row c.val with marks := NSet.insert (s.row c.val).marks w.val })
  | .rowBuffer c =>
    match (s.row c.val).run with
    | some k => report (s.setRow c.val { s.row c.val with run := some { k with bad := true } })
    | none => s
  | .pageTalel n =>
    match s.popReady n.val (fun m => m.cls == 1) with
    | some (m, t) => report (refuseReq t n.val 6 m)
    | none => s
  | .pageLoad id x => if awaitsRegister s id x then report (parityLoad s id x) else s
  | .pageOther => report s
  | .directory t =>
    if isDataTile t || (stashOf t).isSome then
      report (s.trigger 1 (s.tileTarget t) (match stashOf t with | some (c, _) => c | none => 0))
    else s
  | .cluster c => report (s.trigger 5 (s.clusterPart c.val) c.val)
  | .training => report (s.trigger 6 s.trainPart 0)
  | .ringmaster => startWarm (report s) 0

end Sys2Proof.Machine
end

