-- ==== Sys2Proof/Machine/ContainRows.lean ====
section
/-! DEFINITION. The meanings of the commands of kills, partition resets and warm resets (R399-R412). -/

namespace Sys2Proof.Machine

/-- KILL (R399): PART.KILL with GO kills a job and waits for it to be quiet. -/
def execKill (who : Requester) (value : Word) (s : State) : Host.Outcome State Fault Refusal :=
  .next (writeReg s partPg 0x114 who value)

/-- KILL_DONE (R399): Every source of the killed job is quiet and KILL_DONE sets. -/
def execKillDone (s : State) : Host.Outcome State Fault Refusal := .next (killDone s)

/-- DRAIN_TIMEOUT (R404): DRAIN_LIMIT ticks pass without quiet and a reset is raised or ended. -/
def execDrainTimeout (what : Fin 6) (s : State) : Host.Outcome State Fault Refusal := .next (drainTimeout s what.val)

/-- SHARED_TRIGGER (R403): A fault in a shared structure resets its partition or the module. -/
def execSharedTrigger (s : State) : Host.Outcome State Fault Refusal := .next (sharedTrigger s)

/-- PART_RESET (R404): A write to PART.RESET starts a partition reset of the named partitions. -/
def execPartReset (who : Requester) (value : Word) (s : State) : Host.Outcome State Fault Refusal :=
  .next (writeReg s partPg 0x110 who value)

/-- EPOCH_ADOPT (R407): A target receives a packet of a newer epoch and adopts it. -/
def execEpochAdopt (domain : Fin 372) (part : Fin 4) (epoch : Fin 65536) (s : State) : Host.Outcome State Fault Refusal :=
  .next (epochAdopt s domain.val part.val epoch.val)

/-- TARGETS_ACKNOWLEDGED (R404): Every target acknowledges and every source is quiet; CLEAR runs and RELEASE follows. -/
def execTargetsAcknowledged (what : Fin 5) (s : State) : Host.Outcome State Fault Refusal :=
  .next (targetsAcknowledged s what.val)

/-- WARM (R411): PART.CTRL.WARM starts a warm reset of every partition and the Ringmaster. -/
def execWarm (who : Requester) (value : Word) (s : State) : Host.Outcome State Fault Refusal :=
  .next (writeReg s partPg 0x010 who value)

/-- PART_CONFIG_WRITE (R412): A write to PART assignment registers takes effect only while the partitions are IDLE. -/
def execPartConfigWrite (word : Fin 1024) (who : Requester) (value : Word) (s : State) : Host.Outcome State Fault Refusal :=
  .next (if partGuarded (4 * word.val) then writeReg s partPg (4 * word.val) who value else s)

end Sys2Proof.Machine
end

