-- ==== Sys2Proof/Machine/CoreRows.lean ====
section
/-! DEFINITION. The meanings of the commands of a core beside the issue of words (R32-R151, R199). -/

namespace Sys2Proof.Machine

/-- A write of a CORE page's register in core cycle `t`. -/
def coreWriteAt (s : State) (id : CoreId) (off : Nat) (who : Requester) (v t : Nat) : State :=
  inCycle s id t (fun s => (busWriteAt s ((corePage id).key off) who v t).1)

/-- RANK_UPDATE_ACCUMULATE (R32): A rank update leaves stage 6 and its products are added into the bank, after the words of the cycle have
issued, an MX.DRAIN among them (R43, R44). -/
def execRankUpdateAccumulate (m : McId) (t : Nat) (s : State) : Host.Outcome State Fault Refusal :=
  .next (if (dueSweep (s.ope (McId.core m)) t).isSome && !anyIssuable s (McId.core m) t then inCycle s (McId.core m) t (fun s => rankUpdateStep s (McId.core m) t) else s)

/-- DRAIN_ROW_WRITE (R48): A drained row is fused, converted and written to its destination. -/
def execDrainRowWrite (m : McId) (t : Nat) (s : State) : Host.Outcome State Fault Refusal :=
  .next (if (dueDrain (s.ope (McId.core m)) t).isSome then inCycle s (McId.core m) t (fun s => drainRowStep s (McId.core m) t) else s)

/-- JG_LD_RESPONSE (R149): A JG.LD response returns data, error or poison and writes ID. -/
def execJgLdResponse (at_ : CtxAt) (s : State) : Host.Outcome State Fault Refusal :=
  .next (jgLdResponse s at_.id at_.ctx at_.cycle)

/-- RESULT_COMMIT (R90): An issued operation commits its result at the end of its latency. -/
def execResultCommit (id : CoreId) (t : Nat) (s : State) : Host.Outcome State Fault Refusal := .next (resultCommit s id t)

/-- CONTEXT_IDLE (R80): Both streams have ended and all operations committed; the context enters IDLE and DONE sets. -/
def execContextIdle (at_ : CtxAt) (s : State) : Host.Outcome State Fault Refusal :=
  .next (contextIdle s at_.id at_.ctx at_.cycle)

/-- HALT_COMPLETE (R98): A HALTING context's last operation commits and it enters HALTED. -/
def execHaltComplete (at_ : CtxAt) (s : State) : Host.Outcome State Fault Refusal :=
  .next (haltComplete s at_.id at_.ctx at_.cycle)

/-- RUN (R104): CORE.CTX_CTRL.RUN starts both streams of an IDLE context. -/
def execRun (at_ : CtxAt) (who : Requester) (s : State) : Host.Outcome State Fault Refusal :=
  .next (coreWriteAt s at_.id (ctxOff at_.ctx 0) who 1 at_.cycle)

/-- RESUME (R102): Returns a HALTED context to RUNNING unless the cause refuses it. -/
def execResume (at_ : CtxAt) (who : Requester) (s : State) : Host.Outcome State Fault Refusal :=
  .next (coreWriteAt s at_.id (ctxOff at_.ctx 0) who 2 at_.cycle)

/-- RESET (R103): Clears an IDLE or HALTED context's queues and registers and enters IDLE. -/
def execReset (at_ : CtxAt) (who : Requester) (s : State) : Host.Outcome State Fault Refusal :=
  .next (coreWriteAt s at_.id (ctxOff at_.ctx 0) who 4 at_.cycle)

/-- HALT_REQ (R104): Halts a RUNNING context with cause EXTERNAL. -/
def execHaltReq (at_ : CtxAt) (who : Requester) (s : State) : Host.Outcome State Fault Refusal :=
  .next (coreWriteAt s at_.id (ctxOff at_.ctx 0) who 8 at_.cycle)

/-- HALT_ALL (R101): CORE.CTRL.HALT_ALL halts every RUNNING context of the core with EXTERNAL. -/
def execHaltAll (id : CoreId) (t : Nat) (who : Requester) (s : State) : Host.Outcome State Fault Refusal :=
  .next (coreWriteAt s id 0x010 who (s.regN (corePage id) 0x010 + 2 ^ 4) t)

/-- LAT_AUDIT_WRITE (R95): A write to CORE.CTRL changes latency-audit mode only while no context runs. -/
def execLatAuditWrite (id : CoreId) (t : Nat) (who : Requester) (value : Word) (s : State) : Host.Outcome State Fault Refusal :=
  .next (coreWriteAt s id 0x010 who value.toNat t)

/-- QCFG_EXT_WRITE (R84): A write to CORE.QCFG.EXT takes effect only while the context is IDLE. -/
def execQcfgExtWrite (at_ : CtxAt) (who : Requester) (value : Word) (s : State) : Host.Outcome State Fault Refusal :=
  .next (coreWriteAt s at_.id (ctxOff at_.ctx 0x28) who value.toNat at_.cycle)

/-- PC_WRITE (R102): A write to PC_EXE or PC_ACC is accepted only while IDLE or HALTED. -/
def execPcWrite (at_ : CtxAt) (access : Bool) (who : Requester) (value : Word) (s : State) : Host.Outcome State Fault Refusal :=
  .next (coreWriteAt s at_.id (ctxOff at_.ctx (if access then 0x08 else 0x04)) who value.toNat at_.cycle)

/-- REMOTE_FLAG_WRITE (R89): A flag word written through the CORE page leaves its crossing and sets or adds. -/
def execRemoteFlagWrite (id : CoreId) (t : Nat) (s : State) : Host.Outcome State Fault Refusal :=
  .next (remoteFlagWrite s id t)

/-- EXTERNAL_PUSH (R84): An external producer's push arrives at a queue, binding or overrunning it. -/
def execExternalPush (at_ : CtxAt) (queue : Fin 4) (src : Nat) (data : Entry) (s : State) : Host.Outcome State Fault Refusal :=
  .next (externalPush s at_.id at_.ctx queue.val src data at_.cycle)

/-- DEADLOCK (R97): The stall monitor's count reaches its limit and halts every RUNNING context. -/
def execDeadlock (id : CoreId) (t : Nat) (s : State) : Host.Outcome State Fault Refusal := .next (deadlock s id t)

/-- TILE_RESPONSE (R140): A tile response arrives at its stream context and is written in sequence order. -/
def execTileResponse (id : CoreId) (sc : Fin 64) (seq : Nat) (t : Nat) (s : State) : Host.Outcome State Fault Refusal :=
  .next (tileResponse s id sc.val seq t)

/-- TILE_DELIVERED (R140): A tile's last row or sidecar is written, or its home accepts a store tile. -/
def execTileDelivered (id : CoreId) (sc : Fin 64) (t : Nat) (s : State) : Host.Outcome State Fault Refusal :=
  .next (tileDelivered s id sc.val t)

/-- FAULT_TAKEN (R141): A fault reaches the head of the delivery order and the stream context enters FAULT_WAIT. -/
def execFaultTaken (id : CoreId) (sc : Fin 64) (t : Nat) (s : State) : Host.Outcome State Fault Refusal :=
  .next (faultTaken s id sc.val t)

/-- FAULT_ANSWER (R142): The mover answers SERVICED or REFUSED and the stream context resumes or halts its owner. -/
def execFaultAnswer (id : CoreId) (sc : Fin 64) (t : Nat) (s : State) : Host.Outcome State Fault Refusal :=
  .next (faultAnswer s id sc.val t)

/-- FAULT_TIMEOUT (R142): No answer within JGL.FAULT_LIMIT: acts as REFUSED and sets TIMEOUT. -/
def execFaultTimeout (id : CoreId) (sc : Fin 64) (t : Nat) (s : State) : Host.Outcome State Fault Refusal :=
  .next (faultTimeout s id sc.val t)

/-- STASH_FULL (R199): A refused Stash store reaches the head and stops the stream context, halting its owner. -/
def execStashFull (id : CoreId) (sc : Fin 64) (t : Nat) (s : State) : Host.Outcome State Fault Refusal :=
  .next (stashFullAt s id sc.val t)

/-- POISON_CONSUMED (R101): A core consumes poisoned data and halts with core scope. -/
def execPoisonConsumed (id : CoreId) (t : Nat) (s : State) : Host.Outcome State Fault Refusal :=
  .next (poisonConsumed s id t)

end Sys2Proof.Machine
end

