-- ==== Sys2Proof/Machine/FabricRows.lean ====
section
/-! DEFINITION. The meanings of the commands of the mesh, crossings and clocks (R323-R338). -/

namespace Sys2Proof.Machine

/-- PACKET_HOP (R328): A packet is granted a router output and moves one hop. -/
def execPacketHop (site : Fin 48) (out : Fin 5) (cycle : Nat) (enter : List Packet) (s : State) : Host.Outcome State Fault Refusal :=
  .next (packetHop s site.val out.val cycle enter)

/-- CROSSING_ARRIVAL (R334): A value becomes usable in the receiving domain after its crossing. -/
def execCrossingArrival (domain : Fin 372) (enter : List Packet) (s : State) : Host.Outcome State Fault Refusal :=
  .next (crossingArrival s domain.val enter)

/-- DFREQ_WRITE (R336): A write to CLK.DFREQ stops a settable clock to relock at a new frequency. -/
def execDfreqWrite (who : Requester) (value : Word) (s : State) : Host.Outcome State Fault Refusal :=
  .next (writeReg s clkPage 0x108 who value)

/-- FREQ_DONE (R336): The generator restarts the clock at its new frequency. -/
def execFreqDone (domain : Fin 372) (s : State) : Host.Outcome State Fault Refusal := .next (freqDone s domain.val)

/-- UNLOCK (R336): A generator loses lock and stops its clock until it relocks. -/
def execUnlock (domain : Fin 372) (s : State) : Host.Outcome State Fault Refusal := .next (clkUnlock s domain.val)

/-- RELOCK (R336): A clock generator that lost lock relocks and restarts its domain's clock. -/
def execRelock (domain : Fin 372) (s : State) : Host.Outcome State Fault Refusal := .next (relock s domain.val)

end Sys2Proof.Machine
end

