-- ==== Sys2Proof/Machine/IrqRows.lean ====
section
/-! DEFINITION. The meanings of the commands of the interrupt controllers and the Spyglass (R360-R371). -/

namespace Sys2Proof.Machine

/-- SOURCE_LINE_CHANGE (R360): A page's source line changes and reaches its controller. -/
def execSourceLineChange (page : Fin 5120) (s : State) : Host.Outcome State Fault Refusal :=
  .next (sourceLineChange s page.val)

/-- SIC_DELIVER (R362): The SIC pushes the best pending source as an entry to the SC's queue. -/
def execSicDeliver (cluster : Fin 40) (s : State) : Host.Outcome State Fault Refusal := .next (sicDeliver s cluster.val)

/-- SIC_COMPLETE (R363): A write to SIC.COMPLETE ends a source's active state. -/
def execSicComplete (cluster : Fin 40) (who : Requester) (value : Word) (s : State) : Host.Outcome State Fault Refusal :=
  .next (writeReg s ⟨.sic, cluster.val⟩ 0x108 who value)

/-- SIC_SWSET (R362): A write to SIC.SWSET makes a software source pending. -/
def execSicSwset (cluster : Fin 40) (who : Requester) (value : Word) (s : State) : Host.Outcome State Fault Refusal :=
  .next (writeReg s ⟨.sic, cluster.val⟩ 0x104 who value)

/-- CLAIM (R366): A read of LIC.CLAIMt claims the best eligible source onto the stack. -/
def execClaim (target : Fin 5) (who : Requester) (s : State) : Host.Outcome State Fault Refusal :=
  .next (readReg s licPg (0x200 + 0x20 * target.val) who)

/-- LIC_COMPLETE (R367): A write to LIC.COMPLETEt pops the stack or records an order fault. -/
def execLicComplete (target : Fin 5) (who : Requester) (value : Word) (s : State) : Host.Outcome State Fault Refusal :=
  .next (writeReg s licPg (0x204 + 0x20 * target.val) who value)

/-- SCFG_WRITE (R368): A write to LIC.SCFG changes a source's target and priority unless active. -/
def execScfgWrite (who : Requester) (value : Word) (s : State) : Host.Outcome State Fault Refusal :=
  .next (writeReg s licPg 0x104 who value)

/-- LIC_SWSET (R364): A write to LIC.SWSET makes a software source pending. -/
def execLicSwset (who : Requester) (value : Word) (s : State) : Host.Outcome State Fault Refusal :=
  .next (writeReg s licPg 0x108 who value)

/-- DELIVERY (R370): A delivery becomes due and the LIC signals a core or sends a host doorbell. -/
def execDelivery (target : Fin 5) (waiting : Bool) (s : State) : Host.Outcome State Fault Refusal :=
  .next (licDeliver s target.val waiting)

/-- MODERATION_EXPIRY (R370): MOD.TICKS pass since HELD left 0 and a delivery becomes due. -/
def execModerationExpiry (target : Fin 5) (s : State) : Host.Outcome State Fault Refusal :=
  .next (moderationExpiry s target.val)

/-- IDLE_HOST (R370): A write of LIC.IDLE.HOST marks the host idle. -/
def execIdleHost (who : Requester) (value : Word) (s : State) : Host.Outcome State Fault Refusal :=
  .next (writeReg s licPg 0x110 who value)

/-- SPYGLASS_HIT (R371): A watched line asserts; HIT sets and domain groups are woken. -/
def execSpyglassHit (n : Fin 64) (s : State) : Host.Outcome State Fault Refusal := .next (spyglassHit s n.val)

end Sys2Proof.Machine
end

