-- ==== Sys2Proof/Machine/MemoryRows.lean ====
section
/-! DEFINITION. The meanings of the commands of moves, the Stash, atomics, HBM and the row engine (R167-R222). -/

namespace Sys2Proof.Machine

/-- MOVE_TILE_REQUEST (R194): The agent accepts the mover's request for one tile and decides its outcome. -/
def execMoveTileRequest (cluster : Fin 40) (s : State) : Host.Outcome State Fault Refusal :=
  .next (moveTileRequest s cluster.val)

/-- MOVE_GRANT (R193): Earlier accesses complete and the agent grants the move; the mover copies the tile. -/
def execMoveGrant (tile : Nat) (s : State) : Host.Outcome State Fault Refusal := .next (moveGrant s tile)

/-- MOVE_COMMIT (R193): The agent accepts a commit, writes the new entry and releases held accesses. -/
def execMoveCommit (tile : Nat) (s : State) : Host.Outcome State Fault Refusal := .next (moveCommit s tile)

/-- MOVING_FAULT_ENQUIRY (R195): The mover enquires about a MOVING fault and answers once the entry is no longer MOVING. -/
def execMovingFaultEnquiry (id : CoreId) (sc : Fin 64) (s : State) : Host.Outcome State Fault Refusal :=
  .next (movingFaultEnquiry s id sc.val)

/-- STASH_STORE (R198): A store reaches a Stash depth, giving it a home or being held or refused. -/
def execStashStore (cluster : Fin 40) (s : State) : Host.Outcome State Fault Refusal := .next (stashStore s cluster.val)

/-- STASH_SPILL (R200): In PUSH phase the STK unit moves the oldest pool entry to HBM. -/
def execStashSpill (cluster : Fin 40) (s : State) : Host.Outcome State Fault Refusal := .next (stashSpill s cluster.val)

/-- STASH_FILL (R201): In POP phase the STK unit moves an HBM entry into its ring frame. -/
def execStashFill (cluster : Fin 40) (s : State) : Host.Outcome State Fault Refusal := .next (stashFill s cluster.val)

/-- STK_RELEASE (R201): A write to STK.RELEASE takes the homes of depths at and above r. -/
def execStkRelease (cluster : Fin 40) (who : Requester) (value : Word) (s : State) : Host.Outcome State Fault Refusal :=
  .next (writeReg s ⟨.stk, cluster.val⟩ 0x10C who value)

/-- STK_CFG_WRITE (R202): A write to STK.CFG or STK.HBM_BASE takes effect only when the Stash is empty. -/
def execStkCfgWrite (cluster : Fin 40) (base : Bool) (who : Requester) (value : Word) (s : State) : Host.Outcome State Fault Refusal :=
  .next (writeReg s ⟨.stk, cluster.val⟩ (if base then 0x104 else 0x100) who value)

/-- HBM_TILES_WRITE (R202): A write to STK.HBM_TILES lends or gives back data tiles. -/
def execHbmTilesWrite (cluster : Fin 40) (who : Requester) (value : Word) (s : State) : Host.Outcome State Fault Refusal :=
  .next (writeReg s ⟨.stk, cluster.val⟩ 0x108 who value)

/-- STASH_TAKE_AWAY (R202): An agent accepts the take-away of a lent tile's home. -/
def execStashTakeAway (cluster : Fin 40) (s : State) : Host.Outcome State Fault Refusal :=
  .next (stashTakeAway s cluster.val)

/-- ATOMIC_STORE (R204): A store into an alias window performs a memory-side addition. -/
def execAtomicStore (s : State) : Host.Outcome State Fault Refusal := .next (atomicStore s)

/-- ATOMIC_APPLY (R205): The HBM controller applies an accepted atomic to its line. -/
def execAtomicApply (stack : Fin 12) (s : State) : Host.Outcome State Fault Refusal :=
  .next (whileRunning s (324 + stack.val) (atomicApply s stack.val))

/-- DIR_PEEK (R192): A read of DIR.PEEK_LO snapshots the selected tile's entry. -/
def execDirPeek (stack : Fin 12) (who : Requester) (s : State) : Host.Outcome State Fault Refusal :=
  .next (readReg s ⟨.dir, stack.val⟩ 0x108 who)

/-- HBM_READ (R214): A line is read and each sector decoded as CLEAN, CE, POISON or UE. -/
def execHbmRead (line : Nat) (errs : List (Nat × Nat × Nat)) (s : State) : Host.Outcome State Fault Refusal :=
  .next (whileRunning s (324 + (hbmMap (128 * line)).stack) (hbmRead s line errs false))

/-- POISON_NOTICE (R214): A UE sends a poison notice that sets POISON in the tile's entry. -/
def execPoisonNotice (s : State) : Host.Outcome State Fault Refusal := .next (poisonNotice s)

/-- HBM_WRITE (R215): A write computes a new code or performs a read-modify-write of a sector. -/
def execHbmWrite (line : Nat) (off : Fin 128) (len : Nat) (data : Line) (mark : Bool) (errs : List (Nat × Nat × Nat)) (s : State) : Host.Outcome State Fault Refusal :=
  .next (whileRunning s (324 + (hbmMap (128 * line)).stack) (hbmWrite s line off.val len data mark errs))

/-- SCRUB_READ (R216): Every SCRUB.INTERVAL ticks the controller reads the next line of its stack. -/
def execScrubRead (stack : Fin 12) (errs : List (Nat × Nat × Nat)) (s : State) : Host.Outcome State Fault Refusal :=
  .next (whileRunning s (324 + stack.val) (scrubRead s stack.val errs))

/-- ROW_REMAP (R218): A row is copied into an unused spare row and pointed at it. -/
def execRowRemap (stack : Fin 12) (errs : List (Nat × Nat × Nat)) (s : State) : Host.Outcome State Fault Refusal :=
  .next (rowRemap s stack.val errs)

/-- ROW_RETIRE (R219): A row retires and its frames are marked and notices sent. -/
def execRowRetire (stack : Fin 12) (s : State) : Host.Outcome State Fault Refusal := .next (rowRetire s stack.val)

/-- RETIRE_NOTICE (R220): An agent accepts a retire notice and relocates or remaps its tile. -/
def execRetireNotice (stack : Fin 12) (s : State) : Host.Outcome State Fault Refusal := .next (retireNotice s stack.val)

/-- LANE_REPAIR (R221): The PHY declares a lane failed and steers it onto a spare. -/
def execLaneRepair (stack : Fin 12) (s : State) : Host.Outcome State Fault Refusal := .next (laneRepair s stack.val)

/-- STACK_LOST (R222): A channel is lost, losing its stack and retiring the module. -/
def execStackLost (stack : Fin 12) (s : State) : Host.Outcome State Fault Refusal := .next (stackLost s stack.val)

/-- REPAIR_MAP_WRITE (R218): The Ringmaster writes remaps, lane repairs and retirements into the repair and retire maps in flash within 1 s. -/
def execRepairMapWrite (s : State) : Host.Outcome State Fault Refusal := .next (repairMapWrite s)

/-- PERIODIC_RETRAIN (R221): An HBM PHY runs its periodic retrain of a channel and may declare a lane failed. -/
def execPeriodicRetrain (stack : Fin 12) (channel : Fin 32) (lanes : List Nat) (command : Bool) (trained : Bool) (s : State) : Host.Outcome State Fault Refusal :=
  .next (periodicRetrain s stack.val channel.val lanes command trained)

/-- ROW_KICK (R169): A write to ROW.KICKp_HI submits a kick to the row engine's queue. -/
def execRowKick (cluster : Fin 40) (port : Fin 8) (who : Requester) (value : Word) (s : State) : Host.Outcome State Fault Refusal :=
  .next (writeReg s ⟨.row, cluster.val⟩ (0x204 + 8 * port.val) who value)

/-- KICK_START (R171): The row engine starts a queued kick and checks its descriptor. -/
def execKickStart (cluster : Fin 40) (s : State) : Host.Outcome State Fault Refusal :=
  .next (whileRunning s (8 * cluster.val + 7) (kickStart s cluster.val))

/-- ROW_PROCESS (R179): A row whose input is complete is processed and its outputs written. -/
def execRowProcess (cluster : Fin 40) (s : State) : Host.Outcome State Fault Refusal :=
  .next (whileRunning s (8 * cluster.val + 7) (rowProcess s cluster.val))

/-- KICK_DONE (R180): All writes of a kick are accepted and its completion flag is added. -/
def execKickDone (cluster : Fin 40) (s : State) : Host.Outcome State Fault Refusal :=
  .next (whileRunning s (8 * cluster.val + 7) (kickDone s cluster.val))

/-- ROW_ABORT (R181): ROW.CTRL.ABORT stops the engine after the row in progress and drops queued kicks. -/
def execRowAbort (cluster : Fin 40) (who : Requester) (s : State) : Host.Outcome State Fault Refusal :=
  .next (writeReg s ⟨.row, cluster.val⟩ 0x010 who 1)

/-- SIDE_DATA_READ (R184): A read of SIDE_DATA_LO snapshots a side-memory word. -/
def execSideDataRead (cluster : Fin 40) (high : Bool) (who : Requester) (s : State) : Host.Outcome State Fault Refusal :=
  .next (readReg s ⟨.row, cluster.val⟩ (if high then 0x118 else 0x114) who)

/-- SIDE_DATA_WRITE (R184): A write of SIDE_DATA_HI commits a side-memory word. -/
def execSideDataWrite (cluster : Fin 40) (high : Bool) (who : Requester) (value : Word) (s : State) : Host.Outcome State Fault Refusal :=
  .next (writeReg s ⟨.row, cluster.val⟩ (if high then 0x118 else 0x114) who value)

end Sys2Proof.Machine
end

