-- ==== Sys2Proof/Machine/NetRows.lean ====
section
/-! DEFINITION. The meanings of the commands of ports, Talel and mailboxes (R340-R357, R373, R374). -/

namespace Sys2Proof.Machine

/-- FRAME_RECEIVE (R340): An Ethernet frame arrives and is checked against supported options. -/
def execFrameReceive (port : Fin 18) (f : EthFrame) (s : State) : Host.Outcome State Fault Refusal :=
  .next (frameReceive s (s.portNo port.val) f)

/-- PFC_PAUSE (R343): A received PFC frame pauses or resumes a priority. -/
def execPfcPause (port : Fin 18) (s : State) : Host.Outcome State Fault Refusal := .next (pfcPause s (s.portNo port.val))

/-- PFC_SEND (R343): Receive-buffer occupancy crosses XOFF or XON and pause or resume is sent. -/
def execPfcSend (port : Fin 18) (prio : Fin 8) (s : State) : Host.Outcome State Fault Refusal :=
  .next (pfcSend s (s.portNo port.val) prio.val)

/-- LINK_CHANGE (R341): A port's link comes up or goes down. -/
def execLinkChange (port : Fin 18) (up : Bool) (s : State) : Host.Outcome State Fault Refusal :=
  .next (linkChangeRow s port.val up)

/-- CONNECT (R346): A CTL CONNECT arrives and opens, repeats or refuses a context. -/
def execConnect (port : Fin 18) (s : State) : Host.Outcome State Fault Refusal :=
  .next (connectReceive s (s.portNo port.val))

/-- ACCEPT (R351): An ACCEPT answers this module's CONNECT and opens the context. -/
def execAccept (port : Fin 18) (kind : Nat) (part : Nat) (psn : Nat) (s : State) : Host.Outcome State Fault Refusal :=
  .next (acceptReceive s (s.portNo port.val) kind part psn)

/-- CLOSE (R426): A CTL CLOSE closes a context and may mark the port absent from a step. -/
def execClose (ctx : Fin 16384) (s : State) : Host.Outcome State Fault Refusal := .next (closeReceive s ctx.val)

/-- NAK (R354): A CTL NAK arrives for a refused request or CONNECT. -/
def execNak (port : Fin 18) (ofConnect : Bool) (s : State) : Host.Outcome State Fault Refusal :=
  .next (nakReceive s (s.portNo port.val) ofConnect)

/-- ACK (R352): A CTL ACK arrives, freeing messages, adjusting CWND and fast retransmitting. -/
def execAck (port : Fin 18) (s : State) : Host.Outcome State Fault Refusal := .next (ackReceive s (s.portNo port.val))

/-- MESSAGE_RECEIVE (R349): A Talel message arrives and is accepted, reordered or discarded by PSN. -/
def execMessageReceive (port : Fin 18) (s : State) : Host.Outcome State Fault Refusal :=
  .next (messageReceive s (s.portNo port.val))

/-- ACK_DELAY_EXPIRY (R351): ACK_DELAY ticks after the first unacknowledged message an ACK is sent. -/
def execAckDelayExpiry (ctx : Fin 16384) (s : State) : Host.Outcome State Fault Refusal := .next (ackDelayExpiry s ctx.val)

/-- RTO_EXPIRY (R352): A message unacknowledged for RTO is retransmitted or the context fails. -/
def execRtoExpiry (ctx : Fin 16384) (s : State) : Host.Outcome State Fault Refusal := .next (rtoExpiry s ctx.val)

/-- REG_READ (R395): A Talel REG read reaches consecutive registers of one page. -/
def execRegRead (ctx : Fin 16384) (s : State) : Host.Outcome State Fault Refusal := .next (regRead s ctx.val)

/-- REG_WRITE (R395): A Talel REG write reaches consecutive registers of one page. -/
def execRegWrite (ctx : Fin 16384) (s : State) : Host.Outcome State Fault Refusal := .next (regWrite s ctx.val)

/-- MEM_READ (R355): A Talel MEM read returns device-memory bytes. -/
def execMemRead (ctx : Fin 16384) (s : State) : Host.Outcome State Fault Refusal := .next (talelRead s ctx.val)

/-- MEM_WRITE (R355): A Talel MEM write stores bytes to device memory. -/
def execMemWrite (ctx : Fin 16384) (s : State) : Host.Outcome State Fault Refusal := .next (talelWrite s ctx.val)

/-- ATOMIC_FETCH_ADD (R355): A Talel atomic fetch-add adds in an alias window and returns the old value. -/
def execAtomicFetchAdd (ctx : Fin 16384) (s : State) : Host.Outcome State Fault Refusal := .next (talelFetchAdd s ctx.val)

/-- MBX_DOORBELL (R373): A doorbell ORs its bits into a channel's MBX.DB. -/
def execMbxDoorbell (via : MbxVia) (s : State) : Host.Outcome State Fault Refusal := .next (mbxDoorbell s via)

/-- MBX_SEND (R373): A mailbox send or MBX.SEND_GO stores a 64-byte message in a channel. -/
def execMbxSend (via : MbxVia) (s : State) : Host.Outcome State Fault Refusal := .next (mbxSend s via)

/-- POP (R374): A write to MBX.POP removes the head message and may send an interrupt back. -/
def execMbxPop (channel : Fin 64) (who : Requester) (value : Word) (s : State) : Host.Outcome State Fault Refusal :=
  .next (writeReg s ⟨.mbx, channel.val⟩ 0x2C0 who value)

/-- MBX_CFG_WRITE (R374): A write to MBX.CFG sets the interrupt back, rejecting illegal sources. -/
def execMbxCfgWrite (channel : Fin 64) (who : Requester) (value : Word) (s : State) : Host.Outcome State Fault Refusal :=
  .next (writeReg s ⟨.mbx, channel.val⟩ 0x100 who value)

/-- CSTATE_RELEASE (R346): TAL.CSTATE.RELEASE frees a FAILED context. -/
def execCstateRelease (who : Requester) (value : Word) (s : State) : Host.Outcome State Fault Refusal :=
  .next (writeReg s talPage 0x114 who value)

/-- SAK_COMMIT (R342): A write of MSEC.SAK_SEL.COMMIT installs the staged key, salt and SSCI for an association. -/
def execSakCommit (port : Fin 18) (who : Requester) (value : Word) (s : State) : Host.Outcome State Fault Refusal :=
  .next (writeReg s (msecPage port.val) 0x108 who value)

end Sys2Proof.Machine
end

