-- ==== Sys2Proof/Machine/NumericsRows.lean ====
section
/-! DEFINITION. The meanings of the commands of Mirror, Loupe, triggers and the unit history ledger (R301-R319). -/

namespace Sys2Proof.Machine

/-- MIRROR_RANK_UPDATE (R303): The partner runs a queued rank update into its mirror bank. -/
def execMirrorRankUpdate (m : McId) (t : Nat) (upset : List (Nat × Nat)) (s : State) : Host.Outcome State Fault Refusal :=
  .next (mirrorRankUpdate s (McId.core m) t upset)

/-- MIRROR_COMPARE (R304): The partner shifts out its mirror bank and compares row signatures. -/
def execMirrorCompare (source : McId) (s : State) : Host.Outcome State Fault Refusal :=
  .next (mirrorCompare s (McId.core source))

/-- SAMPLE_TIMEOUT (R305): A Mirror comparison unfinished after MCK.LIMIT ticks is abandoned. -/
def execSampleTimeout (source : McId) (s : State) : Host.Outcome State Fault Refusal :=
  .next (sampleTimeout s (McId.core source))

/-- LOUPE_COMPARE (R309): The Loupe path compares each tapped cell with its exact sum. -/
def execLoupeCompare (m : McId) (s : State) : Host.Outcome State Fault Refusal := .next (loupeCompare s (McId.core m))

/-- NUMERICS_TRIGGER (R311): A numerics trigger arrives and becomes a pending repeat or a late record. -/
def execNumericsTrigger (s : State) : Host.Outcome State Fault Refusal := .next (numericsTrigger s)

/-- LEDGER_EVENT (R318): A unit reports an event and the ledger engine classifies the unit. -/
def execLedgerEvent (report : Option (Nat × Nat × Nat)) (s : State) : Host.Outcome State Fault Refusal :=
  .next (ledgerEvent s report)

/-- LEDGER_FLASH_WRITE (R319): Changed ledger records are written to flash within 1 s. -/
def execLedgerFlashWrite (ok : Bool) (s : State) : Host.Outcome State Fault Refusal := .next (ledgerFlashWrite s ok)

/-- FLUSH (R319): LDG.CTRL.FLUSH writes every changed record at once. -/
def execFlush (who : Requester) (value : Word) (s : State) : Host.Outcome State Fault Refusal :=
  .next (writeReg s ldgPage 0x010 who value)

/-- LDG_QIDX_WRITE (R316): A write to LDG.QIDX snapshots a ledger record. -/
def execLdgQidxWrite (who : Requester) (value : Word) (s : State) : Host.Outcome State Fault Refusal :=
  .next (writeReg s ldgPage 0x108 who value)

end Sys2Proof.Machine
end

