-- ==== Sys2Proof/Machine/PageRows.lean ====
section
/-! DEFINITION. The meanings of the commands of the common registers of every page, every other register, and parity errors (R381-R398). -/

namespace Sys2Proof.Machine

/-- ISET_WRITE (R383): A write to ISET sets ISTATUS bits for test. -/
def execIsetWrite (page : Fin 5120) (who : Requester) (value : Word) (s : State) : Host.Outcome State Fault Refusal :=
  .next ((busWrite s (0x1000 * page.val + 0x020) who value.toNat).1)

/-- CNT_SEL_WRITE (R387): A write to CNT_SEL selects a counter and may clear it. -/
def execCntSelWrite (page : Fin 5120) (who : Requester) (value : Word) (s : State) : Host.Outcome State Fault Refusal :=
  .next ((busWrite s (0x1000 * page.val + 0x030) who value.toNat).1)

/-- CNT_LO_READ (R388): A read of CNT_LO returns the low half and snapshots the high half. -/
def execCntLoRead (page : Fin 5120) (who : Requester) (s : State) : Host.Outcome State Fault Refusal :=
  .next ((busRead s (0x1000 * page.val + 0x034) who).1)

/-- ERRLOG_DATA_READ (R391): A read of ERRLOG_DATA returns the next error-log entry. -/
def execErrlogDataRead (page : Fin 5120) (who : Requester) (s : State) : Host.Outcome State Fault Refusal :=
  .next ((busRead s (0x1000 * page.val + 0x028) who).1)

/-- OWNER_WRITE (R393): A write to OWNER changes page ownership if secure and unlocked. -/
def execOwnerWrite (page : Fin 5120) (who : Requester) (value : Word) (s : State) : Host.Outcome State Fault Refusal :=
  .next ((busWrite s (0x1000 * page.val + 0x040) who value.toNat).1)

/-- REGISTER_WRITE (R9): A write to a register with no behaviour of its own acts per its access types. -/
def execRegisterWrite (word : Fin 5242880) (who : Requester) (value : Word) (s : State) : Host.Outcome State Fault Refusal :=
  .next ((busWrite s (4 * word.val) who value.toNat).1)

/-- PARITY (R397): A consumer finds a parity error and acts by its kind. -/
def execParity (at_ : ParityAt) (unit : Word) (s : State) : Host.Outcome State Fault Refusal :=
  .next (parity s at_ unit.toNat)

end Sys2Proof.Machine
end

