-- ==== Sys2Proof/Machine/PowerRows.lean ====
section
/-! DEFINITION. The meanings of the commands of power, bring-up, spares and sleep (R433-R447). -/

namespace Sys2Proof.Machine

/-- FULL_POWER_ON (R441): The input rises above 36 V and every domain is reset. -/
def execFullPowerOn (s : State) : Host.Outcome State Fault Refusal := .next (fullPowerOn s)

/-- POWER_GOOD (R434): Power enable and input are good and bring-up starts at LINK. -/
def execPowerGood (s : State) : Host.Outcome State Fault Refusal := .next (powerGood s)

/-- STAGE_ADVANCE (R440): A bring-up stage's work completes or its latest time passes and the next stage is entered. -/
def execStageAdvance (work : StageWork) (s : State) : Host.Outcome State Fault Refusal := .next (stageAdvance s work)

/-- UNDERVOLT (R435): The input falls below 38 V and rails are removed after the tail write. -/
def execUndervolt (s : State) : Host.Outcome State Fault Refusal := .next (undervolt s)

/-- POWER_ENABLE_LOW (R435): Power enable falls low while not SAFE and acts as undervoltage. -/
def execPowerEnableLow (s : State) : Host.Outcome State Fault Refusal := .next (powerEnableLow s)

/-- OVERVOLTAGE (R435): The input exceeds 62 V and rails are removed with a class 2 alarm. -/
def execOvervoltage (s : State) : Host.Outcome State Fault Refusal := .next (overvoltage s)

/-- POWER_CAP_PERIOD (R438): Each 1 ms the controller averages power and temperature and steps core clocks. -/
def execPowerCapPeriod (volts : Fin 65536) (amps : Fin 65536) (watts : Fin 65536) (dieMax : BitVec 16) (s : State) : Host.Outcome State Fault Refusal :=
  .next (powerCapPeriod s volts.val amps.val watts.val dieMax)

/-- PHASE_SPARE (R437): A PERMANENT regulator phase is replaced by a spare. -/
def execPhaseSpare (s : State) : Host.Outcome State Fault Refusal := .next (phaseSpare s)

/-- PEER_PORT_FAIL (R444): A peer port fails and P16 is brought into service in its place. -/
def execPeerPortFail (port : Fin 18) (s : State) : Host.Outcome State Fault Refusal := .next (peerPortFail s port.val)

/-- SPARE_LINK_TIMEOUT (R444): P16's link is not up 500 ms after a peer port fails, and the failed port's contexts become FAILED. -/
def execSpareLinkTimeout (s : State) : Host.Outcome State Fault Refusal := .next (spareLinkTimeout s)

/-- RETIRE (R445): A retirement condition kills jobs, closes peers and enters RETIRED. -/
def execRetire (s : State) : Host.Outcome State Fault Refusal := .next (retire s)

/-- SLEEP (R441): A write to PWR.SLEEP puts an idle domain group to sleep. -/
def execSleep (who : Requester) (value : Word) (s : State) : Host.Outcome State Fault Refusal :=
  .next (writeReg s pwrPage 0x11C who value)

/-- WAKE (R441): A sleeping group finishes waking and its clocks run. -/
def execWake (group : Fin 3) (s : State) : Host.Outcome State Fault Refusal := .next (wake s group.val)

/-- INPUT_LOSS (R434): The input falls below 36 V and the always-on island, the security monitor and the service edge stop. -/
def execInputLoss (s : State) : Host.Outcome State Fault Refusal := .next (inputLoss s)

end Sys2Proof.Machine
end

