-- ==== Sys2Proof/Machine/SecureRows.lean ====
section
/-! DEFINITION. The meanings of the commands of firmware, management, alarms, removal, the service port and Periscope (R415-R432). -/

namespace Sys2Proof.Machine

/-- BOOT_VERIFY (R415): The boot ROM verifies the preferred image and falls back if it fails. -/
def execBootVerify (sram : Nat) (s : State) : Host.Outcome State Fault Refusal := .next (bootVerify s sram)

/-- IMAGE (R416): In RECOVERY the service port loads an image into slot A. -/
def execImage (f : SvcFrame) (s : State) : Host.Outcome State Fault Refusal := .next (imageFrame s f)

/-- MGT_CHUNK (R418): An MGT chunk arrives and is gathered until its operation is complete. -/
def execMgtChunk (ctx : Fin 16384) (s : State) : Host.Outcome State Fault Refusal := .next (mgtChunk s ctx.val)

/-- REPORT (R420): Returns a signed attestation report for a nonce. -/
def execReport (frame : Option SvcFrame) (s : State) : Host.Outcome State Fault Refusal := .next (report s frame)

/-- CERT (R419): Returns the device certificate. -/
def execCert (frame : Option SvcFrame) (s : State) : Host.Outcome State Fault Refusal := .next (cert s frame)

/-- ENROL (R419): Enrols or transfers the owner key. -/
def execEnrol (s : State) : Host.Outcome State Fault Refusal := .next (enrol s)

/-- FW_STAGE (R419): Writes image bytes into the slot not running. -/
def execFwStage (s : State) : Host.Outcome State Fault Refusal := .next (fwStage s)

/-- FW_COMMIT (R419): Verifies the staged slot and makes it preferred, optionally raising the SVN floor. -/
def execFwCommit (s : State) : Host.Outcome State Fault Refusal := .next (fwCommit s)

/-- MGT_PART_RESET (R419): Management request that writes PART.RESET. -/
def execMgtPartReset (s : State) : Host.Outcome State Fault Refusal := .next (mgtPartReset s)

/-- MGT_PART_KILL (R419): Management request that writes PART.KILL. -/
def execMgtPartKill (s : State) : Host.Outcome State Fault Refusal := .next (mgtPartKill s)

/-- MGT_WARM (R419): Management request that writes PART.CTRL.WARM. -/
def execMgtWarm (s : State) : Host.Outcome State Fault Refusal := .next (mgtWarm s)

/-- REMOVE (R426): Management request that starts a removal as the button does. -/
def execRemove (via : Option (Requester × Word)) (s : State) : Host.Outcome State Fault Refusal :=
  match via with
  | none => .next (mgtRemove s)
  | some (who, value) => .next (writeReg s edgePage 0x010 who value)

/-- ALARM_ACK (R423): Releases a held alarm so the stage may proceed to READY. -/
def execAlarmAck (s : State) : Host.Outcome State Fault Refusal := .next (alarmAck s)

/-- IDENTIFY (R419): Turns the Marquee IDENTIFY pattern on or off. -/
def execIdentify (s : State) : Host.Outcome State Fault Refusal := .next (identify s)

/-- PROVISION (R423): Installs a new identity on an UNPROVISIONED module and restarts it. -/
def execProvision (s : State) : Host.Outcome State Fault Refusal := .next (provision s)

/-- ALARM (R422): The security monitor sees a violation and raises an alarm of its class. -/
def execAlarm (sources : List (Fin 5)) (s : State) : Host.Outcome State Fault Refusal :=
  .next (alarm s (sources.map (fun n => n.val)))

/-- REMOVAL_REQUEST (R426): The button held 2 s starts DRAINING, FLUSHING and SAFE. -/
def execRemovalRequest (s : State) : Host.Outcome State Fault Refusal := .next (removalRequest s)

/-- SHORT_PRESS (R426): The button is released before 2 s and the press is counted. -/
def execShortPress (s : State) : Host.Outcome State Fault Refusal := .next (shortPress s)

/-- BUTTON_DOWN (R426): The removal-request button goes down, setting EDGE.STATUS.BUTTON and starting the 2 s hold count. -/
def execButtonDown (s : State) : Host.Outcome State Fault Refusal := .next (buttonDown s)

/-- DRAINING_END (R426): B and U contexts finish or DRAIN_LIMIT expires; jobs are killed and FLUSHING follows. -/
def execDrainingEnd (s : State) : Host.Outcome State Fault Refusal := .next (drainingEnd s)

/-- SAFE (R426): Flushing completes and every domain but the always-on ones powers down. -/
def execSafe (s : State) : Host.Outcome State Fault Refusal := .next (safe s)

/-- TAIL_WRITE (R427): Latch opening or undervoltage while not SAFE writes the ledger tail. -/
def execTailWrite (s : State) : Host.Outcome State Fault Refusal := .next (tailWrite s)

/-- LATCH_LEVER (R427): The latch lever opens while the removal state is SAFE, or closes, and the change is recorded in EDGE.STATUS, EDGE.ISTATUS.LATCH and the latch counter. -/
def execLatchLever (opened : Bool) (s : State) : Host.Outcome State Fault Refusal := .next (latchLever s opened)

/-- STATUS (R428): An unauthenticated service frame returns the 64-byte status block. -/
def execStatus (f : SvcFrame) (s : State) : Host.Outcome State Fault Refusal := .next (statusFrame s f)

/-- VBUS_CHANGE (R428): VBUS appears or goes away on the service port, changing EDGE.STATUS.USB, EDGE.ISTATUS.USB and the attach count. -/
def execVbusChange (present : Bool) (s : State) : Host.Outcome State Fault Refusal := .next (vbusChange s present)

/-- PERISCOPE_OPEN (R429): A signed challenge-response opens a Periscope session or counts a failure. -/
def execPeriscopeOpen (key : Nat) (signature : Nat) (mask : Fin 16) (s : State) : Host.Outcome State Fault Refusal :=
  .next (periscopeOpen s key signature mask.val)

/-- PERISCOPE_CLOSE (R430): A session ends by CLOSE, VBUS loss, alarm or warm reset. -/
def execPeriscopeClose (s : State) : Host.Outcome State Fault Refusal := .next (periscopeClose s)

/-- SESSION_TIMEOUT (R430): 30 s pass with no frame and the session ends. -/
def execSessionTimeout (s : State) : Host.Outcome State Fault Refusal := .next (sessionTimeout s)

/-- AUTH_LOCKOUT_EXPIRY (R429): The 60 s refusal of OPEN after three failures ends. -/
def execAuthLockoutExpiry (s : State) : Host.Outcome State Fault Refusal := .next (authLockoutExpiry s)

end Sys2Proof.Machine
end

