-- ==== Sys2Proof/Machine/TrainingRows.lean ====
section
/-! DEFINITION. The meanings of the commands of the step unit, the carousel and the update unit (R234-R300). -/

namespace Sys2Proof.Machine

/-- ADMISSION (R236): A path asks the step unit to admit a parameter slice. -/
def execAdmission (s : State) : Host.Outcome State Fault Refusal := .next (admission s)

/-- SLICE_COMMIT (R237): An accepted slice commits and may complete its layer's tag. -/
def execSliceCommit (s : State) : Host.Outcome State Fault Refusal := .next (sliceCommit s)

/-- FRONTIER_ADVANCE (R239): The step unit advances its frontier over completed layers. -/
def execFrontierAdvance (s : State) : Host.Outcome State Fault Refusal := .next (frontierAdvance s)

/-- FRONTIER_FLAG_SEND (R239): One frontier add is injected to a subscribed F context's flag. -/
def execFrontierFlagSend (s : State) : Host.Outcome State Fault Refusal := .next (frontierFlagSend s)

/-- PHS_LDATA_WRITE (R246): A write of PHS.LDATA_HI commits a layer entry while EN is 0. -/
def execPhsLdataWrite (who : Requester) (value : Word) (s : State) : Host.Outcome State Fault Refusal :=
  .next (writeReg s stepPage 0x114 who value)

/-- PHS_LDATA_READ (R246): A read of PHS.LDATA_LO snapshots the selected step-unit layer entry. -/
def execPhsLdataRead (who : Requester) (s : State) : Host.Outcome State Fault Refusal := .next (readReg s stepPage 0x110 who)

/-- HAND (R254): A hand-port write submits a gradient slice to the carousel. -/
def execHand (port : Fin 128) (who : Requester) (value : Word) (s : State) : Host.Outcome State Fault Refusal :=
  .next (writeReg s crsPage (0x80C + 16 * port.val) who value)

/-- GATHER (R278): A hand-port write gathers a parameter slice into a core's store. -/
def execGather (port : Fin 128) (who : Requester) (value : Word) (s : State) : Host.Outcome State Fault Refusal :=
  .next (writeReg s crsPage (0x80C + 16 * port.val) who value)

/-- QUANTISE_SEGMENT (R255): The quantiser converts a segment of a slice into the contribution buffer. -/
def execQuantiseSegment (s : State) : Host.Outcome State Fault Refusal := .next (quantiseSegment s)

/-- HAND_DONE (R254): Every source tile of a hand has been read and its completion flag is added. -/
def execHandDone (s : State) : Host.Outcome State Fault Refusal := .next (handDone s)

/-- REDUCE_FRAME (R260): A REDUCE frame header arrives and becomes present in its combine slot. -/
def execReduceFrame (port : Fin 17) (f : CrsArrival) (s : State) : Host.Outcome State Fault Refusal :=
  .next (withFrame s port.val f.msg f.frame (fun s => reduceFrame s port.val f.frame))

/-- SLOT_FORWARD (R261): A slot's inputs are all present and it starts forwarding the sum. -/
def execSlotForward (unit : Fin 17) (s : State) : Host.Outcome State Fault Refusal := .next (slotForward s unit.val)

/-- HOLD_EXPIRY (R261): CRS.HOLD ticks pass and a slot forwards with the inputs present. -/
def execHoldExpiry (unit : Fin 17) (s : State) : Host.Outcome State Fault Refusal := .next (holdExpiry s unit.val)

/-- SEGMENT_CLOSE (R265): The root closes a segment once all its inputs are present and streamed. -/
def execSegmentClose (unit : Fin 17) (s : State) : Host.Outcome State Fault Refusal := .next (segmentClose s unit.val)

/-- DEADLINE_EXPIRY (R265): CRS.DEADLINE ticks pass and the root closes the slice's open segments. -/
def execDeadlineExpiry (unit : Fin 17) (s : State) : Host.Outcome State Fault Refusal := .next (deadlineExpiry s unit.val)

/-- SLICE_CLOSE (R268): The root writes the record, next scale and taglog and hands the slice over. -/
def execSliceClose (unit : Fin 17) (s : State) : Host.Outcome State Fault Refusal := .next (sliceClose s unit.val)

/-- FACTOR_FRAME (R270): A FACTOR frame arrives and is forwarded cut-through or collected at the root. -/
def execFactorFrame (port : Fin 17) (f : CrsArrival) (s : State) : Host.Outcome State Fault Refusal :=
  .next (withFrame s port.val f.msg f.frame (fun s => factorFrame s port.val f.frame))

/-- THINNED_CLOSE (R271): The root closes a thinned tag and hands its record over. -/
def execThinnedClose (unit : Fin 17) (s : State) : Host.Outcome State Fault Refusal := .next (thinnedClose s unit.val)

/-- PARAM_MULTICAST (R273): The owner sends a committed parameter slice on its MC_OUT ports. -/
def execParamMulticast (s : State) : Host.Outcome State Fault Refusal := .next (paramMulticast s)

/-- PARAM_FRAME (R274): A PARAM frame arrives and is forwarded and collected for local admission. -/
def execParamFrame (port : Fin 17) (f : CrsArrival) (s : State) : Host.Outcome State Fault Refusal :=
  .next (withFrame s port.val f.msg f.frame (fun s => paramFrame s port.val f.frame))

/-- PRUNE (R275): A child without credit for MC_HOLD ticks, or a full buffer, is pruned for a tag. -/
def execPrune (unit : Fin 17) (s : State) : Host.Outcome State Fault Refusal := .next (pruneRow s unit.val)

/-- PRUNED (R276): A PRUNE frame arrives, discarding partial slices and scheduling pulls. -/
def execPruned (port : Fin 17) (f : CrsArrival) (s : State) : Host.Outcome State Fault Refusal :=
  .next (withFrame s port.val f.msg f.frame (fun s => prunedFrame s port.val f.frame))

/-- MC_CREDIT (R275): A multicast child returns a segment credit to its node, which sends the waiting segments for that child and stops its prune wait. -/
def execMcCredit (port : Fin 17) (s : State) : Host.Outcome State Fault Refusal := .next (mcCredit s port.val)

/-- PULL (R277): The pull engine fetches a missing slice from the owner and asks admission. -/
def execPull (ok : Bool) (w1 : Word) (data : Nat) (e : Byte) (w2 : Word) (s : State) : Host.Outcome State Fault Refusal :=
  .next (pullSlice s ok w1.toNat data e.toNat w2.toNat)

/-- PULL_RETRY (R277): PULL_RETRY ticks pass and a pending pull or gather is tried again. -/
def execPullRetry (s : State) : Host.Outcome State Fault Refusal := .next (pullRetryRow s)

/-- CUT_THROUGH_FAIL (R356): A forwarded input fails FCS or ICV and the outgoing frame is stomped and resent. -/
def execCutThroughFail (port : Fin 17) (f : CrsArrival) (s : State) : Host.Outcome State Fault Refusal :=
  .next (cutThroughFail s port.val f.msg f.frame)

/-- BANK_SWITCH_WRITE (R251): A write to CRS.BANK arms or completes a bucket-table bank change. -/
def execBankSwitchWrite (who : Requester) (value : Word) (s : State) : Host.Outcome State Fault Refusal :=
  .next (writeReg s crsPage 0x110 who value)

/-- OLD_IDLE (R252): No tag before SWITCH_STEP is held and OLD_IDLE rises. -/
def execOldIdle (s : State) : Host.Outcome State Fault Refusal := .next (oldIdle s)

/-- BDATA_WRITE (R250): A write of CRS.BDATA_HI commits a bucket-table word. -/
def execBdataWrite (who : Requester) (value : Word) (s : State) : Host.Outcome State Fault Refusal :=
  .next (writeReg s crsPage 0x11C who value)

/-- BDATA_READ (R279): A read of CRS.BDATA_LO snapshots the selected bucket-table word. -/
def execBdataRead (who : Requester) (s : State) : Host.Outcome State Fault Refusal := .next (readReg s crsPage 0x118 who)

/-- RECORD_HANDOFF (R284): A root hands a closed FULL slice to the update unit for decoding. -/
def execRecordHandoff (s : State) : Host.Outcome State Fault Refusal := .next (recordHandoff s)

/-- THINNED_HANDOFF (R285): A thinned record reaches the update unit, which pushes a rebuild entry. -/
def execThinnedHandoff (s : State) : Host.Outcome State Fault Refusal := .next (thinnedHandoff s)

/-- SUBMIT (R286): A submit-port write hands a rebuilt slice to the update unit. -/
def execSubmit (port : Fin 64) (who : Requester) (value : Word) (s : State) : Host.Outcome State Fault Refusal :=
  .next (writeReg s updPage (0x80C + 16 * port.val) who value)

/-- SLICE_BEGIN (R290): The update unit begins a slice: checks, step boundary and rule choice. -/
def execSliceBegin (s : State) : Host.Outcome State Fault Refusal := .next (sliceBegin s)

/-- ADMISSION_RETRY (R299): A slice that the update unit held after a BUSY or EARLY admission asks for admission again once CRS.PULL_RETRY ticks have passed. -/
def execAdmissionRetry (s : State) : Host.Outcome State Fault Refusal := .next (admissionRetry s)

/-- ETA_NEXT_WRITE (R291): A write to UPD.ETA_NEXT replaces the shadow and sets PENDING. -/
def execEtaNextWrite (who : Requester) (value : Word) (s : State) : Host.Outcome State Fault Refusal :=
  .next (writeReg s updPage 0x108 who value)

/-- UPDATE_LINE (R294): One line passes decode, statistics and the fixed-rule datapath. -/
def execUpdateLine (slice : Fin 8) (s : State) : Host.Outcome State Fault Refusal := .next (updateLine s slice.val)

/-- BATCH_PUSH (R295): The unit writes a batch slot and pushes its entry to a vector core. -/
def execBatchPush (slice : Fin 8) (s : State) : Host.Outcome State Fault Refusal := .next (batchPush s slice.val)

/-- BDONE (R297): A TOKEN written to UPD.BDONE completes a batch and frees its slot. -/
def execBdone (who : Requester) (value : Word) (s : State) : Host.Outcome State Fault Refusal :=
  .next (writeReg s updPage 0x114 who value)

/-- BATCH_TIMEOUT (R298): A batch without BDONE within BATCH_LIMIT ticks is given HOLD. -/
def execBatchTimeout (s : State) : Host.Outcome State Fault Refusal := .next (batchTimeout s)

/-- PARAM_WRITE (R299): The updated slice is written home, committed and handed on. -/
def execParamWrite (slice : Fin 8) (s : State) : Host.Outcome State Fault Refusal := .next (paramWrite s slice.val)

/-- UPD_ENABLE_WRITE (R300): A write of UPD.CTRL.EN enables the unit, fixing CUR_STEP and step sizes. -/
def execUpdEnableWrite (who : Requester) (value : Word) (s : State) : Host.Outcome State Fault Refusal :=
  .next (writeReg s updPage 0x010 who value)

/-- UPD_LDATA_WRITE (R282): A write of UPD.LDATA_HI commits a layer-table word while EN is 0. -/
def execUpdLdataWrite (who : Requester) (value : Word) (s : State) : Host.Outcome State Fault Refusal :=
  .next (writeReg s updPage 0x124 who value)

/-- UPD_LDATA_READ (R300): A read of UPD.LDATA_LO snapshots the selected update layer-table word. -/
def execUpdLdataRead (who : Requester) (s : State) : Host.Outcome State Fault Refusal := .next (readReg s updPage 0x120 who)

end Sys2Proof.Machine
end

