-- ==== Sys2Proof/Machine/WordRows.lean ====
section
/-! DEFINITION. The meanings of the commands of the issue of long words that hold each operation (R80-R166). -/

namespace Sys2Proof.Machine

/-- ILLEGAL_OPCODE (R107): A word with a bad header or an undefined opcode reaches issue and halts its context. -/
def execIllegalOpcode (u : Issue) (s : State) : Host.Outcome State Fault Refusal := .next (issueIf s u isIllegal)

/-- SLOT_ABSENT (R111): A word naming a slot its stream lacks reaches issue and halts its context. -/
def execSlotAbsent (u : Issue) (s : State) : Host.Outcome State Fault Refusal := .next (issueIf s u (fun w => w.absent))

/-- EMPTY_WORD (R109): A word with SLOT_MASK zero issues, does nothing and only spaces issue by its GAP. -/
def execEmptyWord (u : Issue) (s : State) : Host.Outcome State Fault Refusal := .next (issueIf s u isEmptyWord)

/-- END (R117): The stream issues no further word until the context is next started. -/
def execEnd (u : Issue) (s : State) : Host.Outcome State Fault Refusal := .next (issueIf s u (hasOp .end_))

/-- BR (R116): Unconditional branch to TARGET. -/
def execBr (u : Issue) (s : State) : Host.Outcome State Fault Refusal := .next (issueIf s u (hasOp .br))

/-- BZ (R116): Branch to TARGET if the register read is zero. -/
def execBz (u : Issue) (s : State) : Host.Outcome State Fault Refusal := .next (issueIf s u (hasOp .bz))

/-- BNZ (R116): Branch to TARGET if the register read is not zero. -/
def execBnz (u : Issue) (s : State) : Host.Outcome State Fault Refusal := .next (issueIf s u (hasOp .bnz))

/-- LOOP (R116): Decrement a register and branch unless the value read was 1. -/
def execLoop (u : Issue) (s : State) : Host.Outcome State Fault Refusal := .next (issueIf s u (hasOp .loop))

/-- MARK_START (R118): Sets the context's layer mark and opens a ledger phase. -/
def execMarkStart (u : Issue) (s : State) : Host.Outcome State Fault Refusal := .next (issueIf s u (hasOp .markStart))

/-- MARK_END (R242): Closes the open ledger phase and writes its record; may be a release event or a take point. -/
def execMarkEnd (u : Issue) (s : State) : Host.Outcome State Fault Refusal := .next (issueIf s u (hasOp .markEnd))

/-- REPLAY_BEGIN (R119): Records this word as the first word of a replay range. -/
def execReplayBegin (u : Issue) (s : State) : Host.Outcome State Fault Refusal := .next (issueIf s u (hasOp .replayBegin))

/-- REPLAY_END (R119): Records the range's last word, or ends an active replay and returns. -/
def execReplayEnd (u : Issue) (s : State) : Host.Outcome State Fault Refusal := .next (issueIf s u (hasOp .replayEnd))

/-- REPLAY_RUN (R119): Starts a replay of a valid range, a recomputation when B replays a forward range. -/
def execReplayRun (u : Issue) (s : State) : Host.Outcome State Fault Refusal := .next (issueIf s u (hasOp .replayRun))

/-- BRK (R100): Breakpoint: the word issues and the context halts with BREAKPOINT. -/
def execBrk (u : Issue) (s : State) : Host.Outcome State Fault Refusal := .next (issueIf s u (hasOp .brk))

/-- FSET (R86): A flag takes a value. -/
def execFset (u : Issue) (s : State) : Host.Outcome State Fault Refusal := .next (issueIf s u (hasOp .fset))

/-- FADD (R86): A flag is increased modulo 2^24. -/
def execFadd (u : Issue) (s : State) : Host.Outcome State Fault Refusal := .next (issueIf s u (hasOp .fadd))

/-- FWAIT (R87): The word issues once a condition holds between the flag and a threshold. -/
def execFwait (u : Issue) (s : State) : Host.Outcome State Fault Refusal := .next (issueIf s u (hasOp .fwait))

/-- QPOPI (R83): Pops a queue head and writes one 32-bit word of it to an I register. -/
def execQpopi (u : Issue) (s : State) : Host.Outcome State Fault Refusal := .next (issueIf s u (hasOp .qpopi))

/-- QPUSHI (R120): Pushes an entry built from I registers and an immediate. -/
def execQpushi (u : Issue) (s : State) : Host.Outcome State Fault Refusal := .next (issueIf s u (hasOp .qpushi))

/-- QDROP (R83): Pops and discards a queue head. -/
def execQdrop (u : Issue) (s : State) : Host.Outcome State Fault Refusal := .next (issueIf s u (hasOp .qdrop))

/-- IMOVI (R90): I register takes an immediate. -/
def execImovi (u : Issue) (s : State) : Host.Outcome State Fault Refusal := .next (issueIf s u (hasOp .imovi))

/-- IADD (R90): I register addition. -/
def execIadd (u : Issue) (s : State) : Host.Outcome State Fault Refusal := .next (issueIf s u (hasOp .iadd))

/-- IADDI (R90): I register plus immediate. -/
def execIaddi (u : Issue) (s : State) : Host.Outcome State Fault Refusal := .next (issueIf s u (hasOp .iaddi))

/-- ISUB (R90): I register subtraction. -/
def execIsub (u : Issue) (s : State) : Host.Outcome State Fault Refusal := .next (issueIf s u (hasOp .isub))

/-- ISHLI (R90): I register shift left by immediate. -/
def execIshli (u : Issue) (s : State) : Host.Outcome State Fault Refusal := .next (issueIf s u (hasOp .ishli))

/-- IAND (R90): I register bitwise AND. -/
def execIand (u : Issue) (s : State) : Host.Outcome State Fault Refusal := .next (issueIf s u (hasOp .iand))

/-- MX_SWEEP (R29): Issues K rank updates of A and B vectors into a bank of the OPE. -/
def execMxSweep (u : Issue) (s : State) : Host.Outcome State Fault Refusal := .next (issueIf s u (hasOp .mxSweep))

/-- MX_COORD (R66): Sets OPE.SR_COORD for later rounding keys. -/
def execMxCoord (u : Issue) (s : State) : Host.Outcome State Fault Refusal := .next (issueIf s u (hasOp .mxCoord))

/-- MX_PASS (R28): Hands the OPE and drain unit to a named context and adds its grant flag. -/
def execMxPass (u : Issue) (s : State) : Host.Outcome State Fault Refusal := .next (issueIf s u (hasOp .mxPass))

/-- MX_DRAIN (R41): Starts a drain of a bank through the drain unit into staging or an operand half. -/
def execMxDrain (u : Issue) (s : State) : Host.Outcome State Fault Refusal := .next (issueIf s u (hasOp .mxDrain))

/-- VADD (R156): Vector add. -/
def execVadd (u : Issue) (s : State) : Host.Outcome State Fault Refusal := .next (issueIf s u (hasOp .vadd))

/-- VSUB (R156): Vector subtract. -/
def execVsub (u : Issue) (s : State) : Host.Outcome State Fault Refusal := .next (issueIf s u (hasOp .vsub))

/-- VMUL (R156): Vector multiply. -/
def execVmul (u : Issue) (s : State) : Host.Outcome State Fault Refusal := .next (issueIf s u (hasOp .vmul))

/-- VFMA (R156): Vector fused multiply-add. -/
def execVfma (u : Issue) (s : State) : Host.Outcome State Fault Refusal := .next (issueIf s u (hasOp .vfma))

/-- VRCP (R158): Vector reciprocal. -/
def execVrcp (u : Issue) (s : State) : Host.Outcome State Fault Refusal := .next (issueIf s u (hasOp .vrcp))

/-- VRSQ (R158): Vector reciprocal square root. -/
def execVrsq (u : Issue) (s : State) : Host.Outcome State Fault Refusal := .next (issueIf s u (hasOp .vrsq))

/-- VEXP2 (R158): Vector base-2 exponential. -/
def execVexp2 (u : Issue) (s : State) : Host.Outcome State Fault Refusal := .next (issueIf s u (hasOp .vexp2))

/-- VLOG2 (R158): Vector base-2 logarithm. -/
def execVlog2 (u : Issue) (s : State) : Host.Outcome State Fault Refusal := .next (issueIf s u (hasOp .vlog2))

/-- VCVT (R160): Vector type conversion with lane mapping by PART. -/
def execVcvt (u : Issue) (s : State) : Host.Outcome State Fault Refusal := .next (issueIf s u (hasOp .vcvt))

/-- VRSUM (R161): Sums all lanes in a fixed tree into lane 0. -/
def execVrsum (u : Issue) (s : State) : Host.Outcome State Fault Refusal := .next (issueIf s u (hasOp .vrsum))

/-- VPASS (R121): Hands the vector unit to a named context and adds its grant flag. -/
def execVpass (u : Issue) (s : State) : Host.Outcome State Fault Refusal := .next (issueIf s u (hasOp .vpass))

/-- VMAX (R159): Vector maximum. -/
def execVmax (u : Issue) (s : State) : Host.Outcome State Fault Refusal := .next (issueIf s u (hasOp .vmax))

/-- VMIN (R159): Vector minimum. -/
def execVmin (u : Issue) (s : State) : Host.Outcome State Fault Refusal := .next (issueIf s u (hasOp .vmin))

/-- VABS (R156): Vector absolute value by clearing the sign. -/
def execVabs (u : Issue) (s : State) : Host.Outcome State Fault Refusal := .next (issueIf s u (hasOp .vabs))

/-- VNEG (R156): Vector negation by inverting the sign. -/
def execVneg (u : Issue) (s : State) : Host.Outcome State Fault Refusal := .next (issueIf s u (hasOp .vneg))

/-- VCMP (R159): Vector compare into a mask register. -/
def execVcmp (u : Issue) (s : State) : Host.Outcome State Fault Refusal := .next (issueIf s u (hasOp .vcmp))

/-- VSEL (R159): Vector select by mask. -/
def execVsel (u : Issue) (s : State) : Host.Outcome State Fault Refusal := .next (issueIf s u (hasOp .vsel))

/-- VMOV (R156): Vector register copy. -/
def execVmov (u : Issue) (s : State) : Host.Outcome State Fault Refusal := .next (issueIf s u (hasOp .vmov))

/-- VBCST (R156): Broadcasts an immediate to every lane. -/
def execVbcst (u : Issue) (s : State) : Host.Outcome State Fault Refusal := .next (issueIf s u (hasOp .vbcst))

/-- VLD (R126): Loads 2 KiB of local store into a vector register. -/
def execVld (u : Issue) (s : State) : Host.Outcome State Fault Refusal := .next (issueIf s u (hasOp .vld))

/-- VST (R126): Stores a vector register to 2 KiB of local store. -/
def execVst (u : Issue) (s : State) : Host.Outcome State Fault Refusal := .next (issueIf s u (hasOp .vst))

/-- VQPOP (R153): Pops a queue entry into one segment of a vector register. -/
def execVqpop (u : Issue) (s : State) : Host.Outcome State Fault Refusal := .next (issueIf s u (hasOp .vqpop))

/-- VQPUSH (R153): Pushes one segment of a vector register to a queue. -/
def execVqpush (u : Issue) (s : State) : Host.Outcome State Fault Refusal := .next (issueIf s u (hasOp .vqpush))

/-- SADD (R165): Scalar add. -/
def execSadd (u : Issue) (s : State) : Host.Outcome State Fault Refusal := .next (issueIf s u (hasOp .sadd))

/-- SSUB (R165): Scalar subtract. -/
def execSsub (u : Issue) (s : State) : Host.Outcome State Fault Refusal := .next (issueIf s u (hasOp .ssub))

/-- SAND (R165): Scalar AND. -/
def execSand (u : Issue) (s : State) : Host.Outcome State Fault Refusal := .next (issueIf s u (hasOp .sand))

/-- SOR (R165): Scalar OR. -/
def execSor (u : Issue) (s : State) : Host.Outcome State Fault Refusal := .next (issueIf s u (hasOp .sor))

/-- SXOR (R165): Scalar XOR. -/
def execSxor (u : Issue) (s : State) : Host.Outcome State Fault Refusal := .next (issueIf s u (hasOp .sxor))

/-- SSHL (R165): Scalar shift left. -/
def execSshl (u : Issue) (s : State) : Host.Outcome State Fault Refusal := .next (issueIf s u (hasOp .sshl))

/-- SSHR (R165): Scalar logical shift right. -/
def execSshr (u : Issue) (s : State) : Host.Outcome State Fault Refusal := .next (issueIf s u (hasOp .sshr))

/-- SSRA (R165): Scalar arithmetic shift right. -/
def execSsra (u : Issue) (s : State) : Host.Outcome State Fault Refusal := .next (issueIf s u (hasOp .ssra))

/-- SMOVI (R165): Scalar register takes a sign-extended immediate. -/
def execSmovi (u : Issue) (s : State) : Host.Outcome State Fault Refusal := .next (issueIf s u (hasOp .smovi))

/-- SADDI (R165): Scalar add of a sign-extended immediate. -/
def execSaddi (u : Issue) (s : State) : Host.Outcome State Fault Refusal := .next (issueIf s u (hasOp .saddi))

/-- SCMPLT (R165): Scalar signed less-than compare. -/
def execScmplt (u : Issue) (s : State) : Host.Outcome State Fault Refusal := .next (issueIf s u (hasOp .scmplt))

/-- SCMPEQ (R165): Scalar equality compare. -/
def execScmpeq (u : Issue) (s : State) : Host.Outcome State Fault Refusal := .next (issueIf s u (hasOp .scmpeq))

/-- STOI (R165): Moves a scalar register's low word to an I register. -/
def execStoi (u : Issue) (s : State) : Host.Outcome State Fault Refusal := .next (issueIf s u (hasOp .stoi))

/-- ITOS (R165): Moves an I register zero-extended to a scalar register. -/
def execItos (u : Issue) (s : State) : Host.Outcome State Fault Refusal := .next (issueIf s u (hasOp .itos))

/-- SMUL (R165): Scalar multiply, low 64 bits. -/
def execSmul (u : Issue) (s : State) : Host.Outcome State Fault Refusal := .next (issueIf s u (hasOp .smul))

/-- SDIVU (R165): Scalar unsigned divide, all ones on divide by zero. -/
def execSdivu (u : Issue) (s : State) : Host.Outcome State Fault Refusal := .next (issueIf s u (hasOp .sdivu))

/-- SPASS (R121): Hands the scalar ALU to a named context and adds its grant flag. -/
def execSpass (u : Issue) (s : State) : Host.Outcome State Fault Refusal := .next (issueIf s u (hasOp .spass))

/-- SLD (R127): Loads 8 bytes of local store into a scalar register. -/
def execSld (u : Issue) (s : State) : Host.Outcome State Fault Refusal := .next (issueIf s u (hasOp .sld))

/-- SST (R127): Stores a scalar register to 8 bytes of local store. -/
def execSst (u : Issue) (s : State) : Host.Outcome State Fault Refusal := .next (issueIf s u (hasOp .sst))

/-- SQPOP (R83): Pops a queue entry word into a scalar register. -/
def execSqpop (u : Issue) (s : State) : Host.Outcome State Fault Refusal := .next (issueIf s u (hasOp .sqpop))

/-- SQPUSH (R83): Pushes an entry built from two scalar registers. -/
def execSqpush (u : Issue) (s : State) : Host.Outcome State Fault Refusal := .next (issueIf s u (hasOp .sqpush))

/-- SREGWR (R127): Posted write of a scalar register to a register page. -/
def execSregwr (u : Issue) (s : State) : Host.Outcome State Fault Refusal := .next (issueIf s u (hasOp .sregwr))

/-- JG_BASE (R147): Writes BASE of a stream context's descriptor. -/
def execJgBase (u : Issue) (s : State) : Host.Outcome State Fault Refusal := .next (issueIf s u (hasOp .jgBase))

/-- JG_LOOP (R132): Writes COUNT and STRIDE of one loop level. -/
def execJgLoop (u : Issue) (s : State) : Host.Outcome State Fault Refusal := .next (issueIf s u (hasOp .jgLoop))

/-- JG_DEST (R134): Writes the destination fields of a stream context. -/
def execJgDest (u : Issue) (s : State) : Host.Outcome State Fault Refusal := .next (issueIf s u (hasOp .jgDest))

/-- JG_RUN (R144): Starts or continues a stream context's tile run. -/
def execJgRun (u : Issue) (s : State) : Host.Outcome State Fault Refusal := .next (issueIf s u (hasOp .jgRun))

/-- JG_SWAP (R136): Continues a stream context into its next segment, toggling the half. -/
def execJgSwap (u : Issue) (s : State) : Host.Outcome State Fault Refusal := .next (issueIf s u (hasOp .jgSwap))

/-- JG_STOP (R144, R145): Stops a stream context at its restart point: through a word of the stream, or through a Periscope session for the
stream context named. -/
def execJgStop (u : StopIssue) (s : State) : Host.Outcome State Fault Refusal :=
  .next (match u.session with
    | none => issueIf s u.issue (hasOp .jgStop)
    | some n => sessionStop s u.issue.id n.val u.issue.cycle)

/-- JG_LD (R149): Issues a 32-bit load from a device address. -/
def execJgLd (u : Issue) (s : State) : Host.Outcome State Fault Refusal := .next (issueIf s u (hasOp .jgLd))

/-- JG_ST (R148): Posted 32-bit store to a device address. -/
def execJgSt (u : Issue) (s : State) : Host.Outcome State Fault Refusal := .next (issueIf s u (hasOp .jgSt))

/-- JG_MOVE (R150): Asks the mover to give a run of tiles a home in a named tier. -/
def execJgMove (u : Issue) (s : State) : Host.Outcome State Fault Refusal := .next (issueIf s u (hasOp .jgMove))

end Sys2Proof.Machine
end

