-- ==== Sys2Proof/Machine/Dispatch.lean ====
section
/-! DEFINITION. One arm for each command. -/

namespace Sys2Proof.Machine

def exec (i : Instr) (s : State) : Host.Outcome State Fault Refusal :=
  match i with
  | .illegalOpcode u => Sys2Proof.Machine.execIllegalOpcode u s
  | .slotAbsent u => Sys2Proof.Machine.execSlotAbsent u s
  | .emptyWord u => Sys2Proof.Machine.execEmptyWord u s
  | .end_ u => Sys2Proof.Machine.execEnd u s
  | .br u => Sys2Proof.Machine.execBr u s
  | .bz u => Sys2Proof.Machine.execBz u s
  | .bnz u => Sys2Proof.Machine.execBnz u s
  | .loop u => Sys2Proof.Machine.execLoop u s
  | .markStart u => Sys2Proof.Machine.execMarkStart u s
  | .markEnd u => Sys2Proof.Machine.execMarkEnd u s
  | .replayBegin u => Sys2Proof.Machine.execReplayBegin u s
  | .replayEnd u => Sys2Proof.Machine.execReplayEnd u s
  | .replayRun u => Sys2Proof.Machine.execReplayRun u s
  | .brk u => Sys2Proof.Machine.execBrk u s
  | .fset u => Sys2Proof.Machine.execFset u s
  | .fadd u => Sys2Proof.Machine.execFadd u s
  | .fwait u => Sys2Proof.Machine.execFwait u s
  | .qpopi u => Sys2Proof.Machine.execQpopi u s
  | .qpushi u => Sys2Proof.Machine.execQpushi u s
  | .qdrop u => Sys2Proof.Machine.execQdrop u s
  | .imovi u => Sys2Proof.Machine.execImovi u s
  | .iadd u => Sys2Proof.Machine.execIadd u s
  | .iaddi u => Sys2Proof.Machine.execIaddi u s
  | .isub u => Sys2Proof.Machine.execIsub u s
  | .ishli u => Sys2Proof.Machine.execIshli u s
  | .iand u => Sys2Proof.Machine.execIand u s
  | .mxSweep u => Sys2Proof.Machine.execMxSweep u s
  | .mxCoord u => Sys2Proof.Machine.execMxCoord u s
  | .mxPass u => Sys2Proof.Machine.execMxPass u s
  | .mxDrain u => Sys2Proof.Machine.execMxDrain u s
  | .vadd u => Sys2Proof.Machine.execVadd u s
  | .vsub u => Sys2Proof.Machine.execVsub u s
  | .vmul u => Sys2Proof.Machine.execVmul u s
  | .vfma u => Sys2Proof.Machine.execVfma u s
  | .vrcp u => Sys2Proof.Machine.execVrcp u s
  | .vrsq u => Sys2Proof.Machine.execVrsq u s
  | .vexp2 u => Sys2Proof.Machine.execVexp2 u s
  | .vlog2 u => Sys2Proof.Machine.execVlog2 u s
  | .vcvt u => Sys2Proof.Machine.execVcvt u s
  | .vrsum u => Sys2Proof.Machine.execVrsum u s
  | .vpass u => Sys2Proof.Machine.execVpass u s
  | .vmax u => Sys2Proof.Machine.execVmax u s
  | .vmin u => Sys2Proof.Machine.execVmin u s
  | .vabs u => Sys2Proof.Machine.execVabs u s
  | .vneg u => Sys2Proof.Machine.execVneg u s
  | .vcmp u => Sys2Proof.Machine.execVcmp u s
  | .vsel u => Sys2Proof.Machine.execVsel u s
  | .vmov u => Sys2Proof.Machine.execVmov u s
  | .vbcst u => Sys2Proof.Machine.execVbcst u s
  | .vld u => Sys2Proof.Machine.execVld u s
  | .vst u => Sys2Proof.Machine.execVst u s
  | .vqpop u => Sys2Proof.Machine.execVqpop u s
  | .vqpush u => Sys2Proof.Machine.execVqpush u s
  | .sadd u => Sys2Proof.Machine.execSadd u s
  | .ssub u => Sys2Proof.Machine.execSsub u s
  | .sand u => Sys2Proof.Machine.execSand u s
  | .sor u => Sys2Proof.Machine.execSor u s
  | .sxor u => Sys2Proof.Machine.execSxor u s
  | .sshl u => Sys2Proof.Machine.execSshl u s
  | .sshr u => Sys2Proof.Machine.execSshr u s
  | .ssra u => Sys2Proof.Machine.execSsra u s
  | .smovi u => Sys2Proof.Machine.execSmovi u s
  | .saddi u => Sys2Proof.Machine.execSaddi u s
  | .scmplt u => Sys2Proof.Machine.execScmplt u s
  | .scmpeq u => Sys2Proof.Machine.execScmpeq u s
  | .stoi u => Sys2Proof.Machine.execStoi u s
  | .itos u => Sys2Proof.Machine.execItos u s
  | .smul u => Sys2Proof.Machine.execSmul u s
  | .sdivu u => Sys2Proof.Machine.execSdivu u s
  | .spass u => Sys2Proof.Machine.execSpass u s
  | .sld u => Sys2Proof.Machine.execSld u s
  | .sst u => Sys2Proof.Machine.execSst u s
  | .sqpop u => Sys2Proof.Machine.execSqpop u s
  | .sqpush u => Sys2Proof.Machine.execSqpush u s
  | .sregwr u => Sys2Proof.Machine.execSregwr u s
  | .jgBase u => Sys2Proof.Machine.execJgBase u s
  | .jgLoop u => Sys2Proof.Machine.execJgLoop u s
  | .jgDest u => Sys2Proof.Machine.execJgDest u s
  | .jgRun u => Sys2Proof.Machine.execJgRun u s
  | .jgSwap u => Sys2Proof.Machine.execJgSwap u s
  | .jgStop u => Sys2Proof.Machine.execJgStop u s
  | .jgLd u => Sys2Proof.Machine.execJgLd u s
  | .jgSt u => Sys2Proof.Machine.execJgSt u s
  | .jgMove u => Sys2Proof.Machine.execJgMove u s
  | .rankUpdateAccumulate m t => Sys2Proof.Machine.execRankUpdateAccumulate m t s
  | .drainRowWrite m t => Sys2Proof.Machine.execDrainRowWrite m t s
  | .jgLdResponse at_ => Sys2Proof.Machine.execJgLdResponse at_ s
  | .resultCommit id t => Sys2Proof.Machine.execResultCommit id t s
  | .contextIdle at_ => Sys2Proof.Machine.execContextIdle at_ s
  | .haltComplete at_ => Sys2Proof.Machine.execHaltComplete at_ s
  | .run at_ who => Sys2Proof.Machine.execRun at_ who s
  | .resume at_ who => Sys2Proof.Machine.execResume at_ who s
  | .reset at_ who => Sys2Proof.Machine.execReset at_ who s
  | .haltReq at_ who => Sys2Proof.Machine.execHaltReq at_ who s
  | .haltAll id t who => Sys2Proof.Machine.execHaltAll id t who s
  | .latAuditWrite id t who value => Sys2Proof.Machine.execLatAuditWrite id t who value s
  | .qcfgExtWrite at_ who value => Sys2Proof.Machine.execQcfgExtWrite at_ who value s
  | .pcWrite at_ access who value => Sys2Proof.Machine.execPcWrite at_ access who value s
  | .remoteFlagWrite id t => Sys2Proof.Machine.execRemoteFlagWrite id t s
  | .externalPush at_ queue src data => Sys2Proof.Machine.execExternalPush at_ queue src data s
  | .deadlock id t => Sys2Proof.Machine.execDeadlock id t s
  | .tileResponse id sc seq t => Sys2Proof.Machine.execTileResponse id sc seq t s
  | .tileDelivered id sc t => Sys2Proof.Machine.execTileDelivered id sc t s
  | .faultTaken id sc t => Sys2Proof.Machine.execFaultTaken id sc t s
  | .faultAnswer id sc t => Sys2Proof.Machine.execFaultAnswer id sc t s
  | .faultTimeout id sc t => Sys2Proof.Machine.execFaultTimeout id sc t s
  | .stashFull id sc t => Sys2Proof.Machine.execStashFull id sc t s
  | .moveTileRequest cluster => Sys2Proof.Machine.execMoveTileRequest cluster s
  | .moveGrant tile => Sys2Proof.Machine.execMoveGrant tile s
  | .moveCommit tile => Sys2Proof.Machine.execMoveCommit tile s
  | .movingFaultEnquiry id sc => Sys2Proof.Machine.execMovingFaultEnquiry id sc s
  | .stashStore cluster => Sys2Proof.Machine.execStashStore cluster s
  | .stashSpill cluster => Sys2Proof.Machine.execStashSpill cluster s
  | .stashFill cluster => Sys2Proof.Machine.execStashFill cluster s
  | .stkRelease cluster who value => Sys2Proof.Machine.execStkRelease cluster who value s
  | .stkCfgWrite cluster base who value => Sys2Proof.Machine.execStkCfgWrite cluster base who value s
  | .hbmTilesWrite cluster who value => Sys2Proof.Machine.execHbmTilesWrite cluster who value s
  | .stashTakeAway cluster => Sys2Proof.Machine.execStashTakeAway cluster s
  | .atomicStore => Sys2Proof.Machine.execAtomicStore s
  | .atomicApply stack => Sys2Proof.Machine.execAtomicApply stack s
  | .dirPeek stack who => Sys2Proof.Machine.execDirPeek stack who s
  | .hbmRead line errs => Sys2Proof.Machine.execHbmRead line errs s
  | .poisonNotice => Sys2Proof.Machine.execPoisonNotice s
  | .hbmWrite line off len data mark errs => Sys2Proof.Machine.execHbmWrite line off len data mark errs s
  | .scrubRead stack errs => Sys2Proof.Machine.execScrubRead stack errs s
  | .rowRemap stack errs => Sys2Proof.Machine.execRowRemap stack errs s
  | .rowRetire stack => Sys2Proof.Machine.execRowRetire stack s
  | .retireNotice stack => Sys2Proof.Machine.execRetireNotice stack s
  | .laneRepair stack => Sys2Proof.Machine.execLaneRepair stack s
  | .stackLost stack => Sys2Proof.Machine.execStackLost stack s
  | .repairMapWrite => Sys2Proof.Machine.execRepairMapWrite s
  | .periodicRetrain stack channel lanes command trained => Sys2Proof.Machine.execPeriodicRetrain stack channel lanes command trained s
  | .rowKick cluster port who value => Sys2Proof.Machine.execRowKick cluster port who value s
  | .kickStart cluster => Sys2Proof.Machine.execKickStart cluster s
  | .rowProcess cluster => Sys2Proof.Machine.execRowProcess cluster s
  | .kickDone cluster => Sys2Proof.Machine.execKickDone cluster s
  | .rowAbort cluster who => Sys2Proof.Machine.execRowAbort cluster who s
  | .sideDataRead cluster high who => Sys2Proof.Machine.execSideDataRead cluster high who s
  | .sideDataWrite cluster high who value => Sys2Proof.Machine.execSideDataWrite cluster high who value s
  | .frameReceive port f => Sys2Proof.Machine.execFrameReceive port f s
  | .pfcPause port => Sys2Proof.Machine.execPfcPause port s
  | .pfcSend port prio => Sys2Proof.Machine.execPfcSend port prio s
  | .linkChange port up => Sys2Proof.Machine.execLinkChange port up s
  | .connect port => Sys2Proof.Machine.execConnect port s
  | .accept port kind part psn => Sys2Proof.Machine.execAccept port kind part psn s
  | .close ctx => Sys2Proof.Machine.execClose ctx s
  | .nak port ofConnect => Sys2Proof.Machine.execNak port ofConnect s
  | .ack port => Sys2Proof.Machine.execAck port s
  | .messageReceive port => Sys2Proof.Machine.execMessageReceive port s
  | .ackDelayExpiry ctx => Sys2Proof.Machine.execAckDelayExpiry ctx s
  | .rtoExpiry ctx => Sys2Proof.Machine.execRtoExpiry ctx s
  | .regRead ctx => Sys2Proof.Machine.execRegRead ctx s
  | .regWrite ctx => Sys2Proof.Machine.execRegWrite ctx s
  | .memRead ctx => Sys2Proof.Machine.execMemRead ctx s
  | .memWrite ctx => Sys2Proof.Machine.execMemWrite ctx s
  | .atomicFetchAdd ctx => Sys2Proof.Machine.execAtomicFetchAdd ctx s
  | .mbxDoorbell via => Sys2Proof.Machine.execMbxDoorbell via s
  | .mbxSend via => Sys2Proof.Machine.execMbxSend via s
  | .mbxPop channel who value => Sys2Proof.Machine.execMbxPop channel who value s
  | .mbxCfgWrite channel who value => Sys2Proof.Machine.execMbxCfgWrite channel who value s
  | .cstateRelease who value => Sys2Proof.Machine.execCstateRelease who value s
  | .sakCommit port who value => Sys2Proof.Machine.execSakCommit port who value s
  | .admission => Sys2Proof.Machine.execAdmission s
  | .sliceCommit => Sys2Proof.Machine.execSliceCommit s
  | .frontierAdvance => Sys2Proof.Machine.execFrontierAdvance s
  | .frontierFlagSend => Sys2Proof.Machine.execFrontierFlagSend s
  | .phsLdataWrite who value => Sys2Proof.Machine.execPhsLdataWrite who value s
  | .phsLdataRead who => Sys2Proof.Machine.execPhsLdataRead who s
  | .hand port who value => Sys2Proof.Machine.execHand port who value s
  | .gather port who value => Sys2Proof.Machine.execGather port who value s
  | .quantiseSegment => Sys2Proof.Machine.execQuantiseSegment s
  | .handDone => Sys2Proof.Machine.execHandDone s
  | .reduceFrame port f => Sys2Proof.Machine.execReduceFrame port f s
  | .slotForward unit => Sys2Proof.Machine.execSlotForward unit s
  | .holdExpiry unit => Sys2Proof.Machine.execHoldExpiry unit s
  | .segmentClose unit => Sys2Proof.Machine.execSegmentClose unit s
  | .deadlineExpiry unit => Sys2Proof.Machine.execDeadlineExpiry unit s
  | .sliceClose unit => Sys2Proof.Machine.execSliceClose unit s
  | .factorFrame port f => Sys2Proof.Machine.execFactorFrame port f s
  | .thinnedClose unit => Sys2Proof.Machine.execThinnedClose unit s
  | .paramMulticast => Sys2Proof.Machine.execParamMulticast s
  | .paramFrame port f => Sys2Proof.Machine.execParamFrame port f s
  | .prune unit => Sys2Proof.Machine.execPrune unit s
  | .pruned port f => Sys2Proof.Machine.execPruned port f s
  | .mcCredit port => Sys2Proof.Machine.execMcCredit port s
  | .pull ok w1 data e w2 => Sys2Proof.Machine.execPull ok w1 data e w2 s
  | .pullRetry => Sys2Proof.Machine.execPullRetry s
  | .cutThroughFail port f => Sys2Proof.Machine.execCutThroughFail port f s
  | .bankSwitchWrite who value => Sys2Proof.Machine.execBankSwitchWrite who value s
  | .oldIdle => Sys2Proof.Machine.execOldIdle s
  | .bdataWrite who value => Sys2Proof.Machine.execBdataWrite who value s
  | .bdataRead who => Sys2Proof.Machine.execBdataRead who s
  | .recordHandoff => Sys2Proof.Machine.execRecordHandoff s
  | .thinnedHandoff => Sys2Proof.Machine.execThinnedHandoff s
  | .submit port who value => Sys2Proof.Machine.execSubmit port who value s
  | .sliceBegin => Sys2Proof.Machine.execSliceBegin s
  | .admissionRetry => Sys2Proof.Machine.execAdmissionRetry s
  | .etaNextWrite who value => Sys2Proof.Machine.execEtaNextWrite who value s
  | .updateLine slice => Sys2Proof.Machine.execUpdateLine slice s
  | .batchPush slice => Sys2Proof.Machine.execBatchPush slice s
  | .bdone who value => Sys2Proof.Machine.execBdone who value s
  | .batchTimeout => Sys2Proof.Machine.execBatchTimeout s
  | .paramWrite slice => Sys2Proof.Machine.execParamWrite slice s
  | .updEnableWrite who value => Sys2Proof.Machine.execUpdEnableWrite who value s
  | .updLdataWrite who value => Sys2Proof.Machine.execUpdLdataWrite who value s
  | .updLdataRead who => Sys2Proof.Machine.execUpdLdataRead who s
  | .mirrorRankUpdate m t upset => Sys2Proof.Machine.execMirrorRankUpdate m t upset s
  | .mirrorCompare source => Sys2Proof.Machine.execMirrorCompare source s
  | .sampleTimeout source => Sys2Proof.Machine.execSampleTimeout source s
  | .loupeCompare m => Sys2Proof.Machine.execLoupeCompare m s
  | .numericsTrigger => Sys2Proof.Machine.execNumericsTrigger s
  | .ledgerEvent report => Sys2Proof.Machine.execLedgerEvent report s
  | .ledgerFlashWrite ok => Sys2Proof.Machine.execLedgerFlashWrite ok s
  | .flush who value => Sys2Proof.Machine.execFlush who value s
  | .ldgQidxWrite who value => Sys2Proof.Machine.execLdgQidxWrite who value s
  | .packetHop site out cycle enter => Sys2Proof.Machine.execPacketHop site out cycle enter s
  | .crossingArrival domain enter => Sys2Proof.Machine.execCrossingArrival domain enter s
  | .dfreqWrite who value => Sys2Proof.Machine.execDfreqWrite who value s
  | .freqDone domain => Sys2Proof.Machine.execFreqDone domain s
  | .unlock domain => Sys2Proof.Machine.execUnlock domain s
  | .relock domain => Sys2Proof.Machine.execRelock domain s
  | .sourceLineChange page => Sys2Proof.Machine.execSourceLineChange page s
  | .sicDeliver cluster => Sys2Proof.Machine.execSicDeliver cluster s
  | .sicComplete cluster who value => Sys2Proof.Machine.execSicComplete cluster who value s
  | .sicSwset cluster who value => Sys2Proof.Machine.execSicSwset cluster who value s
  | .claim target who => Sys2Proof.Machine.execClaim target who s
  | .licComplete target who value => Sys2Proof.Machine.execLicComplete target who value s
  | .scfgWrite who value => Sys2Proof.Machine.execScfgWrite who value s
  | .licSwset who value => Sys2Proof.Machine.execLicSwset who value s
  | .delivery target waiting => Sys2Proof.Machine.execDelivery target waiting s
  | .moderationExpiry target => Sys2Proof.Machine.execModerationExpiry target s
  | .idleHost who value => Sys2Proof.Machine.execIdleHost who value s
  | .spyglassHit n => Sys2Proof.Machine.execSpyglassHit n s
  | .isetWrite page who value => Sys2Proof.Machine.execIsetWrite page who value s
  | .cntSelWrite page who value => Sys2Proof.Machine.execCntSelWrite page who value s
  | .cntLoRead page who => Sys2Proof.Machine.execCntLoRead page who s
  | .errlogDataRead page who => Sys2Proof.Machine.execErrlogDataRead page who s
  | .ownerWrite page who value => Sys2Proof.Machine.execOwnerWrite page who value s
  | .registerWrite word who value => Sys2Proof.Machine.execRegisterWrite word who value s
  | .parity at_ unit => Sys2Proof.Machine.execParity at_ unit s
  | .poisonConsumed id t => Sys2Proof.Machine.execPoisonConsumed id t s
  | .kill who value => Sys2Proof.Machine.execKill who value s
  | .killDone => Sys2Proof.Machine.execKillDone s
  | .drainTimeout what => Sys2Proof.Machine.execDrainTimeout what s
  | .sharedTrigger => Sys2Proof.Machine.execSharedTrigger s
  | .partReset who value => Sys2Proof.Machine.execPartReset who value s
  | .epochAdopt domain part epoch => Sys2Proof.Machine.execEpochAdopt domain part epoch s
  | .targetsAcknowledged what => Sys2Proof.Machine.execTargetsAcknowledged what s
  | .warm who value => Sys2Proof.Machine.execWarm who value s
  | .partConfigWrite word who value => Sys2Proof.Machine.execPartConfigWrite word who value s
  | .bootVerify sram => Sys2Proof.Machine.execBootVerify sram s
  | .image f => Sys2Proof.Machine.execImage f s
  | .mgtChunk ctx => Sys2Proof.Machine.execMgtChunk ctx s
  | .report frame => Sys2Proof.Machine.execReport frame s
  | .cert frame => Sys2Proof.Machine.execCert frame s
  | .enrol => Sys2Proof.Machine.execEnrol s
  | .fwStage => Sys2Proof.Machine.execFwStage s
  | .fwCommit => Sys2Proof.Machine.execFwCommit s
  | .mgtPartReset => Sys2Proof.Machine.execMgtPartReset s
  | .mgtPartKill => Sys2Proof.Machine.execMgtPartKill s
  | .mgtWarm => Sys2Proof.Machine.execMgtWarm s
  | .remove via => Sys2Proof.Machine.execRemove via s
  | .alarmAck => Sys2Proof.Machine.execAlarmAck s
  | .identify => Sys2Proof.Machine.execIdentify s
  | .provision => Sys2Proof.Machine.execProvision s
  | .alarm sources => Sys2Proof.Machine.execAlarm sources s
  | .removalRequest => Sys2Proof.Machine.execRemovalRequest s
  | .shortPress => Sys2Proof.Machine.execShortPress s
  | .buttonDown => Sys2Proof.Machine.execButtonDown s
  | .drainingEnd => Sys2Proof.Machine.execDrainingEnd s
  | .safe => Sys2Proof.Machine.execSafe s
  | .tailWrite => Sys2Proof.Machine.execTailWrite s
  | .latchLever opened => Sys2Proof.Machine.execLatchLever opened s
  | .status f => Sys2Proof.Machine.execStatus f s
  | .vbusChange present => Sys2Proof.Machine.execVbusChange present s
  | .periscopeOpen key signature mask => Sys2Proof.Machine.execPeriscopeOpen key signature mask s
  | .periscopeClose => Sys2Proof.Machine.execPeriscopeClose s
  | .sessionTimeout => Sys2Proof.Machine.execSessionTimeout s
  | .authLockoutExpiry => Sys2Proof.Machine.execAuthLockoutExpiry s
  | .fullPowerOn => Sys2Proof.Machine.execFullPowerOn s
  | .powerGood => Sys2Proof.Machine.execPowerGood s
  | .stageAdvance work => Sys2Proof.Machine.execStageAdvance work s
  | .undervolt => Sys2Proof.Machine.execUndervolt s
  | .powerEnableLow => Sys2Proof.Machine.execPowerEnableLow s
  | .overvoltage => Sys2Proof.Machine.execOvervoltage s
  | .powerCapPeriod volts amps watts dieMax => Sys2Proof.Machine.execPowerCapPeriod volts amps watts dieMax s
  | .phaseSpare => Sys2Proof.Machine.execPhaseSpare s
  | .peerPortFail port => Sys2Proof.Machine.execPeerPortFail port s
  | .spareLinkTimeout => Sys2Proof.Machine.execSpareLinkTimeout s
  | .retire => Sys2Proof.Machine.execRetire s
  | .sleep who value => Sys2Proof.Machine.execSleep who value s
  | .wake group => Sys2Proof.Machine.execWake group s
  | .inputLoss => Sys2Proof.Machine.execInputLoss s

end Sys2Proof.Machine
end

