-- ==== Sys2Proof/Machine/Step.lean ====
section
/-! DEFINITION. One step: the command at the front of the queue, or a reference tick on an empty queue. -/

namespace Sys2Proof.Machine

/-- The block with a word's command put in front of its queue; unchanged where the word spells none. -/
def State.withFetchWord (s : State) (nbits w : Nat) : State :=
  match decodeTableWord nbits w with
  | some c => { s with pending := c :: s.pending }
  | none => s

/-- A reference tick passes with no command (DESIGN CHOICE, log entry 2). -/
def tickOf (s : State) : State := { s with tick := s.tick + 1 }

/-- One step: the command at the front of the queue acts on the state with the rest of the queue; on an empty queue a
reference tick passes. -/
def step (s : State) : Host.Outcome State Fault Refusal :=
  match s.pending with
  | [] => .next (tickOf s)
  | c :: rest => exec c { s with pending := rest }

end Sys2Proof.Machine
end

