-- ==== Sys2Proof/Safety.lean ====
section
/-! DEFINITION. What the statements about steps speak of: when a word issues with no halt, where its results go, what an access
to a register must meet, and the invariants. -/

namespace Sys2Proof.Machine

/-! ### The issue of words -/

/-- A core's state once its clock has reached a cycle: nothing else of the block is different. -/
def atCycle (s : State) (id : CoreId) (t : Nat) : State := s.modCore id (fun c => c.reach t)

/-- The next word of the stream. -/
def wordOf (s : State) (u : Issue) : LongWord := nextWord s u.id u.ctx u.access

/-- The stream's next word may issue in the cycle (R83, R108): the stream is live, out of its gap, awaits no response, every queue
and flag that the word names can be served, no stage-1 read of the cycle takes poison, and the core owes nothing before it. -/
def MayIssue (s : State) (u : Issue) : Prop :=
  issuable s u.id u.ctx u.access u.cycle = true ∧ poisonedRead s u.id u.cycle = none ∧ coreDue s u.id u.cycle = true

/-- The word issues and no halt cause arises in its context, nor one of core scope in another (R98, R99). -/
def CleanIssue (s : State) (u : Issue) : Prop :=
  MayIssue s u ∧ coreCause (atCycle s u.id u.cycle) u = none ∧
    issueCause (atCycle s u.id u.cycle) { u with access := false } = none ∧
    issueCause (atCycle s u.id u.cycle) { u with access := true } = none

/-- The stream's next word issues cleanly and holds one operation only. -/
def SoleIssue (s : State) (u : Issue) (op : SlotOp) : Prop := CleanIssue s u ∧ (wordOf s u).slots = [op]

/-- The address after the word (R106). -/
def nextPc (s : State) (u : Issue) : Nat := ((issuingStream u s).pc + 4 * (wordOf s u).parcels) % 65536

/-- The stream goes on at an address, GAP cycles after the next cycle (R108). -/
def GoesOn (s t : State) (u : Issue) (pc : Nat) : Prop :=
  (issuingStream u t).pc = pc ∧ (issuingStream u t).readyAt = u.cycle + 1 + (wordOf s u).gap

/-- The result of the operation is in flight: it commits at the end of the cycle `L - 1` after the issue (R90). -/
def InFlight (s t : State) (u : Issue) (op : SlotOp) (L : Nat) (e : Effect) : Prop :=
  (t.core u.id).pend =
    (s.core u.id).pend ++ [⟨u.cycle + L - 1, u.cycle, u.ctx, u.access, op.slot, (issuingStream u s).pc, e⟩]

/-- No result is put in flight. -/
def NoResult (s t : State) (u : Issue) : Prop := (t.core u.id).pend = (s.core u.id).pend

/-- The I, S, V and M registers, mode and layer mark of every context of a core are the same. -/
def SameRegs (s t : State) (id : CoreId) : Prop :=
  ∀ x : Ctx, ((t.core id).ctx x).exe.iregs = ((s.core id).ctx x).exe.iregs ∧
    ((t.core id).ctx x).acc.iregs = ((s.core id).ctx x).acc.iregs ∧
    ((t.core id).ctx x).sregs = ((s.core id).ctx x).sregs ∧ ((t.core id).ctx x).vregs = ((s.core id).ctx x).vregs ∧
    ((t.core id).ctx x).mregs = ((s.core id).ctx x).mregs ∧ ((t.core id).ctx x).mode = ((s.core id).ctx x).mode ∧
    ((t.core id).ctx x).layer = ((s.core id).ctx x).layer

/-- The data queues of every context of a core are the same. -/
def SameQueues (s t : State) (id : CoreId) : Prop := ∀ x : Ctx, ((t.core id).ctx x).queues = ((s.core id).ctx x).queues

/-- Nothing outside a core changes but registers, counters and logs: memory, engines, network, carousel, step and update unit, row
engines, interrupts, fabric, power and every other core are the same. -/
def SameOutside (s t : State) (id : CoreId) : Prop :=
  t.mem = s.mem ∧ t.opes = s.opes ∧ t.net = s.net ∧ t.crs = s.crs ∧ t.step = s.step ∧ t.upd = s.upd ∧
    t.rowEngines = s.rowEngines ∧ t.irq = s.irq ∧ t.fab = s.fab ∧ t.cont = s.cont ∧ t.sec = s.sec ∧ t.flash = s.flash ∧
    t.power = s.power ∧ t.ledger = s.ledger ∧ t.pending = s.pending ∧
    ∀ y : CoreId, coreIdx y ≠ coreIdx id → t.core y = s.core y

/-- Nothing in a core changes but what a word's issue itself changes: its stores, flags, stream contexts and engine holder are the
same. -/
def SameStores (s t : State) (id : CoreId) : Prop :=
  (t.core id).store = (s.core id).store ∧ (t.core id).marks = (s.core id).marks ∧ (t.core id).istore = (s.core id).istore ∧
    (t.core id).holder = (s.core id).holder ∧ (t.core id).scs = (s.core id).scs

/-- Every flag of a core is the same. -/
def SameFlags (s t : State) (id : CoreId) : Prop := (t.core id).flags = (s.core id).flags

/-- The frame of a word whose operation only puts a result in flight: no register, flag, queue or byte of memory changes. -/
def WordFrame (s t : State) (u : Issue) : Prop :=
  SameRegs s t u.id ∧ SameQueues s t u.id ∧ SameOutside s t u.id ∧ SameStores s t u.id ∧ SameFlags s t u.id

/-- A vector result gives the lanes whose mask bit is 1 the values of `f`, and writes no other (R154). -/
def LanesGive (r : VRes) (w mask n : Nat) (f : Nat → Nat) : Prop :=
  ∀ i, i < n → laneOf r.keep w i = (if bitAt mask i then 2 ^ w - 1 else 0) ∧ (bitAt mask i = true → laneOf r.val w i = f i % 2 ^ w)

/-- A lane of the sum, difference or product of two registers: IEEE on floating-point lanes, modulo the lane width on integers
(R156, R157). -/
def laneArith (ty : Nat) (ff : Fmt → Nat → Nat → Nat) (fi : Int → Int → Int) (a b i : Nat) : Nat :=
  let w := laneBits ty
  if isInt ty then wrapTo w (fi (signedOf w (laneOf a w i)) (signedOf w (laneOf b w i)))
  else ff (typeFmt ty) (laneOf a w i) (laneOf b w i)

/-- Rows of the CTL slots: the operation of each, and its command. -/
def controlRows : List (OpName × (Issue → Instr)) :=
  [(OpName.end_, Instr.end_), (OpName.br, Instr.br), (OpName.bz, Instr.bz), (OpName.bnz, Instr.bnz),
   (OpName.loop, Instr.loop), (OpName.markStart, Instr.markStart), (OpName.markEnd, Instr.markEnd),
   (OpName.replayBegin, Instr.replayBegin), (OpName.replayEnd, Instr.replayEnd), (OpName.replayRun, Instr.replayRun),
   (OpName.brk, Instr.brk)]

/-- Rows of the QF and AD slots: the operation of each, and its command. -/
def queueRows : List (OpName × (Issue → Instr)) :=
  [(OpName.fset, Instr.fset), (OpName.fadd, Instr.fadd), (OpName.fwait, Instr.fwait), (OpName.qpopi, Instr.qpopi),
   (OpName.qpushi, Instr.qpushi), (OpName.qdrop, Instr.qdrop), (OpName.imovi, Instr.imovi),
   (OpName.iadd, Instr.iadd), (OpName.iaddi, Instr.iaddi), (OpName.isub, Instr.isub), (OpName.ishli, Instr.ishli),
   (OpName.iand, Instr.iand)]

/-- Rows of the MX and DR slots: the operation of each, and its command. -/
def matrixRows : List (OpName × (Issue → Instr)) :=
  [(OpName.mxSweep, Instr.mxSweep), (OpName.mxCoord, Instr.mxCoord), (OpName.mxPass, Instr.mxPass),
   (OpName.mxDrain, Instr.mxDrain)]

/-- Rows of the VA and VX slots: the operation of each, and its command. -/
def vectorRows : List (OpName × (Issue → Instr)) :=
  [(OpName.vadd, Instr.vadd), (OpName.vsub, Instr.vsub), (OpName.vmul, Instr.vmul), (OpName.vfma, Instr.vfma),
   (OpName.vrcp, Instr.vrcp), (OpName.vrsq, Instr.vrsq), (OpName.vexp2, Instr.vexp2), (OpName.vlog2, Instr.vlog2),
   (OpName.vcvt, Instr.vcvt), (OpName.vrsum, Instr.vrsum), (OpName.vpass, Instr.vpass), (OpName.vmax, Instr.vmax),
   (OpName.vmin, Instr.vmin), (OpName.vabs, Instr.vabs), (OpName.vneg, Instr.vneg), (OpName.vcmp, Instr.vcmp),
   (OpName.vsel, Instr.vsel), (OpName.vmov, Instr.vmov), (OpName.vbcst, Instr.vbcst)]

/-- Rows of the VL slots: the operation of each, and its command. -/
def vectorMemRows : List (OpName × (Issue → Instr)) :=
  [(OpName.vld, Instr.vld), (OpName.vst, Instr.vst), (OpName.vqpop, Instr.vqpop), (OpName.vqpush, Instr.vqpush)]

/-- Rows of the SA0 and SA1 slots: the operation of each, and its command. -/
def scalarRows : List (OpName × (Issue → Instr)) :=
  [(OpName.sadd, Instr.sadd), (OpName.ssub, Instr.ssub), (OpName.sand, Instr.sand), (OpName.sor, Instr.sor),
   (OpName.sxor, Instr.sxor), (OpName.sshl, Instr.sshl), (OpName.sshr, Instr.sshr), (OpName.ssra, Instr.ssra),
   (OpName.smovi, Instr.smovi), (OpName.saddi, Instr.saddi), (OpName.scmplt, Instr.scmplt),
   (OpName.scmpeq, Instr.scmpeq), (OpName.stoi, Instr.stoi), (OpName.itos, Instr.itos), (OpName.smul, Instr.smul),
   (OpName.sdivu, Instr.sdivu), (OpName.spass, Instr.spass)]

/-- Rows of the SM slots: the operation of each, and its command. -/
def scalarMemRows : List (OpName × (Issue → Instr)) :=
  [(OpName.sld, Instr.sld), (OpName.sst, Instr.sst), (OpName.sqpop, Instr.sqpop), (OpName.sqpush, Instr.sqpush),
   (OpName.sregwr, Instr.sregwr)]

/-- Rows of the JG slots: the operation of each, and its command. -/
def jugglerRows : List (OpName × (Issue → Instr)) :=
  [(OpName.jgBase, Instr.jgBase), (OpName.jgLoop, Instr.jgLoop), (OpName.jgDest, Instr.jgDest),
   (OpName.jgRun, Instr.jgRun), (OpName.jgSwap, Instr.jgSwap), (OpName.jgStop, fun u => Instr.jgStop ⟨u, none⟩),
   (OpName.jgLd, Instr.jgLd), (OpName.jgSt, Instr.jgSt), (OpName.jgMove, Instr.jgMove)]

/-- The rows of the table that name an operation of a long word. -/
def opRows : List (OpName × (Issue → Instr)) :=
  List.append controlRows (List.append queueRows (List.append matrixRows (List.append vectorRows
    (List.append vectorMemRows (List.append scalarRows (List.append scalarMemRows jugglerRows))))))

/-! ### Frames -/

/-- The parts of the state that a frame speaks of. -/
inductive Part where
  | pending | tick | fresh | regs | staged | counters | logs | snaps | cores | opes | mem | retireDue | rowEngines | numIn | step | net
  | crs | upd | num | ledger | fab | irq | cont | sec | flash | power
  deriving DecidableEq, Repr

/-- A part of the state is the same. -/
def Untouched (s t : State) : Part → Prop
  | .pending => t.pending = s.pending
  | .tick => t.tick = s.tick
  | .fresh => t.fresh = s.fresh
  | .regs => t.regs = s.regs
  | .staged => t.staged = s.staged
  | .counters => t.counters = s.counters
  | .logs => t.logs = s.logs
  | .snaps => t.snaps = s.snaps
  | .cores => t.cores = s.cores
  | .opes => t.opes = s.opes
  | .mem => t.mem = s.mem
  | .retireDue => t.retireDue = s.retireDue
  | .rowEngines => t.rowEngines = s.rowEngines
  | .numIn => t.numIn = s.numIn
  | .step => t.step = s.step
  | .net => t.net = s.net
  | .crs => t.crs = s.crs
  | .upd => t.upd = s.upd
  | .num => t.num = s.num
  | .ledger => t.ledger = s.ledger
  | .fab => t.fab = s.fab
  | .irq => t.irq = s.irq
  | .cont => t.cont = s.cont
  | .sec => t.sec = s.sec
  | .flash => t.flash = s.flash
  | .power => t.power = s.power

/-- Every part of the state but those named is the same. -/
def OnlyIn (s t : State) (ps : List Part) : Prop := ∀ p : Part, p ∉ ps → Untouched s t p

/-! ### Talel requests -/

/-- A request stands at the head of an OPEN context that can send its answer at once, and passes the checks that come before its
class acts (R350, R354). -/
def RequestReady (s : State) (n : Nat) (m : Msg) (rest : List Msg) : Prop :=
  (s.tctx n).st = 1 ∧ (s.tctx n).ready = m :: rest ∧ (s.tctx n).queue = [] ∧ (s.tctx n).unacked.length < min (s.tctx n).cwnd s.cwndMax ∧
    reqCode s (s.tctx n) m = 0

/-- The context has sent the answer of a request: its class, its TAG, and a payload (R355). -/
def Answers (s t : State) (n : Nat) (m : Msg) (len data : Nat) : Prop :=
  ∃ e : Unacked, (t.tctx n).unacked = (s.tctx n).unacked ++ [e] ∧ e.msg.cls = m.cls ∧ e.msg.resp = true ∧ e.msg.tag = m.tag ∧
    e.msg.len = len ∧ e.msg.data = data ∧ e.msg.psn = (s.tctx n).txNext

/-- A byte range of one data tile that has its home, is not moving, waits for nothing and lies in a partition (R190, R193, R401). -/
def PlainTile (s : State) (part tile : Nat) : Prop :=
  isDataTile tile = true ∧ s.tileInPart (some part) tile = true ∧ s.saturated (agentOf tile) = false ∧ s.hasHome tile = true ∧
    eMoving (s.entry tile) = false ∧ s.holdsFor tile = false ∧ s.mem.atomics.all (fun k => decide (k.addr / 0x8000 ≠ tile)) = true

/-- The tiles of a range accept a write at once. -/
def AcceptsNow (s : State) (part a n : Nat) : Prop :=
  ∀ p ∈ accessPieces a n, ∃ tile side off, spotOf p.1 = .tile tile side off ∧ PlainTile s part tile

/-- No access of a context to the range stands at an agent, and none has been served. -/
def NothingAsked (s : State) (n a len : Nat) : Prop := servedAt s (.talel n) a len = none ∧ pendingAt s (.talel n) a len = false

/-! ### Register accesses -/

/-- A write by a requester reaches a register of a page: what the checks leave, which for a Periscope frame renews its session and is
else the state itself (R378, R394, R430). -/
def WriteReaches (s s1 : State) (p : Page) (off : Nat) (who : Requester) (v : Nat) : Prop :=
  busCheck s (p.key off) who true v = (s1, .ok p)

/-- A read by a requester reaches a register of a page. -/
def ReadReaches (s s1 : State) (p : Page) (off : Nat) (who : Requester) : Prop :=
  busCheck s (p.key off) who false 0 = (s1, .ok p)

/-! ### Management and the service port -/

/-- A complete management operation stands to be carried out, and its context can send the answer at once (R418). -/
def MgtReady (s : State) (n : Nat) (k : MgtOp) (op : Nat) : Prop :=
  s.sec.mgt = some k ∧ k.ctx = some n ∧ k.complete = true ∧ k.op = op ∧ (s.tctx n).queue = [] ∧
    (s.tctx n).unacked.length < min (s.tctx n).cwnd s.cwndMax

/-- The operation is over, and its context has sent an outcome and at most 8,192 bytes of data (R418). -/
def MgtAnswers (s t : State) (n : Nat) (k : MgtOp) (status len data : Nat) : Prop :=
  t.sec.mgt = none ∧ Answers s t n { cls := 7, tag := k.tag } (8 + len) (k.op + status * 2 ^ 8 + data * 2 ^ 64)

/-- The service port can take a whole operation in one frame (R428). -/
def SvcReady (s : State) (f : SvcFrame) : Prop :=
  s.sec.vbus = true ∧ s.power.dark = false ∧ s.sec.svc = none ∧ f.chunk = 0 ∧ f.chunksM1 = 0

/-- The service port has sent one frame of an outcome and data. -/
def SvcSays (s t : State) (f : SvcFrame) (status len data : Nat) : Prop :=
  t.sec.sent = ⟨f.op % 2 ^ 8 + status * 2 ^ 8, 0, 0, len, data⟩ :: s.sec.sent

/-- Every running context of some cores halts. -/
def AllHalt (s t : State) (mine : CoreId → Prop) : Prop :=
  ∀ (id : CoreId) x, mine id → ((s.core id).ctx x).mode = .running → ((t.core id).ctx x).mode = .halting

end Sys2Proof.Machine
end

