-- ==== Sys2Proof/Certificates/Slice0/Obligations.lean ====
section
/-! DEFINITION. The statements. -/

open Sys2Proof Sys2Proof.Machine

/-! ### Steps and words -/

/-- A step runs the command at the front of the queue on the state with the rest of the queue. -/
def Sys2Proof.Claims.StepRunsFront : Prop :=
  ∀ (c : Instr) (s : State), step { s with pending := c :: s.pending } = exec c s

/-- On an empty queue a reference tick passes and nothing else changes: the model's choice (log entry 2). -/
def Obligations.IdleTick : Prop := ∀ s : State, s.pending = [] → step s = .next { s with tick := s.tick + 1 }

/-- The row of each operation issues the stream's next word if that word holds the operation and may issue, every slot taking effect on
operands of the state before the word (R83, R113); with another word, or while the word must wait, nothing happens. -/
def Obligations.RowsIssueTheirWord : Prop :=
  ∀ e ∈ opRows, ∀ (s : State) (u : Issue),
    (hasOp e.1 (wordOf s u) = true → CleanIssue s u →
      exec (e.2 u) s = .next (performWord (atCycle s u.id u.cycle) u)) ∧
    (hasOp e.1 (wordOf s u) = false → exec (e.2 u) s = .next s) ∧ (¬ MayIssue s u → exec (e.2 u) s = .next s)

/-- Two scalar ALU slots of one word both read what stood before the word (R113): each result in flight is computed from the S registers
of the state before, whatever the other slot writes. -/
def Obligations.SlotsReadBeforeTheWord : Prop :=
  ∀ (s : State) (u : Issue) (a b : SlotOp),
    CleanIssue s u → kindOf u.id = .scalar → (wordOf s u).slots = [a, b] → a.slot = 4 → b.slot = 5 →
    a.name = .sadd → b.name ∈ [OpName.sadd, .ssub, .sand, .sor, .sxor] →
    let k := (s.core u.id).ctx u.ctx
    let r (op : SlotOp) : Pend := ⟨u.cycle, u.cycle, u.ctx, u.access, op.slot, (issuingStream u s).pc,
      .sreg (field op.raw 10 6) (scalarAlu op.name (k.sreg (field op.raw 15 11)) (k.sreg (field op.raw 20 16)) (field op.raw 63 32))⟩
    ∃ t, exec (.sadd u) s = .next t ∧ (t.core u.id).pend = (s.core u.id).pend ++ [r a, r b] ∧ WordFrame s t u

/-- END, BR, BZ, BNZ and LOOP (R116, R117): where the stream goes, what LOOP leaves in its register, and that END ends the stream; no
register, flag, queue or byte of memory changes at the issue. -/
def Obligations.Branches : Prop :=
  ∀ (s : State) (u : Issue) (op : SlotOp), SoleIssue s u op → op.slot = 0 →
    let r := (issuingStream u s).ireg (field op.raw 9 6)
    let target := field op.raw 31 16
    (op.name = .br → ∃ t, exec (.br u) s = .next t ∧ GoesOn s t u target ∧ NoResult s t u ∧ WordFrame s t u) ∧
    (op.name = .bz → ∃ t, exec (.bz u) s = .next t ∧ GoesOn s t u (if r = 0 then target else nextPc s u) ∧
      NoResult s t u ∧ WordFrame s t u) ∧
    (op.name = .bnz → ∃ t, exec (.bnz u) s = .next t ∧ GoesOn s t u (if r = 0 then nextPc s u else target) ∧
      NoResult s t u ∧ WordFrame s t u) ∧
    (op.name = .loop → ∃ t, exec (.loop u) s = .next t ∧ GoesOn s t u (if r = 1 then nextPc s u else target) ∧
      InFlight s t u op 1 (.ireg (field op.raw 9 6) (r - 1)) ∧ WordFrame s t u) ∧
    (op.name = .end_ → u.access = false → ∃ t, exec (.end_ u) s = .next t ∧ GoesOn s t u (nextPc s u) ∧
      (issuingStream u t).ended = true ∧ NoResult s t u ∧ WordFrame s t u) ∧
    (op.name = .end_ → u.access = true → ∃ t, exec (.end_ u) s = .next t ∧ GoesOn s t u (nextPc s u) ∧
      (issuingStream u t).ended = true ∧ NoResult s t u ∧ SameRegs s t u.id ∧ SameQueues s t u.id ∧ SameFlags s t u.id ∧
      ∀ n, ((s.core u.id).sc n).owner = some u.ctx →
        ((s.core u.id).sc n).state = scSegWait → ((t.core u.id).sc n).state = scStopped)

/-- A word whose SLOT_MASK is zero is legal: it performs no operation and only spaces issue by its GAP (R109). -/
def Obligations.EmptyWords : Prop :=
  ∀ (s : State) (u : Issue), CleanIssue s u → isEmptyWord (wordOf s u) = true →
    ∃ t, exec (.emptyWord u) s = .next t ∧ GoesOn s t u (nextPc s u) ∧ NoResult s t u ∧ WordFrame s t u

/-- A word whose FWAIT holds only spaces issue (R87), and one whose FWAIT does not hold does not issue. -/
def Sys2Proof.Claims.FlagWaits : Prop :=
  ∀ (s : State) (u : Issue),
    (∀ op, SoleIssue s u op → op.name = .fwait → op.slot = 1 ∨ op.slot = 2 →
      ∃ t, exec (.fwait u) s = .next t ∧ GoesOn s t u (nextPc s u) ∧ NoResult s t u ∧ WordFrame s t u) ∧
    (∀ op, op ∈ (wordOf s u).slots → op.name = .fwait → (wordOf s u).causes = [] → (wordOf s u).absent = false →
      ((s.core u.id).flag u.ctx (field op.raw 15 8)).released (issuingStream u s).readyAt u.cycle (field op.raw 17 16)
        (field op.raw 47 24) = false → exec (.fwait u) s = .next s)

/-- A word with BRK issues and its context halts with BREAKPOINT (R100): the PC holds the address of the next word. -/
def Sys2Proof.Claims.Breakpoint : Prop :=
  ∀ (s : State) (u : Issue) (op : SlotOp), MayIssue s u → coreCause (atCycle s u.id u.cycle) u = none →
    (wordOf s u).slots = [op] → op.name = .brk → op.slot = 0 → wordCauses (atCycle s u.id u.cycle) u = [] →
    issueCause (atCycle s u.id u.cycle) { u with access := !u.access } = none →
    ∃ t, exec (.brk u) s = .next t ∧ ((t.core u.id).ctx u.ctx).mode = .halting ∧ GoesOn s t u (nextPc s u) ∧
      t.regN (corePage u.id) (ctxOff u.ctx 0x0C) = b2n u.access * 256 + 0x0D ∧
      t.regN (corePage u.id) (ctxOff u.ctx 0x10) = nextPc s u ∧ t.regN (corePage u.id) (ctxOff u.ctx 0x14) = 0 ∧ t.mem = s.mem

/-- A word that reaches issue and holds an undefined opcode or names an absent slot halts its context (R98-R100, R107, R111): nothing of
the word happens, the PC stays at it, and the cause with its stream, address and slot is recorded. -/
def Sys2Proof.Claims.BadWordsHalt : Prop :=
  ∀ (s : State) (u : Issue) (cause slot : Nat), MayIssue s u → coreCause (atCycle s u.id u.cycle) u = none →
    issueCause (atCycle s u.id u.cycle) u = some (cause, slot) → wordCauses (atCycle s u.id u.cycle) u ≠ [] →
    issueCause (atCycle s u.id u.cycle) { u with access := !u.access } = none →
    let halts (t : State) : Prop :=
      ((t.core u.id).ctx u.ctx).mode = .halting ∧ (issuingStream u t).pc = (issuingStream u s).pc ∧ NoResult s t u ∧
        t.regN (corePage u.id) (ctxOff u.ctx 0x0C) = b2n u.access * 256 + cause ∧
        t.regN (corePage u.id) (ctxOff u.ctx 0x10) = (issuingStream u s).pc % 2 ^ 32 ∧
        t.regN (corePage u.id) (ctxOff u.ctx 0x14) = slot % 2 ^ 32 ∧ t.mem = s.mem ∧ SameQueues s t u.id ∧ SameFlags s t u.id
    (isIllegal (wordOf s u) = true → cause = causeIllegal → ∃ t, exec (.illegalOpcode u) s = .next t ∧ halts t) ∧
    ((wordOf s u).absent = true → cause = causeSlotAbsent → ∃ t, exec (.slotAbsent u) s = .next t ∧ halts t)

/-- FSET and FADD write a flag of any of the core's contexts (R86, R88): after FSET the flag's latest value is OPERAND, after FADD it is
OPERAND more, modulo 2^24, where no other write of that flag takes effect in the cycle. -/
def Sys2Proof.Claims.FlagWrites : Prop :=
  ∀ (s : State) (u : Issue) (op : SlotOp), SoleIssue s u op → op.slot = 1 ∨ op.slot = 2 →
    let y := Ctx.ofIdx (field op.raw 7 6)
    let f := field op.raw 15 8
    let v := field op.raw 47 24
    ((s.core u.id).flag y f).hist.all (fun w => decide (w.cycle < u.cycle)) = true →
    (op.name = .fset → ∃ t, exec (.fset u) s = .next t ∧ ((t.core u.id).flag y f).value = v ∧
      GoesOn s t u (nextPc s u) ∧ NoResult s t u ∧ SameRegs s t u.id ∧ SameQueues s t u.id ∧ SameOutside s t u.id ∧
      SameStores s t u.id ∧ ∀ z g, 256 * z.idx + g ≠ 256 * y.idx + f → (t.core u.id).flag z g = (s.core u.id).flag z g) ∧
    (op.name = .fadd → ∃ t, exec (.fadd u) s = .next t ∧
      ((t.core u.id).flag y f).value = (((s.core u.id).flag y f).value + v) % 2 ^ 24 ∧
      GoesOn s t u (nextPc s u) ∧ NoResult s t u ∧ SameRegs s t u.id ∧ SameQueues s t u.id ∧ SameOutside s t u.id ∧
      SameStores s t u.id ∧ ∀ z g, 256 * z.idx + g ≠ 256 * y.idx + f → (t.core u.id).flag z g = (s.core u.id).flag z g)

/-- QPOPI, QDROP and QPUSHI (R82, R83, R120): a pop takes the head entry out of its queue, QPOPI sends a word of it to an I register, and
a push reserves a slot for the entry made of two I registers and an immediate. -/
def Sys2Proof.Claims.IntegerQueueOps : Prop :=
  ∀ (s : State) (u : Issue) (op : SlotOp), SoleIssue s u op → op.slot = 1 ∨ op.slot = 2 →
    let q := field op.raw 10 8
    let k := (s.core u.id).ctx u.ctx
    let popped (t : State) : Prop := ((t.core u.id).ctx u.ctx).queue q = (k.queue q).pop u.cycle ∧
      (∀ r, r ≠ q → ((t.core u.id).ctx u.ctx).queue r = k.queue r) ∧ GoesOn s t u (nextPc s u) ∧ SameRegs s t u.id ∧
      SameOutside s t u.id ∧ SameStores s t u.id ∧ SameFlags s t u.id
    (op.name = .qpopi → ∃ t, exec (.qpopi u) s = .next t ∧ popped t ∧
      InFlight s t u op 1 (.ireg (field op.raw 19 16) (BitVec.ofNat 32 ((k.queue q).head.toNat / 2 ^ (32 * field op.raw 14 11))))) ∧
    (op.name = .qdrop → ∃ t, exec (.qdrop u) s = .next t ∧ popped t ∧ NoResult s t u) ∧
    (op.name = .qpushi → ∃ t, exec (.qpushi u) s = .next t ∧
      InFlight s t u op 1 (.push q (BitVec.ofNat 512 (((issuingStream u s).ireg (field op.raw 19 16)).toNat +
        2 ^ 32 * ((issuingStream u s).ireg (field op.raw 23 20)).toNat + 2 ^ 64 * field op.raw 47 24))) ∧
      ((t.core u.id).ctx u.ctx).queue q = { k.queue q with reserved := (k.queue q).reserved + 1 } ∧
      GoesOn s t u (nextPc s u) ∧ SameRegs s t u.id ∧ SameOutside s t u.id ∧ SameStores s t u.id ∧ SameFlags s t u.id)

/-- IMOVI, IADD, IADDI, ISUB, ISHLI and IAND (R114): the I register that the result commits to at the end of the issue cycle; I0 reads as
0; nothing else changes. -/
def Obligations.AddressOps : Prop :=
  ∀ (s : State) (u : Issue) (op : SlotOp), SoleIssue s u op → op.slot = 3 →
    let st := issuingStream u s
    let a := st.ireg (field op.raw 13 10)
    let b := st.ireg (field op.raw 17 14)
    let imm := BitVec.ofNat 32 (field op.raw 63 32)
    let gives (c : Instr) (v : Word) : Prop := ∃ t, exec c s = .next t ∧ InFlight s t u op 1 (.ireg (field op.raw 9 6) v) ∧
      GoesOn s t u (nextPc s u) ∧ WordFrame s t u
    st.ireg 0 = 0 ∧
    (op.name = .imovi → gives (.imovi u) imm) ∧ (op.name = .iadd → gives (.iadd u) (a + b)) ∧
    (op.name = .iaddi → gives (.iaddi u) (a + imm)) ∧ (op.name = .isub → gives (.isub u) (a - b)) ∧
    (op.name = .ishli → gives (.ishli u) (a <<< field op.raw 22 18)) ∧ (op.name = .iand → gives (.iand u) (a &&& b))

/-- MARK.START and MARK.END (R118, R242): the layer mark commits at the end of the cycle and a phase of the layer is open on the stream;
MARK.END leaves no open phase. -/
def Sys2Proof.Claims.LayerMarks : Prop :=
  ∀ (s : State) (u : Issue) (op : SlotOp), SoleIssue s u op → op.slot = 0 →
    let l := field op.raw 31 16
    (op.name = .markStart → (issuingStream u s).phase = none → ∃ t, exec (.markStart u) s = .next t ∧
      InFlight s t u op 1 (.layer l) ∧ GoesOn s t u (nextPc s u) ∧ SameRegs s t u.id ∧ SameFlags s t u.id ∧ t.mem = s.mem ∧
      (issuingStream u t).phase = some ⟨l, s.tick, s.coreCycles u.id u.cycle, (issuingStream u s).active.isSome⟩) ∧
    (op.name = .markEnd → (issuingStream u s).repeatAt l = none → ∃ t, exec (.markEnd u) s = .next t ∧
      (issuingStream u t).phase = none ∧ GoesOn s t u (nextPc s u) ∧ NoResult s t u ∧ SameRegs s t u.id ∧ SameFlags s t u.id)

/-- REPLAY.BEGIN, REPLAY.END and REPLAY.RUN (R119): the first and last word of a range are recorded; a replay starts at the first word
and REPLAY.END of the active range returns to the word after REPLAY.RUN. -/
def Sys2Proof.Claims.Replays : Prop :=
  ∀ (s : State) (u : Issue) (op : SlotOp), SoleIssue s u op → op.slot = 0 →
    let r := field op.raw 11 6
    let st := issuingStream u s
    (op.name = .replayBegin → ∃ t, exec (.replayBegin u) s = .next t ∧ SMap.get (issuingStream u t).replay r = some (st.pc, none) ∧
      GoesOn s t u (nextPc s u) ∧ NoResult s t u ∧ SameRegs s t u.id ∧ t.mem = s.mem) ∧
    (∀ a e, op.name = .replayEnd → SMap.get st.replay r = some (a, e) → takePoint st (wordOf s u) = none →
      ∃ t, exec (.replayEnd u) s = .next t ∧ SMap.get (issuingStream u t).replay r = some (a, some st.pc) ∧
        (∀ back, st.active = some (r, back) → (issuingStream u t).active = none ∧ GoesOn s t u back) ∧
        (∀ b back, st.active = some (b, back) → b ≠ r → GoesOn s t u (nextPc s u)) ∧
        (st.active = none → GoesOn s t u (nextPc s u)) ∧ NoResult s t u ∧ SameRegs s t u.id ∧ t.mem = s.mem) ∧
    (∀ a e, op.name = .replayRun → SMap.get st.replay r = some (a, e) → ∃ t, exec (.replayRun u) s = .next t ∧
      (issuingStream u t).active = some (r, nextPc s u) ∧ GoesOn s t u a ∧ NoResult s t u ∧ SameRegs s t u.id ∧ t.mem = s.mem)

/-! ### The engines -/

/-- MX.SWEEP, MX.COORD and MX.DRAIN (R29, R30, R41, R66): a sweep operation joins those in flight and holds the sweep slot for U·s
cycles, CLEAR gives its bank a new ACS and restarts its product counter; the coordinates of later keys are set; a drain takes the rows
out of its bank and holds the drain slot for 256 cycles. -/
def Sys2Proof.Claims.MatrixOps : Prop :=
  ∀ (s : State) (u : Issue) (op : SlotOp), SoleIssue s u op → kindOf u.id = .matrix → u.access = false →
    let o := s.ope u.id
    let after (t : State) : Prop := GoesOn s t u (nextPc s u) ∧ NoResult s t u ∧ SameRegs s t u.id ∧ SameFlags s t u.id ∧
      SameQueues s t u.id ∧ t.mem = s.mem ∧ (t.ope u.id).holder = o.holder
    (op.name = .mxSweep → op.slot = 4 → ∃ t, exec (.mxSweep u) s = .next t ∧ after t ∧
      (t.ope u.id).sweeps = o.sweeps ++ [newSweep s u.id u.ctx op.raw u.cycle (issuingStream u s).pc] ∧
      (∀ cls, rateClass (field op.raw 23 20) (field op.raw 27 24) = some cls →
        (t.ope u.id).sweepFree = u.cycle + classCount cls (sweepK op.raw) * classStep cls ∧
        (sweepClear op.raw = true → (sweepBanks op.raw cls).1 = true →
          (t.ope u.id).front.acs = BitVec.ofNat 10 (field op.raw 73 64) ∧ (t.ope u.id).front.n = sweepK op.raw % 2 ^ 32)) ∧
      (t.ope u.id).drains = o.drains) ∧
    (op.name = .mxCoord → op.slot = 4 → ∃ t, exec (.mxCoord u) s = .next t ∧ after t ∧
      t.ope u.id = { o with coordRow := field op.raw 47 32, coordCol := field op.raw 63 48 }) ∧
    (op.name = .mxDrain → op.slot = 5 → ∃ t, exec (.mxDrain u) s = .next t ∧ after t ∧
      (t.ope u.id).drains = o.drains ++ [newDrain s u.id u.ctx op.raw u.cycle (issuingStream u s).pc] ∧ (t.ope u.id).drainFree = u.cycle + 256 ∧
      ((newDrain s u.id u.ctx op.raw u.cycle).takes false = true → (t.ope u.id).front.cells = []) ∧
      ((newDrain s u.id u.ctx op.raw u.cycle).takes true = true → (t.ope u.id).back.cells = []) ∧
      (t.ope u.id).sweeps = o.sweeps)

/-- MX.PASS, VPASS and SPASS (R28, R77, R121): the named context's flag 255 rises by 1 and it holds the engine from the end of the issue
cycle. -/
def Sys2Proof.Claims.EnginePasses : Prop :=
  ∀ (s : State) (u : Issue) (op : SlotOp) (code : Nat), SoleIssue s u op → u.access = false → op.slot = 4 →
    let y := Ctx.ofIdx code
    ((s.core u.id).flag y 255).hist.all (fun w => decide (w.cycle < u.cycle)) = true →
    let passes (c : Instr) : Prop := ∃ t, exec c s = .next t ∧ InFlight s t u op 1 (.holder y) ∧
      ((t.core u.id).flag y 255).value = (((s.core u.id).flag y 255).value + 1) % 2 ^ 24 ∧
      GoesOn s t u (nextPc s u) ∧ SameRegs s t u.id ∧ SameQueues s t u.id ∧ SameOutside s t u.id ∧ SameStores s t u.id
    (kindOf u.id = .matrix → op.name = .mxPass → field op.raw 7 6 = code → passes (.mxPass u)) ∧
    (kindOf u.id = .vector → op.name = .vpass → field op.raw 33 32 = code → passes (.vpass u)) ∧
    (kindOf u.id = .scalar → op.name = .spass → field op.raw 33 32 = code → passes (.spass u))

/-- The arithmetic of the VA slot on lanes (R153-R158): the register that takes the result, when, and its value in every lane whose mask
bit is 1, from the registers as they stood before the word; a lane whose mask bit is 0 is not written. -/
def Sys2Proof.Claims.VectorArithmetic : Prop :=
  ∀ (s : State) (u : Issue) (op : SlotOp), SoleIssue s u op → kindOf u.id = .vector → u.access = false → op.slot = 4 →
    let k := (s.core u.id).ctx u.ctx
    let ty := field op.raw 7 6
    let m := (k.mreg (field op.raw 30 28)).toNat
    let a := (k.vreg (field op.raw 17 13)).toNat
    let b := (k.vreg (field op.raw 22 18)).toNat
    let c := (k.vreg (field op.raw 27 23)).toNat
    let w := laneBits ty
    let gives (i : Instr) (L : Nat) (f : Nat → Nat) : Prop := ∃ (t : State) (r : VRes), exec i s = .next t ∧
      InFlight s t u op L (.vreg (field op.raw 12 8) r.val r.keep) ∧ LanesGive r w m (lanesOf ty) f ∧
      GoesOn s t u (nextPc s u) ∧ WordFrame s t u
    (op.name = .vadd → gives (.vadd u) (if isInt ty then 2 else 4) (laneArith ty fAdd (· + ·) a b)) ∧
    (op.name = .vsub → gives (.vsub u) (if isInt ty then 2 else 4) (laneArith ty fSub (· - ·) a b)) ∧
    (op.name = .vmul → gives (.vmul u) (if isInt ty then 2 else 4) (laneArith ty fMul (· * ·) a b)) ∧
    (op.name = .vfma → gives (.vfma u) (if isInt ty then 4 else 6) (fun i =>
      if isInt ty then wrapTo w (signedOf w (laneOf a w i) * signedOf w (laneOf b w i) + signedOf w (laneOf c w i))
      else fFma (typeFmt ty) (laneOf a w i) (laneOf b w i) (laneOf c w i))) ∧
    (op.name = .vrcp → gives (.vrcp u) 10 (fun i => (rcpLane ty (laneOf a w i)).1)) ∧
    (op.name = .vrsq → gives (.vrsq u) 10 (fun i => (rsqLane ty (laneOf a w i)).1)) ∧
    (op.name = .vexp2 → gives (.vexp2 u) 12 (fun i => (exp2Lane ty (laneOf a w i)).1)) ∧
    (op.name = .vlog2 → gives (.vlog2 u) 12 (fun i => (log2Lane ty (laneOf a w i)).1))

/-- VCVT (R160): each lane converted, into the destination lanes that PART names. -/
def Sys2Proof.Claims.VectorConvert : Prop :=
  ∀ (s : State) (u : Issue) (op : SlotOp), SoleIssue s u op → kindOf u.id = .vector → u.access = false → op.slot = 4 →
    let k := (s.core u.id).ctx u.ctx
    let ty := field op.raw 7 6
    let m := (k.mreg (field op.raw 30 28)).toNat
    let a := (k.vreg (field op.raw 17 13)).toNat
    let ty2 := field op.raw 33 32
    let part := field op.raw 36 35
    let rnd : Rnd := if bitAt op.raw 34 then .toZero else .nearest
    (op.name = .vcvt → lanesOf ty2 ≤ lanesOf ty → ∃ (t : State) (r : VRes), exec (.vcvt u) s = .next t ∧
      InFlight s t u op 4 (.vreg (field op.raw 12 8) r.val r.keep) ∧
      LanesGive r (laneBits ty2) m (lanesOf ty2) (fun i => (convLane ty ty2 rnd (laneOf a (laneBits ty)
        (if lanesOf ty2 < lanesOf ty then part * lanesOf ty2 + i else i))).1) ∧ GoesOn s t u (nextPc s u) ∧ WordFrame s t u) ∧
    (op.name = .vcvt → lanesOf ty < lanesOf ty2 → ∃ (t : State) (r : VRes), exec (.vcvt u) s = .next t ∧
      InFlight s t u op 4 (.vreg (field op.raw 12 8) r.val r.keep) ∧
      (∀ i, i < lanesOf ty → bitAt m (part * lanesOf ty + i) = true →
        laneOf r.val (laneBits ty2) (part * lanesOf ty + i) = (convLane ty ty2 rnd (laneOf a (laneBits ty) i)).1 % 2 ^ laneBits ty2) ∧
      (∀ i, i < part * lanesOf ty → laneOf r.keep (laneBits ty2) i = 0) ∧ GoesOn s t u (nextPc s u) ∧ WordFrame s t u)

/-- VRSUM (R161): lane 0 takes the sum of all lanes in the fixed tree, each floating-point addition rounded once, the other lanes 0; a lane
whose mask bit is 0 is not written. -/
def Obligations.RowSum : Prop :=
  ∀ (s : State) (u : Issue) (op : SlotOp), SoleIssue s u op → kindOf u.id = .vector → u.access = false → op.slot = 4 →
    let k := (s.core u.id).ctx u.ctx
    let ty := field op.raw 7 6
    let m := (k.mreg (field op.raw 30 28)).toNat
    let a := (k.vreg (field op.raw 17 13)).toNat
    (op.name = .vrsum → ∃ (t : State) (r : VRes), exec (.vrsum u) s = .next t ∧
      InFlight s t u op (if isInt ty then 8 else 14) (.vreg (field op.raw 12 8) r.val r.keep) ∧
      LanesGive r 32 m 512 (fun i => if i = 0 then
        (if isInt ty then treeSum (fun x y => (x + y) % 2 ^ 32) 9 ((List.range 512).map (laneOf a 32))
         else treeSum (fAdd fp32) 9 ((List.range 512).map (laneOf a 32))) else 0) ∧
      GoesOn s t u (nextPc s u) ∧ WordFrame s t u)

/-- The operations of the VX slot on lanes (R125, R153-R159): maximum, minimum, absolute value, negation, selection, copy and broadcast into
a V register, comparison into an M register. -/
def Sys2Proof.Claims.VectorSelects : Prop :=
  ∀ (s : State) (u : Issue) (op : SlotOp), SoleIssue s u op → kindOf u.id = .vector → u.access = false → op.slot = 5 →
    let k := (s.core u.id).ctx u.ctx
    let ty := field op.raw 7 6
    let m := (k.mreg (field op.raw 30 28)).toNat
    let a := (k.vreg (field op.raw 17 13)).toNat
    let b := (k.vreg (field op.raw 22 18)).toNat
    let w := laneBits ty
    let gives (i : Instr) (L mask : Nat) (f : Nat → Nat) : Prop := ∃ (t : State) (r : VRes), exec i s = .next t ∧
      InFlight s t u op L (.vreg (field op.raw 12 8) r.val r.keep) ∧ LanesGive r w mask (lanesOf ty) f ∧
      GoesOn s t u (nextPc s u) ∧ WordFrame s t u
    (op.name = .vmax → gives (.vmax u) 2 m (laneArith ty fMax max a b)) ∧
    (op.name = .vmin → gives (.vmin u) 2 m (laneArith ty fMin min a b)) ∧
    (op.name = .vabs → gives (.vabs u) 2 m (fun i => if isInt ty then wrapTo w ((signedOf w (laneOf a w i)).natAbs : Int)
      else laneOf a w i % 2 ^ (w - 1))) ∧
    (op.name = .vneg → gives (.vneg u) 2 m (fun i => if isInt ty then wrapTo w (-(signedOf w (laneOf a w i)))
      else (laneOf a w i + 2 ^ (w - 1)) % 2 ^ w)) ∧
    (op.name = .vsel → gives (.vsel u) 2 (2 ^ 2048 - 1) (fun i => if bitAt m i then laneOf a w i else laneOf b w i)) ∧
    (op.name = .vmov → gives (.vmov u) 1 m (laneOf a w)) ∧
    (op.name = .vbcst → gives (.vbcst u) 1 m (fun _ => field op.raw 63 32)) ∧
    (op.name = .vcmp → ∃ (t : State) (r : VRes), exec (.vcmp u) s = .next t ∧ InFlight s t u op 2 (.mreg (field op.raw 12 8) r.val r.keep) ∧
      LanesGive r 1 m (lanesOf ty) (fun i => b2n (cmpLane ty (field op.raw 34 32) (laneOf a w i) (laneOf b w i))) ∧
      (∀ i, lanesOf ty ≤ i → i < 2048 → bitAt r.keep i = true ∧ bitAt r.val i = false) ∧
      GoesOn s t u (nextPc s u) ∧ WordFrame s t u)

/-- VLD, VST, VQPOP and VQPUSH (R115, R126): 2,048 bytes between a V register and the local store as it stands at the start of the cycle,
whose addresses wrap; a 64-byte entry between a queue and a segment of a V register. -/
def Sys2Proof.Claims.VectorMoves : Prop :=
  ∀ (s : State) (u : Issue) (op : SlotOp), SoleIssue s u op → kindOf u.id = .vector → u.access = false → op.slot = 6 →
    let k := (s.core u.id).ctx u.ctx
    let v := field op.raw 12 8
    let seg := 512 * field op.raw 24 20
    let q := field op.raw 19 17
    let addr := (((issuingStream u s).ireg (field op.raw 16 13)).toNat + field op.raw 63 32) % (2 * 2 ^ 20)
    (op.name = .vld → ∃ t, exec (.vld u) s = .next t ∧
      InFlight s t u op 8 (.vreg v (Mem.readMod ((atCycle s u.id u.cycle).coreAt u.id u.cycle).store (2 * 2 ^ 20) addr 2048) (2 ^ 16384 - 1)) ∧
      GoesOn s t u (nextPc s u) ∧ WordFrame s t u) ∧
    (op.name = .vst → ∃ t, exec (.vst u) s = .next t ∧ InFlight s t u op 3 (.store addr 2048 (k.vreg v).toNat) ∧
      GoesOn s t u (nextPc s u) ∧ WordFrame s t u) ∧
    (op.name = .vqpop → ∃ t, exec (.vqpop u) s = .next t ∧
      InFlight s t u op 2 (.vreg v ((k.queue q).head.toNat * 2 ^ seg) ((2 ^ 512 - 1) * 2 ^ seg)) ∧
      ((t.core u.id).ctx u.ctx).queue q = (k.queue q).pop u.cycle ∧ GoesOn s t u (nextPc s u) ∧ SameRegs s t u.id ∧
      SameOutside s t u.id ∧ SameStores s t u.id ∧ SameFlags s t u.id) ∧
    (op.name = .vqpush → ∃ t, exec (.vqpush u) s = .next t ∧
      InFlight s t u op 1 (.push q (BitVec.ofNat 512 ((k.vreg v).toNat / 2 ^ seg))) ∧
      ((t.core u.id).ctx u.ctx).queue q = { k.queue q with reserved := (k.queue q).reserved + 1 } ∧
      GoesOn s t u (nextPc s u) ∧ SameRegs s t u.id ∧ SameOutside s t u.id ∧ SameStores s t u.id ∧ SameFlags s t u.id)

/-- The scalar ALU (R127, R165): the S register that each operation's result commits to, after its latency; S0 reads as 0; nothing else
changes. -/
def Sys2Proof.Claims.ScalarAlu : Prop :=
  ∀ (s : State) (u : Issue) (op : SlotOp), SoleIssue s u op → kindOf u.id = .scalar → u.access = false → op.slot = 4 ∨ op.slot = 5 →
    let k := (s.core u.id).ctx u.ctx
    let a := k.sreg (field op.raw 15 11)
    let b := k.sreg (field op.raw 20 16)
    let imm := (BitVec.ofNat 32 (field op.raw 63 32)).signExtend 64
    let gives (i : Instr) (L : Nat) (v : Word64) : Prop := ∃ t, exec i s = .next t ∧
      InFlight s t u op L (.sreg (field op.raw 10 6) v) ∧ GoesOn s t u (nextPc s u) ∧ WordFrame s t u
    k.sreg 0 = 0 ∧
    (op.name = .sadd → gives (.sadd u) 1 (a + b)) ∧ (op.name = .ssub → gives (.ssub u) 1 (a - b)) ∧
    (op.name = .sand → gives (.sand u) 1 (a &&& b)) ∧ (op.name = .sor → gives (.sor u) 1 (a ||| b)) ∧
    (op.name = .sxor → gives (.sxor u) 1 (a ^^^ b)) ∧ (op.name = .sshl → gives (.sshl u) 1 (a <<< (b.toNat % 64))) ∧
    (op.name = .sshr → gives (.sshr u) 1 (a >>> (b.toNat % 64))) ∧
    (op.name = .ssra → gives (.ssra u) 1 (a.sshiftRight (b.toNat % 64))) ∧
    (op.name = .smovi → gives (.smovi u) 1 imm) ∧ (op.name = .saddi → gives (.saddi u) 1 (a + imm)) ∧
    (op.name = .scmplt → gives (.scmplt u) 1 (if a.slt b then 1 else 0)) ∧
    (op.name = .scmpeq → gives (.scmpeq u) 1 (if a = b then 1 else 0)) ∧
    (op.name = .smul → gives (.smul u) 3 (a * b)) ∧
    (op.name = .sdivu → gives (.sdivu u) 18 (if b = 0 then BitVec.allOnes 64 else a / b)) ∧
    (op.name = .itos → gives (.itos u) 1 ((k.exe.ireg (field op.raw 24 21)).zeroExtend 64)) ∧
    (op.name = .stoi → ∃ t, exec (.stoi u) s = .next t ∧ InFlight s t u op 1 (.ireg (field op.raw 24 21) (a.truncate 32)) ∧
      GoesOn s t u (nextPc s u) ∧ WordFrame s t u)

/-- SLD, SST, SQPOP, SQPUSH (R115, R127, R164): 8 bytes between an S register and the local store, a word of a queue's head, a push of two
S registers; SREGWR, with no register load of its core before it (R384), writes the register window at the address it forms (R166), and a
refusal is recorded and counted. -/
def Sys2Proof.Claims.ScalarMoves : Prop :=
  ∀ (s : State) (u : Issue) (op : SlotOp), SoleIssue s u op → kindOf u.id = .scalar → u.access = false → op.slot = 6 →
    let k := (s.core u.id).ctx u.ctx
    let d := field op.raw 10 6
    let a := k.sreg (field op.raw 15 11)
    let q := field op.raw 22 20
    let addr := ((issuingStream u s).ireg (field op.raw 19 16)).toNat + field op.raw 63 32
    let store := addr % (256 * 2 ^ 10)
    (op.name = .sld → ∃ t, exec (.sld u) s = .next t ∧
      InFlight s t u op 4 (.sreg d (BitVec.ofNat 64 (Mem.readMod ((atCycle s u.id u.cycle).coreAt u.id u.cycle).store (256 * 2 ^ 10) store 8))) ∧
      GoesOn s t u (nextPc s u) ∧ WordFrame s t u) ∧
    (op.name = .sst → ∃ t, exec (.sst u) s = .next t ∧ InFlight s t u op 2 (.store store 8 (k.sreg d).toNat) ∧
      GoesOn s t u (nextPc s u) ∧ WordFrame s t u) ∧
    (op.name = .sqpop → ∃ t, exec (.sqpop u) s = .next t ∧
      InFlight s t u op 1 (.sreg d (BitVec.ofNat 64 ((k.queue q).head.toNat / 2 ^ (64 * field op.raw 25 23)))) ∧
      ((t.core u.id).ctx u.ctx).queue q = (k.queue q).pop u.cycle ∧ GoesOn s t u (nextPc s u) ∧ SameRegs s t u.id ∧
      SameOutside s t u.id ∧ SameStores s t u.id ∧ SameFlags s t u.id) ∧
    (op.name = .sqpush → ∃ t, exec (.sqpush u) s = .next t ∧
      InFlight s t u op 1 (.push q (BitVec.ofNat 512 ((k.sreg d).toNat + 2 ^ 64 * a.toNat))) ∧
      ((t.core u.id).ctx u.ctx).queue q = { k.queue q with reserved := (k.queue q).reserved + 1 } ∧
      GoesOn s t u (nextPc s u) ∧ SameRegs s t u.id ∧ SameOutside s t u.id ∧ SameStores s t u.id ∧ SameFlags s t u.id) ∧
    (op.name = .sregwr → nextLoad (s.core u.id) = none → earlyReads s u op = 0 → pageAt (addr % 2 ^ 24) = none →
      ∃ t, exec (.sregwr u) s = .next t ∧ NoResult s t u ∧ SameRegs s t u.id ∧ GoesOn s t u (nextPc s u) ∧
        bitAt (t.regN (sclPage u.id) 0x018) 0 = true ∧ bitAt (t.regN (sclPage u.id) 0x104) 31 = true ∧ t.mem = s.mem) ∧
    (op.name = .sregwr → nextLoad (s.core u.id) = none → earlyReads s u op = 0 → addr % 2 ^ 24 = (corePage u.id).key 0x1C0 →
      s.domainUp (corePage u.id).domain = true → s.admits (corePage u.id) (.sregwr u.id.cluster u.ctx) = true →
      ∃ t, exec (.sregwr u) s = .next t ∧ NoResult s t u ∧ SameRegs s t u.id ∧ GoesOn s t u (nextPc s u) ∧ SameOutside s t u.id ∧
        t.reg (corePage u.id) 0x1C0 = (s.reg (corePage u.id) 0x1C0 &&& ~~~0x1F1F#32) ||| ((k.sreg d).truncate 32 &&& 0x1F1F#32))

/-! ### The Juggler -/

/-- JG.BASE, JG.LOOP and JG.DEST (R132, R134, R147): each writes its fields of the stream context's descriptor, nothing else of it and no
other stream context. -/
def Sys2Proof.Claims.StreamDescriptors : Prop :=
  ∀ (s : State) (u : Issue) (op : SlotOp), SoleIssue s u op → u.access = true → 7 ≤ op.slot →
    let n := field op.raw 11 6
    let sc := (s.core u.id).sc n
    let sets (c : Instr) (d : JgDesc) : Prop := ∃ t, exec c s = .next t ∧ (t.core u.id).sc n = { sc with desc := d } ∧
      (∀ m, m ≠ n → (t.core u.id).sc m = (s.core u.id).sc m) ∧ GoesOn s t u (nextPc s u) ∧ NoResult s t u ∧
      SameRegs s t u.id ∧ SameQueues s t u.id ∧ SameOutside s t u.id ∧ SameFlags s t u.id ∧
      (t.core u.id).store = (s.core u.id).store
    (op.name = .jgBase → sets (.jgBase u) { sc.desc with
      base := (field op.raw 48 32 * 2 ^ 16 + field op.raw 31 16 + ((issuingStream u s).ireg (field op.raw 15 12)).toNat) % 2 ^ 33 }) ∧
    (op.name = .jgLoop → sets (.jgLoop u) { sc.desc with
      counts := setNth sc.desc.counts (field op.raw 13 12) (field op.raw 31 16 + 1)
      strides := setNth sc.desc.strides (field op.raw 13 12) (signedOf 24 (field op.raw 55 32)) }) ∧
    (op.name = .jgDest → sets (.jgDest u) { sc.desc with
      store := bitAt op.raw 12, dkind := field op.raw 15 13, half0 := field op.raw 16 16, first := field op.raw 22 17
      seg := field op.raw 28 23 + 1, flag := field op.raw 36 32 * 8 + field op.raw 31 29, sidecar := bitAt op.raw 37
      notify := decide (field op.raw 39 38 = 1), nq := field op.raw 41 40 })

/-- JG.RUN, JG.SWAP and JG.STOP (R136, R144): a run takes the descriptor as it stood before the word and starts RUNNING from the first
tile, or from the restart point of a STOPPED context, its requests going out from the next cycle on; a swap continues a SEG_WAIT context
into the next segment in the other half; a stop leaves a context with nothing in flight STOPPED. Other stream contexts only send what their
windows allow. JG.STOP of a Periscope session whose mask has bit 1 stops a context in FAULT_WAIT (R145, R429); with another mask, or no
session, no context stops. -/
def Sys2Proof.Claims.StreamRuns : Prop :=
  (∀ (s : State) (u : Issue) (op : SlotOp), SoleIssue s u op → u.access = true → 7 ≤ op.slot →
    let n := field op.raw 11 6
    let sc := (s.core u.id).sc n
    let after (t : State) : Prop := GoesOn s t u (nextPc s u) ∧ NoResult s t u ∧ SameRegs s t u.id ∧ SameQueues s t u.id ∧
      SameFlags s t u.id ∧ t.mem = s.mem ∧ (t.core u.id).store = (s.core u.id).store ∧
      ∀ m, m ≠ n → ∃ l, (t.core u.id).sc m = { (s.core u.id).sc m with reqs := ((s.core u.id).sc m).reqs ++ l }
    (op.name = .jgRun → bitAt op.raw 12 = false → ∃ t, exec (.jgRun u) s = .next t ∧ after t ∧
      let k := (t.core u.id).sc n
      k.owner = some u.ctx ∧ k.cur = sc.desc ∧ k.desc = sc.desc ∧ k.state = scRunning ∧ k.ctrs = [0, 0, 0, 0] ∧ k.pos = 0 ∧
        k.seq = 0 ∧ k.half = sc.desc.half0 ∧ k.swapPending = false ∧ k.stopping = false ∧ ∀ r ∈ k.reqs, r.sentAt = u.cycle + 1) ∧
    (op.name = .jgRun → bitAt op.raw 12 = true → runEnded sc.desc.counts (normCtrs sc.desc.counts sc.ctrs) = false →
      ∃ t, exec (.jgRun u) s = .next t ∧ after t ∧
      let k := (t.core u.id).sc n
      k.owner = some u.ctx ∧ k.cur = sc.desc ∧ k.state = scRunning ∧ k.ctrs = normCtrs sc.desc.counts sc.ctrs ∧
        k.pos = sc.pos % sc.desc.seg ∧ k.seq = sc.seq) ∧
    (op.name = .jgSwap → sc.state = scSegWait → ∃ t, exec (.jgSwap u) s = .next t ∧ after t ∧
      let k := (t.core u.id).sc n
      k.state = scRunning ∧ k.half = (if sc.cur.dkind < 2 then 1 - sc.half else sc.half) ∧ k.ctrs = sc.ctrs ∧ k.pos = sc.pos ∧
        k.owner = sc.owner ∧ k.cur = sc.cur) ∧
    (op.name = .jgSwap → sc.state = scRunning → ∃ t, exec (.jgSwap u) s = .next t ∧ after t ∧
      let k := (t.core u.id).sc n
      k.state = scRunning ∧ k.swapPending = true ∧ k.half = sc.half ∧ k.ctrs = sc.ctrs ∧ ∃ l, k.reqs = sc.reqs ++ l) ∧
    (op.name = .jgStop → sc.state = scRunning ∨ sc.state = scSegWait → sc.reqs = [] → ∃ t, exec (.jgStop ⟨u, none⟩) s = .next t ∧ after t ∧
      (t.core u.id).sc n = { sc with state := scStopped, swapPending := false, stopping := false }) ∧
    (op.name = .jgStop → sc.state = scRunning → sc.reqs ≠ [] → ∃ t, exec (.jgStop ⟨u, none⟩) s = .next t ∧ after t ∧
      (t.core u.id).sc n = { sc with stopping := true, swapPending := false })) ∧
  (∀ (s : State) (u : Issue) (n : Fin 64) (k : Session), s.sec.session = some k → coreDue s u.id u.cycle = true →
    let sc := (s.core u.id).sc n.val
    (bitAt k.mask 1 = true → sc.state = scFaultWait → ∃ t, exec (.jgStop ⟨u, some n⟩) s = .next t ∧ t.mem = s.mem ∧
      SameRegs s t u.id ∧ SameQueues s t u.id ∧ SameFlags s t u.id ∧ (t.core u.id).sc n.val = { sc with
        state := scStopped, swapPending := false, reqs := [], faultOpen := false, recorded := false, answer := none }) ∧
    (bitAt k.mask 1 = false → exec (.jgStop ⟨u, some n⟩) s = .next (touchSession s))) ∧
  (∀ (s : State) (u : Issue) (n : Fin 64), s.sec.session = none → exec (.jgStop ⟨u, some n⟩) s = .next s)

/-- JG.LD, JG.ST and JG.MOVE (R148-R150): a load makes its access stream wait for the response; a posted store changes the four bytes at
its place in HBM, joins the stores on their way to a Stash, or is discarded at an address that names nothing; a move's tiles are queued at
the cluster's mover. -/
def Sys2Proof.Claims.DeviceOps : Prop :=
  ∀ (s : State) (u : Issue) (op : SlotOp), SoleIssue s u op → u.access = true → 7 ≤ op.slot →
    let st := issuingStream u s
    let a := deviceAddr s u op.raw
    let v := (st.ireg (field op.raw 9 6)).toNat
    let after (t : State) : Prop := (issuingStream u t).pc = nextPc s u ∧ NoResult s t u ∧ SameRegs s t u.id ∧ SameQueues s t u.id ∧
      SameFlags s t u.id ∧ (t.core u.id).store = (s.core u.id).store ∧ (t.core u.id).scs = (s.core u.id).scs
    (op.name = .jgLd → ∃ t, exec (.jgLd u) s = .next t ∧ after t ∧ t.mem = s.mem ∧
      (issuingStream u t).loads = [{ reg := field op.raw 9 6, addr := a, word := st.pc, slot := op.slot, gap := (wordOf s u).gap, issued := u.cycle }]) ∧
    (op.name = .jgSt → spotOf a = .none → ∃ t, exec (.jgSt u) s = .next t ∧ after t ∧ t.mem = s.mem) ∧
    (∀ p, op.name = .jgSt → spotOf a = .system p → ∃ t, exec (.jgSt u) s = .next t ∧ after t ∧ t.mem = s.mem ∧
      (t.log ⟨.dir, (hbmMap a).stack⟩).writeSeq = wrapSucc 16 (s.log ⟨.dir, (hbmMap a).stack⟩).writeSeq) ∧
    (∀ tile side off, op.name = .jgSt → spotOf a = .tile tile side off → isDataTile tile = true →
      s.tileInPart (s.unitPart u.id.cluster.val) tile = true → s.hasHome tile = true → eMoving (s.entry tile) = false →
      s.saturated (agentOf tile) = false → s.holdsFor tile = false → s.mem.atomics.all (fun k => decide (k.addr / 0x8000 ≠ tile)) = true →
      ∃ t, exec (.jgSt u) s = .next t ∧ after t ∧ t.mem.dram = (s.put (s.tilePlace tile side off) 4 v).mem.dram ∧ t.mem.dir = s.mem.dir) ∧
    (∀ tile side off c d, op.name = .jgSt → spotOf a = .tile tile side off → stashOf tile = some (c, d) →
      s.tileInPart (s.unitPart u.id.cluster.val) tile = true → recomputing u.ctx st = false →
      ∃ t, exec (.jgSt u) s = .next t ∧ after t ∧ t.mem.dram = s.mem.dram ∧
        (t.stash c).inbox = (s.stash c).inbox ++ [⟨d, .bytes (some (.jgSt (coreIdx u.id) u.ctx)) side off 4 v false⟩]) ∧
    (op.name = .jgMove → ∃ t, exec (.jgMove u) s = .next t ∧ after t ∧ t.mem.dram = s.mem.dram ∧
      (t.mover u.id.cluster.val).reqs = (s.mover u.id.cluster.val).reqs ++
        [⟨(s.mover u.id.cluster.val).next, coreIdx u.id, u.ctx, field op.raw 21 14,
          wrapTo 33 (((st.ireg (field op.raw 13 10)).toNat : Int) + signedOf 32 (field op.raw 63 32)), field op.raw 29 22 + 1,
          field op.raw 6 6, 0⟩])

/-! ### Commits, contexts and what reaches a core from outside -/

/-- RESULT_COMMIT (R90, R91): the one result due at the end of the cycle takes its place, a store's bytes over what the ports have moved by
then (R139, R163); register 0 keeps its constant. (An entry for a queue whose EXT bit is set: TilesNotified.) -/
def Sys2Proof.Claims.OneResultCommits : Prop :=
  ∀ (s : State) (id : CoreId) (t : Nat) (p : Pend), coreDue s id t = true → anyIssuable s id t = false →
    (s.core id).pend.filter (fun q => decide (q.due = t)) = [p] →
    (∀ q d, p.what = .push q d → (((s.core id).ctx p.ctx).queue q).ext = false) →
    ∃ s', exec (.resultCommit id t) s = .next s' ∧ SameOutside { s with opes := s'.opes } s' id ∧
      (s'.core id).pend = (s.core id).pend.filter (fun q => decide (q.due ≠ t)) ∧
      (∀ v, p.what = .ireg 0 v ∨ (∃ w, p.what = .sreg 0 w) → SameRegs s s' id) ∧
      (∀ n v, p.what = .ireg n v → n ≠ 0 → ((((s'.core id).ctx p.ctx).stream p.access).ireg n = v ∧
        ((s'.core id).ctx p.ctx).sregs = ((s.core id).ctx p.ctx).sregs ∧ (s'.core id).store = (s.core id).store)) ∧
      (∀ n v, p.what = .sreg n v → n ≠ 0 → ((s'.core id).ctx p.ctx).sreg n = v ∧ (s'.core id).store = (s.core id).store) ∧
      (∀ n v keep, p.what = .vreg n v keep → ((s'.core id).ctx p.ctx).vreg n =
        (((s.core id).ctx p.ctx).vreg n &&& ~~~(BitVec.ofNat 16384 keep)) ||| BitVec.ofNat 16384 v) ∧
      (∀ n v keep, n ≠ 0 → p.what = .mreg n v keep → ((s'.core id).ctx p.ctx).mreg n =
        (((s.core id).ctx p.ctx).mreg n &&& ~~~(BitVec.ofNat 2048 keep)) ||| BitVec.ofNat 2048 v) ∧
      (∀ a l v, p.what = .store a l v → SameRegs s s' id ∧ (s'.core id).store = Mem.writeMod
        (Core.upTo (kindOf id) { (s.core id).reach t with pend := (s.core id).pend.filter (fun q => decide (q.due ≠ t)) } (t + 1)).store
        (storeSize (kindOf id)) a l v) ∧
      (∀ q d, p.what = .push q d → (((s'.core id).ctx p.ctx).queue q).items =
        (((s.core id).ctx p.ctx).queue q).items ++ [⟨d, t + 2, none⟩]) ∧
      (∀ n, p.what = .layer n → ((s'.core id).ctx p.ctx).layer = n) ∧
      (∀ x, p.what = .holder x → holderOf s' id = x)

/-- Two results of one stream for one S register that fall due in one cycle (R91): the later issued stands and CORE.HAZARD records the
collision. -/
def Sys2Proof.Claims.LaterResultStands : Prop :=
  ∀ (s : State) (id : CoreId) (t : Nat) (p q : Pend) (n : Nat) (v w : Word64), coreDue s id t = true → anyIssuable s id t = false →
    (s.core id).pend.filter (fun r => decide (r.due = t)) = [p, q] → n ≠ 0 → p.what = .sreg n v → q.what = .sreg n w →
    p.ctx = q.ctx → p.access = q.access → p.issued < q.issued →
    ∃ s', exec (.resultCommit id t) s = .next s' ∧ ((s'.core id).ctx q.ctx).sreg n = w ∧
      bitAt (s'.regN (corePage id) 0x1C4) 31 = true ∧ bitAt (s'.regN (corePage id) 0x018) 7 = true ∧ s'.mem = s.mem

/-- CONTEXT_IDLE and HALT_COMPLETE (R80, R98): with nothing out, a context whose streams have both ended becomes IDLE and a HALTING one
HALTED, each setting its ISTATUS bit; while something is out, neither happens. -/
def Sys2Proof.Claims.ContextsComeToRest : Prop :=
  ∀ (s : State) (a : CtxAt), coreDue s a.id a.cycle = true →
    let k := (s.core a.id).ctx a.ctx
    let rests (c : Instr) (m : CtxMode) (bit : Nat) : Prop := ∃ t, exec c s = .next t ∧ ((t.core a.id).ctx a.ctx).mode = m ∧
      bitAt (t.regN (corePage a.id) 0x018) bit = true ∧ OnlyIn s t [.cores, .regs] ∧
      (∀ y, y ≠ a.ctx → (t.core a.id).ctx y = (s.core a.id).ctx y) ∧ SameStores s t a.id ∧ SameFlags s t a.id
    (k.mode = .running → k.exe.ended = true → k.acc.ended = true → opsOut s a.id a.ctx = false → scsBusy (s.core a.id) a.ctx = false →
      rests (.contextIdle a) .idle (3 + a.ctx.idx)) ∧
    (k.mode = .halting → opsOut s a.id a.ctx = false → scsInFlight (s.core a.id) a.ctx = false →
      rests (.haltComplete a) .halted a.ctx.idx) ∧
    (opsOut s a.id a.ctx = true → exec (.contextIdle a) s = .next s ∧ exec (.haltComplete a) s = .next s)

/-- RUN, RESUME, RESET and HALT_REQ (R80, R101-R104): what each does to a context in the state that it acts on, and that RUN and RESET
leave a RUNNING context as it is. -/
def Sys2Proof.Claims.ContextControl : Prop :=
  ∀ (s s1 : State) (a : CtxAt) (who : Requester) (v : Nat), coreDue s a.id a.cycle = true →
    WriteReaches (atCycle s a.id a.cycle) s1 (corePage a.id) (ctxOff a.ctx 0) who v →
    let k := (s.core a.id).ctx a.ctx
    let restart (st : Stream) : Stream := { st with ended := false, readyAt := a.cycle + 1 }
    let goOn (st : Stream) : Stream := { st with readyAt := max st.readyAt (a.cycle + 1) }
    let after (t : State) : Context := (t.core a.id).ctx a.ctx
    (v = 1 → k.mode = .idle → ∃ t, exec (.run a who) s = .next t ∧ after t =
      { k with mode := .running, exe := restart k.exe, acc := restart k.acc } ∧
      t.mem = s.mem ∧ SameStores s t a.id ∧ SameFlags s t a.id) ∧
    (v = 1 → k.mode ≠ .idle → ∃ t, exec (.run a who) s = .next t ∧ after t = k ∧ t.mem = s.mem) ∧
    (v = 2 → k.mode = .halted → field (s.regN (corePage a.id) (ctxOff a.ctx 0x0C)) 7 0 ≠ causePoison →
      field (s.regN (corePage a.id) (ctxOff a.ctx 0x0C)) 7 0 ≠ causeParity → ∃ t, exec (.resume a who) s = .next t ∧
      after t = { k with mode := .running, exe := goOn k.exe, acc := goOn k.acc } ∧
      t.regN (corePage a.id) (ctxOff a.ctx 0x0C) = 0 ∧ t.mem = s.mem) ∧
    (v = 2 → k.mode = .halted → field (s.regN (corePage a.id) (ctxOff a.ctx 0x0C)) 7 0 = causePoison →
      ∃ t, exec (.resume a who) s = .next t ∧ after t = k ∧ t.mem = s.mem) ∧
    (v = 4 → k.mode = .idle ∨ k.mode = .halted → ∃ t, exec (.reset a who) s = .next t ∧ (after t).mode = .idle ∧
      (after t).exe.pc = k.exe.pc ∧ (after t).acc.pc = k.acc.pc ∧ (after t).exe.iregs = [] ∧ (after t).acc.iregs = [] ∧
      (after t).sregs = [] ∧ (after t).vregs = [] ∧ (after t).mregs = [] ∧ (after t).layer = 0 ∧
      (∀ q, ((after t).queue q).items = [] ∧ ((after t).queue q).ext = (k.queue q).ext ∧ ((after t).queue q).bound = none) ∧
      t.regN (corePage a.id) (ctxOff a.ctx 0x0C) = 0 ∧ SameFlags s t a.id ∧ (t.core a.id).store = (s.core a.id).store ∧ t.mem = s.mem) ∧
    (v = 4 → k.mode = .running → ∃ t, exec (.reset a who) s = .next t ∧ after t = k) ∧
    (v = 8 → k.mode = .running → ∃ t, exec (.haltReq a who) s = .next t ∧ after t = { k with mode := .halting } ∧
      t.regN (corePage a.id) (ctxOff a.ctx 0x0C) = 0x10 ∧ t.regN (corePage a.id) (ctxOff a.ctx 0x10) = k.exe.pc % 2 ^ 32 ∧
      t.mem = s.mem)

/-- HALT_ALL, LAT_AUDIT_WRITE, QCFG_EXT_WRITE and PC_WRITE (R84, R95, R101, R102): every RUNNING context halts with EXTERNAL; LAT_AUDIT
changes only while no context runs; an EXT bit changes only while its context is IDLE; a PC is written only while IDLE or HALTED. -/
def Sys2Proof.Claims.CoreRegisters : Prop :=
  ∀ (s s1 : State) (id : CoreId) (x : Ctx) (t : Nat) (who : Requester) (v : Word), coreDue s id t = true →
    let p := corePage id
    let k := (s.core id).ctx x
    let old := s.regN p 0x010
    let still := allCtx.all (fun y => decide (((s.core id).ctx y).mode = .idle ∨ ((s.core id).ctx y).mode = .halted))
    let reaches (off n : Nat) : Prop := WriteReaches (atCycle s id t) s1 p off who n
    (reaches 0x010 (old + 2 ^ 4) → bitAt old 4 = false → ∃ s', exec (.haltAll id t who) s = .next s' ∧ s'.mem = s.mem ∧
      ∀ y, ((s'.core id).ctx y).mode = if ((s.core id).ctx y).mode = .running then .halting else ((s.core id).ctx y).mode) ∧
    (reaches 0x010 v.toNat → bitAt v.toNat 4 = false → ∃ s', exec (.latAuditWrite id t who v) s = .next s' ∧ s'.mem = s.mem ∧
      bitAt (s'.regN p 0x010) 8 = (if still then bitAt v.toNat 8 else bitAt old 8) ∧
      bitAt (s'.regN p 0x010) 0 = bitAt v.toNat 0 ∧ ∀ y, (s'.core id).ctx y = (s.core id).ctx y) ∧
    (reaches (ctxOff x 0x28) v.toNat → ∃ s', exec (.qcfgExtWrite ⟨id, x, t⟩ who v) s = .next s' ∧ s'.mem = s.mem ∧
      (k.mode = .idle → ∀ q, q < 4 → (((s'.core id).ctx x).queue q).ext = bitAt v.toNat q ∧
        (((s'.core id).ctx x).queue q).items = (k.queue q).items) ∧
      (k.mode ≠ .idle → (s'.core id).ctx x = k)) ∧
    (∀ acc : Bool, reaches (ctxOff x (if acc then 0x08 else 0x04)) v.toNat →
      ∃ s', exec (.pcWrite ⟨id, x, t⟩ acc who v) s = .next s' ∧ s'.mem = s.mem ∧
      (k.mode = .idle ∨ k.mode = .halted → (((s'.core id).ctx x).stream acc).pc = v.toNat % 2 ^ 16 ∧
        (((s'.core id).ctx x).stream acc).iregs = (k.stream acc).iregs ∧ ((s'.core id).ctx x).stream (!acc) = k.stream (!acc)) ∧
      (k.mode = .running ∨ k.mode = .halting → (s'.core id).ctx x = k))

/-- REMOTE_FLAG_WRITE and EXTERNAL_PUSH (R84, R87, R89): the oldest flag write on its way sets or adds; an entry of an outside agent joins an
EXT queue that it is or becomes bound to, and halts the context with OVERRUN at a queue that is not EXT; a unit's push on its way takes no
credit when it arrives, and one that is discarded has its credit back (R85). -/
def Sys2Proof.Claims.FlagsAndPushesFromOutside : Prop :=
  (∀ (s : State) (id : CoreId) (t : Nat) (m : FlagMsg) (rest : List FlagMsg), coreDue s id t = true →
    (s.core id).flagsIn = m :: rest → ((s.core id).flag m.ctx m.flag).hist.all (fun w => decide (w.cycle < t)) = true →
    ∃ s', exec (.remoteFlagWrite id t) s = .next s' ∧ OnlyIn s s' [.cores] ∧ (s'.core id).flagsIn = rest ∧
      ((s'.core id).flag m.ctx m.flag).value =
        (if m.add then ((s.core id).flag m.ctx m.flag).value + m.operand else m.operand) % 2 ^ 24 ∧
      ∀ y f, 256 * y.idx + f ≠ 256 * m.ctx.idx + m.flag → (s'.core id).flag y f = (s.core id).flag y f) ∧
  (∀ (s : State) (a : CtxAt) (q : Fin 4) (src : Nat) (e : Entry), coreDue s a.id a.cycle = true → src < unitSources →
    (s.core a.id).pushIn = [] →
    let dq := ((s.core a.id).ctx a.ctx).queue q.val
    (dq.ext = true → dq.bound = none ∨ dq.bound = some src → dq.used a.cycle < 32 →
      ∃ t, exec (.externalPush a q src e) s = .next t ∧ OnlyIn s t [.cores] ∧
        (((t.core a.id).ctx a.ctx).queue q.val).items = dq.items ++ [⟨e, a.cycle + 2, some src⟩] ∧
        (((t.core a.id).ctx a.ctx).queue q.val).bound = some src ∧ SameRegs s t a.id) ∧
    (dq.ext = false → ((s.core a.id).ctx a.ctx).mode = .running →
      ∃ t, exec (.externalPush a q src e) s = .next t ∧ ((t.core a.id).ctx a.ctx).mode = .halting ∧
        (((t.core a.id).ctx a.ctx).queue q.val).items = dq.items ∧
        t.regN (corePage a.id) (ctxOff a.ctx 0x0C) = causeOverrun ∧ t.mem = s.mem)) ∧
  (∀ (s : State) (a : CtxAt) (q : Fin 4) (m : PushMsg) (rest : List PushMsg) (e : Entry), coreDue s a.id a.cycle = true →
    (s.core a.id).pushIn = m :: rest → m.ctx = a.ctx → m.queue = q.val →
    let dq := ((s.core a.id).ctx a.ctx).queue q.val
    (dq.ext = true → dq.bound = none ∨ dq.bound = some m.src → dq.used a.cycle < 32 →
      ∃ t, exec (.externalPush a q m.src e) s = .next t ∧ OnlyIn s t [.cores] ∧ (t.core a.id).pushIn = rest ∧
        ((t.core a.id).ctx a.ctx).queue q.val =
          { dq with items := dq.items ++ [⟨m.data, a.cycle + 2, some m.src⟩], bound := some m.src }) ∧
    (dq.ext = false → ((s.core a.id).ctx a.ctx).mode = .running →
      ∃ t, exec (.externalPush a q m.src e) s = .next t ∧ (t.core a.id).pushIn = rest ∧ t.mem = s.mem ∧
        ((t.core a.id).ctx a.ctx).mode = .halting ∧
        ((t.core a.id).ctx a.ctx).queue q.val = { dq with credits := min (dq.credits + 1) 32 }))

/-- DEADLOCK and POISON_CONSUMED (R97, R101): when the stall monitor's count reaches its limit every RUNNING context halts with DEADLOCK and
ISTATUS.DEADLOCK sets; when a stage-1 read takes poison the contexts halt with POISON_CONSUMED. -/
def Obligations.CoreScopeHalts : Prop :=
  (∀ (s : State) (id : CoreId) (t : Nat), coreDue s id t = true → stallDue s id t = true →
    ∃ s', exec (.deadlock id t) s = .next s' ∧ s'.mem = s.mem ∧ bitAt (s'.regN (corePage id) 0x018) 6 = true ∧
      ∀ x, ((s.core id).ctx x).mode = .running → ((s'.core id).ctx x).mode = .halting ∧
        s'.regN (corePage id) (ctxOff x 0x0C) = causeDeadlock ∧
        ((s'.core id).ctx x).exe.pc = ((s.core id).ctx x).exe.pc) ∧
  (∀ (s : State) (id : CoreId) (t : Nat), stallDue s id t = false → exec (.deadlock id t) s = .next s) ∧
  (∀ (s : State) (id : CoreId) (t : Nat) (sw : Sweep) (n : Nat), poisonedRead s id t = some (sw, n) → (s.core id).now ≤ t →
    s.coreRuns id = true → (s.core id).pend = [] → opeDueBefore (s.ope id) t = false → ((s.core id).ctx sw.ctx).mode = .running →
    ∃ s', exec (.poisonConsumed id t) s = .next s' ∧ s'.mem = s.mem ∧ ((s'.core id).ctx sw.ctx).mode = .halting ∧
      s'.regN (corePage id) (ctxOff sw.ctx 0x0C) = causePoison ∧
      s'.regN (corePage id) (ctxOff sw.ctx 0x10) = sw.word % 2 ^ 32 ∧
      ∀ y, ((s.core id).ctx y).mode = .running → ((s'.core id).ctx y).mode = .halting)

/-! ### Rank updates, drained rows and tiles -/

/-- RANK_UPDATE_ACCUMULATE (R30, R32, R64): the sweep operation's next rank update is done; where no drain is in flight, a product of an
ordinary class is added to the front bank's cell of its row and column, from zero in the first rank update of a CLEAR, and a cell
outside the sweep's rows and columns keeps what it held; no store byte and no register of the core changes. While a word of the cycle can
issue nothing is accumulated (R43, R44). -/
def Sys2Proof.Claims.RankUpdates : Prop :=
  ∀ (s : State) (m : McId) (t : Nat) (sw : Sweep), coreDue s (McId.core m) t = true → anyIssuable s (McId.core m) t = false →
    dueSweep (s.ope (McId.core m)) t = some sw →
    let o := s.ope (McId.core m)
    let signs := passSigns sw.cls (updateIndices sw.cls (sweepK sw.raw) sw.next).2.1 (sweepBanks sw.raw sw.cls)
    let product (i j : Nat) : Int × Special := cellProduct ((atCycle s (McId.core m) t).coreAt (McId.core m) t) sw (t - 5) sw.next i j
    let adv (w : Sweep) : Sweep := if w.start = sw.start then { w with next := w.next + 1 } else w
    ∃ s', exec (.rankUpdateAccumulate m t) s = .next s' ∧ s'.mem = s.mem ∧ (s'.core (McId.core m)).store = (s.core (McId.core m)).store ∧
      SameRegs s s' (McId.core m) ∧ (s'.ope (McId.core m)).holder = o.holder ∧ (s'.ope (McId.core m)).front.acs = o.front.acs ∧
      (s'.ope (McId.core m)).sweeps = (o.sweeps.map adv).filter (fun w => decide (w.next < w.total)) ∧
      (o.drains = [] → sw.cls ≠ 5 → (sweepBanks sw.raw sw.cls).1 = true → signs.1 ≠ 0 → ∀ i j, j < 256 →
        let old : Cell := if sweepClear sw.raw = true ∧ sw.next = 0 then {} else SMap.getD o.front.cells {} (256 * i + j)
        SMap.getD (s'.ope (McId.core m)).front.cells {} (256 * i + j) =
          if i < sweepRows sw.raw ∧ j < sweepCols sw.raw ∧ product i j ≠ (0, .none) then
            old.add signs.1 (product i j).1 (product i j).2 else old)

/-- DRAIN_ROW_WRITE (R41, R47, R48): rows leave from row 255 down, one a command; the row's bytes go to its slots in the tile store, and
the drain ends with its 256th row; a poisoned fused operand halts the core at the drain's word (R101). With nothing due neither engine
command changes anything, and no rank update is accumulated while a word of its cycle can issue (R43, R44). -/
def Sys2Proof.Claims.DrainedRows : Prop :=
  (∀ (s : State) (m : McId) (t : Nat) (d : Drain), coreDue s (McId.core m) t = true → dueDrain (s.ope (McId.core m)) t = some d →
    let c := (atCycle s (McId.core m) t).coreAt (McId.core m) (t + 1)
    let row := drainRow c d (255 - d.next)
    let bad := fusedPoison c d.raw (255 - d.next)
    let adv (e : Drain) : Drain := if e.start = d.start then { e with next := e.next + 1 } else e
    ∃ s', exec (.drainRowWrite m t) s = .next s' ∧ s'.mem = s.mem ∧ (bad = false → SameRegs s s' (McId.core m)) ∧
      (bad = true → ((s.core (McId.core m)).ctx d.ctx).mode = .running → ((s'.core (McId.core m)).ctx d.ctx).mode = .halting ∧
        s'.regN (corePage (McId.core m)) (ctxOff d.ctx 0x0C) = causePoison ∧
        s'.regN (corePage (McId.core m)) (ctxOff d.ctx 0x10) = d.word % 2 ^ 32) ∧
      (s'.core (McId.core m)).store = (writeRow c d.raw (255 - d.next) t (packRow (field d.raw 11 8) (row.1.map (·.1))) row.2 d.acs bad).store ∧
      (s'.ope (McId.core m)).drains = ((s.ope (McId.core m)).drains.map adv).filter (fun e => decide (e.next < 256)) ∧
      (s'.ope (McId.core m)).front = (s.ope (McId.core m)).front ∧ (s'.ope (McId.core m)).back = (s.ope (McId.core m)).back) ∧
  (∀ (s : State) (m : McId) (t : Nat),
    (dueSweep (s.ope (McId.core m)) t = none ∨ anyIssuable s (McId.core m) t = true → exec (.rankUpdateAccumulate m t) s = .next s) ∧
    (dueDrain (s.ope (McId.core m)) t = none → exec (.drainRowWrite m t) s = .next s))

/-- TILE_RESPONSE (R139-R141, R193): a load tile in HBM or a pool is read at its home; a store tile is written there; a tile that meets a
fault at its agent has the fault for its reply and no memory changes; each reply comes in the cycle named, for a request that went out in
an earlier cycle and, of a store tile, has been read from the store; the request may be served before its core reaches that cycle. -/
def Sys2Proof.Claims.TileReplies : Prop :=
  ∀ (s : State) (id : CoreId) (n : Fin 64) (seq t : Nat) (r : TileReq) (bytes : List Host.Cell) (marks : NSet),
    let ahead := servedAhead s id n.val seq t
    (ahead || coreDue s id t) = true → requestOut s id n.val seq t = some (r, bytes, marks) →
    let sc := (s.core id).sc n.val
    let s0 := if ahead then s else atCycle s id t
    let c := if sc.cur.store then s0.coreAt id (if ahead then (s.core id).now else t) else s0.core id
    isDataTile r.tile = true → s.saturated (agentOf r.tile) = false → sc.cur.sidecar = false →
    s.mem.atomics.all (fun k => decide (k.addr / 0x8000 ≠ r.tile)) = true →
    let home := (s.home r.tile).1
    let replied (s' : State) (a : TileReply) : Prop := (s'.core id).sc n.val = putReply (c.sc n.val) seq t a ∧ SameRegs s s' id ∧
      (s'.core id).store = c.store ∧ s'.mem.moves = s.mem.moves
    (∀ f, s.tileFault r.tile = some f → ∃ s', exec (.tileResponse id n seq t) s = .next s' ∧ replied s' (.fault f) ∧
      s'.mem.dram = s.mem.dram ∧ s'.mem.dir = s.mem.dir) ∧
    (s.tileFault r.tile = none → sc.cur.store = false → ∃ s', exec (.tileResponse id n seq t) s = .next s' ∧
      replied s' (.data (Mem.slice s.mem.dram home 0x8000 0) (s.lineMarks home 0x8000)) ∧ s'.mem.dram = s.mem.dram ∧
      s'.mem.dir = s.mem.dir) ∧
    (s.tileFault r.tile = none → sc.cur.store = true → ∃ s', exec (.tileResponse id n seq t) s = .next s' ∧ replied s' .accepted ∧
      s'.mem.dram = Mem.copy s.mem.dram home 0x8000 bytes 0)

/-- TILE_DELIVERED (R132, R135, R136, R139, R140): a load tile is delivered once the fill port has written it; the restart point moves on by
one tile; at a segment's end the flag is to rise by 1, and the context is DONE at the end of its run and SEG_WAIT before it. The fill port
writes one KiB of the tile a cycle, in row order, into the tile's slot. -/
def Sys2Proof.Claims.TilesDelivered : Prop :=
  (∀ (k : CoreKind) (c : Core) (p : PortUse) (t a : Nat) (q : TileReq) (rest : List TileReq) (bytes : List Host.Cell) (marks : NSet),
    let sc := c.sc p.sc
    c.filling = some p → c.reading = none → readNext c = none → p.done < sc.kib → p.start + p.done + 1 = t →
    sc.reqs = q :: rest → q.reply = some (a, .data bytes marks) →
    (c.upTo k t).store = Mem.copy c.store (kibAddr sc (destSlot k sc) p.done) 1024 bytes (1024 * p.done) ∧
      (c.upTo k t).filling = some { p with done := p.done + 1 } ∧ (c.upTo k t).scs = c.scs ∧
      (c.upTo k t).lastFill = some (p.start + p.done, kibAddr sc (destSlot k sc) p.done)) ∧
  (∀ (s : State) (id : CoreId) (n : Fin 64) (t e : Nat) (x : Ctx) (q : TileReq) (rest : List TileReq), coreDue s id t = true → anyIssuable s id t = false →
    let c := s.core id
    let sc := c.sc n.val
    sc.reqs = q :: rest → sc.owner = some x → sc.cur.notify = false → sc.cur.sidecar = false → sc.stopping = false →
    earliestDelivery c n.val = some e → e ≤ t →
    ∃ s', exec (.tileDelivered id n t) s = .next s' ∧ s'.mem = s.mem ∧ SameRegs s s' id ∧
      let k := (s'.core id).sc n.val
      k.seq = sc.seq + 1 ∧ k.ctrs = nextCtrs sc.cur.counts sc.ctrs ∧ k.owner = some x ∧
      (∀ a bytes marks, q.reply = some (a, .data bytes marks) → sc.cur.store = false → (s'.core id).portFree = t + 1 ∧
        (s'.core id).filling = none ∧ (s'.core id).store = ((atCycle s id t).coreAt id (t + 1)).store) ∧
      (sc.cur.store = true → (s'.core id).store = c.store) ∧ k.pos = (sc.pos + 1) % sc.cur.seg ∧
      ((endsSegment sc).1 = false → k.state = sc.state ∧ (s'.core id).pend = c.pend) ∧
      ((endsSegment sc).1 = true → (s'.core id).pend = c.pend ++ [⟨t + 1, t, x, true, noSlot, sc.word, .flagAdd sc.cur.flag 1⟩]) ∧
      ((endsSegment sc).2 = true → k.state = scDone) ∧
      ((endsSegment sc).1 = true → (endsSegment sc).2 = false → sc.swapPending = false → (c.ctx x).acc.ended = false →
        k.state = scSegWait ∧ k.pos = 0))

/-- TILE_DELIVERED with NOTIFY, and the entry's commit (R84, R137): with no free slot nothing is delivered; otherwise the entry is to be
pushed at the end of the next cycle, into a slot reserved for it; where the queue's EXT bit is set it keeps no slot, and its commit leaves
the queue as it is and halts the RUNNING owner with SLOT_CONFLICT at the word and slot that started the segment. -/
def Sys2Proof.Claims.TilesNotified : Prop :=
  (∀ (s : State) (id : CoreId) (n : Fin 64) (t e : Nat) (x : Ctx) (q : TileReq) (rest : List TileReq), coreDue s id t = true → anyIssuable s id t = false →
    let c := s.core id
    let sc := c.sc n.val
    let dq := (c.ctx x).queue sc.cur.nq
    sc.reqs = q :: rest → sc.owner = some x → sc.cur.notify = true → earliestDelivery c n.val = some e → e ≤ t →
    (dq.ext = false → dq.canPush t 1 = false → exec (.tileDelivered id n t) s = .next s) ∧
    (dq.ext = true ∨ dq.canPush t 1 = true → ∃ s', exec (.tileDelivered id n t) s = .next s' ∧ s'.mem = s.mem ∧
      ((s'.core id).sc n.val).seq = sc.seq + 1 ∧
      (((s'.core id).ctx x).queue sc.cur.nq).reserved = (if dq.ext = true then dq.reserved else dq.reserved + 1) ∧
      ∃ more, (s'.core id).pend = c.pend ++
        ⟨t + 1, t, x, true, sc.slot, sc.word, .push sc.cur.nq (notifyEntry (kindOf id) sc n.val q.tile)⟩ :: more)) ∧
  (∀ (s : State) (id : CoreId) (t : Nat) (p : Pend) (q : Nat) (d : Entry), coreDue s id t = true → anyIssuable s id t = false →
    (s.core id).pend.filter (fun r => decide (r.due = t)) = [p] → p.what = .push q d →
    (((s.core id).ctx p.ctx).queue q).ext = true → ((s.core id).ctx p.ctx).mode = .running →
    ∃ s', exec (.resultCommit id t) s = .next s' ∧ ((s'.core id).ctx p.ctx).mode = .halting ∧ s'.mem = s.mem ∧
      ((s'.core id).ctx p.ctx).queues = ((s.core id).ctx p.ctx).queues ∧
      s'.regN (corePage id) (ctxOff p.ctx 0x0C) = 256 + causeConflict ∧
      s'.regN (corePage id) (ctxOff p.ctx 0x10) = p.word % 2 ^ 32 ∧ s'.regN (corePage id) (ctxOff p.ctx 0x14) = p.slot % 2 ^ 32)

/-- FAULT_TAKEN, FAULT_ANSWER, FAULT_TIMEOUT and STASH_FULL (R141, R142, R199): a fault at the head stops the context in FAULT_WAIT, is
recorded in JGL.FAULT and raises FAULT, and stops one that was stopping without a record (R144); SERVICED sets it RUNNING
again, REFUSED and the limit halt its RUNNING owner with RESIDENCY at the word that started the segment, and a refused Stash store halts
it with STASH_FULL. -/
def Sys2Proof.Claims.TileFaults : Prop :=
  ∀ (s : State) (id : CoreId) (n : Fin 64) (t : Nat) (x : Ctx), coreDue s id t = true →
    let sc := (s.core id).sc n.val
    let p := jglPage id
    sc.owner = some x →
    let halts (s' : State) (cause : Nat) : Prop := ((s'.core id).ctx x).mode = .halting ∧
      s'.regN (corePage id) (ctxOff x 0x0C) = 256 + cause ∧ s'.regN (corePage id) (ctxOff x 0x10) = sc.word % 2 ^ 32 ∧
      s'.regN (corePage id) (ctxOff x 0x14) = sc.slot % 2 ^ 32 ∧ s'.mem = s.mem
    (∀ q r kind rest, sc.reqs = q :: rest → q.reply = some (r, .fault kind) → r ≤ t → sc.stopping = false →
      ∃ s', exec (.faultTaken id n t) s = .next s' ∧ s'.mem = s.mem ∧ ((s'.core id).sc n.val).state = scFaultWait ∧
        ((s'.core id).sc n.val).reqs = [] ∧ ((s'.core id).sc n.val).faultKind = kind ∧ ((s'.core id).sc n.val).ctrs = sc.ctrs ∧
        bitAt (s'.regN p 0x100) 31 = true ∧ bitAt (s'.regN p 0x018) 0 = true ∧
        (s.isFirst p 0x100 = true → s'.regN p 0x104 = q.tile % 2 ^ 32)) ∧
    (∀ q r kind rest, sc.reqs = q :: rest → q.reply = some (r, .fault kind) → r ≤ t → sc.stopping = true →
      ∃ s', exec (.faultTaken id n t) s = .next s' ∧ s'.mem = s.mem ∧ ((s'.core id).sc n.val).state = scStopped ∧
        ((s'.core id).sc n.val).reqs = [] ∧ s'.regN p 0x100 = s.regN p 0x100 ∧ s'.regN p 0x018 = s.regN p 0x018) ∧
    (sc.state = scFaultWait → sc.faultOpen = true → sc.answer = some true → ∃ s', exec (.faultAnswer id n t) s = .next s' ∧
      s'.mem = s.mem ∧ ((s'.core id).sc n.val).state = scRunning ∧ ((s'.core id).sc n.val).faultOpen = false ∧
      ((s'.core id).sc n.val).ctrs = sc.ctrs) ∧
    (sc.state = scFaultWait → sc.faultOpen = true → sc.answer = some false → ((s.core id).ctx x).mode = .running →
      ∃ s', exec (.faultAnswer id n t) s = .next s' ∧ halts s' causeResidency ∧ bitAt (s'.regN p 0x018) 1 = true) ∧
    (sc.state = scFaultWait → sc.answer = none → exec (.faultAnswer id n t) s = .next s) ∧
    (sc.state = scFaultWait → sc.faultOpen = true → sc.faultTick + faultLimit s id ≤ s.tick → ((s.core id).ctx x).mode = .running →
      ∃ s', exec (.faultTimeout id n t) s = .next s' ∧ halts s' causeResidency ∧ bitAt (s'.regN p 0x018) 1 = true) ∧
    (s.tick < sc.faultTick + faultLimit s id → exec (.faultTimeout id n t) s = .next s) ∧
    (∀ q r depth rest, sc.reqs = q :: rest → q.reply = some (r, .refused depth) → r ≤ t → ((s.core id).ctx x).mode = .running →
      ∃ s', exec (.stashFull id n t) s = .next s' ∧ halts s' causeStashFull ∧ ((s'.core id).sc n.val).state = scStopped ∧
        ((s'.core id).sc n.val).reqs = [])

/-- JG_LD_RESPONSE (R149, R384): the value of the register read, or the word at the load's place in a tile that has a home, or the word its agent has
served, goes to the load's register; an address that names nothing
gives all ones, with the address and ISTATUS of JGL; in both the stream then awaits its next load, or goes on GAP cycles later. -/
def Sys2Proof.Claims.LoadResponses : Prop :=
  ∀ (s : State) (a : CtxAt) (l : LoadWait) (rest : List LoadWait), coreDue s a.id a.cycle = true →
    let st := ((s.core a.id).ctx a.ctx).acc
    st.loads = l :: rest → st.readyAt ≤ a.cycle + l.gap →
    let answered (t : State) (v : Nat) : Prop := ((t.core a.id).ctx a.ctx).acc.loads = rest ∧
      (rest = [] → ((t.core a.id).ctx a.ctx).acc.readyAt = a.cycle + 1 + l.gap) ∧
      (t.core a.id).pend = (s.core a.id).pend ++
        [⟨a.cycle, a.cycle, a.ctx, true, l.slot, l.word, .ireg l.reg (BitVec.ofNat 32 v)⟩] ∧ t.mem.dram = s.mem.dram
    (∀ v, l.got = some (.data v) → ∃ t, exec (.jgLdResponse a) s = .next t ∧ answered t v ∧ t.mem = s.mem) ∧
    (l.got = none → l.held = true → ∃ t, exec (.jgLdResponse a) s = .next t ∧ t = atCycle s a.id a.cycle) ∧
    (∀ off v s1, spotOf l.addr = .register off → nextLoad (s.core a.id) = some (a.ctx, l) → l.got = none → l.held = false →
      busRead (atCycle s a.id a.cycle) off (.jg a.id) = (s1, .value v) → s1.cores = (atCycle s a.id a.cycle).cores →
      s1.mem = s.mem → ∃ t, exec (.jgLdResponse a) s = .next t ∧ answered t v) ∧
    (∀ tile side off, spotOf l.addr = .tile tile side off → isDataTile tile = true → l.got = none → l.held = false →
      s.tileInPart (s.unitPart a.id.cluster.val) tile = true → s.saturated (agentOf tile) = false → s.hasHome tile = true →
      s.holdsFor tile = false →
      eMoving (s.entry tile) = false → s.mem.atomics.all (fun k => decide (k.addr / 0x8000 ≠ tile)) = true →
      s.meetsPoison (s.tilePlace tile side off) 4 = false →
      ∃ t, exec (.jgLdResponse a) s = .next t ∧ answered t (Mem.read s.mem.dram (s.tilePlace tile side off) 4)) ∧
    (spotOf l.addr = .none → l.got = none → l.held = false → ∃ t, exec (.jgLdResponse a) s = .next t ∧ answered t (2 ^ 32 - 1) ∧
      bitAt (t.regN (jglPage a.id) 0x018) 2 = true ∧
      (bitAt (s.regN (jglPage a.id) 0x018) 2 = false → t.regN (jglPage a.id) 0x110 = l.addr % 2 ^ 32))

/-! ### Memory -/

/-- MOVE_TILE_REQUEST, MOVE_GRANT, MOVE_COMMIT and MOVING_FAULT_ENQUIRY (R193-R195): a move begun sets MOVING and takes the lowest free
frame above the ring; a grant copies payload and sidecar and writes no entry; a commit writes the entry with the new tier and one more
move, and ends MOVING; a fault whose tile is no longer MOVING is answered SERVICED. -/
def Sys2Proof.Claims.Moves : Prop :=
  (∀ (s : State) (c : Fin 40) (r : MoveReq), (s.mover c.val).reqs.find? (fun q => decide (0 < q.left)) = some r → s.inMove c.val < 8 →
    s.saturated (agentOf r.tile) = false →
    (isDataTile r.tile = true → eMoving (s.entry r.tile) = false → s.hasHome r.tile = true →
      s.mem.atomics.all (fun k => decide (k.addr / 0x8000 ≠ r.tile)) = true →
      (r.tier = 0 → eTier (s.entry r.tile) = 1 → ∃ t, exec (.moveTileRequest c) s = .next t ∧ eMoving (t.entry r.tile) = true ∧
        t.mem.moves = s.mem.moves ++ [⟨r.tile, .mover c.val r.num, 0, c.val, 0, false⟩] ∧ t.mem.dram = s.mem.dram) ∧
      (∀ f, r.tier = 1 → eTier (s.entry r.tile) = 0 →
        (List.range 496).find? (fun f => decide (s.stkP c.val ≤ f) && (s.frameAt c.val f).isNone) = some f →
        ∃ t, exec (.moveTileRequest c) s = .next t ∧ eMoving (t.entry r.tile) = true ∧ t.frameAt c.val f = some r.tile ∧
          t.mem.moves = s.mem.moves ++ [⟨r.tile, .mover c.val r.num, 1, c.val, f, false⟩] ∧ t.mem.dram = s.mem.dram)) ∧
    (isDataTile r.tile = false → ∃ t, exec (.moveTileRequest c) s = .next t ∧ t.mem.moves = s.mem.moves ∧ t.mem.dir = s.mem.dir ∧
      t.mem.dram = s.mem.dram ∧ bitAt (t.regN ⟨.mov, c.val⟩ 0x018) 0 = true)) ∧
  (∀ (s : State) (tile : Nat) (m : Move), s.mem.moves.find? (fun k => decide (k.tile = tile) && !k.granted) = some m →
    s.mem.atomics.all (fun k => decide (k.addr / 0x8000 ≠ tile)) = true →
    let one := Mem.copy s.mem.dram (moveDest s m).1 0x8000 s.mem.dram (s.home tile).1
    ∃ t, exec (.moveGrant tile) s = .next t ∧ t.mem.dram = Mem.copy one (moveDest s m).2 0x400 one (s.home tile).2 ∧
      t.mem.dir = s.mem.dir ∧
      t.mem.moves = s.mem.moves.map (fun k => if k.tile = tile then { k with granted := true } else k)) ∧
  (∀ (s : State) (tile : Nat) (m : Move) (c num : Nat), s.mem.moves.find? (fun k => decide (k.tile = tile) && k.granted) = some m →
    m.by_ = .mover c num → isDataTile tile = true → s.mem.held = [] → s.mem.waiting = [] → (s.stack (agentOf tile)).relocs = [] →
    m.tier < 2 → m.cluster < 40 → m.frame < 512 →
    ∃ t, exec (.moveCommit tile) s = .next t ∧ eMoving (t.entry tile) = false ∧ eTier (t.entry tile) = m.tier ∧
      eMoves (t.entry tile) = (eMoves (s.entry tile) + 1) % 256 ∧ eValid (t.entry tile) = eValid (s.entry tile) ∧
      (m.tier = 1 → eCluster (t.entry tile) = m.cluster ∧ eFrame (t.entry tile) = m.frame) ∧ t.mem.dram = s.mem.dram ∧
      t.mem.moves = s.mem.moves.filter (fun k => decide (k.tile ≠ tile))) ∧
  (∀ (s : State) (id : CoreId) (n : Fin 64),
    let sc := (s.core id).sc n.val
    let tile := tileNumber sc.cur sc.ctrs
    sc.state = scFaultWait → sc.faultOpen = true → sc.answer = none → sc.faultKind = 1 → isDataTile tile = true →
    (eMoving (s.entry tile) = false → ∃ t, exec (.movingFaultEnquiry id n) s = .next t ∧
      (t.core id).sc n.val = { sc with answer := some true } ∧ t.mem = s.mem) ∧
    (eMoving (s.entry tile) = true → exec (.movingFaultEnquiry id n) s = .next s))

/-- STASH_STORE of a word (R198, R199): a depth beyond the ring and the lent tiles is refused and recorded in STK.FULL; a depth that has a
home has the word written there; a depth of the ring with no home takes the frame of its depth, TOP rises above it, and the word is
written in that frame. -/
def Sys2Proof.Claims.StashStores : Prop :=
  ∀ (s : State) (c : Fin 40) (d : Nat) (core : Nat) (x : Ctx) (side : Bool) (off v : Nat) (rest : List StashReq),
    (s.stash c.val).inbox = ⟨d, .bytes (some (.jgSt core x)) side off 4 v false⟩ :: rest → d < 0x20000 → s.saturated (12 + c.val) = false →
    s.holdsFor (stashTile c.val d) = false →
    let tile := stashTile c.val d
    let P := s.stkP c.val
    let top := max (s.stash c.val).top (d + 1)
    s.mem.atomics.all (fun k => decide (k.addr / 0x8000 ≠ tile)) = true →
    (P = 0 ∨ P + s.stkH c.val ≤ d → ∃ t, exec (.stashStore c) s = .next t ∧ (t.stash c.val).inbox = rest ∧ t.mem.dram = s.mem.dram ∧
      t.mem.dir = s.mem.dir ∧ bitAt (t.regN (stkPage c.val) 0x110) 31 = true ∧ bitAt (t.regN (stkPage c.val) 0x018) 0 = true) ∧
    (P ≠ 0 → d < P + s.stkH c.val → eValid (s.entry tile) = true → eMoving (s.entry tile) = false →
      ∃ t, exec (.stashStore c) s = .next t ∧ (t.stash c.val).inbox = rest ∧ (t.stash c.val).top = (s.stash c.val).top ∧
        t.mem.dram = (s.put (s.tilePlace tile side off) 4 v).mem.dram ∧ t.mem.dir = s.mem.dir) ∧
    (P ≠ 0 → d < P + s.stkH c.val → eValid (s.entry tile) = false → top ≤ d + P → s.frameAt c.val (d % P) = none →
      ∃ t, exec (.stashStore c) s = .next t ∧ (t.stash c.val).inbox = rest ∧ (t.stash c.val).top = top ∧
        t.frameAt c.val (d % P) = some tile ∧ eValid (t.entry tile) = true ∧ eTier (t.entry tile) = 1 ∧
        eFrame (t.entry tile) = d % P ∧
        t.mem.dram = (s.put (poolPlace c.val (d % P) + (if side then 0x8000 else 0) + off) 4 v).mem.dram)

/-- STASH_SPILL, STASH_FILL and STASH_TAKE_AWAY (R200-R202): a move of the chosen depth begins, only in its phase; a lent tile loses its
home and is marked STASH_RES. -/
def Sys2Proof.Claims.StashMoves : Prop :=
  ∀ (s : State) (c : Fin 40), s.mem.atomics = [] →
    let st := s.stash c.val
    let lim : Int := min (s.stkH c.val : Int) ((st.top : Int) + s.stkSpill c.val - s.stkP c.val)
    (∀ d ds, st.pop = false → stashMoving s c.val = false →
      stashDepths s c.val (fun d e => eValid e && eTier e == 1 && decide ((d : Int) < lim)) = d :: ds → d < st.taken →
      eMoving (s.entry (stashTile c.val d)) = false → ∃ t, exec (.stashSpill c) s = .next t ∧ t.mem.dram = s.mem.dram ∧
        t.mem.moves = s.mem.moves ++ [⟨stashTile c.val d, .stk c.val, 0, 0, 0, false⟩] ∧
        eMoving (t.entry (stashTile c.val d)) = true) ∧
    (∀ d, st.pop = true → stashMoving s c.val = false → s.stkP c.val ≠ 0 →
      (stashDepths s c.val (fun d e => eValid e && eTier e == 0 && decide (st.top ≤ d + s.stkFill c.val))).getLast? = some d →
      s.frameAt c.val (d % s.stkP c.val) = none → eMoving (s.entry (stashTile c.val d)) = false →
      ∃ t, exec (.stashFill c) s = .next t ∧ t.mem.dram = s.mem.dram ∧ eMoving (t.entry (stashTile c.val d)) = true ∧
        t.mem.moves = s.mem.moves ++ [⟨stashTile c.val d, .stk c.val, 1, c.val, d % s.stkP c.val, false⟩] ∧
        t.frameAt c.val (d % s.stkP c.val) = some (stashTile c.val d)) ∧
    (st.pop = true → exec (.stashSpill c) s = .next s) ∧ (st.pop = false → exec (.stashFill c) s = .next s) ∧
    (let tile := s.lender c.val st.taken
     st.taken < s.stkH c.val → eMoving (s.entry tile) = false → s.saturated (agentOf tile) = false → s.mem.held = [] → s.mem.waiting = [] →
      ∃ t, exec (.stashTakeAway c) s = .next t ∧ (t.stash c.val).taken = st.taken + 1 ∧ eValid (t.entry tile) = false ∧
        eStashRes (t.entry tile) = true ∧ t.mem.dram = s.mem.dram)

/-- STK_RELEASE, STK_CFG_WRITE and HBM_TILES_WRITE (R201, R202): a release at or below TOP makes it TOP and the phase POP; the ring's
size and base change only while the Stash is empty and nothing is lent at the base; tiles are lent when each can be; a write that meets its
condition changes no byte of memory, and one that does not changes no register of the page but its error log's. -/
def Sys2Proof.Claims.StashRegisters : Prop :=
  ∀ (s s1 : State) (c : Fin 40) (who : Requester) (v : Word),
    let p := stkPage c.val
    let st := s.stash c.val
    let idle := st.top = 0 ∧ stashMoving s c.val = false
    let kept (t : State) : Prop := t.mem = s.mem ∧ t.regs = s.regs ∧ (t.log p).writeSeq = wrapSucc 16 (s.log p).writeSeq
    (WriteReaches s s1 p 0x10C who v.toNat → s.mem.held = [] → s.mem.waiting = [] →
      (field v.toNat 17 0 ≤ st.top → ∃ t, exec (.stkRelease c who v) s = .next t ∧ (t.stash c.val).top = field v.toNat 17 0 ∧
        (t.stash c.val).pop = true ∧ t.mem.dram = s.mem.dram ∧
        ∀ d, d < 0x20000 → field v.toNat 17 0 ≤ d → eValid (t.entry (stashTile c.val d)) = false) ∧
      (st.top < field v.toNat 17 0 → ∃ t, exec (.stkRelease c who v) s = .next t ∧ kept t)) ∧
    (WriteReaches s s1 p 0x104 who v.toNat →
      (idle → s.stkH c.val = 0 → ∃ t, exec (.stkCfgWrite c true who v) s = .next t ∧ t.regN p 0x104 = field v.toNat 24 0 ∧ t.mem = s.mem) ∧
      (¬ idle → ∃ t, exec (.stkCfgWrite c true who v) s = .next t ∧ kept t)) ∧
    (WriteReaches s s1 p 0x100 who v.toNat →
      (idle → field v.toNat 8 0 ≤ 496 → field v.toNat 8 0 + s.stkH c.val ≤ 131072 → s.mem.frames = [] →
        ∃ t, exec (.stkCfgWrite c false who v) s = .next t ∧ t.regN p 0x100 = field v.toNat 26 0 ∧ t.mem = s.mem) ∧
      (¬ idle → ∃ t, exec (.stkCfgWrite c false who v) s = .next t ∧ kept t)) ∧
    (WriteReaches s s1 p 0x108 who v.toNat → s.stkH c.val ≤ field v.toNat 16 0 →
      (s.stkP c.val + field v.toNat 16 0 ≤ 131072 →
        (List.range (field v.toNat 16 0 - s.stkH c.val)).all (fun i => lendable s (s.lender c.val 0 + s.stkH c.val + i)) = true →
        ∃ t, exec (.hbmTilesWrite c who v) s = .next t ∧ t.regN p 0x108 = field v.toNat 16 0 ∧ t.mem = s.mem) ∧
      (131072 < s.stkP c.val + field v.toNat 16 0 → ∃ t, exec (.hbmTilesWrite c who v) s = .next t ∧ kept t))

/-- ATOMIC_STORE, ATOMIC_APPLY and DIR_PEEK (R190, R192, R204, R205): a store into an alias window that lies within a tile at home in HBM
waits line by line to be applied, a misaligned one is discarded and raises DIR.ISTATUS.ATOMIC; applying one grain replaces it by its sum in memory and
no other byte; a peek of an agent's own tile reads its entry into PEEK_LO and PEEK_HI. -/
def Sys2Proof.Claims.AtomicsAndPeeks : Prop :=
  (∀ (s : State) (a : Atomic) (rest : List Atomic), s.mem.atomicsIn = a :: rest →
    let tile := a.addr / 0x8000
    (0 < a.len → a.addr % grainOf a.fmt = 0 → a.len % grainOf a.fmt = 0 → a.addr % 0x8000 + a.len ≤ 0x8000 →
      s.saturated (agentOf tile) = false → s.holdsFor tile = false → s.hasHome tile = true → eMoving (s.entry tile) = false →
      eTier (s.entry tile) = 0 → ∃ t, exec .atomicStore s = .next t ∧ t.mem.atomics = s.mem.atomics ++
          splitAtomic 128 { a with bytes := Mem.slice a.bytes 0 a.len 0, marks := NSet.slice a.marks 0 ((a.len + 31) / 32) 0 } (a.len / 128 + 2) ∧
        t.mem.atomicsIn = rest ∧ t.mem.dram = s.mem.dram ∧ t.mem.dir = s.mem.dir) ∧
    (a.addr % grainOf a.fmt ≠ 0 → ∃ t, exec .atomicStore s = .next t ∧ t.mem.atomics = s.mem.atomics ∧ t.mem.atomicsIn = rest ∧
      t.mem.dram = s.mem.dram ∧ bitAt (t.regN ⟨.dir, agentOf tile⟩ 0x018) 1 = true)) ∧
  (∀ (s : State) (a : Atomic) (rest : List Atomic) (stack : Fin 12), s.mem.atomics = a :: rest →
    let place := (s.home (a.addr / 0x8000)).1 + a.addr % 0x8000
    let g := grainOf a.fmt
    s.domainState (324 + stack.val) = 0 → (hbmMap place).stack = stack.val → a.len = g → place % g = 0 → a.marks = [] →
    ∃ t, exec (.atomicApply stack) s = .next t ∧ t.mem.atomics = rest ∧ t.mem.dir = s.mem.dir ∧
      t.mem.dram = Mem.write s.mem.dram place g (grainAdd a.fmt (Mem.read s.mem.dram place g) (Mem.read a.bytes 0 g)).1) ∧
  (∀ (s s1 : State) (stack : Fin 12) (who : Requester), ReadReaches s s1 ⟨.dir, stack.val⟩ 0x108 who →
    let p : Page := ⟨.dir, stack.val⟩
    let tile := field (s.regN p 0x104) 0 0 * 2 ^ 32 + s.regN p 0x100
    (isDataTile tile = true → agentOf tile = stack.val → ∃ t, exec (.dirPeek stack who) s = .next t ∧ t.mem = s.mem ∧
      t.regN p 0x108 = s.entry tile % 2 ^ 32 ∧ t.regN p 0x10C = s.entry tile / 2 ^ 32) ∧
    (agentOf tile ≠ stack.val → ∃ t, exec (.dirPeek stack who) s = .next t ∧ t.mem = s.mem ∧ t.regN p 0x108 = 0 ∧ t.regN p 0x10C = 0 ∧
      (t.log p).writeSeq = wrapSucc 16 (s.log p).writeSeq))

/-- HBM_READ and POISON_NOTICE (R213, R214): a line with no symbol in error and no poison is read without a change; one symbol in error
in one sector is corrected, whatever bits of it are wrong, and raises CE; a notice sets POISON in its tile's entry. -/
def Sys2Proof.Claims.HbmReads : Prop :=
  (∀ (s : State) (line : Nat), line < 3 * 2 ^ 31 → s.domainState (324 + (hbmMap (128 * line)).stack) = 0 → s.placeLost (128 * line) = false →
    (∀ k, k < 4 → s.mem.poison.contains (4 * line + k) = false) →
    (∃ t, exec (.hbmRead line []) s = .next t ∧ OnlyIn s t [.counters, .logs]) ∧
    (∀ k pos v, k < 4 → pos < 72 → 0 < v → v < 16 → ∃ t, exec (.hbmRead line [(k, pos, v)]) s = .next t ∧
      (∀ a, Mem.get t.mem.dram a = Mem.get s.mem.dram a) ∧ t.mem.poison = s.mem.poison ∧ t.mem.dir = s.mem.dir ∧
      bitAt (t.regN (hbcPage (hbmMap (128 * line)).stack) 0x018) 0 = true)) ∧
  (∀ (s : State) (tile : Nat) (rest : List Nat), s.mem.poisonNotices = tile :: rest → s.saturated (agentOf tile) = false →
    ∃ t, exec .poisonNotice s = .next t ∧ ePoison (t.entry tile) = true ∧ eValid (t.entry tile) = eValid (s.entry tile) ∧
      t.mem.poisonNotices = rest ∧ t.mem.dram = s.mem.dram)

/-- HBM_WRITE and SCRUB_READ (R215, R216): a whole line replaces the bytes of its place and ends their poison; with its poison mark all four
sectors are poison and the entry of the tile that has its home there says so; a scrub read is made once the interval has passed and moves the position on by one line. -/
def Sys2Proof.Claims.HbmWrites : Prop :=
  (∀ (s : State) (line : Nat) (data : Line), line < 3 * 2 ^ 31 → s.domainState (324 + (hbmMap (128 * line)).stack) = 0 →
    s.placeLost (128 * line) = false →
    (∃ t, exec (.hbmWrite line 0 128 data false []) s = .next t ∧ OnlyIn s t [.mem] ∧ t.mem.dram = (s.put (128 * line) 128 data.toNat).mem.dram ∧
      (∀ k, k < 4 → t.mem.poison.contains (4 * line + k) = false) ∧ t.mem.dir = s.mem.dir) ∧
    (∀ tile side off, spotOf (128 * line) = .tile tile side off → ∃ t, exec (.hbmWrite line 0 128 data true []) s = .next t ∧
      OnlyIn s t [.mem] ∧ (∀ k, k < 4 → t.mem.poison.contains (4 * line + k) = true) ∧ ePoison (t.entry (frameTile s tile)) = true)) ∧
  (∀ (s : State) (stack : Fin 12) (errs : List (Nat × Nat × Nat)), s.mem.retired = [] → (s.stack stack.val).scrub < 2 ^ 29 →
    s.domainState (324 + stack.val) = 0 →
    (bitAt (s.regN (hbcPage stack.val) 0x100) 31 = true → (s.stack stack.val).scrubTick + s.scrubInterval stack.val ≤ s.tick →
      (s.stack stack.val).lost = false → ∃ t, exec (.scrubRead stack errs) s = .next t ∧
        (t.stack stack.val).scrub = ((s.stack stack.val).scrub + 1) % 2 ^ 29 ∧ (t.stack stack.val).scrubTick = s.tick ∧
        t.mem.dir = s.mem.dir) ∧
    (s.tick < (s.stack stack.val).scrubTick + s.scrubInterval stack.val → exec (.scrubRead stack errs) s = .next s))

/-- ROW_REMAP, ROW_RETIRE, RETIRE_NOTICE, LANE_REPAIR, STACK_LOST, REPAIR_MAP_WRITE and PERIODIC_RETRAIN (R218-R222): each takes the first
of what is due on its stack. -/
def Sys2Proof.Claims.HbmRepairs : Prop :=
  ∀ (s : State) (h : Fin 12),
    let k := s.stack h.val
    (∀ key rest, k.remaps = key :: rest → ∀ n, n = SMap.getD k.spares 0 (key / 16384) → n < 16 → (SMap.getD k.rows [] key).length < 2 →
      ∃ t, exec (.rowRemap h []) s = .next t ∧ (t.stack h.val).remaps = rest.filter (fun r => decide (r ≠ key)) ∧ t.mem.dram = s.mem.dram ∧
        (∀ i, t.mem.poison.contains i = s.mem.poison.contains i) ∧
        SMap.getD (t.stack h.val).rows [] key = SMap.getD k.rows [] key ++ [n] ∧
        SMap.getD (t.stack h.val).spares 0 (key / 16384) = n + 1 ∧ bitAt (t.regN (hbcPage h.val) 0x018) 3 = true) ∧
    (∀ key rest, k.remaps = key :: rest → 2 ≤ (SMap.getD k.rows [] key).length → ∃ t, exec (.rowRemap h []) s = .next t ∧
      (t.stack h.val).remaps = rest ∧ (t.stack h.val).retires = k.retires ++ [key] ∧ t.mem.dram = s.mem.dram) ∧
    (∀ key rest, k.retires = key :: rest → ∃ t, exec (.rowRetire h) s = .next t ∧ (t.stack h.val).retires = rest ∧
      bitAt (t.regN (hbcPage h.val) 0x018) 4 = true ∧ t.mem.dram = s.mem.dram) ∧
    (∀ tile sp, k.notices = [(tile, s.frameOf tile)] → k.relocs = [] → s.saturated h.val = false → agentOf tile = h.val → isDataTile tile = true →
      s.hasHome tile = true → eTier (s.entry tile) = 0 → eMoving (s.entry tile) = false → s.mem.moves = [] → s.mem.atomics = [] →
      freeSpare s h.val 10923 h.val = some sp → ∃ t, exec (.retireNotice h) s = .next t ∧ (t.stack h.val).notices = [] ∧
        t.mem.moves = [⟨tile, .reloc h.val sp, 0, 0, 0, false⟩] ∧ eMoving (t.entry tile) = true ∧
        t.mem.spareUsed.contains sp = true ∧ t.mem.dram = s.mem.dram) ∧
    (∀ ch lane rest, k.laneFails = (ch, lane) :: rest → lane < 72 →
      ((k.channel ch).failed.length < 2 → ∃ t, exec (.laneRepair h) s = .next t ∧ (t.stack h.val).laneFails = rest ∧
        ((t.stack h.val).channel ch).failed = (k.channel ch).failed ++ [lane] ∧ bitAt (t.regN (hbpPage h.val) 0x018) 0 = true) ∧
      (2 ≤ (k.channel ch).failed.length → ∃ t, exec (.laneRepair h) s = .next t ∧ (t.stack h.val).lostChans = k.lostChans ++ [ch])) ∧
    (k.lostChans ≠ [] → ∃ t, exec (.stackLost h) s = .next t ∧ (t.stack h.val).lost = true ∧ (t.stack h.val).lostChans = [] ∧
      bitAt (t.regN (hbcPage h.val) 0x018) 7 = true ∧ bitAt (t.regN (hbpPage h.val) 0x018) 1 = true ∧
      t.retireDue = s.retireDue ++ [1] ∧ t.mem.dram = s.mem.dram) ∧
    (s.mem.repairSince ≠ none → ∃ t, exec .repairMapWrite s = .next t ∧ OnlyIn s t [.mem] ∧ t.mem.repairSince = none ∧
      t.mem.repairFlash.retired = s.mem.retired ∧ t.mem.repairFlash.spareUsed = s.mem.spareUsed ∧ t.mem.dram = s.mem.dram) ∧
    (∀ ch lane, k.lost = false → lane < 72 → k.laneFails = [] →
      (∃ t, exec (.periodicRetrain h ch [lane] false true) s = .next t ∧ (t.stack h.val).laneFails = [(ch.val, lane)] ∧
        t.mem.dram = s.mem.dram) ∧
      (∃ t, exec (.periodicRetrain h ch [] false false) s = .next t ∧ (t.stack h.val).lostChans = k.lostChans ++ [ch.val] ∧
        bitAt (t.regN (hbpPage h.val) 0x018) 2 = true))

/-- The row engine (R169, R171, R179-R181, R184): a kick joins the queue or raises ROW.ISTATUS when 64 wait; a descriptor that fails a
check ends its kick with an error, one that passes runs; a processed row counts; a finished kick adds 1 to its flag; an abort drops all;
the side-memory window moves one word at a time. -/
def Obligations.RowKicks : Prop :=
  ∀ (s s1 : State) (c : Fin 40) (who : Requester) (v : Word),
    let p := rowPage c.val
    let r := s.row c.val
    s.domainState (8 * c.val + 7) = 0 →
    (∀ port : Fin 8, WriteReaches s s1 p (0x204 + 8 * port.val) who v.toNat →
      (r.queue.length < 64 → ∃ t, exec (.rowKick c port who v) s = .next t ∧ (t.row c.val).run = r.run ∧ t.mem = s.mem ∧
        (t.row c.val).queue = r.queue ++ [⟨port.val, field v.toNat 31 24, s.regN p (0x200 + 8 * port.val), field v.toNat 23 0 + 1⟩]) ∧
      (64 ≤ r.queue.length → ∃ t, exec (.rowKick c port who v) s = .next t ∧ t.row c.val = r ∧ bitAt (t.regN p 0x018) 0 = true ∧
        t.mem = s.mem)) ∧
    (∀ k rest s2 d bad, r.run = none → r.queue = k :: rest →
      takeRead s (.row c.val) (s.unitPart c.val) ((field (s.regN p 0x104) 15 0) * 2 ^ 32 + field (s.regN p 0x100) 31 7 * 128 + 128 * k.desc) 128 =
        some (s2, d, bad) →
      (rowReason d k.row0 k.count ≠ 0 → ∃ t, exec (.kickStart c) s = .next t ∧ (t.row c.val).run = none ∧ (t.row c.val).queue = rest ∧
        bitAt (t.regN p 0x108) 31 = true ∧ bitAt (t.regN p 0x018) 1 = true) ∧
      (rowReason d k.row0 k.count = 0 → rAffine d = false → ∃ t, exec (.kickStart c) s = .next t ∧
        (t.row c.val).run = some ⟨k, d, [], [], false, 0⟩ ∧ (t.row c.val).queue = rest)) ∧
    (∀ k s2, r.run = some k → k.done < k.kick.count → rOp k.raw ≠ 0x20 →
      processRow s c.val k ((k.kick.row0 + k.done) % 2 ^ 32) = some s2 → ∃ t, exec (.rowProcess c) s = .next t ∧
        (t.row c.val).run = some { k with done := k.done + 1 } ∧ t.mem = s2.mem) ∧
    (∀ k, r.run = some k → k.kick.count ≤ k.done → field k.raw 28 27 ≠ 3 →
      s.admitsUnit ⟨.core, 7 * c.val + field k.raw 26 24⟩ (s.clusterPart c.val) = true → ∃ t, exec (.kickDone c) s = .next t ∧
        (t.row c.val).run = none ∧ t.mem = s.mem ∧
        (SMap.getD t.cores {} (7 * c.val + field k.raw 26 24)).flagsIn =
          (SMap.getD s.cores {} (7 * c.val + field k.raw 26 24)).flagsIn ++ [⟨Ctx.ofIdx (field k.raw 28 27), field k.raw 39 32, true, 1⟩]) ∧
    (WriteReaches s s1 p 0x010 who 1 → ∃ t, exec (.rowAbort c who) s = .next t ∧ (t.row c.val).queue = [] ∧ (t.row c.val).run = none ∧
      (t.row c.val).side = r.side ∧ bitAt (t.regN p 0x018) 4 = true ∧ t.mem.dram = s.mem.dram ∧ t.mem.dir = s.mem.dir ∧ t.cores = s.cores) ∧
    (ReadReaches s s1 p 0x114 who → ∃ t, exec (.sideDataRead c false who) s = .next t ∧
      (t.row c.val).high.toNat = (r.word (field (s.regN p 0x110) 18 0)).1 / 2 ^ 32 ∧ (t.row c.val).side = r.side) ∧
    (ReadReaches s s1 p 0x118 who → ∃ t, exec (.sideDataRead c true who) s = .next t ∧ t.row c.val = r ∧
      t.regN p 0x110 = (field (s.regN p 0x110) 18 0 + 1) % 524288) ∧
    (WriteReaches s s1 p 0x118 who v.toNat → r.run = none → r.queue = [] → ∃ t, exec (.sideDataWrite c true who v) s = .next t ∧
      ((t.row c.val).word (field (s.regN p 0x110) 18 0)).1 = s.regN p 0x114 + 2 ^ 32 * v.toNat ∧
      t.regN p 0x110 = (field (s.regN p 0x110) 18 0 + 1) % 524288) ∧
    (WriteReaches s s1 p 0x118 who v.toNat → r.run ≠ none → ∃ t, exec (.sideDataWrite c true who v) s = .next t ∧ t.row c.val = r)

/-! ### Ports and Talel -/

/-- FRAME_RECEIVE, PFC_PAUSE, PFC_SEND and LINK_CHANGE (R22, R340-R343): a good untagged UDP frame to an address of the port joins its
receive buffer while that has room, and a bad one does not; a port whose link is down, and P16 in its own place, take none; a received change pauses or resumes an enabled priority; a buffer above XOFF sends a pause; a link
that goes down loses its lanes and its pauses. -/
def Obligations.Ports : Prop :=
  ∀ (s : State) (port : Fin 18),
    let i := s.portNo port.val
    let q := s.port i
    (∀ f : EthFrame, s.linkUp i = false ∨ i = 17 → exec (.frameReceive port f) s = .next s) ∧
    (∀ (f : EthFrame) v6 src dst ecn m, s.mayCarry i = true → f.fcsOk = true → f.size ≤ 9216 → f.tags = 0 → f.sec = none →
      bitAt (s.regN (msecPage i) 0x010) 0 = false → s.portAddr i v6 dst = true →
      f.body = .udp v6 src dst false (s.regN talPage 0x11C % 2 ^ 16) false ecn m → ecn ≠ 1 → q.rxBytes + f.size ≤ 8388608 →
      ∃ t, exec (.frameReceive port f) s = .next t ∧ OnlyIn s t [.net, .regs, .counters, .logs] ∧
        t.port i = { q with rx := q.rx ++ [⟨src, ecn == 3, 0, f.size, m⟩] }) ∧
    (∀ f : EthFrame, s.mayCarry i = true → f.fcsOk = false → ∃ t, exec (.frameReceive port f) s = .next t ∧
      OnlyIn s t [.regs, .counters, .logs]) ∧
    (∀ k on rest, q.pfcIn = (k, on) :: rest → k < 8 → bitAt (s.regN (portPage i) 0x100) (8 + k) = true →
      ∃ t, exec (.pfcPause port) s = .next t ∧ (t.port i).pfcIn = rest ∧ t.paused i k = on ∧ t.mem = s.mem) ∧
    (∀ k : Fin 8, bitAt (s.regN (portPage i) 0x100) (8 + k.val) = true → s.mayCarry i = true → q.pausing.contains k.val = false →
      1024 * field (s.regN (portPage i) 0x124) 15 0 <
        (q.rx.filter (fun r => decide (r.prio = k.val))).foldl (fun n r => n + r.size) 0 →
      ∃ t, exec (.pfcSend port k) s = .next t ∧ OnlyIn s t [.net, .counters, .logs] ∧
        (∃ sec, t.net.wire = .pfc i k.val true sec :: s.net.wire ∧ (bitAt (s.regN (msecPage i) 0x010) 0 = false → sec = none)) ∧
        (t.port i).pausing.contains k.val = true ∧ (t.port i).rx = q.rx) ∧
    (s.linkUp i = true → ∃ t, exec (.linkChange port false) s = .next t ∧ t.linkUp i = false ∧ (∀ k, k < 8 → t.paused i k = false) ∧
      bitAt (t.regN (portPage i) 0x018) 0 = true ∧ OnlyIn s t [.regs])

/-- CONNECT, ACCEPT, CLOSE, NAK and CSTATE_RELEASE (R346-R349, R354): a CONNECT that the stage and the port admit opens the lowest FREE
context and one that they do not opens none; an ACCEPT opens the FREE context that it names, unless the port does not take its kind; a close of a context with nothing
unacknowledged frees it; a NAK ends the request it refuses; RELEASE frees a FAILED context and no other. -/
def Obligations.TalelContexts : Prop :=
  ∀ (s : State) (port : Fin 18),
    let i := s.portNo port.val
    let c (m : Msg) : TalCtx := s.tctx m.dstCtx
    (∀ r rest, (s.port i).rx = r :: rest → malformed r.msg = false → r.msg.cls = 6 →
      (subOf r.msg = 2 → s.net.ctxs.all (fun e => decide (e.2.st ≠ 1)) = true →
        let kind := field r.msg.data 15 8
        (∀ n, kind ≤ 2 → admitted s.stage347 kind = true → kindOnPort i kind = true →
          (kind = 0 → mgmtFull s = false) → freeCtx s 16384 0 = some n → ∃ t, exec (.connect port) s = .next t ∧ (t.port i).rx = rest ∧ (t.tctx n).st = 1 ∧
            (t.tctx n).kind = kind ∧ (t.tctx n).port = i ∧ (t.tctx n).part = field r.msg.data 17 16 ∧ (t.tctx n).peer = r.peer ∧
            (t.tctx n).peerCtx = r.msg.srcCtx ∧ (t.tctx n).rxNext = psnNext (field r.msg.data 55 32) ∧
            (t.tctx n).unacked.map (·.msg.cls) = [6] ∧ t.mem = s.mem ∧ ∀ k, k ≠ n → t.tctx k = s.tctx k) ∧
        (kind ≤ 2 → (admitted s.stage347 kind && kindOnPort i kind) = false → ∃ t, exec (.connect port) s = .next t ∧ (t.port i).rx = rest ∧
          t.net.ctxs = s.net.ctxs ∧ t.mem = s.mem)) ∧
      (∀ kind part psn, subOf r.msg = 3 → kindOnPort i kind = false → ∃ t, exec (.accept port kind part psn) s = .next t ∧
        (t.port i).rx = rest ∧ t.net.ctxs = s.net.ctxs) ∧
      (∀ kind part psn, subOf r.msg = 3 → kindOnPort i kind = true → (kind = 0 → mgmtFull s = false) → (c r.msg).st = 0 →
        ∃ t, exec (.accept port kind part psn) s = .next t ∧
        (t.port i).rx = rest ∧ (t.tctx r.msg.dstCtx).st = 1 ∧ (t.tctx r.msg.dstCtx).kind = kind ∧ (t.tctx r.msg.dstCtx).port = i ∧
        (t.tctx r.msg.dstCtx).part = part % 4 ∧
        (t.tctx r.msg.dstCtx).peerCtx = r.msg.srcCtx ∧ (t.tctx r.msg.dstCtx).rxNext = psnNext (field r.msg.data 55 32)) ∧
      (subOf r.msg = 1 → (c r.msg).st = 1 → (c r.msg).port = i → (c r.msg).peer = r.peer → (c r.msg).peerCtx = r.msg.srcCtx →
        r.msg.ackpsn = none → (c r.msg).queue = [] → ∃ t, exec (.nak port false) s = .next t ∧ (t.port i).rx = rest ∧
          (t.tctx r.msg.dstCtx).unacked = (c r.msg).unacked.filter (fun u => decide (u.msg.psn ≠ field r.msg.data 119 96)) ∧
          (t.tctx r.msg.dstCtx).st = 1) ∧
      (subOf r.msg = 1 → (c r.msg).st ≠ 1 → ∃ t, exec (.nak port false) s = .next t ∧ (t.port i).rx = rest ∧ t.net.ctxs = s.net.ctxs)) ∧
    (∀ (n : Fin 16384) m rest, (s.tctx n.val).st = 1 → (s.tctx n.val).ready = m :: rest → m.cls = 6 → subOf m = 4 →
      ((s.tctx n.val).unacked = [] → (s.tctx n.val).queue = [] → ∃ t, exec (.close n) s = .next t ∧ t.tctx n.val = {} ∧ t.mem.dram = s.mem.dram) ∧
      ((s.tctx n.val).unacked ≠ [] → ∃ t, exec (.close n) s = .next t ∧ (t.tctx n.val).st = 2 ∧
        (t.tctx n.val).unacked = (s.tctx n.val).unacked ∧ t.mem.dram = s.mem.dram)) ∧
    (∀ s1 who (v : Word), WriteReaches s s1 talPage 0x114 who v.toNat → bitAt v.toNat 27 = true →
      let n := field (s.regN talPage 0x110) 13 0
      ((s.tctx n).st = 3 → ∃ t, exec (.cstateRelease who v) s = .next t ∧ t.tctx n = {} ∧ t.mem = s.mem) ∧
      ((s.tctx n).st ≠ 3 → ∃ t, exec (.cstateRelease who v) s = .next t ∧ t.net = s.net ∧
        (t.log talPage).writeSeq = wrapSucc 16 (s.log talPage).writeSeq))

/-- ACK, MESSAGE_RECEIVE, ACK_DELAY_EXPIRY and RTO_EXPIRY (R344, R349-R353): an acknowledgement frees the messages before it and sets RTO
back; the message with the PSN expected takes its turn, a carousel frame going to its unit, and one already received does not; the delayed acknowledgement is sent when its
time has passed; a message unacknowledged for RTO is sent again with RTO doubled up to its bound, or fails its context after RETRY_MAX. -/
def Obligations.Transport : Prop :=
  ∀ (s : State) (port : Fin 18) (n : Fin 16384),
    let i := s.portNo port.val
    let c := s.tctx n.val
    (∀ r rest, (s.port i).rx = r :: rest → r.msg.dstCtx = n.val → c.st = 1 → c.port = i → c.peer = r.peer → c.peerCtx = r.msg.srcCtx →
      c.queue = [] →
      (∀ a, malformed r.msg = false → r.msg.cls = 6 → subOf r.msg = 0 → r.msg.ackpsn = some a → field r.msg.data 15 8 = 0 →
        r.msg.ece = false → ∃ t, exec (.ack port) s = .next t ∧ (t.port i).rx = rest ∧ t.mem = s.mem ∧
          (t.tctx n.val).unacked = c.unacked.filter (fun u => !psnBefore u.msg.psn a) ∧
          (c.unacked.all (fun u => !psnBefore u.msg.psn a) = false → (t.tctx n.val).rto = s.rtoInit) ∧
          (c.cwnd ≤ s.cwndMax → c.cwnd ≤ (t.tctx n.val).cwnd)) ∧
      (malformed r.msg = true → ∃ t, exec (.messageReceive port) s = .next t ∧ (t.port i).rx = rest ∧ t.net.ctxs = s.net.ctxs ∧
        bitAt (t.regN talPage 0x018) 2 = true) ∧
      (malformed r.msg = false → r.msg.cls ∈ [1, 2, 3] → r.msg.resp = false → r.msg.ackpsn = none → r.msg.psn = c.rxNext →
        c.rxNext < 2 ^ 24 → c.above = [] → reqCode s c r.msg = 0 → ∃ t, exec (.messageReceive port) s = .next t ∧
          (t.port i).rx = rest ∧ (t.tctx n.val).ready = c.ready ++ [r.msg] ∧ (t.tctx n.val).rxNext = psnNext c.rxNext ∧ t.mem = s.mem) ∧
      (malformed r.msg = false → r.msg.cls ∈ [4, 5] → c.kind = 2 → r.msg.ackpsn = none → r.msg.psn = c.rxNext → c.rxNext < 2 ^ 24 →
        c.above = [] → c.early.contains r.msg.psn = false → ∃ t, exec (.messageReceive port) s = .next t ∧ (t.port i).rx = rest ∧
          (t.tctx n.val).toUnit = c.toUnit ++ [r.msg] ∧ (t.tctx n.val).rxNext = psnNext c.rxNext ∧ t.mem = s.mem) ∧
      (malformed r.msg = false → r.msg.cls ∈ [1, 2, 3] → r.msg.ackpsn = none → psnBefore r.msg.psn c.rxNext = true →
        1024 ≤ psnDist r.msg.psn c.rxNext → ∃ t, exec (.messageReceive port) s = .next t ∧ (t.port i).rx = rest ∧
          (t.tctx n.val).ready = c.ready ∧ (t.tctx n.val).rxNext = c.rxNext ∧ t.mem = s.mem)) ∧
    (∀ at_, c.st = 1 → c.firstAt = some at_ →
      (at_ + field (s.regN talPage 0x104) 31 16 ≤ s.tick → ∃ t, exec (.ackDelayExpiry n) s = .next t ∧ (t.tctx n.val).firstAt = none ∧
        (t.tctx n.val).unanswered = 0 ∧ (t.tctx n.val).rxNext = c.rxNext ∧ t.mem = s.mem) ∧
      (s.tick < at_ + field (s.regN talPage 0x104) 31 16 → exec (.ackDelayExpiry n) s = .next s)) ∧
    (∀ u, c.st = 1 → c.unacked.find? (fun u => decide (u.since + c.rto ≤ s.tick)) = some u →
      c.unacked.find? (fun w => decide (w.msg.psn = u.msg.psn)) = some u → (s.port c.port).sparing = none →
      (u.tries < max 1 (field (s.regN talPage 0x104) 7 0) → ∃ t, exec (.rtoExpiry n) s = .next t ∧
        (t.tctx n.val).rto = min (2 * c.rto) (max s.rtoMax s.rtoInit) ∧ (t.tctx n.val).st = 1 ∧
        (t.tctx n.val).unacked.length = c.unacked.length ∧
        (t.tctx n.val).unacked.any (fun w => decide (w.msg.psn = u.msg.psn) && w.msg.retx && decide (w.tries = u.tries + 1)) = true) ∧
      (max 1 (field (s.regN talPage 0x104) 7 0) ≤ u.tries → ∃ t, exec (.rtoExpiry n) s = .next t ∧ (t.tctx n.val).st = 3 ∧
        (t.tctx n.val).unacked = [] ∧ bitAt (t.regN talPage 0x018) 0 = true)) ∧
    (c.unacked.all (fun u => decide (s.tick < u.since + c.rto)) = true → exec (.rtoExpiry n) s = .next s)

/-- REG_READ, REG_WRITE, MEM_READ, MEM_WRITE and ATOMIC_FETCH_ADD (R204, R205, R355, R395): a read of a page's ID answers its block and
instance, a write of IMASK changes the bits the block has; bytes of a tile are read or replaced at its home; one grain of an alias window
is replaced by its sum and the old value answered. -/
def Obligations.TalelRequests : Prop :=
  ∀ (s : State) (n : Fin 16384) (m : Msg) (rest : List Msg), RequestReady s n.val m rest →
    let part := (s.tctx n.val).part
    let addr := field m.data 79 32
    let len := field m.data 31 16
    let place (tile : Nat) (side : Bool) (off : Nat) : Nat := s.tilePlace tile side off
    (∀ p : Page, m.cls = 1 → field m.data 7 2 = 0 → pageAt (field m.data 31 8) = some p → s.domainUp p.domain = true →
      s.admits p (.talel (Fin.ofNat 4 part)) = true →
      (field m.data 1 0 = 0 → field m.data 31 8 = p.key 0 → ∃ t, exec (.regRead n) s = .next t ∧
        Answers s t n.val m 4 (p.block.code * 2 ^ 24 + p.inst) ∧ OnlyIn s t [.net, .regs, .counters, .logs]) ∧
      (field m.data 1 0 = 1 → field m.data 31 8 = p.key 0x01C → ∃ t, exec (.regWrite n) s = .next t ∧ Answers s t n.val m 0 0 ∧
        t.regN p 0x01C = m.data / 2 ^ 96 % 2 ^ p.block.istBits ∧ t.mem = s.mem)) ∧
    (∀ tile side off, m.cls = 2 → spotOf addr = .tile tile side off → PlainTile s part tile →
      off + len ≤ (if side then 0x400 else 0x8000) → NothingAsked s n.val addr len →
      (field m.data 1 0 = 0 → s.meetsPoison (place tile side off) len = false → ∃ t, exec (.memRead n) s = .next t ∧
        Answers s t n.val m len (Mem.read s.mem.dram (place tile side off) len) ∧ t.mem.dram = s.mem.dram ∧ t.mem.dir = s.mem.dir) ∧
      (field m.data 1 0 = 1 → ∃ t, exec (.memWrite n) s = .next t ∧ Answers s t n.val m 0 0 ∧ t.mem.dir = s.mem.dir ∧
        t.mem.dram = (s.put (place tile side off) len (m.data / 2 ^ 96 % 2 ^ (8 * len))).mem.dram)) ∧
    (∀ fmt off, m.cls = 2 → field m.data 1 0 = 2 → spotOf addr = .alias_ fmt off → PlainTile s part (off / 0x8000) →
      eTier (s.entry (off / 0x8000)) = 0 → len = grainOf fmt → off % len = 0 → NothingAsked s n.val off len →
      s.meetsPoison (place (off / 0x8000) false (off % 0x8000)) len = false →
      let p := place (off / 0x8000) false (off % 0x8000)
      let old := Mem.read s.mem.dram p len
      ∃ t, exec (.atomicFetchAdd n) s = .next t ∧ Answers s t n.val m len old ∧
        t.mem.dram = Mem.write s.mem.dram p len (grainAdd fmt old (m.data / 2 ^ 96 % 256 ^ len)).1)

/-- MBX_DOORBELL, MBX_SEND, MBX_POP, MBX_CFG_WRITE and SAK_COMMIT (R342, R373, R374): doorbell bits join MBX.DB; the 64 staged bytes
join the channel's messages, or are discarded at 16; a pop takes the head; a back interrupt to no software source is refused; COMMIT
installs the staged key and starts its packet numbers at 1. -/
def Obligations.Mailboxes : Prop :=
  ∀ (s s1 : State) (k : Fin 64) (who : Requester) (v : Word),
    let p := mbxPage k.val
    let box := s.box k.val
    (WriteReaches s s1 p 0x300 who v.toNat → ∃ t, exec (.mbxDoorbell (.page k who v)) s = .next t ∧
      t.reg p 0x304 = s.reg p 0x304 ||| v ∧ bitAt (t.regN p 0x018) 0 = true ∧ t.irq = s.irq ∧ t.mem = s.mem) ∧
    (WriteReaches s s1 p 0x240 who v.toNat →
      (box.length < 16 → ∃ t, exec (.mbxSend (.page k who v)) s = .next t ∧
        t.box k.val = box ++ [boxStaged s k.val % 2 ^ 512] ∧ bitAt (t.regN p 0x018) 0 = true ∧ t.mem = s.mem) ∧
      (16 ≤ box.length → ∃ t, exec (.mbxSend (.page k who v)) s = .next t ∧ t.box k.val = box ∧ bitAt (t.regN p 0x018) 2 = true)) ∧
    (WriteReaches s s1 p 0x2C0 who v.toNat →
      (∀ m rest, box = m :: rest → rest ≠ [] → ∃ t, exec (.mbxPop k who v) s = .next t ∧ t.box k.val = rest ∧ t.regs = s.regs ∧
        t.mem = s.mem) ∧
      (box = [] → ∃ t, exec (.mbxPop k who v) s = .next t ∧ t.box k.val = [] ∧ t.regs = s.regs)) ∧
    (WriteReaches s s1 p 0x100 who v.toNat →
      (field v.toNat 31 30 = 3 → field v.toNat 13 0 < 3072 → ∃ t, exec (.mbxCfgWrite k who v) s = .next t ∧ t.regs = s.regs ∧
        (t.log p).writeSeq = wrapSucc 16 (s.log p).writeSeq) ∧
      (field v.toNat 31 30 ≠ 3 → ∃ t, exec (.mbxCfgWrite k who v) s = .next t ∧
        t.regN p 0x100 = field v.toNat 31 30 * 2 ^ 30 + field v.toNat 13 0)) ∧
    (∀ port : Fin 18, WriteReaches s s1 (msecPage port.val) 0x108 who v.toNat → bitAt v.toNat 31 = true →
      ∃ t, exec (.sakCommit port who v) s = .next t ∧ t.mem = s.mem ∧
        SMap.get (t.port port.val).keys (v.toNat % 8) =
          some (ofWords ((List.range 12).map (fun w => s.stage (msecPage port.val) (0x10C + 4 * w)))) ∧
        SMap.get (t.port port.val).pns (v.toNat % 8) = some 1)

/-! ### Training -/

/-- ADMISSION, SLICE_COMMIT, FRONTIER_ADVANCE, FRONTIER_FLAG_SEND, PHS_LDATA_WRITE and PHS_LDATA_READ (R236, R237, R239, R246): the
outcomes that the step unit gives a slice of the update unit, the count and the completion of a layer's tag, the advance over complete
layers and the adds it queues, and the layer entries written and read through LDATA. -/
def Obligations.StepUnit : Prop :=
  ∀ (s s1 : State),
    (∀ (a : Ask) rest n, s.step.asks = a :: rest → a.path = .update n → s.stepOn = true → a.layer ≤ s.layersM1 → a.step < 65532 →
      let e := s.stepEntry a.layer
      let d := stepDiff a.step (field e 63 48)
      let bits := SMap.getD s.step.bitmaps 0 a.layer
      a.idx ≤ field e 9 0 →
      (d = 1 → bitAt bits a.idx = false → (1 ≤ field e 47 46 ∨ field e 45 37 = 0) → ∃ t, exec .admission s = .next t ∧
        OnlyIn s t [.step, .upd, .counters, .logs] ∧ t.step = { s.step with asks := rest, bitmaps := SMap.set s.step.bitmaps a.layer (bits + 2 ^ a.idx) } ∧
        t.upd = s.upd.mapSlice n (fun x => { x with admitted := true, retry := none })) ∧
      (((d = 1 ∧ bitAt bits a.idx = true) ∨ d = 0 ∨ 32766 ≤ d) → ∃ t, exec .admission s = .next t ∧
        OnlyIn s t [.step, .upd, .regs, .counters, .logs] ∧ t.step = { s.step with asks := rest } ∧
        t.upd.slices = SMap.del s.upd.slices n ∧ bitAt (t.regN stepPage 0x018) 1 = true ∧
        bitAt (t.regN stepPage 0x118) 31 = true) ∧
      (d = 1 → bitAt bits a.idx = false → field e 47 46 = 0 → field e 45 37 ≠ 0 → ∃ t, exec .admission s = .next t ∧
        t.step.asks = rest ∧ t.step.bitmaps = s.step.bitmaps ∧ bitAt (t.stepEntry a.layer) 16 = true ∧
        bitAt (t.regN stepPage 0x018) 0 = true ∧ bitAt (t.regN stepPage 0x018) 1 = true ∧
        t.upd = s.upd.mapSlice n (fun x => { x with retry := some (s.tick + max 100 (s.regN crsPage 0x130)) })) ∧
      (2 ≤ d → d ≤ 32765 → ∃ t, exec .admission s = .next t ∧ t.step = { s.step with asks := rest } ∧
        bitAt (t.regN stepPage 0x018) 1 = true ∧
        t.upd = s.upd.mapSlice n (fun x => { x with retry := some (s.tick + max 100 (s.regN crsPage 0x130)) }))) ∧
    (∀ (c : Commit) rest, s.step.commits = c :: rest →
      let e := s.stepEntry c.layer
      (field e 27 17 < field e 9 0 → ∃ t, exec .sliceCommit s = .next t ∧ OnlyIn s t [.step] ∧ t.step.commits = rest ∧
        t.step.bitmaps = s.step.bitmaps ∧ t.stepEntry c.layer = putField e 17 11 (field e 27 17 + 1)) ∧
      (field e 9 0 ≤ field e 27 17 → ∃ t, exec .sliceCommit s = .next t ∧ OnlyIn s t [.step] ∧ t.step.commits = rest ∧
        field (t.stepEntry c.layer) 63 48 = (field e 63 48 + 1) % 65532 ∧ field (t.stepEntry c.layer) 27 17 = 0 ∧
        field (t.stepEntry c.layer) 47 46 = (field e 47 46 + 3) % 4 ∧ bitAt (t.stepEntry c.layer) 16 = false ∧
        field (t.stepEntry c.layer) 9 0 = field e 9 0 ∧ SMap.getD t.step.bitmaps 0 c.layer = 0)) ∧
    (s.stepOn = true →
      let step := field (s.regN stepPage 0x104) 31 16
      let layer := field (s.regN stepPage 0x104) 9 0
      let tagOf (l : Nat) : Nat := field (s.stepEntry l) 63 48
      (∀ n, 0 < n → layer + n ≤ s.layersM1 → (∀ k, k < n → stepAtOrAfter (tagOf (layer + k)) step = true) →
        stepAtOrAfter (tagOf (layer + n)) step = false → ∃ t, exec .frontierAdvance s = .next t ∧ OnlyIn s t [.step, .regs] ∧
          t.regN stepPage 0x104 = step * 2 ^ 16 + (layer + n) ∧ t.regN stepPage 0x108 = (s.regN stepPage 0x108 + n) % 2 ^ 32 ∧
          t.step = { s.step with sends := s.step.sends ++ (subscribed s).map (fun c => (c, n)) }) ∧
      (layer = s.layersM1 → stepAtOrAfter (tagOf layer) step = true → stepAtOrAfter (tagOf 0) (stepNext step) = false →
        ∃ t, exec .frontierAdvance s = .next t ∧ t.regN stepPage 0x104 = (step + 1) % 65532 * 2 ^ 16 ∧
          t.step.sends = s.step.sends ++ (subscribed s).map (fun c => (c, 1))) ∧
      (stepAtOrAfter (tagOf layer) step = false → exec .frontierAdvance s = .next s)) ∧
    (∀ core n rest, s.step.sends = (core, n) :: rest → ∃ t, exec .frontierFlagSend s = .next t ∧ OnlyIn s t [.step, .cores] ∧
      t.step = { s.step with sends := rest } ∧
      (SMap.getD t.cores {} core).flagsIn =
        (SMap.getD s.cores {} core).flagsIn ++ [⟨.f, field (s.regN stepPage 0x100) 7 0, true, n⟩]) ∧
    (∀ who (v : Word), WriteReaches s s1 stepPage 0x114 who v.toNat →
      let l := field (s.regN stepPage 0x10C) 9 0
      (s.stepOn = false → ∃ t, exec (.phsLdataWrite who v) s = .next t ∧
        t.stepEntry l = putField (v.toNat * 2 ^ 32 + s.regN stepPage 0x110) 10 6 0 ∧ SMap.getD t.step.bitmaps 0 l = 0 ∧
        (∀ k, k ≠ l → t.stepEntry k = s.stepEntry k) ∧ t.mem = s.mem) ∧
      (s.stepOn = true → ∃ t, exec (.phsLdataWrite who v) s = .next t ∧ t.step = s.step ∧
        (t.log stepPage).writeSeq = wrapSucc 16 (s.log stepPage).writeSeq)) ∧
    (∀ who, ReadReaches s s1 stepPage 0x110 who → ∃ t, exec (.phsLdataRead who) s = .next t ∧ t.step = s.step ∧ t.regs = s.regs ∧
      (busRead s (stepPage.key 0x110) who).2 = .value (s.stepEntry (field (s.regN stepPage 0x10C) 9 0) % 2 ^ 32) ∧
      SMap.getD t.snaps 0 (stepPage.key 0x114) =
        BitVec.ofNat 32 (s.stepEntry (field (s.regN stepPage 0x10C) 9 0) / 2 ^ 32))

/-- HAND, GATHER, QUANTISE_SEGMENT and HAND_DONE (R254, R255, R256, R278): a hand of a valid tag of an enabled carousel joins the queue of
256, any other does not; a gather joins the pulls when no hand is before it; a segment's elements are scaled, rounded and clamped lane by
lane, or make an EMPTY void contribution when one is not finite; the completion flag is added when every segment has been read. -/
def Sys2Proof.Claims.Hands : Prop :=
  ∀ (s s1 : State) (port : Fin 128) (who : Requester) (v : Word),
    let off := 0x80C + 16 * port.val
    let w (i : Nat) : Nat := (s.stage crsPage (0x800 + 16 * port.val + 4 * i)).toNat
    let tag : Tag := ⟨field (w 2) 31 16, field (w 2) 11 0, field v.toNat 9 0⟩
    let b := s.bucket tag.step tag.bucket
    let h (g : Bool) : Hand := ⟨g, w 0 + 2 ^ 32 * field (w 1) 31 31, w 0, field (w 1) 30 23, field (w 1) 22 21, field (w 1) 20 18,
      field (w 1) 17 12, tag, 0⟩
    (WriteReaches s s1 crsPage off who v.toNat →
      (s.crsOn = false → ∃ t, exec (.hand port who v) s = .next t ∧ t.crs = s.crs ∧ t.mem = s.mem) ∧
      (s.crsOn = true → s.tagClosed tag.step = false →
        (256 ≤ s.crs.hands.length → ∃ t, exec (.hand port who v) s = .next t ∧ t.crs = s.crs ∧ bitAt (t.regN crsPage 0x018) 1 = true) ∧
        (s.crs.hands.length < 256 → tag.step < 65532 → b.valid = true → tag.slice < b.slices →
          (field v.toNat 31 30 = 0 → b.contribs = true → (s.unit b.redOut).handed.contains tag = false →
            ∃ t, exec (.hand port who v) s = .next t ∧ OnlyIn s t [.crs, .counters, .logs, .sec] ∧
              t.crs.hands = (s.crs.hands ++ [h false]).dropWhile (·.gather) ∧ (t.unit b.redOut).handed.contains tag = true) ∧
          (field v.toNat 31 30 = 0 → b.contribs = false → ∃ t, exec (.hand port who v) s = .next t ∧ t.crs = s.crs ∧
            bitAt (t.regN crsPage 0x018) 0 = true) ∧
          (field v.toNat 31 30 = 0 → b.contribs = true → (s.unit b.redOut).handed.contains tag = true →
            ∃ t, exec (.hand port who v) s = .next t ∧ t.crs = s.crs ∧ bitAt (t.regN (unitPage b.redOut) 0x018) 0 = true) ∧
          (field v.toNat 31 30 = 1 → gatherFits (h true) b = true → s.crs.hands = [] → ∃ t, exec (.gather port who v) s = .next t ∧
            OnlyIn s t [.crs, .counters, .logs, .sec] ∧ t.crs.hands = [] ∧
            t.crs.pulls = insertPull ⟨tag, some (h true), none⟩ s.crs.pulls)))) ∧
    (∀ (k : Hand) rest e s2 x, s.crs.hands = k :: rest →
      let b := s.bucket k.tag.step k.tag.bucket
      let u := s.unit b.redOut
      k.seg < b.segs → s.contribHeld b.redOut < 256 → b.thinned = false → b.owner = false →
      u.closed.contains (k.tag, k.seg) = false → u.slots.any (fun q => q.tag == k.tag && q.seg == k.seg) = false →
      u.slots.length < 1024 → scaleE k.tag s = .ok (e, s1) →
      trainRead ((k.tile + k.seg / 4) % 2 ^ 33 * 0x8000 + k.seg % 4 * 8192) 8192 s1 = .ok (x, s2) →
      let q (j : Nat) : Int × Bool := quantise b.stochastic (quantR s2 k.tag (2048 * k.seg + j)) (signedOf 8 e) (2 ^ (31 - b.h) - 1)
        (x / 2 ^ (32 * j) % 2 ^ 32)
      (anyNonFinite 2048 x = false → ∃ (t : State) (data : Nat), exec .quantiseSegment s = .next t ∧
        t.crs.hands = { k with seg := k.seg + 1 } :: rest ∧
        (t.unit b.redOut).slots = u.slots ++ [⟨k.tag, k.seg, s.tick,
          [⟨31, 1, (List.range 2048).any (fun j => (q j).2), false, e, false, data⟩]⟩] ∧
        (∀ j, j < 2048 → data / 2 ^ (32 * j) % 2 ^ 32 = wrapTo 32 (q j).1) ∧ t.mem.dram = s2.mem.dram) ∧
      (anyNonFinite 2048 x = true → ∃ t, exec .quantiseSegment s = .next t ∧ t.crs.hands = { k with seg := k.seg + 1 } :: rest ∧
        (t.unit b.redOut).slots = u.slots ++ [⟨k.tag, k.seg, s.tick, [⟨31, 0, false, true, e, true, 0⟩]⟩] ∧
        t.crs.voidLog = ((k.tag, k.seg, s2.regN crsPage 0x100 % 2 ^ 16) :: s2.crs.voidLog).take 16 ∧ bitAt (t.regN crsPage 0x018) 2 = true)) ∧
    (∀ (k : Hand) rest core, s.crs.hands = k :: rest → (s.bucket k.tag.step k.tag.bucket).segs ≤ k.seg →
      (k.target = some core → s.admitsUnit ⟨.core, core⟩ s.trainPart = true → ∃ t, exec .handDone s = .next t ∧
        OnlyIn s t [.crs, .cores] ∧ t.crs.hands = rest.dropWhile (·.gather) ∧
        (SMap.getD t.cores {} core).flagsIn = (SMap.getD s.cores {} core).flagsIn ++ [⟨Ctx.ofIdx k.ctx, k.flag, true, 1⟩]) ∧
      (k.target = none → ∃ t, exec .handDone s = .next t ∧ OnlyIn s t [.crs] ∧ t.crs.hands = rest.dropWhile (·.gather)))

/-- BANK_SWITCH_WRITE, OLD_IDLE, BDATA_WRITE, BDATA_READ, RECORD_HANDOFF and THINNED_HANDOFF (R251, R252, R279, R284, R285): CRS.BANK takes
its fields and keeps OLD_IDLE only while armed; OLD_IDLE rises when nothing old is held; a table word is committed to a bank that no tag
uses; a closed record and an empty thinned slice join the update unit's queue; a thinned record with contributors is pushed to a core. -/
def Sys2Proof.Claims.CarouselTables : Prop :=
  ∀ (s s1 : State) (who : Requester) (v : Word),
    let r := s.regN crsPage 0x110
    let sel := s.regN crsPage 0x114
    let word := v.toNat * 2 ^ 32 + s.regN crsPage 0x118
    let used : Bool := s.crsOn && (bitAt r 31 || field sel 14 14 == field r 16 16)
    (WriteReaches s s1 crsPage 0x110 who v.toNat → ∃ t, exec (.bankSwitchWrite who v) s = .next t ∧ OnlyIn s t [.regs, .sec] ∧
      t.regN crsPage 0x110 = field v.toNat 31 31 * 2 ^ 31 + (if bitAt v.toNat 31 && bitAt r 30 then 2 ^ 30 else 0) + field v.toNat 16 0) ∧
    ((bitAt r 31 = true → bitAt r 30 = false → s.oldHeld = false → ∃ t, exec .oldIdle s = .next t ∧ OnlyIn s t [.regs] ∧
      t.regN crsPage 0x110 = r + 2 ^ 30 ∧ bitAt (t.regN crsPage 0x018) 6 = true) ∧ (s.oldHeld = true → exec .oldIdle s = .next s)) ∧
    (WriteReaches s s1 crsPage 0x11C who v.toNat →
      (used = false → bwordReserved (field sel 1 0) word = false → ∃ t, exec (.bdataWrite who v) s = .next t ∧
        OnlyIn s t [.crs, .regs, .sec] ∧ t.crs = { s.crs with banks := t.crs.banks } ∧
        t.bword (field sel 14 14) (field sel 13 2) (field sel 1 0) = word) ∧
      (used = true → ∃ t, exec (.bdataWrite who v) s = .next t ∧ OnlyIn s t [.logs, .sec] ∧
        (t.log crsPage).writeSeq = wrapSucc 16 (s.log crsPage).writeSeq)) ∧
    (ReadReaches s s1 crsPage 0x118 who → ∃ t, exec (.bdataRead who) s = .next t ∧ OnlyIn s t [.snaps, .sec] ∧
      (busRead s (crsPage.key 0x118) who).2 = .value (s.bword (field sel 14 14) (field sel 13 2) (field sel 1 0) % 2 ^ 32) ∧
      SMap.getD t.snaps 0 (crsPage.key 0x11C) =
        BitVec.ofNat 32 (s.bword (field sel 14 14) (field sel 13 2) (field sel 1 0) / 2 ^ 32)) ∧
    (∀ tag rest, s.crs.records = (tag, none) :: rest →
      (s.updOn = true → s.upd.queue.length < 256 → ∃ t, exec .recordHandoff s = .next t ∧ OnlyIn s t [.crs, .upd] ∧
        t.crs = { s.crs with records := rest } ∧ t.upd = { s.upd with queue := s.upd.queue ++ [(tag, .record)] }) ∧
      (s.updOn = true → 256 ≤ s.upd.queue.length → exec .recordHandoff s = .next s) ∧
      (s.updOn = false → ∃ t, exec .recordHandoff s = .next t ∧ t.crs = { s.crs with records := rest } ∧ t.upd = s.upd)) ∧
    (∀ tag n rest, s.crs.records = (tag, some n) :: rest → s.updOn = true →
      let b := s.bucket tag.step tag.bucket
      let cl := lCluster (s.layerWords b.layer)
      let core := 7 * cl + lRebuild (s.layerWords b.layer)
      let q (t : State) : DataQueue := ((SMap.getD t.cores {} core).ctx .u).queue 0
      (n = 0 → s.upd.queue.length < 256 → tag.slice + 1 = b.slices → ∃ t, exec .thinnedHandoff s = .next t ∧ OnlyIn s t [.crs, .upd] ∧
        t.crs = { s.crs with records := rest } ∧ t.upd = { s.upd with queue := s.upd.queue ++ [(tag, .empty)] }) ∧
      (n ≠ 0 → cl < 40 → (q s).credits ≠ 0 → ∃ t, exec .thinnedHandoff s = .next t ∧ OnlyIn s t [.crs, .cores, .upd] ∧
        t.crs = { s.crs with records := rest } ∧
        t.upd = { s.upd with rebuilds := s.upd.rebuilds ++ (List.range b.slices).map (fun j => ⟨tag.step, tag.bucket, j⟩) } ∧ (q t).credits = (q s).credits - 1 ∧
        (SMap.getD t.cores {} core).pushIn = (SMap.getD s.cores {} core).pushIn ++ [⟨.u, 0, 280, BitVec.ofNat 512
          (tag.step + 2 ^ 16 * tag.bucket + 2 ^ 32 * n + 2 ^ 48 * field b.w0 37 34 + 2 ^ 64 * b.thinBase tag.step)⟩]) ∧
      (n ≠ 0 → cl < 40 → (q s).credits = 0 → exec .thinnedHandoff s = .next s))

/-- REDUCE_FRAME, SLOT_FORWARD, HOLD_EXPIRY and FACTOR_FRAME (R258-R263, R270, R350): a frame whose message its unit cannot take does
nothing; a REDUCE frame of an expected port opens its slot at a hop
and one of a closed key is late; a slot whose inputs share their scale is sent as one frame whose count and lanes are the sums of its
inputs', by all its inputs' presence or by CRS.HOLD; a FACTOR frame is forwarded as it is. -/
def Sys2Proof.Claims.CarouselHops : Prop :=
  ∀ (s s0 : State) (port unit : Fin 17) (m : CrsMsg) (f : CrsFrame),
    let u := s.unitNo port.val
    let taken := takeMessage s u m.ctx.val m.psn f
    let tag : Tag := ⟨f.step, f.bucket, f.slice⟩
    let b := s.bucket f.step f.bucket
    let x := s.unit b.redOut
    let sent (s t : State) (u : Nat) (d : Nat) : Prop := ∃ e : Unacked, (t.tctx (s.portCtx u)).unacked =
      (s.tctx (s.portCtx u)).unacked ++ [e] ∧ e.msg.cls = 4 ∧ e.msg.data = d
    let free (s : State) (u : Nat) : Prop := (s.tctx (s.portCtx u)).st = 1 ∧ (s.tctx (s.portCtx u)).queue = [] ∧
      (s.tctx (s.portCtx u)).unacked.length < min (s.tctx (s.portCtx u)).cwnd s.cwndMax
    (taken = none → exec (.reduceFrame port ⟨m, f⟩) s = .next s ∧ exec (.factorFrame port ⟨m, f⟩) s = .next s) ∧
    (taken = some s0 → s.crsOn = false → f.kind = 1 → ∃ t, exec (.reduceFrame port ⟨m, f⟩) s = .next t ∧ OnlyIn s0 t [.counters, .logs]) ∧
    (taken = some s0 → s.crsOn = true → f.step < 65532 → s.tagClosed f.step = false → b.valid = true → b.redIn u = true → b.owner = false →
      (f.kind = 1 → b.thinned = false → x.closed.contains (tag, f.segment) = false →
        x.slots.any (fun q => q.tag == tag && q.seg == f.segment) = false → x.slots.length < 1024 →
        (f.empty = true ∨ s0.combineHeld b.redOut + 8192 ≤ 4194304) → ∃ t, exec (.reduceFrame port ⟨m, f⟩) s = .next t ∧
          OnlyIn s0 t [.crs, .counters, .logs] ∧
          t.unit b.redOut = { x with slots := x.slots ++
            [⟨tag, f.segment, s.tick, [⟨u, f.count, f.sat, f.voidSeen, f.e, f.empty, f.data⟩]⟩] }) ∧
      (f.kind = 1 → b.thinned = false → x.closed.contains (tag, f.segment) = true → ∃ t, exec (.reduceFrame port ⟨m, f⟩) s = .next t ∧
        OnlyIn s0 t [.regs, .counters, .logs] ∧ bitAt (t.regN (unitPage b.redOut) 0x018) 0 = true) ∧
      (f.kind = 2 → b.thinned = true → (s.unit u).stomped = [] → free s0 b.redOut → ∃ t, exec (.factorFrame port ⟨m, f⟩) s = .next t ∧
        OnlyIn s0 t [.net, .crs, .regs, .counters, .logs] ∧ sent s0 t b.redOut (frameBytes f))) ∧
    (∀ (q : Slot) (e : Nat),
      let full := q.ins.filter (fun i => !i.empty)
      let lane (i : SlotIn) (k : Nat) : Nat := i.data / 2 ^ (32 * k) % 2 ^ 32
      let lanes (k : Nat) : Nat := match full with
        | [] => 0
        | i :: r => r.foldl (fun a j => (laneAdd a (lane j k)).1) (lane i k)
      let forwarded (t : State) : Prop := ∃ g : CrsFrame, g.kind = 1 ∧ g.step = q.tag.step ∧ g.bucket = q.tag.bucket ∧
        g.slice = q.tag.slice ∧ g.segment = q.seg ∧ g.e = e ∧ g.count = (q.ins.map (·.count)).foldl (· + ·) 0 % 2 ^ 16 ∧
        g.sat = q.ins.any (·.sat) ∧ g.voidSeen = q.ins.any (·.voidSeen) ∧ g.empty = q.ins.all (·.empty) ∧
        (∀ k, k < 2048 → g.data / 2 ^ (32 * k) % 2 ^ 32 = lanes k) ∧ sent s t unit.val (frameBytes g) ∧
        (t.unit unit.val).slots = (s.unit unit.val).slots.filter (fun p => decide (p.tag ≠ q.tag ∨ p.seg ≠ q.seg)) ∧
        (t.unit unit.val).closed.contains (q.tag, q.seg) = true ∧ t.mem = s.mem
      q.ins ≠ [] → (∀ i ∈ q.ins, i.e = e) → free s unit.val →
      ((s.unit unit.val).slots.find? (fun p => s.allPresent (s.bucket p.tag.step p.tag.bucket) p.tag.step p.ins) = some q →
        ∃ t, exec (.slotForward unit) s = .next t ∧ forwarded t) ∧
      ((s.unit unit.val).slots.find? (fun p => decide (p.since + s.regN (unitPage unit.val) 0x100 ≤ s.tick)) = some q →
        ∃ t, exec (.holdExpiry unit) s = .next t ∧ forwarded t)) ∧
    ((s.unit unit.val).slots.all (fun p => decide (s.tick < p.since + s.regN (unitPage unit.val) 0x100)) = true →
      exec (.holdExpiry unit) s = .next s)

/-- SEGMENT_CLOSE, DEADLINE_EXPIRY, SLICE_CLOSE and THINNED_CLOSE (R265, R267, R268, R271): a segment with all its inputs is closed with
their sum; the deadline closes every open segment of a slice; a slice all of whose segments are closed leaves its root as a record; a
thinned tag leaves its root with the number of contributors that it includes. -/
def Obligations.CarouselSums : Prop :=
  ∀ (s s1 : State) (unit : Fin 17) (r : RootSlice) (rs : List RootSlice) (e : Nat),
    let u := unit.val
    let b := s.bucket r.tag.step r.tag.bucket
    let past (since : Nat) : Prop := since + s.regN (unitPage u) 0x104 ≤ s.tick
    ((s.unit u).roots = r :: rs → scaleE r.tag s = .ok (e, s1) →
      (∀ seg ins o, r.opened = (seg, ins) :: o → s.allPresent b r.tag.step ins = true → ins ≠ [] → (∀ i ∈ ins, i.e = e) →
        ∃ (t : State) (g : RootSeg), exec (.segmentClose unit) s = .next t ∧
          (t.unit u).roots.head? = some { r with opened := SMap.del r.opened seg, done := SMap.set r.done seg g } ∧
          g.count = (ins.map (·.count)).foldl (· + ·) 0 % 2 ^ 16 ∧ g.sat = ins.any (·.sat) ∧ g.voidSeen = ins.any (·.voidSeen) ∧
          (∀ k i, k < 2048 → ins.filter (fun i => !i.empty) = [i] →
            g.data / 2 ^ (32 * k) % 2 ^ 32 = i.data / 2 ^ (32 * k) % 2 ^ 32) ∧ t.mem = s1.mem) ∧
      (r.deadline = false → past r.since → r.done.length < b.segs → ∃ (t : State) (r' : RootSlice), exec (.deadlineExpiry unit) s = .next t ∧
        (t.unit u).roots.head? = some r' ∧ r'.tag = r.tag ∧ r'.deadline = true ∧
        (∀ seg, seg < b.segs → (SMap.get r'.done seg).isSome = true) ∧
        (∀ seg g, SMap.get r.done seg = some g → SMap.get r'.done seg = some g)) ∧
      (r.done.length = b.segs → trainWaits s (b.recordAddr r.tag) (512 + 0x8000 * b.tiles) = false →
        trainWaits s (s.scaleAddr r.tag.bucket r.tag.slice) 2 = false → trainWaits s (s.taglogAddr r.tag.bucket r.tag.slice) 4 = false →
        ∃ t, exec (.sliceClose unit) s = .next t ∧ OnlyIn s t [.crs, .mem, .regs, .counters, .logs] ∧
          (t.unit u).roots = ((s.unit u).roots).filter (fun q => !(q.tag == r.tag)) ∧
          t.crs.records = s.crs.records ++ [(r.tag, none)])) ∧
    ((s.unit u).roots.all (fun q => decide (q.done.length ≠ (s.bucket q.tag.step q.tag.bucket).segs)) = true →
      exec (.sliceClose unit) s = .next s) ∧
    (∀ (q : ThinTag) (qs : List ThinTag) es, (s.unit u).thin = q :: qs →
      let k := s.bucket q.step q.bucket
      ((s.unit u).roots = [] → q.deadline = false → past q.since → q.filled < k.fslots → ∃ t, exec (.deadlineExpiry unit) s = .next t ∧ OnlyIn s t [.crs] ∧
        (t.unit u).thin.head? = some { q with deadline := true }) ∧
      ((q.deadline = true ∨ k.fslots ≤ q.filled) → trainWaits s (k.thinBase q.step) 0x8000 = false →
        trainWaits s (s.scaleAddr q.bucket 0) (2 * k.slices) = false → trainWaits s (s.taglogAddr q.bucket 0) (4 * k.slices) = false →
        allScales q.step q.bucket k.slices 0 s = .ok (es, s1) → ∃ t, exec (.thinnedClose unit) s = .next t ∧
          OnlyIn s t [.crs, .mem, .regs, .counters, .logs] ∧
          (t.unit u).thin = (s.unit u).thin.filter (fun p => !(p.step == q.step && p.bucket == q.bucket)) ∧
          t.crs.records = s.crs.records ++ [(⟨q.step, q.bucket, 0⟩, some (q.contribs.filter (fun c => c.slot.isSome)).length)]))

/-- PARAM_MULTICAST, PARAM_FRAME, PRUNE, PRUNED and MC_CREDIT (R273-R276): a committed slice of one segment goes to a child that has
credit; a segment that completes a slice asks for admission; a child without credit for MC_HOLD is pruned for the tag; a PRUNE frame
discards the partial slices of its step; a credit returned to a child for which nothing waits is kept, at most 512. -/
def Obligations.CarouselMulticast : Prop :=
  ∀ (s s0 s1 : State) (port : Fin 17) (m : CrsMsg) (f : CrsFrame),
    let u := s.unitNo port.val
    let taken := takeMessage s u m.ctx.val m.psn f
    let waiting (c : Nat) : Bool := s.crs.units.any (fun e => e.2.mc.any (fun m => m.children.contains c))
    (∀ tag e rest x c, s.crs.multicast = (tag, e) :: rest →
      let b := s.bucket tag.step tag.bucket
      let n := s.portCtx c
      let frame (d : Nat) : CrsFrame := ⟨3, false, true, false, false, tag.step, tag.bucket, tag.slice, 0, b.plines - 1, 0, e, 0, d⟩
      s.step.commits.any (fun k => k.step == tag.step && k.bucket == tag.bucket && k.slice == tag.slice) = false →
      s.step.homing.any (fun h => h.commit.step == tag.step && h.commit.bucket == tag.bucket && h.commit.slice == tag.slice) = false →
      trainWaits s (s.taglogAddr tag.bucket tag.slice) 2 = false → b.shard = false → b.plines ≤ 64 → b.mcOut = [c] →
      trainRead (b.paramAddr tag) (128 * b.plines) s = .ok (x, s1) → s.crs.pruned.contains (c, tag.step) = false → s.credit c ≠ 0 →
      waiting c = false → (s.tctx n).st = 1 → (s.tctx n).queue = [] → (s.tctx n).unacked.length < min (s.tctx n).cwnd s.cwndMax →
      ∃ (t : State) (k : Unacked), exec .paramMulticast s = .next t ∧ t.crs.multicast = rest ∧ t.credit c = s.credit c - 1 ∧
        (t.tctx n).unacked = (s.tctx n).unacked ++ [k] ∧ k.msg.cls = 5 ∧ k.msg.data = frameBytes (frame (x % 2 ^ (1024 * b.plines)))) ∧
    (s.crs.multicast = [] → exec .paramMulticast s = .next s) ∧
    (taken = none → exec (.paramFrame port ⟨m, f⟩) s = .next s ∧ exec (.pruned port ⟨m, f⟩) s = .next s) ∧
    (taken = some s0 → s.crsOn = true → f.step < 65532 → s.tagClosed f.step = false →
      let b := s.bucket f.step f.bucket
      let here := localChild u
      let tag : Tag := ⟨f.step, f.bucket, f.slice⟩
      (f.kind = 3 → b.valid = true → b.mcIn = u → b.shard = false → b.mcLocal = true → b.mcOut = [] → b.psegs = 1 →
        (s.unit u).stomped = [] → (s.unit u).parts.any (fun p => p.tag == tag) = false → s.crs.pruned.contains (here, f.step) = false →
        s.credit here ≠ 0 → waiting here = false → ∃ t, exec (.paramFrame port ⟨m, f⟩) s = .next t ∧
          OnlyIn s0 t [.crs, .step, .counters, .logs] ∧ t.credit here = s.credit here - 1 ∧ t.step = { s.step with asks := s.step.asks ++
            [⟨f.step, b.layer, b.sliceBase + f.slice, .multicast u ⟨tag, f.e, [(f.segment, f.data)]⟩⟩] }) ∧
      (f.kind = 3 → b.mcIn ≠ u → ∃ t, exec (.paramFrame port ⟨m, f⟩) s = .next t ∧ OnlyIn s0 t [.counters, .logs]) ∧
      (f.kind = 4 → ∃ t, exec (.pruned port ⟨m, f⟩) s = .next t ∧ bitAt (t.regN (unitPage u) 0x018) 3 = true ∧
        (t.unit u).parts = (s.unit u).parts.filter (fun p => p.tag.step != f.step) ∧ t.mem = s.mem)) ∧
    (∀ w ws c cs, (s.unit port.val).mc = w :: ws → w.children = c :: cs → s.credit c = 0 →
      SMap.getD s.crs.dry 0 c + s.regN (unitPage port.val) 0x108 ≤ s.tick → ∃ t, exec (.prune port) s = .next t ∧
        t.crs.pruned = ((c, w.frame.step) :: s.crs.pruned).take 8192 ∧
        (∀ k ∈ (t.unit port.val).mc, k.frame.step = w.frame.step → c ∉ k.children) ∧
        bitAt (t.regN (unitPage port.val) 0x018) 2 = true ∧ t.mem = s.mem) ∧
    ((s.unit port.val).mc = [] → exec (.prune port) s = .next s) ∧
    (waiting u = false → ∃ t, exec (.mcCredit port) s = .next t ∧ OnlyIn s t [.crs] ∧ t.credit u = min 512 (s.credit u + 1) ∧
      t.crs = { s.crs with credit := t.crs.credit })

/-- PULL, PULL_RETRY and CUT_THROUGH_FAIL (R277, R278, R356): a pull whose taglog words are of its tag asks for admission with the lines
fetched, one of a later step waits for PULL_RETRY, one that fails is recorded; a wait that has passed ends; a stomped parameter or
factor frame waits for its upstream retransmission, and a reduced one leaves again without the input that failed. -/
def Sys2Proof.Claims.CarouselPulls : Prop :=
  ∀ (s : State),
    (∀ (p : PullReq) rest ok (w1 : Word) data (e : Byte) (w2 : Word), s.crs.pulls = p :: rest → p.retry = none → p.hand = none →
      bitAt (s.regN crsPage 0x010) 1 = true →
      let b := s.bucket p.tag.step p.tag.bucket
      (ok = true → b.shard = false → (s.tctx b.ownerCtx).st = 1 →
        (stepDiff (field w1.toNat 15 0) p.tag.step < 32766 → stepDiff (field w2.toNat 31 16) p.tag.step < 3 →
          ∃ t, exec (.pull ok w1 data e w2) s = .next t ∧ OnlyIn s t [.crs, .step, .net, .regs, .counters, .logs] ∧
            t.crs = { s.crs with pulls := rest } ∧ t.step = { s.step with asks := s.step.asks ++ [⟨p.tag.step, b.layer,
              b.sliceBase + p.tag.slice, .pull p.tag (data % 2 ^ (1024 * b.plines)) e.toNat⟩] }) ∧
        (32766 ≤ stepDiff (field w1.toNat 15 0) p.tag.step → ∃ t, exec (.pull ok w1 data e w2) s = .next t ∧ t.step = s.step ∧
          t.crs.pulls = insertPull { p with retry := some (s.tick + max 100 (s.regN crsPage 0x130)) } rest)) ∧
      (ok = false → p.tag.slice < 1024 → ∃ t, exec (.pull ok w1 data e w2) s = .next t ∧ t.step = s.step ∧ t.crs = { s.crs with pulls := rest } ∧
        bitAt (t.regN crsPage 0x018) 4 = true ∧ bitAt (t.regN crsPage 0x13C) 31 = true)) ∧
    (∀ ok (w1 : Word) data (e : Byte) (w2 : Word), bitAt (s.regN crsPage 0x010) 1 = false → exec (.pull ok w1 data e w2) s = .next s) ∧
    (∀ (p : PullReq) rest at_, s.crs.pulls = p :: rest → p.retry = some at_ →
      (at_ ≤ s.tick → ∃ t, exec .pullRetry s = .next t ∧ OnlyIn s t [.crs, .counters, .logs] ∧
        t.crs.pulls.head? = some { p with retry := none } ∧ t.crs.pulls.map (·.tag) = s.crs.pulls.map (·.tag)) ∧
      (s.tick < at_ → rest = [] → exec .pullRetry s = .next s)) ∧
    (∀ (port : Fin 17) (m : CrsMsg) (f : CrsFrame),
      let q := s.unitNo port.val
      let tag : Tag := ⟨f.step, f.bucket, f.slice⟩
      let b := s.bucket f.step f.bucket
      let c := s.tctx m.ctx.val
      (c.early.contains m.psn = false → exec (.cutThroughFail port ⟨m, f⟩) s = .next s) ∧
      (c.kind = 2 → c.port = q + 1 → c.early.contains m.psn = true →
      (f.kind = 3 → ∃ t, exec (.cutThroughFail port ⟨m, f⟩) s = .next t ∧ OnlyIn s t [.net, .crs, .step, .regs, .counters, .logs] ∧
        (t.unit q).stomped = (s.unit q).stomped ++ (b.mcOut.filter (fun c => s.onWire c (frameKey f))).map (fun c => (c, frameKey f)) ∧
        (∀ p ∈ (t.unit q).parts, p.tag = tag → SMap.get p.segs f.segment = none) ∧
        (t.tctx m.ctx.val).early.contains m.psn = false) ∧
      (f.kind = 2 → s.onWire b.redOut (frameKey f) = true → ∃ t, exec (.cutThroughFail port ⟨m, f⟩) s = .next t ∧
        OnlyIn s t [.net, .crs, .regs, .counters, .logs] ∧ (t.unit q).stomped = (s.unit q).stomped ++ [(b.redOut, frameKey f)] ∧
        (t.tctx m.ctx.val).early.contains m.psn = false) ∧
      (∀ k, f.kind = 1 → (s.unit b.redOut).kept.find? (fun k => k.tag == tag && k.seg == f.segment && k.ins.any (fun i => i.port == q)) =
          some k → s.unsent b.redOut tag f.segment = true → ∃ t, exec (.cutThroughFail port ⟨m, f⟩) s = .next t ∧
        (t.unit b.redOut).kept = (s.unit b.redOut).kept.map
          (fun j => if j = k then { j with ins := k.ins.filter (fun i => i.port != q) } else j) ∧ t.mem = s.mem)))

/-- SUBMIT, SLICE_BEGIN, ADMISSION_RETRY, UPDATE_LINE and PARAM_WRITE (R252, R283, R286, R290, R292-R294, R299): a submitted slice of a
thinned bucket joins the queue of 256, one of a closed tag is late; a slice that begins makes its step boundary, takes the rule that its
step and lag give it and the step size of its step, and asks for admission; a line passes under its rule; a finished slice whose homes
accept it is committed and handed on. -/
def Obligations.Updates : Prop :=
  ∀ (s s1 s2 : State),
    (∀ (port : Fin 64) (who : Requester) (v : Word), WriteReaches s s1 updPage (0x80C + 16 * port.val) who v.toNat →
      let w (i : Nat) : Nat := (s.stage updPage (0x800 + 16 * port.val + 4 * i)).toNat
      let tag : Tag := ⟨field (w 2) 31 16, field (w 2) 11 0, field v.toNat 9 0⟩
      let b := s.bucket tag.step tag.bucket
      let good : Prop := b.valid = true ∧ b.thinned = true ∧ b.owner = true ∧ field (w 1) 25 0 ≠ 0 ∧ tag.slice < b.slices ∧
        field (w 1) 30 26 = 0 ∧ field (w 2) 15 12 = 0 ∧ field v.toNat 31 10 = 0
      (good → s.tagClosed tag.step = false →
        (s.updOn = true → s.upd.queue.length < 256 → ∃ t, exec (.submit port who v) s = .next t ∧ OnlyIn s t [.upd, .sec] ∧
          t.upd = { s.upd with
            queue := s.upd.queue ++ [(tag, .tiles (w 0 + 2 ^ 32 * field (w 1) 31 31) (field (w 1) 25 0))]
            rebuilds := s.upd.rebuilds.filter (fun r => decide (r ≠ tag)) }) ∧
        ((s.updOn = false ∨ 256 ≤ s.upd.queue.length) → ∃ t, exec (.submit port who v) s = .next t ∧
          OnlyIn s t [.upd, .counters, .logs, .sec] ∧ t.upd.queue = s.upd.queue)) ∧
      (good → s.tagClosed tag.step = true → ∃ t, exec (.submit port who v) s = .next t ∧ OnlyIn s t [.regs, .counters, .logs, .sec] ∧
        bitAt (t.regN (unitPage b.redOut) 0x018) 0 = true) ∧
      (¬ good → ∃ t, exec (.submit port who v) s = .next t ∧ OnlyIn s t [.regs, .counters, .logs, .sec] ∧
        bitAt (t.regN updPage 0x018) 5 = true ∧ bitAt (t.regN updPage 0x128) 31 = true)) ∧
    (∀ (tag : Tag) src rest n, s.upd.queue = (tag, src) :: rest → freeSlice s = some n →
      let b := s.bucket tag.step tag.bucket
      let w := s.layerWords b.layer
      let blank : UpdSlice := { tag := tag, src := src, layer := b.layer, words := w, eta := 0, rule := 3 }
      let cur := field (s.regN updPage 0x10C) 15 0
      let d := stepDiff tag.step (lFirst w)
      (descOk w b = false → ∃ t, exec .sliceBegin s = .next t ∧ OnlyIn s t [.upd, .regs, .counters, .logs] ∧
        t.upd = { s.upd with queue := rest } ∧ bitAt (t.regN updPage 0x018) 4 = true ∧
        (tag.step < 65532 → stepLater tag.step cur = true → t.regN updPage 0x10C = tag.step)) ∧
      (∀ empty lag, descOk w b = true → sliceFacts blank b.sliceBase s = .ok ((empty, lag), s2) →
        tag.step < 65532 → (tag.step = cur ∨ stepLater tag.step cur = true) → ∃ (t : State) (x : UpdSlice), exec .sliceBegin s = .next t ∧
          OnlyIn s t [.upd, .step, .mem, .regs, .counters, .logs] ∧ t.upd.queue = rest ∧ SMap.get t.upd.slices n = some x ∧
          t.step = { s.step with asks := s.step.asks ++ [⟨tag.step, b.layer, b.sliceBase + tag.slice, .update n⟩] } ∧
          x.tag = tag ∧ x.src = src ∧ x.words = w ∧ x.admitted = false ∧ x.line = 0 ∧
          (let r := if decide (lWarmup w ≤ d) && decide (d < 32766) && lag then lMain w else lWarm w
           x.rule = (if empty then 3 else if r = 2 ∧ lag = false then 3 else r)) ∧
          x.eta = fMul fp32 (t.regN updPage 0x100) (lScale w) ∧
          (tag.step = cur → t.reg updPage 0x100 = s.reg updPage 0x100 ∧ t.reg updPage 0x104 = s.reg updPage 0x104) ∧
          (tag.step ≠ cur → t.reg updPage 0x104 = s.reg updPage 0x100 ∧ t.regN updPage 0x10C = tag.step ∧
            t.reg updPage 0x100 = (if bitAt (s.regN updPage 0x10C) 31 then s.reg updPage 0x108 else s.reg updPage 0x100)))) ∧
    (∀ n x at_, s.upd.slices.head? = some (n, x) → x.retry = some at_ → at_ ≤ s.tick → ∃ t, exec .admissionRetry s = .next t ∧
      OnlyIn s t [.upd, .step, .counters, .logs] ∧ SMap.get t.upd.slices n = some { x with retry := none } ∧
      t.step.asks = s.step.asks ++ [⟨x.tag.step, x.layer, (s.bucket x.tag.step x.tag.bucket).sliceBase + x.tag.slice, .update n⟩]) ∧
    (∀ (n : Fin 8) (x : UpdSlice) gs bad lag vs ws s3 s4 s5 s6, SMap.get s.upd.slices n.val = some x → x.admitted = true →
      let w := x.words
      let n0 := (s.bucket x.tag.step x.tag.bucket).sliceBase
      let b := x.line / 256
      let i := x.line % 256
      let m := blockCols w b
      x.line < 256 * blocks w → statWaits s x n0 = false → tensorWaits s x n0 = false → gradBlock x i b s = .ok ((gs, bad), s2) →
      lagValid w n0 x.tag.step s2 = .ok (lag, s3) → lagBlock x n0 i b lag s3 = .ok (vs, s4) →
      readVals (weightAddr s x n0 i b) m s4 = .ok (ws, s5) → lineWork n.val x s = .ok ((), s6) → lS1 w = false →
      let moved (w0 t : Nat) : Nat :=
        let r := fSub fp32 w0 (fMul fp32 x.eta (fAdd fp32 t (fMul fp32 (lLambda w) w0)))
        if nonFinite r then w0 else r
      let plain (e : Nat × Option Nat) : Nat := match e.2 with | none => e.1 | some g => moved e.1 g
      let factored (e : Nat × Nat × Option Nat) : Nat := match e.2.2 with
        | none => e.1
        | some g =>
          let ve := fAdd fp32 e.2.1 (lEps w)
          moved e.1 (if ve = 0 then 0 else fMul fp32 g (rsqrt32 ve))
      (x.rule = 3 → ∃ t, exec (.updateLine n) s = .next t ∧
        SMap.get t.upd.slices n.val = some { x with line := x.line + 1, out := SMap.set x.out (32 * i + b) (packVals ws) }) ∧
      (x.rule = 0 → ∃ t, exec (.updateLine n) s = .next t ∧
        SMap.get t.upd.slices n.val =
          some { x with line := x.line + 1, out := SMap.set x.out (32 * i + b) (packVals ((ws.zip gs).map plain)) }) ∧
      (x.rule = 2 → ∃ t, exec (.updateLine n) s = .next t ∧
        SMap.get t.upd.slices n.val =
          some { x with line := x.line + 1, out := SMap.set x.out (32 * i + b) (packVals ((ws.zip (vs.zip gs)).map factored)) }) ∧
      (x.rule = 4 → ∃ t, exec (.updateLine n) s = .next t ∧
        SMap.get t.upd.slices n.val = some { x with line := x.line + 1 })) ∧
    (∀ (n : Fin 8) (x : UpdSlice) e, SMap.get s.upd.slices n.val = some x → x.admitted = true → x.written = false →
      let b := s.bucket x.tag.step x.tag.bucket
      256 * blocks x.words ≤ x.line → (x.rule = 4 → batchesOf x.words ≤ x.finished) →
      trainWaits s (b.paramAddr x.tag) (128 * b.plines) = false → tableRead (s.scaleAddr x.tag.bucket x.tag.slice) 1 s = .ok (e, s1) →
      AcceptsNow s1 s.trainPart (b.paramAddr x.tag) (128 * b.plines) →
      s.step.homing.all (fun h => decide (x.tag ≠ ⟨h.commit.step, h.commit.bucket, h.commit.slice⟩)) = true →
      ∃ t, exec (.paramWrite n) s = .next t ∧ OnlyIn s t [.upd, .step, .crs, .mem, .regs, .counters, .logs] ∧
        t.upd.slices.any (fun e => e.2.written && decide (e.2.tag = x.tag)) = false ∧ t.crs.multicast = s.crs.multicast ++ [(x.tag, e)] ∧
        t.step = { s.step with commits := s.step.commits ++ [⟨x.tag.step, x.layer, x.tag.bucket, x.tag.slice⟩] })

/-- BATCH_PUSH, BDONE, BATCH_TIMEOUT, ETA_NEXT_WRITE, UPD_ENABLE_WRITE, UPD_LDATA_WRITE and UPD_LDATA_READ (R291, R295-R298, R300): a
batch is pushed to a vector core under the next token and stays outstanding until its token comes; one outstanding at its limit is given
HOLD; a token that is not outstanding is counted; the shadow step size, the enable and the layer table take what is written. -/
def Obligations.UpdateBatches : Prop :=
  ∀ (s s1 : State) (who : Requester) (v : Word),
    (∀ (n : Fin 8) (x : UpdSlice) core slot d s2, SMap.get s.upd.slices n.val = some x → x.admitted = true → x.rule = 4 →
      let w := x.words
      x.batch < batchesOf w → (x.batch + 1 = batchesOf w → 256 * blocks w ≤ x.line) → s.upd.batches.length < 128 →
      pickCore s w = some (core, slot) →
      let i := x.batch / halves w
      let h := x.batch % halves w
      batchRead x i h s = .ok (d, s2) →
      ∃ t, exec (.batchPush n) s = .next t ∧ OnlyIn s t [.upd, .cores, .mem, .regs, .counters, .logs] ∧ SMap.get t.upd.slices n.val = some { x with batch := x.batch + 1 } ∧
        t.upd.batches = s.upd.batches ++ [(n.val, ⟨s.upd.token, core, slot, i, h, s.tick, d.gs.map (·.isSome), d.ws.zip (d.s1.zip d.s2), false⟩)] ∧
        t.upd.token = (s.upd.token + 1) % 2 ^ 32 ∧
        (SMap.getD t.cores {} core).pushIn = (SMap.getD s.cores {} core).pushIn ++ [⟨.u, 0, 280, BitVec.ofNat 512
          (s.upd.token + 2 ^ 32 * slot + 2 ^ 40 * b2n d.lag + 2 ^ 48 * x.layer + 2 ^ 64 * x.tag.step + 2 ^ 80 * x.tag.bucket +
            2 ^ 96 * x.tag.slice + 2 ^ 112 * i + 2 ^ 128 * (512 * h) + 2 ^ 144 * batchCols w h + 2 ^ 160 * slotBase slot)⟩]) ∧
    (WriteReaches s s1 updPage 0x114 who v.toNat →
      let gone := s.upd.batches.filter (fun e => e.2.token != v.toNat)
      (s.upd.batches.any (fun e => e.2.token == v.toNat) = false → ∃ t, exec (.bdone who v) s = .next t ∧
        OnlyIn s t [.counters, .logs, .sec]) ∧
      (∀ n k, s.upd.batches.find? (fun e => e.2.token == v.toNat) = some (n, k) →
        (k.late = true → ∃ t, exec (.bdone who v) s = .next t ∧ t.upd = { s.upd with batches := gone } ∧ t.mem = s.mem) ∧
        (∀ x, k.late = false → SMap.get s.upd.slices n = some x →
          let store := (SMap.getD s.cores {} k.core).store
          let cols := batchCols x.words k.half
          let area (j : Nat) : List Nat := unpackElems 0 (Mem.read store (slotBase k.slot + 2048 * j) (4 * cols)) cols
          ∃ t, exec (.bdone who v) s = .next t ∧ t.upd.batches = gone ∧
            (SMap.get t.upd.slices n).map (·.finished) = some (x.finished + 1) ∧
            t.mem = (finishBatch s1 n x k (some ((area 1).zip ((area 2).zip (area 3))))).mem))) ∧
    (∀ n k x, s.upd.batches.find? (fun e => !e.2.late && decide (e.2.since + max 1024 (s.regN updPage 0x118) ≤ s.tick)) = some (n, k) →
      SMap.get s.upd.slices n = some x → ∃ t, exec .batchTimeout s = .next t ∧
        t.upd.batches = s.upd.batches.map (fun e => if e.2.token = k.token then (e.1, { e.2 with late := true }) else e) ∧
        (SMap.get t.upd.slices n).map (·.finished) = some (x.finished + 1) ∧ bitAt (t.regN updPage 0x018) 1 = true ∧
        t.mem = s.mem) ∧
    (s.upd.batches = [] → exec .batchTimeout s = .next s) ∧
    (WriteReaches s s1 updPage 0x108 who v.toNat → ∃ t, exec (.etaNextWrite who v) s = .next t ∧ OnlyIn s t [.regs, .sec] ∧
      t.reg updPage 0x108 = v ∧ t.regN updPage 0x10C = putField (s.regN updPage 0x10C) 31 1 1 ∧
      t.reg updPage 0x100 = s.reg updPage 0x100) ∧
    (WriteReaches s s1 updPage 0x010 who v.toNat → ∃ t, exec (.updEnableWrite who v) s = .next t ∧ OnlyIn s t [.regs, .sec] ∧
      t.regN updPage 0x010 = v.toNat % 2 ∧ t.reg updPage 0x10C = s.reg updPage 0x10C ∧ t.reg updPage 0x100 = s.reg updPage 0x100 ∧
      t.reg updPage 0x104 = s.reg updPage 0x104) ∧
    (let sel := s.regN updPage 0x11C
     let key := 8 * field sel 9 0 + field sel 18 16
     let on := bitAt (s.regN updPage 0x010) 0
     (WriteReaches s s1 updPage 0x124 who v.toNat →
       (on = false → field sel 18 16 ≤ 5 → ∃ t, exec (.updLdataWrite who v) s = .next t ∧ OnlyIn s t [.upd, .regs, .sec] ∧
         t.upd = { s.upd with table := t.upd.table } ∧ (SMap.getD t.upd.table 0 key).toNat = v.toNat * 2 ^ 32 + s.regN updPage 0x120) ∧
       ((on = true ∨ 5 < field sel 18 16) → ∃ t, exec (.updLdataWrite who v) s = .next t ∧ OnlyIn s t [.logs, .sec] ∧
         (t.log updPage).writeSeq = wrapSucc 16 (s.log updPage).writeSeq)) ∧
     (ReadReaches s s1 updPage 0x120 who → ∃ t, exec (.updLdataRead who) s = .next t ∧ OnlyIn s t [.snaps, .sec] ∧
       (busRead s (updPage.key 0x120) who).2 = .value ((SMap.getD s.upd.table 0 key).toNat % 2 ^ 32) ∧
       SMap.getD t.snaps 0 (updPage.key 0x124) = BitVec.ofNat 32 ((SMap.getD s.upd.table 0 key).toNat / 2 ^ 32)))

/-! ### Numerics checks, ledger -/

/-- MIRROR_RANK_UPDATE, MIRROR_COMPARE, SAMPLE_TIMEOUT, LOUPE_COMPARE and NUMERICS_TRIGGER (R303-R306, R309-R311): a queued rank update
runs into the mirror bank in a cycle in which the partner reads none; equal signatures pass a sample and the first row that differs fails
it; a sample past its limit, or whose partner is down, is abandoned; the worst disagreeing cell of a Loupe sample makes a trigger; a trigger asks both streams for a
repeat unless its layer has passed. -/
def Sys2Proof.Claims.NumericsChecks : Prop :=
  ∀ (s : State) (m : McId) (t : Nat),
    let id := McId.core m
    (∀ (k : MirrorSample) e rest upset, s.mirror (partner id) = some k → k.queue = e :: rest →
      (s.coreRuns id = true → (s.ope id).reads t = false → k.last < t → (s.core id).now ≤ t → ∃ r, exec (.mirrorRankUpdate m t upset) s = .next r ∧
        OnlyIn s r [.num, .counters, .logs] ∧ r.mirror (partner id) =
          some { k with queue := rest, cells := upset.foldl upsetCell (mirrorAccumulate k.cells e), last := t }) ∧
      (s.coreRuns id = true → (s.ope id).reads t = true → exec (.mirrorRankUpdate m t upset) s = .next s) ∧
      (s.domainUp (coreDomain id) = false → ∃ r, exec (.mirrorRankUpdate m t upset) s = .next r ∧ OnlyIn s r [.num, .regs, .counters, .logs] ∧
        r.mirror (partner id) = none ∧ bitAt (r.regN (mckPage m.cluster.val) 0x018) 1 = true)) ∧
    (∀ (k : MirrorSample), s.mirror id = some k →
      (k.drain.isSome = true → k.queue = [] → 256 ≤ k.sigs.length → s.coreRuns (partner id) = true →
        ((∀ i, i < 256 → rowSignature k.cells i = SMap.getD k.sigs 0 i) → ∃ r, exec (.mirrorCompare m) s = .next r ∧
          OnlyIn s r [.num, .counters, .logs] ∧ r.mirror id = none) ∧
        (∀ i, i < 256 → rowSignature k.cells i ≠ SMap.getD k.sigs 0 i → (∀ j, j < i → rowSignature k.cells j = SMap.getD k.sigs 0 j) →
          bitAt (s.regN (mckPage m.cluster.val) 0x010) 1 = false → bitAt (s.regN (lckPage m.cluster.val) 0x11C) 31 = false →
          ∃ r, exec (.mirrorCompare m) s = .next r ∧ OnlyIn s r [.num, .mem, .regs, .counters, .logs] ∧ r.mirror id = none ∧
            bitAt (r.regN (mckPage m.cluster.val) 0x018) 0 = true ∧
            r.mem = { s.mem with ledgerIn := s.mem.ledgerIn ++ [⟨opeUnit s id, 5, i⟩, ⟨opeUnit s (partner id), 5, i⟩] })) ∧
      (∀ c at_, k.drain = some (c, at_) →
        (at_ + max (s.regN (mckPage m.cluster.val) 0x108) 1024 ≤ s.tick → ∃ r, exec (.sampleTimeout m) s = .next r ∧
          OnlyIn s r [.num, .regs, .counters, .logs] ∧ r.mirror id = none ∧ bitAt (r.regN (mckPage m.cluster.val) 0x018) 1 = true) ∧
        (s.tick < at_ + max (s.regN (mckPage m.cluster.val) 0x108) 1024 → exec (.sampleTimeout m) s = .next s))) ∧
    (∀ (l : LoupeSample) rest c raw acs, s.loupes id = l :: rest → l.drain = some (c, raw, acs) → 256 ≤ l.rows →
      let p := lckPage m.cluster.val
      let out (j : Nat) : Nat × Bool := loupeCellOutcome l raw acs (field (s.regN p 0x100) 23 16) j
      ((∀ j, j < 16 → (out j).2 = false) → ∃ r, exec (.loupeCompare m) s = .next r ∧ OnlyIn s r [.num, .counters, .logs] ∧
        r.loupes id = rest) ∧
      (∀ j, j < 16 → (out j).2 = true → (∀ i, i < 16 → (out i).2 = true → (out i).1 < (out j).1 ∨ ((out i).1 = (out j).1 ∧ j ≤ i)) →
        ∃ r, exec (.loupeCompare m) s = .next r ∧ OnlyIn s r [.num, .numIn, .regs, .counters, .logs] ∧ r.loupes id = rest ∧
          bitAt (r.regN p 0x018) 0 = true ∧
          r.numIn = s.numIn ++ [⟨3, coreIdx id, l.ctx, l.layer, l.key.tile, j, (out j).1⟩])) ∧
    (∀ (g : NumTrig) rest, s.numIn = g :: rest →
      let who := coreOfIdx g.core
      let p := lckPage who.cluster.val
      let k := (s.core who).ctx g.ctx
      let want (st : Stream) : Option (Nat × Nat) := some (st.repeatTo.getD (g.layer, field (s.regN p 0x108) 5 0 + k.repeats))
      bitAt (s.regN p 0x11C) 31 = false →
      (k.exe.passed.contains g.layer = false → k.acc.passed.contains g.layer = false →
        (bitAt (s.regN p 0x010) 1 = true → ∃ r, exec .numericsTrigger s = .next r ∧ OnlyIn s r [.cores, .numIn] ∧ r.numIn = rest ∧
          ((r.core who).ctx g.ctx).exe.repeatTo = want k.exe ∧ ((r.core who).ctx g.ctx).acc.repeatTo = want k.acc) ∧
        (bitAt (s.regN p 0x010) 1 = false → ∃ r, exec .numericsTrigger s = .next r ∧ OnlyIn s r [.numIn] ∧ r.numIn = rest)) ∧
      (k.exe.passed.contains g.layer = true → ∃ r, exec .numericsTrigger s = .next r ∧ OnlyIn s r [.numIn, .regs, .counters, .logs] ∧
        r.numIn = rest ∧ bitAt (r.regN p 0x018) 3 = true))

/-- LEDGER_EVENT, LEDGER_FLASH_WRITE, FLUSH and LDG_QIDX_WRITE (R316-R319): an event of a known unit counts in its record and moves its
class by kind and window, one of a new unit makes a record; a lane of the port that P16 has replaced is RETIRED with it; changed records go to flash; QIDX shows a record's 32 bytes. -/
def Sys2Proof.Claims.LedgerRecords : Prop :=
  ∀ (s s1 : State) (who : Requester) (v : Word),
    let perm := min (max (field (s.regN ldgPage 0x100) 2 0) 1) 4
    let window := field (s.regN ldgPage 0x100) 23 8 * 3600
    let now := s.poweredSeconds
    let fatal (kind : Nat) : Bool := kind == 4 || kind == 6 || kind == 8
    let counted (kind : Nat) : Bool := kind == 1 || kind == 3 || kind == 5 || kind == 7
    let recorded (t : State) (unit kind locus : Nat) : Prop :=
      let lane := unit / 2 ^ 28 = 5 ∧ bitAt (s.regN (portPage 17) 0x014) 24 = true
      ¬ lane → (∀ i r, s.ledger.recs.find? (fun e => e.2.unit == unit) = some (i, r) → SMap.get s.ledger.recs i = some r → ∃ r' : LedgerRec,
        SMap.get t.ledger.recs i = some r' ∧ r'.unit = r.unit ∧ r'.lastKind = kind ∧ r'.events = min (r.events + 1) (2 ^ 32 - 1) ∧
          r'.locus = locus ∧ r'.times = (if counted kind then (now :: r.times).take 4 else r.times) ∧
          r'.cls = (if 3 ≤ r.cls then r.cls else if fatal kind then 3
            else if counted kind then (if perm ≤ (r'.times.filter (fun u => decide (now ≤ u + window))).length then 3 else 2)
            else if r.cls = 1 then 2 else r.cls) ∧
          t.ledger.dirty.contains i = true ∧ ∀ j, j ≠ i → SMap.get t.ledger.recs j = SMap.get s.ledger.recs j) ∧
      (s.ledger.recs.find? (fun e => e.2.unit == unit) = none → s.ledger.recs.length < 131072 → ∃ r' : LedgerRec,
        SMap.get t.ledger.recs s.ledger.recs.length = some r' ∧ r'.unit = unit ∧ r'.lastKind = kind ∧ r'.events = 1 ∧
          r'.locus = locus ∧ r'.times = (if counted kind then [now] else []) ∧ r'.cls = (if fatal kind then 3 else 1))
    (∀ e rest, s.mem.ledgerIn = e :: rest → ∃ t, exec (.ledgerEvent none) s = .next t ∧ t.mem = { s.mem with ledgerIn := rest } ∧
      OnlyIn s t [.ledger, .mem, .regs, .counters, .logs, .power, .retireDue] ∧ recorded t (e.unit % 2 ^ 32) e.kind (e.locus % 2 ^ 32)) ∧
    (∀ unit kind locus, (kind = 6 ∨ kind = 7 ∨ kind = 8) → ∃ t, exec (.ledgerEvent (some (unit, kind, locus))) s = .next t ∧
      OnlyIn s t [.ledger, .regs, .counters, .logs, .power, .retireDue] ∧ recorded t (unit % 2 ^ 32) kind (locus % 2 ^ 32)) ∧
    (∀ unit locus, unit < 2 ^ 32 → unit / 2 ^ 28 = 5 → bitAt (s.regN (portPage 17) 0x014) 24 = true →
      field unit 27 20 = field (s.regN (portPage 17) 0x014) 23 20 → s.ledger.recs = [] →
      ∃ (t : State) (r : LedgerRec), exec (.ledgerEvent (some (unit, 6, locus))) s = .next t ∧ SMap.get t.ledger.recs 0 = some r ∧
        r.unit = unit ∧ r.cls = 4) ∧
    (let kept (t : State) : Prop := t.ledger.flash = s.ledger.recs ∧ t.ledger.dirty = [] ∧ t.ledger.recs = s.ledger.recs
     (s.ledger.dirty ≠ [] → (∃ t, exec (.ledgerFlashWrite true) s = .next t ∧ OnlyIn s t [.ledger, .counters, .logs] ∧ kept t) ∧
       (∃ t, exec (.ledgerFlashWrite false) s = .next t ∧ OnlyIn s t [.regs] ∧ bitAt (t.regN ldgPage 0x018) 2 = true)) ∧
     (∀ ok, s.ledger.dirty = [] → exec (.ledgerFlashWrite ok) s = .next s) ∧
     (WriteReaches s s1 ldgPage 0x010 who v.toNat →
       (bitAt v.toNat 0 = true → ∃ t, exec (.flush who v) s = .next t ∧ OnlyIn s t [.ledger, .counters, .logs, .sec] ∧ kept t) ∧
       (bitAt v.toNat 0 = false → ∃ t, exec (.flush who v) s = .next t ∧ OnlyIn s t [.sec]))) ∧
    (WriteReaches s s1 ldgPage 0x108 who v.toNat → ∃ t, exec (.ldgQidxWrite who v) s = .next t ∧ OnlyIn s t [.regs, .sec] ∧
      t.regN ldgPage 0x108 = v.toNat % 2 ^ 17 ∧
      (SMap.get s.ledger.recs (v.toNat % 2 ^ 17) = none → ∀ w, w < 8 → t.regN ldgPage (0x10C + 4 * w) = 0) ∧
      (∀ r, SMap.get s.ledger.recs (v.toNat % 2 ^ 17) = some r → r.unit < 2 ^ 32 → r.cls < 2 ^ 8 → r.lastKind < 2 ^ 8 →
        r.events < 2 ^ 32 → r.locus < 2 ^ 32 → t.regN ldgPage 0x10C = r.unit ∧
          t.regN ldgPage 0x110 = r.cls + 2 ^ 8 * r.lastKind ∧ t.regN ldgPage 0x114 = r.events ∧
          (∀ i, i < 4 → t.regN ldgPage (0x118 + 4 * i) = r.times.getD i 0 % 2 ^ 32) ∧ t.regN ldgPage 0x128 = r.locus))

/-! ### Mesh and clocks -/

/-- PACKET_HOP and CROSSING_ARRIVAL (R323, R324, R326-R330, R332, R334, R337, R407): a packet with a route moves to the next router with
all its flits, on lane 1 after a turn, into the queue of a stitch bridge between two fields, or into the crossing of its own site's unit;
of two that ask for one output the one of the lower level goes; a request that cannot be delivered is answered, anything else discarded
and recorded; a value is usable in the third cycle after its commit, and a domain that is down answers it. -/
def Sys2Proof.Claims.Mesh : Prop :=
  ∀ (s : State) (site : Fin 48) (out : Fin 5) (cycle : Nat),
    let r := s.router site.val
    let head (p : Packet) : Nat := p.header.toNat
    let ok (p : Packet) : Prop := meshBad s site.val (head p) = false ∧ routeOut s site.val (head p) = out.val ∧
      hasRoom s site.val (head p) out.val = true
    let level (e : MeshEntry) : Nat := meshLevel (head e.pkt) (cycle - e.since.getD cycle)
    let port := (out.val + 2) % 4
    let reaches (t : State) (n : Nat) (p : Packet) : Prop :=
      (siteField n = siteField site.val →
        (t.router n).inputs = markHeads cycle ((s.router n).inputs ++ [⟨port, p, none⟩]) [] ∧ t.bridge n port = s.bridge n port) ∧
      (siteField n ≠ siteField site.val → t.bridge n port = s.bridge n port ++ [(p, 0)] ∧ (t.router n).inputs = (s.router n).inputs)
    let meshP := meshPageAt s site.val
    (s.inService site.val = true → s.domainState (320 + siteField site.val) = 0 →
      (∀ c, SMap.get r.granted out.val = some c → c < cycle) →
      (∀ e n, r.inputs = [e] → ok e.pkt → neighbour site.val out.val = some n → ∃ (t : State) (p : Packet),
        exec (.packetHop site out cycle []) s = .next t ∧ OnlyIn s t [.fab, .counters, .logs] ∧ (t.router site.val).inputs = [] ∧
        SMap.get (t.router site.val).granted out.val = some cycle ∧ reaches t n p ∧ p.flits = e.pkt.flits ∧
        (let turns : Bool := (e.port == 0 || e.port == 2) && (out.val == 1 || out.val == 3) && field (head e.pkt) 37 37 == 0
         (turns = false → p = e.pkt) ∧
         (turns = true → field (head p) 37 37 = 1 ∧ hparBad (head p) = 0 ∧ field (head p) 36 6 = field (head e.pkt) 36 6 ∧
           field (head p) 63 38 = field (head e.pkt) 63 38))) ∧
      (∀ e d, r.inputs = [e] → out.val = 4 → ok e.pkt → dstDomain s (head e.pkt) = some d →
        ∃ t, exec (.packetHop site out cycle []) s = .next t ∧ (t.router site.val).inputs = [] ∧
          t.crossing d = s.crossing d ++ [(e.pkt, 0)] ∧ t.mem = s.mem) ∧
      (∀ a b n, r.inputs = [a, b] → a.queueOf ≠ b.queueOf → ok a.pkt → ok b.pkt → neighbour site.val out.val = some n →
        level b < level a → ∃ (t : State) (a' : MeshEntry), exec (.packetHop site out cycle []) s = .next t ∧
          (t.router site.val).inputs = [a'] ∧ a'.pkt = a.pkt) ∧
      (∀ e, r.inputs = [e] → hparBad (head e.pkt) = 0 → unroutable s site.val (head e.pkt) = true →
        (field (head e.pkt) 40 39 = 0 → ∃ t, exec (.packetHop site out cycle []) s = .next t ∧ OnlyIn s t [.fab, .counters, .logs] ∧
          (t.router site.val).inputs = [] ∧ t.fab.answers = errorResponse (head e.pkt) :: s.fab.answers) ∧
        (field (head e.pkt) 40 39 ≠ 0 → ∃ t, exec (.packetHop site out cycle []) s = .next t ∧
          OnlyIn s t [.fab, .regs, .counters, .logs] ∧ (t.router site.val).inputs = [] ∧ t.fab.answers = s.fab.answers ∧
          bitAt (t.regN meshP 0x018) 0 = true ∧ bitAt (t.regN meshP 0x100) 31 = true)) ∧
      (∀ e, r.inputs = [e] → hparBad (head e.pkt) ≠ 0 → ∃ t, exec (.packetHop site out cycle []) s = .next t ∧
        OnlyIn s t [.fab, .mem, .regs, .counters, .logs] ∧ (t.router site.val).inputs = [] ∧ bitAt (t.regN meshP 0x018) 1 = true ∧
        t.mem.ledgerIn = s.mem.ledgerIn ++ [⟨7 * 2 ^ 28 + site.val * 2 ^ 20, 1, 0⟩]) ∧
      (r.inputs = [] → ∀ (p : Packet) n, mayEnter s site.val (head p) = true → field (head p) 40 39 ≠ 3 →
        let q : Packet := withHeader p (stampHeader s (addressed s site.val (head p)))
        ok q → neighbour site.val out.val = some n → ∃ t, exec (.packetHop site out cycle [p]) s = .next t ∧
          (t.router site.val).inputs = [] ∧ reaches t n q)) ∧
    ((s.inService site.val = false ∨ s.domainState (320 + siteField site.val) ≠ 0) →
      ∀ enter, exec (.packetHop site out cycle enter) s = .next s) ∧
    (∀ (d : Fin 372) (w : Packet) n enter, (d.val < 320 ∨ 324 ≤ d.val) → s.crossing d.val = [(w, n)] →
      let fresh : List (Packet × Nat) := (enter.take 15).map (fun x => (x, 0))
      let all : List (Packet × Nat) := (enter.take 16).map (fun x => (x, 0))
      (s.domainState d.val = 0 → n < 2 → ∃ t, exec (.crossingArrival d enter) s = .next t ∧ OnlyIn s t [.fab] ∧
        t.crossing d.val = (w, n + 1) :: fresh ∧ t.fab.usable = s.fab.usable) ∧
      (s.domainState d.val = 0 → 2 ≤ n → field (head w) 63 48 = s.epochCopy d.val (field (head w) 47 46) →
        ∃ t, exec (.crossingArrival d enter) s = .next t ∧ OnlyIn s t [.fab] ∧ t.crossing d.val = all ∧
          t.fab.usable = (d.val, w) :: s.fab.usable) ∧
      (s.domainState d.val = 3 → field (head w) 40 39 = 0 → enter = [] → ∃ t, exec (.crossingArrival d enter) s = .next t ∧
        OnlyIn s t [.fab, .counters, .logs] ∧ t.crossing d.val = [] ∧ t.fab.answers = errorResponse (head w) :: s.fab.answers) ∧
      (s.domainState d.val = 3 → field (head w) 40 39 ≠ 0 → enter = [] → ∃ t, exec (.crossingArrival d enter) s = .next t ∧
        OnlyIn s t [.fab, .regs, .counters, .logs] ∧ t.crossing d.val = [] ∧ bitAt (t.regN (domainMesh s d.val) 0x018) 0 = true)) ∧
    (∀ (d : Fin 372) (key : Nat) (p : Packet) n, 320 ≤ d.val → d.val < 324 → siteField (key / 4) = d.val - 320 →
      s.fab.bridges = [(key, [(p, n)])] → s.crossing d.val = [] → s.domainState d.val = 0 →
      (n < 2 → ∃ t, exec (.crossingArrival d []) s = .next t ∧ OnlyIn s t [.fab] ∧ t.fab.bridges = [(key, [(p, n + 1)])]) ∧
      (2 ≤ n → ∃ t, exec (.crossingArrival d []) s = .next t ∧ OnlyIn s t [.fab] ∧ t.fab.bridges = [] ∧
        (t.router (key / 4)).inputs =
          markHeads (s.fieldCycle (d.val - 320) + 1) ((s.router (key / 4)).inputs ++ [⟨key % 4, p, none⟩]) []))

/-- DFREQ_WRITE, FREQ_DONE, UNLOCK and RELOCK (R333, R336): a write for a settable domain stops its clock to relock at the frequency,
clamped to the domain's range and cap; the generator then restarts it; a lost lock stops a clock until it relocks. -/
def Sys2Proof.Claims.Clocks : Prop :=
  ∀ (s s1 : State) (who : Requester) (v : Word) (d : Fin 372),
    let sel := field (s.regN clkPage 0x100) 8 0
    let k := s.clock d.val
    let top := nominalMhz sel
    let f := min (max (v.toNat % 2 ^ 16) (top / 2)) top
    (WriteReaches s s1 clkPage 0x108 who v.toNat →
      (sel < 320 → sel % 8 ≠ 7 → ∃ t, exec (.dfreqWrite who v) s = .next t ∧ OnlyIn s t [.fab, .sec] ∧
        (t.clock sel).want = some f ∧ (t.clock sel).next = some (min f (s.capMhz sel)) ∧
        ((s.clock sel).st ≠ 3 → (t.clock sel).st = 1) ∧ (t.clock sel).mhz = (s.clock sel).mhz ∧ ∀ x, x ≠ sel → t.clock x = s.clock x) ∧
      ((320 ≤ sel ∨ sel % 8 = 7) → ∃ t, exec (.dfreqWrite who v) s = .next t ∧ OnlyIn s t [.logs, .sec] ∧
        (t.log clkPage).writeSeq = wrapSucc 16 (s.log clkPage).writeSeq)) ∧
    (∀ g, k.next = some g → k.st = 1 → k.unlocked = false → ∃ t, exec (.freqDone d) s = .next t ∧
      OnlyIn s t [.fab, .regs, .counters, .logs] ∧ t.clock d.val = { k with st := 0, next := none, mhz := some g } ∧
      bitAt (t.regN clkPage 0x018) 1 = true ∧ ∀ x, x ≠ d.val → t.clock x = s.clock x) ∧
    (k.next = none → exec (.freqDone d) s = .next s) ∧
    ((d.val < 348 ∨ (365 ≤ d.val ∧ d.val ≤ 367)) → s.domainUp d.val = true → k.unlocked = false → ∃ t, exec (.unlock d) s = .next t ∧
      OnlyIn s t [.fab, .regs, .counters, .logs] ∧ t.clock d.val = { k with st := 1, unlocked := true } ∧
      bitAt (t.regN clkPage 0x018) 0 = true ∧ bitAt (t.regN clkPage 0x10C) 31 = true) ∧
    (k.unlocked = true → k.st = 1 → ∃ t, exec (.relock d) s = .next t ∧ (d.val ≠ 367 → OnlyIn s t [.fab]) ∧ (t.clock d.val).unlocked = false ∧
      (t.clock d.val).st = (if k.next.isNone then 0 else 1) ∧ ∀ x, x ≠ d.val → t.clock x = s.clock x) ∧
    (k.unlocked = false → exec (.relock d) s = .next s)

/-! ### Interrupts -/

/-- SOURCE_LINE_CHANGE, SIC_DELIVER, SIC_COMPLETE and SIC_SWSET (R360-R363): a page's line follows ISTATUS AND IMASK; the pending source
of highest PRIO, lowest number among equals, is pushed to the scalar core with its sequence number and is active until its COMPLETE; a
stray COMPLETE is counted; SWSET makes a software source pending. -/
def Sys2Proof.Claims.ClusterInterrupts : Prop :=
  ∀ (s s1 : State) (c : Fin 40) (who : Requester) (v : Word),
    let k := s.sic c.val
    let p := sicPage c.val
    (∀ (n : Fin 5120) (q : Page), pageAt (0x1000 * n.val) = some q →
      s.domainState (if n.val < 0xA00 then 8 * (n.val / 0x40) + 7 else 367) = 0 →
      (s.domainState q.domain = 0 → ∃ t, exec (.sourceLineChange n) s = .next t ∧ OnlyIn s t [.irq] ∧ t.lineSeen q = lineLevel s q ∧
        (q.block ≠ .mbx → t.lineSeen q = decide (s.reg q 0x018 &&& s.reg q 0x01C ≠ 0)) ∧
        ∀ b, b ≠ q.base → t.irq.lines.contains b = s.irq.lines.contains b) ∧
      (s.domainState q.domain = 3 → ∃ t, exec (.sourceLineChange n) s = .next t ∧ OnlyIn s t [.irq] ∧ t.lineSeen q = false) ∧
      (s.domainState q.domain = 2 → exec (.sourceLineChange n) s = .next s)) ∧
    (let cfg := s.regN p 0x100
     let core := 7 * c.val + 6
     let x := Ctx.ofIdx (field cfg 3 2)
     let q (t : State) : DataQueue := ((SMap.getD t.cores {} core).ctx x).queue (field cfg 1 0)
     (∀ n, n < 128 → sicPending s c.val n = true → (∀ i, i < 128 → sicPending s c.val i = true →
        sicPrio s c.val i < sicPrio s c.val n ∨ (sicPrio s c.val i = sicPrio s c.val n ∧ n ≤ i)) → field cfg 3 2 ≠ 3 →
        (q s).credits ≠ 0 → s.domainUp (8 * c.val + 6) = true → s.domainState (8 * c.val + 7) = 0 →
        ∃ t, exec (.sicDeliver c) s = .next t ∧ OnlyIn s t [.irq, .cores, .counters, .logs] ∧
          (t.sic c.val).active.contains n = true ∧ (t.sic c.val).soft.contains n = false ∧
          (t.sic c.val).seq = (k.seq + 1) % 2 ^ 32 ∧ (q t).credits = (q s).credits - 1 ∧
          (SMap.getD t.cores {} core).pushIn = (SMap.getD s.cores {} core).pushIn ++ [⟨x, field cfg 1 0, 281 + c.val,
            BitVec.ofNat 512 (n + sicPrio s c.val n * 2 ^ 8 + k.seq * 2 ^ 32)⟩]) ∧
     ((∀ i, i < 128 → sicPending s c.val i = false) → exec (.sicDeliver c) s = .next s) ∧
     ((q s).credits = 0 → exec (.sicDeliver c) s = .next s)) ∧
    (WriteReaches s s1 p 0x108 who v.toNat →
      (k.active.contains (v.toNat % 128) = true → ∃ t, exec (.sicComplete c who v) s = .next t ∧ OnlyIn s t [.irq, .sec] ∧
        t.sic c.val = { k with active := k.active.filter (fun n => decide (n ≠ v.toNat % 128)) }) ∧
      (k.active.contains (v.toNat % 128) = false → ∃ t, exec (.sicComplete c who v) s = .next t ∧
        OnlyIn s t [.regs, .counters, .logs, .sec] ∧ bitAt (t.regN p 0x018) 0 = true)) ∧
    (WriteReaches s s1 p 0x104 who v.toNat →
      (64 ≤ v.toNat % 128 → ∃ t, exec (.sicSwset c who v) s = .next t ∧ OnlyIn s t [.irq, .sec] ∧
        (t.sic c.val).soft.contains (v.toNat % 128) = true ∧ (t.sic c.val).active = k.active) ∧
      (v.toNat % 128 < 64 → ∃ t, exec (.sicSwset c who v) s = .next t ∧ OnlyIn s t [.logs, .sec]))

/-- CLAIM, LIC_COMPLETE, SCFG_WRITE and LIC_SWSET (R364-R368): a claim answers the eligible source of highest PRIO, lowest number among
equals, and stacks it; its COMPLETE pops it, another active one is an order fault, any other is stray; a source's target and PRIO change
only while it is not active. -/
def Sys2Proof.Claims.LicSources : Prop :=
  ∀ (s s1 : State) (tg : Fin 5) (who : Requester) (v : Word),
    let k := s.licTarget tg.val
    let prio (n : Nat) : Nat := licCfg s n % 256
    (ReadReaches s s1 licPg (0x200 + 0x20 * tg.val) who →
      let ans := (busRead s (licPg.key (0x200 + 0x20 * tg.val)) who).2
      (k.stack.length < 32 →
        (∀ n, n ∈ licEligible s tg.val → (∀ i ∈ licEligible s tg.val, prio i < prio n ∨ (prio i = prio n ∧ n ≤ i)) →
          ∃ t, exec (.claim tg who) s = .next t ∧ OnlyIn s t [.irq, .counters, .logs, .sec] ∧
            ans = .value (2 ^ 31 + prio n * 2 ^ 16 + n) ∧ (t.licTarget tg.val).stack = (n, prio n) :: k.stack ∧
            SMap.get t.irq.active n = some tg.val ∧ t.irq.edges.contains n = false ∧ t.irq.cfg = s.irq.cfg) ∧
        (licEligible s tg.val = [] → ∃ t, exec (.claim tg who) s = .next t ∧ OnlyIn s t [.irq, .counters, .logs, .sec] ∧
          ans = .value 0 ∧ t.irq.active = s.irq.active ∧ t.irq.targets = s.irq.targets)) ∧
      (32 ≤ k.stack.length → ∃ t, exec (.claim tg who) s = .next t ∧ ans = .value 0 ∧ bitAt (t.regN licPg 0x018) 2 = true ∧
        t.irq.targets = s.irq.targets)) ∧
    (WriteReaches s s1 licPg (0x204 + 0x20 * tg.val) who v.toNat →
      let n := v.toNat % 4096
      (∀ rest pr, k.stack = (n, pr) :: rest → ∃ t, exec (.licComplete tg who v) s = .next t ∧ OnlyIn s t [.irq, .sec] ∧
        (t.licTarget tg.val).stack = rest ∧ SMap.get t.irq.active n = none) ∧
      (∀ top pr rest, k.stack = (top, pr) :: rest → top ≠ n → SMap.get s.irq.active n = some tg.val →
        ∃ t, exec (.licComplete tg who v) s = .next t ∧ OnlyIn s t [.regs, .counters, .logs, .sec] ∧
          bitAt (t.regN licPg 0x018) 0 = true) ∧
      (k.stack = [] → ∃ t, exec (.licComplete tg who v) s = .next t ∧ OnlyIn s t [.regs, .counters, .logs, .sec] ∧
        bitAt (t.regN licPg 0x018) 1 = true)) ∧
    (WriteReaches s s1 licPg 0x104 who v.toNat →
      let n := field (s.regN licPg 0x100) 11 0
      (SMap.get s.irq.active n = none → field v.toNat 10 8 ≤ 4 → ∃ t, exec (.scfgWrite who v) s = .next t ∧ OnlyIn s t [.irq, .sec] ∧
        licCfg t n = v.toNat % 2 ^ 11 ∧ (∀ i, i ≠ n → licCfg t i = licCfg s i) ∧ (v.toNat % 256 = 0 → t.irq.edges.contains n = false)) ∧
      ((SMap.get s.irq.active n ≠ none ∨ 4 < field v.toNat 10 8) → ∃ t, exec (.scfgWrite who v) s = .next t ∧ OnlyIn s t [.logs, .sec])) ∧
    (WriteReaches s s1 licPg 0x108 who v.toNat →
      (3072 ≤ v.toNat % 4096 → ∃ t, exec (.licSwset who v) s = .next t ∧ OnlyIn s t [.irq, .sec] ∧
        t.irq.edges.contains (v.toNat % 4096) = true) ∧
      (v.toNat % 4096 < 3072 → ∃ t, exec (.licSwset who v) s = .next t ∧ OnlyIn s t [.logs, .sec]))

/-- DELIVERY, MODERATION_EXPIRY, IDLE_HOST and SPYGLASS_HIT (R369-R371): a delivery that is due clears what its target held, wakes a
Ringmaster core or sends the host one doorbell; one is due MOD.TICKS after the first source; a watched line sets its HIT and asks sleeping
groups to wake. -/
def Sys2Proof.Claims.LicDeliveries : Prop :=
  ∀ (s s1 : State) (tg : Fin 5) (waiting : Bool) (who : Requester) (v : Word),
    let k := s.licTarget tg.val
    let m := tg.val
    let held := max (field (s.regN licPg (0x208 + 0x20 * m)) 31 24) 1
    let ctx := field (s.regN licPg 0x10C) 13 0
    let c := s.tctx ctx
    (∀ n, licBest s m = some n → s.domainState 367 = 0 →
      (m < 4 → (waiting = true ∨ held ≤ k.held ∨ k.expired = true) → ∃ t, exec (.delivery tg waiting) s = .next t ∧
        OnlyIn s t [.irq, .counters, .logs] ∧ (t.licTarget m).held = 0 ∧ (t.licTarget m).expired = false ∧
        (t.licTarget m).stack = k.stack ∧ t.irq.rmIdle.contains m = false) ∧
      (m < 4 → waiting = false → k.held < held → k.expired = false → ∃ t, exec (.delivery tg waiting) s = .next t ∧
        OnlyIn s t [.irq] ∧ t.irq.targets = s.irq.targets) ∧
      (m = 4 → s.irq.hostTold = false → (held ≤ k.held ∨ k.expired = true ∨ bitAt (s.regN licPg 0x110) 4 = true) → c.st = 1 →
        c.queue = [] → c.unacked.length < min c.cwnd s.cwndMax → ∃ (t : State) (e : Unacked), exec (.delivery tg waiting) s = .next t ∧
          OnlyIn s t [.irq, .net, .regs, .counters, .logs] ∧ t.irq.hostTold = true ∧ (t.licTarget 4).held = 0 ∧
          (t.tctx ctx).unacked = c.unacked ++ [e] ∧ e.msg.cls = 3 ∧
          e.msg.data = 0xFF00 + (licCfg s n % 256 * 2 ^ 16 + n) * 2 ^ 96) ∧
      (m = 4 → s.irq.hostTold = true → exec (.delivery tg waiting) s = .next s)) ∧
    (let ticks := field (s.regN licPg (0x208 + 0x20 * m)) 23 0
     (ticks ≠ 0 → k.held ≠ 0 → k.heldAt + ticks ≤ s.tick → licEligible s m ≠ [] → ∃ t, exec (.moderationExpiry tg) s = .next t ∧
       OnlyIn s t [.irq] ∧ t.licTarget m = { k with expired := true }) ∧
     ((ticks = 0 ∨ k.held = 0 ∨ s.tick < k.heldAt + ticks) → exec (.moderationExpiry tg) s = .next s)) ∧
    (WriteReaches s s1 licPg 0x110 who v.toNat →
      (bitAt v.toNat 4 = true → ∃ t, exec (.idleHost who v) s = .next t ∧ OnlyIn s t [.irq, .regs, .sec] ∧
        bitAt (t.regN licPg 0x110) 4 = true ∧ t.irq.hostTold = false) ∧
      (bitAt v.toNat 4 = false → ∃ t, exec (.idleHost who v) s = .next t ∧ OnlyIn s t [.sec])) ∧
    (∀ (n : Fin 64) (q : Page),
      let src := field (s.regN spyPage (0x200 + 4 * n.val)) 11 0
      let off := if n.val < 32 then 0x104 else 0x108
      let level : Bool := s.domainState q.domain == 0 && lineLevel s q && (decide (2560 ≤ src) ||
        (sicRoute s (src / 64) (src % 64) && sicPrio s (src / 64) (src % 64) != 0))
      licSource src = some q →
      (bitAt (s.regN spyPage 0x010) 0 = true → bitAt (s.regN spyPage (0x200 + 4 * n.val)) 31 = true → level = true →
        bitAt (s.regN spyPage off) (n.val % 32) = false → ∃ t, exec (.spyglassHit n) s = .next t ∧
          OnlyIn s t [.irq, .power, .regs, .counters, .logs] ∧ bitAt (t.regN spyPage off) (n.val % 32) = true ∧
          bitAt (t.regN spyPage 0x018) 0 = true ∧
          (∀ g, g < 3 → bitAt (s.regN spyPage 0x100) g = true → s.power.asleep.contains g = true → SMap.get s.power.waking g = none →
            SMap.get t.power.waking g = some s.tick) ∧
          (s.domainState 367 = 0 → t.irq.edges.contains src = true)) ∧
      ((bitAt (s.regN spyPage 0x010) 0 = false ∨ level = false) → exec (.spyglassHit n) s = .next s))

/-! ### Register pages -/

/-- ISET_WRITE, CNT_SEL_WRITE, CNT_LO_READ, ERRLOG_DATA_READ, OWNER_WRITE and REGISTER_WRITE (R9, R383, R385, R387, R388, R391, R393): the
common registers of a page that admits the access, and a register without a behaviour of its own, whose RW bits take their values, W1C
bits clear and W1S bits set; a write to a reserved offset is logged. -/
def Sys2Proof.Claims.PageRegisters : Prop :=
  ∀ (s s1 : State) (n : Fin 5120) (who : Requester) (v : Word) (p : Page),
    let at_ (off : Nat) : Nat := 0x1000 * n.val + off
    let sel := field (s.regN p 0x030) 7 0
    (busCheck s (at_ 0x020) who true v.toNat = (s1, .ok p) → ∃ t, exec (.isetWrite n who v) s = .next t ∧ OnlyIn s t [.regs, .sec] ∧
      t.regN p 0x018 = s.regN p 0x018 ||| v.toNat % 2 ^ p.block.istBits) ∧
    (busCheck s (at_ 0x030) who true v.toNat = (s1, .ok p) →
      let k := p.block.counters[v.toNat % 256]?
      (bitAt v.toNat 30 = false → ∃ t, exec (.cntSelWrite n who v) s = .next t ∧ OnlyIn s t [.regs, .sec] ∧
        t.regN p 0x030 = v.toNat % 256) ∧
      (bitAt v.toNat 30 = true → k = some false →
        let ahead := (s.core p.coreId).sendAhead (s.core p.coreId).now
        let send : Prop := p.block = .jgl ∧ v.toNat % 256 = 1
        let rank : Prop := p.block = .ope ∧ v.toNat % 256 = 0
        (¬ send → ¬ rank → ∃ t, exec (.cntSelWrite n who v) s = .next t ∧ OnlyIn s t [.regs, .counters, .sec] ∧
          t.counter p (v.toNat % 256) = 0) ∧
        (rank → ∃ t, exec (.cntSelWrite n who v) s = .next t ∧ OnlyIn s t [.regs, .counters, .opes, .sec] ∧
          t.counter p 0 = 0 ∧ (t.ope p.coreId).cleared = issuedAhead (s.ope p.coreId) (s.core p.coreId).now) ∧
        (send → ∃ t, exec (.cntSelWrite n who v) s = .next t ∧ OnlyIn s t [.regs, .counters, .logs, .sec] ∧
          t.counter p 1 = min ahead counterMax)) ∧
      (bitAt v.toNat 30 = true → k = some true → ∃ t, exec (.cntSelWrite n who v) s = .next t ∧ OnlyIn s t [.regs, .logs, .sec] ∧
        (t.log p).writeSeq = wrapSucc 16 (s.log p).writeSeq)) ∧
    (busCheck s (at_ 0x034) who false 0 = (s1, .ok p) → ∃ t, exec (.cntLoRead n who) s = .next t ∧ OnlyIn s t [.snaps, .sec] ∧
      (busRead s (at_ 0x034) who).2 = .value (s.counterNow p sel % 2 ^ 32) ∧
      SMap.getD t.snaps 0 (p.base + reqClass who) = BitVec.ofNat 32 (s.counterNow p sel / 2 ^ 32) ∧
      (p.block.counters[sel]? = some false → ¬ (p.block = .ope ∧ sel = 0) → ¬ (p.block = .jgl ∧ sel = 1) →
        s.counterNow p sel = s.counter p sel)) ∧
    (busCheck s (at_ 0x028) who false 0 = (s1, .ok p) →
      let l := s.log p
      let d := modDist 16 l.writeSeq l.readSeq
      let ans := (busRead s (at_ 0x028) who).2
      (d = 0 → ∃ t, exec (.errlogDataRead n who) s = .next t ∧ OnlyIn s t [.sec] ∧ ans = .value 0) ∧
      (1 ≤ d → d ≤ 16 → ∃ t, exec (.errlogDataRead n who) s = .next t ∧ OnlyIn s t [.logs, .sec] ∧
        ans = .value (SMap.getD l.ring 0 (l.readSeq % 16)).toNat ∧ (t.log p).readSeq = (l.readSeq + 1) % 2 ^ 16 ∧
        (t.log p).writeSeq = l.writeSeq ∧ (t.log p).ring = l.ring) ∧
      (16 < d → ∃ (t : State) (e : Nat), exec (.errlogDataRead n who) s = .next t ∧ OnlyIn s t [.logs, .sec] ∧ ans = .value e ∧
        bitAt e 13 = true ∧ (t.log p).readSeq = ((l.writeSeq + 2 ^ 16 - 16) % 2 ^ 16 + 1) % 2 ^ 16)) ∧
    (busCheck s (at_ 0x040) who true v.toNat = (s1, .ok p) →
      (bitAt (s.owner p) 30 = false → ∃ t, exec (.ownerWrite n who v) s = .next t ∧ OnlyIn s t [.regs, .sec] ∧
        t.regN p 0x040 = field v.toNat 31 30 * 2 ^ 30 + field v.toNat 3 0) ∧
      (bitAt (s.owner p) 30 = true → ∃ t, exec (.ownerWrite n who v) s = .next t ∧ OnlyIn s t [.logs, .sec])) ∧
    (pageAt (at_ 0x040) = some p → s.domainUp p.domain = true → secure who = false → ∃ t, exec (.ownerWrite n who v) s = .next t ∧
      OnlyIn s t [.logs] ∧ (t.log p).writeSeq = wrapSucc 16 (s.log p).writeSeq) ∧
    (∀ word : Fin 5242880,
      let off := 4 * word.val % 0x1000
      (busCheck s (4 * word.val) who true v.toNat = (s1, .ok p) → 0x100 ≤ off → isDebug p off = false →
        p.block ∈ [Block.ope, .drn, .tst, .vec, .scl, .pool, .dir, .mov, .hbc, .hbp, .mesh, .mck, .crsUnit, .spy] →
        (∀ r, p.block.spec off = some r → r.wo = 0 → (r.rw ≠ 0 ∨ r.w1c ≠ 0 ∨ r.w1s ≠ 0) → ∃ t, exec (.registerWrite word who v) s = .next t ∧
          OnlyIn s t (if p.block = .ope ∧ (off = 0x110 ∨ off = 0x114) then [.regs, .opes, .sec] else [.regs, .sec]) ∧
          t.reg p off = ((((s.reg p off &&& ~~~(BitVec.ofNat 32 r.rw)) ||| (v &&& BitVec.ofNat 32 r.rw)) &&&
            ~~~(v &&& BitVec.ofNat 32 r.w1c)) ||| (v &&& BitVec.ofNat 32 r.w1s))) ∧
        (p.block.spec off = none → ∃ t, exec (.registerWrite word who v) s = .next t ∧ OnlyIn s t [.logs, .sec] ∧
          (t.log p).writeSeq = wrapSucc 16 (s.log p).writeSeq)))

/-- Register accesses that do not reach their register (R339, R378, R394, R430): at an absent page nothing happens, and in a domain that is
down an access is only counted; one that the page's OWNER does not admit is entered in the page's error log and nothing else; a Periscope access without a
session finds no page. -/
def Sys2Proof.Claims.RefusedAccesses : Prop :=
  ∀ (s : State) (word : Fin 5242880) (who : Requester) (v : Word),
    let off := 4 * word.val
    (pageAt off = none → exec (.registerWrite word who v) s = .next s ∧ (busWrite s off who v.toNat).2 = .absent ∧
      busRead s off who = (s, .absent)) ∧
    (who = .periscope → s.sec.session = none → exec (.registerWrite word who v) s = .next s ∧
      (busWrite s off who v.toNat).2 = .absent ∧ busRead s off who = (s, .absent)) ∧
    (∀ p, pageAt off = some p → who ≠ .periscope →
      (s.domainUp p.domain = false → exec (.registerWrite word who v) s = .next (s.bump clkPage 3) ∧
        (busWrite s off who v.toNat).2 = .down ∧ busRead s off who = (s.bump clkPage 3, .down)) ∧
      (s.domainUp p.domain = true → s.admits p who = false → ∃ t, exec (.registerWrite word who v) s = .next t ∧ OnlyIn s t [.logs] ∧
        (busWrite s off who v.toNat).2 = .denied ∧ (t.log p).writeSeq = wrapSucc 16 (s.log p).writeSeq ∧
        SMap.getD (t.log p).ring 0 ((s.log p).writeSeq % 16) = BitVec.ofNat 32 (3 * 2 ^ 28 + sourceCode who * 2 ^ 24 +
          s.reqPart who * 2 ^ 22 + reqCluster who * 2 ^ 16 + 2 ^ 12 + off % 0x1000) ∧
        ∀ q, q.base ≠ p.base → t.log q = s.log q))

/-- PARITY (R396, R397, R403): a unit that finds a parity error reports itself to the ledger; a line becomes poison, a side-memory word
is marked, a directory, cluster or training table makes a trigger, a core halts, a Ringmaster core's error resets the module. -/
def Obligations.ParityErrors : Prop :=
  ∀ (s : State) (unit : Word),
    let reported (t : State) : Prop := t.mem.ledgerIn = s.mem.ledgerIn ++ [⟨unit.toNat, 1, 0⟩]
    (∀ (c : Fin 40) (w : Fin 524288), ∃ t, exec (.parity (.side c w) unit) s = .next t ∧ OnlyIn s t [.rowEngines, .mem] ∧ reported t ∧
      (t.row c.val).marks.contains w.val = true ∧ (t.row c.val).side = (s.row c.val).side) ∧
    (∃ t, exec (.parity .pageOther unit) s = .next t ∧ t.mem = { s.mem with ledgerIn := t.mem.ledgerIn } ∧ OnlyIn s t [.mem] ∧ reported t) ∧
    (∀ place, place < 0xB800000000 → ∃ t, exec (.parity (.line place) unit) s = .next t ∧ OnlyIn s t [.mem] ∧ reported t ∧
      t.linePoisoned place = true ∧ t.mem.dram = s.mem.dram ∧ t.mem.poisonNotices = s.mem.poisonNotices ++ [place / 0x8000]) ∧
    (∀ tile, isDataTile tile = true → ∃ t, exec (.parity (.directory tile) unit) s = .next t ∧ OnlyIn s t [.mem] ∧ reported t ∧
      t.mem.shared = s.mem.shared ++ [⟨1, s.tileTarget tile, 0⟩]) ∧
    (∀ c : Fin 40, ∃ t, exec (.parity (.cluster c) unit) s = .next t ∧ OnlyIn s t [.mem] ∧ reported t ∧
      t.mem.shared = s.mem.shared ++ [⟨5, s.clusterPart c.val, c.val⟩]) ∧
    (∃ t, exec (.parity .training unit) s = .next t ∧ OnlyIn s t [.mem] ∧ reported t ∧
      t.mem.shared = s.mem.shared ++ [⟨6, s.trainPart, 0⟩]) ∧
    (s.cont.warm = none → ∃ t, exec (.parity .ringmaster unit) s = .next t ∧ t.cont.warm = some ⟨s.tick, false⟩ ∧
      (∀ (id : CoreId) x, ((s.core id).ctx x).mode = .running → ((t.core id).ctx x).mode = .halting)) ∧
    (∀ (c : Fin 40) k, (s.row c.val).run = some k → ∃ t, exec (.parity (.rowBuffer c) unit) s = .next t ∧ reported t ∧
      (t.row c.val).run = some { k with bad := true }) ∧
    (∀ (a : CtxAt) access slot, coreDue s a.id a.cycle = true → ((s.core a.id).ctx a.ctx).mode = .running →
      ∃ t, exec (.parity (.core a access slot false) unit) s = .next t ∧ reported t ∧ ((t.core a.id).ctx a.ctx).mode = .halting ∧
        t.regN (corePage a.id) (ctxOff a.ctx 0x0C) = (if access then 256 else 0) + causeParity ∧
        ∀ y, ((s.core a.id).ctx y).mode = .running → ((t.core a.id).ctx y).mode = .halting) ∧
    (∀ (id : CoreId) x l r off, ((s.core id).ctx x).acc.loads = l :: r → spotOf l.addr = .register off → l.got = none →
      ∃ t, exec (.parity (.pageLoad id x) unit) s = .next t ∧ OnlyIn s t [.cores, .mem] ∧ reported t ∧
        ((t.core id).ctx x).acc.loads = { l with got := some .error } :: r) ∧
    (∀ (n : Fin 16384) m rest, (s.tctx n.val).st = 1 → (s.tctx n.val).ready = m :: rest → m.cls = 1 →
      ∃ t, exec (.parity (.pageTalel n) unit) s = .next t ∧ reported t ∧ (t.tctx n.val).ready = rest)

/-! ### Containment -/

/-- KILL, KILL_DONE and DRAIN_TIMEOUT (R399, R404, R411): GO halts the job's cores unless a kill or a reset of its partition is in
progress; when all of them have stopped and are quiet the kill is done; a drain past its limit turns a kill into a partition reset, a
partition reset into a warm reset, and ends a warm reset's drain. -/
def Obligations.Kills : Prop :=
  ∀ (s s1 : State) (who : Requester) (v : Word),
    let p := field v.toNat 5 4
    let j := field v.toNat 3 0
    let limit := max (s.regN partPg 0x120) 1024
    (WriteReaches s s1 partPg 0x114 who v.toNat →
      (bitAt v.toNat 31 = true → s.cont.kill = none → SMap.get s.cont.resets p = none → s.cont.warm = none →
        ∃ t, exec (.kill who v) s = .next t ∧ t.cont = { s.cont with kill := some (p, j, s.tick) } ∧ t.mem = s.mem ∧
          (∀ (id : CoreId) x, s.clusterPart id.cluster.val = p → s.clusterJob id.cluster.val = j →
            ((s.core id).ctx x).mode = .running → ((t.core id).ctx x).mode = .halting ∧
              t.regN (corePage id) (ctxOff x 0x0C) = causeExternal) ∧
          (∀ id : CoreId, (s.clusterPart id.cluster.val ≠ p ∨ s.clusterJob id.cluster.val ≠ j) → t.core id = s.core id)) ∧
      (bitAt v.toNat 31 = true → (s.cont.kill ≠ none ∨ SMap.get s.cont.resets p ≠ none ∨ s.cont.warm ≠ none) →
        ∃ t, exec (.kill who v) s = .next t ∧ OnlyIn s t [.regs, .logs, .sec] ∧ bitAt (t.regN partPg 0x018) 5 = true) ∧
      (bitAt v.toNat 31 = false → ∃ t, exec (.kill who v) s = .next t ∧ OnlyIn s t [.sec])) ∧
    (∀ q k at_, s.cont.kill = some (q, k, at_) →
      let cs := s.jobClusters q k
      let u := cs.foldl clearCluster ((coresOf cs).foldl killCore s)
      (allStopped s (coresOf cs) = true → u.quiet cs = true → s.cont.kills = [] → ∃ t, exec .killDone s = .next t ∧ t.cont.kill = none ∧
        bitAt (t.regN partPg 0x018) 1 = true ∧ (∀ c ∈ cs, (t.row c).run = none ∧ (t.row c).queue = []) ∧
        ∀ id ∈ coresOf cs, (t.core id).flags = []) ∧
      (allStopped s (coresOf cs) = false → exec .killDone s = .next s) ∧
      (at_ + limit ≤ s.tick → s.cont.kills = [] → q < 4 → SMap.get s.cont.resets q = none → s.cont.warm = none →
        ∃ t, exec (.drainTimeout 4) s = .next t ∧ t.cont.kill = none ∧ SMap.get t.cont.resets q = some ⟨s.tick, false⟩ ∧
          t.epochOf q = (s.epochOf q + 1) % 2 ^ 16 ∧ bitAt (t.regN partPg 0x018) 4 = true) ∧
      (s.tick < at_ + limit → exec (.drainTimeout 4) s = .next s)) ∧
    (∀ (q : Fin 6) d, q.val < 4 → SMap.get s.cont.resets q.val = some d →
      (d.since + limit ≤ s.tick → s.cont.warm = none → ∃ t, exec (.drainTimeout q) s = .next t ∧ t.cont.warm = some ⟨s.tick, false⟩ ∧
        t.cont.resets = [] ∧ bitAt (t.regN partPg 0x018) 4 = true) ∧
      (s.tick < d.since + limit → exec (.drainTimeout q) s = .next s)) ∧
    (∀ d, s.cont.warm = some d →
      (d.since + limit ≤ s.tick → d.expired = false → ∃ t, exec (.drainTimeout 5) s = .next t ∧ OnlyIn s t [.cont, .regs, .counters, .logs] ∧
        t.cont = { s.cont with warm := some { d with expired := true } }) ∧
      (s.tick < d.since + limit → exec (.drainTimeout 5) s = .next s))

/-- SHARED_TRIGGER, PART_RESET, WARM, EPOCH_ADOPT, TARGETS_ACKNOWLEDGED and PART_CONFIG_WRITE (R403-R405, R407, R411, R412): a trigger for
a partition raises its epoch, halts its cores and starts its reset, one for the module a warm reset; a target takes a newer epoch; when
every target has it and every source is quiet, CLEAR leaves the partition's contexts IDLE; assignments change only while they are. -/
def Obligations.PartitionResets : Prop :=
  ∀ (s s1 : State) (who : Requester) (v : Word),
    let halted (t : State) (p : Nat) : Prop := ∀ (id : CoreId) x, s.clusterPart id.cluster.val = p →
      ((s.core id).ctx x).mode = .running → ((t.core id).ctx x).mode = .halting
    let started (t : State) (p : Nat) : Prop := SMap.get t.cont.resets p = some ⟨s.tick, false⟩ ∧
      t.epochOf p = (s.epochOf p + 1) % 2 ^ 16 ∧ halted t p
    (∀ x rest, s.mem.shared = x :: rest → s.cont.warm = none →
      (x.target < 4 → SMap.get s.cont.resets x.target = none → ∃ t, exec .sharedTrigger s = .next t ∧ started t x.target ∧
        t.mem = { s.mem with shared := rest } ∧ bitAt (t.regN partPg 0x018) 3 = true ∧
        (∀ q, q < 4 → q ≠ x.target → SMap.get t.cont.resets q = SMap.get s.cont.resets q ∧ t.epochOf q = s.epochOf q)) ∧
      (x.target < 4 → SMap.get s.cont.resets x.target ≠ none → ∃ t, exec .sharedTrigger s = .next t ∧ t.cont = s.cont ∧
        t.cores = s.cores) ∧
      (x.target = 4 → ∃ t, exec .sharedTrigger s = .next t ∧ t.cont.warm = some ⟨s.tick, false⟩) ∧
      (4 < x.target → ∃ t, exec .sharedTrigger s = .next t ∧ t.cont = s.cont ∧ bitAt (t.regN partPg 0x018) 3 = true)) ∧
    (WriteReaches s s1 partPg 0x110 who v.toNat → s.cont.warm = none → ∀ p, p < 4 →
      ∃ t, exec (.partReset who v) s = .next t ∧ t.mem = s.mem ∧
        (bitAt v.toNat p = true → SMap.get s.cont.resets p = none → started t p) ∧
        (bitAt v.toNat p = false → SMap.get t.cont.resets p = SMap.get s.cont.resets p ∧ t.epochOf p = s.epochOf p)) ∧
    (WriteReaches s s1 partPg 0x010 who v.toNat →
      (bitAt v.toNat 0 = true → s.cont.warm = none → ∃ t, exec (.warm who v) s = .next t ∧ t.cont.warm = some ⟨s.tick, false⟩ ∧
        t.cont.kill = none ∧ t.cont.resets = [] ∧ t.sec.session = none ∧ t.sec.verified = false ∧ t.mem = s.mem ∧
        ∀ p, p < 4 → s.unused p = false → t.epochOf p = (s.epochOf p + 1) % 2 ^ 16 ∧ halted t p) ∧
      (bitAt v.toNat 0 = false → ∃ t, exec (.warm who v) s = .next t ∧ OnlyIn s t [.sec])) ∧
    (∀ (d : Fin 372) (p : Fin 4) (e : Fin 65536),
      let c := s.epochCopy d.val p.val
      let behind := modDist 16 e.val c
      (2 ^ 15 ≤ modDist 16 (s.epochOf p.val) e.val → exec (.epochAdopt d p e) s = .next s) ∧
      (modDist 16 (s.epochOf p.val) e.val < 2 ^ 15 → 0 < behind → behind < 2 ^ 15 → targetBusy s d.val p.val = false →
        ∃ t, exec (.epochAdopt d p e) s = .next t ∧ OnlyIn s t [.fab] ∧ t.epochCopy d.val p.val = e.val ∧
          t.fab = { s.fab with epochs := t.fab.epochs })) ∧
    (∀ p : Fin 5, p.val < 4 →
      (SMap.get s.cont.resets p.val ≠ none → allAdopted s p.val = true → s.quiet (s.partClusters p.val) = true →
        ∃ t, exec (.targetsAcknowledged p) s = .next t ∧ SMap.get t.cont.resets p.val = none ∧ bitAt (t.regN partPg 0x018) 0 = true ∧
          ∀ (id : CoreId) x, s.clusterPart id.cluster.val = p.val → ((t.core id).ctx x).mode = .idle ∧ (t.core id).flags = []) ∧
      (allAdopted s p.val = false → exec (.targetsAcknowledged p) s = .next s)) ∧
    (∀ d, s.cont.warm = some d → d.expired = true → s.sec.verified = true → ∃ t, exec (.targetsAcknowledged 4) s = .next t ∧
      t.cont.warm = none ∧ bitAt (t.regN partPg 0x018) 2 = true ∧ ∀ (id : CoreId) x, ((t.core id).ctx x).mode = .idle) ∧
    (∀ (w : Fin 1024) r, partGuarded (4 * w.val) = true → Block.spec .part (4 * w.val) = some r → WriteReaches s s1 partPg (4 * w.val) who v.toNat →
      ((∀ q ∈ configParts s (4 * w.val) v.toNat, ∀ (id : CoreId) x, s.clusterPart id.cluster.val = q → ((s.core id).ctx x).mode = .idle) →
        ∃ t, exec (.partConfigWrite w who v) s = .next t ∧ OnlyIn s t [.regs, .sec] ∧
          t.reg partPg (4 * w.val) = v &&& BitVec.ofNat 32 r.rw) ∧
      (∀ q ∈ configParts s (4 * w.val) v.toNat, ∀ (id : CoreId) x, s.clusterPart id.cluster.val = q →
        ((s.core id).ctx x).mode ≠ .idle → ∃ t, exec (.partConfigWrite w who v) s = .next t ∧ OnlyIn s t [.logs, .sec])) ∧
    (∀ w : Fin 1024, partGuarded (4 * w.val) = false → exec (.partConfigWrite w who v) s = .next s)

/-! ### Firmware and management -/

/-- BOOT_VERIFY and IMAGE (R415-R417): the preferred image runs if its four checks pass, else the other slot with FALLBACK and an alarm,
else the module is in RECOVERY; identity is derived first, once in a power-on; an image brought to the service port in RECOVERY goes
into slot A and, if it verifies, restarts the boot. -/
def Obligations.Boot : Prop :=
  (∀ (s : State) (sram : Nat), s.sec.verified = false → s.sec.recovery = false → s.power.off = false → s.power.dark = false →
    let slot := s.flash.preferred
    let good (n : Nat) (i : Image) : Prop := s.flash.image n = some i ∧ imageOk s i = true
    let bad (n : Nat) : Prop := ∀ i, s.flash.image n = some i → imageOk s i = false
    let ran (t : State) (n : Nat) (i : Image) : Prop := t.sec.running = some i ∧ t.sec.slot = n ∧ t.sec.verified = true ∧
      t.flash.boots = (if s.flash.boots = 2 ^ 32 - 1 then s.flash.boots else s.flash.boots + 1) ∧ (stMgmt ≤ s.stage347 → t.sec.fwVer = i.version)
    (s.sec.derived = true →
      (∀ i, good slot i → ∃ t, exec (.bootVerify sram) s = .next t ∧ OnlyIn s t [.sec, .flash, .logs] ∧ ran t slot i ∧
        t.sec.fallback = false ∧ t.sec.alarms = s.sec.alarms) ∧
      (∀ i, bad slot → good (1 - slot) i → ∃ t, exec (.bootVerify sram) s = .next t ∧ OnlyIn s t [.sec, .flash, .regs, .logs] ∧
        ran t (1 - slot) i ∧ t.sec.fallback = true ∧ t.sec.alarms = s.sec.alarms ++ [(7, 1, s.tick)] ∧
        bitAt (t.regN secPage 0x018) 3 = true) ∧
      (bad slot → bad (1 - slot) → ∃ t, exec (.bootVerify sram) s = .next t ∧ t.sec.recovery = true ∧ t.sec.running = none ∧
        t.stage347 = stLink ∧ (∀ i, i < 18 → t.linkUp i = false) ∧ t.flash = { s.flash with boots := t.flash.boots })) ∧
    (s.sec.derived = false → ∀ r b sk, Config.fuzzyExtract sram s.flash.helper = some r → s.flash.blob = some b →
      let k := Config.shake256 40 (0x504152572D5A4E47 + 2 ^ 64 * (r % 2 ^ 256)) % 2 ^ 256
      Config.openBlob k b = some sk → ∃ t, exec (.bootVerify sram) s = .next t ∧ t.sec.identity = some sk ∧ t.sec.wrapKey = k ∧
        t.sec.derived = true)) ∧
  (∀ (s : State) (sram : Nat), (s.sec.verified = true ∨ s.sec.recovery = true ∨ s.power.off = true ∨ s.power.dark = true) →
    exec (.bootVerify sram) s = .next s) ∧
  (∀ (s : State) (f : SvcFrame), SvcReady s f →
    let i : Image := ⟨f.len, f.data % 2 ^ (8 * f.len)⟩
    (s.sec.recovery = true → f.len ≤ 8192 →
      (imageOk s i = true → ∃ t, exec (.image f) s = .next t ∧ t.flash = { s.flash with slotA := some i, preferred := 0 } ∧
        t.sec.recovery = false ∧ t.sec.verified = false ∧ SvcSays s t f mgtOk 0 0) ∧
      (imageOk s i = false → ∃ t, exec (.image f) s = .next t ∧ t.flash = { s.flash with slotA := some i } ∧
        t.sec.recovery = true ∧ SvcSays s t f mgtBadSig 0 0)) ∧
    (s.sec.recovery = false → ∃ t, exec (.image f) s = .next t ∧ t.flash = s.flash ∧ SvcSays s t f mgtState 0 0))

/-- MGT_CHUNK, REPORT and CERT (R418-R420, R428): a first chunk opens an operation and one that is not the last waits for more; a second
operation is answered BUSY; a report is a body with the nonce and the identity's hash, and its signature, in four frames; without an
identity both are answered UNPROVISIONED. -/
def Sys2Proof.Claims.MgtChunks : Prop :=
  (∀ (s : State) (n : Fin 16384) (m : Msg) (rest : List Msg), (s.tctx n.val).st = 1 → (s.tctx n.val).ready = m :: rest → m.cls = 7 →
    (s.tctx n.val).queue = [] → (s.tctx n.val).unacked.length < min (s.tctx n.val).cwnd s.cwndMax →
    let op := m.data % 2 ^ 8
    let last := m.data / 2 ^ 32 % 2 ^ 16
    (s.sec.mgt = none → 8 ≤ m.len → m.len ≤ 8200 → 1 ≤ op → op ≤ 12 → m.data / 2 ^ 8 % 2 ^ 24 = 0 → m.data / 2 ^ 48 % 2 ^ 16 = 0 →
      ∃ t, exec (.mgtChunk n) s = .next t ∧ (t.tctx n.val).ready = rest ∧ t.mem = s.mem ∧ t.flash = s.flash ∧
        t.sec = { s.sec with mgt := some ⟨some n.val, m.tag, op, 1, last, m.data / 2 ^ 64 % 2 ^ (8 * (m.len - 8)), m.len - 8,
          decide (last = 0)⟩ }) ∧
    (∀ k c, s.sec.mgt = some k → k.ctx = some c → (s.tctx c).st = 1 → k.complete = true → ∃ t, exec (.mgtChunk n) s = .next t ∧
      t.sec = s.sec ∧ (t.tctx n.val).ready = rest ∧ Answers s t n.val { cls := 7, tag := m.tag } 8 (op + 7 * 2 ^ 8))) ∧
  (∀ (s : State) (n : Nat) (k : MgtOp),
    (MgtReady s n k 1 → s.sec.identity = none → ∃ t, exec (.report none) s = .next t ∧ MgtAnswers s t n k mgtUnprov 0 0 ∧
      t.flash = s.flash) ∧
    (MgtReady s n k 1 → s.sec.identity ≠ none → k.len ≠ 32 → ∃ t, exec (.report none) s = .next t ∧ MgtAnswers s t n k mgtBadOp 0 0 ∧
      t.flash = s.flash) ∧
    (MgtReady s n k 2 → s.sec.identity = none → ∃ t, exec (.cert none) s = .next t ∧ MgtAnswers s t n k mgtUnprov 0 0) ∧
    (MgtReady s n k 2 → s.sec.identity ≠ none → s.flash.cert.1 ≤ 8192 → ∃ t, exec (.cert none) s = .next t ∧
      MgtAnswers s t n k mgtOk s.flash.cert.1 (s.flash.cert.2 % 2 ^ (8 * s.flash.cert.1)))) ∧
  (∀ (s : State) (f : SvcFrame) (sk : Nat), SvcReady s f → s.sec.identity = some sk →
    let body := reportBody s f.data
    let whole := body + Config.slhSign sk 512 body % 2 ^ 238336 * 2 ^ 4096
    let part (k l : Nat) : SvcFrame := ⟨f.op % 2 ^ 8, k, 3, l, whole / 2 ^ (65536 * k) % 2 ^ (8 * l)⟩
    (f.len = 32 → ∃ t, exec (.report (some f)) s = .next t ∧ t.flash = s.flash ∧ t.mem = s.mem ∧
      t.sec.sent = [part 3 5728, part 2 8192, part 1 8192, part 0 8192] ++ s.sec.sent) ∧
    body / 2 ^ 64 % 2 ^ 256 = f.data % 2 ^ 256 ∧ body / 2 ^ 1856 % 2 ^ 512 = Config.shake256 64 (Config.publicKey sk) % 2 ^ 512 ∧
    (f.len ≠ 32 → ∃ t, exec (.report (some f)) s = .next t ∧ SvcSays s t f mgtBadOp 0 0) ∧
    (s.flash.cert.1 ≤ 8192 → ∃ t, exec (.cert (some f)) s = .next t ∧
      SvcSays s t f mgtOk s.flash.cert.1 (s.flash.cert.2 % 2 ^ (8 * s.flash.cert.1))))

/-- ENROL, FW_STAGE, FW_COMMIT, PROVISION and IDENTIFY (R415, R419, R423, R424): the owner's key, the slot that is not running, the
preferred slot and the SVN floor, a new identity, the Marquee's pattern, each for the requester and the signature that it needs; one
refused leaves flash as it was. -/
def Sys2Proof.Claims.MgtFirmware : Prop :=
  ∀ (s : State) (n : Nat) (k : MgtOp),
    let admin := (s.tctx n).part = s.flash.admin
    let key := k.data % 2 ^ 512
    let slot := 1 - s.sec.slot
    (MgtReady s n k 3 →
      (¬admin → ∃ t, exec .enrol s = .next t ∧ MgtAnswers s t n k mgtNotAdmin 0 0 ∧ t.flash = s.flash) ∧
      (admin → s.sec.identity = none → ∃ t, exec .enrol s = .next t ∧ MgtAnswers s t n k mgtUnprov 0 0 ∧ t.flash = s.flash) ∧
      (∀ signer, admin → s.sec.identity ≠ none → k.len = 29856 → (s.flash.owner = none → rootOk s = true) →
        signer = (match s.flash.owner with | none => s.flash.rootKey | some h => Config.ownerKey h) →
        (Config.slhVerify signer 2 128 (s.identityHash + key * 2 ^ 512) (k.data / 2 ^ 512 % 2 ^ 238336) = true →
          ∃ t, exec .enrol s = .next t ∧ MgtAnswers s t n k mgtOk 0 0 ∧
            t.flash = { s.flash with owner := some (Config.shake256 64 key % 2 ^ 512) }) ∧
        (Config.slhVerify signer 2 128 (s.identityHash + key * 2 ^ 512) (k.data / 2 ^ 512 % 2 ^ 238336) = false →
          ∃ t, exec .enrol s = .next t ∧ MgtAnswers s t n k mgtBadSig 0 0 ∧ t.flash = s.flash))) ∧
    (MgtReady s n k 4 →
      (¬admin → ∃ t, exec .fwStage s = .next t ∧ MgtAnswers s t n k mgtNotAdmin 0 0 ∧ t.flash = s.flash) ∧
      (admin → ∃ t, exec .fwStage s = .next t ∧ MgtAnswers s t n k mgtOk 0 0 ∧ t.flash.image slot = some ⟨k.len, k.data⟩ ∧
        t.flash.image s.sec.slot = s.flash.image s.sec.slot ∧ t.flash.preferred = s.flash.preferred)) ∧
    (MgtReady s n k 5 →
      (¬admin → ∃ t, exec .fwCommit s = .next t ∧ MgtAnswers s t n k mgtNotAdmin 0 0 ∧ t.flash = s.flash) ∧
      (admin → k.len = 1 → s.flash.image slot = none → ∃ t, exec .fwCommit s = .next t ∧ MgtAnswers s t n k mgtState 0 0 ∧
        t.flash = s.flash) ∧
      (∀ i, admin → k.len = 1 → s.flash.image slot = some i →
        (signedOk s i = false → ∃ t, exec .fwCommit s = .next t ∧ MgtAnswers s t n k mgtBadSig 0 0 ∧ t.flash = s.flash) ∧
        (signedOk s i = true → i.svn < s.svnFloor → ∃ t, exec .fwCommit s = .next t ∧ MgtAnswers s t n k mgtRollback 0 0 ∧
          t.flash = s.flash) ∧
        (signedOk s i = true → s.svnFloor ≤ i.svn → ∃ t, exec .fwCommit s = .next t ∧ MgtAnswers s t n k mgtOk 0 0 ∧
          t.flash = (if bitAt k.data 0 then
            { s.flash with preferred := slot, floor := i.svn, floorTag := Config.floorMac s.sec.wrapKey i.svn }
            else { s.flash with preferred := slot })))) ∧
    (MgtReady s n k 12 → ∀ l, k.len = l + 29792 →
      let body := k.data % 2 ^ (8 * l)
      let good := Config.slhVerify s.flash.rootKey 3 l body (k.data / 2 ^ (8 * l) % 2 ^ 238336)
      (s.sec.identity ≠ none → ∃ t, exec .provision s = .next t ∧ MgtAnswers s t n k mgtState 0 0 ∧ t.flash = s.flash) ∧
      (s.sec.identity = none → (rootOk s = false ∨ good = false) → ∃ t, exec .provision s = .next t ∧
        MgtAnswers s t n k mgtBadSig 0 0 ∧ t.flash = s.flash) ∧
      (s.sec.identity = none → rootOk s = true → good = true → ∃ t, exec .provision s = .next t ∧
        (let (blob, helper, len, data) := Config.provParts l body
         t.flash = { s.flash with blob := some blob, helper := helper, cert := (len, data), owner := none }) ∧
        t.cores = [] ∧ t.sec.derived = false ∧ t.sec.verified = false)) ∧
    (MgtReady s n k 11 →
      (k.len = 1 → k.data % 2 ^ 8 < 2 → ∃ t, exec .identify s = .next t ∧ MgtAnswers s t n k mgtOk 0 0 ∧ t.flash = s.flash ∧
        bitAt (t.regN edgePage 0x010) 0 = bitAt k.data 0) ∧
      (k.len ≠ 1 → ∃ t, exec .identify s = .next t ∧ MgtAnswers s t n k mgtBadOp 0 0 ∧ t.regN edgePage 0x010 = s.regN edgePage 0x010))

/-- MGT_PART_RESET, MGT_PART_KILL, MGT_WARM and ALARM_ACK (R419, R423): the requests that act as writes of the PART registers do so
from the admin partition, and from another only on itself; a held alarm is released, and the stage goes on to READY. -/
def Sys2Proof.Claims.MgtContainment : Prop :=
  ∀ (s : State) (n : Nat) (k : MgtOp), s.cont.warm = none →
    let admin := (s.tctx n).part = s.flash.admin
    (MgtReady s n k 6 → k.len = 1 → k.data % 2 ^ 8 < 16 →
      (admin → ∃ t, exec .mgtPartReset s = .next t ∧ MgtAnswers s t n k mgtOk 0 0 ∧ ∀ p, p < 4 → bitAt k.data p = true →
        SMap.get s.cont.resets p = none → SMap.get t.cont.resets p = some ⟨s.tick, false⟩ ∧
          t.epochOf p = (s.epochOf p + 1) % 2 ^ 16 ∧ AllHalt s t (fun id => s.clusterPart id.cluster.val = p)) ∧
      (∀ p, p < 4 → ¬admin → bitAt k.data p = true → p ≠ (s.tctx n).part → ∃ t, exec .mgtPartReset s = .next t ∧
        MgtAnswers s t n k mgtNotAdmin 0 0 ∧ t.cont = s.cont ∧ t.cores = s.cores)) ∧
    (MgtReady s n k 7 → k.len = 2 →
      let p := k.data % 2 ^ 8
      let j := k.data / 2 ^ 8 % 2 ^ 8
      p < 4 → j < 16 →
      ((admin ∨ p = (s.tctx n).part) → s.cont.kill = none → SMap.get s.cont.resets p = none →
        ∃ t, exec .mgtPartKill s = .next t ∧ MgtAnswers s t n k mgtOk 0 0 ∧ t.cont = { s.cont with kill := some (p, j, s.tick) } ∧
          AllHalt s t (fun id => s.clusterPart id.cluster.val = p ∧ s.clusterJob id.cluster.val = j)) ∧
      (¬admin → p ≠ (s.tctx n).part → ∃ t, exec .mgtPartKill s = .next t ∧ MgtAnswers s t n k mgtNotAdmin 0 0 ∧ t.cont = s.cont)) ∧
    (MgtReady s n k 8 →
      (admin → ∃ t, exec .mgtWarm s = .next t ∧ MgtAnswers s t n k mgtOk 0 0 ∧ t.cont.warm = some ⟨s.tick, false⟩ ∧
        AllHalt s t (fun _ => True)) ∧
      (¬admin → ∃ t, exec .mgtWarm s = .next t ∧ MgtAnswers s t n k mgtNotAdmin 0 0 ∧ t.cont = s.cont)) ∧
    (MgtReady s n k 10 →
      (admin → s.sec.held = true → ∃ t, exec .alarmAck s = .next t ∧ MgtAnswers s t n k mgtOk 0 0 ∧ t.sec.held = false ∧
        (s.stage347 = stMgmt → s.power.upDone = true → s.sec.identity ≠ none → s.sec.removal = 0 → t.stage347 = stReady)) ∧
      (admin → s.sec.held = false → ∃ t, exec .alarmAck s = .next t ∧ MgtAnswers s t n k mgtState 0 0 ∧ t.sec.held = false) ∧
      (¬admin → ∃ t, exec .alarmAck s = .next t ∧ MgtAnswers s t n k mgtNotAdmin 0 0 ∧ t.sec.held = s.sec.held))

/-! ### Alarms, removal, the service edge -/

/-- ALARM (R421, R422): nothing of an input that is lost; a class 1 alarm is counted and recorded and does nothing else; one of class 2 is
held, ends the session, clears the frame keys and starts a warm reset; one of class 3 also clears the identity and the owner. -/
def Sys2Proof.Claims.Alarms : Prop :=
  ∀ (s : State),
    (∀ l, s.power.dark = true → exec (.alarm l) s = .next s) ∧
    (∀ src, s.power.dark = false → s.sec.alarms = [(src, 1, s.tick)] → s.cont.warm = none → ∃ t, exec (.alarm []) s = .next t ∧
      OnlyIn s t [.regs, .counters, .logs, .sec] ∧ t.sec = { s.sec with alarms := [], lastAlarm := (1, src) } ∧
      bitAt (t.regN secPage 0x018) 0 = true) ∧
    (∀ n : Fin 5, n.val ≠ 0 → s.power.dark = false → s.sec.alarms = [] → s.cont.warm = none →
      let cls := if n.val = 1 then 3 else 2
      ∃ t, exec (.alarm [n]) s = .next t ∧ t.sec.held = true ∧ t.sec.session = none ∧ t.sec.lastAlarm = (cls, n.val) ∧
        bitAt (t.regN secPage 0x018) (cls - 1) = true ∧ (∀ i, (t.port i).keys = []) ∧
        (bitAt (s.regN secPage 0x104) 31 = false → field (t.regN secPage 0x104) 29 28 = cls ∧
          field (t.regN secPage 0x104) 27 24 = n.val) ∧
        (n.val = 1 → t.sec.identity = none ∧ t.flash = { s.flash with blob := none, owner := none }) ∧
        (n.val ≠ 1 → t.sec.identity = s.sec.identity ∧ t.flash = s.flash) ∧
        (s.power.off = false → t.cont.warm = some ⟨s.tick, false⟩ ∧ t.cont.warmClass = cls ∧ AllHalt s t (fun _ => True)) ∧
        (s.power.off = true → t.cont = s.cont))

/-- REMOVE, BUTTON_DOWN, SHORT_PRESS, REMOVAL_REQUEST (R419, R424, R426): a removal enters DRAINING, halts every F context, records the step
and the cause; it comes from the admin partition's request, from EDGE.CTRL, or from the button held for 2 s; a shorter press is
counted; a removal in progress is not started again. -/
def Sys2Proof.Claims.RemovalStarts : Prop :=
  ∀ (s s1 : State) (who : Requester) (v : Word),
    let started (t : State) (cause : Nat) : Prop := t.sec.removal = 1 ∧ t.sec.removalAt = s.tick ∧
      t.regN edgePage 0x100 = s.frontStep * 2 ^ 16 + cause ∧ bitAt (t.regN edgePage 0x018) 0 = true ∧
      (s.isRetired = false → t.stage347 = stDraining) ∧ t.mem = s.mem ∧
      (∀ id : CoreId, ((s.core id).ctx .f).mode = .running → ((t.core id).ctx .f).mode = .halting) ∧
      (∀ id : CoreId, ((t.core id).ctx .b) = ((s.core id).ctx .b) ∧ ((t.core id).ctx .u) = ((s.core id).ctx .u))
    (∀ n k, MgtReady s n k 9 →
      ((s.tctx n).part ≠ s.flash.admin → ∃ t, exec (.remove none) s = .next t ∧ MgtAnswers s t n k mgtNotAdmin 0 0 ∧
        t.sec.removal = s.sec.removal) ∧
      ((s.tctx n).part = s.flash.admin → s.sec.removal = 0 → ∃ t, exec (.remove none) s = .next t ∧ started t 2) ∧
      ((s.tctx n).part = s.flash.admin → s.sec.removal ≠ 0 → ∃ t, exec (.remove none) s = .next t ∧ MgtAnswers s t n k mgtState 0 0 ∧
        t.sec.removal = s.sec.removal)) ∧
    (WriteReaches s s1 edgePage 0x010 who v.toNat →
      (bitAt v.toNat 1 = true → s.sec.removal = 0 → ∃ t, exec (.remove (some (who, v))) s = .next t ∧ started t 2) ∧
      (bitAt v.toNat 1 = false → ∃ t, exec (.remove (some (who, v))) s = .next t ∧ OnlyIn s t [.regs, .sec] ∧
        t.regN edgePage 0x010 = v.toNat % 2 ∧ t.sec.removal = s.sec.removal)) ∧
    (s.sec.button = none → s.power.dark = false → ∃ t, exec .buttonDown s = .next t ∧ OnlyIn s t [.sec] ∧
      t.sec = { s.sec with button := some s.tick, asked := false }) ∧
    (s.sec.button ≠ none → exec .buttonDown s = .next s) ∧
    (s.sec.button = none → exec .removalRequest s = .next s ∧ exec .shortPress s = .next s) ∧
    (∀ b, s.sec.button = some b → s.sec.asked = false →
      (b + 200000000 ≤ s.tick → s.power.dark = false → s.power.low = false → s.power.off = false → s.sec.removal = 0 →
        ∃ t, exec .removalRequest s = .next t ∧ started t 1) ∧
      (b + 200000000 ≤ s.tick → s.power.dark = false → (s.power.low = true ∨ s.power.off = true) →
        ∃ t, exec .removalRequest s = .next t ∧ OnlyIn s t [.sec] ∧ t.sec = { s.sec with asked := true }) ∧
      (s.tick < b + 200000000 → exec .removalRequest s = .next s) ∧
      (s.tick < b + 200000000 → s.power.low = false → ∃ t, exec .shortPress s = .next t ∧ OnlyIn s t [.sec, .regs, .counters, .logs] ∧
        t.sec = { s.sec with button := none, asked := false } ∧ bitAt (t.regN edgePage 0x018) 1 = true ∧
        t.counter edgePage 1 = min (s.counter edgePage 1 + 1) (2 ^ 64 - 1)) ∧
      (b + 200000000 ≤ s.tick → ∃ t, exec .shortPress s = .next t ∧ OnlyIn s t [.sec] ∧
        t.sec = { s.sec with button := none, asked := false }))

/-- DRAINING_END, SAFE, LATCH_LEVER and TAIL_WRITE (R426, R427): when every B and U context is IDLE and no hand and no slice waits, or the
limit has passed, every job is killed; when the kills are done the ledger is flushed, every context closes and the rails go; a latch
opened outside SAFE is an alarm of class 2 and starts the tail write, which writes up to 256 changed records. -/
def Sys2Proof.Claims.RemovalEnds : Prop :=
  ∀ (s : State),
    let quiet : Prop := (∀ id : CoreId, ((s.core id).ctx .b).mode = .idle ∧ ((s.core id).ctx .u).mode = .idle) ∧ s.crs.hands = [] ∧
      s.upd.queue = [] ∧ s.upd.slices = []
    let late : Prop := s.sec.removalAt + max (s.regN edgePage 0x104) 1000000 ≤ s.tick
    (s.sec.removal = 1 → (quiet ∨ late) → ∃ t, exec .drainingEnd s = .next t ∧ t.sec.removal = 2 ∧ AllHalt s t (fun _ => True) ∧
      t.mem = s.mem) ∧
    (s.sec.removal = 1 → ¬quiet → ¬late → exec .drainingEnd s = .next s) ∧
    (s.sec.removal ≠ 1 → exec .drainingEnd s = .next s) ∧
    (s.sec.removal = 2 → s.cont.kill = none → s.cont.kills = [] → ∃ t, exec .safe s = .next t ∧ t.sec.removal = 3 ∧ t.power.off = true ∧
      t.ledger.flash = s.ledger.recs ∧ t.ledger.dirty = [] ∧ t.mem.repairSince = none ∧ bitAt (t.regN edgePage 0x018) 4 = true ∧
      ∀ n, (s.tctx n).st = 1 → (t.tctx n).st = 2) ∧
    ((s.sec.removal ≠ 2 ∨ s.cont.kill ≠ none ∨ s.cont.kills ≠ []) → exec .safe s = .next s) ∧
    (∀ opened, s.power.dark = false → s.sec.latch = !opened → ∃ t, exec (.latchLever opened) s = .next t ∧
      OnlyIn s t [.sec, .regs, .counters, .logs] ∧ t.sec.latch = opened ∧ bitAt (t.regN edgePage 0x018) 2 = true ∧
      (opened = true → s.sec.removal ≠ 3 → t.sec = { s.sec with
        latch := true, tailDue := true, alarms := s.sec.alarms ++ [(5, 2, s.tick)] }) ∧
      ((opened = false ∨ s.sec.removal = 3) → t.sec = { s.sec with latch := opened })) ∧
    (exec (.latchLever s.sec.latch) s = .next s) ∧
    (s.sec.tailDue = true → s.power.dark = false → ∃ t, exec .tailWrite s = .next t ∧ OnlyIn s t [.sec, .flash, .ledger, .counters, .logs] ∧
      t.sec = { s.sec with tailDue := false } ∧
      t.flash = { s.flash with alarms := s.flash.alarms ++ [(s.sec.lastAlarm.2, s.sec.lastAlarm.1, s.tick)] } ∧
      t.ledger.dirty = s.ledger.dirty.drop 256 ∧ t.ledger.lostTail = s.ledger.dirty.length - 256 ∧
      (∀ i ∈ s.ledger.dirty.take 256, ∀ r, SMap.get s.ledger.recs i = some r → SMap.get t.ledger.flash i = some r) ∧
      (∀ i, i ∉ s.ledger.dirty.take 256 → SMap.get t.ledger.flash i = SMap.get s.ledger.flash i)) ∧
    (s.sec.tailDue = false → exec .tailWrite s = .next s)

/-- STATUS, VBUS_CHANGE, PERISCOPE_OPEN, PERISCOPE_CLOSE, SESSION_TIMEOUT and AUTH_LOCKOUT_EXPIRY (R428-R430): a status frame is answered
with 64 bytes; VBUS that goes ends the session; a session opens for a key and a signature that are good and the third failure in a row
refuses OPEN for 60 s; a session ends at CLOSE and 30 s after its last frame. -/
def Sys2Proof.Claims.ServicePort : Prop :=
  ∀ (s : State),
    (∀ f, SvcReady s f → ∃ (t : State) (d : Nat), exec (.status f) s = .next t ∧ OnlyIn s t [.sec, .counters, .logs] ∧
      SvcSays s t f mgtOk 64 d ∧ t.counter edgePage 4 = min (s.counter edgePage 4 + 1) (2 ^ 64 - 1)) ∧
    (∀ f, s.sec.vbus = false → exec (.status f) s = .next s) ∧
    (s.power.dark = false →
      (s.sec.vbus = false → ∃ t, exec (.vbusChange true) s = .next t ∧ OnlyIn s t [.sec, .regs, .counters, .logs] ∧
        t.sec = { s.sec with vbus := true } ∧ bitAt (t.regN edgePage 0x018) 3 = true ∧
        t.counter edgePage 3 = min (s.counter edgePage 3 + 1) (2 ^ 64 - 1)) ∧
      (s.sec.vbus = true → ∃ t, exec (.vbusChange false) s = .next t ∧ OnlyIn s t [.sec, .regs] ∧
        t.sec = { s.sec with vbus := false, svc := none, session := none } ∧ bitAt (t.regN edgePage 0x018) 3 = true)) ∧
    (exec (.vbusChange s.sec.vbus) s = .next s) ∧
    (∀ (key sig : Nat) (mask : Fin 16),
      let good : Prop := Config.shake256 64 key = s.flash.owner.getD Config.rootHash ∧
        Config.slhVerify key 4 100 (Config.freeNat s.fresh % 2 ^ 256 + s.identityHash * 2 ^ 256 + mask.val * 2 ^ 768) sig = true
      let total := field (s.regN secPage 0x110) 7 0
      let run := field (s.regN secPage 0x110) 15 8
      ((s.sec.vbus = false ∨ s.power.dark = true ∨ s.sec.lockout ≠ none ∨ s.sec.session ≠ none) →
        exec (.periscopeOpen key sig mask) s = .next s) ∧
      (s.sec.vbus = true → s.power.dark = false → s.sec.lockout = none → s.sec.session = none →
        (good → ∃ t, exec (.periscopeOpen key sig mask) s = .next t ∧ OnlyIn s t [.sec, .fresh, .regs, .counters, .logs] ∧
          t.sec = { s.sec with session := some ⟨mask.val, s.tick⟩ } ∧ bitAt (t.regN secPage 0x018) 4 = true ∧
          field (t.regN secPage 0x110) 15 8 = 0 ∧ field (t.regN secPage 0x110) 7 0 = total) ∧
        (¬good → ∃ t, exec (.periscopeOpen key sig mask) s = .next t ∧ OnlyIn s t [.sec, .fresh, .regs, .counters, .logs] ∧
          t.sec.session = none ∧ bitAt (t.regN secPage 0x018) 5 = true ∧ field (t.regN secPage 0x110) 7 0 = min (total + 1) 255 ∧
          field (t.regN secPage 0x110) 15 8 = min (run + 1) 255 ∧ (run = 2 → t.sec.lockout = some s.tick) ∧
          (run < 2 → t.sec.lockout = none)))) ∧
    (∀ k, s.sec.session = some k →
      (∃ t, exec .periscopeClose s = .next t ∧ OnlyIn s t [.sec, .logs] ∧ t.sec = { s.sec with session := none } ∧
        (t.log secPage).writeSeq = wrapSucc 16 (s.log secPage).writeSeq) ∧
      (k.last + 3000000000 ≤ s.tick → ∃ t, exec .sessionTimeout s = .next t ∧ OnlyIn s t [.sec] ∧
        t.sec = { s.sec with session := none }) ∧
      (s.tick < k.last + 3000000000 → exec .sessionTimeout s = .next s)) ∧
    (s.sec.session = none → exec .periscopeClose s = .next s ∧ exec .sessionTimeout s = .next s) ∧
    (∀ b, s.sec.lockout = some b →
      (b + 6000000000 ≤ s.tick → ∃ t, exec .authLockoutExpiry s = .next t ∧ OnlyIn s t [.sec] ∧
        t.sec = { s.sec with lockout := none }) ∧
      (s.tick < b + 6000000000 → exec .authLockoutExpiry s = .next s))

/-! ### Power, bring-up, spares, sleep -/

/-- FULL_POWER_ON, POWER_GOOD, UNDERVOLT, POWER_ENABLE_LOW, OVERVOLTAGE, INPUT_LOSS (R426, R427, R434, R435, R441, R445): a power-on clears
the cores and the memories, reads the ledger from flash, keeps flash and the site map, and starts bring-up at LINK, in RETIRED on a
retired module; each loss of an input removes the rails and abandons every Mirror sample (R305), and one outside SAFE starts the tail
write. -/
def Sys2Proof.Claims.PowerInputs : Prop :=
  ∀ (s : State),
    let clean (t : State) : Prop := t.cores = [] ∧ t.opes = [] ∧ t.rowEngines = [] ∧ t.mem.dram = [] ∧ t.net.ctxs = [] ∧ t.cont = {} ∧
      t.ledger.recs = s.ledger.flash ∧ t.flash = s.flash ∧ t.fab.sites = s.fab.sites ∧ t.sec.identity = none ∧ t.sec.verified = false
    (s.power.dark = true → ∃ t, exec .fullPowerOn s = .next t ∧ clean t ∧ t.power.dark = false ∧ t.power.off = true ∧
      field (t.regN pwrPage 0x014) 11 8 = field (s.regN pwrPage 0x014) 11 8 ∧ t.pending = s.pending) ∧
    (s.power.dark = false → exec .fullPowerOn s = .next s) ∧
    (s.power.dark = false →
      (s.power.enable = false ∨ (s.power.off = true ∧ (s.sec.removal ≠ 3 ∨ s.power.low = true ∨ s.power.inputOk = false))) →
      ∃ t, exec .powerGood s = .next t ∧ clean t ∧ t.power.off = false ∧ t.power.enable = true ∧ t.power.low = false ∧
        t.power.inputOk = true ∧ t.power.goodAt = s.tick ∧ t.sec.removal = 0 ∧
        t.stage347 = (if s.isRetired then stRetired else stLink)) ∧
    ((s.power.dark = true ∨ (s.power.enable = true ∧ s.power.off = false)) → exec .powerGood s = .next s) ∧
    (s.power.off = true → s.power.enable = true → s.sec.removal = 3 → s.power.low = false → s.power.inputOk = true →
      exec .powerGood s = .next s) ∧
    (s.power.off = false → s.power.dark = false → ∃ t, exec .undervolt s = .next t ∧
      OnlyIn s t [.power, .sec, .num, .regs, .counters, .logs] ∧ (∀ id, t.mirror id = none) ∧
      t.power = { s.power with off := true, inputOk := false } ∧
      t.sec = { s.sec with
        removal := (if s.sec.removal = 1 ∧ s.sec.removalAt = s.tick then 0 else s.sec.removal)
        tailDue := s.sec.tailDue || s.sec.removal != 3 } ∧
      t.regN pwrPage 0x120 = min (s.regN pwrPage 0x120 + 1) (2 ^ 32 - 1) ∧ bitAt (t.regN pwrPage 0x018) 4 = true) ∧
    ((s.power.off = true ∨ s.power.dark = true) → exec .undervolt s = .next s) ∧
    (s.power.low = false → s.power.dark = false → ∃ t, exec .powerEnableLow s = .next t ∧
      OnlyIn s t [.power, .sec, .num, .regs, .counters, .logs] ∧
      ((s.sec.removal = 3 ∨ s.power.off = true) → t.power = { s.power with enable := false, low := true } ∧ t.sec = s.sec ∧ t.num = s.num) ∧
      (s.sec.removal ≠ 3 → s.power.off = false → (∀ id, t.mirror id = none) ∧ t.power = { s.power with enable := false, low := true, off := true } ∧
        t.sec = { s.sec with tailDue := true })) ∧
    ((s.power.low = true ∨ s.power.dark = true) → exec .powerEnableLow s = .next s) ∧
    (s.power.dark = false → (s.power.off = false ∨ s.power.inputOk = true) → ∃ t, exec .overvoltage s = .next t ∧
      OnlyIn s t [.power, .sec, .num, .regs, .counters, .logs] ∧ (∀ id, t.mirror id = none) ∧ t.power = { s.power with off := true, inputOk := false } ∧
      t.sec = { s.sec with alarms := s.sec.alarms ++ [(2, 2, s.tick)] }) ∧
    (s.power.dark = false → ∃ t, exec .inputLoss s = .next t ∧
      OnlyIn s t [.power, .sec, .num, .regs, .counters, .logs] ∧ (∀ id, t.mirror id = none) ∧ t.power = { s.power with dark := true, off := true, inputOk := false, enable := false } ∧
      t.sec = { s.sec with session := none, alarms := [], held := false }) ∧
    (s.power.dark = true → exec .inputLoss s = .next s)

/-- STAGE_ADVANCE (R440): LINK ends with the host link or at 500 ms, TRAIN with trained memories, legal routes and every edge unit attached
to the nearest router in service (R325), and later than 600 ms it retires the module; a lane that training finds bad goes to a spare or
loses its channel (R221), and a channel that does not train loses its stack and retires the module (R222); MGMT ends in READY unless an alarm is held, the module has no identity or a warm reset is in progress. -/
def Sys2Proof.Claims.BringUp : Prop :=
  ∀ (s : State) (w : StageWork),
    let age := s.tick - s.power.goodAt
    let entered (t : State) (n : Nat) : Prop := t.stage347 = n ∧ t.power.stageAt = s.tick
    ((s.power.off = true ∨ s.power.dark = true ∨ s.sec.recovery = true ∨ s.sec.verified = false ∨ s.sec.removal ≠ 0) →
      exec (.stageAdvance w) s = .next s) ∧
    (s.power.off = false → s.power.dark = false → s.sec.recovery = false → s.sec.verified = true → s.sec.removal = 0 →
      s.power.upDone = false →
      (s.stage347 = stLink →
        ((s.linkUp 0 = true ∨ 50000000 ≤ age) → ∃ t, exec (.stageAdvance w) s = .next t ∧ OnlyIn s t [.regs, .power] ∧
          entered t stTrain) ∧
        (s.linkUp 0 = false → age < 50000000 → exec (.stageAdvance w) s = .next s)) ∧
      (s.stage347 = stTrain →
        (60000000 < age → ∃ t, exec (.stageAdvance w) s = .next t ∧ OnlyIn s t [.retireDue] ∧ 5 ∈ t.retireDue) ∧
        (age ≤ 60000000 → w.done = false → exec (.stageAdvance w) s = .next s) ∧
        (age ≤ 60000000 → w.done = true → w.sites = [] → s.power.siteDue = [] →
          let legal := routesLegal (fun n => s.activeSites.contains n) (tableOf w.routes)
          (legal = true → ∃ t, exec (.stageAdvance w) s = .next t ∧ entered t stMgmt ∧ t.fab.routes = tableOf w.routes ∧
            t.mem.dirInit = true ∧ t.mem.dram = s.mem.dram ∧ t.sec.fwVer = (match s.sec.running with | some i => i.version | none => 0) ∧
            (∀ c, (t.row c).side = []) ∧ 
            (∀ e, e < 36 → t.attachOf e = nearestRouter (fun k => (t.clusterAt k).isSome) e) ∧
            (∀ h ∈ w.hbm, let c := (t.stack h.stack.val).channel h.channel.val
              (∀ l ∈ h.lanes, l < 72 → l ∈ c.failed ∨ c.lost = true) ∧
              (h.trained = false → c.lost = true ∧ (t.stack h.stack.val).lost = true ∧ 1 ∈ t.retireDue ∧
                bitAt (t.regN (hbpPage h.stack.val) 0x018) 2 = true))) ∧
          (legal = false → exec (.stageAdvance w) s = .next s))) ∧
      (s.stage347 = stMgmt →
        (w.done = false → age < 250000000 → exec (.stageAdvance w) s = .next s) ∧
        ((w.done = true ∨ 250000000 ≤ age) → w.sites = [] → ∃ t, exec (.stageAdvance w) s = .next t ∧
          OnlyIn s t [.regs, .power] ∧ t.power.upDone = true ∧
          (s.sec.held = false → s.sec.identity ≠ none → s.cont.warm = none → entered t stReady) ∧
          ((s.sec.held = true ∨ s.sec.identity = none ∨ s.cont.warm ≠ none) → t.stage347 = stMgmt))))

/-- POWER_CAP_PERIOD (R438): the controller keeps the measured values; above the power or the temperature limit the core clocks fall by a
step, down to 50%, and after 10 ms below both bounds they rise by one. -/
def Sys2Proof.Claims.PowerCap : Prop :=
  ∀ (s : State) (volts amps watts : Fin 65536) (die : BitVec 16), s.power.off = false → s.power.dark = false →
    let limit := min (max (field (s.regN pwrPage 0x108) 15 0) 1800) 3600
    let hot : Int := min (field (s.regN pwrPage 0x10C) 23 16) 115
    let above : Prop := limit < watts.val ∨ 10 * hot < die.toInt
    let below : Prop := watts.val + 100 < limit ∧ die.toInt < 10 * hot - 50
    ∃ t, exec (.powerCapPeriod volts amps watts die) s = .next t ∧ OnlyIn s t [.regs, .power, .fab, .counters, .logs] ∧
      t.regN pwrPage 0x100 = volts.val * 2 ^ 16 + amps.val ∧ t.regN pwrPage 0x104 = watts.val ∧
      field (t.regN pwrPage 0x10C) 15 0 = die.toNat ∧
      (above → t.power.steps = min (s.power.steps + 1) 10 ∧ t.power.calm = 0) ∧
      (limit < watts.val → t.power.capping = true ∧ bitAt (t.regN pwrPage 0x018) 0 = true) ∧
      (10 * hot < die.toInt → t.power.thermal = true ∧ bitAt (t.regN pwrPage 0x018) 1 = true) ∧
      (¬above → below → (s.power.calm < 9 → t.power.steps = s.power.steps ∧ t.power.calm = s.power.calm + 1) ∧
        (9 ≤ s.power.calm → t.power.steps = s.power.steps - 1)) ∧
      (¬above → ¬below → t.power.steps = s.power.steps ∧ t.power.calm = 0) ∧
      (t.power.steps = s.power.steps → t.fab = s.fab)

/-- PHASE_SPARE, PEER_PORT_FAIL, SPARE_LINK_TIMEOUT and RETIRE (R437, R444, R445): a phase is replaced by a spare of its rail, of which
there are two; the first peer port that fails is replaced by P16, its PERMANENT lanes become RETIRED (R318), and P16's link must be up
in 500 ms, or the port's contexts become FAILED; what has no spare retires the module, which kills every job and enters RETIRED. -/
def Sys2Proof.Claims.Spares : Prop :=
  ∀ (s : State),
    let failed (t : State) (i : Nat) : Prop := ∀ n, (s.tctx n).port = i → ((s.tctx n).st = 1 ∨ (s.tctx n).st = 2) →
      ((s.tctx n).kind = 1 ∨ (s.tctx n).kind = 2) → (t.tctx n).st = 3
    (∀ i rest r, s.power.phaseDue = i :: rest → SMap.get s.ledger.recs i = some r →
      let rail := field r.unit 27 20
      let used := SMap.getD s.power.spared 0 rail
      (used < 2 → ∃ t, exec .phaseSpare s = .next t ∧ OnlyIn s t [.power, .ledger, .regs, .counters, .logs] ∧
        t.power = { s.power with phaseDue := rest, spared := SMap.set s.power.spared rail (used + 1) } ∧
        SMap.get t.ledger.recs i = some { r with cls := 4 } ∧ bitAt (t.regN pwrPage 0x018) 2 = true) ∧
      (2 ≤ used → ∃ t, exec .phaseSpare s = .next t ∧ OnlyIn s t [.power, .retireDue] ∧
        t.power = { s.power with phaseDue := rest } ∧ t.retireDue = s.retireDue ++ [3])) ∧
    (s.power.phaseDue = [] → exec .phaseSpare s = .next s) ∧
    (∃ t, exec (.peerPortFail 0) s = .next t ∧ OnlyIn s t [.retireDue] ∧ t.retireDue = s.retireDue ++ [2]) ∧
    (∀ k : Fin 18, k.val ≠ 0 → k.val ≠ 17 →
      (bitAt (s.regN (portPage 17) 0x014) 24 = false → ∃ t, exec (.peerPortFail k) s = .next t ∧ OnlyIn s t [.regs, .power, .net, .ledger] ∧
        bitAt (t.regN (portPage 17) 0x014) 24 = true ∧ field (t.regN (portPage 17) 0x014) 23 20 = (k.val - 1) % 16 ∧
        t.power.portDown = some k.val ∧ (t.port k.val).sparing = some s.tick ∧ t.linkUp k.val = false ∧ t.net.ctxs = s.net.ctxs ∧
        ∀ j r, SMap.get s.ledger.recs j = some r → r.cls = 3 → r.unit / 2 ^ 28 = 5 → field r.unit 27 20 = k.val - 1 →
          (SMap.get t.ledger.recs j).map (·.cls) = some 4) ∧
      (bitAt (s.regN (portPage 17) 0x014) 24 = true → ∃ t, exec (.peerPortFail k) s = .next t ∧ failed t k.val ∧
        t.linkUp k.val = false ∧ t.mem = s.mem)) ∧
    (∀ i b, s.power.portDown = some i → (s.port i).sparing = some b →
      (b + 50000000 ≤ s.tick → s.linkUp i = false → ∃ t, exec .spareLinkTimeout s = .next t ∧ failed t i ∧
        t.power.portDown = none ∧ (t.port i).sparing = none ∧ t.mem = s.mem) ∧
      ((s.tick < b + 50000000 ∨ s.linkUp i = true) → exec .spareLinkTimeout s = .next s)) ∧
    (s.power.portDown = none → exec .spareLinkTimeout s = .next s) ∧
    (∀ c rest, s.retireDue = c :: rest →
      (s.isRetired = true → ∃ t, exec .retire s = .next t ∧ OnlyIn s t [.retireDue] ∧ t.retireDue = rest) ∧
      (s.isRetired = false → ∃ t, exec .retire s = .next t ∧ t.retireDue = rest ∧ t.stage347 = stRetired ∧
        field (t.regN pwrPage 0x014) 11 8 = c % 16 ∧ t.mem.allPoison = true ∧ t.mem.dram = s.mem.dram ∧
        t.ledger.flash = s.ledger.recs ∧ bitAt (t.regN pwrPage 0x018) 5 = true ∧ AllHalt s t (fun _ => True))) ∧
    (s.retireDue = [] → exec .retire s = .next s)

/-- SLEEP and WAKE (R371, R441): a write of PWR.SLEEP puts the groups that it names to sleep; a group asked to wake has woken after its
time, 40 µs for the Ringmaster and 150 µs for an edge, and its SLEEP bit clears. -/
def Sys2Proof.Claims.SleepAndWake : Prop :=
  ∀ (s s1 : State) (who : Requester) (v : Word) (g : Fin 3),
    (WriteReaches s s1 pwrPage 0x11C who v.toNat → ∃ t, exec (.sleep who v) s = .next t ∧ OnlyIn s t [.regs, .power, .sec] ∧
      t.regN pwrPage 0x11C = v.toNat % 8 ∧ (bitAt v.toNat g.val = true → t.power.asleep.contains g.val = true) ∧
      (bitAt v.toNat g.val = false → t.power.asleep.contains g.val = s.power.asleep.contains g.val)) ∧
    (∀ b, SMap.get s.power.waking g.val = some b →
      let need := if g.val = 0 then 4000 else 15000
      (s.tick < b + need → exec (.wake g) s = .next s) ∧
      (b + need ≤ s.tick → ∃ t, exec (.wake g) s = .next t ∧ t.power.asleep.contains g.val = false ∧
        SMap.get t.power.waking g.val = none ∧ bitAt (t.regN pwrPage 0x11C) g.val = false ∧ t.mem = s.mem ∧ t.cores = s.cores ∧
        ∀ h, h < 3 → h ≠ g.val → t.power.asleep.contains h = s.power.asleep.contains h)) ∧
    (SMap.get s.power.waking g.val = none → exec (.wake g) s = .next s)

/-! ### Single rules -/

/-- Integer lanes (R157): the low bits of the exact sum, difference, product or product and sum; the most negative value stays as it is
under VABS and VNEG; VMAX, VMIN and VCMP compare signed values. -/
def Obligations.IntegerLanes : Prop :=
  ∀ (s : State) (u : Issue) (op : SlotOp), SoleIssue s u op → kindOf u.id = .vector → u.access = false →
    isInt (field op.raw 7 6) = true →
    let k := (s.core u.id).ctx u.ctx
    let w := laneBits (field op.raw 7 6)
    let n := lanesOf (field op.raw 7 6)
    let m := (k.mreg (field op.raw 30 28)).toNat
    let x (i : Nat) : Int := signedOf w (laneOf (k.vreg (field op.raw 17 13)).toNat w i)
    let y (i : Nat) : Int := signedOf w (laneOf (k.vreg (field op.raw 22 18)).toNat w i)
    let z (i : Nat) : Int := signedOf w (laneOf (k.vreg (field op.raw 27 23)).toNat w i)
    let least : Int := -((2 ^ (w - 1) : Nat) : Int)
    let low (v : Int) : Nat := (v % ((2 ^ w : Nat) : Int)).toNat
    let holds (c : Nat) (a b : Int) : Prop :=
      (c = 0 ∧ a = b) ∨ (c = 1 ∧ a ≠ b) ∨ (c = 2 ∧ a < b) ∨ (c = 3 ∧ a ≤ b) ∨ (c = 4 ∧ b < a) ∨ (c = 5 ∧ b ≤ a)
    let gives (c : Instr) (L : Nat) (f : Nat → Nat) : Prop := ∃ (t : State) (r : VRes), exec c s = .next t ∧
      InFlight s t u op L (.vreg (field op.raw 12 8) r.val r.keep) ∧ LanesGive r w m n f ∧ WordFrame s t u
    (op.slot = 4 → op.name = .vadd → gives (.vadd u) 2 (fun i => low (x i + y i))) ∧
    (op.slot = 4 → op.name = .vsub → gives (.vsub u) 2 (fun i => low (x i - y i))) ∧
    (op.slot = 4 → op.name = .vmul → gives (.vmul u) 2 (fun i => low (x i * y i))) ∧
    (op.slot = 4 → op.name = .vfma → gives (.vfma u) 4 (fun i => low (x i * y i + z i))) ∧
    (op.slot = 5 → op.name = .vabs → gives (.vabs u) 2 (fun i => low (if x i = least then least else if x i < 0 then -x i else x i))) ∧
    (op.slot = 5 → op.name = .vneg → gives (.vneg u) 2 (fun i => low (if x i = least then least else -x i))) ∧
    (op.slot = 5 → op.name = .vmax → gives (.vmax u) 2 (fun i => low (if x i < y i then y i else x i))) ∧
    (op.slot = 5 → op.name = .vmin → gives (.vmin u) 2 (fun i => low (if y i < x i then y i else x i))) ∧
    (op.slot = 5 → op.name = .vcmp → field op.raw 34 32 ≤ 5 → ∃ (t : State) (r : VRes), exec (.vcmp u) s = .next t ∧
      InFlight s t u op 2 (.mreg (field op.raw 12 8) r.val r.keep) ∧ WordFrame s t u ∧
      ∀ i, i < n → bitAt m i = true → (bitAt r.val i = true ↔ holds (field op.raw 34 32) (x i) (y i)))

/-- Scalar arithmetic (R165): modulo 2^64, SSHL and SSHR filling with zeros and SSRA with the sign; SDIVU by zero gives all ones and
records nothing; of two results of one word for one register, SA1's stands. -/
def Obligations.ScalarArithmetic : Prop :=
  (∀ (s : State) (u : Issue) (op : SlotOp), SoleIssue s u op → kindOf u.id = .scalar → u.access = false → op.slot = 4 ∨ op.slot = 5 →
    let a := (((s.core u.id).ctx u.ctx).sreg (field op.raw 15 11)).toNat
    let b := (((s.core u.id).ctx u.ctx).sreg (field op.raw 20 16)).toNat
    let imm : Int := signedOf 32 (field op.raw 63 32)
    let n := b % 64
    let gives (c : Instr) (L : Nat) (v : Nat) : Prop := ∃ t, exec c s = .next t ∧
      InFlight s t u op L (.sreg (field op.raw 10 6) (BitVec.ofNat 64 v)) ∧ WordFrame s t u ∧
      ∀ off, t.reg (sclPage u.id) off = s.reg (sclPage u.id) off
    (op.name = .sadd → gives (.sadd u) 1 ((a + b) % 2 ^ 64)) ∧
    (op.name = .ssub → gives (.ssub u) 1 ((a + 2 ^ 64 - b) % 2 ^ 64)) ∧
    (op.name = .saddi → gives (.saddi u) 1 (((a : Int) + imm) % ((2 ^ 64 : Nat) : Int)).toNat) ∧
    (op.name = .smul → gives (.smul u) 3 (a * b % 2 ^ 64)) ∧
    (op.name = .sshl → gives (.sshl u) 1 (a * 2 ^ n % 2 ^ 64)) ∧
    (op.name = .sshr → gives (.sshr u) 1 (a / 2 ^ n)) ∧
    (op.name = .ssra → gives (.ssra u) 1 (if a < 2 ^ 63 then a / 2 ^ n else 2 ^ 64 - 1 - (2 ^ 64 - 1 - a) / 2 ^ n)) ∧
    (op.name = .sdivu → gives (.sdivu u) 18 (if b = 0 then 2 ^ 64 - 1 else a / b))) ∧
  (∀ (s : State) (id : CoreId) (t : Nat) (p q : Pend) (n : Nat) (v w : Word64), coreDue s id t = true → anyIssuable s id t = false →
    (s.core id).pend.filter (fun r => decide (r.due = t)) = [p, q] → n ≠ 0 → p.what = .sreg n v → q.what = .sreg n w →
    p.ctx = q.ctx → p.access = q.access → p.issued = q.issued → p.slot = 4 → q.slot = 5 →
    ∃ s', exec (.resultCommit id t) s = .next s' ∧ ((s'.core id).ctx q.ctx).sreg n = w)

/-- RESET of a context and the stream contexts that it owns (R146): they become IDLE with no owner, their restart points clear, a pending
swap and an outstanding answer are dropped, and their descriptors are kept. -/
def Obligations.ResetsOfOwners : Prop :=
  ∀ (s s1 : State) (a : CtxAt) (who : Requester), coreDue s a.id a.cycle = true →
    WriteReaches (atCycle s a.id a.cycle) s1 (corePage a.id) (ctxOff a.ctx 0) who 4 →
    ((s.core a.id).ctx a.ctx).mode = .idle ∨ ((s.core a.id).ctx a.ctx).mode = .halted →
    ∃ t, exec (.reset a who) s = .next t ∧ ∀ n,
      let old := (s.core a.id).sc n
      let new := (t.core a.id).sc n
      (old.owner = some a.ctx → new.state = scIdle ∧ new.owner = none ∧ new.ctrs = [0, 0, 0, 0] ∧ new.pos = 0 ∧ new.half = 0 ∧
        new.seq = 0 ∧ new.swapPending = false ∧ new.answer = none ∧ new.faultOpen = false ∧ new.desc = old.desc) ∧
      (old.owner ≠ some a.ctx → new = old)

/-- The alert line (R425), as bit 0 of EDGE.STATUS shows it: asserted in SAFE, while an alarm is held, in RECOVERY and in RETIRED. -/
def Obligations.AlertLine : Prop :=
  ∀ (s s1 : State) (who : Requester), ReadReaches s s1 edgePage 0x014 who →
    ∃ v, busRead s (edgePage.key 0x014) who = (s1, .value v) ∧
      (bitAt v 0 = true ↔ s.sec.removal = 3 ∨ s.sec.held = true ∨ s.sec.recovery = true ∨ s.stage347 = stRetired)

/-! ### The whole block -/

/-- The state after reset (R9, R77, R80, R86, R346, R389-R391, R393, R400, R440): no command waits, every register of every page reads its
reset value, every page is reachable by secure requesters only, counters and logs are empty, contexts are IDLE with their registers and
flags 0, Talel contexts are FREE, every cluster is in Part0 and bring-up stands at LINK. Where the spec gives a register no reset value
the model's choice is 0 (log entry 6), and memory that nothing has written reads as 0 (log entry 5). -/
def Obligations.AfterReset : Prop :=
  let s := State.reset
  s.pending = [] ∧ s.tick = 0 ∧ Memory.wf s.mem ∧ s.stage347 = stLink ∧
    (∀ (p : Page) (off : Nat), s.regN p off = p.resetAt off % 2 ^ 32) ∧
    (∀ p : Page, bitAt (s.owner p) 31 = true ∧ field (s.owner p) 30 0 = 0 ∧ ∀ who, s.admits p who = secure who) ∧
    (∀ (p : Page) (n : Nat), s.counter p n = 0 ∧ s.log p = {}) ∧
    (∀ (id : CoreId) x f n, ((s.core id).ctx x).mode = .idle ∧ ((s.core id).flag x f).value = 0 ∧ ((s.core id).ctx x).sreg n = 0 ∧
      (∀ acc, (((s.core id).ctx x).stream acc).ireg n = 0) ∧ (((s.core id).ctx x).queue n).items = [] ∧ ((s.core id).sc n).state = scIdle) ∧
    (∀ n, (s.tctx n).st = 0) ∧ (∀ c, c < 40 → s.clusterPart c = 0) ∧ (∀ a, Mem.get s.mem.dram a = 0)

/-- Every command has a meaning: on every state it answers a next state, never a fault or a refusal. -/
def Sys2Proof.Claims.NothingStops : Prop := ∀ (c : Instr) (s : State), ∃ t, exec c s = .next t

/-- The root key in flash is fixed (R415, R417): no step changes it. -/
def Obligations.RootKeyKept : Prop := ∀ s t : State, step s = .next t → t.flash.rootKey = s.flash.rootKey

/-- Commands come from outside alone: a step takes the front command and puts none into the queue (log entry 1). -/
def Obligations.QueueOnlyShrinks : Prop := ∀ s t : State, step s = .next t → t.pending = s.pending.tail

/-- The memory keeps its canonical form: addresses rise strictly and no listed byte is what an unlisted one reads as. -/
def Obligations.MemoryStaysCanonical : Prop :=
  ∀ s t : State, Memory.wf s.mem → step s = .next t → Memory.wf t.mem

/-! ### Statements of several parts -/

/-- A step runs the front command, and every command completes: StepRunsFront, NothingStops. -/
def Obligations.StepRunsFront : Prop := Sys2Proof.Claims.StepRunsFront ∧ Sys2Proof.Claims.NothingStops

/-- FWAIT, FSET, FADD, QPOPI, QDROP and QPUSHI: FlagWaits, FlagWrites, IntegerQueueOps. -/
def Obligations.QueuesAndFlags : Prop := Sys2Proof.Claims.FlagWaits ∧ Sys2Proof.Claims.FlagWrites ∧ Sys2Proof.Claims.IntegerQueueOps

/-- BRK, undefined opcodes and absent slots halt a context: Breakpoint, BadWordsHalt. -/
def Obligations.HaltsAtIssue : Prop := Sys2Proof.Claims.Breakpoint ∧ Sys2Proof.Claims.BadWordsHalt

/-- Layer marks and replay ranges: LayerMarks, Replays. -/
def Obligations.MarksAndReplays : Prop := Sys2Proof.Claims.LayerMarks ∧ Sys2Proof.Claims.Replays

/-- Sweeps, coordinates and drains, and the passing of an engine: MatrixOps, EnginePasses. -/
def Obligations.MatrixPath : Prop := Sys2Proof.Claims.MatrixOps ∧ Sys2Proof.Claims.EnginePasses

/-- The lanes that the VA and VX slots write: VectorArithmetic, VectorSelects. -/
def Obligations.VectorValues : Prop := Sys2Proof.Claims.VectorArithmetic ∧ Sys2Proof.Claims.VectorSelects

/-- Conversions, loads, stores and queue entries of V registers: VectorConvert, VectorMoves. -/
def Obligations.VectorTransfers : Prop := Sys2Proof.Claims.VectorConvert ∧ Sys2Proof.Claims.VectorMoves

/-- The scalar ALU and the scalar moves: ScalarAlu, ScalarMoves. -/
def Obligations.ScalarOps : Prop := Sys2Proof.Claims.ScalarAlu ∧ Sys2Proof.Claims.ScalarMoves

/-- Juggler descriptors, runs, loads, stores and moves: StreamDescriptors, StreamRuns, DeviceOps. -/
def Obligations.Streams : Prop := Sys2Proof.Claims.StreamDescriptors ∧ Sys2Proof.Claims.StreamRuns ∧ Sys2Proof.Claims.DeviceOps

/-- Results commit at the end of their cycle: OneResultCommits, LaterResultStands. -/
def Obligations.Commits : Prop := Sys2Proof.Claims.OneResultCommits ∧ Sys2Proof.Claims.LaterResultStands

/-- How a context starts, halts and comes to rest: ContextsComeToRest, ContextControl. -/
def Obligations.ContextStates : Prop := Sys2Proof.Claims.ContextsComeToRest ∧ Sys2Proof.Claims.ContextControl

/-- Core registers, and flags and entries from outside: CoreRegisters, FlagsAndPushesFromOutside. -/
def Obligations.CoreAccess : Prop := Sys2Proof.Claims.CoreRegisters ∧ Sys2Proof.Claims.FlagsAndPushesFromOutside

/-- Rank updates accumulate and drained rows are stored: RankUpdates, DrainedRows. -/
def Obligations.OuterProducts : Prop := Sys2Proof.Claims.RankUpdates ∧ Sys2Proof.Claims.DrainedRows

/-- Replies to tile requests and responses to JG.LD: TileReplies, LoadResponses. -/
def Obligations.TileTraffic : Prop := Sys2Proof.Claims.TileReplies ∧ Sys2Proof.Claims.LoadResponses

/-- Tiles are delivered in order, or fault: TilesDelivered, TilesNotified, TileFaults. -/
def Obligations.TileDelivery : Prop := Sys2Proof.Claims.TilesDelivered ∧ Sys2Proof.Claims.TilesNotified ∧ Sys2Proof.Claims.TileFaults

/-- Moves of tiles, the Stash and its registers: Moves, StashMoves, StashRegisters. -/
def Obligations.MovesAndStashSpace : Prop := Sys2Proof.Claims.Moves ∧ Sys2Proof.Claims.StashMoves ∧ Sys2Proof.Claims.StashRegisters

/-- Stores to a Stash, atomic additions and peeks: StashStores, AtomicsAndPeeks. -/
def Obligations.StashAndAtomics : Prop := Sys2Proof.Claims.StashStores ∧ Sys2Proof.Claims.AtomicsAndPeeks

/-- Reads, writes, scrubbing and repairs of HBM: HbmReads, HbmWrites, HbmRepairs. -/
def Obligations.HbmAccess : Prop := Sys2Proof.Claims.HbmReads ∧ Sys2Proof.Claims.HbmWrites ∧ Sys2Proof.Claims.HbmRepairs

/-- Hands and the carousel's tables: Hands, CarouselTables. -/
def Obligations.HandsAndTables : Prop := Sys2Proof.Claims.Hands ∧ Sys2Proof.Claims.CarouselTables

/-- Frames at a hop, and pulls: CarouselHops, CarouselPulls. -/
def Obligations.CarouselTransfers : Prop := Sys2Proof.Claims.CarouselHops ∧ Sys2Proof.Claims.CarouselPulls

/-- Mirror and Loupe checks, and the unit history ledger: NumericsChecks, LedgerRecords. -/
def Obligations.NumericsAndLedger : Prop := Sys2Proof.Claims.NumericsChecks ∧ Sys2Proof.Claims.LedgerRecords

/-- The mesh, its crossings and the clocks: Mesh, Clocks. -/
def Obligations.FabricAndClocks : Prop := Sys2Proof.Claims.Mesh ∧ Sys2Proof.Claims.Clocks

/-- Interrupt sources, claims and deliveries: ClusterInterrupts, LicSources, LicDeliveries. -/
def Obligations.Interrupts : Prop := Sys2Proof.Claims.ClusterInterrupts ∧ Sys2Proof.Claims.LicSources ∧ Sys2Proof.Claims.LicDeliveries

/-- Registers of a page, and accesses that do not reach them: PageRegisters, RefusedAccesses. -/
def Obligations.Pages : Prop := Sys2Proof.Claims.PageRegisters ∧ Sys2Proof.Claims.RefusedAccesses

/-- Management requests: MgtChunks, MgtFirmware, MgtContainment. -/
def Obligations.Management : Prop := Sys2Proof.Claims.MgtChunks ∧ Sys2Proof.Claims.MgtFirmware ∧ Sys2Proof.Claims.MgtContainment

/-- Alarms, the service port and Periscope: Alarms, ServicePort. -/
def Obligations.AlarmsAndService : Prop := Sys2Proof.Claims.Alarms ∧ Sys2Proof.Claims.ServicePort

/-- Removal, from the button to SAFE: RemovalStarts, RemovalEnds. -/
def Obligations.Removal : Prop := Sys2Proof.Claims.RemovalStarts ∧ Sys2Proof.Claims.RemovalEnds

/-- Power inputs, bring-up and the power cap: PowerInputs, BringUp, PowerCap. -/
def Obligations.Power : Prop := Sys2Proof.Claims.PowerInputs ∧ Sys2Proof.Claims.BringUp ∧ Sys2Proof.Claims.PowerCap

/-- Spares, retirement, sleep and wake: Spares, SleepAndWake. -/
def Obligations.SparesAndSleep : Prop := Sys2Proof.Claims.Spares ∧ Sys2Proof.Claims.SleepAndWake
end

