-- ==== Sys2Proof/Laws/Memory.lean ====
section
/-! SUPPORT. Byte memories: a read after a write, and the canonical form, which every memory operation keeps. -/

namespace Sys2Proof.Machine

/-! ### Reads after writes -/

theorem Mem.get_filter (m : List (Nat × Byte)) (p : Nat → Bool) (a : Nat) :
    Mem.get (m.filter (fun q => p q.1)) a = if p a = true then Mem.get m a else 0 := by
  induction m with
  | nil => simp [Mem.get]
  | cons q r ih =>
    obtain ⟨b, v⟩ := q
    by_cases hab : a = b
    · subst hab; simp only [List.filter]; split <;> simp_all [Mem.get]
    · simp only [List.filter]; split <;> simp_all [Mem.get]

theorem Mem.get_insert (m : List (Nat × Byte)) (a : Nat) (v : Byte) (b : Nat) :
    Mem.get (Mem.insert m a v) b = if b = a then v else Mem.get m b := by
  induction m with
  | nil => simp [Mem.insert, Mem.get]
  | cons q r ih =>
    obtain ⟨c, w⟩ := q
    simp only [Mem.insert]
    split
    · simp only [Mem.get]
    · split
      · subst_vars; simp only [Mem.get]; split <;> simp_all
      · simp only [Mem.get, ih]; split <;> split <;> simp_all

/-- A write sets its byte and leaves every other byte as it was. -/
theorem Mem.get_set (m : List (Nat × Byte)) (a : Nat) (v : Byte) (b : Nat) :
    Mem.get (Mem.set m a v) b = if b = a then v else Mem.get m b := by
  unfold Mem.set
  split
  · rw [Mem.get_filter m (fun c => decide (c ≠ a))]; by_cases h : b = a <;> simp_all
  · exact Mem.get_insert m a v b

@[simp] theorem Mem.get_set_self (m : List (Nat × Byte)) (a : Nat) (v : Byte) : Mem.get (Mem.set m a v) a = v := by
  simp [Mem.get_set]

theorem Mem.get_set_ne (m : List (Nat × Byte)) {a b : Nat} (v : Byte) (h : b ≠ a) : Mem.get (Mem.set m a v) b = Mem.get m b := by
  simp [Mem.get_set, h]

/-- A wide write leaves every byte outside it as it was. -/
theorem Mem.get_write_outside (n : Nat) : ∀ (m : List (Nat × Byte)) (a v b : Nat), (b < a ∨ a + n ≤ b) →
    Mem.get (Mem.write m a n v) b = Mem.get m b := by
  induction n with
  | zero => intros; rfl
  | succ n ih =>
    intro m a v b h
    rw [Mem.write, ih _ _ _ _ (by omega), Mem.get_set_ne _ _ (by omega)]

/-- Byte `i` of a wide write. -/
theorem Mem.get_write_inside (n : Nat) : ∀ (m : List (Nat × Byte)) (a v i : Nat), i < n →
    Mem.get (Mem.write m a n v) (a + i) = BitVec.ofNat 8 (v / 256 ^ i) := by
  induction n with
  | zero => omega
  | succ n ih =>
    intro m a v i h
    rw [Mem.write]
    cases i with
    | zero => rw [Mem.get_write_outside _ _ _ _ _ (by omega)]; simp
    | succ i =>
      rw [show a + (i + 1) = a + 1 + i by omega, ih _ _ _ _ (by omega), Nat.div_div_eq_div_mul, Nat.pow_succ, Nat.mul_comm]

/-- Reads depend on the bytes read alone. -/
theorem Mem.read_congr (n : Nat) : ∀ (m k : List (Nat × Byte)) (a : Nat), (∀ i, i < n → Mem.get m (a + i) = Mem.get k (a + i)) →
    Mem.read m a n = Mem.read k a n := by
  induction n with
  | zero => intros; rfl
  | succ n ih =>
    intro m k a h
    have h0 := h 0 (by omega)
    rw [Nat.add_zero] at h0
    rw [Mem.read, Mem.read, h0, ih m k (a + 1)]
    intro i hi
    rw [show a + 1 + i = a + (i + 1) by omega]
    exact h _ (by omega)

/-- A wide read of what a wide write wrote. -/
theorem Mem.read_write (n : Nat) : ∀ (m : List (Nat × Byte)) (a v : Nat), Mem.read (Mem.write m a n v) a n = v % 256 ^ n := by
  induction n with
  | zero => intros; simp [Mem.read, Nat.mod_one]
  | succ n ih =>
    intro m a v
    rw [Mem.write, Mem.read, ih, Mem.get_write_outside _ _ _ _ _ (by omega), Mem.get_set_self]
    rw [BitVec.toNat_ofNat, show 256 ^ (n + 1) = 256 * 256 ^ n from Nat.pow_succ', Nat.mod_mul]

/-- A canonical memory reads as the list that it stands for. -/
theorem Mem.get_canon (l : List (Nat × Byte)) (a : Nat) : Mem.get (Mem.canon l) a = Mem.get l a := by
  induction l with
  | nil => rfl
  | cons p r ih => obtain ⟨b, v⟩ := p; simp only [Mem.canon, List.foldr] at ih ⊢; rw [Mem.get_set, ih]; rfl

/-! ### The canonical form -/

theorem Mem.wf_nil : Mem.wf [] := ⟨List.Pairwise.nil, by simp⟩

theorem Mem.wf_filter {m : List (Nat × Byte)} (p : Nat × Byte → Bool) (h : Mem.wf m) : Mem.wf (m.filter p) :=
  ⟨h.1.sublist List.filter_sublist, fun q hq => h.2 q (List.mem_of_mem_filter hq)⟩

theorem Mem.mem_insert {m : List (Nat × Byte)} {a : Nat} {v : Byte} {q : Nat × Byte} (h : q ∈ Mem.insert m a v) : q = (a, v) ∨ q ∈ m := by
  induction m with
  | nil => simpa [Mem.insert] using h
  | cons p r ih =>
    obtain ⟨b, w⟩ := p
    simp only [Mem.insert] at h
    split at h
    · simpa using h
    · split at h
      · rcases List.mem_cons.mp h with h | h
        · exact .inl h
        · exact .inr (List.mem_cons_of_mem _ h)
      · rcases List.mem_cons.mp h with h | h
        · exact .inr (by simp [h])
        · rcases ih h with h | h
          · exact .inl h
          · exact .inr (List.mem_cons_of_mem _ h)

theorem Mem.wf_insert {m : List (Nat × Byte)} (a : Nat) {v : Byte} (hv : v ≠ 0) (h : Mem.wf m) : Mem.wf (Mem.insert m a v) := by
  induction m with
  | nil => exact ⟨by simp [Mem.insert], by simpa [Mem.insert] using hv⟩
  | cons p r ih =>
    obtain ⟨b, w⟩ := p
    have hb : ∀ q ∈ r, b < q.1 := fun q hq => (List.pairwise_cons.mp h.1).1 q hq
    have hr : Mem.wf r := ⟨(List.pairwise_cons.mp h.1).2, fun q hq => h.2 q (List.mem_cons_of_mem _ hq)⟩
    simp only [Mem.insert]
    split
    · rename_i hab
      refine ⟨List.pairwise_cons.mpr ⟨fun q hq => ?_, h.1⟩, fun q hq => ?_⟩
      · rcases List.mem_cons.mp hq with rfl | hq
        · exact hab
        · exact Nat.lt_trans hab (hb q hq)
      · rcases List.mem_cons.mp hq with rfl | hq
        · exact hv
        · exact h.2 q hq
    · split
      · subst_vars
        refine ⟨List.pairwise_cons.mpr ⟨hb, hr.1⟩, fun q hq => ?_⟩
        rcases List.mem_cons.mp hq with rfl | hq
        · exact hv
        · exact hr.2 q hq
      · have hi := ih hr
        refine ⟨List.pairwise_cons.mpr ⟨fun q hq => ?_, hi.1⟩, fun q hq => ?_⟩
        · rcases Mem.mem_insert hq with rfl | hq
          · show b < a; omega
          · exact hb q hq
        · rcases List.mem_cons.mp hq with rfl | hq
          · exact h.2 _ List.mem_cons_self
          · exact hi.2 q hq

theorem Mem.wf_set {m : List (Nat × Byte)} (a : Nat) (v : Byte) (h : Mem.wf m) : Mem.wf (Mem.set m a v) := by
  unfold Mem.set
  split
  · exact Mem.wf_filter _ h
  · exact Mem.wf_insert a ‹_› h

theorem Mem.wf_write (n : Nat) : ∀ {m : List (Nat × Byte)} (a v : Nat), Mem.wf m → Mem.wf (Mem.write m a n v) := by
  induction n with
  | zero => exact fun _ _ h => h
  | succ n ih => exact fun a v h => ih _ _ (Mem.wf_set _ _ h)

theorem Mem.wf_writeMod (size n : Nat) : ∀ {m : List (Nat × Byte)} (a v : Nat), Mem.wf m → Mem.wf (Mem.writeMod m size a n v) := by
  induction n with
  | zero => exact fun _ _ h => h
  | succ n ih => exact fun a v h => ih _ _ (Mem.wf_set _ _ h)

theorem Mem.wf_canon (l : List (Nat × Byte)) : Mem.wf (Mem.canon l) := by
  induction l with
  | nil => exact Mem.wf_nil
  | cons p r ih => exact Mem.wf_set _ _ ih

theorem Mem.wf_slice (m : List (Nat × Byte)) (b n a : Nat) : Mem.wf (Mem.slice m b n a) := Mem.wf_canon _

/-- A listed byte of a canonical memory reads as listed. -/
theorem Mem.get_mem {m : List (Nat × Byte)} (h : Mem.wf m) {q : Nat × Byte} (hq : q ∈ m) : Mem.get m q.1 = q.2 := by
  induction m with
  | nil => simp at hq
  | cons p r ih =>
    have hr : Mem.wf r := ⟨(List.pairwise_cons.mp h.1).2, fun q hq => h.2 q (List.mem_cons_of_mem _ hq)⟩
    rcases List.mem_cons.mp hq with rfl | hq
    · simp [Mem.get]
    · have := (List.pairwise_cons.mp h.1).1 q hq
      simp only [Mem.get]
      rw [if_neg (by omega)]
      exact ih hr hq

/-- A byte that reads as other than 0 is listed. -/
theorem Mem.mem_of_get {m : List (Nat × Byte)} {a : Nat} (h : Mem.get m a ≠ 0) : ∃ q ∈ m, q.1 = a := by
  induction m with
  | nil => exact absurd rfl h
  | cons p r ih =>
    simp only [Mem.get] at h
    split at h
    · exact ⟨p, List.mem_cons_self, by simp_all⟩
    · obtain ⟨q, hq, e⟩ := ih h
      exact ⟨q, List.mem_cons_of_mem _ hq, e⟩

/-- The addresses of a slice are those of its range. -/
theorem Mem.slice_range {m : List (Nat × Byte)} {b n a : Nat} {q : Nat × Byte} (hq : q ∈ Mem.slice m b n a) : a ≤ q.1 ∧ q.1 < a + n := by
  have hv := (Mem.wf_slice m b n a).2 q hq
  have hg := Mem.get_mem (Mem.wf_slice m b n a) hq
  rw [Mem.slice, Mem.get_canon] at hg
  obtain ⟨p, hp, e⟩ := Mem.mem_of_get (by rw [hg]; exact hv)
  obtain ⟨x, hx, rfl⟩ := List.mem_map.mp hp
  have := (List.mem_filter.mp hx).2
  simp only [decide_eq_true_eq] at this e
  omega

theorem Mem.wf_append {l r : List (Nat × Byte)} (hl : Mem.wf l) (hr : Mem.wf r) (h : ∀ p ∈ l, ∀ q ∈ r, p.1 < q.1) : Mem.wf (l ++ r) :=
  ⟨List.pairwise_append.mpr ⟨hl.1, hr.1, h⟩, fun q hq => (List.mem_append.mp hq).elim (hl.2 q) (hr.2 q)⟩

theorem Mem.wf_copy {m : List (Nat × Byte)} (a n : Nat) (src : List (Nat × Byte)) (b : Nat) (h : Mem.wf m) :
    Mem.wf (Mem.copy m a n src b) := by
  refine Mem.wf_append (Mem.wf_append (Mem.wf_filter _ h) (Mem.wf_slice _ _ _ _) ?_) (Mem.wf_filter _ h) ?_
  · intro p hp q hq
    have h1 := (List.mem_filter.mp hp).2
    have h2 := Mem.slice_range hq
    simp only [decide_eq_true_eq] at h1
    omega
  · intro p hp q hq
    have h2 := (List.mem_filter.mp hq).2
    simp only [decide_eq_true_eq] at h2
    rcases List.mem_append.mp hp with hp | hp
    · have h1 := (List.mem_filter.mp hp).2
      simp only [decide_eq_true_eq] at h1
      omega
    · have := Mem.slice_range hp
      omega

theorem Memory.wf_reset : Memory.wf State.reset.mem := Mem.wf_nil

end Sys2Proof.Machine
end

