-- ==== Sys2Proof/Laws/Tables.lean ====
section
/-! SUPPORT. Sparse tables and sets: what a key holds after a write or a removal, whatever the order of the list. -/

namespace Sys2Proof.Machine

@[simp] theorem SMap.get_nil {α : Type} (k : Nat) : SMap.get ([] : SMap α) k = none := rfl

/-- A write sets its key and leaves every other key as it was. -/
theorem SMap.get_set {α : Type} (m : SMap α) (k : Nat) (v : α) (j : Nat) :
    SMap.get (SMap.set m k v) j = if j = k then some v else SMap.get m j := by
  induction m with
  | nil => simp [SMap.set, SMap.get]
  | cons p r ih =>
    obtain ⟨i, w⟩ := p
    simp only [SMap.set]
    split
    · simp only [SMap.get]
    · split
      · subst_vars; simp only [SMap.get]; split <;> simp_all
      · simp only [SMap.get, ih]; split <;> split <;> simp_all

@[simp] theorem SMap.get_set_self {α : Type} (m : SMap α) (k : Nat) (v : α) : SMap.get (SMap.set m k v) k = some v := by
  simp [SMap.get_set]

theorem SMap.get_set_ne {α : Type} (m : SMap α) {k j : Nat} (v : α) (h : j ≠ k) : SMap.get (SMap.set m k v) j = SMap.get m j := by
  simp [SMap.get_set, h]

/-- The same with a default. -/
theorem SMap.getD_set {α : Type} (m : SMap α) (d : α) (k : Nat) (v : α) (j : Nat) :
    SMap.getD (SMap.set m k v) d j = if j = k then v else SMap.getD m d j := by
  simp only [SMap.getD, SMap.get_set]; split <;> rfl

@[simp] theorem SMap.getD_set_self {α : Type} (m : SMap α) (d : α) (k : Nat) (v : α) : SMap.getD (SMap.set m k v) d k = v := by
  simp [SMap.getD_set]

theorem SMap.getD_set_ne {α : Type} (m : SMap α) (d : α) {k j : Nat} (v : α) (h : j ≠ k) :
    SMap.getD (SMap.set m k v) d j = SMap.getD m d j := by
  simp [SMap.getD_set, h]

/-- A removal empties its key and leaves every other key as it was. -/
theorem SMap.get_del {α : Type} (m : SMap α) (k j : Nat) : SMap.get (SMap.del m k) j = if j = k then none else SMap.get m j := by
  induction m with
  | nil => simp [SMap.del, SMap.get]
  | cons p r ih =>
    obtain ⟨i, w⟩ := p
    unfold SMap.del at ih ⊢
    by_cases h : i = k
    · subst h; simp only [List.filter, ne_eq, not_true_eq_false, decide_false, ih, SMap.get]; split <;> rfl
    · simp only [List.filter, ne_eq, h, not_false_eq_true, decide_true, SMap.get, ih]
      split
      · subst_vars; simp [h]
      · rfl

@[simp] theorem SMap.get_del_self {α : Type} (m : SMap α) (k : Nat) : SMap.get (SMap.del m k) k = none := by simp [SMap.get_del]

theorem NSet.contains_insert (s : NSet) (n m : Nat) : (NSet.insert s n).contains m = (decide (m = n) || s.contains m) := by
  unfold NSet.insert
  split
  · simp_all
  · simp_all

theorem NSet.contains_erase (s : NSet) (n m : Nat) : (NSet.erase s n).contains m = (decide (m ≠ n) && s.contains m) := by
  unfold NSet.erase
  rw [Bool.eq_iff_iff]
  simp [and_comm]

end Sys2Proof.Machine
end

