-- ==== Sys2Proof/Laws/State.lean ====
section
/-! SUPPORT. What each named update leaves as it was: one lemma per field of State; and what the accessor of an update answers after it. -/

namespace Sys2Proof.Machine

variable (s : State)

/-! ### State.setReg -/

@[simp] theorem State.setReg_pending (p : Page) (off : Nat) (v : Word) : (s.setReg p off v).pending = s.pending := rfl
@[simp] theorem State.setReg_tick (p : Page) (off : Nat) (v : Word) : (s.setReg p off v).tick = s.tick := rfl
@[simp] theorem State.setReg_fresh (p : Page) (off : Nat) (v : Word) : (s.setReg p off v).fresh = s.fresh := rfl
@[simp] theorem State.setReg_staged (p : Page) (off : Nat) (v : Word) : (s.setReg p off v).staged = s.staged := rfl
@[simp] theorem State.setReg_counters (p : Page) (off : Nat) (v : Word) : (s.setReg p off v).counters = s.counters := rfl
@[simp] theorem State.setReg_logs (p : Page) (off : Nat) (v : Word) : (s.setReg p off v).logs = s.logs := rfl
@[simp] theorem State.setReg_snaps (p : Page) (off : Nat) (v : Word) : (s.setReg p off v).snaps = s.snaps := rfl
@[simp] theorem State.setReg_cores (p : Page) (off : Nat) (v : Word) : (s.setReg p off v).cores = s.cores := rfl
@[simp] theorem State.setReg_opes (p : Page) (off : Nat) (v : Word) : (s.setReg p off v).opes = s.opes := rfl
@[simp] theorem State.setReg_mem (p : Page) (off : Nat) (v : Word) : (s.setReg p off v).mem = s.mem := rfl
@[simp] theorem State.setReg_retireDue (p : Page) (off : Nat) (v : Word) : (s.setReg p off v).retireDue = s.retireDue := rfl
@[simp] theorem State.setReg_rowEngines (p : Page) (off : Nat) (v : Word) : (s.setReg p off v).rowEngines = s.rowEngines := rfl
@[simp] theorem State.setReg_numIn (p : Page) (off : Nat) (v : Word) : (s.setReg p off v).numIn = s.numIn := rfl
@[simp] theorem State.setReg_step (p : Page) (off : Nat) (v : Word) : (s.setReg p off v).step = s.step := rfl
@[simp] theorem State.setReg_net (p : Page) (off : Nat) (v : Word) : (s.setReg p off v).net = s.net := rfl
@[simp] theorem State.setReg_crs (p : Page) (off : Nat) (v : Word) : (s.setReg p off v).crs = s.crs := rfl
@[simp] theorem State.setReg_upd (p : Page) (off : Nat) (v : Word) : (s.setReg p off v).upd = s.upd := rfl
@[simp] theorem State.setReg_num (p : Page) (off : Nat) (v : Word) : (s.setReg p off v).num = s.num := rfl
@[simp] theorem State.setReg_ledger (p : Page) (off : Nat) (v : Word) : (s.setReg p off v).ledger = s.ledger := rfl
@[simp] theorem State.setReg_fab (p : Page) (off : Nat) (v : Word) : (s.setReg p off v).fab = s.fab := rfl
@[simp] theorem State.setReg_irq (p : Page) (off : Nat) (v : Word) : (s.setReg p off v).irq = s.irq := rfl
@[simp] theorem State.setReg_cont (p : Page) (off : Nat) (v : Word) : (s.setReg p off v).cont = s.cont := rfl
@[simp] theorem State.setReg_sec (p : Page) (off : Nat) (v : Word) : (s.setReg p off v).sec = s.sec := rfl
@[simp] theorem State.setReg_flash (p : Page) (off : Nat) (v : Word) : (s.setReg p off v).flash = s.flash := rfl
@[simp] theorem State.setReg_power (p : Page) (off : Nat) (v : Word) : (s.setReg p off v).power = s.power := rfl

/-! ### State.setRegN -/

@[simp] theorem State.setRegN_pending (p : Page) (off v : Nat) : (s.setRegN p off v).pending = s.pending := rfl
@[simp] theorem State.setRegN_tick (p : Page) (off v : Nat) : (s.setRegN p off v).tick = s.tick := rfl
@[simp] theorem State.setRegN_fresh (p : Page) (off v : Nat) : (s.setRegN p off v).fresh = s.fresh := rfl
@[simp] theorem State.setRegN_staged (p : Page) (off v : Nat) : (s.setRegN p off v).staged = s.staged := rfl
@[simp] theorem State.setRegN_counters (p : Page) (off v : Nat) : (s.setRegN p off v).counters = s.counters := rfl
@[simp] theorem State.setRegN_logs (p : Page) (off v : Nat) : (s.setRegN p off v).logs = s.logs := rfl
@[simp] theorem State.setRegN_snaps (p : Page) (off v : Nat) : (s.setRegN p off v).snaps = s.snaps := rfl
@[simp] theorem State.setRegN_cores (p : Page) (off v : Nat) : (s.setRegN p off v).cores = s.cores := rfl
@[simp] theorem State.setRegN_opes (p : Page) (off v : Nat) : (s.setRegN p off v).opes = s.opes := rfl
@[simp] theorem State.setRegN_mem (p : Page) (off v : Nat) : (s.setRegN p off v).mem = s.mem := rfl
@[simp] theorem State.setRegN_retireDue (p : Page) (off v : Nat) : (s.setRegN p off v).retireDue = s.retireDue := rfl
@[simp] theorem State.setRegN_rowEngines (p : Page) (off v : Nat) : (s.setRegN p off v).rowEngines = s.rowEngines := rfl
@[simp] theorem State.setRegN_numIn (p : Page) (off v : Nat) : (s.setRegN p off v).numIn = s.numIn := rfl
@[simp] theorem State.setRegN_step (p : Page) (off v : Nat) : (s.setRegN p off v).step = s.step := rfl
@[simp] theorem State.setRegN_net (p : Page) (off v : Nat) : (s.setRegN p off v).net = s.net := rfl
@[simp] theorem State.setRegN_crs (p : Page) (off v : Nat) : (s.setRegN p off v).crs = s.crs := rfl
@[simp] theorem State.setRegN_upd (p : Page) (off v : Nat) : (s.setRegN p off v).upd = s.upd := rfl
@[simp] theorem State.setRegN_num (p : Page) (off v : Nat) : (s.setRegN p off v).num = s.num := rfl
@[simp] theorem State.setRegN_ledger (p : Page) (off v : Nat) : (s.setRegN p off v).ledger = s.ledger := rfl
@[simp] theorem State.setRegN_fab (p : Page) (off v : Nat) : (s.setRegN p off v).fab = s.fab := rfl
@[simp] theorem State.setRegN_irq (p : Page) (off v : Nat) : (s.setRegN p off v).irq = s.irq := rfl
@[simp] theorem State.setRegN_cont (p : Page) (off v : Nat) : (s.setRegN p off v).cont = s.cont := rfl
@[simp] theorem State.setRegN_sec (p : Page) (off v : Nat) : (s.setRegN p off v).sec = s.sec := rfl
@[simp] theorem State.setRegN_flash (p : Page) (off v : Nat) : (s.setRegN p off v).flash = s.flash := rfl
@[simp] theorem State.setRegN_power (p : Page) (off v : Nat) : (s.setRegN p off v).power = s.power := rfl

/-! ### State.setField -/

@[simp] theorem State.setField_pending (p : Page) (off lo w v : Nat) : (s.setField p off lo w v).pending = s.pending := rfl
@[simp] theorem State.setField_tick (p : Page) (off lo w v : Nat) : (s.setField p off lo w v).tick = s.tick := rfl
@[simp] theorem State.setField_fresh (p : Page) (off lo w v : Nat) : (s.setField p off lo w v).fresh = s.fresh := rfl
@[simp] theorem State.setField_staged (p : Page) (off lo w v : Nat) : (s.setField p off lo w v).staged = s.staged := rfl
@[simp] theorem State.setField_counters (p : Page) (off lo w v : Nat) : (s.setField p off lo w v).counters = s.counters := rfl
@[simp] theorem State.setField_logs (p : Page) (off lo w v : Nat) : (s.setField p off lo w v).logs = s.logs := rfl
@[simp] theorem State.setField_snaps (p : Page) (off lo w v : Nat) : (s.setField p off lo w v).snaps = s.snaps := rfl
@[simp] theorem State.setField_cores (p : Page) (off lo w v : Nat) : (s.setField p off lo w v).cores = s.cores := rfl
@[simp] theorem State.setField_opes (p : Page) (off lo w v : Nat) : (s.setField p off lo w v).opes = s.opes := rfl
@[simp] theorem State.setField_mem (p : Page) (off lo w v : Nat) : (s.setField p off lo w v).mem = s.mem := rfl
@[simp] theorem State.setField_retireDue (p : Page) (off lo w v : Nat) : (s.setField p off lo w v).retireDue = s.retireDue := rfl
@[simp] theorem State.setField_rowEngines (p : Page) (off lo w v : Nat) : (s.setField p off lo w v).rowEngines = s.rowEngines := rfl
@[simp] theorem State.setField_numIn (p : Page) (off lo w v : Nat) : (s.setField p off lo w v).numIn = s.numIn := rfl
@[simp] theorem State.setField_step (p : Page) (off lo w v : Nat) : (s.setField p off lo w v).step = s.step := rfl
@[simp] theorem State.setField_net (p : Page) (off lo w v : Nat) : (s.setField p off lo w v).net = s.net := rfl
@[simp] theorem State.setField_crs (p : Page) (off lo w v : Nat) : (s.setField p off lo w v).crs = s.crs := rfl
@[simp] theorem State.setField_upd (p : Page) (off lo w v : Nat) : (s.setField p off lo w v).upd = s.upd := rfl
@[simp] theorem State.setField_num (p : Page) (off lo w v : Nat) : (s.setField p off lo w v).num = s.num := rfl
@[simp] theorem State.setField_ledger (p : Page) (off lo w v : Nat) : (s.setField p off lo w v).ledger = s.ledger := rfl
@[simp] theorem State.setField_fab (p : Page) (off lo w v : Nat) : (s.setField p off lo w v).fab = s.fab := rfl
@[simp] theorem State.setField_irq (p : Page) (off lo w v : Nat) : (s.setField p off lo w v).irq = s.irq := rfl
@[simp] theorem State.setField_cont (p : Page) (off lo w v : Nat) : (s.setField p off lo w v).cont = s.cont := rfl
@[simp] theorem State.setField_sec (p : Page) (off lo w v : Nat) : (s.setField p off lo w v).sec = s.sec := rfl
@[simp] theorem State.setField_flash (p : Page) (off lo w v : Nat) : (s.setField p off lo w v).flash = s.flash := rfl
@[simp] theorem State.setField_power (p : Page) (off lo w v : Nat) : (s.setField p off lo w v).power = s.power := rfl

/-! ### State.setStage -/

@[simp] theorem State.setStage_pending (p : Page) (off : Nat) (v : Word) : (s.setStage p off v).pending = s.pending := rfl
@[simp] theorem State.setStage_tick (p : Page) (off : Nat) (v : Word) : (s.setStage p off v).tick = s.tick := rfl
@[simp] theorem State.setStage_fresh (p : Page) (off : Nat) (v : Word) : (s.setStage p off v).fresh = s.fresh := rfl
@[simp] theorem State.setStage_regs (p : Page) (off : Nat) (v : Word) : (s.setStage p off v).regs = s.regs := rfl
@[simp] theorem State.setStage_counters (p : Page) (off : Nat) (v : Word) : (s.setStage p off v).counters = s.counters := rfl
@[simp] theorem State.setStage_logs (p : Page) (off : Nat) (v : Word) : (s.setStage p off v).logs = s.logs := rfl
@[simp] theorem State.setStage_snaps (p : Page) (off : Nat) (v : Word) : (s.setStage p off v).snaps = s.snaps := rfl
@[simp] theorem State.setStage_cores (p : Page) (off : Nat) (v : Word) : (s.setStage p off v).cores = s.cores := rfl
@[simp] theorem State.setStage_opes (p : Page) (off : Nat) (v : Word) : (s.setStage p off v).opes = s.opes := rfl
@[simp] theorem State.setStage_mem (p : Page) (off : Nat) (v : Word) : (s.setStage p off v).mem = s.mem := rfl
@[simp] theorem State.setStage_retireDue (p : Page) (off : Nat) (v : Word) : (s.setStage p off v).retireDue = s.retireDue := rfl
@[simp] theorem State.setStage_rowEngines (p : Page) (off : Nat) (v : Word) : (s.setStage p off v).rowEngines = s.rowEngines := rfl
@[simp] theorem State.setStage_numIn (p : Page) (off : Nat) (v : Word) : (s.setStage p off v).numIn = s.numIn := rfl
@[simp] theorem State.setStage_step (p : Page) (off : Nat) (v : Word) : (s.setStage p off v).step = s.step := rfl
@[simp] theorem State.setStage_net (p : Page) (off : Nat) (v : Word) : (s.setStage p off v).net = s.net := rfl
@[simp] theorem State.setStage_crs (p : Page) (off : Nat) (v : Word) : (s.setStage p off v).crs = s.crs := rfl
@[simp] theorem State.setStage_upd (p : Page) (off : Nat) (v : Word) : (s.setStage p off v).upd = s.upd := rfl
@[simp] theorem State.setStage_num (p : Page) (off : Nat) (v : Word) : (s.setStage p off v).num = s.num := rfl
@[simp] theorem State.setStage_ledger (p : Page) (off : Nat) (v : Word) : (s.setStage p off v).ledger = s.ledger := rfl
@[simp] theorem State.setStage_fab (p : Page) (off : Nat) (v : Word) : (s.setStage p off v).fab = s.fab := rfl
@[simp] theorem State.setStage_irq (p : Page) (off : Nat) (v : Word) : (s.setStage p off v).irq = s.irq := rfl
@[simp] theorem State.setStage_cont (p : Page) (off : Nat) (v : Word) : (s.setStage p off v).cont = s.cont := rfl
@[simp] theorem State.setStage_sec (p : Page) (off : Nat) (v : Word) : (s.setStage p off v).sec = s.sec := rfl
@[simp] theorem State.setStage_flash (p : Page) (off : Nat) (v : Word) : (s.setStage p off v).flash = s.flash := rfl
@[simp] theorem State.setStage_power (p : Page) (off : Nat) (v : Word) : (s.setStage p off v).power = s.power := rfl

/-! ### State.raise -/

@[simp] theorem State.raise_pending (p : Page) (bit : Nat) : (s.raise p bit).pending = s.pending := rfl
@[simp] theorem State.raise_tick (p : Page) (bit : Nat) : (s.raise p bit).tick = s.tick := rfl
@[simp] theorem State.raise_fresh (p : Page) (bit : Nat) : (s.raise p bit).fresh = s.fresh := rfl
@[simp] theorem State.raise_staged (p : Page) (bit : Nat) : (s.raise p bit).staged = s.staged := rfl
@[simp] theorem State.raise_counters (p : Page) (bit : Nat) : (s.raise p bit).counters = s.counters := rfl
@[simp] theorem State.raise_logs (p : Page) (bit : Nat) : (s.raise p bit).logs = s.logs := rfl
@[simp] theorem State.raise_snaps (p : Page) (bit : Nat) : (s.raise p bit).snaps = s.snaps := rfl
@[simp] theorem State.raise_cores (p : Page) (bit : Nat) : (s.raise p bit).cores = s.cores := rfl
@[simp] theorem State.raise_opes (p : Page) (bit : Nat) : (s.raise p bit).opes = s.opes := rfl
@[simp] theorem State.raise_mem (p : Page) (bit : Nat) : (s.raise p bit).mem = s.mem := rfl
@[simp] theorem State.raise_retireDue (p : Page) (bit : Nat) : (s.raise p bit).retireDue = s.retireDue := rfl
@[simp] theorem State.raise_rowEngines (p : Page) (bit : Nat) : (s.raise p bit).rowEngines = s.rowEngines := rfl
@[simp] theorem State.raise_numIn (p : Page) (bit : Nat) : (s.raise p bit).numIn = s.numIn := rfl
@[simp] theorem State.raise_step (p : Page) (bit : Nat) : (s.raise p bit).step = s.step := rfl
@[simp] theorem State.raise_net (p : Page) (bit : Nat) : (s.raise p bit).net = s.net := rfl
@[simp] theorem State.raise_crs (p : Page) (bit : Nat) : (s.raise p bit).crs = s.crs := rfl
@[simp] theorem State.raise_upd (p : Page) (bit : Nat) : (s.raise p bit).upd = s.upd := rfl
@[simp] theorem State.raise_num (p : Page) (bit : Nat) : (s.raise p bit).num = s.num := rfl
@[simp] theorem State.raise_ledger (p : Page) (bit : Nat) : (s.raise p bit).ledger = s.ledger := rfl
@[simp] theorem State.raise_fab (p : Page) (bit : Nat) : (s.raise p bit).fab = s.fab := rfl
@[simp] theorem State.raise_irq (p : Page) (bit : Nat) : (s.raise p bit).irq = s.irq := rfl
@[simp] theorem State.raise_cont (p : Page) (bit : Nat) : (s.raise p bit).cont = s.cont := rfl
@[simp] theorem State.raise_sec (p : Page) (bit : Nat) : (s.raise p bit).sec = s.sec := rfl
@[simp] theorem State.raise_flash (p : Page) (bit : Nat) : (s.raise p bit).flash = s.flash := rfl
@[simp] theorem State.raise_power (p : Page) (bit : Nat) : (s.raise p bit).power = s.power := rfl

/-! ### State.record -/

@[simp] theorem State.record_pending (p : Page) (off v : Nat) : (s.record p off v).pending = s.pending := by unfold State.record; simp only; split <;> rfl
@[simp] theorem State.record_tick (p : Page) (off v : Nat) : (s.record p off v).tick = s.tick := by unfold State.record; simp only; split <;> rfl
@[simp] theorem State.record_fresh (p : Page) (off v : Nat) : (s.record p off v).fresh = s.fresh := by unfold State.record; simp only; split <;> rfl
@[simp] theorem State.record_staged (p : Page) (off v : Nat) : (s.record p off v).staged = s.staged := by unfold State.record; simp only; split <;> rfl
@[simp] theorem State.record_counters (p : Page) (off v : Nat) : (s.record p off v).counters = s.counters := by unfold State.record; simp only; split <;> rfl
@[simp] theorem State.record_logs (p : Page) (off v : Nat) : (s.record p off v).logs = s.logs := by unfold State.record; simp only; split <;> rfl
@[simp] theorem State.record_snaps (p : Page) (off v : Nat) : (s.record p off v).snaps = s.snaps := by unfold State.record; simp only; split <;> rfl
@[simp] theorem State.record_cores (p : Page) (off v : Nat) : (s.record p off v).cores = s.cores := by unfold State.record; simp only; split <;> rfl
@[simp] theorem State.record_opes (p : Page) (off v : Nat) : (s.record p off v).opes = s.opes := by unfold State.record; simp only; split <;> rfl
@[simp] theorem State.record_mem (p : Page) (off v : Nat) : (s.record p off v).mem = s.mem := by unfold State.record; simp only; split <;> rfl
@[simp] theorem State.record_retireDue (p : Page) (off v : Nat) : (s.record p off v).retireDue = s.retireDue := by unfold State.record; simp only; split <;> rfl
@[simp] theorem State.record_rowEngines (p : Page) (off v : Nat) : (s.record p off v).rowEngines = s.rowEngines := by unfold State.record; simp only; split <;> rfl
@[simp] theorem State.record_numIn (p : Page) (off v : Nat) : (s.record p off v).numIn = s.numIn := by unfold State.record; simp only; split <;> rfl
@[simp] theorem State.record_step (p : Page) (off v : Nat) : (s.record p off v).step = s.step := by unfold State.record; simp only; split <;> rfl
@[simp] theorem State.record_net (p : Page) (off v : Nat) : (s.record p off v).net = s.net := by unfold State.record; simp only; split <;> rfl
@[simp] theorem State.record_crs (p : Page) (off v : Nat) : (s.record p off v).crs = s.crs := by unfold State.record; simp only; split <;> rfl
@[simp] theorem State.record_upd (p : Page) (off v : Nat) : (s.record p off v).upd = s.upd := by unfold State.record; simp only; split <;> rfl
@[simp] theorem State.record_num (p : Page) (off v : Nat) : (s.record p off v).num = s.num := by unfold State.record; simp only; split <;> rfl
@[simp] theorem State.record_ledger (p : Page) (off v : Nat) : (s.record p off v).ledger = s.ledger := by unfold State.record; simp only; split <;> rfl
@[simp] theorem State.record_fab (p : Page) (off v : Nat) : (s.record p off v).fab = s.fab := by unfold State.record; simp only; split <;> rfl
@[simp] theorem State.record_irq (p : Page) (off v : Nat) : (s.record p off v).irq = s.irq := by unfold State.record; simp only; split <;> rfl
@[simp] theorem State.record_cont (p : Page) (off v : Nat) : (s.record p off v).cont = s.cont := by unfold State.record; simp only; split <;> rfl
@[simp] theorem State.record_sec (p : Page) (off v : Nat) : (s.record p off v).sec = s.sec := by unfold State.record; simp only; split <;> rfl
@[simp] theorem State.record_flash (p : Page) (off v : Nat) : (s.record p off v).flash = s.flash := by unfold State.record; simp only; split <;> rfl
@[simp] theorem State.record_power (p : Page) (off v : Nat) : (s.record p off v).power = s.power := by unfold State.record; simp only; split <;> rfl

/-! ### State.logWord -/

@[simp] theorem State.logWord_pending (p : Page) (e : Nat) : (s.logWord p e).pending = s.pending := rfl
@[simp] theorem State.logWord_tick (p : Page) (e : Nat) : (s.logWord p e).tick = s.tick := rfl
@[simp] theorem State.logWord_fresh (p : Page) (e : Nat) : (s.logWord p e).fresh = s.fresh := rfl
@[simp] theorem State.logWord_regs (p : Page) (e : Nat) : (s.logWord p e).regs = s.regs := rfl
@[simp] theorem State.logWord_staged (p : Page) (e : Nat) : (s.logWord p e).staged = s.staged := rfl
@[simp] theorem State.logWord_counters (p : Page) (e : Nat) : (s.logWord p e).counters = s.counters := rfl
@[simp] theorem State.logWord_snaps (p : Page) (e : Nat) : (s.logWord p e).snaps = s.snaps := rfl
@[simp] theorem State.logWord_cores (p : Page) (e : Nat) : (s.logWord p e).cores = s.cores := rfl
@[simp] theorem State.logWord_opes (p : Page) (e : Nat) : (s.logWord p e).opes = s.opes := rfl
@[simp] theorem State.logWord_mem (p : Page) (e : Nat) : (s.logWord p e).mem = s.mem := rfl
@[simp] theorem State.logWord_retireDue (p : Page) (e : Nat) : (s.logWord p e).retireDue = s.retireDue := rfl
@[simp] theorem State.logWord_rowEngines (p : Page) (e : Nat) : (s.logWord p e).rowEngines = s.rowEngines := rfl
@[simp] theorem State.logWord_numIn (p : Page) (e : Nat) : (s.logWord p e).numIn = s.numIn := rfl
@[simp] theorem State.logWord_step (p : Page) (e : Nat) : (s.logWord p e).step = s.step := rfl
@[simp] theorem State.logWord_net (p : Page) (e : Nat) : (s.logWord p e).net = s.net := rfl
@[simp] theorem State.logWord_crs (p : Page) (e : Nat) : (s.logWord p e).crs = s.crs := rfl
@[simp] theorem State.logWord_upd (p : Page) (e : Nat) : (s.logWord p e).upd = s.upd := rfl
@[simp] theorem State.logWord_num (p : Page) (e : Nat) : (s.logWord p e).num = s.num := rfl
@[simp] theorem State.logWord_ledger (p : Page) (e : Nat) : (s.logWord p e).ledger = s.ledger := rfl
@[simp] theorem State.logWord_fab (p : Page) (e : Nat) : (s.logWord p e).fab = s.fab := rfl
@[simp] theorem State.logWord_irq (p : Page) (e : Nat) : (s.logWord p e).irq = s.irq := rfl
@[simp] theorem State.logWord_cont (p : Page) (e : Nat) : (s.logWord p e).cont = s.cont := rfl
@[simp] theorem State.logWord_sec (p : Page) (e : Nat) : (s.logWord p e).sec = s.sec := rfl
@[simp] theorem State.logWord_flash (p : Page) (e : Nat) : (s.logWord p e).flash = s.flash := rfl
@[simp] theorem State.logWord_power (p : Page) (e : Nat) : (s.logWord p e).power = s.power := rfl

/-! ### State.logReq -/

@[simp] theorem State.logReq_pending (p : Page) (k : Nat) (who : Requester) (w : Bool) (off : Nat) : (s.logReq p k who w off).pending = s.pending := rfl
@[simp] theorem State.logReq_tick (p : Page) (k : Nat) (who : Requester) (w : Bool) (off : Nat) : (s.logReq p k who w off).tick = s.tick := rfl
@[simp] theorem State.logReq_fresh (p : Page) (k : Nat) (who : Requester) (w : Bool) (off : Nat) : (s.logReq p k who w off).fresh = s.fresh := rfl
@[simp] theorem State.logReq_regs (p : Page) (k : Nat) (who : Requester) (w : Bool) (off : Nat) : (s.logReq p k who w off).regs = s.regs := rfl
@[simp] theorem State.logReq_staged (p : Page) (k : Nat) (who : Requester) (w : Bool) (off : Nat) : (s.logReq p k who w off).staged = s.staged := rfl
@[simp] theorem State.logReq_counters (p : Page) (k : Nat) (who : Requester) (w : Bool) (off : Nat) : (s.logReq p k who w off).counters = s.counters := rfl
@[simp] theorem State.logReq_snaps (p : Page) (k : Nat) (who : Requester) (w : Bool) (off : Nat) : (s.logReq p k who w off).snaps = s.snaps := rfl
@[simp] theorem State.logReq_cores (p : Page) (k : Nat) (who : Requester) (w : Bool) (off : Nat) : (s.logReq p k who w off).cores = s.cores := rfl
@[simp] theorem State.logReq_opes (p : Page) (k : Nat) (who : Requester) (w : Bool) (off : Nat) : (s.logReq p k who w off).opes = s.opes := rfl
@[simp] theorem State.logReq_mem (p : Page) (k : Nat) (who : Requester) (w : Bool) (off : Nat) : (s.logReq p k who w off).mem = s.mem := rfl
@[simp] theorem State.logReq_retireDue (p : Page) (k : Nat) (who : Requester) (w : Bool) (off : Nat) : (s.logReq p k who w off).retireDue = s.retireDue := rfl
@[simp] theorem State.logReq_rowEngines (p : Page) (k : Nat) (who : Requester) (w : Bool) (off : Nat) : (s.logReq p k who w off).rowEngines = s.rowEngines := rfl
@[simp] theorem State.logReq_numIn (p : Page) (k : Nat) (who : Requester) (w : Bool) (off : Nat) : (s.logReq p k who w off).numIn = s.numIn := rfl
@[simp] theorem State.logReq_step (p : Page) (k : Nat) (who : Requester) (w : Bool) (off : Nat) : (s.logReq p k who w off).step = s.step := rfl
@[simp] theorem State.logReq_net (p : Page) (k : Nat) (who : Requester) (w : Bool) (off : Nat) : (s.logReq p k who w off).net = s.net := rfl
@[simp] theorem State.logReq_crs (p : Page) (k : Nat) (who : Requester) (w : Bool) (off : Nat) : (s.logReq p k who w off).crs = s.crs := rfl
@[simp] theorem State.logReq_upd (p : Page) (k : Nat) (who : Requester) (w : Bool) (off : Nat) : (s.logReq p k who w off).upd = s.upd := rfl
@[simp] theorem State.logReq_num (p : Page) (k : Nat) (who : Requester) (w : Bool) (off : Nat) : (s.logReq p k who w off).num = s.num := rfl
@[simp] theorem State.logReq_ledger (p : Page) (k : Nat) (who : Requester) (w : Bool) (off : Nat) : (s.logReq p k who w off).ledger = s.ledger := rfl
@[simp] theorem State.logReq_fab (p : Page) (k : Nat) (who : Requester) (w : Bool) (off : Nat) : (s.logReq p k who w off).fab = s.fab := rfl
@[simp] theorem State.logReq_irq (p : Page) (k : Nat) (who : Requester) (w : Bool) (off : Nat) : (s.logReq p k who w off).irq = s.irq := rfl
@[simp] theorem State.logReq_cont (p : Page) (k : Nat) (who : Requester) (w : Bool) (off : Nat) : (s.logReq p k who w off).cont = s.cont := rfl
@[simp] theorem State.logReq_sec (p : Page) (k : Nat) (who : Requester) (w : Bool) (off : Nat) : (s.logReq p k who w off).sec = s.sec := rfl
@[simp] theorem State.logReq_flash (p : Page) (k : Nat) (who : Requester) (w : Bool) (off : Nat) : (s.logReq p k who w off).flash = s.flash := rfl
@[simp] theorem State.logReq_power (p : Page) (k : Nat) (who : Requester) (w : Bool) (off : Nat) : (s.logReq p k who w off).power = s.power := rfl

/-! ### State.logHw -/

@[simp] theorem State.logHw_pending (p : Page) (off : Nat) : (s.logHw p off).pending = s.pending := rfl
@[simp] theorem State.logHw_tick (p : Page) (off : Nat) : (s.logHw p off).tick = s.tick := rfl
@[simp] theorem State.logHw_fresh (p : Page) (off : Nat) : (s.logHw p off).fresh = s.fresh := rfl
@[simp] theorem State.logHw_regs (p : Page) (off : Nat) : (s.logHw p off).regs = s.regs := rfl
@[simp] theorem State.logHw_staged (p : Page) (off : Nat) : (s.logHw p off).staged = s.staged := rfl
@[simp] theorem State.logHw_counters (p : Page) (off : Nat) : (s.logHw p off).counters = s.counters := rfl
@[simp] theorem State.logHw_snaps (p : Page) (off : Nat) : (s.logHw p off).snaps = s.snaps := rfl
@[simp] theorem State.logHw_cores (p : Page) (off : Nat) : (s.logHw p off).cores = s.cores := rfl
@[simp] theorem State.logHw_opes (p : Page) (off : Nat) : (s.logHw p off).opes = s.opes := rfl
@[simp] theorem State.logHw_mem (p : Page) (off : Nat) : (s.logHw p off).mem = s.mem := rfl
@[simp] theorem State.logHw_retireDue (p : Page) (off : Nat) : (s.logHw p off).retireDue = s.retireDue := rfl
@[simp] theorem State.logHw_rowEngines (p : Page) (off : Nat) : (s.logHw p off).rowEngines = s.rowEngines := rfl
@[simp] theorem State.logHw_numIn (p : Page) (off : Nat) : (s.logHw p off).numIn = s.numIn := rfl
@[simp] theorem State.logHw_step (p : Page) (off : Nat) : (s.logHw p off).step = s.step := rfl
@[simp] theorem State.logHw_net (p : Page) (off : Nat) : (s.logHw p off).net = s.net := rfl
@[simp] theorem State.logHw_crs (p : Page) (off : Nat) : (s.logHw p off).crs = s.crs := rfl
@[simp] theorem State.logHw_upd (p : Page) (off : Nat) : (s.logHw p off).upd = s.upd := rfl
@[simp] theorem State.logHw_num (p : Page) (off : Nat) : (s.logHw p off).num = s.num := rfl
@[simp] theorem State.logHw_ledger (p : Page) (off : Nat) : (s.logHw p off).ledger = s.ledger := rfl
@[simp] theorem State.logHw_fab (p : Page) (off : Nat) : (s.logHw p off).fab = s.fab := rfl
@[simp] theorem State.logHw_irq (p : Page) (off : Nat) : (s.logHw p off).irq = s.irq := rfl
@[simp] theorem State.logHw_cont (p : Page) (off : Nat) : (s.logHw p off).cont = s.cont := rfl
@[simp] theorem State.logHw_sec (p : Page) (off : Nat) : (s.logHw p off).sec = s.sec := rfl
@[simp] theorem State.logHw_flash (p : Page) (off : Nat) : (s.logHw p off).flash = s.flash := rfl
@[simp] theorem State.logHw_power (p : Page) (off : Nat) : (s.logHw p off).power = s.power := rfl

/-! ### State.logUnit -/

@[simp] theorem State.logUnit_pending (p : Page) (part c off : Nat) : (s.logUnit p part c off).pending = s.pending := rfl
@[simp] theorem State.logUnit_tick (p : Page) (part c off : Nat) : (s.logUnit p part c off).tick = s.tick := rfl
@[simp] theorem State.logUnit_fresh (p : Page) (part c off : Nat) : (s.logUnit p part c off).fresh = s.fresh := rfl
@[simp] theorem State.logUnit_regs (p : Page) (part c off : Nat) : (s.logUnit p part c off).regs = s.regs := rfl
@[simp] theorem State.logUnit_staged (p : Page) (part c off : Nat) : (s.logUnit p part c off).staged = s.staged := rfl
@[simp] theorem State.logUnit_counters (p : Page) (part c off : Nat) : (s.logUnit p part c off).counters = s.counters := rfl
@[simp] theorem State.logUnit_snaps (p : Page) (part c off : Nat) : (s.logUnit p part c off).snaps = s.snaps := rfl
@[simp] theorem State.logUnit_cores (p : Page) (part c off : Nat) : (s.logUnit p part c off).cores = s.cores := rfl
@[simp] theorem State.logUnit_opes (p : Page) (part c off : Nat) : (s.logUnit p part c off).opes = s.opes := rfl
@[simp] theorem State.logUnit_mem (p : Page) (part c off : Nat) : (s.logUnit p part c off).mem = s.mem := rfl
@[simp] theorem State.logUnit_retireDue (p : Page) (part c off : Nat) : (s.logUnit p part c off).retireDue = s.retireDue := rfl
@[simp] theorem State.logUnit_rowEngines (p : Page) (part c off : Nat) : (s.logUnit p part c off).rowEngines = s.rowEngines := rfl
@[simp] theorem State.logUnit_numIn (p : Page) (part c off : Nat) : (s.logUnit p part c off).numIn = s.numIn := rfl
@[simp] theorem State.logUnit_step (p : Page) (part c off : Nat) : (s.logUnit p part c off).step = s.step := rfl
@[simp] theorem State.logUnit_net (p : Page) (part c off : Nat) : (s.logUnit p part c off).net = s.net := rfl
@[simp] theorem State.logUnit_crs (p : Page) (part c off : Nat) : (s.logUnit p part c off).crs = s.crs := rfl
@[simp] theorem State.logUnit_upd (p : Page) (part c off : Nat) : (s.logUnit p part c off).upd = s.upd := rfl
@[simp] theorem State.logUnit_num (p : Page) (part c off : Nat) : (s.logUnit p part c off).num = s.num := rfl
@[simp] theorem State.logUnit_ledger (p : Page) (part c off : Nat) : (s.logUnit p part c off).ledger = s.ledger := rfl
@[simp] theorem State.logUnit_fab (p : Page) (part c off : Nat) : (s.logUnit p part c off).fab = s.fab := rfl
@[simp] theorem State.logUnit_irq (p : Page) (part c off : Nat) : (s.logUnit p part c off).irq = s.irq := rfl
@[simp] theorem State.logUnit_cont (p : Page) (part c off : Nat) : (s.logUnit p part c off).cont = s.cont := rfl
@[simp] theorem State.logUnit_sec (p : Page) (part c off : Nat) : (s.logUnit p part c off).sec = s.sec := rfl
@[simp] theorem State.logUnit_flash (p : Page) (part c off : Nat) : (s.logUnit p part c off).flash = s.flash := rfl
@[simp] theorem State.logUnit_power (p : Page) (part c off : Nat) : (s.logUnit p part c off).power = s.power := rfl

/-! ### State.bumpBy -/

@[simp] theorem State.bumpBy_pending (p : Page) (sel n : Nat) : (s.bumpBy p sel n).pending = s.pending := by unfold State.bumpBy; simp only; split <;> rfl
@[simp] theorem State.bumpBy_tick (p : Page) (sel n : Nat) : (s.bumpBy p sel n).tick = s.tick := by unfold State.bumpBy; simp only; split <;> rfl
@[simp] theorem State.bumpBy_fresh (p : Page) (sel n : Nat) : (s.bumpBy p sel n).fresh = s.fresh := by unfold State.bumpBy; simp only; split <;> rfl
@[simp] theorem State.bumpBy_regs (p : Page) (sel n : Nat) : (s.bumpBy p sel n).regs = s.regs := by unfold State.bumpBy; simp only; split <;> rfl
@[simp] theorem State.bumpBy_staged (p : Page) (sel n : Nat) : (s.bumpBy p sel n).staged = s.staged := by unfold State.bumpBy; simp only; split <;> rfl
@[simp] theorem State.bumpBy_snaps (p : Page) (sel n : Nat) : (s.bumpBy p sel n).snaps = s.snaps := by unfold State.bumpBy; simp only; split <;> rfl
@[simp] theorem State.bumpBy_cores (p : Page) (sel n : Nat) : (s.bumpBy p sel n).cores = s.cores := by unfold State.bumpBy; simp only; split <;> rfl
@[simp] theorem State.bumpBy_opes (p : Page) (sel n : Nat) : (s.bumpBy p sel n).opes = s.opes := by unfold State.bumpBy; simp only; split <;> rfl
@[simp] theorem State.bumpBy_mem (p : Page) (sel n : Nat) : (s.bumpBy p sel n).mem = s.mem := by unfold State.bumpBy; simp only; split <;> rfl
@[simp] theorem State.bumpBy_retireDue (p : Page) (sel n : Nat) : (s.bumpBy p sel n).retireDue = s.retireDue := by unfold State.bumpBy; simp only; split <;> rfl
@[simp] theorem State.bumpBy_rowEngines (p : Page) (sel n : Nat) : (s.bumpBy p sel n).rowEngines = s.rowEngines := by unfold State.bumpBy; simp only; split <;> rfl
@[simp] theorem State.bumpBy_numIn (p : Page) (sel n : Nat) : (s.bumpBy p sel n).numIn = s.numIn := by unfold State.bumpBy; simp only; split <;> rfl
@[simp] theorem State.bumpBy_step (p : Page) (sel n : Nat) : (s.bumpBy p sel n).step = s.step := by unfold State.bumpBy; simp only; split <;> rfl
@[simp] theorem State.bumpBy_net (p : Page) (sel n : Nat) : (s.bumpBy p sel n).net = s.net := by unfold State.bumpBy; simp only; split <;> rfl
@[simp] theorem State.bumpBy_crs (p : Page) (sel n : Nat) : (s.bumpBy p sel n).crs = s.crs := by unfold State.bumpBy; simp only; split <;> rfl
@[simp] theorem State.bumpBy_upd (p : Page) (sel n : Nat) : (s.bumpBy p sel n).upd = s.upd := by unfold State.bumpBy; simp only; split <;> rfl
@[simp] theorem State.bumpBy_num (p : Page) (sel n : Nat) : (s.bumpBy p sel n).num = s.num := by unfold State.bumpBy; simp only; split <;> rfl
@[simp] theorem State.bumpBy_ledger (p : Page) (sel n : Nat) : (s.bumpBy p sel n).ledger = s.ledger := by unfold State.bumpBy; simp only; split <;> rfl
@[simp] theorem State.bumpBy_fab (p : Page) (sel n : Nat) : (s.bumpBy p sel n).fab = s.fab := by unfold State.bumpBy; simp only; split <;> rfl
@[simp] theorem State.bumpBy_irq (p : Page) (sel n : Nat) : (s.bumpBy p sel n).irq = s.irq := by unfold State.bumpBy; simp only; split <;> rfl
@[simp] theorem State.bumpBy_cont (p : Page) (sel n : Nat) : (s.bumpBy p sel n).cont = s.cont := by unfold State.bumpBy; simp only; split <;> rfl
@[simp] theorem State.bumpBy_sec (p : Page) (sel n : Nat) : (s.bumpBy p sel n).sec = s.sec := by unfold State.bumpBy; simp only; split <;> rfl
@[simp] theorem State.bumpBy_flash (p : Page) (sel n : Nat) : (s.bumpBy p sel n).flash = s.flash := by unfold State.bumpBy; simp only; split <;> rfl
@[simp] theorem State.bumpBy_power (p : Page) (sel n : Nat) : (s.bumpBy p sel n).power = s.power := by unfold State.bumpBy; simp only; split <;> rfl

/-! ### State.bump -/

@[simp] theorem State.bump_pending (p : Page) (sel : Nat) : (s.bump p sel).pending = s.pending := State.bumpBy_pending s p sel 1
@[simp] theorem State.bump_tick (p : Page) (sel : Nat) : (s.bump p sel).tick = s.tick := State.bumpBy_tick s p sel 1
@[simp] theorem State.bump_fresh (p : Page) (sel : Nat) : (s.bump p sel).fresh = s.fresh := State.bumpBy_fresh s p sel 1
@[simp] theorem State.bump_regs (p : Page) (sel : Nat) : (s.bump p sel).regs = s.regs := State.bumpBy_regs s p sel 1
@[simp] theorem State.bump_staged (p : Page) (sel : Nat) : (s.bump p sel).staged = s.staged := State.bumpBy_staged s p sel 1
@[simp] theorem State.bump_snaps (p : Page) (sel : Nat) : (s.bump p sel).snaps = s.snaps := State.bumpBy_snaps s p sel 1
@[simp] theorem State.bump_cores (p : Page) (sel : Nat) : (s.bump p sel).cores = s.cores := State.bumpBy_cores s p sel 1
@[simp] theorem State.bump_opes (p : Page) (sel : Nat) : (s.bump p sel).opes = s.opes := State.bumpBy_opes s p sel 1
@[simp] theorem State.bump_mem (p : Page) (sel : Nat) : (s.bump p sel).mem = s.mem := State.bumpBy_mem s p sel 1
@[simp] theorem State.bump_retireDue (p : Page) (sel : Nat) : (s.bump p sel).retireDue = s.retireDue := State.bumpBy_retireDue s p sel 1
@[simp] theorem State.bump_rowEngines (p : Page) (sel : Nat) : (s.bump p sel).rowEngines = s.rowEngines := State.bumpBy_rowEngines s p sel 1
@[simp] theorem State.bump_numIn (p : Page) (sel : Nat) : (s.bump p sel).numIn = s.numIn := State.bumpBy_numIn s p sel 1
@[simp] theorem State.bump_step (p : Page) (sel : Nat) : (s.bump p sel).step = s.step := State.bumpBy_step s p sel 1
@[simp] theorem State.bump_net (p : Page) (sel : Nat) : (s.bump p sel).net = s.net := State.bumpBy_net s p sel 1
@[simp] theorem State.bump_crs (p : Page) (sel : Nat) : (s.bump p sel).crs = s.crs := State.bumpBy_crs s p sel 1
@[simp] theorem State.bump_upd (p : Page) (sel : Nat) : (s.bump p sel).upd = s.upd := State.bumpBy_upd s p sel 1
@[simp] theorem State.bump_num (p : Page) (sel : Nat) : (s.bump p sel).num = s.num := State.bumpBy_num s p sel 1
@[simp] theorem State.bump_ledger (p : Page) (sel : Nat) : (s.bump p sel).ledger = s.ledger := State.bumpBy_ledger s p sel 1
@[simp] theorem State.bump_fab (p : Page) (sel : Nat) : (s.bump p sel).fab = s.fab := State.bumpBy_fab s p sel 1
@[simp] theorem State.bump_irq (p : Page) (sel : Nat) : (s.bump p sel).irq = s.irq := State.bumpBy_irq s p sel 1
@[simp] theorem State.bump_cont (p : Page) (sel : Nat) : (s.bump p sel).cont = s.cont := State.bumpBy_cont s p sel 1
@[simp] theorem State.bump_sec (p : Page) (sel : Nat) : (s.bump p sel).sec = s.sec := State.bumpBy_sec s p sel 1
@[simp] theorem State.bump_flash (p : Page) (sel : Nat) : (s.bump p sel).flash = s.flash := State.bumpBy_flash s p sel 1
@[simp] theorem State.bump_power (p : Page) (sel : Nat) : (s.bump p sel).power = s.power := State.bumpBy_power s p sel 1

/-! ### State.bumpReg -/

@[simp] theorem State.bumpReg_pending (p : Page) (off : Nat) : (s.bumpReg p off).pending = s.pending := by unfold State.bumpReg; simp only; split; rfl; split <;> rfl
@[simp] theorem State.bumpReg_tick (p : Page) (off : Nat) : (s.bumpReg p off).tick = s.tick := by unfold State.bumpReg; simp only; split; rfl; split <;> rfl
@[simp] theorem State.bumpReg_fresh (p : Page) (off : Nat) : (s.bumpReg p off).fresh = s.fresh := by unfold State.bumpReg; simp only; split; rfl; split <;> rfl
@[simp] theorem State.bumpReg_staged (p : Page) (off : Nat) : (s.bumpReg p off).staged = s.staged := by unfold State.bumpReg; simp only; split; rfl; split <;> rfl
@[simp] theorem State.bumpReg_counters (p : Page) (off : Nat) : (s.bumpReg p off).counters = s.counters := by unfold State.bumpReg; simp only; split; rfl; split <;> rfl
@[simp] theorem State.bumpReg_snaps (p : Page) (off : Nat) : (s.bumpReg p off).snaps = s.snaps := by unfold State.bumpReg; simp only; split; rfl; split <;> rfl
@[simp] theorem State.bumpReg_cores (p : Page) (off : Nat) : (s.bumpReg p off).cores = s.cores := by unfold State.bumpReg; simp only; split; rfl; split <;> rfl
@[simp] theorem State.bumpReg_opes (p : Page) (off : Nat) : (s.bumpReg p off).opes = s.opes := by unfold State.bumpReg; simp only; split; rfl; split <;> rfl
@[simp] theorem State.bumpReg_mem (p : Page) (off : Nat) : (s.bumpReg p off).mem = s.mem := by unfold State.bumpReg; simp only; split; rfl; split <;> rfl
@[simp] theorem State.bumpReg_retireDue (p : Page) (off : Nat) : (s.bumpReg p off).retireDue = s.retireDue := by unfold State.bumpReg; simp only; split; rfl; split <;> rfl
@[simp] theorem State.bumpReg_rowEngines (p : Page) (off : Nat) : (s.bumpReg p off).rowEngines = s.rowEngines := by unfold State.bumpReg; simp only; split; rfl; split <;> rfl
@[simp] theorem State.bumpReg_numIn (p : Page) (off : Nat) : (s.bumpReg p off).numIn = s.numIn := by unfold State.bumpReg; simp only; split; rfl; split <;> rfl
@[simp] theorem State.bumpReg_step (p : Page) (off : Nat) : (s.bumpReg p off).step = s.step := by unfold State.bumpReg; simp only; split; rfl; split <;> rfl
@[simp] theorem State.bumpReg_net (p : Page) (off : Nat) : (s.bumpReg p off).net = s.net := by unfold State.bumpReg; simp only; split; rfl; split <;> rfl
@[simp] theorem State.bumpReg_crs (p : Page) (off : Nat) : (s.bumpReg p off).crs = s.crs := by unfold State.bumpReg; simp only; split; rfl; split <;> rfl
@[simp] theorem State.bumpReg_upd (p : Page) (off : Nat) : (s.bumpReg p off).upd = s.upd := by unfold State.bumpReg; simp only; split; rfl; split <;> rfl
@[simp] theorem State.bumpReg_num (p : Page) (off : Nat) : (s.bumpReg p off).num = s.num := by unfold State.bumpReg; simp only; split; rfl; split <;> rfl
@[simp] theorem State.bumpReg_ledger (p : Page) (off : Nat) : (s.bumpReg p off).ledger = s.ledger := by unfold State.bumpReg; simp only; split; rfl; split <;> rfl
@[simp] theorem State.bumpReg_fab (p : Page) (off : Nat) : (s.bumpReg p off).fab = s.fab := by unfold State.bumpReg; simp only; split; rfl; split <;> rfl
@[simp] theorem State.bumpReg_irq (p : Page) (off : Nat) : (s.bumpReg p off).irq = s.irq := by unfold State.bumpReg; simp only; split; rfl; split <;> rfl
@[simp] theorem State.bumpReg_cont (p : Page) (off : Nat) : (s.bumpReg p off).cont = s.cont := by unfold State.bumpReg; simp only; split; rfl; split <;> rfl
@[simp] theorem State.bumpReg_sec (p : Page) (off : Nat) : (s.bumpReg p off).sec = s.sec := by unfold State.bumpReg; simp only; split; rfl; split <;> rfl
@[simp] theorem State.bumpReg_flash (p : Page) (off : Nat) : (s.bumpReg p off).flash = s.flash := by unfold State.bumpReg; simp only; split; rfl; split <;> rfl
@[simp] theorem State.bumpReg_power (p : Page) (off : Nat) : (s.bumpReg p off).power = s.power := by unfold State.bumpReg; simp only; split; rfl; split <;> rfl

/-! ### State.setCore -/

@[simp] theorem State.setCore_pending (id : CoreId) (c : Core) : (s.setCore id c).pending = s.pending := rfl
@[simp] theorem State.setCore_tick (id : CoreId) (c : Core) : (s.setCore id c).tick = s.tick := rfl
@[simp] theorem State.setCore_fresh (id : CoreId) (c : Core) : (s.setCore id c).fresh = s.fresh := rfl
@[simp] theorem State.setCore_regs (id : CoreId) (c : Core) : (s.setCore id c).regs = s.regs := rfl
@[simp] theorem State.setCore_staged (id : CoreId) (c : Core) : (s.setCore id c).staged = s.staged := rfl
@[simp] theorem State.setCore_counters (id : CoreId) (c : Core) : (s.setCore id c).counters = s.counters := rfl
@[simp] theorem State.setCore_logs (id : CoreId) (c : Core) : (s.setCore id c).logs = s.logs := rfl
@[simp] theorem State.setCore_snaps (id : CoreId) (c : Core) : (s.setCore id c).snaps = s.snaps := rfl
@[simp] theorem State.setCore_opes (id : CoreId) (c : Core) : (s.setCore id c).opes = s.opes := rfl
@[simp] theorem State.setCore_mem (id : CoreId) (c : Core) : (s.setCore id c).mem = s.mem := rfl
@[simp] theorem State.setCore_retireDue (id : CoreId) (c : Core) : (s.setCore id c).retireDue = s.retireDue := rfl
@[simp] theorem State.setCore_rowEngines (id : CoreId) (c : Core) : (s.setCore id c).rowEngines = s.rowEngines := rfl
@[simp] theorem State.setCore_numIn (id : CoreId) (c : Core) : (s.setCore id c).numIn = s.numIn := rfl
@[simp] theorem State.setCore_step (id : CoreId) (c : Core) : (s.setCore id c).step = s.step := rfl
@[simp] theorem State.setCore_net (id : CoreId) (c : Core) : (s.setCore id c).net = s.net := rfl
@[simp] theorem State.setCore_crs (id : CoreId) (c : Core) : (s.setCore id c).crs = s.crs := rfl
@[simp] theorem State.setCore_upd (id : CoreId) (c : Core) : (s.setCore id c).upd = s.upd := rfl
@[simp] theorem State.setCore_num (id : CoreId) (c : Core) : (s.setCore id c).num = s.num := rfl
@[simp] theorem State.setCore_ledger (id : CoreId) (c : Core) : (s.setCore id c).ledger = s.ledger := rfl
@[simp] theorem State.setCore_fab (id : CoreId) (c : Core) : (s.setCore id c).fab = s.fab := rfl
@[simp] theorem State.setCore_irq (id : CoreId) (c : Core) : (s.setCore id c).irq = s.irq := rfl
@[simp] theorem State.setCore_cont (id : CoreId) (c : Core) : (s.setCore id c).cont = s.cont := rfl
@[simp] theorem State.setCore_sec (id : CoreId) (c : Core) : (s.setCore id c).sec = s.sec := rfl
@[simp] theorem State.setCore_flash (id : CoreId) (c : Core) : (s.setCore id c).flash = s.flash := rfl
@[simp] theorem State.setCore_power (id : CoreId) (c : Core) : (s.setCore id c).power = s.power := rfl

/-! ### State.modCore -/

@[simp] theorem State.modCore_pending (id : CoreId) (f : Core → Core) : (s.modCore id f).pending = s.pending := rfl
@[simp] theorem State.modCore_tick (id : CoreId) (f : Core → Core) : (s.modCore id f).tick = s.tick := rfl
@[simp] theorem State.modCore_fresh (id : CoreId) (f : Core → Core) : (s.modCore id f).fresh = s.fresh := rfl
@[simp] theorem State.modCore_regs (id : CoreId) (f : Core → Core) : (s.modCore id f).regs = s.regs := rfl
@[simp] theorem State.modCore_staged (id : CoreId) (f : Core → Core) : (s.modCore id f).staged = s.staged := rfl
@[simp] theorem State.modCore_counters (id : CoreId) (f : Core → Core) : (s.modCore id f).counters = s.counters := rfl
@[simp] theorem State.modCore_logs (id : CoreId) (f : Core → Core) : (s.modCore id f).logs = s.logs := rfl
@[simp] theorem State.modCore_snaps (id : CoreId) (f : Core → Core) : (s.modCore id f).snaps = s.snaps := rfl
@[simp] theorem State.modCore_opes (id : CoreId) (f : Core → Core) : (s.modCore id f).opes = s.opes := rfl
@[simp] theorem State.modCore_mem (id : CoreId) (f : Core → Core) : (s.modCore id f).mem = s.mem := rfl
@[simp] theorem State.modCore_retireDue (id : CoreId) (f : Core → Core) : (s.modCore id f).retireDue = s.retireDue := rfl
@[simp] theorem State.modCore_rowEngines (id : CoreId) (f : Core → Core) : (s.modCore id f).rowEngines = s.rowEngines := rfl
@[simp] theorem State.modCore_numIn (id : CoreId) (f : Core → Core) : (s.modCore id f).numIn = s.numIn := rfl
@[simp] theorem State.modCore_step (id : CoreId) (f : Core → Core) : (s.modCore id f).step = s.step := rfl
@[simp] theorem State.modCore_net (id : CoreId) (f : Core → Core) : (s.modCore id f).net = s.net := rfl
@[simp] theorem State.modCore_crs (id : CoreId) (f : Core → Core) : (s.modCore id f).crs = s.crs := rfl
@[simp] theorem State.modCore_upd (id : CoreId) (f : Core → Core) : (s.modCore id f).upd = s.upd := rfl
@[simp] theorem State.modCore_num (id : CoreId) (f : Core → Core) : (s.modCore id f).num = s.num := rfl
@[simp] theorem State.modCore_ledger (id : CoreId) (f : Core → Core) : (s.modCore id f).ledger = s.ledger := rfl
@[simp] theorem State.modCore_fab (id : CoreId) (f : Core → Core) : (s.modCore id f).fab = s.fab := rfl
@[simp] theorem State.modCore_irq (id : CoreId) (f : Core → Core) : (s.modCore id f).irq = s.irq := rfl
@[simp] theorem State.modCore_cont (id : CoreId) (f : Core → Core) : (s.modCore id f).cont = s.cont := rfl
@[simp] theorem State.modCore_sec (id : CoreId) (f : Core → Core) : (s.modCore id f).sec = s.sec := rfl
@[simp] theorem State.modCore_flash (id : CoreId) (f : Core → Core) : (s.modCore id f).flash = s.flash := rfl
@[simp] theorem State.modCore_power (id : CoreId) (f : Core → Core) : (s.modCore id f).power = s.power := rfl

/-! ### State.setSc -/

@[simp] theorem State.setSc_pending (id : CoreId) (n : Nat) (v : StreamCtx) : (s.setSc id n v).pending = s.pending := rfl
@[simp] theorem State.setSc_tick (id : CoreId) (n : Nat) (v : StreamCtx) : (s.setSc id n v).tick = s.tick := rfl
@[simp] theorem State.setSc_fresh (id : CoreId) (n : Nat) (v : StreamCtx) : (s.setSc id n v).fresh = s.fresh := rfl
@[simp] theorem State.setSc_regs (id : CoreId) (n : Nat) (v : StreamCtx) : (s.setSc id n v).regs = s.regs := rfl
@[simp] theorem State.setSc_staged (id : CoreId) (n : Nat) (v : StreamCtx) : (s.setSc id n v).staged = s.staged := rfl
@[simp] theorem State.setSc_counters (id : CoreId) (n : Nat) (v : StreamCtx) : (s.setSc id n v).counters = s.counters := rfl
@[simp] theorem State.setSc_logs (id : CoreId) (n : Nat) (v : StreamCtx) : (s.setSc id n v).logs = s.logs := rfl
@[simp] theorem State.setSc_snaps (id : CoreId) (n : Nat) (v : StreamCtx) : (s.setSc id n v).snaps = s.snaps := rfl
@[simp] theorem State.setSc_opes (id : CoreId) (n : Nat) (v : StreamCtx) : (s.setSc id n v).opes = s.opes := rfl
@[simp] theorem State.setSc_mem (id : CoreId) (n : Nat) (v : StreamCtx) : (s.setSc id n v).mem = s.mem := rfl
@[simp] theorem State.setSc_retireDue (id : CoreId) (n : Nat) (v : StreamCtx) : (s.setSc id n v).retireDue = s.retireDue := rfl
@[simp] theorem State.setSc_rowEngines (id : CoreId) (n : Nat) (v : StreamCtx) : (s.setSc id n v).rowEngines = s.rowEngines := rfl
@[simp] theorem State.setSc_numIn (id : CoreId) (n : Nat) (v : StreamCtx) : (s.setSc id n v).numIn = s.numIn := rfl
@[simp] theorem State.setSc_step (id : CoreId) (n : Nat) (v : StreamCtx) : (s.setSc id n v).step = s.step := rfl
@[simp] theorem State.setSc_net (id : CoreId) (n : Nat) (v : StreamCtx) : (s.setSc id n v).net = s.net := rfl
@[simp] theorem State.setSc_crs (id : CoreId) (n : Nat) (v : StreamCtx) : (s.setSc id n v).crs = s.crs := rfl
@[simp] theorem State.setSc_upd (id : CoreId) (n : Nat) (v : StreamCtx) : (s.setSc id n v).upd = s.upd := rfl
@[simp] theorem State.setSc_num (id : CoreId) (n : Nat) (v : StreamCtx) : (s.setSc id n v).num = s.num := rfl
@[simp] theorem State.setSc_ledger (id : CoreId) (n : Nat) (v : StreamCtx) : (s.setSc id n v).ledger = s.ledger := rfl
@[simp] theorem State.setSc_fab (id : CoreId) (n : Nat) (v : StreamCtx) : (s.setSc id n v).fab = s.fab := rfl
@[simp] theorem State.setSc_irq (id : CoreId) (n : Nat) (v : StreamCtx) : (s.setSc id n v).irq = s.irq := rfl
@[simp] theorem State.setSc_cont (id : CoreId) (n : Nat) (v : StreamCtx) : (s.setSc id n v).cont = s.cont := rfl
@[simp] theorem State.setSc_sec (id : CoreId) (n : Nat) (v : StreamCtx) : (s.setSc id n v).sec = s.sec := rfl
@[simp] theorem State.setSc_flash (id : CoreId) (n : Nat) (v : StreamCtx) : (s.setSc id n v).flash = s.flash := rfl
@[simp] theorem State.setSc_power (id : CoreId) (n : Nat) (v : StreamCtx) : (s.setSc id n v).power = s.power := rfl

/-! ### State.setOpe -/

@[simp] theorem State.setOpe_pending (id : CoreId) (o : Ope) : (s.setOpe id o).pending = s.pending := rfl
@[simp] theorem State.setOpe_tick (id : CoreId) (o : Ope) : (s.setOpe id o).tick = s.tick := rfl
@[simp] theorem State.setOpe_fresh (id : CoreId) (o : Ope) : (s.setOpe id o).fresh = s.fresh := rfl
@[simp] theorem State.setOpe_regs (id : CoreId) (o : Ope) : (s.setOpe id o).regs = s.regs := rfl
@[simp] theorem State.setOpe_staged (id : CoreId) (o : Ope) : (s.setOpe id o).staged = s.staged := rfl
@[simp] theorem State.setOpe_counters (id : CoreId) (o : Ope) : (s.setOpe id o).counters = s.counters := rfl
@[simp] theorem State.setOpe_logs (id : CoreId) (o : Ope) : (s.setOpe id o).logs = s.logs := rfl
@[simp] theorem State.setOpe_snaps (id : CoreId) (o : Ope) : (s.setOpe id o).snaps = s.snaps := rfl
@[simp] theorem State.setOpe_cores (id : CoreId) (o : Ope) : (s.setOpe id o).cores = s.cores := rfl
@[simp] theorem State.setOpe_mem (id : CoreId) (o : Ope) : (s.setOpe id o).mem = s.mem := rfl
@[simp] theorem State.setOpe_retireDue (id : CoreId) (o : Ope) : (s.setOpe id o).retireDue = s.retireDue := rfl
@[simp] theorem State.setOpe_rowEngines (id : CoreId) (o : Ope) : (s.setOpe id o).rowEngines = s.rowEngines := rfl
@[simp] theorem State.setOpe_numIn (id : CoreId) (o : Ope) : (s.setOpe id o).numIn = s.numIn := rfl
@[simp] theorem State.setOpe_step (id : CoreId) (o : Ope) : (s.setOpe id o).step = s.step := rfl
@[simp] theorem State.setOpe_net (id : CoreId) (o : Ope) : (s.setOpe id o).net = s.net := rfl
@[simp] theorem State.setOpe_crs (id : CoreId) (o : Ope) : (s.setOpe id o).crs = s.crs := rfl
@[simp] theorem State.setOpe_upd (id : CoreId) (o : Ope) : (s.setOpe id o).upd = s.upd := rfl
@[simp] theorem State.setOpe_num (id : CoreId) (o : Ope) : (s.setOpe id o).num = s.num := rfl
@[simp] theorem State.setOpe_ledger (id : CoreId) (o : Ope) : (s.setOpe id o).ledger = s.ledger := rfl
@[simp] theorem State.setOpe_fab (id : CoreId) (o : Ope) : (s.setOpe id o).fab = s.fab := rfl
@[simp] theorem State.setOpe_irq (id : CoreId) (o : Ope) : (s.setOpe id o).irq = s.irq := rfl
@[simp] theorem State.setOpe_cont (id : CoreId) (o : Ope) : (s.setOpe id o).cont = s.cont := rfl
@[simp] theorem State.setOpe_sec (id : CoreId) (o : Ope) : (s.setOpe id o).sec = s.sec := rfl
@[simp] theorem State.setOpe_flash (id : CoreId) (o : Ope) : (s.setOpe id o).flash = s.flash := rfl
@[simp] theorem State.setOpe_power (id : CoreId) (o : Ope) : (s.setOpe id o).power = s.power := rfl

/-! ### State.setRow -/

@[simp] theorem State.setRow_pending (c : Nat) (v : RowEngine) : (s.setRow c v).pending = s.pending := rfl
@[simp] theorem State.setRow_tick (c : Nat) (v : RowEngine) : (s.setRow c v).tick = s.tick := rfl
@[simp] theorem State.setRow_fresh (c : Nat) (v : RowEngine) : (s.setRow c v).fresh = s.fresh := rfl
@[simp] theorem State.setRow_regs (c : Nat) (v : RowEngine) : (s.setRow c v).regs = s.regs := rfl
@[simp] theorem State.setRow_staged (c : Nat) (v : RowEngine) : (s.setRow c v).staged = s.staged := rfl
@[simp] theorem State.setRow_counters (c : Nat) (v : RowEngine) : (s.setRow c v).counters = s.counters := rfl
@[simp] theorem State.setRow_logs (c : Nat) (v : RowEngine) : (s.setRow c v).logs = s.logs := rfl
@[simp] theorem State.setRow_snaps (c : Nat) (v : RowEngine) : (s.setRow c v).snaps = s.snaps := rfl
@[simp] theorem State.setRow_cores (c : Nat) (v : RowEngine) : (s.setRow c v).cores = s.cores := rfl
@[simp] theorem State.setRow_opes (c : Nat) (v : RowEngine) : (s.setRow c v).opes = s.opes := rfl
@[simp] theorem State.setRow_mem (c : Nat) (v : RowEngine) : (s.setRow c v).mem = s.mem := rfl
@[simp] theorem State.setRow_retireDue (c : Nat) (v : RowEngine) : (s.setRow c v).retireDue = s.retireDue := rfl
@[simp] theorem State.setRow_numIn (c : Nat) (v : RowEngine) : (s.setRow c v).numIn = s.numIn := rfl
@[simp] theorem State.setRow_step (c : Nat) (v : RowEngine) : (s.setRow c v).step = s.step := rfl
@[simp] theorem State.setRow_net (c : Nat) (v : RowEngine) : (s.setRow c v).net = s.net := rfl
@[simp] theorem State.setRow_crs (c : Nat) (v : RowEngine) : (s.setRow c v).crs = s.crs := rfl
@[simp] theorem State.setRow_upd (c : Nat) (v : RowEngine) : (s.setRow c v).upd = s.upd := rfl
@[simp] theorem State.setRow_num (c : Nat) (v : RowEngine) : (s.setRow c v).num = s.num := rfl
@[simp] theorem State.setRow_ledger (c : Nat) (v : RowEngine) : (s.setRow c v).ledger = s.ledger := rfl
@[simp] theorem State.setRow_fab (c : Nat) (v : RowEngine) : (s.setRow c v).fab = s.fab := rfl
@[simp] theorem State.setRow_irq (c : Nat) (v : RowEngine) : (s.setRow c v).irq = s.irq := rfl
@[simp] theorem State.setRow_cont (c : Nat) (v : RowEngine) : (s.setRow c v).cont = s.cont := rfl
@[simp] theorem State.setRow_sec (c : Nat) (v : RowEngine) : (s.setRow c v).sec = s.sec := rfl
@[simp] theorem State.setRow_flash (c : Nat) (v : RowEngine) : (s.setRow c v).flash = s.flash := rfl
@[simp] theorem State.setRow_power (c : Nat) (v : RowEngine) : (s.setRow c v).power = s.power := rfl

/-! ### State.setPort -/

@[simp] theorem State.setPort_pending (i : Nat) (p : Port) : (s.setPort i p).pending = s.pending := rfl
@[simp] theorem State.setPort_tick (i : Nat) (p : Port) : (s.setPort i p).tick = s.tick := rfl
@[simp] theorem State.setPort_fresh (i : Nat) (p : Port) : (s.setPort i p).fresh = s.fresh := rfl
@[simp] theorem State.setPort_regs (i : Nat) (p : Port) : (s.setPort i p).regs = s.regs := rfl
@[simp] theorem State.setPort_staged (i : Nat) (p : Port) : (s.setPort i p).staged = s.staged := rfl
@[simp] theorem State.setPort_counters (i : Nat) (p : Port) : (s.setPort i p).counters = s.counters := rfl
@[simp] theorem State.setPort_logs (i : Nat) (p : Port) : (s.setPort i p).logs = s.logs := rfl
@[simp] theorem State.setPort_snaps (i : Nat) (p : Port) : (s.setPort i p).snaps = s.snaps := rfl
@[simp] theorem State.setPort_cores (i : Nat) (p : Port) : (s.setPort i p).cores = s.cores := rfl
@[simp] theorem State.setPort_opes (i : Nat) (p : Port) : (s.setPort i p).opes = s.opes := rfl
@[simp] theorem State.setPort_mem (i : Nat) (p : Port) : (s.setPort i p).mem = s.mem := rfl
@[simp] theorem State.setPort_retireDue (i : Nat) (p : Port) : (s.setPort i p).retireDue = s.retireDue := rfl
@[simp] theorem State.setPort_rowEngines (i : Nat) (p : Port) : (s.setPort i p).rowEngines = s.rowEngines := rfl
@[simp] theorem State.setPort_numIn (i : Nat) (p : Port) : (s.setPort i p).numIn = s.numIn := rfl
@[simp] theorem State.setPort_step (i : Nat) (p : Port) : (s.setPort i p).step = s.step := rfl
@[simp] theorem State.setPort_crs (i : Nat) (p : Port) : (s.setPort i p).crs = s.crs := rfl
@[simp] theorem State.setPort_upd (i : Nat) (p : Port) : (s.setPort i p).upd = s.upd := rfl
@[simp] theorem State.setPort_num (i : Nat) (p : Port) : (s.setPort i p).num = s.num := rfl
@[simp] theorem State.setPort_ledger (i : Nat) (p : Port) : (s.setPort i p).ledger = s.ledger := rfl
@[simp] theorem State.setPort_fab (i : Nat) (p : Port) : (s.setPort i p).fab = s.fab := rfl
@[simp] theorem State.setPort_irq (i : Nat) (p : Port) : (s.setPort i p).irq = s.irq := rfl
@[simp] theorem State.setPort_cont (i : Nat) (p : Port) : (s.setPort i p).cont = s.cont := rfl
@[simp] theorem State.setPort_sec (i : Nat) (p : Port) : (s.setPort i p).sec = s.sec := rfl
@[simp] theorem State.setPort_flash (i : Nat) (p : Port) : (s.setPort i p).flash = s.flash := rfl
@[simp] theorem State.setPort_power (i : Nat) (p : Port) : (s.setPort i p).power = s.power := rfl

/-! ### State.setTctx -/

@[simp] theorem State.setTctx_pending (n : Nat) (c : TalCtx) : (s.setTctx n c).pending = s.pending := rfl
@[simp] theorem State.setTctx_tick (n : Nat) (c : TalCtx) : (s.setTctx n c).tick = s.tick := rfl
@[simp] theorem State.setTctx_fresh (n : Nat) (c : TalCtx) : (s.setTctx n c).fresh = s.fresh := rfl
@[simp] theorem State.setTctx_staged (n : Nat) (c : TalCtx) : (s.setTctx n c).staged = s.staged := rfl
@[simp] theorem State.setTctx_counters (n : Nat) (c : TalCtx) : (s.setTctx n c).counters = s.counters := rfl
@[simp] theorem State.setTctx_logs (n : Nat) (c : TalCtx) : (s.setTctx n c).logs = s.logs := rfl
@[simp] theorem State.setTctx_snaps (n : Nat) (c : TalCtx) : (s.setTctx n c).snaps = s.snaps := rfl
@[simp] theorem State.setTctx_cores (n : Nat) (c : TalCtx) : (s.setTctx n c).cores = s.cores := rfl
@[simp] theorem State.setTctx_opes (n : Nat) (c : TalCtx) : (s.setTctx n c).opes = s.opes := rfl
@[simp] theorem State.setTctx_mem (n : Nat) (c : TalCtx) : (s.setTctx n c).mem = s.mem := rfl
@[simp] theorem State.setTctx_retireDue (n : Nat) (c : TalCtx) : (s.setTctx n c).retireDue = s.retireDue := rfl
@[simp] theorem State.setTctx_rowEngines (n : Nat) (c : TalCtx) : (s.setTctx n c).rowEngines = s.rowEngines := rfl
@[simp] theorem State.setTctx_numIn (n : Nat) (c : TalCtx) : (s.setTctx n c).numIn = s.numIn := rfl
@[simp] theorem State.setTctx_step (n : Nat) (c : TalCtx) : (s.setTctx n c).step = s.step := rfl
@[simp] theorem State.setTctx_crs (n : Nat) (c : TalCtx) : (s.setTctx n c).crs = s.crs := rfl
@[simp] theorem State.setTctx_upd (n : Nat) (c : TalCtx) : (s.setTctx n c).upd = s.upd := rfl
@[simp] theorem State.setTctx_num (n : Nat) (c : TalCtx) : (s.setTctx n c).num = s.num := rfl
@[simp] theorem State.setTctx_ledger (n : Nat) (c : TalCtx) : (s.setTctx n c).ledger = s.ledger := rfl
@[simp] theorem State.setTctx_fab (n : Nat) (c : TalCtx) : (s.setTctx n c).fab = s.fab := rfl
@[simp] theorem State.setTctx_irq (n : Nat) (c : TalCtx) : (s.setTctx n c).irq = s.irq := rfl
@[simp] theorem State.setTctx_cont (n : Nat) (c : TalCtx) : (s.setTctx n c).cont = s.cont := rfl
@[simp] theorem State.setTctx_sec (n : Nat) (c : TalCtx) : (s.setTctx n c).sec = s.sec := rfl
@[simp] theorem State.setTctx_flash (n : Nat) (c : TalCtx) : (s.setTctx n c).flash = s.flash := rfl
@[simp] theorem State.setTctx_power (n : Nat) (c : TalCtx) : (s.setTctx n c).power = s.power := rfl

/-! ### State.setEntry -/

@[simp] theorem State.setEntry_pending (t e : Nat) : (s.setEntry t e).pending = s.pending := rfl
@[simp] theorem State.setEntry_tick (t e : Nat) : (s.setEntry t e).tick = s.tick := rfl
@[simp] theorem State.setEntry_fresh (t e : Nat) : (s.setEntry t e).fresh = s.fresh := rfl
@[simp] theorem State.setEntry_regs (t e : Nat) : (s.setEntry t e).regs = s.regs := rfl
@[simp] theorem State.setEntry_staged (t e : Nat) : (s.setEntry t e).staged = s.staged := rfl
@[simp] theorem State.setEntry_counters (t e : Nat) : (s.setEntry t e).counters = s.counters := rfl
@[simp] theorem State.setEntry_logs (t e : Nat) : (s.setEntry t e).logs = s.logs := rfl
@[simp] theorem State.setEntry_snaps (t e : Nat) : (s.setEntry t e).snaps = s.snaps := rfl
@[simp] theorem State.setEntry_cores (t e : Nat) : (s.setEntry t e).cores = s.cores := rfl
@[simp] theorem State.setEntry_opes (t e : Nat) : (s.setEntry t e).opes = s.opes := rfl
@[simp] theorem State.setEntry_retireDue (t e : Nat) : (s.setEntry t e).retireDue = s.retireDue := rfl
@[simp] theorem State.setEntry_rowEngines (t e : Nat) : (s.setEntry t e).rowEngines = s.rowEngines := rfl
@[simp] theorem State.setEntry_numIn (t e : Nat) : (s.setEntry t e).numIn = s.numIn := rfl
@[simp] theorem State.setEntry_step (t e : Nat) : (s.setEntry t e).step = s.step := rfl
@[simp] theorem State.setEntry_net (t e : Nat) : (s.setEntry t e).net = s.net := rfl
@[simp] theorem State.setEntry_crs (t e : Nat) : (s.setEntry t e).crs = s.crs := rfl
@[simp] theorem State.setEntry_upd (t e : Nat) : (s.setEntry t e).upd = s.upd := rfl
@[simp] theorem State.setEntry_num (t e : Nat) : (s.setEntry t e).num = s.num := rfl
@[simp] theorem State.setEntry_ledger (t e : Nat) : (s.setEntry t e).ledger = s.ledger := rfl
@[simp] theorem State.setEntry_fab (t e : Nat) : (s.setEntry t e).fab = s.fab := rfl
@[simp] theorem State.setEntry_irq (t e : Nat) : (s.setEntry t e).irq = s.irq := rfl
@[simp] theorem State.setEntry_cont (t e : Nat) : (s.setEntry t e).cont = s.cont := rfl
@[simp] theorem State.setEntry_sec (t e : Nat) : (s.setEntry t e).sec = s.sec := rfl
@[simp] theorem State.setEntry_flash (t e : Nat) : (s.setEntry t e).flash = s.flash := rfl
@[simp] theorem State.setEntry_power (t e : Nat) : (s.setEntry t e).power = s.power := rfl
@[simp] theorem State.setEntry_dram (t e : Nat) : (s.setEntry t e).mem.dram = s.mem.dram := rfl

/-! ### State.setStack -/

@[simp] theorem State.setStack_pending (h : Nat) (v : Stack) : (s.setStack h v).pending = s.pending := rfl
@[simp] theorem State.setStack_tick (h : Nat) (v : Stack) : (s.setStack h v).tick = s.tick := rfl
@[simp] theorem State.setStack_fresh (h : Nat) (v : Stack) : (s.setStack h v).fresh = s.fresh := rfl
@[simp] theorem State.setStack_regs (h : Nat) (v : Stack) : (s.setStack h v).regs = s.regs := rfl
@[simp] theorem State.setStack_staged (h : Nat) (v : Stack) : (s.setStack h v).staged = s.staged := rfl
@[simp] theorem State.setStack_counters (h : Nat) (v : Stack) : (s.setStack h v).counters = s.counters := rfl
@[simp] theorem State.setStack_logs (h : Nat) (v : Stack) : (s.setStack h v).logs = s.logs := rfl
@[simp] theorem State.setStack_snaps (h : Nat) (v : Stack) : (s.setStack h v).snaps = s.snaps := rfl
@[simp] theorem State.setStack_cores (h : Nat) (v : Stack) : (s.setStack h v).cores = s.cores := rfl
@[simp] theorem State.setStack_opes (h : Nat) (v : Stack) : (s.setStack h v).opes = s.opes := rfl
@[simp] theorem State.setStack_retireDue (h : Nat) (v : Stack) : (s.setStack h v).retireDue = s.retireDue := rfl
@[simp] theorem State.setStack_rowEngines (h : Nat) (v : Stack) : (s.setStack h v).rowEngines = s.rowEngines := rfl
@[simp] theorem State.setStack_numIn (h : Nat) (v : Stack) : (s.setStack h v).numIn = s.numIn := rfl
@[simp] theorem State.setStack_step (h : Nat) (v : Stack) : (s.setStack h v).step = s.step := rfl
@[simp] theorem State.setStack_net (h : Nat) (v : Stack) : (s.setStack h v).net = s.net := rfl
@[simp] theorem State.setStack_crs (h : Nat) (v : Stack) : (s.setStack h v).crs = s.crs := rfl
@[simp] theorem State.setStack_upd (h : Nat) (v : Stack) : (s.setStack h v).upd = s.upd := rfl
@[simp] theorem State.setStack_num (h : Nat) (v : Stack) : (s.setStack h v).num = s.num := rfl
@[simp] theorem State.setStack_ledger (h : Nat) (v : Stack) : (s.setStack h v).ledger = s.ledger := rfl
@[simp] theorem State.setStack_fab (h : Nat) (v : Stack) : (s.setStack h v).fab = s.fab := rfl
@[simp] theorem State.setStack_irq (h : Nat) (v : Stack) : (s.setStack h v).irq = s.irq := rfl
@[simp] theorem State.setStack_cont (h : Nat) (v : Stack) : (s.setStack h v).cont = s.cont := rfl
@[simp] theorem State.setStack_sec (h : Nat) (v : Stack) : (s.setStack h v).sec = s.sec := rfl
@[simp] theorem State.setStack_flash (h : Nat) (v : Stack) : (s.setStack h v).flash = s.flash := rfl
@[simp] theorem State.setStack_power (h : Nat) (v : Stack) : (s.setStack h v).power = s.power := rfl
@[simp] theorem State.setStack_dram (h : Nat) (v : Stack) : (s.setStack h v).mem.dram = s.mem.dram := rfl

/-! ### State.setStash -/

@[simp] theorem State.setStash_pending (c : Nat) (v : Stash) : (s.setStash c v).pending = s.pending := rfl
@[simp] theorem State.setStash_tick (c : Nat) (v : Stash) : (s.setStash c v).tick = s.tick := rfl
@[simp] theorem State.setStash_fresh (c : Nat) (v : Stash) : (s.setStash c v).fresh = s.fresh := rfl
@[simp] theorem State.setStash_regs (c : Nat) (v : Stash) : (s.setStash c v).regs = s.regs := rfl
@[simp] theorem State.setStash_staged (c : Nat) (v : Stash) : (s.setStash c v).staged = s.staged := rfl
@[simp] theorem State.setStash_counters (c : Nat) (v : Stash) : (s.setStash c v).counters = s.counters := rfl
@[simp] theorem State.setStash_logs (c : Nat) (v : Stash) : (s.setStash c v).logs = s.logs := rfl
@[simp] theorem State.setStash_snaps (c : Nat) (v : Stash) : (s.setStash c v).snaps = s.snaps := rfl
@[simp] theorem State.setStash_cores (c : Nat) (v : Stash) : (s.setStash c v).cores = s.cores := rfl
@[simp] theorem State.setStash_opes (c : Nat) (v : Stash) : (s.setStash c v).opes = s.opes := rfl
@[simp] theorem State.setStash_retireDue (c : Nat) (v : Stash) : (s.setStash c v).retireDue = s.retireDue := rfl
@[simp] theorem State.setStash_rowEngines (c : Nat) (v : Stash) : (s.setStash c v).rowEngines = s.rowEngines := rfl
@[simp] theorem State.setStash_numIn (c : Nat) (v : Stash) : (s.setStash c v).numIn = s.numIn := rfl
@[simp] theorem State.setStash_step (c : Nat) (v : Stash) : (s.setStash c v).step = s.step := rfl
@[simp] theorem State.setStash_net (c : Nat) (v : Stash) : (s.setStash c v).net = s.net := rfl
@[simp] theorem State.setStash_crs (c : Nat) (v : Stash) : (s.setStash c v).crs = s.crs := rfl
@[simp] theorem State.setStash_upd (c : Nat) (v : Stash) : (s.setStash c v).upd = s.upd := rfl
@[simp] theorem State.setStash_num (c : Nat) (v : Stash) : (s.setStash c v).num = s.num := rfl
@[simp] theorem State.setStash_ledger (c : Nat) (v : Stash) : (s.setStash c v).ledger = s.ledger := rfl
@[simp] theorem State.setStash_fab (c : Nat) (v : Stash) : (s.setStash c v).fab = s.fab := rfl
@[simp] theorem State.setStash_irq (c : Nat) (v : Stash) : (s.setStash c v).irq = s.irq := rfl
@[simp] theorem State.setStash_cont (c : Nat) (v : Stash) : (s.setStash c v).cont = s.cont := rfl
@[simp] theorem State.setStash_sec (c : Nat) (v : Stash) : (s.setStash c v).sec = s.sec := rfl
@[simp] theorem State.setStash_flash (c : Nat) (v : Stash) : (s.setStash c v).flash = s.flash := rfl
@[simp] theorem State.setStash_power (c : Nat) (v : Stash) : (s.setStash c v).power = s.power := rfl
@[simp] theorem State.setStash_dram (c : Nat) (v : Stash) : (s.setStash c v).mem.dram = s.mem.dram := rfl

/-! ### State.setMover -/

@[simp] theorem State.setMover_pending (c : Nat) (v : Mover) : (s.setMover c v).pending = s.pending := rfl
@[simp] theorem State.setMover_tick (c : Nat) (v : Mover) : (s.setMover c v).tick = s.tick := rfl
@[simp] theorem State.setMover_fresh (c : Nat) (v : Mover) : (s.setMover c v).fresh = s.fresh := rfl
@[simp] theorem State.setMover_regs (c : Nat) (v : Mover) : (s.setMover c v).regs = s.regs := rfl
@[simp] theorem State.setMover_staged (c : Nat) (v : Mover) : (s.setMover c v).staged = s.staged := rfl
@[simp] theorem State.setMover_counters (c : Nat) (v : Mover) : (s.setMover c v).counters = s.counters := rfl
@[simp] theorem State.setMover_logs (c : Nat) (v : Mover) : (s.setMover c v).logs = s.logs := rfl
@[simp] theorem State.setMover_snaps (c : Nat) (v : Mover) : (s.setMover c v).snaps = s.snaps := rfl
@[simp] theorem State.setMover_cores (c : Nat) (v : Mover) : (s.setMover c v).cores = s.cores := rfl
@[simp] theorem State.setMover_opes (c : Nat) (v : Mover) : (s.setMover c v).opes = s.opes := rfl
@[simp] theorem State.setMover_retireDue (c : Nat) (v : Mover) : (s.setMover c v).retireDue = s.retireDue := rfl
@[simp] theorem State.setMover_rowEngines (c : Nat) (v : Mover) : (s.setMover c v).rowEngines = s.rowEngines := rfl
@[simp] theorem State.setMover_numIn (c : Nat) (v : Mover) : (s.setMover c v).numIn = s.numIn := rfl
@[simp] theorem State.setMover_step (c : Nat) (v : Mover) : (s.setMover c v).step = s.step := rfl
@[simp] theorem State.setMover_net (c : Nat) (v : Mover) : (s.setMover c v).net = s.net := rfl
@[simp] theorem State.setMover_crs (c : Nat) (v : Mover) : (s.setMover c v).crs = s.crs := rfl
@[simp] theorem State.setMover_upd (c : Nat) (v : Mover) : (s.setMover c v).upd = s.upd := rfl
@[simp] theorem State.setMover_num (c : Nat) (v : Mover) : (s.setMover c v).num = s.num := rfl
@[simp] theorem State.setMover_ledger (c : Nat) (v : Mover) : (s.setMover c v).ledger = s.ledger := rfl
@[simp] theorem State.setMover_fab (c : Nat) (v : Mover) : (s.setMover c v).fab = s.fab := rfl
@[simp] theorem State.setMover_irq (c : Nat) (v : Mover) : (s.setMover c v).irq = s.irq := rfl
@[simp] theorem State.setMover_cont (c : Nat) (v : Mover) : (s.setMover c v).cont = s.cont := rfl
@[simp] theorem State.setMover_sec (c : Nat) (v : Mover) : (s.setMover c v).sec = s.sec := rfl
@[simp] theorem State.setMover_flash (c : Nat) (v : Mover) : (s.setMover c v).flash = s.flash := rfl
@[simp] theorem State.setMover_power (c : Nat) (v : Mover) : (s.setMover c v).power = s.power := rfl
@[simp] theorem State.setMover_dram (c : Nat) (v : Mover) : (s.setMover c v).mem.dram = s.mem.dram := rfl

/-! ### State.trigger -/

@[simp] theorem State.trigger_pending (cause target c : Nat) : (s.trigger cause target c).pending = s.pending := rfl
@[simp] theorem State.trigger_tick (cause target c : Nat) : (s.trigger cause target c).tick = s.tick := rfl
@[simp] theorem State.trigger_fresh (cause target c : Nat) : (s.trigger cause target c).fresh = s.fresh := rfl
@[simp] theorem State.trigger_regs (cause target c : Nat) : (s.trigger cause target c).regs = s.regs := rfl
@[simp] theorem State.trigger_staged (cause target c : Nat) : (s.trigger cause target c).staged = s.staged := rfl
@[simp] theorem State.trigger_counters (cause target c : Nat) : (s.trigger cause target c).counters = s.counters := rfl
@[simp] theorem State.trigger_logs (cause target c : Nat) : (s.trigger cause target c).logs = s.logs := rfl
@[simp] theorem State.trigger_snaps (cause target c : Nat) : (s.trigger cause target c).snaps = s.snaps := rfl
@[simp] theorem State.trigger_cores (cause target c : Nat) : (s.trigger cause target c).cores = s.cores := rfl
@[simp] theorem State.trigger_opes (cause target c : Nat) : (s.trigger cause target c).opes = s.opes := rfl
@[simp] theorem State.trigger_retireDue (cause target c : Nat) : (s.trigger cause target c).retireDue = s.retireDue := rfl
@[simp] theorem State.trigger_rowEngines (cause target c : Nat) : (s.trigger cause target c).rowEngines = s.rowEngines := rfl
@[simp] theorem State.trigger_numIn (cause target c : Nat) : (s.trigger cause target c).numIn = s.numIn := rfl
@[simp] theorem State.trigger_step (cause target c : Nat) : (s.trigger cause target c).step = s.step := rfl
@[simp] theorem State.trigger_net (cause target c : Nat) : (s.trigger cause target c).net = s.net := rfl
@[simp] theorem State.trigger_crs (cause target c : Nat) : (s.trigger cause target c).crs = s.crs := rfl
@[simp] theorem State.trigger_upd (cause target c : Nat) : (s.trigger cause target c).upd = s.upd := rfl
@[simp] theorem State.trigger_num (cause target c : Nat) : (s.trigger cause target c).num = s.num := rfl
@[simp] theorem State.trigger_ledger (cause target c : Nat) : (s.trigger cause target c).ledger = s.ledger := rfl
@[simp] theorem State.trigger_fab (cause target c : Nat) : (s.trigger cause target c).fab = s.fab := rfl
@[simp] theorem State.trigger_irq (cause target c : Nat) : (s.trigger cause target c).irq = s.irq := rfl
@[simp] theorem State.trigger_cont (cause target c : Nat) : (s.trigger cause target c).cont = s.cont := rfl
@[simp] theorem State.trigger_sec (cause target c : Nat) : (s.trigger cause target c).sec = s.sec := rfl
@[simp] theorem State.trigger_flash (cause target c : Nat) : (s.trigger cause target c).flash = s.flash := rfl
@[simp] theorem State.trigger_power (cause target c : Nat) : (s.trigger cause target c).power = s.power := rfl
@[simp] theorem State.trigger_dram (cause target c : Nat) : (s.trigger cause target c).mem.dram = s.mem.dram := rfl

/-! ### State.toLedger -/

@[simp] theorem State.toLedger_pending (unit kind locus : Nat) : (s.toLedger unit kind locus).pending = s.pending := rfl
@[simp] theorem State.toLedger_tick (unit kind locus : Nat) : (s.toLedger unit kind locus).tick = s.tick := rfl
@[simp] theorem State.toLedger_fresh (unit kind locus : Nat) : (s.toLedger unit kind locus).fresh = s.fresh := rfl
@[simp] theorem State.toLedger_regs (unit kind locus : Nat) : (s.toLedger unit kind locus).regs = s.regs := rfl
@[simp] theorem State.toLedger_staged (unit kind locus : Nat) : (s.toLedger unit kind locus).staged = s.staged := rfl
@[simp] theorem State.toLedger_counters (unit kind locus : Nat) : (s.toLedger unit kind locus).counters = s.counters := rfl
@[simp] theorem State.toLedger_logs (unit kind locus : Nat) : (s.toLedger unit kind locus).logs = s.logs := rfl
@[simp] theorem State.toLedger_snaps (unit kind locus : Nat) : (s.toLedger unit kind locus).snaps = s.snaps := rfl
@[simp] theorem State.toLedger_cores (unit kind locus : Nat) : (s.toLedger unit kind locus).cores = s.cores := rfl
@[simp] theorem State.toLedger_opes (unit kind locus : Nat) : (s.toLedger unit kind locus).opes = s.opes := rfl
@[simp] theorem State.toLedger_retireDue (unit kind locus : Nat) : (s.toLedger unit kind locus).retireDue = s.retireDue := rfl
@[simp] theorem State.toLedger_rowEngines (unit kind locus : Nat) : (s.toLedger unit kind locus).rowEngines = s.rowEngines := rfl
@[simp] theorem State.toLedger_numIn (unit kind locus : Nat) : (s.toLedger unit kind locus).numIn = s.numIn := rfl
@[simp] theorem State.toLedger_step (unit kind locus : Nat) : (s.toLedger unit kind locus).step = s.step := rfl
@[simp] theorem State.toLedger_net (unit kind locus : Nat) : (s.toLedger unit kind locus).net = s.net := rfl
@[simp] theorem State.toLedger_crs (unit kind locus : Nat) : (s.toLedger unit kind locus).crs = s.crs := rfl
@[simp] theorem State.toLedger_upd (unit kind locus : Nat) : (s.toLedger unit kind locus).upd = s.upd := rfl
@[simp] theorem State.toLedger_num (unit kind locus : Nat) : (s.toLedger unit kind locus).num = s.num := rfl
@[simp] theorem State.toLedger_ledger (unit kind locus : Nat) : (s.toLedger unit kind locus).ledger = s.ledger := rfl
@[simp] theorem State.toLedger_fab (unit kind locus : Nat) : (s.toLedger unit kind locus).fab = s.fab := rfl
@[simp] theorem State.toLedger_irq (unit kind locus : Nat) : (s.toLedger unit kind locus).irq = s.irq := rfl
@[simp] theorem State.toLedger_cont (unit kind locus : Nat) : (s.toLedger unit kind locus).cont = s.cont := rfl
@[simp] theorem State.toLedger_sec (unit kind locus : Nat) : (s.toLedger unit kind locus).sec = s.sec := rfl
@[simp] theorem State.toLedger_flash (unit kind locus : Nat) : (s.toLedger unit kind locus).flash = s.flash := rfl
@[simp] theorem State.toLedger_power (unit kind locus : Nat) : (s.toLedger unit kind locus).power = s.power := rfl
@[simp] theorem State.toLedger_dram (unit kind locus : Nat) : (s.toLedger unit kind locus).mem.dram = s.mem.dram := rfl

/-! ### State.poisonLine -/

@[simp] theorem State.poisonLine_pending (a : Nat) : (s.poisonLine a).pending = s.pending := rfl
@[simp] theorem State.poisonLine_tick (a : Nat) : (s.poisonLine a).tick = s.tick := rfl
@[simp] theorem State.poisonLine_fresh (a : Nat) : (s.poisonLine a).fresh = s.fresh := rfl
@[simp] theorem State.poisonLine_regs (a : Nat) : (s.poisonLine a).regs = s.regs := rfl
@[simp] theorem State.poisonLine_staged (a : Nat) : (s.poisonLine a).staged = s.staged := rfl
@[simp] theorem State.poisonLine_counters (a : Nat) : (s.poisonLine a).counters = s.counters := rfl
@[simp] theorem State.poisonLine_logs (a : Nat) : (s.poisonLine a).logs = s.logs := rfl
@[simp] theorem State.poisonLine_snaps (a : Nat) : (s.poisonLine a).snaps = s.snaps := rfl
@[simp] theorem State.poisonLine_cores (a : Nat) : (s.poisonLine a).cores = s.cores := rfl
@[simp] theorem State.poisonLine_opes (a : Nat) : (s.poisonLine a).opes = s.opes := rfl
@[simp] theorem State.poisonLine_retireDue (a : Nat) : (s.poisonLine a).retireDue = s.retireDue := rfl
@[simp] theorem State.poisonLine_rowEngines (a : Nat) : (s.poisonLine a).rowEngines = s.rowEngines := rfl
@[simp] theorem State.poisonLine_numIn (a : Nat) : (s.poisonLine a).numIn = s.numIn := rfl
@[simp] theorem State.poisonLine_step (a : Nat) : (s.poisonLine a).step = s.step := rfl
@[simp] theorem State.poisonLine_net (a : Nat) : (s.poisonLine a).net = s.net := rfl
@[simp] theorem State.poisonLine_crs (a : Nat) : (s.poisonLine a).crs = s.crs := rfl
@[simp] theorem State.poisonLine_upd (a : Nat) : (s.poisonLine a).upd = s.upd := rfl
@[simp] theorem State.poisonLine_num (a : Nat) : (s.poisonLine a).num = s.num := rfl
@[simp] theorem State.poisonLine_ledger (a : Nat) : (s.poisonLine a).ledger = s.ledger := rfl
@[simp] theorem State.poisonLine_fab (a : Nat) : (s.poisonLine a).fab = s.fab := rfl
@[simp] theorem State.poisonLine_irq (a : Nat) : (s.poisonLine a).irq = s.irq := rfl
@[simp] theorem State.poisonLine_cont (a : Nat) : (s.poisonLine a).cont = s.cont := rfl
@[simp] theorem State.poisonLine_sec (a : Nat) : (s.poisonLine a).sec = s.sec := rfl
@[simp] theorem State.poisonLine_flash (a : Nat) : (s.poisonLine a).flash = s.flash := rfl
@[simp] theorem State.poisonLine_power (a : Nat) : (s.poisonLine a).power = s.power := rfl
@[simp] theorem State.poisonLine_dram (a : Nat) : (s.poisonLine a).mem.dram = s.mem.dram := rfl

/-! ### State.putLines -/

@[simp] theorem State.putLines_pending (a n : Nat) (b : List Host.Cell) (i : Nat) (k : NSet) : (s.putLines a n b i k).pending = s.pending := rfl
@[simp] theorem State.putLines_tick (a n : Nat) (b : List Host.Cell) (i : Nat) (k : NSet) : (s.putLines a n b i k).tick = s.tick := rfl
@[simp] theorem State.putLines_fresh (a n : Nat) (b : List Host.Cell) (i : Nat) (k : NSet) : (s.putLines a n b i k).fresh = s.fresh := rfl
@[simp] theorem State.putLines_regs (a n : Nat) (b : List Host.Cell) (i : Nat) (k : NSet) : (s.putLines a n b i k).regs = s.regs := rfl
@[simp] theorem State.putLines_staged (a n : Nat) (b : List Host.Cell) (i : Nat) (k : NSet) : (s.putLines a n b i k).staged = s.staged := rfl
@[simp] theorem State.putLines_counters (a n : Nat) (b : List Host.Cell) (i : Nat) (k : NSet) : (s.putLines a n b i k).counters = s.counters := rfl
@[simp] theorem State.putLines_logs (a n : Nat) (b : List Host.Cell) (i : Nat) (k : NSet) : (s.putLines a n b i k).logs = s.logs := rfl
@[simp] theorem State.putLines_snaps (a n : Nat) (b : List Host.Cell) (i : Nat) (k : NSet) : (s.putLines a n b i k).snaps = s.snaps := rfl
@[simp] theorem State.putLines_cores (a n : Nat) (b : List Host.Cell) (i : Nat) (k : NSet) : (s.putLines a n b i k).cores = s.cores := rfl
@[simp] theorem State.putLines_opes (a n : Nat) (b : List Host.Cell) (i : Nat) (k : NSet) : (s.putLines a n b i k).opes = s.opes := rfl
@[simp] theorem State.putLines_retireDue (a n : Nat) (b : List Host.Cell) (i : Nat) (k : NSet) : (s.putLines a n b i k).retireDue = s.retireDue := rfl
@[simp] theorem State.putLines_rowEngines (a n : Nat) (b : List Host.Cell) (i : Nat) (k : NSet) : (s.putLines a n b i k).rowEngines = s.rowEngines := rfl
@[simp] theorem State.putLines_numIn (a n : Nat) (b : List Host.Cell) (i : Nat) (k : NSet) : (s.putLines a n b i k).numIn = s.numIn := rfl
@[simp] theorem State.putLines_step (a n : Nat) (b : List Host.Cell) (i : Nat) (k : NSet) : (s.putLines a n b i k).step = s.step := rfl
@[simp] theorem State.putLines_net (a n : Nat) (b : List Host.Cell) (i : Nat) (k : NSet) : (s.putLines a n b i k).net = s.net := rfl
@[simp] theorem State.putLines_crs (a n : Nat) (b : List Host.Cell) (i : Nat) (k : NSet) : (s.putLines a n b i k).crs = s.crs := rfl
@[simp] theorem State.putLines_upd (a n : Nat) (b : List Host.Cell) (i : Nat) (k : NSet) : (s.putLines a n b i k).upd = s.upd := rfl
@[simp] theorem State.putLines_num (a n : Nat) (b : List Host.Cell) (i : Nat) (k : NSet) : (s.putLines a n b i k).num = s.num := rfl
@[simp] theorem State.putLines_ledger (a n : Nat) (b : List Host.Cell) (i : Nat) (k : NSet) : (s.putLines a n b i k).ledger = s.ledger := rfl
@[simp] theorem State.putLines_fab (a n : Nat) (b : List Host.Cell) (i : Nat) (k : NSet) : (s.putLines a n b i k).fab = s.fab := rfl
@[simp] theorem State.putLines_irq (a n : Nat) (b : List Host.Cell) (i : Nat) (k : NSet) : (s.putLines a n b i k).irq = s.irq := rfl
@[simp] theorem State.putLines_cont (a n : Nat) (b : List Host.Cell) (i : Nat) (k : NSet) : (s.putLines a n b i k).cont = s.cont := rfl
@[simp] theorem State.putLines_sec (a n : Nat) (b : List Host.Cell) (i : Nat) (k : NSet) : (s.putLines a n b i k).sec = s.sec := rfl
@[simp] theorem State.putLines_flash (a n : Nat) (b : List Host.Cell) (i : Nat) (k : NSet) : (s.putLines a n b i k).flash = s.flash := rfl
@[simp] theorem State.putLines_power (a n : Nat) (b : List Host.Cell) (i : Nat) (k : NSet) : (s.putLines a n b i k).power = s.power := rfl

/-! ### State.putTctx -/

@[simp] theorem State.putTctx_pending (n : Nat) (c : TalCtx) : (s.putTctx n c).pending = s.pending := rfl
@[simp] theorem State.putTctx_tick (n : Nat) (c : TalCtx) : (s.putTctx n c).tick = s.tick := rfl
@[simp] theorem State.putTctx_fresh (n : Nat) (c : TalCtx) : (s.putTctx n c).fresh = s.fresh := rfl
@[simp] theorem State.putTctx_regs (n : Nat) (c : TalCtx) : (s.putTctx n c).regs = s.regs := rfl
@[simp] theorem State.putTctx_staged (n : Nat) (c : TalCtx) : (s.putTctx n c).staged = s.staged := rfl
@[simp] theorem State.putTctx_counters (n : Nat) (c : TalCtx) : (s.putTctx n c).counters = s.counters := rfl
@[simp] theorem State.putTctx_logs (n : Nat) (c : TalCtx) : (s.putTctx n c).logs = s.logs := rfl
@[simp] theorem State.putTctx_snaps (n : Nat) (c : TalCtx) : (s.putTctx n c).snaps = s.snaps := rfl
@[simp] theorem State.putTctx_cores (n : Nat) (c : TalCtx) : (s.putTctx n c).cores = s.cores := rfl
@[simp] theorem State.putTctx_opes (n : Nat) (c : TalCtx) : (s.putTctx n c).opes = s.opes := rfl
@[simp] theorem State.putTctx_mem (n : Nat) (c : TalCtx) : (s.putTctx n c).mem = s.mem := rfl
@[simp] theorem State.putTctx_retireDue (n : Nat) (c : TalCtx) : (s.putTctx n c).retireDue = s.retireDue := rfl
@[simp] theorem State.putTctx_rowEngines (n : Nat) (c : TalCtx) : (s.putTctx n c).rowEngines = s.rowEngines := rfl
@[simp] theorem State.putTctx_numIn (n : Nat) (c : TalCtx) : (s.putTctx n c).numIn = s.numIn := rfl
@[simp] theorem State.putTctx_step (n : Nat) (c : TalCtx) : (s.putTctx n c).step = s.step := rfl
@[simp] theorem State.putTctx_crs (n : Nat) (c : TalCtx) : (s.putTctx n c).crs = s.crs := rfl
@[simp] theorem State.putTctx_upd (n : Nat) (c : TalCtx) : (s.putTctx n c).upd = s.upd := rfl
@[simp] theorem State.putTctx_num (n : Nat) (c : TalCtx) : (s.putTctx n c).num = s.num := rfl
@[simp] theorem State.putTctx_ledger (n : Nat) (c : TalCtx) : (s.putTctx n c).ledger = s.ledger := rfl
@[simp] theorem State.putTctx_fab (n : Nat) (c : TalCtx) : (s.putTctx n c).fab = s.fab := rfl
@[simp] theorem State.putTctx_irq (n : Nat) (c : TalCtx) : (s.putTctx n c).irq = s.irq := rfl
@[simp] theorem State.putTctx_cont (n : Nat) (c : TalCtx) : (s.putTctx n c).cont = s.cont := rfl
@[simp] theorem State.putTctx_sec (n : Nat) (c : TalCtx) : (s.putTctx n c).sec = s.sec := rfl
@[simp] theorem State.putTctx_flash (n : Nat) (c : TalCtx) : (s.putTctx n c).flash = s.flash := rfl
@[simp] theorem State.putTctx_power (n : Nat) (c : TalCtx) : (s.putTctx n c).power = s.power := rfl

/-! ### State.setSic -/

@[simp] theorem State.setSic_pending (c : Nat) (v : Sic) : (s.setSic c v).pending = s.pending := rfl
@[simp] theorem State.setSic_tick (c : Nat) (v : Sic) : (s.setSic c v).tick = s.tick := rfl
@[simp] theorem State.setSic_fresh (c : Nat) (v : Sic) : (s.setSic c v).fresh = s.fresh := rfl
@[simp] theorem State.setSic_regs (c : Nat) (v : Sic) : (s.setSic c v).regs = s.regs := rfl
@[simp] theorem State.setSic_staged (c : Nat) (v : Sic) : (s.setSic c v).staged = s.staged := rfl
@[simp] theorem State.setSic_counters (c : Nat) (v : Sic) : (s.setSic c v).counters = s.counters := rfl
@[simp] theorem State.setSic_logs (c : Nat) (v : Sic) : (s.setSic c v).logs = s.logs := rfl
@[simp] theorem State.setSic_snaps (c : Nat) (v : Sic) : (s.setSic c v).snaps = s.snaps := rfl
@[simp] theorem State.setSic_cores (c : Nat) (v : Sic) : (s.setSic c v).cores = s.cores := rfl
@[simp] theorem State.setSic_opes (c : Nat) (v : Sic) : (s.setSic c v).opes = s.opes := rfl
@[simp] theorem State.setSic_mem (c : Nat) (v : Sic) : (s.setSic c v).mem = s.mem := rfl
@[simp] theorem State.setSic_retireDue (c : Nat) (v : Sic) : (s.setSic c v).retireDue = s.retireDue := rfl
@[simp] theorem State.setSic_rowEngines (c : Nat) (v : Sic) : (s.setSic c v).rowEngines = s.rowEngines := rfl
@[simp] theorem State.setSic_numIn (c : Nat) (v : Sic) : (s.setSic c v).numIn = s.numIn := rfl
@[simp] theorem State.setSic_step (c : Nat) (v : Sic) : (s.setSic c v).step = s.step := rfl
@[simp] theorem State.setSic_net (c : Nat) (v : Sic) : (s.setSic c v).net = s.net := rfl
@[simp] theorem State.setSic_crs (c : Nat) (v : Sic) : (s.setSic c v).crs = s.crs := rfl
@[simp] theorem State.setSic_upd (c : Nat) (v : Sic) : (s.setSic c v).upd = s.upd := rfl
@[simp] theorem State.setSic_num (c : Nat) (v : Sic) : (s.setSic c v).num = s.num := rfl
@[simp] theorem State.setSic_ledger (c : Nat) (v : Sic) : (s.setSic c v).ledger = s.ledger := rfl
@[simp] theorem State.setSic_fab (c : Nat) (v : Sic) : (s.setSic c v).fab = s.fab := rfl
@[simp] theorem State.setSic_cont (c : Nat) (v : Sic) : (s.setSic c v).cont = s.cont := rfl
@[simp] theorem State.setSic_sec (c : Nat) (v : Sic) : (s.setSic c v).sec = s.sec := rfl
@[simp] theorem State.setSic_flash (c : Nat) (v : Sic) : (s.setSic c v).flash = s.flash := rfl
@[simp] theorem State.setSic_power (c : Nat) (v : Sic) : (s.setSic c v).power = s.power := rfl

/-! ### State.setLicTarget -/

@[simp] theorem State.setLicTarget_pending (c : Nat) (v : LicTarget) : (s.setLicTarget c v).pending = s.pending := rfl
@[simp] theorem State.setLicTarget_tick (c : Nat) (v : LicTarget) : (s.setLicTarget c v).tick = s.tick := rfl
@[simp] theorem State.setLicTarget_fresh (c : Nat) (v : LicTarget) : (s.setLicTarget c v).fresh = s.fresh := rfl
@[simp] theorem State.setLicTarget_regs (c : Nat) (v : LicTarget) : (s.setLicTarget c v).regs = s.regs := rfl
@[simp] theorem State.setLicTarget_staged (c : Nat) (v : LicTarget) : (s.setLicTarget c v).staged = s.staged := rfl
@[simp] theorem State.setLicTarget_counters (c : Nat) (v : LicTarget) : (s.setLicTarget c v).counters = s.counters := rfl
@[simp] theorem State.setLicTarget_logs (c : Nat) (v : LicTarget) : (s.setLicTarget c v).logs = s.logs := rfl
@[simp] theorem State.setLicTarget_snaps (c : Nat) (v : LicTarget) : (s.setLicTarget c v).snaps = s.snaps := rfl
@[simp] theorem State.setLicTarget_cores (c : Nat) (v : LicTarget) : (s.setLicTarget c v).cores = s.cores := rfl
@[simp] theorem State.setLicTarget_opes (c : Nat) (v : LicTarget) : (s.setLicTarget c v).opes = s.opes := rfl
@[simp] theorem State.setLicTarget_mem (c : Nat) (v : LicTarget) : (s.setLicTarget c v).mem = s.mem := rfl
@[simp] theorem State.setLicTarget_retireDue (c : Nat) (v : LicTarget) : (s.setLicTarget c v).retireDue = s.retireDue := rfl
@[simp] theorem State.setLicTarget_rowEngines (c : Nat) (v : LicTarget) : (s.setLicTarget c v).rowEngines = s.rowEngines := rfl
@[simp] theorem State.setLicTarget_numIn (c : Nat) (v : LicTarget) : (s.setLicTarget c v).numIn = s.numIn := rfl
@[simp] theorem State.setLicTarget_step (c : Nat) (v : LicTarget) : (s.setLicTarget c v).step = s.step := rfl
@[simp] theorem State.setLicTarget_net (c : Nat) (v : LicTarget) : (s.setLicTarget c v).net = s.net := rfl
@[simp] theorem State.setLicTarget_crs (c : Nat) (v : LicTarget) : (s.setLicTarget c v).crs = s.crs := rfl
@[simp] theorem State.setLicTarget_upd (c : Nat) (v : LicTarget) : (s.setLicTarget c v).upd = s.upd := rfl
@[simp] theorem State.setLicTarget_num (c : Nat) (v : LicTarget) : (s.setLicTarget c v).num = s.num := rfl
@[simp] theorem State.setLicTarget_ledger (c : Nat) (v : LicTarget) : (s.setLicTarget c v).ledger = s.ledger := rfl
@[simp] theorem State.setLicTarget_fab (c : Nat) (v : LicTarget) : (s.setLicTarget c v).fab = s.fab := rfl
@[simp] theorem State.setLicTarget_cont (c : Nat) (v : LicTarget) : (s.setLicTarget c v).cont = s.cont := rfl
@[simp] theorem State.setLicTarget_sec (c : Nat) (v : LicTarget) : (s.setLicTarget c v).sec = s.sec := rfl
@[simp] theorem State.setLicTarget_flash (c : Nat) (v : LicTarget) : (s.setLicTarget c v).flash = s.flash := rfl
@[simp] theorem State.setLicTarget_power (c : Nat) (v : LicTarget) : (s.setLicTarget c v).power = s.power := rfl

/-! ### State.setBox -/

@[simp] theorem State.setBox_pending (c : Nat) (l : List Nat) : (s.setBox c l).pending = s.pending := rfl
@[simp] theorem State.setBox_tick (c : Nat) (l : List Nat) : (s.setBox c l).tick = s.tick := rfl
@[simp] theorem State.setBox_fresh (c : Nat) (l : List Nat) : (s.setBox c l).fresh = s.fresh := rfl
@[simp] theorem State.setBox_regs (c : Nat) (l : List Nat) : (s.setBox c l).regs = s.regs := rfl
@[simp] theorem State.setBox_staged (c : Nat) (l : List Nat) : (s.setBox c l).staged = s.staged := rfl
@[simp] theorem State.setBox_counters (c : Nat) (l : List Nat) : (s.setBox c l).counters = s.counters := rfl
@[simp] theorem State.setBox_logs (c : Nat) (l : List Nat) : (s.setBox c l).logs = s.logs := rfl
@[simp] theorem State.setBox_snaps (c : Nat) (l : List Nat) : (s.setBox c l).snaps = s.snaps := rfl
@[simp] theorem State.setBox_cores (c : Nat) (l : List Nat) : (s.setBox c l).cores = s.cores := rfl
@[simp] theorem State.setBox_opes (c : Nat) (l : List Nat) : (s.setBox c l).opes = s.opes := rfl
@[simp] theorem State.setBox_mem (c : Nat) (l : List Nat) : (s.setBox c l).mem = s.mem := rfl
@[simp] theorem State.setBox_retireDue (c : Nat) (l : List Nat) : (s.setBox c l).retireDue = s.retireDue := rfl
@[simp] theorem State.setBox_rowEngines (c : Nat) (l : List Nat) : (s.setBox c l).rowEngines = s.rowEngines := rfl
@[simp] theorem State.setBox_numIn (c : Nat) (l : List Nat) : (s.setBox c l).numIn = s.numIn := rfl
@[simp] theorem State.setBox_step (c : Nat) (l : List Nat) : (s.setBox c l).step = s.step := rfl
@[simp] theorem State.setBox_net (c : Nat) (l : List Nat) : (s.setBox c l).net = s.net := rfl
@[simp] theorem State.setBox_crs (c : Nat) (l : List Nat) : (s.setBox c l).crs = s.crs := rfl
@[simp] theorem State.setBox_upd (c : Nat) (l : List Nat) : (s.setBox c l).upd = s.upd := rfl
@[simp] theorem State.setBox_num (c : Nat) (l : List Nat) : (s.setBox c l).num = s.num := rfl
@[simp] theorem State.setBox_ledger (c : Nat) (l : List Nat) : (s.setBox c l).ledger = s.ledger := rfl
@[simp] theorem State.setBox_fab (c : Nat) (l : List Nat) : (s.setBox c l).fab = s.fab := rfl
@[simp] theorem State.setBox_cont (c : Nat) (l : List Nat) : (s.setBox c l).cont = s.cont := rfl
@[simp] theorem State.setBox_sec (c : Nat) (l : List Nat) : (s.setBox c l).sec = s.sec := rfl
@[simp] theorem State.setBox_flash (c : Nat) (l : List Nat) : (s.setBox c l).flash = s.flash := rfl
@[simp] theorem State.setBox_power (c : Nat) (l : List Nat) : (s.setBox c l).power = s.power := rfl

/-! ### State.setClock -/

@[simp] theorem State.setClock_pending (d : Nat) (k : Clock) : (s.setClock d k).pending = s.pending := rfl
@[simp] theorem State.setClock_tick (d : Nat) (k : Clock) : (s.setClock d k).tick = s.tick := rfl
@[simp] theorem State.setClock_fresh (d : Nat) (k : Clock) : (s.setClock d k).fresh = s.fresh := rfl
@[simp] theorem State.setClock_regs (d : Nat) (k : Clock) : (s.setClock d k).regs = s.regs := rfl
@[simp] theorem State.setClock_staged (d : Nat) (k : Clock) : (s.setClock d k).staged = s.staged := rfl
@[simp] theorem State.setClock_counters (d : Nat) (k : Clock) : (s.setClock d k).counters = s.counters := rfl
@[simp] theorem State.setClock_logs (d : Nat) (k : Clock) : (s.setClock d k).logs = s.logs := rfl
@[simp] theorem State.setClock_snaps (d : Nat) (k : Clock) : (s.setClock d k).snaps = s.snaps := rfl
@[simp] theorem State.setClock_cores (d : Nat) (k : Clock) : (s.setClock d k).cores = s.cores := rfl
@[simp] theorem State.setClock_opes (d : Nat) (k : Clock) : (s.setClock d k).opes = s.opes := rfl
@[simp] theorem State.setClock_mem (d : Nat) (k : Clock) : (s.setClock d k).mem = s.mem := rfl
@[simp] theorem State.setClock_retireDue (d : Nat) (k : Clock) : (s.setClock d k).retireDue = s.retireDue := rfl
@[simp] theorem State.setClock_rowEngines (d : Nat) (k : Clock) : (s.setClock d k).rowEngines = s.rowEngines := rfl
@[simp] theorem State.setClock_numIn (d : Nat) (k : Clock) : (s.setClock d k).numIn = s.numIn := rfl
@[simp] theorem State.setClock_step (d : Nat) (k : Clock) : (s.setClock d k).step = s.step := rfl
@[simp] theorem State.setClock_net (d : Nat) (k : Clock) : (s.setClock d k).net = s.net := rfl
@[simp] theorem State.setClock_crs (d : Nat) (k : Clock) : (s.setClock d k).crs = s.crs := rfl
@[simp] theorem State.setClock_upd (d : Nat) (k : Clock) : (s.setClock d k).upd = s.upd := rfl
@[simp] theorem State.setClock_num (d : Nat) (k : Clock) : (s.setClock d k).num = s.num := rfl
@[simp] theorem State.setClock_ledger (d : Nat) (k : Clock) : (s.setClock d k).ledger = s.ledger := rfl
@[simp] theorem State.setClock_irq (d : Nat) (k : Clock) : (s.setClock d k).irq = s.irq := rfl
@[simp] theorem State.setClock_cont (d : Nat) (k : Clock) : (s.setClock d k).cont = s.cont := rfl
@[simp] theorem State.setClock_sec (d : Nat) (k : Clock) : (s.setClock d k).sec = s.sec := rfl
@[simp] theorem State.setClock_flash (d : Nat) (k : Clock) : (s.setClock d k).flash = s.flash := rfl
@[simp] theorem State.setClock_power (d : Nat) (k : Clock) : (s.setClock d k).power = s.power := rfl

/-! ### State.setRouter -/

@[simp] theorem State.setRouter_pending (site : Nat) (r : Router) : (s.setRouter site r).pending = s.pending := rfl
@[simp] theorem State.setRouter_tick (site : Nat) (r : Router) : (s.setRouter site r).tick = s.tick := rfl
@[simp] theorem State.setRouter_fresh (site : Nat) (r : Router) : (s.setRouter site r).fresh = s.fresh := rfl
@[simp] theorem State.setRouter_regs (site : Nat) (r : Router) : (s.setRouter site r).regs = s.regs := rfl
@[simp] theorem State.setRouter_staged (site : Nat) (r : Router) : (s.setRouter site r).staged = s.staged := rfl
@[simp] theorem State.setRouter_counters (site : Nat) (r : Router) : (s.setRouter site r).counters = s.counters := rfl
@[simp] theorem State.setRouter_logs (site : Nat) (r : Router) : (s.setRouter site r).logs = s.logs := rfl
@[simp] theorem State.setRouter_snaps (site : Nat) (r : Router) : (s.setRouter site r).snaps = s.snaps := rfl
@[simp] theorem State.setRouter_cores (site : Nat) (r : Router) : (s.setRouter site r).cores = s.cores := rfl
@[simp] theorem State.setRouter_opes (site : Nat) (r : Router) : (s.setRouter site r).opes = s.opes := rfl
@[simp] theorem State.setRouter_mem (site : Nat) (r : Router) : (s.setRouter site r).mem = s.mem := rfl
@[simp] theorem State.setRouter_retireDue (site : Nat) (r : Router) : (s.setRouter site r).retireDue = s.retireDue := rfl
@[simp] theorem State.setRouter_rowEngines (site : Nat) (r : Router) : (s.setRouter site r).rowEngines = s.rowEngines := rfl
@[simp] theorem State.setRouter_numIn (site : Nat) (r : Router) : (s.setRouter site r).numIn = s.numIn := rfl
@[simp] theorem State.setRouter_step (site : Nat) (r : Router) : (s.setRouter site r).step = s.step := rfl
@[simp] theorem State.setRouter_net (site : Nat) (r : Router) : (s.setRouter site r).net = s.net := rfl
@[simp] theorem State.setRouter_crs (site : Nat) (r : Router) : (s.setRouter site r).crs = s.crs := rfl
@[simp] theorem State.setRouter_upd (site : Nat) (r : Router) : (s.setRouter site r).upd = s.upd := rfl
@[simp] theorem State.setRouter_num (site : Nat) (r : Router) : (s.setRouter site r).num = s.num := rfl
@[simp] theorem State.setRouter_ledger (site : Nat) (r : Router) : (s.setRouter site r).ledger = s.ledger := rfl
@[simp] theorem State.setRouter_irq (site : Nat) (r : Router) : (s.setRouter site r).irq = s.irq := rfl
@[simp] theorem State.setRouter_cont (site : Nat) (r : Router) : (s.setRouter site r).cont = s.cont := rfl
@[simp] theorem State.setRouter_sec (site : Nat) (r : Router) : (s.setRouter site r).sec = s.sec := rfl
@[simp] theorem State.setRouter_flash (site : Nat) (r : Router) : (s.setRouter site r).flash = s.flash := rfl
@[simp] theorem State.setRouter_power (site : Nat) (r : Router) : (s.setRouter site r).power = s.power := rfl

/-! ### State.setUnit -/

@[simp] theorem State.setUnit_pending (u : Nat) (v : CrsUnit) : (s.setUnit u v).pending = s.pending := rfl
@[simp] theorem State.setUnit_tick (u : Nat) (v : CrsUnit) : (s.setUnit u v).tick = s.tick := rfl
@[simp] theorem State.setUnit_fresh (u : Nat) (v : CrsUnit) : (s.setUnit u v).fresh = s.fresh := rfl
@[simp] theorem State.setUnit_regs (u : Nat) (v : CrsUnit) : (s.setUnit u v).regs = s.regs := rfl
@[simp] theorem State.setUnit_staged (u : Nat) (v : CrsUnit) : (s.setUnit u v).staged = s.staged := rfl
@[simp] theorem State.setUnit_counters (u : Nat) (v : CrsUnit) : (s.setUnit u v).counters = s.counters := rfl
@[simp] theorem State.setUnit_logs (u : Nat) (v : CrsUnit) : (s.setUnit u v).logs = s.logs := rfl
@[simp] theorem State.setUnit_snaps (u : Nat) (v : CrsUnit) : (s.setUnit u v).snaps = s.snaps := rfl
@[simp] theorem State.setUnit_cores (u : Nat) (v : CrsUnit) : (s.setUnit u v).cores = s.cores := rfl
@[simp] theorem State.setUnit_opes (u : Nat) (v : CrsUnit) : (s.setUnit u v).opes = s.opes := rfl
@[simp] theorem State.setUnit_mem (u : Nat) (v : CrsUnit) : (s.setUnit u v).mem = s.mem := rfl
@[simp] theorem State.setUnit_retireDue (u : Nat) (v : CrsUnit) : (s.setUnit u v).retireDue = s.retireDue := rfl
@[simp] theorem State.setUnit_rowEngines (u : Nat) (v : CrsUnit) : (s.setUnit u v).rowEngines = s.rowEngines := rfl
@[simp] theorem State.setUnit_numIn (u : Nat) (v : CrsUnit) : (s.setUnit u v).numIn = s.numIn := rfl
@[simp] theorem State.setUnit_step (u : Nat) (v : CrsUnit) : (s.setUnit u v).step = s.step := rfl
@[simp] theorem State.setUnit_net (u : Nat) (v : CrsUnit) : (s.setUnit u v).net = s.net := rfl
@[simp] theorem State.setUnit_upd (u : Nat) (v : CrsUnit) : (s.setUnit u v).upd = s.upd := rfl
@[simp] theorem State.setUnit_num (u : Nat) (v : CrsUnit) : (s.setUnit u v).num = s.num := rfl
@[simp] theorem State.setUnit_ledger (u : Nat) (v : CrsUnit) : (s.setUnit u v).ledger = s.ledger := rfl
@[simp] theorem State.setUnit_fab (u : Nat) (v : CrsUnit) : (s.setUnit u v).fab = s.fab := rfl
@[simp] theorem State.setUnit_irq (u : Nat) (v : CrsUnit) : (s.setUnit u v).irq = s.irq := rfl
@[simp] theorem State.setUnit_cont (u : Nat) (v : CrsUnit) : (s.setUnit u v).cont = s.cont := rfl
@[simp] theorem State.setUnit_sec (u : Nat) (v : CrsUnit) : (s.setUnit u v).sec = s.sec := rfl
@[simp] theorem State.setUnit_flash (u : Nat) (v : CrsUnit) : (s.setUnit u v).flash = s.flash := rfl
@[simp] theorem State.setUnit_power (u : Nat) (v : CrsUnit) : (s.setUnit u v).power = s.power := rfl

/-! ### State.setSlice -/

@[simp] theorem State.setSlice_pending (n : Nat) (x : UpdSlice) : (s.setSlice n x).pending = s.pending := rfl
@[simp] theorem State.setSlice_tick (n : Nat) (x : UpdSlice) : (s.setSlice n x).tick = s.tick := rfl
@[simp] theorem State.setSlice_fresh (n : Nat) (x : UpdSlice) : (s.setSlice n x).fresh = s.fresh := rfl
@[simp] theorem State.setSlice_regs (n : Nat) (x : UpdSlice) : (s.setSlice n x).regs = s.regs := rfl
@[simp] theorem State.setSlice_staged (n : Nat) (x : UpdSlice) : (s.setSlice n x).staged = s.staged := rfl
@[simp] theorem State.setSlice_counters (n : Nat) (x : UpdSlice) : (s.setSlice n x).counters = s.counters := rfl
@[simp] theorem State.setSlice_logs (n : Nat) (x : UpdSlice) : (s.setSlice n x).logs = s.logs := rfl
@[simp] theorem State.setSlice_snaps (n : Nat) (x : UpdSlice) : (s.setSlice n x).snaps = s.snaps := rfl
@[simp] theorem State.setSlice_cores (n : Nat) (x : UpdSlice) : (s.setSlice n x).cores = s.cores := rfl
@[simp] theorem State.setSlice_opes (n : Nat) (x : UpdSlice) : (s.setSlice n x).opes = s.opes := rfl
@[simp] theorem State.setSlice_mem (n : Nat) (x : UpdSlice) : (s.setSlice n x).mem = s.mem := rfl
@[simp] theorem State.setSlice_retireDue (n : Nat) (x : UpdSlice) : (s.setSlice n x).retireDue = s.retireDue := rfl
@[simp] theorem State.setSlice_rowEngines (n : Nat) (x : UpdSlice) : (s.setSlice n x).rowEngines = s.rowEngines := rfl
@[simp] theorem State.setSlice_numIn (n : Nat) (x : UpdSlice) : (s.setSlice n x).numIn = s.numIn := rfl
@[simp] theorem State.setSlice_step (n : Nat) (x : UpdSlice) : (s.setSlice n x).step = s.step := rfl
@[simp] theorem State.setSlice_net (n : Nat) (x : UpdSlice) : (s.setSlice n x).net = s.net := rfl
@[simp] theorem State.setSlice_crs (n : Nat) (x : UpdSlice) : (s.setSlice n x).crs = s.crs := rfl
@[simp] theorem State.setSlice_num (n : Nat) (x : UpdSlice) : (s.setSlice n x).num = s.num := rfl
@[simp] theorem State.setSlice_ledger (n : Nat) (x : UpdSlice) : (s.setSlice n x).ledger = s.ledger := rfl
@[simp] theorem State.setSlice_fab (n : Nat) (x : UpdSlice) : (s.setSlice n x).fab = s.fab := rfl
@[simp] theorem State.setSlice_irq (n : Nat) (x : UpdSlice) : (s.setSlice n x).irq = s.irq := rfl
@[simp] theorem State.setSlice_cont (n : Nat) (x : UpdSlice) : (s.setSlice n x).cont = s.cont := rfl
@[simp] theorem State.setSlice_sec (n : Nat) (x : UpdSlice) : (s.setSlice n x).sec = s.sec := rfl
@[simp] theorem State.setSlice_flash (n : Nat) (x : UpdSlice) : (s.setSlice n x).flash = s.flash := rfl
@[simp] theorem State.setSlice_power (n : Nat) (x : UpdSlice) : (s.setSlice n x).power = s.power := rfl

/-! ### State.setMirror -/

@[simp] theorem State.setMirror_pending (id : CoreId) (m : MirrorSample) : (s.setMirror id m).pending = s.pending := rfl
@[simp] theorem State.setMirror_tick (id : CoreId) (m : MirrorSample) : (s.setMirror id m).tick = s.tick := rfl
@[simp] theorem State.setMirror_fresh (id : CoreId) (m : MirrorSample) : (s.setMirror id m).fresh = s.fresh := rfl
@[simp] theorem State.setMirror_regs (id : CoreId) (m : MirrorSample) : (s.setMirror id m).regs = s.regs := rfl
@[simp] theorem State.setMirror_staged (id : CoreId) (m : MirrorSample) : (s.setMirror id m).staged = s.staged := rfl
@[simp] theorem State.setMirror_counters (id : CoreId) (m : MirrorSample) : (s.setMirror id m).counters = s.counters := rfl
@[simp] theorem State.setMirror_logs (id : CoreId) (m : MirrorSample) : (s.setMirror id m).logs = s.logs := rfl
@[simp] theorem State.setMirror_snaps (id : CoreId) (m : MirrorSample) : (s.setMirror id m).snaps = s.snaps := rfl
@[simp] theorem State.setMirror_cores (id : CoreId) (m : MirrorSample) : (s.setMirror id m).cores = s.cores := rfl
@[simp] theorem State.setMirror_opes (id : CoreId) (m : MirrorSample) : (s.setMirror id m).opes = s.opes := rfl
@[simp] theorem State.setMirror_mem (id : CoreId) (m : MirrorSample) : (s.setMirror id m).mem = s.mem := rfl
@[simp] theorem State.setMirror_retireDue (id : CoreId) (m : MirrorSample) : (s.setMirror id m).retireDue = s.retireDue := rfl
@[simp] theorem State.setMirror_rowEngines (id : CoreId) (m : MirrorSample) : (s.setMirror id m).rowEngines = s.rowEngines := rfl
@[simp] theorem State.setMirror_numIn (id : CoreId) (m : MirrorSample) : (s.setMirror id m).numIn = s.numIn := rfl
@[simp] theorem State.setMirror_step (id : CoreId) (m : MirrorSample) : (s.setMirror id m).step = s.step := rfl
@[simp] theorem State.setMirror_net (id : CoreId) (m : MirrorSample) : (s.setMirror id m).net = s.net := rfl
@[simp] theorem State.setMirror_crs (id : CoreId) (m : MirrorSample) : (s.setMirror id m).crs = s.crs := rfl
@[simp] theorem State.setMirror_upd (id : CoreId) (m : MirrorSample) : (s.setMirror id m).upd = s.upd := rfl
@[simp] theorem State.setMirror_ledger (id : CoreId) (m : MirrorSample) : (s.setMirror id m).ledger = s.ledger := rfl
@[simp] theorem State.setMirror_fab (id : CoreId) (m : MirrorSample) : (s.setMirror id m).fab = s.fab := rfl
@[simp] theorem State.setMirror_irq (id : CoreId) (m : MirrorSample) : (s.setMirror id m).irq = s.irq := rfl
@[simp] theorem State.setMirror_cont (id : CoreId) (m : MirrorSample) : (s.setMirror id m).cont = s.cont := rfl
@[simp] theorem State.setMirror_sec (id : CoreId) (m : MirrorSample) : (s.setMirror id m).sec = s.sec := rfl
@[simp] theorem State.setMirror_flash (id : CoreId) (m : MirrorSample) : (s.setMirror id m).flash = s.flash := rfl
@[simp] theorem State.setMirror_power (id : CoreId) (m : MirrorSample) : (s.setMirror id m).power = s.power := rfl

/-! ### State.setLoupes -/

@[simp] theorem State.setLoupes_pending (id : CoreId) (l : List LoupeSample) : (s.setLoupes id l).pending = s.pending := rfl
@[simp] theorem State.setLoupes_tick (id : CoreId) (l : List LoupeSample) : (s.setLoupes id l).tick = s.tick := rfl
@[simp] theorem State.setLoupes_fresh (id : CoreId) (l : List LoupeSample) : (s.setLoupes id l).fresh = s.fresh := rfl
@[simp] theorem State.setLoupes_regs (id : CoreId) (l : List LoupeSample) : (s.setLoupes id l).regs = s.regs := rfl
@[simp] theorem State.setLoupes_staged (id : CoreId) (l : List LoupeSample) : (s.setLoupes id l).staged = s.staged := rfl
@[simp] theorem State.setLoupes_counters (id : CoreId) (l : List LoupeSample) : (s.setLoupes id l).counters = s.counters := rfl
@[simp] theorem State.setLoupes_logs (id : CoreId) (l : List LoupeSample) : (s.setLoupes id l).logs = s.logs := rfl
@[simp] theorem State.setLoupes_snaps (id : CoreId) (l : List LoupeSample) : (s.setLoupes id l).snaps = s.snaps := rfl
@[simp] theorem State.setLoupes_cores (id : CoreId) (l : List LoupeSample) : (s.setLoupes id l).cores = s.cores := rfl
@[simp] theorem State.setLoupes_opes (id : CoreId) (l : List LoupeSample) : (s.setLoupes id l).opes = s.opes := rfl
@[simp] theorem State.setLoupes_mem (id : CoreId) (l : List LoupeSample) : (s.setLoupes id l).mem = s.mem := rfl
@[simp] theorem State.setLoupes_retireDue (id : CoreId) (l : List LoupeSample) : (s.setLoupes id l).retireDue = s.retireDue := rfl
@[simp] theorem State.setLoupes_rowEngines (id : CoreId) (l : List LoupeSample) : (s.setLoupes id l).rowEngines = s.rowEngines := rfl
@[simp] theorem State.setLoupes_numIn (id : CoreId) (l : List LoupeSample) : (s.setLoupes id l).numIn = s.numIn := rfl
@[simp] theorem State.setLoupes_step (id : CoreId) (l : List LoupeSample) : (s.setLoupes id l).step = s.step := rfl
@[simp] theorem State.setLoupes_net (id : CoreId) (l : List LoupeSample) : (s.setLoupes id l).net = s.net := rfl
@[simp] theorem State.setLoupes_crs (id : CoreId) (l : List LoupeSample) : (s.setLoupes id l).crs = s.crs := rfl
@[simp] theorem State.setLoupes_upd (id : CoreId) (l : List LoupeSample) : (s.setLoupes id l).upd = s.upd := rfl
@[simp] theorem State.setLoupes_ledger (id : CoreId) (l : List LoupeSample) : (s.setLoupes id l).ledger = s.ledger := rfl
@[simp] theorem State.setLoupes_fab (id : CoreId) (l : List LoupeSample) : (s.setLoupes id l).fab = s.fab := rfl
@[simp] theorem State.setLoupes_irq (id : CoreId) (l : List LoupeSample) : (s.setLoupes id l).irq = s.irq := rfl
@[simp] theorem State.setLoupes_cont (id : CoreId) (l : List LoupeSample) : (s.setLoupes id l).cont = s.cont := rfl
@[simp] theorem State.setLoupes_sec (id : CoreId) (l : List LoupeSample) : (s.setLoupes id l).sec = s.sec := rfl
@[simp] theorem State.setLoupes_flash (id : CoreId) (l : List LoupeSample) : (s.setLoupes id l).flash = s.flash := rfl
@[simp] theorem State.setLoupes_power (id : CoreId) (l : List LoupeSample) : (s.setLoupes id l).power = s.power := rfl

/-! ### State.setStepEntry -/

@[simp] theorem State.setStepEntry_pending (l e : Nat) : (s.setStepEntry l e).pending = s.pending := rfl
@[simp] theorem State.setStepEntry_tick (l e : Nat) : (s.setStepEntry l e).tick = s.tick := rfl
@[simp] theorem State.setStepEntry_fresh (l e : Nat) : (s.setStepEntry l e).fresh = s.fresh := rfl
@[simp] theorem State.setStepEntry_regs (l e : Nat) : (s.setStepEntry l e).regs = s.regs := rfl
@[simp] theorem State.setStepEntry_staged (l e : Nat) : (s.setStepEntry l e).staged = s.staged := rfl
@[simp] theorem State.setStepEntry_counters (l e : Nat) : (s.setStepEntry l e).counters = s.counters := rfl
@[simp] theorem State.setStepEntry_logs (l e : Nat) : (s.setStepEntry l e).logs = s.logs := rfl
@[simp] theorem State.setStepEntry_snaps (l e : Nat) : (s.setStepEntry l e).snaps = s.snaps := rfl
@[simp] theorem State.setStepEntry_cores (l e : Nat) : (s.setStepEntry l e).cores = s.cores := rfl
@[simp] theorem State.setStepEntry_opes (l e : Nat) : (s.setStepEntry l e).opes = s.opes := rfl
@[simp] theorem State.setStepEntry_mem (l e : Nat) : (s.setStepEntry l e).mem = s.mem := rfl
@[simp] theorem State.setStepEntry_retireDue (l e : Nat) : (s.setStepEntry l e).retireDue = s.retireDue := rfl
@[simp] theorem State.setStepEntry_rowEngines (l e : Nat) : (s.setStepEntry l e).rowEngines = s.rowEngines := rfl
@[simp] theorem State.setStepEntry_numIn (l e : Nat) : (s.setStepEntry l e).numIn = s.numIn := rfl
@[simp] theorem State.setStepEntry_net (l e : Nat) : (s.setStepEntry l e).net = s.net := rfl
@[simp] theorem State.setStepEntry_crs (l e : Nat) : (s.setStepEntry l e).crs = s.crs := rfl
@[simp] theorem State.setStepEntry_upd (l e : Nat) : (s.setStepEntry l e).upd = s.upd := rfl
@[simp] theorem State.setStepEntry_num (l e : Nat) : (s.setStepEntry l e).num = s.num := rfl
@[simp] theorem State.setStepEntry_ledger (l e : Nat) : (s.setStepEntry l e).ledger = s.ledger := rfl
@[simp] theorem State.setStepEntry_fab (l e : Nat) : (s.setStepEntry l e).fab = s.fab := rfl
@[simp] theorem State.setStepEntry_irq (l e : Nat) : (s.setStepEntry l e).irq = s.irq := rfl
@[simp] theorem State.setStepEntry_cont (l e : Nat) : (s.setStepEntry l e).cont = s.cont := rfl
@[simp] theorem State.setStepEntry_sec (l e : Nat) : (s.setStepEntry l e).sec = s.sec := rfl
@[simp] theorem State.setStepEntry_flash (l e : Nat) : (s.setStepEntry l e).flash = s.flash := rfl
@[simp] theorem State.setStepEntry_power (l e : Nat) : (s.setStepEntry l e).power = s.power := rfl

/-! ### Accessors after their updates -/

theorem State.reg_setReg (p : Page) (off : Nat) (v : Word) (q : Page) (o : Nat) :
    (s.setReg p off v).reg q o = if q.key o = p.key off then v else s.reg q o := by
  simp only [State.reg, State.setReg, SMap.get_set]; split <;> rfl

@[simp] theorem State.reg_setReg_self (p : Page) (off : Nat) (v : Word) : (s.setReg p off v).reg p off = v := by simp [State.reg_setReg]

theorem State.regN_setRegN (p : Page) (off v : Nat) (q : Page) (o : Nat) :
    (s.setRegN p off v).regN q o = if q.key o = p.key off then v % 2 ^ 32 else s.regN q o := by
  simp only [State.regN, State.setRegN, State.reg_setReg]; split <;> simp

@[simp] theorem State.regN_setRegN_self (p : Page) (off v : Nat) : (s.setRegN p off v).regN p off = v % 2 ^ 32 := by simp [State.regN_setRegN]

/-- A register of a page whose own registers no update touches. -/
theorem State.regN_setRegN_ne {p q : Page} {off o : Nat} (v : Nat) (h : q.key o ≠ p.key off) : (s.setRegN p off v).regN q o = s.regN q o := by
  simp [State.regN_setRegN, h]

theorem State.reg_of_regs {s t : State} (h : t.regs = s.regs) (p : Page) (off : Nat) : t.reg p off = s.reg p off := by
  simp [State.reg, h]

theorem State.regN_of_regs {s t : State} (h : t.regs = s.regs) (p : Page) (off : Nat) : t.regN p off = s.regN p off := by
  simp [State.regN, State.reg, h]

theorem coreIdx_inj {a b : CoreId} (h : coreIdx a = coreIdx b) : a = b := by
  obtain ⟨⟨c, hc⟩, ⟨k, hk⟩⟩ := a
  obtain ⟨⟨d, hd⟩, ⟨l, hl⟩⟩ := b
  simp only [coreIdx] at h
  simp only [CoreId.mk.injEq, Fin.mk.injEq]
  omega

theorem State.core_setCore (a : CoreId) (c : Core) (b : CoreId) : (s.setCore a c).core b = if b = a then c else s.core b := by
  simp only [State.core, State.setCore, SMap.getD_set]
  by_cases h : b = a
  · simp [h]
  · rw [if_neg (fun e => h (coreIdx_inj e)), if_neg h]

@[simp] theorem State.core_setCore_self (a : CoreId) (c : Core) : (s.setCore a c).core a = c := by simp [State.core_setCore]

theorem State.core_setCore_ne {a b : CoreId} (c : Core) (h : b ≠ a) : (s.setCore a c).core b = s.core b := by simp [State.core_setCore, h]

@[simp] theorem State.core_modCore_self (a : CoreId) (f : Core → Core) : (s.modCore a f).core a = f (s.core a) := by simp [State.modCore]

theorem State.core_modCore_ne {a b : CoreId} (f : Core → Core) (h : b ≠ a) : (s.modCore a f).core b = s.core b := by
  simp [State.modCore, State.core_setCore, h]

theorem State.core_of_cores {s t : State} (h : t.cores = s.cores) (a : CoreId) : t.core a = s.core a := by simp [State.core, h]

theorem State.ope_setOpe (a : CoreId) (o : Ope) (b : CoreId) : (s.setOpe a o).ope b = if b = a then o else s.ope b := by
  simp only [State.ope, State.setOpe, SMap.getD_set]
  by_cases h : b = a
  · simp [h]
  · rw [if_neg (fun e => h (coreIdx_inj e)), if_neg h]

@[simp] theorem State.ope_setOpe_self (a : CoreId) (o : Ope) : (s.setOpe a o).ope a = o := by simp [State.ope_setOpe]

theorem State.row_setRow (c : Nat) (v : RowEngine) (d : Nat) : (s.setRow c v).row d = if d = c then v else s.row d := SMap.getD_set ..
theorem State.port_setPort (i : Nat) (p : Port) (j : Nat) : (s.setPort i p).port j = if j = i then p else s.port j := SMap.getD_set ..
theorem State.tctx_setTctx (n : Nat) (c : TalCtx) (m : Nat) : (s.setTctx n c).tctx m = if m = n then c else s.tctx m := SMap.getD_set ..
theorem State.tctx_putTctx (n : Nat) (c : TalCtx) (m : Nat) : (s.putTctx n c).tctx m = if m = n then c else s.tctx m := SMap.getD_set ..
theorem State.stack_setStack (h : Nat) (v : Stack) (g : Nat) : (s.setStack h v).stack g = if g = h then v else s.stack g := SMap.getD_set ..
theorem State.stash_setStash (c : Nat) (v : Stash) (d : Nat) : (s.setStash c v).stash d = if d = c then v else s.stash d := SMap.getD_set ..
theorem State.mover_setMover (c : Nat) (v : Mover) (d : Nat) : (s.setMover c v).mover d = if d = c then v else s.mover d := SMap.getD_set ..
theorem State.sic_setSic (c : Nat) (v : Sic) (d : Nat) : (s.setSic c v).sic d = if d = c then v else s.sic d := SMap.getD_set ..
theorem State.licTarget_setLicTarget (c : Nat) (v : LicTarget) (d : Nat) :
    (s.setLicTarget c v).licTarget d = if d = c then v else s.licTarget d := SMap.getD_set ..
theorem State.box_setBox (c : Nat) (l : List Nat) (d : Nat) : (s.setBox c l).box d = if d = c then l else s.box d := SMap.getD_set ..
theorem State.clock_setClock (d : Nat) (k : Clock) (e : Nat) : (s.setClock d k).clock e = if e = d then k else s.clock e := SMap.getD_set ..
theorem State.router_setRouter (a : Nat) (r : Router) (b : Nat) : (s.setRouter a r).router b = if b = a then r else s.router b := SMap.getD_set ..

/-- An error log takes one entry: its sequence number rises and the ring holds the entry at the place of the old one (R390). -/
theorem State.log_logWord (p : Page) (e : Nat) (q : Page) : (s.logWord p e).log q = if q.base = p.base then
    { s.log p with
      ring := SMap.set (s.log p).ring ((s.log p).writeSeq % 16) (BitVec.ofNat 32 e)
      writeSeq := wrapSucc 16 (s.log p).writeSeq
      count := min ((s.log p).count + 1) (2 ^ 32 - 1) } else s.log q := by
  simp only [State.log, State.logWord, SMap.getD_set]

/-- A statistics counter counts up to all ones and stays there (R386). -/
@[simp] theorem State.counter_bumpBy_self (p : Page) (sel n : Nat) : (s.bumpBy p sel n).counter p sel = min (s.counter p sel + n) counterMax := by
  unfold State.bumpBy
  simp only
  split <;> simp [State.counter, State.logWord]

end Sys2Proof.Machine
end

