-- ==== Sys2Proof/Laws/Shared.lean ====
section
/-! SUPPORT. What each shared operation can do: the checks of a register access, the cycle of a core, the issue of a word, a halt, the
request at the head of a context, writes of memory, units that wait, domains that stop. -/

namespace Sys2Proof.Machine

variable (s : State)

/-- A fold keeps what each of its steps keeps. -/
theorem foldl_keep {α β : Type} (g : State → β) (f : State → α → State) (h : ∀ s a, g (f s a) = g s) (l : List α) :
    ∀ s : State, g (l.foldl f s) = g s := by
  induction l with
  | nil => exact fun _ => rfl
  | cons a l ih => exact fun s => (ih _).trans (h s a)

/-- A fold keeps a property that each of its steps keeps. -/
theorem foldl_inv {α : Type} (P : State → Prop) (f : State → α → State) (h : ∀ s a, P s → P (f s a)) (l : List α) :
    ∀ s : State, P s → P (l.foldl f s) := by
  induction l with
  | nil => exact fun _ hs => hs
  | cons a l ih => exact fun s hs => ih _ (h s a hs)

/-! ### Register accesses (R378, R393, R394, R430) -/

/-- The state in which a requester's access is checked: a session's access counts as its last frame. -/
def seenBy (who : Requester) : State := if who == .periscope then touchSession s else s

/-- Everything that the checks of an access can answer. -/
theorem busCheck_cases {t : State} {off v : Nat} {who : Requester} {w : Bool} {r : Except BusAns Page} (h : busCheck s off who w v = (t, r)) :
    (t = s ∧ r = .error .absent ∧ (pageAt off = none ∨ (who = .periscope ∧ s.sec.session = none))) ∨
    ∃ p, pageAt off = some p ∧
      ((t = (seenBy s who).bump clkPage 3 ∧ r = .error .down ∧ (seenBy s who).domainUp p.domain = false) ∨
       (t = (seenBy s who).logReq p kindOwnership who w (off % 0x1000) ∧ r = .error .denied) ∨
       (t = seenBy s who ∧ r = .ok p ∧ (seenBy s who).domainUp p.domain = true ∧ (seenBy s who).admits p who = true)) := by
  unfold busCheck at h
  simp only [show (if who == .periscope then touchSession s else s) = seenBy s who from rfl] at h
  split at h
  · cases h; exact .inl ⟨rfl, rfl, .inl ‹_›⟩
  · rename_i p hp
    split at h
    · cases h
      rename_i hc
      simp only [Bool.and_eq_true, beq_iff_eq, Option.isNone_iff_eq_none] at hc
      exact .inl ⟨rfl, rfl, .inr hc⟩
    · refine .inr ⟨p, hp, ?_⟩
      split at h
      · cases h
        rename_i hd
        exact .inl ⟨rfl, rfl, by simpa using hd⟩
      · split at h
        · cases h; exact .inr (.inl ⟨rfl, rfl⟩)
        · cases h
          rename_i hd ha
          refine .inr (.inr ⟨rfl, rfl, by simpa using hd, ?_⟩)
          simp only [Bool.or_eq_true, not_or, Bool.not_eq_true'] at ha
          simpa using ha.1.1

/-- An access that is admitted writes its register; one that is not leaves the state of its checks. -/
theorem writeReg_of_ok {t : State} {p q : Page} {off : Nat} {who : Requester} {v : Word}
    (h : busCheck s (p.key off) who true v.toNat = (t, .ok q)) :
    writeReg s p off who v = pageWrite t q who (p.key off % 0x1000 / 4 * 4) (v.toNat % 2 ^ 32) (cycleAt s (p.key off)) := by
  simp only [writeReg, busWrite, busWriteAt, h]

theorem writeReg_of_error {t : State} {p : Page} {off : Nat} {who : Requester} {v : Word} {a : BusAns}
    (h : busCheck s (p.key off) who true v.toNat = (t, .error a)) : writeReg s p off who v = t := by
  simp only [writeReg, busWrite, busWriteAt, h]

theorem readReg_of_ok {t : State} {p q : Page} {off : Nat} {who : Requester} (h : busCheck s (p.key off) who false 0 = (t, .ok q)) :
    readReg s p off who = (pageRead t q who (p.key off % 0x1000 / 4 * 4)).1 := by
  simp only [readReg, busRead, h]

theorem readReg_of_error {t : State} {p : Page} {off : Nat} {who : Requester} {a : BusAns}
    (h : busCheck s (p.key off) who false 0 = (t, .error a)) : readReg s p off who = t := by
  simp only [readReg, busRead, h]

/-! ### Cores -/

theorem inCycle_of_due {id : CoreId} {t : Nat} (act : State → State) (h : coreDue s id t = true) :
    inCycle s id t act = act (s.modCore id (fun c => c.reach t)) := by simp [inCycle, h]

theorem inCycle_of_not_due {id : CoreId} {t : Nat} (act : State → State) (h : coreDue s id t = false) : inCycle s id t act = s := by
  simp [inCycle, h]

/-- What an action and `modCore` keep, a cycle keeps. -/
theorem inCycle_keep {β : Type} (g : State → β) (id : CoreId) (t : Nat) (act : State → State) (hm : ∀ s f, g (s.modCore id f) = g s)
    (ha : ∀ s, g (act s) = g s) : g (inCycle s id t act) = g s := by
  unfold inCycle; split
  · rw [ha, hm]
  · rfl

/-- A word issues or the state stays. -/
theorem issueWord_cases (u : Issue) : issueWord s u = s ∨ (issuable s u.id u.ctx u.access u.cycle = true ∧ poisonedRead s u.id u.cycle = none ∧
    coreDue s u.id u.cycle = true ∧ issueWord s u = issueNow (s.modCore u.id (fun c => c.reach u.cycle)) u) := by
  unfold issueWord
  split
  · rename_i h
    simp only [Bool.and_eq_true, Option.isNone_iff_eq_none] at h
    cases hd : coreDue s u.id u.cycle
    · exact .inl (inCycle_of_not_due s _ hd)
    · exact .inr ⟨h.1, h.2, rfl, inCycle_of_due s _ hd⟩
  · exact .inl rfl

theorem issueIf_cases (u : Issue) (ok : LongWord → Bool) : issueIf s u ok = s ∨ (ok (nextWord s u.id u.ctx u.access) = true ∧
    issueIf s u ok = issueWord s u) := by
  unfold issueIf
  split
  · exact .inr ⟨‹_›, rfl⟩
  · exact .inl rfl

/-! ### Halts (R98, R99): registers, counters, error logs and cores alone change -/

theorem haltCtx_keep {β : Type} (g : State → β) (hr : ∀ s p o v, g (State.setRegN s p o v) = g s) (hc : ∀ s id c, g (State.setCore s id c) = g s)
    (hb : ∀ s p n, g (State.bump s p n) = g s) (id : CoreId) (x : Ctx) (cause : Nat) (a : Bool) (addr slot : Nat) :
    g (haltCtx s id x cause a addr slot) = g s := by
  unfold haltCtx
  simp only
  split
  · rfl
  · exact hb ..
  · exact hb ..
  · simp only [hb, hr, hc]

theorem haltCore_keep {β : Type} (g : State → β) (hr : ∀ s p o v, g (State.setRegN s p o v) = g s) (hc : ∀ s id c, g (State.setCore s id c) = g s)
    (hb : ∀ s p n, g (State.bump s p n) = g s) (id : CoreId) (x : Option Ctx) (cause : Nat) (a : Bool) (addr slot : Nat) :
    g (haltCore s id x cause a addr slot) = g s := by
  unfold haltCore
  refine foldl_keep g _ (fun s y => ?_) _ s
  split
  · exact haltCtx_keep s g hr hc hb ..
  · split
    · exact haltCtx_keep s g hr hc hb ..
    · rfl

@[simp] theorem haltCtx_pending (id : CoreId) (x : Ctx) (cause : Nat) (a : Bool) (addr slot : Nat) : (haltCtx s id x cause a addr slot).pending = s.pending :=
  haltCtx_keep s (·.pending) (fun s => State.setRegN_pending s) (fun s => State.setCore_pending s) (fun s => State.bump_pending s) ..
@[simp] theorem haltCore_pending (id : CoreId) (x : Option Ctx) (cause : Nat) (a : Bool) (addr slot : Nat) : (haltCore s id x cause a addr slot).pending = s.pending :=
  haltCore_keep s (·.pending) (fun s => State.setRegN_pending s) (fun s => State.setCore_pending s) (fun s => State.bump_pending s) ..
@[simp] theorem haltCtx_tick (id : CoreId) (x : Ctx) (cause : Nat) (a : Bool) (addr slot : Nat) : (haltCtx s id x cause a addr slot).tick = s.tick :=
  haltCtx_keep s (·.tick) (fun s => State.setRegN_tick s) (fun s => State.setCore_tick s) (fun s => State.bump_tick s) ..
@[simp] theorem haltCore_tick (id : CoreId) (x : Option Ctx) (cause : Nat) (a : Bool) (addr slot : Nat) : (haltCore s id x cause a addr slot).tick = s.tick :=
  haltCore_keep s (·.tick) (fun s => State.setRegN_tick s) (fun s => State.setCore_tick s) (fun s => State.bump_tick s) ..
@[simp] theorem haltCtx_fresh (id : CoreId) (x : Ctx) (cause : Nat) (a : Bool) (addr slot : Nat) : (haltCtx s id x cause a addr slot).fresh = s.fresh :=
  haltCtx_keep s (·.fresh) (fun s => State.setRegN_fresh s) (fun s => State.setCore_fresh s) (fun s => State.bump_fresh s) ..
@[simp] theorem haltCore_fresh (id : CoreId) (x : Option Ctx) (cause : Nat) (a : Bool) (addr slot : Nat) : (haltCore s id x cause a addr slot).fresh = s.fresh :=
  haltCore_keep s (·.fresh) (fun s => State.setRegN_fresh s) (fun s => State.setCore_fresh s) (fun s => State.bump_fresh s) ..
@[simp] theorem haltCtx_staged (id : CoreId) (x : Ctx) (cause : Nat) (a : Bool) (addr slot : Nat) : (haltCtx s id x cause a addr slot).staged = s.staged :=
  haltCtx_keep s (·.staged) (fun s => State.setRegN_staged s) (fun s => State.setCore_staged s) (fun s => State.bump_staged s) ..
@[simp] theorem haltCore_staged (id : CoreId) (x : Option Ctx) (cause : Nat) (a : Bool) (addr slot : Nat) : (haltCore s id x cause a addr slot).staged = s.staged :=
  haltCore_keep s (·.staged) (fun s => State.setRegN_staged s) (fun s => State.setCore_staged s) (fun s => State.bump_staged s) ..
@[simp] theorem haltCtx_snaps (id : CoreId) (x : Ctx) (cause : Nat) (a : Bool) (addr slot : Nat) : (haltCtx s id x cause a addr slot).snaps = s.snaps :=
  haltCtx_keep s (·.snaps) (fun s => State.setRegN_snaps s) (fun s => State.setCore_snaps s) (fun s => State.bump_snaps s) ..
@[simp] theorem haltCore_snaps (id : CoreId) (x : Option Ctx) (cause : Nat) (a : Bool) (addr slot : Nat) : (haltCore s id x cause a addr slot).snaps = s.snaps :=
  haltCore_keep s (·.snaps) (fun s => State.setRegN_snaps s) (fun s => State.setCore_snaps s) (fun s => State.bump_snaps s) ..
@[simp] theorem haltCtx_opes (id : CoreId) (x : Ctx) (cause : Nat) (a : Bool) (addr slot : Nat) : (haltCtx s id x cause a addr slot).opes = s.opes :=
  haltCtx_keep s (·.opes) (fun s => State.setRegN_opes s) (fun s => State.setCore_opes s) (fun s => State.bump_opes s) ..
@[simp] theorem haltCore_opes (id : CoreId) (x : Option Ctx) (cause : Nat) (a : Bool) (addr slot : Nat) : (haltCore s id x cause a addr slot).opes = s.opes :=
  haltCore_keep s (·.opes) (fun s => State.setRegN_opes s) (fun s => State.setCore_opes s) (fun s => State.bump_opes s) ..
@[simp] theorem haltCtx_mem (id : CoreId) (x : Ctx) (cause : Nat) (a : Bool) (addr slot : Nat) : (haltCtx s id x cause a addr slot).mem = s.mem :=
  haltCtx_keep s (·.mem) (fun s => State.setRegN_mem s) (fun s => State.setCore_mem s) (fun s => State.bump_mem s) ..
@[simp] theorem haltCore_mem (id : CoreId) (x : Option Ctx) (cause : Nat) (a : Bool) (addr slot : Nat) : (haltCore s id x cause a addr slot).mem = s.mem :=
  haltCore_keep s (·.mem) (fun s => State.setRegN_mem s) (fun s => State.setCore_mem s) (fun s => State.bump_mem s) ..
@[simp] theorem haltCtx_retireDue (id : CoreId) (x : Ctx) (cause : Nat) (a : Bool) (addr slot : Nat) : (haltCtx s id x cause a addr slot).retireDue = s.retireDue :=
  haltCtx_keep s (·.retireDue) (fun s => State.setRegN_retireDue s) (fun s => State.setCore_retireDue s) (fun s => State.bump_retireDue s) ..
@[simp] theorem haltCore_retireDue (id : CoreId) (x : Option Ctx) (cause : Nat) (a : Bool) (addr slot : Nat) : (haltCore s id x cause a addr slot).retireDue = s.retireDue :=
  haltCore_keep s (·.retireDue) (fun s => State.setRegN_retireDue s) (fun s => State.setCore_retireDue s) (fun s => State.bump_retireDue s) ..
@[simp] theorem haltCtx_rowEngines (id : CoreId) (x : Ctx) (cause : Nat) (a : Bool) (addr slot : Nat) : (haltCtx s id x cause a addr slot).rowEngines = s.rowEngines :=
  haltCtx_keep s (·.rowEngines) (fun s => State.setRegN_rowEngines s) (fun s => State.setCore_rowEngines s) (fun s => State.bump_rowEngines s) ..
@[simp] theorem haltCore_rowEngines (id : CoreId) (x : Option Ctx) (cause : Nat) (a : Bool) (addr slot : Nat) : (haltCore s id x cause a addr slot).rowEngines = s.rowEngines :=
  haltCore_keep s (·.rowEngines) (fun s => State.setRegN_rowEngines s) (fun s => State.setCore_rowEngines s) (fun s => State.bump_rowEngines s) ..
@[simp] theorem haltCtx_numIn (id : CoreId) (x : Ctx) (cause : Nat) (a : Bool) (addr slot : Nat) : (haltCtx s id x cause a addr slot).numIn = s.numIn :=
  haltCtx_keep s (·.numIn) (fun s => State.setRegN_numIn s) (fun s => State.setCore_numIn s) (fun s => State.bump_numIn s) ..
@[simp] theorem haltCore_numIn (id : CoreId) (x : Option Ctx) (cause : Nat) (a : Bool) (addr slot : Nat) : (haltCore s id x cause a addr slot).numIn = s.numIn :=
  haltCore_keep s (·.numIn) (fun s => State.setRegN_numIn s) (fun s => State.setCore_numIn s) (fun s => State.bump_numIn s) ..
@[simp] theorem haltCtx_step (id : CoreId) (x : Ctx) (cause : Nat) (a : Bool) (addr slot : Nat) : (haltCtx s id x cause a addr slot).step = s.step :=
  haltCtx_keep s (·.step) (fun s => State.setRegN_step s) (fun s => State.setCore_step s) (fun s => State.bump_step s) ..
@[simp] theorem haltCore_step (id : CoreId) (x : Option Ctx) (cause : Nat) (a : Bool) (addr slot : Nat) : (haltCore s id x cause a addr slot).step = s.step :=
  haltCore_keep s (·.step) (fun s => State.setRegN_step s) (fun s => State.setCore_step s) (fun s => State.bump_step s) ..
@[simp] theorem haltCtx_net (id : CoreId) (x : Ctx) (cause : Nat) (a : Bool) (addr slot : Nat) : (haltCtx s id x cause a addr slot).net = s.net :=
  haltCtx_keep s (·.net) (fun s => State.setRegN_net s) (fun s => State.setCore_net s) (fun s => State.bump_net s) ..
@[simp] theorem haltCore_net (id : CoreId) (x : Option Ctx) (cause : Nat) (a : Bool) (addr slot : Nat) : (haltCore s id x cause a addr slot).net = s.net :=
  haltCore_keep s (·.net) (fun s => State.setRegN_net s) (fun s => State.setCore_net s) (fun s => State.bump_net s) ..
@[simp] theorem haltCtx_crs (id : CoreId) (x : Ctx) (cause : Nat) (a : Bool) (addr slot : Nat) : (haltCtx s id x cause a addr slot).crs = s.crs :=
  haltCtx_keep s (·.crs) (fun s => State.setRegN_crs s) (fun s => State.setCore_crs s) (fun s => State.bump_crs s) ..
@[simp] theorem haltCore_crs (id : CoreId) (x : Option Ctx) (cause : Nat) (a : Bool) (addr slot : Nat) : (haltCore s id x cause a addr slot).crs = s.crs :=
  haltCore_keep s (·.crs) (fun s => State.setRegN_crs s) (fun s => State.setCore_crs s) (fun s => State.bump_crs s) ..
@[simp] theorem haltCtx_upd (id : CoreId) (x : Ctx) (cause : Nat) (a : Bool) (addr slot : Nat) : (haltCtx s id x cause a addr slot).upd = s.upd :=
  haltCtx_keep s (·.upd) (fun s => State.setRegN_upd s) (fun s => State.setCore_upd s) (fun s => State.bump_upd s) ..
@[simp] theorem haltCore_upd (id : CoreId) (x : Option Ctx) (cause : Nat) (a : Bool) (addr slot : Nat) : (haltCore s id x cause a addr slot).upd = s.upd :=
  haltCore_keep s (·.upd) (fun s => State.setRegN_upd s) (fun s => State.setCore_upd s) (fun s => State.bump_upd s) ..
@[simp] theorem haltCtx_num (id : CoreId) (x : Ctx) (cause : Nat) (a : Bool) (addr slot : Nat) : (haltCtx s id x cause a addr slot).num = s.num :=
  haltCtx_keep s (·.num) (fun s => State.setRegN_num s) (fun s => State.setCore_num s) (fun s => State.bump_num s) ..
@[simp] theorem haltCore_num (id : CoreId) (x : Option Ctx) (cause : Nat) (a : Bool) (addr slot : Nat) : (haltCore s id x cause a addr slot).num = s.num :=
  haltCore_keep s (·.num) (fun s => State.setRegN_num s) (fun s => State.setCore_num s) (fun s => State.bump_num s) ..
@[simp] theorem haltCtx_ledger (id : CoreId) (x : Ctx) (cause : Nat) (a : Bool) (addr slot : Nat) : (haltCtx s id x cause a addr slot).ledger = s.ledger :=
  haltCtx_keep s (·.ledger) (fun s => State.setRegN_ledger s) (fun s => State.setCore_ledger s) (fun s => State.bump_ledger s) ..
@[simp] theorem haltCore_ledger (id : CoreId) (x : Option Ctx) (cause : Nat) (a : Bool) (addr slot : Nat) : (haltCore s id x cause a addr slot).ledger = s.ledger :=
  haltCore_keep s (·.ledger) (fun s => State.setRegN_ledger s) (fun s => State.setCore_ledger s) (fun s => State.bump_ledger s) ..
@[simp] theorem haltCtx_fab (id : CoreId) (x : Ctx) (cause : Nat) (a : Bool) (addr slot : Nat) : (haltCtx s id x cause a addr slot).fab = s.fab :=
  haltCtx_keep s (·.fab) (fun s => State.setRegN_fab s) (fun s => State.setCore_fab s) (fun s => State.bump_fab s) ..
@[simp] theorem haltCore_fab (id : CoreId) (x : Option Ctx) (cause : Nat) (a : Bool) (addr slot : Nat) : (haltCore s id x cause a addr slot).fab = s.fab :=
  haltCore_keep s (·.fab) (fun s => State.setRegN_fab s) (fun s => State.setCore_fab s) (fun s => State.bump_fab s) ..
@[simp] theorem haltCtx_irq (id : CoreId) (x : Ctx) (cause : Nat) (a : Bool) (addr slot : Nat) : (haltCtx s id x cause a addr slot).irq = s.irq :=
  haltCtx_keep s (·.irq) (fun s => State.setRegN_irq s) (fun s => State.setCore_irq s) (fun s => State.bump_irq s) ..
@[simp] theorem haltCore_irq (id : CoreId) (x : Option Ctx) (cause : Nat) (a : Bool) (addr slot : Nat) : (haltCore s id x cause a addr slot).irq = s.irq :=
  haltCore_keep s (·.irq) (fun s => State.setRegN_irq s) (fun s => State.setCore_irq s) (fun s => State.bump_irq s) ..
@[simp] theorem haltCtx_cont (id : CoreId) (x : Ctx) (cause : Nat) (a : Bool) (addr slot : Nat) : (haltCtx s id x cause a addr slot).cont = s.cont :=
  haltCtx_keep s (·.cont) (fun s => State.setRegN_cont s) (fun s => State.setCore_cont s) (fun s => State.bump_cont s) ..
@[simp] theorem haltCore_cont (id : CoreId) (x : Option Ctx) (cause : Nat) (a : Bool) (addr slot : Nat) : (haltCore s id x cause a addr slot).cont = s.cont :=
  haltCore_keep s (·.cont) (fun s => State.setRegN_cont s) (fun s => State.setCore_cont s) (fun s => State.bump_cont s) ..
@[simp] theorem haltCtx_sec (id : CoreId) (x : Ctx) (cause : Nat) (a : Bool) (addr slot : Nat) : (haltCtx s id x cause a addr slot).sec = s.sec :=
  haltCtx_keep s (·.sec) (fun s => State.setRegN_sec s) (fun s => State.setCore_sec s) (fun s => State.bump_sec s) ..
@[simp] theorem haltCore_sec (id : CoreId) (x : Option Ctx) (cause : Nat) (a : Bool) (addr slot : Nat) : (haltCore s id x cause a addr slot).sec = s.sec :=
  haltCore_keep s (·.sec) (fun s => State.setRegN_sec s) (fun s => State.setCore_sec s) (fun s => State.bump_sec s) ..
@[simp] theorem haltCtx_flash (id : CoreId) (x : Ctx) (cause : Nat) (a : Bool) (addr slot : Nat) : (haltCtx s id x cause a addr slot).flash = s.flash :=
  haltCtx_keep s (·.flash) (fun s => State.setRegN_flash s) (fun s => State.setCore_flash s) (fun s => State.bump_flash s) ..
@[simp] theorem haltCore_flash (id : CoreId) (x : Option Ctx) (cause : Nat) (a : Bool) (addr slot : Nat) : (haltCore s id x cause a addr slot).flash = s.flash :=
  haltCore_keep s (·.flash) (fun s => State.setRegN_flash s) (fun s => State.setCore_flash s) (fun s => State.bump_flash s) ..
@[simp] theorem haltCtx_power (id : CoreId) (x : Ctx) (cause : Nat) (a : Bool) (addr slot : Nat) : (haltCtx s id x cause a addr slot).power = s.power :=
  haltCtx_keep s (·.power) (fun s => State.setRegN_power s) (fun s => State.setCore_power s) (fun s => State.bump_power s) ..
@[simp] theorem haltCore_power (id : CoreId) (x : Option Ctx) (cause : Nat) (a : Bool) (addr slot : Nat) : (haltCore s id x cause a addr slot).power = s.power :=
  haltCore_keep s (·.power) (fun s => State.setRegN_power s) (fun s => State.setCore_power s) (fun s => State.bump_power s) ..

/-! ### Talel requests (R350, R409) -/

theorem withRequest_none {n : Nat} {ok : Msg → Bool} (act : State → Msg → State) (h : s.popReady n ok = none) : withRequest s n ok act = s := by
  simp only [withRequest, h]

/-- A request that passes its checks acts on the state without it. -/
theorem withRequest_of_ok {n : Nat} {ok : Msg → Bool} (act : State → Msg → State) {m : Msg} {t : State} (h : s.popReady n ok = some (m, t))
    (hc : reqCode t (t.tctx n) m = 0) : withRequest s n ok act = act t m := by
  simp [withRequest, h, hc]

/-- A request is taken from an OPEN context's head, if the test accepts it. -/
theorem popReady_of_head {n : Nat} {ok : Msg → Bool} {m : Msg} {rest : List Msg} (ho : (s.tctx n).st = 1) (hr : (s.tctx n).ready = m :: rest)
    (hm : ok m = true) : s.popReady n ok = some (m, s.setTctx n { s.tctx n with ready := rest }) := by
  simp [State.popReady, ho, hr, hm]

/-! ### Memory keeps its canonical form -/

theorem State.writePart_wf {s : State} (a n v : Nat) (h : s.mem.wf) : (s.writePart a n v).mem.wf := by
  unfold State.writePart
  split
  · exact Mem.wf_write _ _ _ h
  · split
    · exact h
    · exact Mem.wf_write _ _ _ h

theorem State.writePlace_wf (fuel : Nat) : ∀ {s : State} (a n v : Nat), s.mem.wf → (s.writePlace a n v fuel).mem.wf := by
  induction fuel with
  | zero => exact fun _ _ _ h => h
  | succ k ih =>
    intro s a n v h
    unfold State.writePlace
    split
    · exact h
    · exact ih _ _ _ (State.writePart_wf _ _ _ h)

theorem State.put_wf {s : State} (a n v : Nat) (h : s.mem.wf) : (s.put a n v).mem.wf := State.writePlace_wf _ _ _ _ h

theorem State.putLines_wf {s : State} (a n : Nat) (b : List Host.Cell) (i : Nat) (k : NSet) (h : s.mem.wf) : (s.putLines a n b i k).mem.wf :=
  Mem.wf_copy _ _ _ _ h

theorem addGrains_wf (fmt : Nat) (op : List Host.Cell) (n : Nat) : ∀ {m : List Host.Cell} (place b : Nat), Mem.wf m →
    Mem.wf (addGrains fmt m op place b n).1 := by
  induction n with
  | zero => exact fun _ _ h => h
  | succ n ih => exact fun _ _ h => ih _ _ (Mem.wf_write _ _ _ h)

theorem flipSector_wf (a : Nat) (errs : List SymErr) : ∀ {m : List Host.Cell}, Mem.wf m → Mem.wf (flipSector m a errs) := by
  unfold flipSector
  induction errs with
  | nil => exact fun h => h
  | cons e r ih =>
    intro m h
    simp only [List.foldl_cons]
    split
    · exact ih (Mem.wf_set _ _ h)
    · exact ih h

/-! ### Units that wait, and domains that stop -/

theorem whileRunning_of_running {d : Nat} (t : State) (h : s.domainState d = 0) : whileRunning s d t = t := if_pos h

theorem whileRunning_of_stopped {d : Nat} (t : State) (h : s.domainState d ≠ 0) : whileRunning s d t = s := if_neg h

/-- A unit acts on what it reads, or leaves one of its reads at the agent that holds it. -/
theorem whenRead_eq {α : Type} (m : Reading α) (act : α → State → State) :
    (∃ v s', m s = .ok (v, s') ∧ whenRead s m act = act v s') ∨ (∃ a n, m s = .error (a, n) ∧ whenRead s m act = trainAsk s a n) := by
  unfold whenRead
  split
  · exact .inr ⟨_, _, ‹_›, rfl⟩
  · exact .inl ⟨_, _, ‹_›, rfl⟩

/-- A carousel frame changes nothing when its message is not the next of its context, and acts once otherwise. -/
theorem withFrame_eq (port : Nat) (m : CrsMsg) (f : CrsFrame) (act : State → State × Bool) :
    (takeMessage s (s.unitNo port) m.ctx.val m.psn f = none ∧ withFrame s port m f act = s) ∨
    (∃ t, takeMessage s (s.unitNo port) m.ctx.val m.psn f = some t ∧
      withFrame s port m f act = if (act t).2 then (act t).1 else (act s).1) := by
  unfold withFrame
  split
  · exact .inl ⟨‹_›, rfl⟩
  · rename_i t ht
    refine .inr ⟨t, ht, ?_⟩
    split <;> simp_all

/-- A tile's reply comes only for a request that is out; its home takes the request, in the cycle of the reply or ahead of it. -/
theorem tileResponse_none {id : CoreId} {n seq t : Nat} (h : requestOut s id n seq t = none) : tileResponse s id n seq t = s := by
  unfold tileResponse; rw [h]

end Sys2Proof.Machine
end

