-- ==== Sys2Proof/WellFormed.lean ====
section
/-! DEFINITION. Which commands are well formed: operands in the ranges that the spec gives their fields, beyond what their types say.
`exec` gives every command a next state, well formed or not. -/

namespace Sys2Proof

/-- A number below a bound. -/
def below (n bound : Nat) : Bool := decide (n < bound)

/-- A Talel message fits its header and payload (R344). -/
def Msg.wf (m : Msg) : Bool :=
  below m.cls 16 && below m.ver 16 && below m.tc 4 && below m.srcCtx 16384 && below m.dstCtx 16384 && below m.len 8209 &&
    below m.psn (2 ^ 24) && below (m.ackpsn.getD 0) (2 ^ 24) && below m.epoch (2 ^ 16) && below m.part 4 && below m.tag (2 ^ 32) &&
    below m.data (2 ^ (8 * m.len))

/-- The body of a frame fits its fields (R340, R343). -/
def EthBody.wf : EthBody → Bool
  | .udp v6 src dst _ port _ _ msg => below src (2 ^ (if v6 then 128 else 32)) && below dst (2 ^ (if v6 then 128 else 32)) &&
      below port (2 ^ 16) && msg.wf
  | .helper kind => below kind 4
  | .eapol _ => true
  | .pfc changes => changes.all (fun e => below e.1 8)
  | .other => true

/-- A frame's SecTAG, length, tags and priority fit their fields (R340, R342). -/
def EthFrame.wf (f : EthFrame) : Bool :=
  below f.size (2 ^ 16) && below f.prio 8 && f.body.wf &&
    (match f.sec with | some t => below t.an 4 && below t.pn (2 ^ 64) && below t.key (2 ^ 384) | none => true)

/-- A carousel frame fits its header and carries at most 64 lines (R258). -/
def CrsFrame.wf (f : CrsFrame) : Bool :=
  below f.kind 16 && below f.step (2 ^ 16) && below f.bucket (2 ^ 12) && below f.slice (2 ^ 10) && below f.segment 128 &&
    below f.linesM1 64 && below f.count (2 ^ 16) && below f.e 256 && below f.contrib (2 ^ 16) &&
    below f.data (2 ^ (1024 * (if f.empty then 0 else f.linesM1 + 1)))

/-- The PSN of a carousel message has 24 bits (R344). -/
def CrsMsg.wf (m : CrsMsg) : Bool := below m.psn (2 ^ 24)

/-- A service frame fits its header and carries at most 8,192 bytes (R418, R428). -/
def SvcFrame.wf (f : SvcFrame) : Bool :=
  below f.op (2 ^ 16) && below f.chunk (2 ^ 16) && below f.chunksM1 (2 ^ 16) && below f.len 8193 && below f.data (2 ^ (8 * f.len))

/-- Symbols in error among some sectors: a sector, one of its 72 symbols and the 4 bits that are wrong in it, not all 0 (R211). -/
def errsWf (sectors : Nat) (errs : List (Nat × Nat × Nat)) : Bool :=
  errs.all (fun e => below e.1 sectors && below e.2.1 72 && below 0 e.2.2 && below e.2.2 16)

/-- A number of a 32 KiB tile of the device range (R186). -/
def tileWf (t : Nat) : Bool := below t (2 ^ 33)

/-- A place where parity fails lies in HBM or in the pool frames (R186, R397). -/
def ParityAt.wf : ParityAt → Bool
  | .line place => below place (2 ^ 41)
  | .directory t => tileWf t
  | .core .. | .side .. | .rowBuffer .. | .pageTalel .. | .pageLoad .. | .pageOther | .cluster .. | .training | .ringmaster => true

/-- A packet carries the flits that its header announces: LEN_M1 + 1, or none under HDR_ONLY (R323, R326). -/
def Packet.wf (p : Packet) : Bool :=
  p.flits.length == (if p.header.getLsbD 41 then 0 else (p.header.toNat / 2 ^ 42) % 8 + 1)

/-- A command whose operands lie in the ranges that the spec gives them. -/
def Instr.wf : Instr → Bool
  | .externalPush _ _ src _ => below src 321
  | .moveGrant t => tileWf t
  | .moveCommit t => tileWf t
  | .hbmRead line errs => below line (3 * 2 ^ 31) && errsWf 4 errs
  | .hbmWrite line off len _ _ errs => below line (3 * 2 ^ 31) && below 0 len && below (off.val + len) 129 && errsWf 4 errs
  | .scrubRead _ errs => errsWf 4 errs
  | .rowRemap _ errs => errsWf 32 errs
  | .periodicRetrain _ _ lanes _ _ => lanes.all (fun n => below n 72)
  | .frameReceive _ f => f.wf
  | .accept _ kind part psn => below kind 3 && below part 4 && below psn (2 ^ 24)
  | .reduceFrame _ f => f.msg.wf && f.frame.wf
  | .factorFrame _ f => f.msg.wf && f.frame.wf
  | .paramFrame _ f => f.msg.wf && f.frame.wf
  | .pruned _ f => f.msg.wf && f.frame.wf
  | .cutThroughFail _ f => f.msg.wf && f.frame.wf
  | .mirrorRankUpdate _ _ upset => upset.all (fun e => below e.1 (2 ^ 16) && below e.2 (2 ^ 50))
  | .ledgerEvent (some (unit, kind, locus)) => below unit (2 ^ 32) && below kind 16 && below locus (2 ^ 32)
  | .parity p _ => p.wf
  | .image f => f.wf
  | .report (some f) => f.wf
  | .cert (some f) => f.wf
  | .status f => f.wf
  | .periscopeOpen key sig _ => below key (2 ^ 512) && below sig (2 ^ 238336)
  | .packetHop _ _ _ enter => enter.all Packet.wf
  | .crossingArrival _ enter => enter.all Packet.wf
  | .stageAdvance w => w.hbm.all (fun h => h.lanes.all (fun n => below n 72)) && w.routes.all (fun e => below e.1 4608 && below e.2 5)
  | .illegalOpcode .. | .slotAbsent .. | .emptyWord .. | .end_ .. | .br .. | .bz .. | .bnz .. | .loop .. | .markStart ..
  | .markEnd .. | .replayBegin .. | .replayEnd .. | .replayRun .. | .brk .. | .fset .. | .fadd .. | .fwait .. | .qpopi ..
  | .qpushi .. | .qdrop .. | .imovi .. | .iadd .. | .iaddi .. | .isub .. | .ishli .. | .iand .. | .mxSweep .. | .mxCoord ..
  | .mxPass .. | .mxDrain .. | .vadd .. | .vsub .. | .vmul .. | .vfma .. | .vrcp .. | .vrsq .. | .vexp2 .. | .vlog2 ..
  | .vcvt .. | .vrsum .. | .vpass .. | .vmax .. | .vmin .. | .vabs .. | .vneg .. | .vcmp .. | .vsel .. | .vmov .. | .vbcst ..
  | .vld .. | .vst .. | .vqpop .. | .vqpush .. | .sadd .. | .ssub .. | .sand .. | .sor .. | .sxor .. | .sshl .. | .sshr ..
  | .ssra .. | .smovi .. | .saddi .. | .scmplt .. | .scmpeq .. | .stoi .. | .itos .. | .smul .. | .sdivu .. | .spass ..
  | .sld .. | .sst .. | .sqpop .. | .sqpush .. | .sregwr .. | .jgBase .. | .jgLoop .. | .jgDest .. | .jgRun .. | .jgSwap ..
  | .jgStop .. | .jgLd .. | .jgSt .. | .jgMove .. | .rankUpdateAccumulate .. | .drainRowWrite .. | .jgLdResponse ..
  | .resultCommit .. | .contextIdle .. | .haltComplete .. | .run .. | .resume .. | .reset .. | .haltReq .. | .haltAll ..
  | .latAuditWrite .. | .qcfgExtWrite .. | .pcWrite .. | .remoteFlagWrite .. | .deadlock .. | .tileResponse ..
  | .tileDelivered .. | .faultTaken .. | .faultAnswer .. | .faultTimeout .. | .stashFull .. | .moveTileRequest ..
  | .movingFaultEnquiry .. | .stashStore .. | .stashSpill .. | .stashFill .. | .stkRelease .. | .stkCfgWrite ..
  | .hbmTilesWrite .. | .stashTakeAway .. | .atomicStore .. | .atomicApply .. | .dirPeek .. | .poisonNotice .. | .rowRetire ..
  | .retireNotice .. | .laneRepair .. | .stackLost .. | .repairMapWrite .. | .rowKick .. | .kickStart .. | .rowProcess ..
  | .kickDone .. | .rowAbort .. | .sideDataRead .. | .sideDataWrite .. | .pfcPause .. | .pfcSend .. | .linkChange ..
  | .connect .. | .close .. | .nak .. | .ack .. | .messageReceive .. | .ackDelayExpiry .. | .rtoExpiry .. | .regRead ..
  | .regWrite .. | .memRead .. | .memWrite .. | .atomicFetchAdd .. | .mbxDoorbell .. | .mbxSend .. | .mbxPop ..
  | .mbxCfgWrite .. | .cstateRelease .. | .sakCommit .. | .admission .. | .sliceCommit .. | .frontierAdvance ..
  | .frontierFlagSend .. | .phsLdataWrite .. | .phsLdataRead .. | .hand .. | .gather .. | .quantiseSegment .. | .handDone ..
  | .slotForward .. | .holdExpiry .. | .segmentClose .. | .deadlineExpiry .. | .sliceClose .. | .thinnedClose ..
  | .paramMulticast .. | .prune .. | .mcCredit .. | .pull .. | .pullRetry .. | .bankSwitchWrite .. | .oldIdle ..
  | .bdataWrite .. | .bdataRead .. | .recordHandoff .. | .thinnedHandoff .. | .submit .. | .sliceBegin .. | .admissionRetry ..
  | .etaNextWrite .. | .updateLine .. | .batchPush .. | .bdone .. | .batchTimeout .. | .paramWrite .. | .updEnableWrite ..
  | .updLdataWrite .. | .updLdataRead .. | .mirrorCompare .. | .sampleTimeout .. | .loupeCompare .. | .numericsTrigger ..
  | .ledgerEvent none | .ledgerFlashWrite .. | .flush .. | .ldgQidxWrite ..
  | .dfreqWrite .. | .freqDone .. | .unlock .. | .relock .. | .sourceLineChange .. | .sicDeliver .. | .sicComplete ..
  | .sicSwset .. | .claim .. | .licComplete .. | .scfgWrite .. | .licSwset .. | .delivery .. | .moderationExpiry ..
  | .idleHost .. | .spyglassHit .. | .isetWrite .. | .cntSelWrite .. | .cntLoRead .. | .errlogDataRead .. | .ownerWrite ..
  | .registerWrite .. | .poisonConsumed .. | .kill .. | .killDone .. | .drainTimeout .. | .sharedTrigger .. | .partReset ..
  | .epochAdopt .. | .targetsAcknowledged .. | .warm .. | .partConfigWrite .. | .bootVerify .. | .mgtChunk .. | .report none
  | .cert none | .enrol .. | .fwStage .. | .fwCommit .. | .mgtPartReset .. | .mgtPartKill .. | .mgtWarm .. | .remove ..
  | .alarmAck .. | .identify .. | .provision .. | .alarm .. | .removalRequest .. | .shortPress .. | .buttonDown ..
  | .drainingEnd .. | .safe .. | .tailWrite .. | .latchLever .. | .vbusChange .. | .periscopeClose .. | .sessionTimeout ..
  | .authLockoutExpiry .. | .fullPowerOn .. | .powerGood .. | .undervolt .. | .powerEnableLow .. | .overvoltage ..
  | .powerCapPeriod .. | .phaseSpare .. | .peerPortFail .. | .spareLinkTimeout .. | .retire .. | .sleep .. | .wake ..
  | .inputLoss .. => true

end Sys2Proof
end

