-- ==== Sys2Proof/Tests/Slice0.lean ====
section
/-! SUPPORT. Tests: commands that are ill formed, values worked out by hand from the spec, and for every statement operands and a state
that meet its premises. A premise about a signature or a hash names an opaque constant, and is a premise of its witness too. -/

namespace Sys2Proof.Tests

set_option Elab.async false

open Sys2Proof Sys2Proof.Machine

/-! ### Ill-formed commands -/

theorem test_ill_push_source : (Instr.externalPush ⟨⟨0, 0⟩, .f, 0⟩ 0 321 0).wf = false := by decide
theorem test_ill_tile : (Instr.moveGrant (2 ^ 33)).wf = false ∧ (Instr.moveCommit (2 ^ 33)).wf = false := by decide
theorem test_ill_line : (Instr.hbmRead (3 * 2 ^ 31) []).wf = false ∧ (Instr.hbmRead 0 [(0, 72, 1)]).wf = false ∧
    (Instr.hbmRead 0 [(0, 0, 0)]).wf = false ∧ (Instr.hbmRead 0 [(4, 0, 1)]).wf = false := by decide
theorem test_ill_write : (Instr.hbmWrite 0 100 29 0 false []).wf = false ∧ (Instr.hbmWrite 0 0 0 0 false []).wf = false := by decide
theorem test_ill_errors : (Instr.scrubRead 0 [(0, 0, 16)]).wf = false ∧ (Instr.rowRemap 0 [(32, 0, 1)]).wf = false ∧
    (Instr.periodicRetrain 0 0 [72] false false).wf = false := by decide
theorem test_ill_message : ({ cls := 16 } : Msg).wf = false ∧ ({ cls := 1, len := 8209 } : Msg).wf = false ∧
    ({ cls := 1, len := 1, data := 256 } : Msg).wf = false := by decide
theorem test_ill_frame : (Instr.frameReceive 0 ⟨64, 0, 8, true, 0, 0, none, .other⟩).wf = false ∧
    (Instr.frameReceive 0 ⟨64, 0, 0, true, 0, 0, none, .helper 4⟩).wf = false ∧
    (Instr.frameReceive 0 ⟨64, 0, 0, true, 0, 0, some { an := 4, pn := 0, key := 0, intact := true }, .other⟩).wf = false := by decide
theorem test_ill_accept : (Instr.accept 0 3 0 0).wf = false ∧ (Instr.accept 0 0 4 0).wf = false ∧
    (Instr.accept 0 0 0 (2 ^ 24)).wf = false := by decide
theorem test_ill_carousel : (Instr.reduceFrame 0 ⟨⟨0, 0⟩, { kind := 1, step := 2 ^ 16, bucket := 0, slice := 0, segment := 0 }⟩).wf = false ∧
    (Instr.paramFrame 0 ⟨⟨0, 0⟩, { kind := 3, step := 0, bucket := 0, slice := 0, segment := 128 }⟩).wf = false ∧
    (Instr.factorFrame 0 ⟨⟨0, 0⟩, { kind := 2, empty := true, step := 0, bucket := 0, slice := 0, segment := 0, data := 1 }⟩).wf = false ∧
    (Instr.pruned 0 ⟨⟨0, 0⟩, { kind := 4, step := 0, bucket := 4096, slice := 0, segment := 0 }⟩).wf = false ∧
    (Instr.cutThroughFail 0 ⟨⟨0, 0⟩, { kind := 1, step := 0, bucket := 0, slice := 1024, segment := 0 }⟩).wf = false ∧
    (Instr.reduceFrame 0 ⟨⟨0, 16777216⟩, { kind := 1, step := 0, bucket := 0, slice := 0, segment := 0 }⟩).wf = false := by decide
theorem test_ill_packet : (Instr.crossingArrival 0 [⟨0, []⟩]).wf = false ∧ (Instr.crossingArrival 0 [⟨BitVec.ofNat 64 (2 ^ 41), []⟩]).wf = true ∧
    (Instr.stageAdvance { done := true, hbm := [⟨0, 0, [72], false, true⟩] }).wf = false := by decide
theorem test_ill_upset : (Instr.mirrorRankUpdate ⟨0, 0⟩ 0 [(65536, 1)]).wf = false := by decide
theorem test_ill_event : (Instr.ledgerEvent (some (2 ^ 32, 6, 0))).wf = false := by decide
theorem test_ill_parity : (Instr.parity (.line (2 ^ 41)) 0).wf = false ∧ (Instr.parity (.directory (2 ^ 33)) 0).wf = false := by decide
theorem test_ill_service : (Instr.image ⟨0, 0, 0, 8193, 0⟩).wf = false ∧ (Instr.report (some ⟨0, 2 ^ 16, 0, 0, 0⟩)).wf = false ∧
    (Instr.cert (some ⟨2 ^ 16, 0, 0, 0, 0⟩)).wf = false ∧ (Instr.status ⟨0, 0, 0, 0, 1⟩).wf = false := by decide
theorem test_ill_key : (Instr.periscopeOpen (2 ^ 256 * 2 ^ 256) 0 0).wf = false := by decide +kernel
theorem test_ill_routes : (Instr.stageAdvance { done := true, routes := [(4608, 0)] }).wf = false := by decide
theorem test_well_formed : (Instr.hbmWrite 7 100 28 0 false [(3, 71, 15)]).wf = true ∧ (Instr.killDone).wf = true := by decide

/-! ### Long words -/

/-- A matrix core, a vector core and the scalar core of cluster 0. -/
def mcore : CoreId := ⟨0, 0⟩
def vcore : CoreId := ⟨0, 2⟩
def score : CoreId := ⟨0, 6⟩

/-- The state after reset with one core's state. -/
def withCore (id : CoreId) (c : Core) : State := { State.reset with cores := [(coreIdx id, c)] }

/-- Parcels as a number, the first least significant. -/
def parcels : List Nat → Nat
  | [] => 0
  | a :: r => a + 2 ^ 32 * parcels r

/-- An instruction store that holds words from address 0. -/
def stored (l : List Nat) : List Host.Cell := Mem.write [] 0 (4 * l.length) (parcels l)

/-- Queues that hold one entry, poppable at once, for every pop that a word can name. -/
def fullQueues : SMap DataQueue := (List.range 8).map (fun q => (q, { items := [⟨0x123456789, 0, none⟩] }))

/-- A core whose context F is RUNNING with words of one stream from address 0; the other stream has ended. -/
def running (access : Bool) (l : List Nat) : Core :=
  { istore := stored l
    ctxF := { mode := .running, exe := { ended := access }, acc := { ended := !access }, queues := fullQueues } }

/-- The word with one slot, at address 0. -/
def oneSlot (slot raw : Nat) : List Nat := [0xA0000000 + 2 ^ slot, raw % 2 ^ 32, raw / 2 ^ 32 % 2 ^ 32, raw / 2 ^ 64]

/-- The issue of context F's stream in cycle 0. -/
def first (id : CoreId) (access : Bool) : Issue := ⟨id, .f, access, 0⟩

/-- A state whose core issues a word of one slot next. -/
def wordState (id : CoreId) (access : Bool) (slot raw : Nat) : State := withCore id (running access (oneSlot slot raw))

/-- May a stream's next word issue with no halt cause, as a test that evaluates? -/
def cleanOk (s : State) (u : Issue) : Bool :=
  issuable s u.id u.ctx u.access u.cycle && (poisonedRead s u.id u.cycle).isNone && coreDue s u.id u.cycle &&
    (coreCause (atCycle s u.id u.cycle) u).isNone && (issueCause (atCycle s u.id u.cycle) { u with access := false }).isNone &&
    (issueCause (atCycle s u.id u.cycle) { u with access := true }).isNone

theorem clean_of_ok {s : State} {u : Issue} (h : cleanOk s u = true) : CleanIssue s u := by
  simp only [cleanOk, Bool.and_eq_true, Option.isNone_iff_eq_none] at h
  exact ⟨⟨h.1.1.1.1.1, h.1.1.1.1.2, h.1.1.1.2⟩, h.1.1.2, h.1.2, h.2⟩

/-- Does a stream's next word issue with no halt cause and hold one operation only? -/
def soleOk (s : State) (u : Issue) (op : SlotOp) : Bool := cleanOk s u && decide ((wordOf s u).slots = [op])

theorem sole_of_ok {s : State} {u : Issue} {op : SlotOp} (h : soleOk s u op = true) : SoleIssue s u op := by
  simp only [soleOk, Bool.and_eq_true, decide_eq_true_eq] at h
  exact ⟨clean_of_ok h.1, h.2⟩

/-- An operation of a table in a word of its own: its core, stream, slot and bits. -/
structure Sample where
  id : CoreId
  access : Bool
  slot : Nat
  name : OpName
  raw : Nat

def Sample.ok (w : Sample) : Bool := soleOk (wordState w.id w.access w.slot w.raw) (first w.id w.access) ⟨w.slot, w.name, w.raw⟩


/-- A word of one operation in slot order, one for each that needs no more of the core than its context and its queues, bits written out
from the encodings of R116 to R128 and R147. -/
def controlSamples : List Sample := [
  ⟨mcore, false, 0, .end_, 0x01⟩, ⟨mcore, true, 0, .end_, 0x01⟩, ⟨mcore, false, 0, .br, 0x00100002⟩,
  ⟨mcore, false, 0, .bz, 0x00100043⟩, ⟨mcore, false, 0, .bnz, 0x00100044⟩, ⟨mcore, false, 0, .loop, 0x00100045⟩,
  ⟨mcore, false, 0, .markStart, 0x00070006⟩, ⟨mcore, false, 0, .markEnd, 0x00070007⟩, ⟨mcore, false, 0, .replayBegin, 0x48⟩,
  ⟨mcore, false, 1, .fset, 0x0000050000000141⟩, ⟨mcore, false, 2, .fadd, 0x0000050000000142⟩, ⟨mcore, false, 1, .fwait, 0x0000000000000103⟩,
  ⟨mcore, false, 1, .qpopi, 0x00020004⟩, ⟨mcore, false, 1, .qpushi, 0x00210405⟩, ⟨mcore, false, 2, .qdrop, 0x0106⟩,
  ⟨mcore, false, 3, .imovi, 0x1234567800000041⟩, ⟨mcore, false, 3, .iadd, 0x0C42⟩, ⟨mcore, false, 3, .iaddi, 0x0000000500000843⟩,
  ⟨mcore, false, 3, .isub, 0x0C44⟩, ⟨mcore, false, 3, .ishli, 0x000C0845⟩, ⟨mcore, false, 3, .iand, 0x0C46⟩]

def engineSamples : List Sample := [
  ⟨mcore, false, 4, .mxCoord, 0x0002000100000002⟩, ⟨mcore, false, 4, .mxPass, 0x43⟩,
  ⟨mcore, false, 4, .mxSweep, 0x000003F4FFFF03FF23380001⟩,
  ⟨vcore, false, 4, .vadd, 0xC4101⟩, ⟨vcore, false, 4, .vsub, 0xC4182⟩, ⟨vcore, false, 4, .vmul, 0xC4143⟩, ⟨vcore, false, 4, .vfma, 0x20C4104⟩,
  ⟨vcore, false, 4, .vrcp, 0x4105⟩, ⟨vcore, false, 4, .vrsq, 0x4106⟩, ⟨vcore, false, 4, .vexp2, 0x4107⟩, ⟨vcore, false, 4, .vlog2, 0x4108⟩,
  ⟨vcore, false, 4, .vcvt, 0x0000000000004149⟩, ⟨vcore, false, 4, .vcvt, 0x0000000900004109⟩, ⟨vcore, false, 4, .vrsum, 0x410A⟩,
  ⟨vcore, false, 4, .vpass, 0x000000010000000B⟩,
  ⟨vcore, false, 5, .vmax, 0xC4101⟩, ⟨vcore, false, 5, .vmin, 0xC4182⟩, ⟨vcore, false, 5, .vabs, 0x4103⟩, ⟨vcore, false, 5, .vneg, 0x4104⟩,
  ⟨vcore, false, 5, .vcmp, 0x00000001000C4105⟩, ⟨vcore, false, 5, .vsel, 0xC4106⟩, ⟨vcore, false, 5, .vmov, 0x4107⟩,
  ⟨vcore, false, 5, .vbcst, 0x3F80000000000108⟩,
  ⟨vcore, false, 6, .vld, 0x0000010000000101⟩, ⟨vcore, false, 6, .vst, 0x001FFFC000000102⟩, ⟨vcore, false, 6, .vqpop, 0x0103⟩,
  ⟨vcore, false, 6, .vqpush, 0x80104⟩]

def scalarSamples : List Sample := [
  ⟨score, false, 4, .sadd, 0x31041⟩, ⟨score, false, 5, .ssub, 0x31042⟩, ⟨score, false, 4, .sand, 0x31043⟩, ⟨score, false, 4, .sor, 0x31044⟩,
  ⟨score, false, 4, .sxor, 0x31045⟩, ⟨score, false, 4, .sshl, 0x31046⟩, ⟨score, false, 4, .sshr, 0x31047⟩, ⟨score, false, 4, .ssra, 0x31048⟩,
  ⟨score, false, 5, .smovi, 0x8000000000000049⟩, ⟨score, false, 4, .saddi, 0x000000050000104A⟩, ⟨score, false, 4, .scmplt, 0x3104B⟩,
  ⟨score, false, 4, .scmpeq, 0x3104C⟩, ⟨score, false, 5, .stoi, 0x60100D⟩, ⟨score, false, 5, .itos, 0x60004E⟩,
  ⟨score, false, 4, .smul, 0x3104F⟩, ⟨score, false, 4, .sdivu, 0x31050⟩, ⟨score, false, 4, .spass, 0x0000000200000011⟩,
  ⟨score, false, 6, .sld, 0x0000010000000041⟩, ⟨score, false, 6, .sst, 0x0003FFF800000042⟩, ⟨score, false, 6, .sqpop, 0x43⟩,
  ⟨score, false, 6, .sqpush, 0x401044⟩]

def jugglerSamples : List Sample := [
  ⟨mcore, true, 7, .jgBase, 0x00000001000000C1⟩, ⟨mcore, true, 8, .jgLoop, 0x00FFFFFF000310C2⟩, ⟨mcore, true, 7, .jgDest, 0x00000000060000C3⟩,
  ⟨mcore, true, 7, .jgRun, 0xC4⟩, ⟨mcore, true, 7, .jgSwap, 0xC5⟩, ⟨mcore, true, 7, .jgStop, 0xC6⟩, ⟨mcore, true, 7, .jgLd, 0x0000000400000047⟩,
  ⟨mcore, true, 7, .jgSt, 0x0000000400000048⟩, ⟨mcore, true, 8, .jgMove, 0x0000000500000009⟩]

theorem witness_controlSamples : controlSamples.all Sample.ok = true := by decide +kernel
theorem witness_engineSamples : engineSamples.all Sample.ok = true := by decide +kernel
theorem witness_scalarSamples : scalarSamples.all Sample.ok = true := by decide +kernel
theorem witness_jugglerSamples : jugglerSamples.all Sample.ok = true := by decide +kernel

/-- Every one of these words meets the premises of its operation's statements (R83, R99). -/
theorem sample_meets (w : Sample) (h : w.ok = true) :
    SoleIssue (wordState w.id w.access w.slot w.raw) (first w.id w.access) ⟨w.slot, w.name, w.raw⟩ := sole_of_ok h

/-- A word of a core that has been prepared. -/
def Sample.okIn (w : Sample) (f : Core → Core) : Bool :=
  soleOk (withCore w.id (f (running w.access (oneSlot w.slot w.raw)))) (first w.id w.access) ⟨w.slot, w.name, w.raw⟩

/-- Words that are not of one operation. -/
def wordsState (id : CoreId) (access : Bool) (l : List Nat) : State := withCore id (running access l)

/-- A tester of the premises of a halt at issue. -/
def badOk (s : State) (u : Issue) (cause slot : Nat) : Bool :=
  issuable s u.id u.ctx u.access u.cycle && (poisonedRead s u.id u.cycle).isNone && coreDue s u.id u.cycle &&
    (coreCause (atCycle s u.id u.cycle) u).isNone && (issueCause (atCycle s u.id u.cycle) u == some (cause, slot)) &&
    !(wordCauses (atCycle s u.id u.cycle) u).isEmpty && (issueCause (atCycle s u.id u.cycle) { u with access := !u.access }).isNone

theorem witness_RowsIssueTheirWord :
    (let w : Sample := ⟨mcore, false, 0, .br, 0x00100002⟩
     let s := wordState w.id w.access w.slot w.raw
     let u := first w.id w.access
     cleanOk s u = true ∧ hasOp .br (wordOf s u) = true ∧ hasOp .bz (wordOf s u) = false) ∧
    (let s := withCore mcore (running false [])
     issuable s mcore .f true 0 = false) := by decide +kernel

/-- Two slots that exchange S1 and S2 by way of each other. -/
theorem witness_SlotsReadBeforeTheWord :
    (let l := [0xA0000030, 0x00001041, 0, 0x00010885, 0]
     let s := wordsState score false l
     let u := first score false
     cleanOk s u = true ∧ kindOf u.id = .scalar ∧ (wordOf s u).slots = [⟨4, .sadd, 0x1041⟩, ⟨5, .sxor, 0x10885⟩]) := by decide +kernel

theorem witness_Branches :
    (let w : Sample := ⟨mcore, true, 0, .end_, 0x01⟩
     let prep : Core → Core := fun c => c.setSc 63 { owner := some .f, state := scSegWait }
     w.okIn prep = true ∧ ((withCore mcore (prep (running true (oneSlot 0 1)))).core mcore |>.sc 63).owner = some .f) := by
  decide +kernel

theorem witness_EmptyWords :
    (let s := wordsState mcore false [0xAFFF0000]
     cleanOk s (first mcore false) = true ∧ isEmptyWord (wordOf s (first mcore false)) = true ∧
       (wordOf s (first mcore false)).gap = 4095) := by decide +kernel

theorem witness_FlagWaits :
    (let w : Sample := ⟨mcore, false, 1, .fwait, 0x0502FF03⟩
     let s := wordState w.id w.access w.slot w.raw
     let u := first mcore false
     (wordOf s u).slots = [⟨1, .fwait, 0x0502FF03⟩] ∧ (wordOf s u).causes = [] ∧ (wordOf s u).absent = false ∧
       ((s.core u.id).flag u.ctx (field w.raw 15 8)).released (issuingStream u s).readyAt u.cycle (field w.raw 17 16)
        (field w.raw 47 24) = false) := by decide +kernel

theorem witness_Breakpoint :
    (let s := wordState mcore false 0 0x3FFFCB
     let u := first mcore false
     issuable s u.id u.ctx u.access u.cycle = true ∧ poisonedRead s u.id u.cycle = none ∧ coreDue s u.id u.cycle = true ∧
       coreCause (atCycle s u.id u.cycle) u = none ∧ (wordOf s u).slots = [⟨0, .brk, 0x3FFFCB⟩] ∧
       wordCauses (atCycle s u.id u.cycle) u = [] ∧ issueCause (atCycle s u.id u.cycle) { u with access := !u.access } = none) := by
  decide +kernel

/-- A bad header, an undefined opcode in the last slot, and a slot that a matrix core lacks. -/
theorem witness_BadWordsHalt :
    (badOk (wordsState mcore false [0x10000000]) (first mcore false) causeIllegal noSlot = true ∧
      isIllegal (wordOf (wordsState mcore false [0x10000000]) (first mcore false)) = true) ∧
    (badOk (wordsState mcore true [0xA0000100, 0x3F]) (first mcore true) causeIllegal 8 = true ∧
      isIllegal (wordOf (wordsState mcore true [0xA0000100, 0x3F]) (first mcore true)) = true) ∧
    (badOk (wordsState mcore false [0xA0000040, 1]) (first mcore false) causeSlotAbsent 6 = true ∧
      (wordOf (wordsState mcore false [0xA0000040, 1]) (first mcore false)).absent = true) := by decide +kernel

/-- FSET and FADD of the flag's first write of its cycle. -/
theorem witness_FlagWrites :
    (let w : Sample := ⟨mcore, false, 2, .fadd, 0xFFFFFF00FF82⟩
     w.ok = true ∧ (((wordState w.id w.access w.slot w.raw).core mcore).flag (Ctx.ofIdx (field w.raw 7 6)) (field w.raw 15 8)).hist.all
       (fun e => decide (e.cycle < 0)) = true) := by decide +kernel

theorem witness_LayerMarks :
    (issuingStream (first mcore false) (wordState mcore false 0 0x00070006)).phase = none ∧
    (issuingStream (first mcore false) (wordState mcore false 0 0x00070007)).repeatAt 7 = none := by decide +kernel

/-- A core with a range in its replay table, and perhaps a replay that is active. -/
def replaying (e : Option Nat) (a : Option (Nat × Nat)) (c : Core) : Core :=
  { c with ctxF := { c.ctxF with exe := { c.ctxF.exe with replay := [(63, (0x20, e))], active := a } } }

theorem witness_Replays :
    (let w : Sample := ⟨mcore, false, 0, .replayEnd, 0xFC9⟩
     let point (a : Option (Nat × Nat)) : Option Nat :=
       let s := withCore mcore (replaying none a (running false (oneSlot 0 0xFC9)))
       takePoint (issuingStream (first mcore false) s) (wordOf s (first mcore false))
     w.okIn (replaying none none) = true ∧ point none = none ∧ w.okIn (replaying none (some (63, 0x40))) = true ∧
       point (some (63, 0x40)) = none ∧ w.okIn (replaying none (some (0, 0x40))) = true ∧ point (some (0, 0x40)) = none) ∧
    (let w : Sample := ⟨mcore, false, 0, .replayRun, 0xFCA⟩
     w.okIn (replaying (some 0x30) none) = true) := by decide +kernel

/-! ### Engines -/

/-- An engine of a matrix core beside a core. -/
def withOpe (id : CoreId) (o : Ope) (s : State) : State := { s with opes := [(coreIdx id, o)] }

/-- A sweep that clears its bank; drains of the front bank, the back bank and both of an FP32-class pair. -/
theorem witness_MatrixOps :
    (let raw := 0x000003F4FFFF03FF23380001
     rateClass (field raw 23 20) (field raw 27 24) = some 1 ∧ sweepClear raw = true ∧ (sweepBanks raw 1).1 = true) ∧
    (let drain (o : Ope) (raw : Nat) : Bool × Bool × Bool :=
       let s := withOpe mcore o (wordState mcore false 5 raw)
       (soleOk s (first mcore false) ⟨5, .mxDrain, raw⟩, (newDrain s mcore .f raw 0).takes false, (newDrain s mcore .f raw 0).takes true)
     drain {} 0x5101 = (true, true, false) ∧ drain {} 0x5141 = (true, false, true) ∧
       drain { front := { cls := 5 }, back := { cls := 5 } } 0x1081 = (true, true, true)) := by decide +kernel

theorem witness_EnginePasses :
    ([(mcore, OpName.mxPass, 0x43), (vcore, OpName.vpass, 0x10000000B), (score, OpName.spass, 0x200000011)].all (fun e =>
      let w : Sample := ⟨e.1, false, 4, e.2.1, e.2.2⟩
      w.ok && (((wordState w.id w.access w.slot w.raw).core w.id).flag .b 255).hist.isEmpty) = true) := by decide +kernel

/-- Conversions that narrow, widen and keep the number of lanes, and a mask of ones (R125, R160). -/
theorem witness_VectorConvert : lanesOf 2 = 2048 ∧ lanesOf 0 = 512 ∧ lanesOf 3 ≤ lanesOf 0 ∧ lanesOf 0 < lanesOf 1 ∧
    bitAt (((wordState vcore false 4 0x4149).core vcore).ctxF.mreg 0).toNat 2047 = true := by decide +kernel

/-- SREGWR to no page, and to CORE.LIMITS of its own core while partition 0 owns the page. -/
theorem witness_ScalarMoves :
    (let w : Sample := ⟨score, false, 6, .sregwr, 0x00FFFFFC00000045⟩
     let s := wordState w.id w.access w.slot w.raw
     w.ok = true ∧ earlyReads s (first score false) ⟨6, .sregwr, w.raw⟩ = 0 ∧ pageAt (0xFFFFFC) = none) ∧
    (let raw := 2 ^ 32 * (corePage score).key 0x1C0 + 0x45
     let s := { wordState score false 6 raw with regs := [((corePage score).key 0x040, 1)] }
     soleOk s (first score false) ⟨6, .sregwr, raw⟩ = true ∧ earlyReads s (first score false) ⟨6, .sregwr, raw⟩ = 0 ∧
       s.domainUp (corePage score).domain = true ∧ s.admits (corePage score) (.sregwr 0 .f) = true) := by decide +kernel

/-! ### The Juggler -/

/-- A core with one stream context. -/
def withSc (n : Nat) (sc : StreamCtx) (c : Core) : Core := c.setSc n sc

/-- A core whose access stream has I registers. -/
def withAcc (l : List (Nat × Word)) (c : Core) : Core := { c with ctxF := { c.ctxF with acc := { c.ctxF.acc with iregs := l } } }

/-- A core whose context F has a mode, its streams ended. -/
def inMode (m : CtxMode) : Core := { ctxF := { mode := m, exe := { ended := true }, acc := { ended := true } } }

/-- A request of a stream context that is sent and not answered. -/
def request (n tile : Nat) : TileReq := { seq := n, tile := tile, sent := true, taken := false, reply := none }

theorem witness_StreamRuns :
    (let s (mask : Nat) : State := { withCore mcore (withSc 3 { state := scFaultWait, owner := some .f } (inMode .halted)) with
       sec := { State.reset.sec with session := some ⟨mask, 7⟩ } }
     let u := first mcore true
     (s 2).sec.session = some ⟨2, 7⟩ ∧ coreDue (s 2) u.id u.cycle = true ∧ bitAt 2 1 = true ∧ ((s 2).core mcore |>.sc 3).state = scFaultWait ∧
       bitAt 1 1 = false ∧ coreDue (s 1) u.id u.cycle = true ∧ State.reset.sec.session = none) ∧
    (let run : Sample := ⟨mcore, true, 7, .jgRun, 0xC4⟩
     let restart : Sample := ⟨mcore, true, 7, .jgRun, 0x10C4⟩
     let swap : Sample := ⟨mcore, true, 8, .jgSwap, 0xC5⟩
     let stop : Sample := ⟨mcore, true, 7, .jgStop, 0xC6⟩
     run.ok = true ∧ bitAt run.raw 12 = false ∧ restart.okIn (withSc 3 { state := scStopped, pos := 1 }) = true ∧
       bitAt restart.raw 12 = true ∧ runEnded ({} : JgDesc).counts (normCtrs ({} : JgDesc).counts ({} : StreamCtx).ctrs) = false ∧
       swap.okIn (withSc 3 { state := scSegWait, owner := some .f }) = true ∧
       swap.okIn (withSc 3 { state := scRunning, owner := some .f, reqs := [request 0 0] }) = true ∧
       stop.okIn (withSc 3 { state := scSegWait, owner := some .f }) = true ∧
       stop.okIn (withSc 3 { state := scRunning, owner := some .f, reqs := [request 0 0] }) = true) := by decide +kernel

/-- JG.ST to nothing, to a system window, to a data tile at home in HBM, and to the last tile of a Stash window. -/
theorem witness_DeviceOps :
    (let s (dir : Bool) (hi lo : Word) : State :=
       { withCore mcore (withAcc [(1, lo), (2, hi), (3, 7)] (running true (oneSlot 7 0x84C8))) with mem.dirInit := dir }
     let u := first mcore true
     let ok (hi lo : Word) : Bool := soleOk (s true hi lo) u ⟨7, .jgSt, 0x84C8⟩
     let spot (hi lo : Word) : Spot := spotOf (deviceAddr (s true hi lo) u 0x84C8)
     let t := s true 0 0x1007FFC
     (ok 0xF0 0 = true ∧ spot 0xF0 0 = .none) ∧ (ok 0xBD 0xC0000000 = true ∧ spot 0xBD 0xC0000000 = .system 0xBDC0000000) ∧
       (ok 0 0x1007FFC = true ∧ spot 0 0x1007FFC = .tile 0x200 false 0x7FFC ∧ isDataTile 0x200 = true ∧
         t.tileInPart (t.unitPart 0) 0x200 = true ∧ t.hasHome 0x200 = true ∧ eMoving (t.entry 0x200) = false ∧
         t.saturated (agentOf 0x200) = false ∧ t.holdsFor 0x200 = false ∧ t.mem.atomics = []) ∧
       (ok 0x100 0xFFFFFFFC = true ∧ spot 0x100 0xFFFFFFFC = .tile 0x201FFFF false 0x7FFC ∧ stashOf 0x201FFFF = some (0, 0x1FFFF) ∧
         t.tileInPart (t.unitPart 0) 0x201FFFF = true ∧ recomputing .f (issuingStream u t) = false)) := by decide +kernel

/-! ### Commits and what reaches a core -/

/-- A result of the execute stream of context F that falls due in a cycle. -/
def due (t issued : Nat) (w : Effect) : Pend := ⟨t, issued, .f, false, 4, 0, w⟩

/-- A core with results in flight and no context that runs. -/
def flying (l : List Pend) : State := withCore score { pend := l }

/-- One result of each kind, and a register 0. -/
theorem witness_OneResultCommits :
    ([Effect.ireg 0 1, .ireg 15 1, .sreg 31 1, .sreg 0 1, .vreg 31 1 1, .mreg 1 1 1, .store 0x3FFFE 8 1, .push 0 1, .layer 1, .holder .u].all
      (fun w => coreDue (flying [due 3 3 w]) score 3 && !anyIssuable (flying [due 3 3 w]) score 3 &&
        decide (((flying [due 3 3 w]).core score).pend.filter (fun q => decide (q.due = 3)) = [due 3 3 w])) = true) ∧
      (((flying []).core score).ctxF.queue 0).ext = false := by decide +kernel

theorem witness_LaterResultStands :
    (let s := flying [due 5 3 (.sreg 1 7), due 5 5 (.sreg 1 8)]
     coreDue s score 5 = true ∧ anyIssuable s score 5 = false ∧
       (s.core score).pend.filter (fun r => decide (r.due = 5)) = [due 5 3 (.sreg 1 7), due 5 5 (.sreg 1 8)]) := by decide +kernel

theorem witness_ContextsComeToRest :
    [CtxMode.running, .halting].all (fun m => coreDue (withCore mcore (inMode m)) mcore 0 && !opsOut (withCore mcore (inMode m)) mcore .f &&
      !scsBusy (inMode m) .f && !scsInFlight (inMode m) .f) = true ∧
    (let s := withCore mcore { inMode .running with pend := [due 9 1 .done] }
     opsOut s mcore .f = true ∧ coreDue s mcore 5 = true) := by decide +kernel

/-- A write or a read that its checks let through. -/
def reachesOk (s : State) (p : Page) (off : Nat) (who : Requester) (write : Bool) (v : Nat) : Bool :=
  match (busCheck s (p.key off) who write v).2 with
  | .ok q => decide (q = p)
  | .error _ => false

theorem write_of_ok {s : State} {p : Page} {off : Nat} {who : Requester} {v : Nat} (h : reachesOk s p off who true v = true) :
    ∃ s1, WriteReaches s s1 p off who v := by
  unfold reachesOk at h
  split at h
  · rename_i q hq
    simp only [decide_eq_true_eq] at h
    exact ⟨_, Prod.ext rfl (by rw [hq, h])⟩
  · simp at h

theorem read_of_ok {s : State} {p : Page} {off : Nat} {who : Requester} (h : reachesOk s p off who false 0 = true) :
    ∃ s1, ReadReaches s s1 p off who := by
  unfold reachesOk at h
  split at h
  · rename_i q hq
    simp only [decide_eq_true_eq] at h
    exact ⟨_, Prod.ext rfl (by rw [hq, h])⟩
  · simp at h

/-- A core whose context F has a mode and a halt cause recorded. -/
def ctlState (m : CtxMode) (cause : Word) : State :=
  { withCore mcore { ctxF := { mode := m, exe := { readyAt := 9 }, acc := { ended := true } } } with
    regs := SMap.set [] ((corePage mcore).key (ctxOff .f 0x0C)) cause }

theorem witness_ContextControl :
    [(1, CtxMode.idle, 0), (1, .running, 0), (2, .halted, 0x0D), (2, .halted, 0x08), (4, .idle, 0), (4, .halted, 0x09), (4, .running, 0),
      (8, .running, 0)].all (fun e => coreDue (ctlState e.2.1 e.2.2) mcore 0 &&
        reachesOk (atCycle (ctlState e.2.1 e.2.2) mcore 0) (corePage mcore) (ctxOff .f 0) .rmSecure true e.1) = true := by decide +kernel

theorem witness_CoreRegisters :
    (let s := ctlState .running 0
     coreDue s mcore 0 = true ∧ s.regN (corePage mcore) 0x010 = 1 ∧ reachesOk (atCycle s mcore 0) (corePage mcore) 0x010 .rmSecure true 17 = true ∧
       reachesOk (atCycle s mcore 0) (corePage mcore) 0x010 .rmSecure true 0x100 = true) ∧
    [CtxMode.idle, .running, .halting, .halted].all (fun m => coreDue (ctlState m 0) mcore 0 &&
      reachesOk (atCycle (ctlState m 0) mcore 0) (corePage mcore) (ctxOff .f 0x28) .rmSecure true 0xF &&
      reachesOk (atCycle (ctlState m 0) mcore 0) (corePage mcore) (ctxOff .f 0x04) .rmSecure true 0xFFFC &&
      reachesOk (atCycle (ctlState m 0) mcore 0) (corePage mcore) (ctxOff .f 0x08) .rmSecure true 0) = true := by decide +kernel

theorem witness_FlagsAndPushesFromOutside :
    (let s := withCore mcore { flagsIn := [⟨.u, 255, true, 0xFFFFFF⟩] }
     coreDue s mcore 7 = true ∧ ((s.core mcore).flag .u 255).hist = []) ∧
    (let s := withCore mcore { ctxF := { mode := .running, exe := { readyAt := 9 }, acc := { ended := true }, queues := [(3, { ext := true })] } }
     coreDue s mcore 0 = true ∧ (((s.core mcore).ctx .f).queue 3).ext = true ∧ (((s.core mcore).ctx .f).queue 3).used 0 < 32 ∧
       (((s.core mcore).ctx .f).queue 0).ext = false) := by decide +kernel

/-- A stream that waits on an empty queue for 2^20 cycles, and a sweep of a tile store that is poison. -/
theorem witness_CoreScopeHalts :
    (let s := withCore mcore { running false (oneSlot 1 0x0006) with ctxF := { mode := .running, acc := { ended := true } } }
     coreDue s mcore 0xFFFFF = true ∧ stallDue s mcore 0xFFFFF = true ∧ stallDue s mcore 0xFFFFE = false) ∧
    (let s := withOpe mcore { sweeps := [⟨0x000003F4FFFF03FF23380001, 0, .f, 4, 0, 1, 0, {}, 0, 0, none⟩] }
       (withCore mcore { ctxF := { mode := .running }, marks := List.range 4096 })
     (poisonedRead s mcore 0).isSome = true ∧ s.coreRuns mcore = true ∧ opeDueBefore (s.ope mcore) 0 = false) := by decide +kernel

/-! ### Rank updates, drained rows and tiles -/

/-- A sweep of one rank update that clears the front bank, issued in cycle 0, and a drain of the front bank. -/
def aSweep : Sweep := ⟨0x000003F40000000023380001, 0, .f, 4, 0, 1, 0, {}, 0, 0, none⟩
def aDrain : Drain := ⟨0x5101, 0, .f, 0, 0, [], [], 255, {}, 0⟩

theorem witness_RankUpdates :
    (let s := withOpe mcore { sweeps := [aSweep] } (withCore mcore {})
     let signs := passSigns 1 (updateIndices 1 (sweepK aSweep.raw) 0).2.1 (sweepBanks aSweep.raw 1)
     coreDue s mcore aSweep.due = true ∧ anyIssuable s mcore aSweep.due = false ∧ dueSweep (s.ope mcore) aSweep.due = some aSweep ∧ (s.ope mcore).drains = [] ∧
       (sweepBanks aSweep.raw 1).1 = true ∧ signs.1 ≠ 0) ∧ Sys2Proof.Machine.McId.core ⟨0, 0⟩ = mcore := by decide +kernel

theorem witness_DrainedRows :
    (let s := withOpe mcore { drains := [aDrain] } (withCore mcore {})
     let t := drainDelay aDrain.raw + 255
     coreDue s mcore t = true ∧ dueDrain (s.ope mcore) t = some aDrain ∧ dueSweep (s.ope mcore) t = none ∧
       dueDrain (s.ope mcore) (t + 1) = none) := by decide +kernel

/-- A core with one stream context of F whose run reads or stores tile 5, and memory after firmware's initialisation or before. -/
def tileState (init : Bool) (sc : StreamCtx) : State := { withCore mcore { scs := [(63, sc)] } with mem.dirInit := init }

theorem witness_TileReplies :
    (let ok (init store : Bool) (fault : Option Nat) : Bool :=
       let s := tileState init { state := scRunning, owner := some .f, cur := { store := store }, reqs := [request 0 5] }
       coreDue s mcore 40 && (servedAhead s mcore 63 0 40 == !store) && decide ((requestOut s mcore 63 0 40).map (·.1.tile) = some 5) &&
         isDataTile 5 && !s.saturated (agentOf 5) && decide (s.tileFault 5 = fault)
     ok false false (some 2) = true ∧ ok true false none = true ∧ ok true true none = true) := by decide +kernel

/-- A tile with its reply. -/
def replied (r : TileReply) : TileReq := { request 0 5 with reply := some (3, r) }

/-- Tiles within a segment, at a segment's end and at the end of a run, and an accepted store tile. -/
theorem witness_TilesDelivered :
    (let ok (d : JgDesc) (r : TileReply) (t : Nat) (ends : Bool × Bool) : Bool :=
       let sc : StreamCtx := { state := scRunning, owner := some .f, cur := d, reqs := [replied r] }
       let s := tileState true sc
       coreDue s mcore t && decide (earliestDelivery (s.core mcore) 63 = some t) && decide (endsSegment sc = ends)
     ok { counts := [3, 1, 1, 1], seg := 2 } (.data [] []) 34 (false, false) = true ∧
       ok { counts := [3, 1, 1, 1], seg := 1 } (.data [(5, 1)] []) 34 (true, false) = true ∧
       ok { seg := 32 } (.data [] [0]) 34 (true, true) = true ∧ ok { store := true } .accepted 3 (true, true) = true) := by decide +kernel

/-- A queue with a free slot, a full one and one whose EXT bit is set; the entry's commit with the owner running. -/
theorem witness_TilesNotified :
    (let sc : StreamCtx := { state := scRunning, owner := some .f, cur := { notify := true, nq := 3 }, reqs := [replied (.data [] [])] }
     let ok (q : DataQueue) (fits : Bool) : Bool :=
       let s : State := { withCore mcore { ctxF := { queues := [(3, q)] }, scs := [(63, sc)], filling := some { sc := 63, seq := 0, start := 3 } } with mem.dirInit := true }
       coreDue s mcore 34 && decide (earliestDelivery (s.core mcore) 63 = some 34) && ((((s.core mcore).ctx .f).queue 3).canPush 34 1 == fits)
     ok {} true = true ∧ ok { reserved := 32 } false = true ∧ ok { ext := true, reserved := 32 } false = true) ∧
    (let p : Pend := ⟨4, 3, .f, true, 6, 9, .push 3 1⟩
     let s := withCore mcore { ctxF := { mode := .running, exe := { readyAt := 99 }, acc := { readyAt := 99 }, queues := [(3, { ext := true })] },
                               pend := [p] }
     coreDue s mcore 4 = true ∧ anyIssuable s mcore 4 = false ∧ (s.core mcore).pend.filter (fun r => decide (r.due = 4)) = [p]) := by decide +kernel

theorem witness_TileFaults :
    (let place (sc : StreamCtx) (tick : Nat) : State :=
       { withCore mcore { ctxF := { mode := .running, acc := { readyAt := 99, ended := true }, exe := { readyAt := 99 } }, scs := [(63, sc)] } with tick := tick : State }
     coreDue (place { state := scRunning, owner := some .f, reqs := [replied (.fault 4)] } 0) mcore 3 = true ∧
       coreDue (place { state := scFaultWait, owner := some .f, faultOpen := true, answer := some true } 0) mcore 3 = true ∧
       coreDue (place { state := scFaultWait, owner := some .f, faultOpen := true, answer := some false } 0) mcore 3 = true ∧
       coreDue (place { state := scRunning, owner := some .f, reqs := [replied (.refused 0)] } 0) mcore 3 = true ∧
       (let sc : StreamCtx := { state := scFaultWait, owner := some .f, faultOpen := true, faultTick := 5 }
        let n := 5 + faultLimit (place sc 0) mcore
        coreDue (place sc n) mcore 3 = true ∧ sc.faultTick + faultLimit (place sc n) mcore ≤ (place sc n).tick ∧
          (place sc (n - 1)).tick < sc.faultTick + faultLimit (place sc (n - 1)) mcore)) := by decide +kernel

theorem witness_LoadResponses :
    (let place (a : Nat) : State :=
       let acc : Stream := { loads := [{ reg := 15, addr := a, word := 0, slot := 7, gap := 4 }] }
       { withCore mcore { ctxF := { mode := .running, exe := { ended := true }, acc := acc } } with mem.dirInit := true }
     let s := place 0x7FFC
     coreDue s mcore 9 = true ∧ spotOf 0x7FFC = .tile 0 false 0x7FFC ∧ s.tileInPart (s.unitPart 0) 0 = true ∧
       s.saturated (agentOf 0) = false ∧ s.holdsFor 0 = false ∧ s.hasHome 0 = true ∧ eMoving (s.entry 0) = false ∧
       s.meetsPoison (s.tilePlace 0 false 0x7FFC) 4 = false ∧
       coreDue (place 0xF00000000000) mcore 9 = true ∧ spotOf 0xF00000000000 = .none) := by decide +kernel

/-! ### Memory -/

/-- The state after reset with registers written, each by page and offset. -/
def withRegs (l : List (Page × Nat × Nat)) (s : State) : State := l.foldl (fun s e => s.setRegN e.1 e.2.1 e.2.2) s

/-- Memory after firmware's initialisation of the directory. -/
def lit (m : Memory) : State := { State.reset with mem := { m with dirInit := true } }

/-- A directory entry of a tile at home in frame 3 of cluster 0's pool, and one that is moving. -/
def inPool : BitVec 64 := BitVec.ofNat 64 (2 ^ 63 + 2 ^ 62 + 3 * 2 ^ 25)
def isMoving : BitVec 64 := BitVec.ofNat 64 (2 ^ 63 + 2 ^ 61)

theorem witness_Moves :
    (let ask (tile tier : Nat) (dir : List (Nat × BitVec 64)) : State := lit { dir := dir, movers := [(39, ⟨[⟨0, 0, .f, 1, tile, 1, tier, 0⟩], 1⟩)] }
     let ok (s : State) (tile tier : Nat) (home : Bool) : Bool :=
       ((s.mover 39).reqs.find? (fun q => decide (0 < q.left))).isSome && decide (s.inMove 39 < 8) && !s.saturated (agentOf tile) &&
         (isDataTile tile == home) && (!home || (s.hasHome tile && !eMoving (s.entry tile) && eTier (s.entry tile) == 1 - tier))
     ok (ask 7 0 [(7, inPool)]) 7 0 true = true ∧ ok (ask 0x16FFFFF 1 []) 0x16FFFFF 1 true = true ∧
       (List.range 496).find? (fun f => decide ((ask 7 1 []).stkP 39 ≤ f) && ((ask 7 1 []).frameAt 39 f).isNone) = some 0 ∧
       ok (ask 0x1700000 1 []) 0x1700000 1 false = true) ∧
    (let s (granted : Bool) : State := lit { dir := [(7, isMoving)], frames := [(5, 7)], moves := [⟨7, .mover 0 0, 1, 0, 5, granted⟩] }
     ((s false).mem.moves.find? (fun k => decide (k.tile = 7) && !k.granted)).isSome = true ∧
       ((s true).mem.moves.find? (fun k => decide (k.tile = 7) && k.granted)).isSome = true ∧ ((s true).stack (agentOf 7)).relocs = []) ∧
    (let sc : StreamCtx := { state := scFaultWait, owner := some .f, faultOpen := true, faultKind := 1 }
     let s (dir : List (Nat × BitVec 64)) : State := { lit { dir := dir } with cores := [(0, { scs := [(0, sc)] })] }
     ((s []).core mcore).sc 0 = sc ∧ tileNumber sc.cur sc.ctrs = 0 ∧ eMoving ((s []).entry 0) = false ∧
       eMoving ((s [(0, isMoving)]).entry 0) = true) := by decide +kernel

/-- A Stash of a ring of four frames whose head is the store of a word. -/
def stashState (P d : Nat) (dir : List (Nat × BitVec 64)) : State :=
  withRegs [(stkPage 39, 0x100, P)] (lit { dir := dir, stashes := [(39, { inbox := [⟨d, .bytes (some (.jgSt 0 .f)) true 0x3FC 4 7 false⟩] })] })

theorem witness_StashStores :
    (stashState 0 0 []).stkP 39 = 0 ∧ (stashState 4 4 []).stkP 39 + (stashState 4 4 []).stkH 39 = 4 ∧
    (let s := stashState 4 3 [(entryIdx (stashTile 39 3), inPool)]
     s.stkP 39 = 4 ∧ s.saturated 51 = false ∧ s.holdsFor (stashTile 39 3) = false ∧ eValid (s.entry (stashTile 39 3)) = true ∧ eMoving (s.entry (stashTile 39 3)) = false) ∧
    (let s := stashState 4 3 []
     eValid (s.entry (stashTile 39 3)) = false ∧ max (s.stash 39).top 4 ≤ 3 + 4 ∧ s.frameAt 39 3 = none) := by decide +kernel

theorem witness_StashMoves :
    (let st (top : Nat) (pop : Bool) (e : BitVec 64) (frames : List (Nat × Nat)) : State :=
       withRegs [(stkPage 0, 0x100, 4 * 2 ^ 18 + 4 * 2 ^ 9 + 4), (stkPage 0, 0x108, 2)]
         (lit { dir := [(entryIdx (stashTile 0 1), e)], frames := frames, stashes := [(0, { top := top, pop := pop, taken := 2 })] })
     let s := st 4 false inPool [(1, stashTile 0 1)]
     let p := st 2 true (BitVec.ofNat 64 (2 ^ 63)) []
     stashDepths s 0 (fun d e => eValid e && eTier e == 1 && decide ((d : Int) < min (s.stkH 0 : Int) (((s.stash 0).top : Int) + s.stkSpill 0 - s.stkP 0))) = [1] ∧
       eMoving (s.entry (stashTile 0 1)) = false ∧ stashMoving s 0 = false ∧
       (stashDepths p 0 (fun d e => eValid e && eTier e == 0 && decide ((p.stash 0).top ≤ d + p.stkFill 0))).getLast? = some 1 ∧
       p.frameAt 0 1 = none ∧ p.stkP 0 = 4) ∧
    (let s := withRegs [(stkPage 0, 0x108, 1)] (lit {})
     (s.stash 0).taken < s.stkH 0 ∧ eMoving (s.entry (s.lender 0 0)) = false ∧ s.saturated (agentOf (s.lender 0 0)) = false) := by
  decide +kernel

theorem witness_StashRegisters :
    (let s := lit {}
     let t := lit { stashes := [(0, { top := 5 })] }
     let reach (v off : Nat) : Bool := reachesOk s (stkPage 0) off .rmSecure true v && reachesOk t (stkPage 0) off .rmSecure true v
     reach 5 0x10C = true ∧ reach 6 0x10C = true ∧ (t.stash 0).top = 5 ∧ (s.stash 0).top = 0 ∧ stashMoving s 0 = false ∧ s.stkH 0 = 0 ∧
       reach 0x16FFFFF 0x104 = true ∧ reach 496 0x100 = true ∧ field 496 8 0 ≤ 496 ∧ reach 3 0x108 = true ∧
       (List.range 3).all (fun i => lendable s (s.lender 0 0 + i)) = true) ∧
    (let s := withRegs [(stkPage 0, 0x100, 1)] (lit {})
     reachesOk s (stkPage 0) 0x108 .rmSecure true 0x1FFFF = true ∧ field 0x1FFFF 16 0 = 131071 ∧
       131072 < (withRegs [(stkPage 0, 0x100, 2)] (lit {})).stkP 0 + 131071) := by decide +kernel

theorem witness_AtomicsAndPeeks :
    (let a (fmt addr len : Nat) : Atomic := ⟨.rmSecure, fmt, addr, len, [], []⟩
     let s := lit { atomicsIn := [a 4 0x7F80 128], atomics := [a 2 0x7FFC 4] }
     0x7F80 % grainOf 4 = 0 ∧ 128 % grainOf 4 = 0 ∧ s.saturated (agentOf 0) = false ∧ s.hasHome 0 = true ∧ eMoving (s.entry 0) = false ∧
       eTier (s.entry 0) = 0 ∧ 0x7FFE % grainOf 0 ≠ 0 ∧ (hbmMap ((s.home 0).1 + 0x7FFC)).stack < 12 ∧ grainOf 2 = 4 ∧
       ((s.home 0).1 + 0x7FFC) % 4 = 0) ∧
    (let s (t : Nat) : State := withRegs [(⟨.dir, agentOf 9⟩, 0x100, t)] (lit {})
     reachesOk (s 9) ⟨.dir, agentOf 9⟩ 0x108 .rmSecure false 0 = true ∧ (s 9).regN ⟨.dir, agentOf 9⟩ 0x100 = 9 ∧ isDataTile 9 = true ∧
       agentOf (stashTile 1 0) ≠ agentOf 9 ∧ reachesOk (s (stashTile 1 0)) ⟨.dir, agentOf 9⟩ 0x108 .rmSecure false 0 = true) := by
  decide +kernel

theorem witness_HbmReads :
    (lit {}).placeLost (128 * (3 * 2 ^ 31 - 1)) = false ∧ (lit {}).mem.poison = [] ∧
    (lit { poisonNotices := [stashTile 39 0x1FFFF] }).saturated (agentOf (stashTile 39 0x1FFFF)) = false := by decide +kernel

theorem witness_HbmWrites :
    (lit {}).placeLost 0 = false ∧ spotOf (128 * 0x16FFFFFFF) = .tile 0x16FFFFF false 0x7F80 ∧
    (let s (tick : Nat) : State := { withRegs [(hbcPage 11, 0x100, 2 ^ 31 + 5)] (lit {}) with tick := tick }
     (s 0).mem.retired = [] ∧ ((s 0).stack 11).scrub < 2 ^ 29 ∧ bitAt ((s 0).regN (hbcPage 11) 0x100) 31 = true ∧
       (s 0).scrubInterval 11 = 100 ∧ ((s 100).stack 11).scrubTick + (s 100).scrubInterval 11 ≤ (s 100).tick ∧
       (s 99).tick < ((s 99).stack 11).scrubTick + (s 99).scrubInterval 11) := by decide +kernel

theorem witness_HbmRepairs :
    (let s (k : Stack) : State := lit { hbm := [(11, k)], repairSince := some 4 }
     ((s { remaps := [5], spares := [(0, 15)], rows := [(5, [3])] }).stack 11).remaps = [5] ∧ SMap.getD [(0, 15)] 0 (5 / 16384) = 15 ∧
       2 ≤ (SMap.getD (((s { remaps := [5], rows := [(5, [3, 4])] }).stack 11).rows) [] 5).length ∧
       ((s { retires := [5] }).stack 11).retires = [5] ∧ ((s { laneFails := [(31, 71)] }).stack 11).laneFails = [(31, 71)] ∧
       (((s { laneFails := [(31, 71)], channels := [(31, { failed := [0, 1] })] }).stack 11).channel 31).failed.length = 2 ∧
       ((s { lostChans := [4] }).stack 11).lostChans = [4] ∧ (s {}).mem.repairSince ≠ none ∧ ((s {}).stack 11).lost = false) ∧
    (let h := agentOf 7
     let s := lit { hbm := [(h, { notices := [(7, (lit {}).frameOf 7)] })] }
     (s.stack h).notices = [(7, s.frameOf 7)] ∧ s.saturated h = false ∧ s.hasHome 7 = true ∧ eTier (s.entry 7) = 0 ∧ eMoving (s.entry 7) = false ∧
       freeSpare s h 10923 h = some h) := by decide +kernel

/-- A descriptor of RMSNorm of one row of 32 FP32 elements, with a flag of core 6; and one with an undefined operation. -/
def rmsDesc : Nat := 2 + 6 * 2 ^ 24 + 31 * 2 ^ 64

theorem witness_RowKicks :
    (let s := lit {}
     let full : State := { s with rowEngines := [(39, { queue := List.replicate 64 ⟨0, 0, 0, 1⟩ })] }
     reachesOk s (rowPage 39) 0x23C .rmSecure true 0xFFFFFFFF = true ∧ (s.row 39).queue.length < 64 ∧
       reachesOk full (rowPage 39) 0x23C .rmSecure true 0xFFFFFFFF = true ∧ 64 ≤ (full.row 39).queue.length) ∧
    (let s (d : Nat) : State := { (lit {}).put 0 128 d with rowEngines := [(39, { queue := [⟨0, 0, 0, 1⟩] })] }
     let got (d : Nat) : Option Nat := (takeRead (s d) (.row 39) ((s d).unitPart 39) ((field ((s d).regN (rowPage 39) 0x104) 15 0) * 2 ^ 32 +
       field ((s d).regN (rowPage 39) 0x100) 31 7 * 128) 128).map (·.2.1)
     got rmsDesc = some rmsDesc ∧ rowReason rmsDesc 0 1 = 0 ∧ rAffine rmsDesc = false ∧ got 0x2F = some 0x2F ∧ rowReason 0x2F 0 1 ≠ 0) ∧
    (let s (n : Nat) : State := withRegs [(⟨.core, 7 * 39 + 6⟩, 0x040, 1)]
       { lit {} with rowEngines := [(39, { run := some ⟨⟨0, 0, 0, 1⟩, rmsDesc, [], [], false, n⟩ })] }
     (processRow (s 0) 39 ⟨⟨0, 0, 0, 1⟩, rmsDesc, [], [], false, 0⟩ 0).isSome = true ∧ rOp rmsDesc ≠ 0x20 ∧ field rmsDesc 28 27 ≠ 3 ∧
       (s 1).admitsUnit ⟨.core, 7 * 39 + field rmsDesc 26 24⟩ ((s 1).clusterPart 39) = true ∧
       reachesOk (s 0) (rowPage 39) 0x010 .rmSecure true 1 = true ∧ reachesOk (s 0) (rowPage 39) 0x118 .rmSecure true 7 = true ∧
       ((s 0).row 39).run.isSome = true) ∧
    (let s := withRegs [(rowPage 39, 0x110, 0x7FFFF)] (lit {})
     reachesOk s (rowPage 39) 0x114 .rmSecure false 0 = true ∧ reachesOk s (rowPage 39) 0x118 .rmSecure false 0 = true ∧
       reachesOk s (rowPage 39) 0x118 .rmSecure true 0xFFFFFFFF = true ∧ (s.row 39).run = none ∧ (s.row 39).queue = []) := by decide +kernel

/-! ### Ports and Talel -/

/-- A port whose link is up. -/
def portUp (i : Nat) (s : State) : State := s.setRegN (portPage i) 0x014 1

/-- A state whose port has received Talel messages. -/
def arrived (port : Nat) (stage : Nat) (ctxs : List (Nat × TalCtx)) (m : Msg) : State :=
  withRegs [(talPage, 0x014, stage)] { lit {} with net := { ports := [(port, { rx := [⟨7, false, 0, 100, m⟩] })], ctxs := ctxs } }

theorem witness_Ports :
    (let m : Msg := { cls := 1, len := 12, data := 0 }
     let s := withRegs [(portPage 16, 0x10C, 0xC0A80001)] (portUp 16 (lit {}))
     (lit {}).linkUp 16 = false ∧ (lit {}).portNo 16 = 16 ∧ s.mayCarry 16 = true ∧ ((s.port 16).rxBytes + 9216 ≤ 8388608) ∧ (lit {}).portNo 17 = 17 ∧ bitAt (s.regN (msecPage 16) 0x010) 0 = false ∧
       s.portAddr 16 false 0xC0A80001 = true ∧
       (⟨9216, 0, 0, true, 0, 0, none, .udp false 5 0xC0A80001 false (s.regN talPage 0x11C % 2 ^ 16) false 3 m⟩ : EthFrame).wf = true) ∧
    (let s := withRegs [(portPage 0, 0x100, 2 ^ 15), (portPage 0, 0x124, 1)]
       (portUp 0 { lit {} with net := { ports := [(0, { pfcIn := [(7, true)], rx := [⟨1, false, 7, 1025, { cls := 1 }⟩] })] } })
     (s.port 0).pfcIn = [(7, true)] ∧ bitAt (s.regN (portPage 0) 0x100) (8 + 7) = true ∧ s.mayCarry 0 = true ∧
       1024 * field (s.regN (portPage 0) 0x124) 15 0 <
         ((s.port 0).rx.filter (fun r => decide (r.prio = 7))).foldl (fun n r => n + r.size) 0) := by decide +kernel

/-- CONNECT of each kind where it is admitted and where it is not; ACCEPT; NAK of an open context and of a FREE one; CLOSE with and
without something unacknowledged; RELEASE of a FAILED context and of a FREE one. -/
theorem witness_TalelContexts :
    (let ask (kind : Nat) : Msg := { cls := 6, srcCtx := 9, len := 8, data := 2 + kind * 2 ^ 8 + 3 * 2 ^ 16 + 0xFFFFFF * 2 ^ 32 }
     let ok (port stage kind : Nat) (open_ : Bool) : Bool :=
       let s := arrived port stage [] (ask kind)
       !malformed (ask kind) && subOf (ask kind) == 2 && field (ask kind).data 15 8 == kind && ((admitted s.stage347 kind && kindOnPort port kind) == open_) &&
         (!open_ || decide (freeCtx s 16384 0 = some 0)) && !mgmtFull s
     ok 0 stMgmt 0 true = true ∧ ok 0 stReady 1 true = true ∧ ok 16 stReady 2 true = true ∧ ok 16 stMgmt 2 false = true ∧ ok 0 stRetired 1 false = true) ∧
    (let m : Msg := { cls := 6, srcCtx := 9, dstCtx := 16383, len := 8, data := 3 + 5 * 2 ^ 32 }
     malformed m = false ∧ subOf m = 3 ∧ ((arrived 16 stReady [] m).tctx 16383).st = 0 ∧ kindOnPort 16 2 = true ∧ kindOnPort 16 0 = false) ∧
    (let m : Msg := { cls := 6, srcCtx := 9, dstCtx := 4, len := 16, data := 1 + 3 * 2 ^ 96 }
     let c : TalCtx := { st := 1, port := 16, peer := 7, peerCtx := 9, unacked := [⟨{ cls := 1, psn := 3 }, 0, 0, false⟩] }
     let s := arrived 16 stReady [(4, c)] m
     malformed m = false ∧ subOf m = 1 ∧ (s.tctx 4).st = 1 ∧ (s.tctx 4).port = 16 ∧ (s.tctx 4).peer = 7 ∧ (s.tctx 4).queue = [] ∧
       ((arrived 16 stReady [] m).tctx 4).st ≠ 1) ∧
    (let c (l : List Unacked) : TalCtx := { st := 1, ready := [{ cls := 6, len := 4, data := 4 }], unacked := l }
     let s := arrived 16 stReady [(4, c []), (5, c [⟨{ cls := 1 }, 0, 0, false⟩])] { cls := 1 }
     (s.tctx 4).ready = [{ cls := 6, len := 4, data := 4 }] ∧ (s.tctx 4).unacked = [] ∧ (s.tctx 5).unacked ≠ [] ∧
       subOf { cls := 6, len := 4, data := 4 } = 4) ∧
    (let s := withRegs [(talPage, 0x110, 4)] (arrived 16 stReady [(4, { st := 3 })] { cls := 1 })
     reachesOk s talPage 0x114 .rmSecure true (2 ^ 27) = true ∧ (s.tctx (field (s.regN talPage 0x110) 13 0)).st = 3 ∧
       ((lit {}).tctx 0).st ≠ 3 ∧ reachesOk (lit {}) talPage 0x114 .rmSecure true (2 ^ 27) = true) := by decide +kernel

theorem witness_Transport :
    (let c : TalCtx := { st := 1, kind := 1, port := 0, peer := 7, peerCtx := 9, rxNext := 0xFFFFFF, rto := 10, cwnd := 4, unacked := [⟨{ cls := 1, psn := 3 }, 0, 0, false⟩] }
     let at0 (m : Msg) : State := arrived 0 stReady [(4, c)] { m with srcCtx := 9, dstCtx := 4 }
     let m (cls psn : Nat) (d : Nat) : Msg := { cls := cls, psn := psn, len := 12, data := d, srcCtx := 9, dstCtx := 4 }
     let ack : Msg := { cls := 6, srcCtx := 9, dstCtx := 4, len := 4, data := 0, ackpsn := some 4 }
     malformed ack = false ∧ subOf ack = 0 ∧ c.unacked.all (fun u => !psnBefore u.msg.psn 4) = false ∧ c.cwnd ≤ (at0 ack).cwndMax ∧
       malformed { m 1 0 0 with ver := 2 } = true ∧ malformed (m 1 0xFFFFFF 0) = false ∧
       malformed { m 4 0xFFFFFF 0 with len := 16 } = false ∧ reqCode (at0 (m 1 0xFFFFFF 0)) c (m 1 0xFFFFFF 0) = 0 ∧ psnBefore (0xFFFFFF - 1025) 0xFFFFFF = true ∧
       1024 ≤ psnDist (0xFFFFFF - 1025) 0xFFFFFF) ∧
    (let c (tries : Nat) : TalCtx := { st := 1, port := 16, rto := 10, firstAt := some 5, unacked := [⟨{ cls := 1, psn := 3 }, 2, tries, false⟩] }
     let s (n tick : Nat) : State := { arrived 16 stReady [(4, c n)] { cls := 1 } with tick := tick }
     let d := field ((s 0 0).regN talPage 0x104) 31 16
     5 + d ≤ (s 0 (5 + d)).tick ∧ 0 < d ∧ (s 0 (4 + d)).tick < 5 + d ∧
       ((s 0 12).tctx 4).unacked.find? (fun u => decide (u.since + ((s 0 12).tctx 4).rto ≤ 12)) = some ⟨{ cls := 1, psn := 3 }, 2, 0, false⟩ ∧
       0 < max 1 (field ((s 0 0).regN talPage 0x104) 7 0) ∧ max 1 (field ((s 255 0).regN talPage 0x104) 7 0) ≤ 255 ∧
       ((s 0 11).tctx 4).unacked.all (fun u => decide (11 < u.since + ((s 0 11).tctx 4).rto)) = true) := by decide +kernel

/-- A context of a kind and of partition 3, its request at the head, whose window is open. -/
def asking (kind : Nat) (m : Msg) : State :=
  withRegs [(⟨.part, 0⟩, 0x158, 0), (⟨.part, 0⟩, 0x15C, 9)]
    { lit {} with net := { ctxs := [(4, { st := 1, kind := kind, part := 3, ready := [m], cwnd := 1 })] } }

/-- A test of RequestReady. -/
def readyOk (s : State) (m : Msg) : Bool :=
  decide ((s.tctx 4).st = 1) && decide ((s.tctx 4).ready = [m]) && (s.tctx 4).queue.isEmpty &&
    decide ((s.tctx 4).unacked.length < min (s.tctx 4).cwnd s.cwndMax) && decide (reqCode s (s.tctx 4) m = 0)

theorem ready_of_ok {s : State} {m : Msg} (h : readyOk s m = true) : RequestReady s 4 m [] := by
  simp only [readyOk, Bool.and_eq_true, decide_eq_true_eq, List.isEmpty_iff] at h
  exact ⟨h.1.1.1.1, h.1.1.1.2, h.1.1.2, h.1.2, h.2⟩

theorem witness_TalelRequests :
    (let p := rowPage 39
     let rd : Msg := { cls := 1, len := 12, data := p.key 0 * 2 ^ 8 }
     let wr : Msg := { cls := 1, len := 16, data := 1 + p.key 0x01C * 2 ^ 8 + 0xFFFFFFFF * 2 ^ 96 }
     let s (m : Msg) : State := withRegs [(p, 0x040, 8)] (asking 0 m)
     readyOk (s rd) rd = true ∧ readyOk (s wr) wr = true ∧ pageAt (p.key 0) = some p ∧ pageAt (p.key 0x01C) = some p ∧
       (s rd).domainUp p.domain = true ∧ (s rd).admits p (.talel 3) = true) ∧
    (let rd : Msg := { cls := 2, len := 12, data := 8 * 2 ^ 16 + 0x7FF8 * 2 ^ 32 }
     let wr : Msg := { cls := 2, len := 20, data := 1 + 8 * 2 ^ 16 + 0x7FF8 * 2 ^ 32 + 5 * 2 ^ 96 }
     let add : Msg := { cls := 2, len := 16, data := 2 + 4 * 2 ^ 16 + 0x20000007FFC * 2 ^ 32 + 5 * 2 ^ 96 }
     let s (m : Msg) : State := asking 1 m
     readyOk (s rd) rd = true ∧ readyOk (s wr) wr = true ∧ readyOk (s add) add = true ∧ spotOf (field rd.data 79 32) = .tile 0 false 0x7FF8 ∧
       spotOf (field add.data 79 32) = .alias_ 0 0x7FFC ∧ isDataTile 0 = true ∧ (s rd).tileInPart (some 3) 0 = true ∧ (s rd).saturated (agentOf 0) = false ∧
       (s rd).hasHome 0 = true ∧ (s rd).holdsFor 0 = false ∧ servedAt (s rd) (.talel 4) 0x7FF8 8 = none ∧ pendingAt (s rd) (.talel 4) 0x7FF8 8 = false ∧
       servedAt (s add) (.talel 4) 0x7FFC 4 = none ∧ pendingAt (s add) (.talel 4) 0x7FFC 4 = false ∧ eMoving ((s rd).entry 0) = false ∧ eTier ((s rd).entry 0) = 0 ∧ field add.data 31 16 = grainOf 0 ∧
       (s rd).meetsPoison ((s rd).tilePlace 0 false 0x7FF8) 8 = false ∧ (s rd).mem.atomics = []) := by decide +kernel

theorem witness_Mailboxes :
    (let box (n : Nat) : State := { lit {} with irq := { boxes := [(63, List.replicate n 5)] } }
     [0x300, 0x240, 0x2C0, 0x100].all (fun off => reachesOk (box 0) (mbxPage 63) off .rmSecure true 0xC0000BFF &&
       reachesOk (box 16) (mbxPage 63) off .rmSecure true 0xC0000BFF && reachesOk (box 2) (mbxPage 63) off .rmSecure true 0x3FFF) = true ∧
       ((box 0).box 63).length < 16 ∧ 16 ≤ ((box 16).box 63).length ∧ (box 2).box 63 = [5, 5] ∧ (box 0).box 63 = [] ∧
       field 0xC0000BFF 31 30 = 3 ∧ field 0xC0000BFF 13 0 < 3072 ∧ field 0x3FFF 31 30 ≠ 3) ∧
    (reachesOk (lit {}) (msecPage 17) 0x108 .rmSecure true 0x80000007 = true ∧ bitAt 0x80000007 31 = true) := by decide +kernel

/-! ### Training -/

/-- The step unit enabled, with two layers. -/
def stepState (e0 e1 frontier : Nat) (u : StepUnit) : State :=
  withRegs [(stepPage, 0x100, 2 ^ 31 + 2 ^ 8), (stepPage, 0x104, frontier)]
    { lit {} with step := { u with entries := [(0, BitVec.ofNat 64 e0), (1, BitVec.ofNat 64 e1)] } }

/-- Every outcome of an admission; commits in the middle and at the end of a layer; the frontier within and at the end of a step, and
standing still. -/
theorem witness_StepUnit :
    (let s (e step bits : Nat) : State := stepState e 0 0 { asks := [⟨step, 0, 0, .update 0⟩], bitmaps := [(0, bits)] }
     let four := 4 * 2 ^ 48
     (s four 5 0).stepOn = true ∧ (0 : Nat) ≤ (s four 5 0).layersM1 ∧ field ((s four 5 0).stepEntry 0) 9 0 = 0 ∧
       stepDiff 5 (field ((s four 5 0).stepEntry 0) 63 48) = 1 ∧ field ((s four 5 0).stepEntry 0) 45 37 = 0 ∧
       bitAt (SMap.getD (s four 5 1).step.bitmaps 0 0) 0 = true ∧ stepDiff 4 4 = 0 ∧ 32766 ≤ stepDiff 3 4 ∧
       field ((s (four + 2 ^ 37) 5 0).stepEntry 0) 47 46 = 0 ∧ field ((s (four + 2 ^ 37) 5 0).stepEntry 0) 45 37 ≠ 0 ∧
       2 ≤ stepDiff 6 4 ∧ stepDiff (4 + 32765) 4 ≤ 32765) ∧
    (let s (e : Nat) : State := stepState e 0 0 { commits := [⟨5, 0, 0, 0⟩] }
     field ((s 1).stepEntry 0) 27 17 < field ((s 1).stepEntry 0) 9 0 ∧
       field ((s (2 ^ 17 + 1)).stepEntry 0) 9 0 ≤ field ((s (2 ^ 17 + 1)).stepEntry 0) 27 17) ∧
    (let s := stepState (5 * 2 ^ 48) (4 * 2 ^ 48) (5 * 2 ^ 16) {}
     s.layersM1 = 1 ∧ stepAtOrAfter (field (s.stepEntry 0) 63 48) 5 = true ∧ stepAtOrAfter (field (s.stepEntry 1) 63 48) 5 = false) ∧
    (let s := stepState (5 * 2 ^ 48) (5 * 2 ^ 48) (5 * 2 ^ 16 + 1) {}
     field (s.regN stepPage 0x104) 9 0 = s.layersM1 ∧ stepAtOrAfter (field (s.stepEntry 1) 63 48) 5 = true ∧
       stepAtOrAfter (field (s.stepEntry 0) 63 48) (stepNext 5) = false) ∧
    (stepState 0 0 0 { sends := [(279, 5)] }).step.sends = [(279, 5)] ∧
    reachesOk (lit {}) stepPage 0x114 .rmSecure true 7 = true ∧ (lit {}).stepOn = false ∧
    reachesOk (stepState 0 0 0 {}) stepPage 0x114 .rmSecure true 7 = true ∧
    reachesOk (lit {}) stepPage 0x110 .rmSecure false 0 = true := by decide +kernel

/-- The value that a reading answers, if it need not wait. -/
def got {α : Type} (r : Except (Nat × Nat) (α × State)) : Option α := match r with | .ok p => some p.1 | .error _ => none

/-- The carousel enabled, with one bucket. -/
def crsState (w0 w1 : Nat) (c : Carousel) : State :=
  withRegs [(crsPage, 0x010, 1), (updPage, 0x010, 1)]
    { lit {} with crs := { c with banks := [(0, BitVec.ofNat 64 w0), (1, BitVec.ofNat 64 w1)] } }

/-- A valid bucket to which this module contributes, with H = 4. -/
def contributing : Nat := 2 ^ 63 + 2 ^ 61 + 4 * 2 ^ 52

/-- A hand of the first slice of step 0, bucket 0. -/
def aHand (seg : Nat) : Hand := ⟨false, 0, 0, 255, 0, 0, 0, ⟨0, 0, 0⟩, seg⟩

theorem witness_Hands :
    (let s := crsState contributing 0 {}
     let b := s.bucket 0 0
     let again := crsState contributing 0 { units := [(0, { handed := [⟨0, 0, 0⟩] })] }
     reachesOk (lit {}) crsPage 0xFFC .rmSecure true 0 = true ∧ (lit {}).crsOn = false ∧ reachesOk s crsPage 0xFFC .rmSecure true 0x40000000 = true ∧
       s.crsOn = true ∧ s.tagClosed 0 = false ∧ b.valid = true ∧ b.contribs = true ∧ 0 < b.slices ∧ b.redOut = 0 ∧
       (again.unit 0).handed.contains ⟨0, 0, 0⟩ = true ∧ ((crsState (2 ^ 63) 0 {}).bucket 0 0).contribs = false ∧
       field 0x40000000 31 30 = 1 ∧ gatherFits ⟨true, 0, 0, 0, 0, 0, 0, ⟨0, 0, 0⟩, 0⟩ b = true ∧
       256 ≤ (crsState contributing 0 { hands := List.replicate 256 (aHand 0) }).crs.hands.length) ∧
    (let s (v : Nat) : State := (crsState contributing 0 { hands := [aHand 0] }).put 0x1FFC 4 v
     let b := (s 0).bucket 0 0
     let read (v : Nat) : Option Nat := got (trainRead 0 8192 (s v))
     (0 : Nat) < b.segs ∧ (s 0).contribHeld 0 < 256 ∧ b.thinned = false ∧ b.owner = false ∧ ((s 0).unit 0).slots.length < 1024 ∧
       got (scaleE ⟨0, 0, 0⟩ (s 0)) = some 0 ∧ (read 0x3F800000).map (anyNonFinite 2048) = some false ∧
       (read 0x7F800000).map (anyNonFinite 2048) = some true) ∧
    (let s := withRegs [(⟨.core, 0⟩, 0x040, 1)] (crsState contributing 0 { hands := [aHand 4] })
     (s.bucket 0 0).segs ≤ 4 ∧ (aHand 4).target = some 0 ∧ s.admitsUnit ⟨.core, 0⟩ s.trainPart = true ∧
       ({ aHand 4 with cluster := 40 } : Hand).target = none) := by decide +kernel

theorem witness_CarouselTables :
    (let s (r sel : Nat) : State := withRegs [(crsPage, 0x110, r), (crsPage, 0x114, sel)] (crsState 0 0 {})
     reachesOk (s 0 0) crsPage 0x110 .rmSecure true 0x80010007 = true ∧ bitAt (2 ^ 31) 31 = true ∧ (s (2 ^ 31) 0).oldHeld = false ∧
       ((withRegs [(crsPage, 0x110, 2 ^ 31 + 5)] (crsState 0 0 { hands := [aHand 0] })).oldHeld = true) ∧
       reachesOk (s 0 0x7FFF) crsPage 0x11C .rmSecure true 5 = true ∧ field 0x7FFF 14 14 ≠ field 0 16 16 ∧
       bwordReserved (field 0x7FFF 1 0) (5 * 2 ^ 32) = false ∧ reachesOk (s (2 ^ 31) 0x7FFF) crsPage 0x11C .rmSecure true 5 = true ∧
       (s 0 0).crsOn = true ∧ reachesOk (s 0 0) crsPage 0x118 .rmSecure false 0 = true) ∧
    (let s (q : Nat) (n : Option Nat) : State :=
       let t := crsState contributing 0 { records := [(⟨0, 0, 0⟩, n)] }
       { t with upd := { t.upd with queue := List.replicate q (⟨0, 0, 0⟩, .empty) } }
     (s 0 none).updOn = true ∧ (s 255 none).upd.queue.length < 256 ∧ 256 ≤ (s 256 none).upd.queue.length ∧
       (withRegs [(updPage, 0x010, 0)] (s 0 none)).updOn = false ∧ 0 + 1 = ((s 0 (some 0)).bucket 0 0).slices ∧
       lCluster ((s 0 (some 3)).layerWords 0) < 40 ∧
       (((SMap.getD (s 0 (some 3)).cores {} 0).ctx .u).queue 0).credits ≠ 0 ∧
       (let c : Core := { ctxU := { queues := [(0, { credits := 0 })] } }; ((c.ctx .u).queue 0).credits = 0)) := by decide +kernel

/-- Unit 0 sends on context 4, which is OPEN. -/
def openOn (s : State) : State := { withRegs [(unitPage 0, 0x10C, 4)] s with net := { ctxs := [(4, { st := 1, kind := 2, port := 1, cwnd := 1 })] } }

/-- Word 1 of a bucket whose reduce frames come in at port 5. -/
def fromPort5 : Nat := 2 ^ 37

/-- That state with an OPEN PEER context 7 of another unit's port, on which no message has come. -/
def openFrom (u : Nat) (s : State) : State := s.putTctx 7 { st := 1, kind := 2, port := u + 1, cwnd := 1 }

/-- A slot of one input, which is this module's own. -/
def ownSlot (since : Nat) : Slot := ⟨⟨0, 0, 0⟩, 0, since, [⟨31, 1, false, false, 7, false, 9⟩]⟩

theorem witness_CarouselHops :
    (let f : CrsFrame := { kind := 1, step := 0, bucket := 0, slice := 0, segment := 3 }
     let s (thin : Bool) (u : CrsUnit) : State := openFrom 5 <| openOn (crsState (2 ^ 63 + (if thin then 2 ^ 59 else 0)) fromPort5 { units := [(0, u)] })
     let b := (s false {}).bucket 0 0
     (lit {}).crsOn = false ∧ (s false {}).crsOn = true ∧ (s false {}).tagClosed 0 = false ∧ b.valid = true ∧ b.redIn ((s false {}).unitNo 5) = true ∧
       b.owner = false ∧ b.thinned = false ∧ b.redOut = 0 ∧ (s false {}).combineHeld 0 + 8192 ≤ 4194304 ∧ ((s false {}).unit 0).slots = [] ∧
       (takeMessage (s false {}) 5 7 0 f).isSome = true ∧ takeMessage (s false {}) 5 7 1024 f = none ∧ ((s true {}).unit 5).stomped = [] ∧
       ((s false { closed := [(⟨0, 0, 0⟩, 3)] }).unit 0).closed.contains (⟨f.step, f.bucket, f.slice⟩, f.segment) = true ∧
       ((s true {}).bucket 0 0).thinned = true ∧ ((s true {}).tctx ((s true {}).portCtx 0)).st = 1 ∧
       ((s true {}).tctx ((s true {}).portCtx 0)).unacked.length <
         min ((s true {}).tctx ((s true {}).portCtx 0)).cwnd (s true {}).cwndMax) ∧
    (let s := openOn (crsState contributing 0 { units := [(0, { slots := [ownSlot 0] })] })
     (s.unit 0).slots.find? (fun p => s.allPresent (s.bucket p.tag.step p.tag.bucket) p.tag.step p.ins) = some (ownSlot 0)) ∧
    (let s := openOn (crsState contributing (2 ^ 37) { units := [(0, { slots := [ownSlot 0] })] })
     let h := s.regN (unitPage 0) 0x100
     let late : State := { s with tick := h }
     let early : State := withRegs [(unitPage 0, 0x100, 5)] s
     (late.unit 0).slots.find? (fun p => decide (p.since + late.regN (unitPage 0) 0x100 ≤ late.tick)) = some (ownSlot 0) ∧
       (early.unit 0).slots.all (fun p => decide (early.tick < p.since + early.regN (unitPage 0) 0x100)) = true) := by decide +kernel

/-- A root slice whose four segments are open, closed or past their deadline. -/
theorem witness_CarouselSums :
    (let owner := contributing + 2 ^ 62
     let root (o : SMap (List SlotIn)) (d : SMap RootSeg) : RootSlice := { tag := ⟨0, 0, 0⟩, since := 0, opened := o, done := d }
     let s (r : RootSlice) (tick : Nat) : State :=
       { withRegs [(unitPage 0, 0x104, 9)] (crsState owner 0 { units := [(0, { roots := [r] })] }) with tick := tick }
     let own : SlotIn := ⟨31, 1, false, false, 0, false, 9⟩
     let done : SMap RootSeg := (List.range 4).map (fun k => (k, ⟨1, 5, false, false⟩))
     let a := s (root [(3, [own])] []) 9
     let c := s (root [] done) 0
     got (scaleE ⟨0, 0, 0⟩ a) = some 0 ∧ a.allPresent (a.bucket 0 0) 0 [own] = true ∧ 0 + a.regN (unitPage 0) 0x104 ≤ a.tick ∧
       (0 : Nat) < (a.bucket 0 0).segs ∧ done.length = (c.bucket 0 0).segs ∧
       trainWaits c ((c.bucket 0 0).recordAddr ⟨0, 0, 0⟩) (512 + 0x8000) = false ∧ trainWaits c (c.scaleAddr 0 0) 2 = false ∧
       trainWaits c (c.taglogAddr 0 0) 4 = false ∧
       (a.unit 0).roots.all (fun q => decide (q.done.length ≠ (a.bucket q.tag.step q.tag.bucket).segs)) = true) ∧
    (let s (d : Bool) : State := { withRegs [(unitPage 0, 0x104, 9)] (crsState (contributing + 2 ^ 62 + 2 ^ 59) 0
        { units := [(0, { thin := [⟨0, 0, 0, [⟨7, false, [], [], some 0⟩], 1, d, false⟩] })] }) with tick := 9 }
     ((s false).unit 0).roots = [] ∧ 0 + (s false).regN (unitPage 0) 0x104 ≤ (s false).tick ∧
       trainWaits (s true) (((s true).bucket 0 0).thinBase 0) 0x8000 = false ∧ trainWaits (s true) ((s true).scaleAddr 0 0) 2 = false ∧
       trainWaits (s true) ((s true).taglogAddr 0 0) 4 = false ∧ ((s true).bucket 0 0).slices = 1 ∧
       got (allScales 0 0 1 0 (s true)) = some [0]) := by decide +kernel

/-- A bucket whose parameters come in at port 2 and stay in this module. -/
def mcBucket : Nat := 2 ^ 63 + 2 ^ 60 + 4 * 2 ^ 52 + 2 * 2 ^ 38

theorem witness_CarouselMulticast :
    (let s := openOn (crsState contributing (2 ^ 48) { multicast := [(⟨0, 0, 0⟩, 7)] })
     let b := s.bucket 0 0
     s.step.commits = [] ∧ trainWaits s (s.taglogAddr 0 0) 2 = false ∧ b.shard = false ∧ b.plines ≤ 64 ∧ b.mcOut = [0] ∧
       (got (trainRead (b.paramAddr ⟨0, 0, 0⟩) (128 * b.plines) s)).isSome = true ∧ s.step.homing = [] ∧ s.crs.pruned = [] ∧ s.credit 0 ≠ 0 ∧
       s.crs.units = [] ∧ (s.tctx (s.portCtx 0)).st = 1 ∧ (s.tctx (s.portCtx 0)).queue = [] ∧
       (s.tctx (s.portCtx 0)).unacked.length < min (s.tctx (s.portCtx 0)).cwnd s.cwndMax) ∧
    (let s := openFrom 2 (crsState mcBucket 0 {})
     let b := s.bucket 0 0
     let f (k : Nat) : CrsFrame := { kind := k, step := 0, bucket := 0, slice := 0, segment := 0 }
     [3, 4].all (fun k => (takeMessage s 2 7 5 (f k)).isSome && (takeMessage s 3 7 5 (f k)).isNone) = true ∧ (takeMessage (openFrom 3 s) 3 7 5 (f 3)).isSome = true ∧
       (s.unit 2).stomped = [] ∧ (s.unit 2).parts = [] ∧ s.crs.pruned = [] ∧ s.crs.units = [] ∧ localChild 2 ≠ 2 ∧ s.credit (localChild 2) ≠ 0 ∧
     s.crsOn = true ∧ s.tagClosed 0 = false ∧ b.valid = true ∧ b.mcIn = s.unitNo 2 ∧ b.mcIn ≠ s.unitNo 3 ∧ b.shard = false ∧ b.mcLocal = true ∧
       b.mcOut = [] ∧ b.psegs = 1 ∧ s.credit 31 ≠ 0) ∧
    (let m : McSeg := ⟨{ kind := 3, step := 0, bucket := 0, slice := 0, segment := 0 }, [0]⟩
     let s := withRegs [(unitPage 2, 0x108, 0)] (crsState mcBucket 0 { units := [(2, { mc := [m] })], credit := [(0, 0)] })
     (s.unit 2).mc = [m] ∧ s.credit 0 = 0 ∧ SMap.getD s.crs.dry 0 0 + s.regN (unitPage 2) 0x108 ≤ s.tick ∧
       (s.crs.units.any (fun e => e.2.mc.any (fun k => k.children.contains 1))) = false) := by decide +kernel

theorem witness_CarouselPulls :
    (let p (retry : Option Nat) : PullReq := ⟨⟨5, 0, 0⟩, none, retry⟩
     let s (retry : Option Nat) (tick : Nat) : State :=
       { withRegs [(crsPage, 0x010, 3)] (crsState contributing 0 { pulls := [p retry] }) with net := { ctxs := [(0, { st := 1 })] }, tick := tick }
     bitAt ((s none 0).regN crsPage 0x010) 1 = true ∧ ((s none 0).bucket 5 0).shard = false ∧
       ((s none 0).tctx ((s none 0).bucket 5 0).ownerCtx).st = 1 ∧ stepDiff (field 5 15 0) 5 < 32766 ∧ stepDiff (field (5 * 2 ^ 16) 31 16) 5 < 3 ∧
       32766 ≤ stepDiff (field 4 15 0) 5 ∧ bitAt ((crsState 0 0 {}).regN crsPage 0x010) 1 = false ∧ (s (some 9) 9).crs.pulls = [p (some 9)] ∧
       (s (some 9) 8).tick < 9) ∧
    (let f (k : Nat) : CrsFrame := { kind := k, step := 0, bucket := 0, slice := 0, segment := 0 }
     let msg (k : Nat) : Msg := { cls := if k = 3 then 5 else 4, data := frameBytes (f k) }
     let s (w0 w1 k : Nat) : State := { withRegs [(unitPage 0, 0x10C, 4)] (crsState (2 ^ 63 + w0) w1
       { units := [(0, { kept := [⟨⟨0, 0, 0⟩, 0, 0, [⟨5, 1, false, false, 0, false, 9⟩]⟩] })] }) with
       net := { ctxs := [(4, { st := 1, unacked := [⟨msg k, 0, 0, false⟩] }), (7, { st := 1, kind := 2, port := 6, early := [3] })] } }
     let a := s 0 fromPort5 1
     [a, s 0 fromPort5 2, s 0 (2 ^ 48) 3].all (fun s => (s.tctx 7).kind == 2 && (s.tctx 7).port == s.unitNo 5 + 1 && (s.tctx 7).early.contains 3 &&
       !(s.tctx 7).early.contains 4) = true ∧ (s 0 fromPort5 2).onWire ((s 0 fromPort5 2).bucket 0 0).redOut (frameKey (f 2)) = true ∧
       ((s 0 (2 ^ 48) 3).bucket 0 0).mcOut = [0] ∧ (s 0 (2 ^ 48) 3).onWire 0 (frameKey (f 3)) = true ∧
     ((a.unit 0).kept.find? (fun k => k.tag == ⟨0, 0, 0⟩ && k.seg == 0 && k.ins.any (fun i => i.port == a.unitNo 5))).isSome = true ∧
       a.unsent 0 ⟨0, 0, 0⟩ 0 = true) := by decide +kernel

/-! ### The update unit -/

/-- A layer of one slice of 32 columns, warm rule 3 and a main rule, whose scale is 1.0 and whose batches go to any core of cluster 0. -/
def aLayer (main : Nat) : List Nat := [2 ^ 63 + 3 * 2 ^ 60 + main * 2 ^ 57 + 15 * 2 ^ 44, 0x3F800000 * 2 ^ 32 + 31 * 2 ^ 6, 0, 0, 2 ^ 20, 2 ^ 24]

/-- The carousel and the update unit enabled, with that layer and a bucket of one slice of 256 lines. -/
def updState (w0 main : Nat) (u : Update) : State :=
  let s := crsState w0 0 {}
  let table : SMap Word64 := (aLayer main).zipIdx.map (fun e => (e.2, BitVec.ofNat 64 e.1))
  { s with crs := { s.crs with banks := s.crs.banks ++ [(2, BitVec.ofNat 64 (255 * 2 ^ 51))] }, upd := { u with table := table } }

/-- A slice in progress. -/
def aSlice (rule line finished : Nat) (retry : Option Nat) : UpdSlice :=
  { tag := ⟨5, 0, 0⟩, src := .tiles 9 1, layer := 0, words := aLayer 4, eta := 0, rule := rule, admitted := true
    line := line, finished := finished, retry := retry }

/-- A thinned bucket that this module owns. -/
def thinOwner : Nat := contributing + 2 ^ 62 + 2 ^ 59

/-- Does the tile of an address accept a write at once? -/
def acceptsOk (s : State) (part a : Nat) : Bool :=
  match spotOf a with
  | .tile tile _ _ => isDataTile tile && s.tileInPart (some part) tile && !s.saturated (agentOf tile) && s.hasHome tile && !eMoving (s.entry tile) &&
      !s.holdsFor tile && s.mem.atomics.all (fun k => decide (k.addr / 0x8000 ≠ tile))
  | _ => false

theorem witness_Updates :
    (let s := { updState thinOwner 0 {} with staged := [(updPage.key 0xBF4, 1)] }
     let full := { s with upd := { s.upd with queue := List.replicate 256 (⟨0, 0, 0⟩, .empty) } }
     let b := s.bucket 0 0
     reachesOk s updPage 0xBFC .rmSecure true 0 = true ∧ reachesOk full updPage 0xBFC .rmSecure true 0 = true ∧ b.valid = true ∧ b.thinned = true ∧
       b.owner = true ∧ field (s.stage updPage 0xBF4).toNat 25 0 ≠ 0 ∧ (0 : Nat) < b.slices ∧ s.updOn = true ∧ 256 ≤ full.upd.queue.length ∧
       reachesOk s updPage 0x80C .rmSecure true 0 = true ∧ field (s.stage updPage 0x804).toNat 25 0 = 0) ∧
    (let s (main step : Nat) (src : UpdSrc) : State := updState contributing main { queue := [(⟨step, 0, 0⟩, src)] }
     let look (s : State) (step : Nat) (src : UpdSrc) : Option Bool :=
       let w := s.layerWords 0
       (got (sliceFacts { tag := ⟨step, 0, 0⟩, src := src, layer := 0, words := w, eta := 0, rule := 3 } 0 s)).map (·.1)
     let lag (s : State) (step : Nat) : Option Bool := got (lagValid (s.layerWords 0) 0 step s)
     freeSlice (s 0 5 .empty) = some 0 ∧ descOk ((s 5 5 .empty).layerWords 0) ((s 5 5 .empty).bucket 5 0) = false ∧
       descOk ((s 0 5 .empty).layerWords 0) ((s 0 5 .empty).bucket 5 0) = true ∧ look (s 0 5 .empty) 5 .empty = some true ∧
       look (s 0 0 (.tiles 9 1)) 0 (.tiles 9 1) = some false ∧ lag (s 0 5 .empty) 5 = some false ∧ lag (s 0 0 .empty) 0 = some false ∧
       stepLater 5 (field ((s 0 5 .empty).regN updPage 0x10C) 15 0) = true ∧ field ((s 0 0 .empty).regN updPage 0x10C) 15 0 = 0) ∧
    (updState contributing 0 { slices := [(7, aSlice 0 0 0 (some 3))] }).upd.slices.head? = some (7, aSlice 0 0 0 (some 3)) ∧
    (let x := aSlice 0 255 0 none
     let s := updState contributing 4 { slices := [(7, x)] }
     x.line < 256 * blocks x.words ∧ statWaits s x 0 = false ∧ tensorWaits s x 0 = false ∧ (got (gradBlock x 255 0 s)).isSome = true ∧
       got (lagValid x.words 0 5 s) = some false ∧ (got (lagBlock x 0 255 0 false s)).isSome = true ∧
       (got (readVals (weightAddr s x 0 255 0) (blockCols x.words 0) s)).isSome = true ∧ (got (lineWork 7 x s)).isSome = true ∧ lS1 x.words = false) ∧
    (let x := aSlice 4 256 256 none
     let s := updState contributing 4 { slices := [(7, x)] }
     256 * blocks x.words ≤ x.line ∧ batchesOf x.words ≤ x.finished ∧
       trainWaits s ((s.bucket 5 0).paramAddr x.tag) (128 * (s.bucket 5 0).plines) = false ∧ got (tableRead (s.scaleAddr 0 0) 1 s) = some 0 ∧
       (accessPieces ((s.bucket 5 0).paramAddr x.tag) (128 * (s.bucket 5 0).plines)).all (fun p => acceptsOk s s.trainPart p.1) = true ∧ s.step.homing = []) := by
  decide +kernel

theorem witness_UpdateBatches :
    (let x := aSlice 4 0 0 none
     let s := updState contributing 4 { slices := [(7, x)] }
     x.batch < batchesOf x.words ∧ s.upd.batches.length < 128 ∧ pickCore s x.words = some (2, 0) ∧
       (got (batchRead x 0 0 s)).isSome = true ∧ x.batch + 1 ≠ batchesOf x.words) ∧
    (let x := aSlice 4 0 0 none
     let k (late : Bool) : Batch := ⟨7, 2, 0, 3, 0, 0, List.replicate 32 true, List.replicate 32 (0, 0, 0), late⟩
     let s (late : Bool) : State := { updState contributing 4 { slices := [(0, x)], batches := [(0, k late)] } with tick := 0xFFFFFFFF }
     reachesOk (s false) updPage 0x114 .rmSecure true 7 = true ∧ reachesOk (s true) updPage 0x114 .rmSecure true 7 = true ∧
       reachesOk (s false) updPage 0x114 .rmSecure true 8 = true ∧ (s false).upd.batches.any (fun e => e.2.token == 8) = false ∧
       (s true).upd.batches.find? (fun e => e.2.token == 7) = some (0, k true) ∧
       SMap.get (s false).upd.slices 0 = some x ∧
       (s false).upd.batches.find? (fun e => !e.2.late && decide (e.2.since + max 1024 ((s false).regN updPage 0x118) ≤ 0xFFFFFFFF)) =
         some (0, k false)) ∧
    (let off := withRegs [(updPage, 0x11C, 5 * 2 ^ 16 + 1023)] (lit {})
     let on := withRegs [(updPage, 0x010, 1)] off
     [0x108, 0x010, 0x124].all (fun o => reachesOk off updPage o .rmSecure true 0xFFFFFFFF && reachesOk on updPage o .rmSecure true 0) = true ∧
       reachesOk off updPage 0x120 .rmSecure false 0 = true ∧ bitAt (off.regN updPage 0x010) 0 = false ∧ bitAt (on.regN updPage 0x010) 0 = true ∧
       field (off.regN updPage 0x11C) 18 16 ≤ 5) := by decide +kernel

/-! ### Numerics checks, ledger, mesh, clocks -/

/-- The Mirror sample of matrix core 0 of cluster 0. -/
def aMirror (k : MirrorSample) : State := { State.reset with num := { mirrors := [(mcKey mcore, k)] }, tick := 2048 }

/-- A Mirror sample whose signatures are those of a bank of zeros but in row 2, where the signature is the parameter. -/
def inRows (row2 : Nat) : MirrorSample :=
  { back := false, start := 0, ctx := .f, key := {}, drain := some (0, 0), sigs := (List.range 256).map (fun i => (i, if i = 2 then row2 else 0)) }

/-- The signature of a row of zeros is 0, so `inRows 0` agrees in every row and `inRows 1` differs in row 2 first. -/
theorem signature_of_zeros (i : Nat) : rowSignature [] i = 0 := by
  have h (l : List Nat) : l.foldl (fun crc _ => (List.range 50).foldl (fun crc k => crcBit crc (bitAt 0 (49 - k))) crc) 0 = 0 := by
    induction l with
    | nil => rfl
    | cons _ _ ih => rw [List.foldl_cons, show (List.range 50).foldl (fun crc k => crcBit crc (bitAt 0 (49 - k))) 0 = 0 by decide +kernel, ih]
  have z (k : Nat) : (SMap.getD ([] : SMap Cell) {} k).bits = 0 := show ({} : Cell).bits = 0 by decide +kernel
  unfold rowSignature
  simp only [z]
  exact h _

theorem witness_NumericsChecks :
    (let e : MirrorEntry := ⟨aSweep, 0, [], []⟩
     let k : MirrorSample := { back := false, start := 0, ctx := .f, key := {}, queue := [e], last := 9 }
     let o : State := { withOpe mcore { sweeps := [{ aSweep with start := 10 }] } (aMirror k) with cores := [] }
     partner mcore = ⟨0, 1⟩ ∧ partner ⟨0, 1⟩ = mcore ∧ Sys2Proof.Machine.McId.core ⟨0, 1⟩ = ⟨0, 1⟩ ∧
       o.mirror (partner ⟨0, 1⟩) = some k ∧ (o.ope ⟨0, 1⟩).reads 10 = false ∧ k.last < 10 ∧ (o.core ⟨0, 1⟩).now ≤ 10 ∧
       ((withOpe ⟨0, 1⟩ { sweeps := [{ aSweep with start := 10 }] } (aMirror k)).ope ⟨0, 1⟩).reads 10 = true) ∧
    ((aMirror (inRows 0)).mirror mcore = some (inRows 0) ∧ (aMirror (inRows 1)).mirror mcore = some (inRows 1) ∧ 256 ≤ (inRows 0).sigs.length ∧
      (List.range 256).all (fun i => SMap.getD (inRows 0).sigs 0 i == 0) = true ∧ (inRows 0).cells = [] ∧ SMap.getD (inRows 1).sigs 0 2 ≠ 0 ∧
      (List.range 2).all (fun i => SMap.getD (inRows 1).sigs 0 i == 0) = true ∧
      bitAt ((aMirror (inRows 1)).regN (mckPage 0) 0x010) 1 = false ∧ bitAt ((aMirror (inRows 1)).regN (lckPage 0) 0x11C) 31 = false) ∧
    (let s := aMirror (inRows 0)
     let limit := max (s.regN (mckPage 0) 0x108) 1024
     let late : State := { s with tick := limit }
     let early : State := { s with tick := limit - 1 }
     0 + limit ≤ late.tick ∧ early.tick < 0 + limit) ∧
    (let l (odd : Bool) : LoupeSample := { bank := 0, start := 0, ctx := .f, layer := 3, key := {}, h := 0, drain := some (1, 0, 0), rows := 256
                                           taps := if odd then [(5, ⟨0, .nan, 127⟩), (9, ⟨0, .nan, 127⟩)] else []
                                           sums := [] }
     let s (odd : Bool) : State := { State.reset with num := { loupes := [(mcKey mcore, [l odd])] } }
     let out (odd : Bool) (j : Nat) : Nat × Bool := loupeCellOutcome (l odd) 0 0 (field ((s odd).regN (lckPage 0) 0x100) 23 16) j
     (s true).loupes mcore = [l true] ∧ (s false).loupes mcore = [l false] ∧ (List.range 16).all (fun j => !(out false j).2) = true ∧
       (out true 5).2 = true ∧ (List.range 16).all (fun i => !(out true i).2 || decide ((out true i).1 < (out true 5).1) ||
         ((out true i).1 == (out true 5).1 && decide (5 ≤ i))) = true) ∧
    (let g : NumTrig := ⟨3, 0, .f, 3, 0, 5, 65535⟩
     let s (on : Nat) (past : NSet) : State := withRegs [(lckPage 0, 0x010, on)]
       { withCore mcore { ctxF := { exe := { passed := past } } } with numIn := [g] }
     bitAt ((s 2 []).regN (lckPage 0) 0x11C) 31 = false ∧ bitAt ((s 2 []).regN (lckPage 0) 0x010) 1 = true ∧
       bitAt ((s 0 []).regN (lckPage 0) 0x010) 1 = false ∧ (((s 2 []).core (coreOfIdx g.core)).ctx g.ctx).exe.passed.contains g.layer = false ∧
       (((s 2 []).core (coreOfIdx g.core)).ctx g.ctx).acc.passed.contains g.layer = false ∧
       (((s 2 [3]).core (coreOfIdx g.core)).ctx g.ctx).exe.passed.contains g.layer = true) := by decide +kernel

/-- A ledger of one record, changed since the last flash write. -/
def aRecord : LedgerRec := { unit := 7, cls := 1, events := 4294967295, lastKind := 1, times := [0] }
def oneRecord : State := { State.reset with ledger := { recs := [(0, aRecord)], dirty := [0] } }

theorem witness_LedgerRecords :
    (let s := oneRecord
     let r := aRecord
     s.ledger.recs.find? (fun e => e.2.unit == 7) = some (0, r) ∧ SMap.get s.ledger.recs 0 = some r ∧
       s.ledger.recs.find? (fun e => e.2.unit == 8) = none ∧ s.ledger.recs.length < 131072 ∧ s.ledger.dirty ≠ [] ∧
       State.reset.ledger.dirty = [] ∧ reachesOk s ldgPage 0x010 .rmSecure true 1 = true ∧ reachesOk s ldgPage 0x010 .rmSecure true 2 = true ∧
       reachesOk s ldgPage 0x108 .rmSecure true 0x20000 = true ∧ SMap.get s.ledger.recs (0x20000 % 2 ^ 17) = some r ∧
       SMap.get s.ledger.recs (0x3FFFF % 2 ^ 17) = none ∧ r.unit < 2 ^ 32 ∧ r.cls < 2 ^ 8 ∧ r.lastKind < 2 ^ 8 ∧ r.events < 2 ^ 32 ∧ r.locus < 2 ^ 32) ∧
    { State.reset with mem := { State.reset.mem with ledgerIn := [⟨7, 4, 1⟩] } }.mem.ledgerIn = [⟨7, 4, 1⟩] := by decide +kernel

/-- A packet of a header alone from interface 0 of a site to interface 0 of another: its class, and its parity right. -/
def aPacket (src dst cls lane : Nat) : Packet :=
  let h := cls * 2 ^ 39 + lane * 2 ^ 37 + src * 2 ^ 26 + dst * 2 ^ 16 + 2 ^ 41
  { header := BitVec.ofNat 64 (putField h 0 6 (hparOf h)) }

/-- The router of a site with those inputs; its route to site 12 is east, and one of its own site's packets goes to its cluster's domain. -/
def atSite (n : Nat) (l : List MeshEntry) : State :=
  { State.reset with fab := { State.reset.fab with routers := [(n, { inputs := l })], routes := [((48 * n + 12) * 2, 1)] } }

/-- Packets within a field, over a stitch bridge (site 11 to site 12), to the site's own unit, lost, damaged and entering. -/
theorem witness_Mesh :
    (let e (n port dst since : Nat) : MeshEntry := ⟨port, aPacket n dst 0 0, some since⟩
     let head (p : Packet) : Nat := p.header.toNat
     let okOut (n : Nat) (p : Packet) (out : Nat) : Bool :=
       let s := atSite n [⟨0, p, some 0⟩]
       s.inService n && s.domainState (320 + siteField n) == 0 && !meshBad s n (head p) && routeOut s n (head p) == out && hasRoom s n (head p) out
     let level (e : MeshEntry) : Nat := meshLevel (head e.pkt) (40 - e.since.getD 40)
     let lost (cls : Nat) : Packet := aPacket 9 13 cls 0
     let w := aPacket 9 12 0 0
     let s := atSite 9 []
     neighbour 9 1 = some 10 ∧ siteField 10 = siteField 9 ∧ okOut 9 (aPacket 9 12 0 0) 1 = true ∧ neighbour 11 1 = some 12 ∧
       siteField 12 ≠ siteField 11 ∧ okOut 11 (aPacket 11 12 0 0) 1 = true ∧ okOut 9 (aPacket 9 9 0 0) 4 = true ∧
       (dstDomain s (head (aPacket 9 9 0 0))).isSome = true ∧ (e 9 3 12 39).queueOf ≠ (e 9 0 12 0).queueOf ∧
       level (e 9 0 12 0) < level (e 9 3 12 39) ∧ [0, 1].all (fun cls => hparBad (head (lost cls)) == 0 && unroutable s 9 (head (lost cls)) &&
         field (head (lost cls)) 40 39 == cls) = true ∧ hparBad (head { w with header := w.header ^^^ 1#64 }) ≠ 0 ∧
       mayEnter s 9 (head w) = true ∧ field (head w) 40 39 ≠ 3 ∧
       okOut 9 (withHeader w (stampHeader s (addressed s 9 (head w)))) 1 = true ∧
       s.router 9 = { inputs := [] } ∧ s.inService 47 = false) ∧
    (let s (cls n st : Nat) : State := { State.reset with fab := { State.reset.fab with crossings := [(6, [(aPacket 9 0 cls 0, n)])]
                                                                                        clocks := [(6, { st := st })] } }
     let h := (aPacket 9 0 0 0).header.toNat
     (s 0 1 0).crossing 6 = [(aPacket 9 0 0 0, 1)] ∧ (s 0 1 0).domainState 6 = 0 ∧ (s 0 1 3).domainState 6 = 3 ∧
       field h 63 48 = (s 0 2 0).epochCopy 6 (field h 47 46) ∧ field h 40 39 = 0 ∧ field (aPacket 9 0 1 0).header.toNat 40 39 ≠ 0) ∧
    (let s (n : Nat) : State := { State.reset with fab := { State.reset.fab with bridges := [(4 * 12 + 3, [(aPacket 9 12 0 0, n)])] } }
     [1, 2].all (fun n => decide ((s n).fab.bridges = [(51, [(aPacket 9 12 0 0, n)])]) && (s n).crossing 321 == [] && (s n).domainState 321 == 0) = true ∧
       siteField (51 / 4) = 321 - 320) := by decide +kernel

theorem witness_Clocks :
    (let s (sel : Nat) (k : Clock) : State := withRegs [(clkPage, 0x100, sel)] { State.reset with fab := { State.reset.fab with clocks := [(sel, k)] } }
     [6, 7, 319, 320].all (fun sel => reachesOk (s sel {}) clkPage 0x108 .rmSecure true 0xFFFFFFFF && field ((s sel {}).regN clkPage 0x100) 8 0 == sel) = true ∧
       ((s 6 { st := 1, next := some 900 }).clock 6).next = some 900 ∧ ((s 6 {}).clock 6).next = none ∧ (s 347 {}).domainUp 347 = true ∧
       (s 365 {}).domainUp 365 = true ∧ (s 367 {}).domainUp 367 = true ∧ ((s 6 { st := 1, unlocked := true }).clock 6).unlocked = true ∧
       ((s 6 {}).clock 6).unlocked = false) := by decide +kernel

/-! ### Interrupts -/

/-- Interrupts of that state, after reset, and registers. -/
def withIrq (i : Irq) (l : List (Page × Nat × Nat)) : State := withRegs l { State.reset with irq := i }

theorem witness_ClusterInterrupts :
    (let core : Page := ⟨.core, 0⟩
     let port : Page := ⟨.port, 0⟩
     let down : State := { State.reset with fab := { State.reset.fab with clocks := [(0, { st := 3 })] } }
     let asleep : State := { State.reset with power := { State.reset.power with asleep := [1] } }
     pageAt (0x1000 * 0) = some core ∧ pageAt (0x1000 * 0xA30) = some port ∧ State.reset.domainState (8 * (0 / 0x40) + 7) = 0 ∧
       State.reset.domainState core.domain = 0 ∧ down.domainState (8 * (0 / 0x40) + 7) = 0 ∧ down.domainState core.domain = 3 ∧
       asleep.domainState 367 = 0 ∧ asleep.domainState port.domain = 2) ∧
    (let p := sicPage 0
     let s : State := withIrq { sics := [(0, { soft := [64, 127], active := [70] })] }
       [(p, 0x100, 0), (p, 0x200 + 4 * 64, 3), (p, 0x200 + 4 * 70, 7), (p, 0x200 + 4 * 127, 7)]
     let full : State := { s with cores := [(6, { ctxF := { queues := [(field (s.regN p 0x100) 1 0, { credits := 0 })] } })] }
     sicPending s 0 127 = true ∧ (List.range 128).all (fun i => !sicPending s 0 i || decide (sicPrio s 0 i < sicPrio s 0 127) ||
         (sicPrio s 0 i == sicPrio s 0 127 && decide (127 ≤ i))) = true ∧
       field (s.regN p 0x100) 3 2 ≠ 3 ∧ (((s.core score).ctx (Ctx.ofIdx (field (s.regN p 0x100) 3 2))).queue (field (s.regN p 0x100) 1 0)).credits ≠ 0 ∧
       s.domainUp 6 = true ∧ s.domainState 7 = 0 ∧ (List.range 128).all (fun i => !sicPending State.reset 0 i) = true ∧
       (((full.core score).ctx (Ctx.ofIdx (field (full.regN p 0x100) 3 2))).queue (field (full.regN p 0x100) 1 0)).credits = 0 ∧
       [70, 71].all (fun v => reachesOk s p 0x108 .rmSecure true v) = true ∧ (s.sic 0).active.contains 70 = true ∧
       (s.sic 0).active.contains 71 = false ∧ [63, 64].all (fun v => reachesOk s p 0x104 .rmSecure true v) = true) := by decide +kernel

/-- Target 0 with a stack; sources 3072 and 3073, PRIO 5, pending for it by their edges, and source 3074, active for it. -/
def licState (stack : List (Nat × Nat)) : State :=
  withIrq { cfg := [(3072, 5), (3073, 5), (3074, 4)], edges := [3072, 3073], active := [(3074, 0)], targets := [(0, { stack := stack })] } [(licPg, 0x100, 3074)]

theorem witness_LicSources :
    (let s := licState [(3074, 4)]
     let full := licState (List.replicate 32 (3074, 4))
     let two := licState [(3075, 4), (3074, 4)]
     let empty := withIrq {} []
     [s, full, empty].all (fun s => reachesOk s licPg 0x200 .rmSecure false 0) = true ∧ (s.licTarget 0).stack.length < 32 ∧
       32 ≤ (full.licTarget 0).stack.length ∧ licEligible s 0 = [3072, 3073] ∧ licCfg s 3072 % 256 = licCfg s 3073 % 256 ∧
       licEligible empty 0 = [] ∧ [s, two, empty].all (fun s => reachesOk s licPg 0x204 .rmSecure true 3074) = true ∧
       (s.licTarget 0).stack = [(3074 % 4096, 4)] ∧ (two.licTarget 0).stack = [(3075, 4), (3074, 4)] ∧ SMap.get two.irq.active 3074 = some 0 ∧
       (empty.licTarget 0).stack = [] ∧ [0x4FF, 0x500].all (fun v => reachesOk s licPg 0x104 .rmSecure true v &&
         reachesOk empty licPg 0x104 .rmSecure true v) = true ∧ field (s.regN licPg 0x100) 11 0 = 3074 ∧ SMap.get s.irq.active 3074 ≠ none ∧
       SMap.get empty.irq.active (field (empty.regN licPg 0x100) 11 0) = none ∧ field 0x4FF 10 8 = 4 ∧ field 0x500 10 8 = 5 ∧
       [3071, 3072].all (fun v => reachesOk s licPg 0x108 .rmSecure true v) = true) := by decide +kernel

/-- Source 3072 is eligible for a target that holds some sources. -/
def targetState (m held : Nat) (expired told : Bool) : State :=
  withIrq { cfg := [(3072, 256 * m + 5)], edges := [3072], targets := [(m, { held := held, expired := expired })], hostTold := told }
    [(licPg, 0x208 + 0x20 * m, 2 * 2 ^ 24 + 9), (licPg, 0x10C, 4)]

theorem witness_LicDeliveries :
    (let open4 (s : State) : State := { s with net := { ctxs := [(4, { st := 1, kind := 2, port := 1, cwnd := 1 })] } }
     let held (s : State) (m : Nat) : Nat := max (field (s.regN licPg (0x208 + 0x20 * m)) 31 24) 1
     let s := targetState 3 2 false false
     let few := targetState 3 1 false false
     let timed := targetState 3 1 true false
     let host := open4 (targetState 4 2 false false)
     let told := open4 (targetState 4 2 false true)
     [s, few, timed].all (fun s => decide (licBest s 3 = some 3072) && s.domainState 367 == 0) = true ∧ held s 3 ≤ (s.licTarget 3).held ∧
       (few.licTarget 3).held < held few 3 ∧ (few.licTarget 3).expired = false ∧ (timed.licTarget 3).expired = true ∧
       licBest host 4 = some 3072 ∧ host.domainState 367 = 0 ∧ host.irq.hostTold = false ∧ held host 4 ≤ (host.licTarget 4).held ∧
       (host.tctx (field (host.regN licPg 0x10C) 13 0)).st = 1 ∧ (host.tctx 4).queue = [] ∧ (host.tctx 4).unacked.length < (host.tctx 4).cwnd ∧
       licBest told 4 = some 3072 ∧ told.irq.hostTold = true) ∧
    (let s (tick : Nat) : State := { targetState 3 1 false false with tick := tick }
     let ticks := field ((s 9).regN licPg (0x208 + 0x20 * 3)) 23 0
     ticks = 9 ∧ ((s 9).licTarget 3).held ≠ 0 ∧ ((s 9).licTarget 3).heldAt + ticks ≤ (s 9).tick ∧ licEligible (s 9) 3 ≠ [] ∧
       (s 8).tick < ((s 8).licTarget 3).heldAt + ticks ∧ [0, 16].all (fun v => reachesOk (s 9) licPg 0x110 .rmSecure true v) = true) ∧
    (let s (n on : Nat) : State := withRegs [(spyPage, 0x010, on), (spyPage, 0x200 + 4 * n, 2 ^ 31 + 2684), (spyPage, 0x100, 7), (licPg, 0x018, 1),
       (licPg, 0x01C, 1)] { State.reset with power := { State.reset.power with asleep := [0, 2] } }
     let level (s : State) : Bool := s.domainState licPg.domain == 0 && lineLevel s licPg
     let awake (n : Nat) : State := { s n 1 with power := State.reset.power }
     licSource 2684 = some licPg ∧ [31, 32].all (fun n => field ((awake n).regN spyPage (0x200 + 4 * n)) 11 0 == 2684 && level (awake n) &&
         bitAt ((awake n).regN spyPage 0x010) 0 && bitAt ((awake n).regN spyPage (0x200 + 4 * n)) 31 &&
         !bitAt ((awake n).regN spyPage (if n < 32 then 0x104 else 0x108)) (n % 32)) = true ∧ level (s 31 1) = false ∧
       bitAt ((s 31 0).regN spyPage 0x010) 0 = false) ∧
    (let s : State := withRegs [(spyPage, 0x010, 1), (spyPage, 0x200, 2 ^ 31 + 2682), (spyPage, 0x100, 7), (partPg, 0x018, 1), (partPg, 0x01C, 1)]
       { State.reset with power := { State.reset.power with asleep := [1, 2] } }
     licSource 2682 = some partPg ∧ s.domainState partPg.domain = 0 ∧ lineLevel s partPg = true ∧ s.power.asleep.contains 2 = true ∧
       bitAt (s.regN spyPage 0x100) 2 = true ∧ SMap.get s.power.waking 2 = none ∧ s.domainState 367 = 0) := by decide +kernel

/-! ### Pages, parity, containment -/

theorem witness_PageRegisters :
    (let s := State.reset
     let core : Page := ⟨.core, 0⟩
     let reaches (off : Nat) (write : Bool) (v : Nat) : Bool := reachesOk s core off .rmSecure write v && pageAt off == some core
     [0x020, 0x030, 0x040].all (fun off => reaches off true 0x40000002 && reaches off true 0x40000001 && reaches off true 0x81) = true ∧
       [0x034, 0x028].all (fun off => reaches off false 0) = true ∧ core.block.counters[0x40000002 % 256]? = some true ∧
       core.block.counters[0x40000001 % 256]? = some false ∧ bitAt (s.owner core) 30 = false ∧
       bitAt ((withRegs [(core, 0x040, 2 ^ 30)] s).owner core) 30 = true ∧
       reachesOk (withRegs [(core, 0x040, 2 ^ 30)] s) core 0x040 .rmSecure true 1 = true ∧ s.domainUp core.domain = true ∧
       secure (.jg score) = false) ∧
    (let s (w r : Nat) : State := { State.reset with logs := [((⟨.core, 0⟩ : Page).base, { writeSeq := w, readSeq := r })] }
     let d (s : State) : Nat := modDist 16 (s.log ⟨.core, 0⟩).writeSeq (s.log ⟨.core, 0⟩).readSeq
     d (s 7 7) = 0 ∧ d (s 0 0xFFF0) = 16 ∧ d (s 1 0xFFF0) = 17 ∧ [s 7 7, s 0 0xFFF0, s 1 0xFFF0].all (fun s =>
       reachesOk s ⟨.core, 0⟩ 0x028 .rmSecure false 0) = true) ∧
    (let ope : Page := ⟨.ope, 0⟩
     let spy : Page := ⟨.spy, 0⟩
     [(ope, 0x110), (ope, 0x108), (ope, 0x1F0), (spy, 0x104), (spy, 0x200)].all (fun e => reachesOk State.reset e.1 e.2 .rmSecure true 0xFFFFFFFF &&
         pageAt (e.1.base + e.2) == some e.1 && !isDebug e.1 e.2) = true ∧
       ope.block.spec 0x1F0 = none ∧ (ope.block.spec 0x108).any (fun r => r.wo == 0 && r.w1c != 0) = true ∧
       (spy.block.spec 0x104).any (fun r => r.wo == 0 && r.w1c != 0) = true ∧ (spy.block.spec 0x200).any (fun r => r.wo == 0 && r.rw != 0) = true) := by
  decide +kernel

theorem witness_RefusedAccesses :
    pageAt 0x3F000 = none ∧ State.reset.sec.session = none ∧ pageAt 0x100 = some ⟨.core, 0⟩ ∧ pageAt 0xA7FFFC = none ∧
    (let s : State := { State.reset with fab := { State.reset.fab with clocks := [(0, { st := 3 })] } }
     s.domainUp (⟨.core, 0⟩ : Page).domain = false) ∧
    State.reset.domainUp (⟨.tal, 0⟩ : Page).domain = true ∧ pageAt 0xA81000 = some ⟨.tal, 0⟩ ∧
    State.reset.admits ⟨.tal, 0⟩ (.jg score) = false := by decide +kernel

theorem witness_ParityErrors :
    0xB7FFFFFFFF < 0xB800000000 ∧ isDataTile 0 = true ∧ State.reset.cont.warm = none ∧
    (let k : RowRun := ⟨⟨0, 0, 0, 1⟩, 0, [], [], false, 0⟩
     ({ State.reset with rowEngines := [(0, { run := some k })] }.row 0).run = some k) ∧
    (let s := withCore mcore (inMode .running)
     coreDue s mcore 0 = true ∧ ((s.core mcore).ctx .f).mode = .running) ∧
    (let l : LoadWait := { reg := 0, addr := 0xFFFFFF000018, word := 0, slot := 0, gap := 0 }
     let s := withCore score { ctxF := { acc := { loads := [l] } } }
     ((s.core score).ctx .f).acc.loads = [l] ∧ (spotOf l.addr matches .register 0x18) = true ∧ l.got = none) ∧
    (let m : Msg := { cls := 1 }
     let s : State := { State.reset with net := { ctxs := [(4, { st := 1, kind := 2, port := 1, ready := [m] })] } }
     (s.tctx 4).st = 1 ∧ (s.tctx 4).ready = [m] ∧ m.cls = 1) := by decide +kernel

/-- Cluster 5 alone runs job 3 of partition 1; the contexts of its cores in a mode; containment in a state. -/
def jobState (m : CtxMode) (c : Contain) (tick : Nat) : State :=
  let k : Context := { mode := m }
  { withRegs [(partPg, 0x200 + 4 * 5, 3 * 16 + 1)] { State.reset with cores := (List.range 7).map (fun i => (35 + i, { ctxF := k, ctxB := k, ctxU := k })) } with
    cont := c, tick := tick }

theorem witness_Kills :
    (let s := jobState .running {} 0
     let v := 2 ^ 31 + 16 + 3
     reachesOk s partPg 0x114 .rmSecure true v = true ∧ reachesOk s partPg 0x114 .rmSecure true 19 = true ∧ field v 5 4 = 1 ∧ s.cont.kill = none ∧
       SMap.get s.cont.resets 1 = none ∧ s.cont.warm = none ∧ s.clusterPart 5 = 1 ∧ s.clusterJob 5 = 3 ∧
       ((s.core ⟨5, 6⟩).ctx .u).mode = .running ∧ reachesOk (jobState .running { kill := some (1, 3, 0) } 0) partPg 0x114 .rmSecure true v = true ∧
       reachesOk (jobState .running { resets := [(1, ⟨0, false⟩)] } 0) partPg 0x114 .rmSecure true v = true ∧
       reachesOk (jobState .running { warm := some ⟨0, false⟩ } 0) partPg 0x114 .rmSecure true v = true) ∧
    (let s (m : CtxMode) (tick : Nat) : State := jobState m { kill := some (1, 3, 0) } tick
     let limit := max ((s .halted 0).regN partPg 0x120) 1024
     let cs := (s .halted 0).jobClusters 1 3
     cs = [5] ∧ allStopped (s .halted 0) (coresOf cs) = true ∧ (cs.foldl clearCluster ((coresOf cs).foldl killCore (s .halted 0))).quiet cs = true ∧
       (s .halted 0).cont.kills = [] ∧ allStopped (s .halting 0) (coresOf cs) = false ∧ 0 + limit ≤ (s .halting limit).tick ∧
       (s .halting (limit - 1)).tick < 0 + limit ∧ limit = max ((s .halting limit).regN partPg 0x120) 1024) ∧
    (let s (tick : Nat) : State := jobState .halting { resets := [(1, ⟨0, false⟩)] } tick
     SMap.get (s 0).cont.resets 1 = some ⟨0, false⟩ ∧ max ((s 0).regN partPg 0x120) 1024 = max (State.reset.regN partPg 0x120) 1024) := by decide +kernel

theorem witness_PartitionResets :
    (let s (target : Nat) (c : Contain) : State := { jobState .running c 0 with mem := { State.reset.mem with shared := [⟨1, target, 5⟩] } }
     (s 1 {}).mem.shared = [⟨1, 1, 5⟩] ∧ (s 1 {}).cont.warm = none ∧ SMap.get (s 1 {}).cont.resets 1 = none ∧
       SMap.get (s 1 { resets := [(1, ⟨0, false⟩)] }).cont.resets 1 ≠ none) ∧
    (let s := jobState .running {} 0
     let off := State.reset
     reachesOk s partPg 0x110 .rmSecure true 2 = true ∧ [0, 1].all (fun v => reachesOk s partPg 0x010 .rmSecure true v) = true ∧
       s.unused 1 = false ∧ s.unused 2 = true ∧ off.unused 0 = false) ∧
    (let s := withRegs [(partPg, 0x100 + 4 * 1, 5)] State.reset
     s.epochOf 1 = 5 ∧ modDist 16 (s.epochOf 1) 5 < 2 ^ 15 ∧ 0 < modDist 16 5 (s.epochCopy 331 1) ∧ modDist 16 5 (s.epochCopy 331 1) < 2 ^ 15 ∧
       targetBusy s 331 1 = false ∧ 2 ^ 15 ≤ modDist 16 (s.epochOf 1) 6 ∧ allAdopted s 1 = false) ∧
    (let s := jobState .halted { resets := [(1, ⟨0, false⟩)] } 0
     SMap.get s.cont.resets 1 ≠ none ∧ allAdopted s 1 = true ∧ s.quiet (s.partClusters 1) = true) ∧
    (let s : State := { jobState .halted { warm := some ⟨0, true⟩ } 0 with sec := { State.reset.sec with verified := true } }
     s.cont.warm = some ⟨0, true⟩ ∧ s.sec.verified = true) ∧
    (let idle := jobState .idle {} 0
     let busy := jobState .running {} 0
     partGuarded 0x14C = true ∧ partGuarded 0x29C = true ∧ partGuarded 0x2A0 = false ∧ (Block.spec .part 0x14C).isSome = true ∧
       configParts busy 0x14C 7 = [1] ∧ busy.partClusters 1 = [5] ∧ reachesOk idle partPg 0x14C .rmSecure true 7 = true ∧
       reachesOk busy partPg 0x14C .rmSecure true 7 = true ∧ (coresOf [5]).all (fun id => allCtx.all (fun x =>
         ((idle.core id).ctx x).mode == .idle && ((busy.core id).ctx x).mode != .idle)) = true) := by decide +kernel

/-! ### Firmware and management -/

/-- An image of a header alone, SVN 255, and room for its signature. -/
def anImage : Image := ⟨256 + 29792, 0x4C4D5A47 + 255 * 2 ^ 48⟩

/-- Flash with images in its slots. -/
def bootState (a b : Option Image) : State :=
  { State.reset with flash := { State.reset.flash with slotA := a, slotB := b, blob := some 7 }, sec := { State.reset.sec with derived := true } }

/-- An image whose vendor's signature is good runs while no owner is enrolled, and one without the magic does not. -/
theorem image_ok (s : State) (hs : s.flash.owner = none) (hf : s.flash.floor ≤ 255) (root : rootOk s = true)
    (sig : Config.slhVerify s.flash.rootKey 0 256 (sub anImage.data 0 256) (sub anImage.data 256 29792) = true) :
    imageOk s anImage = true ∧ imageOk s ⟨0, 0⟩ = false := by
  have e : anImage.bodyEnd = 256 := by decide +kernel
  have m : sub anImage.data 0 4 = 0x4C4D5A47 := by decide +kernel
  have v : s.svnFloor ≤ anImage.svn := by
    rw [show anImage.svn = 255 by decide +kernel]; unfold State.svnFloor; split <;> omega
  refine ⟨?_, ?_⟩
  · simp only [imageOk, signedOk, e, m, root, hs, sig, v]; decide
  · simp [imageOk, signedOk, show sub 0 0 4 = 0 by decide]

theorem witness_Boot :
    (let s := bootState (some anImage) (some ⟨0, 0⟩)
     s.sec.verified = false ∧ s.sec.recovery = false ∧ s.power.off = false ∧ s.power.dark = false ∧ s.sec.derived = true ∧ s.flash.preferred = 0 ∧
       s.flash.image 0 = some anImage ∧ s.flash.image 1 = some ⟨0, 0⟩ ∧ s.flash.owner = none ∧ s.flash.floor ≤ 255 ∧
       (bootState (some ⟨0, 0⟩) (some anImage)).flash.image 1 = some anImage ∧ (bootState none none).flash.image 0 = none ∧
       State.reset.sec.derived = false ∧ s.flash.blob = some 7) ∧
    (let s (r : Bool) : State := { State.reset with sec := { State.reset.sec with vbus := true, recovery := r } }
     ∀ r, SvcReady (s r) ⟨16, 0, 0, 8192, 0⟩) := ⟨by decide +kernel, fun _ => ⟨rfl, rfl, rfl, rfl, rfl⟩⟩

/-- A whole operation of context 4, which is OPEN for a partition; the module's identity. -/
def mgtState (op part len data : Nat) (identity : Option Nat) : State :=
  { State.reset with
    net := { ctxs := [(4, { st := 1, kind := 3, port := 1, part := part, cwnd := 1 })] }
    sec := { State.reset.sec with mgt := some ⟨some 4, 0, op, 1, 0, data, len, true⟩, identity := identity } }

theorem mgt_ready (op part len data : Nat) (identity : Option Nat) :
    MgtReady (mgtState op part len data identity) 4 ⟨some 4, 0, op, 1, 0, data, len, true⟩ op ∧
      ((mgtState op part len data identity).tctx 4).part = part ∧ (mgtState op part len data identity).flash.admin = 0 :=
  ⟨⟨rfl, rfl, rfl, rfl, rfl, by show (0 : Nat) < min 1 (State.cwndMax State.reset); decide +kernel⟩, rfl, rfl⟩

theorem witness_MgtChunks :
    (let m (len last : Nat) : Msg := { cls := 7, len := len, data := 12 + last * 2 ^ 32 }
     let s (mgt : Option MgtOp) (m : Msg) : State := { State.reset with
       net := { ctxs := [(4, { st := 1, kind := 3, port := 1, ready := [m], cwnd := 1 })] }, sec := { State.reset.sec with mgt := mgt } }
     [m 8 0, m 8200 1].all (fun m => ((s none m).tctx 4).st == 1 && decide (((s none m).tctx 4).ready = [m]) && m.cls == 7 &&
         m.data % 2 ^ 8 == 12 && m.data / 2 ^ 8 % 2 ^ 24 == 0 && m.data / 2 ^ 48 % 2 ^ 16 == 0) = true ∧
       ((s none (m 8 0)).tctx 4).queue = [] ∧ ((s none (m 8 0)).tctx 4).unacked.length < ((s none (m 8 0)).tctx 4).cwnd ∧
       (s (some ⟨some 4, 0, 3, 1, 0, 0, 0, true⟩) (m 8 0)).sec.mgt = some ⟨some 4, 0, 3, 1, 0, 0, 0, true⟩) ∧
    (mgtState 1 0 31 0 (some 7)).sec.identity ≠ none ∧ (mgtState 1 0 32 0 none).sec.identity = none ∧
    (mgtState 2 0 0 0 (some 7)).flash.cert.1 ≤ 8192 := by decide +kernel

/-- What `mgt_ready` leaves of the premises; an opaque constant settles which signatures and which root key are good. -/
theorem witness_MgtFirmware :
    (mgtState 3 0 29856 5 (some 7)).sec.identity ≠ none ∧ (mgtState 3 1 29856 5 none).sec.identity = none ∧
      (mgtState 3 0 29856 5 (some 7)).flash.owner = none ∧
      (let s (i : Option Image) : State := { mgtState 5 0 1 1 none with flash := { State.reset.flash with slotA := i, slotB := i } }
       (s none).flash.image (1 - (s none).sec.slot) = none ∧ (s (some anImage)).flash.image (1 - (s none).sec.slot) = some anImage ∧
         signedOk (s (some ⟨0, 0⟩)) ⟨0, 0⟩ = false) ∧ (1 : Nat) % 2 ^ 8 < 2 := by
  refine ⟨by decide, by decide, by decide, ⟨by decide +kernel, by decide +kernel, ?_⟩, by decide⟩
  simp [signedOk, show sub 0 0 4 = 0 by decide]

theorem witness_MgtContainment :
    (let s (op part len data : Nat) (held : Bool) : State :=
       { mgtState op part len data (some 7) with cores := [(coreIdx mcore, inMode .running)], sec := { (mgtState op part len data (some 7)).sec with held := held } }
     let reset := s 6 0 1 15 true
     reset.cont.warm = none ∧ SMap.get reset.cont.resets 3 = none ∧ reset.clusterPart 0 = 0 ∧ ((reset.core mcore).ctx .f).mode = .running ∧
       bitAt 15 3 = true ∧ 15 % 2 ^ 8 < 16 ∧ (s 6 1 1 1 true).flash.admin ≠ 1 ∧ (s 7 0 2 0 true).cont.kill = none ∧ (s 7 0 2 0 true).clusterJob 0 = 0 ∧
       (s 10 0 0 0 true).sec.held = true ∧ (s 10 0 0 0 false).sec.held = false ∧
       (let m := withRegs [(talPage, 0x014, stMgmt)] { s 10 0 0 0 true with power := { State.reset.power with upDone := true } }
        m.stage347 = stMgmt ∧ m.power.upDone = true ∧ m.sec.identity ≠ none ∧ m.sec.removal = 0)) := by decide +kernel

/-! ### Alarms, removal, the service edge -/

/-- After reset, with that state of the security monitor at that tick. -/
def secState (x : Security) (tick : Nat) : State := { State.reset with sec := x, tick := tick }

/-- The same with the rails dark, or off but for R434's. -/
def darkState (x : Security) : State := { secState x 0 with power := { State.reset.power with dark := true } }
def offState (x : Security) : State := { secState x 0 with power := { State.reset.power with off := true } }

theorem witness_Alarms :
    (darkState {}).power.dark = true ∧ (secState { alarms := [(7, 1, 0)] } 0).sec.alarms = [(7, 1, (secState { alarms := [(7, 1, 0)] } 0).tick)] ∧
    (secState {} 0).power.dark = false ∧ (secState {} 0).sec.alarms = [] ∧ (secState {} 0).cont.warm = none ∧ (secState {} 0).power.off = false ∧
    (offState {}).power.off = true ∧ (offState {}).power.dark = false ∧ bitAt ((secState {} 0).regN secPage 0x104) 31 = false ∧
    (1 : Fin 5).val = 1 ∧ (4 : Fin 5).val ≠ 0 := by decide +kernel

theorem witness_RemovalStarts :
    (let k := mgtState 9 0 0 0 none
     let s (r : Nat) : State := { k with cores := [(coreIdx mcore, inMode .running)], sec := { k.sec with removal := r } }
     ((s 0).tctx 4).part = (s 0).flash.admin ∧ (s 0).sec.removal = 0 ∧ (s 1).sec.removal ≠ 0 ∧ (s 0).isRetired = false ∧
       ((mgtState 9 1 0 0 none).tctx 4).part ≠ (mgtState 9 1 0 0 none).flash.admin ∧ (((s 0).core mcore).ctx .f).mode = .running ∧
       [2, 1].all (fun v => reachesOk (s 0) edgePage 0x010 .rmSecure true v) = true) ∧
    (let s (tick : Nat) : State := secState { button := some 7 } tick
     (secState {} 0).sec.button = none ∧ (s 0).sec.button = some 7 ∧ (s 0).sec.asked = false ∧ 7 + 200000000 ≤ (s 200000007).tick ∧
       (s 200000006).tick < 7 + 200000000 ∧ (s 0).power.dark = false ∧ (s 0).power.low = false ∧ (s 0).power.off = false ∧ (s 0).sec.removal = 0 ∧
       (offState { button := some 7 }).power.off = true) := by decide +kernel

theorem witness_RemovalEnds :
    (let s (m : CtxMode) (r tick : Nat) : State := { secState { removal := r } tick with cores := [(coreIdx mcore, { ctxB := { mode := m } })] }
     let limit := max ((s .idle 1 0).regN edgePage 0x104) 1000000
     (s .idle 1 0).sec.removal = 1 ∧ (s .idle 1 0).cores.all (fun e => e.2.ctxB.mode == .idle && e.2.ctxU.mode == .idle) = true ∧
       (s .idle 1 0).crs.hands = [] ∧ (s .idle 1 0).upd.slices = [] ∧ ((s .running 1 0).core mcore).ctxB.mode ≠ .idle ∧
       0 + limit ≤ (s .running 1 limit).tick ∧ (s .running 1 (limit - 1)).tick < limit ∧ (s .idle 2 0).sec.removal = 2 ∧
       (s .idle 2 0).cont.kill = none ∧ (s .idle 2 0).cont.kills = []) ∧
    (secState { latch := true } 0).sec.latch = !false ∧ (secState { removal := 3 } 0).sec.latch = !true ∧ (secState {} 0).power.dark = false ∧
    (secState { tailDue := true } 0).sec.tailDue = true ∧ (secState {} 0).sec.tailDue = false ∧
    (let s : State := { secState { tailDue := true } 0 with ledger := { recs := [(5, aRecord)], dirty := List.replicate 256 5 ++ [6] } }
     5 ∈ s.ledger.dirty.take 256 ∧ 6 ∉ s.ledger.dirty.take 256 ∧ SMap.get s.ledger.recs 5 = some aRecord) := by decide +kernel

/-- The hash and the signature are opaque: a key that they find good is a premise. -/
theorem witness_ServicePort (key sig : Nat) (h : Config.shake256 64 key = Config.rootHash)
    (g : ∀ m, Config.slhVerify key 4 100 m sig = true) :
    (let s (x : Security) : State := secState { x with vbus := true } 0
     SvcReady (s {}) ⟨8, 0, 0, 0, 0⟩ ∧ (secState {} 0).sec.vbus = false ∧ (s {}).power.dark = false ∧ (s {}).sec.lockout = none ∧ (s {}).sec.session = none ∧
       Config.shake256 64 key = (s {}).flash.owner.getD Config.rootHash ∧
       Config.slhVerify key 4 100 (Config.freeNat (s {}).fresh % 2 ^ 256 + (s {}).identityHash * 2 ^ 256 + (15 : Fin 16).val * 2 ^ 768) sig = true) ∧
    ((darkState {}).power.dark = true ∧ (secState { lockout := some 7 } 0).sec.lockout = some 7 ∧
      (secState { session := some ⟨15, 7⟩ } 0).sec.session = some ⟨15, 7⟩ ∧
      field ((withRegs [(secPage, 0x110, 2 * 2 ^ 8 + 255)] (secState {} 0)).regN secPage 0x110) 15 8 = 2 ∧
      7 + 3000000000 ≤ (secState {} 3000000007).tick ∧ (secState {} 3000000006).tick < 7 + 3000000000 ∧
      7 + 6000000000 ≤ (secState {} 6000000007).tick ∧ (secState {} 6000000006).tick < 7 + 6000000000) :=
  ⟨⟨⟨rfl, rfl, rfl, rfl, rfl⟩, rfl, rfl, rfl, rfl, h, g _⟩, by decide +kernel⟩

/-! ### Power, bring-up, spares, sleep -/

/-- After reset, with that power, security monitor and stage of bring-up at that tick. -/
def powerState (p : Power) (x : Security) (stage tick : Nat) : State := withRegs [(talPage, 0x014, stage)] { secState x tick with power := p }

theorem witness_PowerInputs :
    (let on : Power := { enable := true, inputOk := true }
     let s (p : Power) (r : Nat) : State := powerState p { removal := r } 0 0
     (s { on with dark := true } 0).power.dark = true ∧ (s on 0).power.dark = false ∧ (s {} 0).power.enable = false ∧
       (s { on with off := true } 2).power.off = true ∧ (s { on with off := true } 2).sec.removal ≠ 3 ∧ (s { on with off := true } 3).sec.removal = 3 ∧
       (s { on with off := true } 3).power.low = false ∧ (s { on with off := true } 3).power.inputOk = true ∧ (s on 0).power.off = false ∧
       (s { on with low := true } 0).power.low = true) := by decide +kernel

theorem witness_BringUp :
    (let up : Security := { verified := true, identity := some 7 }
     let s (stage tick : Nat) : State := powerState {} up stage tick
     (s 0 0).power.off = false ∧ (s 0 0).power.dark = false ∧ (s 0 0).sec.recovery = false ∧ (s 0 0).sec.verified = true ∧ (s 0 0).sec.removal = 0 ∧
       (s 0 0).power.upDone = false ∧ (s stLink 0).stage347 = stLink ∧ (s stTrain 0).stage347 = stTrain ∧ (s stMgmt 0).stage347 = stMgmt ∧
       (s stLink 0).linkUp 0 = false ∧ 50000000 ≤ (s stLink 50000000).tick - (s stLink 0).power.goodAt ∧
       (s stLink 49999999).tick - (s stLink 0).power.goodAt < 50000000 ∧ 60000000 < (s stTrain 60000001).tick - (s stTrain 0).power.goodAt ∧
       (s stMgmt 249999999).tick < 250000000 ∧ (s stTrain 0).power.siteDue = [] ∧ (s 0 0).sec.held = false ∧ (s 0 0).sec.identity ≠ none ∧
       (s 0 0).cont.warm = none ∧ (powerState {} {} 0 0).sec.verified = false) ∧
    routesLegal (fun n => State.reset.activeSites.contains n) (tableOf []) = false ∧
    (let s : State := { State.reset with fab := { State.reset.fab with sites := (List.range 40).map (fun c => (c, c % 2)) } }
     routesLegal (fun n => s.activeSites.contains n) (tableOf [((48 * 0 + 1) * 2, 1), ((48 * 1 + 0) * 2, 3)]) = true) := by decide +kernel

theorem witness_PowerCap :
    (let s (calm : Nat) : State := powerState { calm := calm, steps := 10 } {} stReady 0
     let limit := min (max (field ((s 9).regN pwrPage 0x108) 15 0) 1800) 3600
     let hot : Int := min (field ((s 9).regN pwrPage 0x10C) 23 16) 115
     (s 9).power.off = false ∧ (s 9).power.dark = false ∧ limit < 65535 ∧ 10 * hot < (0x7FFF#16).toInt ∧ 0 + 100 < limit ∧ (0#16).toInt < 10 * hot - 50 ∧
       ¬(limit < limit ∨ 10 * hot < (0#16).toInt) ∧ ¬(limit + 100 < limit) ∧ (s 8).power.calm < 9 ∧ 9 ≤ (s 9).power.calm) := by decide +kernel

theorem witness_Spares :
    (let r : LedgerRec := { unit := 12 * 2 ^ 20, cls := 3 }
     let s (used : Nat) : State := { powerState { phaseDue := [0], spared := [(12, used)] } {} stReady 0 with ledger := { recs := [(0, r)] } }
     (s 1).power.phaseDue = [0] ∧ SMap.get (s 1).ledger.recs 0 = some r ∧ SMap.getD (s 1).power.spared 0 (field r.unit 27 20) < 2 ∧
       2 ≤ SMap.getD (s 2).power.spared 0 (field r.unit 27 20) ∧ State.reset.power.phaseDue = []) ∧
    bitAt (State.reset.regN (portPage 17) 0x014) 24 = false ∧ bitAt ((withRegs [(portPage 17, 0x014, 2 ^ 24)] State.reset).regN (portPage 17) 0x014) 24 = true ∧
    (let s (tick : Nat) : State := { powerState { portDown := some 16 } {} stReady tick with
       net := { ports := [(16, { sparing := some 0 })], ctxs := [(4, { st := 1, kind := 2, port := 16 })] } }
     (s 0).power.portDown = some 16 ∧ ((s 0).port 16).sparing = some 0 ∧ 0 + 50000000 ≤ (s 50000000).tick ∧ (s 50000000).linkUp 16 = false ∧
       (s 49999999).tick < 0 + 50000000 ∧ ((s 0).tctx 4).port = 16) ∧
    (let s (why : Nat) : State := { withRegs [(pwrPage, 0x014, why * 2 ^ 8)] State.reset with retireDue := [3] }
     (s 0).retireDue = [3] ∧ (s 0).isRetired = false ∧ (s 1).isRetired = true ∧ State.reset.retireDue = [] ∧ State.reset.power.portDown = none) := by
  decide +kernel

theorem witness_SleepAndWake :
    [0, 4, 0xFFFFFFFF].all (fun v => reachesOk State.reset pwrPage 0x11C .rmSecure true v) = true ∧
    (let s (g tick : Nat) : State := powerState { asleep := [g], waking := [(g, 7)] } {} stReady tick
     SMap.get (s 0 0).power.waking 0 = some 7 ∧ SMap.get (s 2 0).power.waking 2 = some 7 ∧ (s 0 4006).tick < 7 + 4000 ∧ 7 + 4000 ≤ (s 0 4007).tick ∧
       (s 2 15006).tick < 7 + 15000 ∧ 7 + 15000 ≤ (s 2 15007).tick ∧ SMap.get State.reset.power.waking 0 = none) := by decide +kernel

/-! ### Single rules and the whole block -/

theorem witness_IntegerLanes :
    ([⟨vcore, false, 4, .vadd, 0xC4181⟩, ⟨vcore, false, 4, .vsub, 0xC41C2⟩, ⟨vcore, false, 4, .vmul, 0xC4183⟩, ⟨vcore, false, 4, .vfma, 0x20C41C4⟩,
      ⟨vcore, false, 5, .vabs, 0x4183⟩, ⟨vcore, false, 5, .vneg, 0x41C4⟩, ⟨vcore, false, 5, .vmax, 0xC4181⟩, ⟨vcore, false, 5, .vmin, 0xC41C2⟩,
      ⟨vcore, false, 5, .vcmp, 0x00000005000C4185⟩] : List Sample).all (fun w => w.ok && isInt (field w.raw 7 6) && decide (field w.raw 34 32 ≤ 5)) = true ∧
    kindOf vcore = .vector := by decide +kernel

theorem witness_ScalarArithmetic :
    ([⟨score, false, 5, .sadd, 0x31041⟩, ⟨score, false, 4, .ssub, 0x31042⟩, ⟨score, false, 4, .saddi, 0x800000000000104A⟩, ⟨score, false, 4, .smul, 0x3104F⟩,
      ⟨score, false, 5, .sshl, 0x31046⟩, ⟨score, false, 5, .sshr, 0x31047⟩, ⟨score, false, 5, .ssra, 0x31048⟩, ⟨score, false, 4, .sdivu, 0x31050⟩] :
      List Sample).all Sample.ok = true ∧ kindOf score = .scalar ∧
    (let q : Pend := { due 5 5 (.sreg 1 8) with slot := 5 }
     let s := flying [due 5 5 (.sreg 1 7), q]
     coreDue s score 5 = true ∧ anyIssuable s score 5 = false ∧
       (s.core score).pend.filter (fun r => decide (r.due = 5)) = [due 5 5 (.sreg 1 7), q]) := by decide +kernel

theorem witness_ResetsOfOwners :
    (let s (m : CtxMode) : State := withCore mcore { inMode m with scs := [(0, { owner := some .f, pos := 3 }), (1, { owner := some .b })] }
     [CtxMode.idle, .halted].all (fun m => coreDue (s m) mcore 0 && reachesOk (atCycle (s m) mcore 0) (corePage mcore) (ctxOff .f 0) .rmSecure true 4) = true ∧
       (((s .idle).core mcore).sc 0).owner = some .f ∧ (((s .idle).core mcore).sc 1).owner ≠ some .f) := by decide +kernel

theorem witness_AlertLine : reachesOk State.reset edgePage 0x014 .rmSecure false 0 = true := by decide +kernel

/-- On an empty queue a tick passes; reset memory has its canonical form. -/
theorem witness_RootKeyKept : ∃ t, step State.reset = .next t := ⟨_, rfl⟩
theorem witness_QueueOnlyShrinks : step { State.reset with pending := [.killDone] } = .next State.reset := rfl
theorem witness_MemoryStaysCanonical : Memory.wf State.reset.mem ∧ ∃ t, step State.reset = .next t := ⟨by decide, _, rfl⟩

/-! ### The spec's worked examples -/

/-- The five words of "Encoding one forward tile", written out from its table, decode to its operations and gaps. -/
theorem test_forward_tile_words :
    (let word (l : List Nat) : List (Nat × OpName) × Nat × Nat :=
       let w := decodeWord .matrix false (fun n => l.getD n 0)
       (if w.causes.isEmpty && !w.absent then w.slots.map (fun o => (o.slot, o.name)) else [], w.gap, w.parcels)
     word [0xA0000003, 0x000E0006, 0x01020303, 0] = ([(0, .markStart), (1, .fwait)], 0, 4) ∧
       word [0xA4040010, 0x23380001, 0xFFFF03FF, 0x000003F4] = ([(4, .mxSweep)], 1028, 4) ∧
       word [0xA1050020, 0x00005101, 0] = ([(5, .mxDrain)], 261, 3) ∧
       word [0xA0000003, 0x000E0007, 0x01001402, 0] = ([(0, .markEnd), (1, .fadd)], 0, 4) ∧
       word [0xA0000001, 0x00000001] = ([(0, .end_)], 0, 2)) := by decide +kernel

/-- The interleave's example: the tile at 0x0040_1234_0000 begins in stack H7, channel 6, pseudo-channel 0 (R203). -/
theorem test_interleave : (hbmMap 0x4012340000).stack = 7 ∧ (hbmMap 0x4012340000).channel = 6 ∧ (hbmMap 0x4012340000).pseudo = 0 ∧
    hbmUnmap (hbmMap 0x4012340000) = 0x4012340000 := by decide +kernel

/-- The cell of "One cell of a ball-detection head": the three products on the grid of LSB_EXP −12, and product 1 under STOCHASTIC. -/
theorem test_cell_products :
    (let q (a sa b sb : Nat) (st : Bool) (r : Nat) : Int × Special := product (decodeElem 3 a sa) (decodeElem 3 b sb) (decodeElem 3 a sa) (decodeElem 3 b sb) st r (-12)
     (q 0x4C 0x7C 0x3A 0x7F false 0).1 = 3840 ∧ (q 0xB1 0x7C 0x01 0x7F false 0).1 = -1 ∧ (q 0xB1 0x7C 0x01 0x7F true 0xA3C1).1 = 0 ∧
       (q 0x7E 0x7C 0x7E 0x86 false 0).1 = 13153337344) := by decide +kernel

/-- Its drain in BF16 and in MXFP8 E4M3, with a neighbour of 0.9375. -/
theorem test_cell_drain :
    convPlain bf16 (.fin false 13153341183 (-12)) = (0x4A44, false) ∧
    mxBlock 3 [.fin false 13153341183 (-12), .fin false 3840 (-12)] = (0x8C, [(0x7C, false), (0, false)]) := by decide +kernel

/-- The state after a command. -/
def run (c : Instr) (s : State) : State := match exec c s with | .next t => t | _ => s

/-- A write of OPE.DBG_SEL outside a session: the entry 0x4000_1200 of "A counter read and a denied debug write". -/
theorem test_denied_debug_write :
    (let s := withRegs [(⟨.ope, 7⟩, 0x040, 1)] State.reset
     let r := run (.registerWrite ⟨0xD1200 / 4, by decide⟩ (.talel 0) 0x100) s
     (r.log ⟨.ope, 7⟩).ring = [(0, 0x40001200)] ∧ (r.log ⟨.ope, 7⟩).writeSeq = 1 ∧ (r.log ⟨.ope, 7⟩).count = 1) := by decide +kernel

/-! ### Further clauses -/

/-- The fill port in the middle of a tile; a poisoned fused operand; a rank update due in a cycle in which a word can issue; a fault met
while its stream context stops. -/
theorem witness_EnginesAndTiles :
    (let sc : StreamCtx := { state := scRunning, owner := some .f, reqs := [replied (.data [(5, 1)] [])] }
     let p : PortUse := { sc := 63, seq := 0, start := 3, done := 31 }
     let c : Core := { scs := [(63, sc)], filling := some p }
     c.sc 63 = sc ∧ c.filling = some p ∧ c.reading = none ∧ readNext c = none ∧ p.done < sc.kib ∧ p.start + p.done + 1 = 35) ∧
    (let s := withOpe mcore { drains := [aDrain] } (withCore mcore { inMode .running with marks := [fusedBase / 128] })
     let t := drainDelay aDrain.raw + 255
     coreDue s mcore t = true ∧ dueDrain (s.ope mcore) t = some aDrain ∧ ((s.core mcore).ctx aDrain.ctx).mode = .running ∧
       fusedPoison ((atCycle s mcore t).coreAt mcore (t + 1)) aDrain.raw (255 - aDrain.next) = true) ∧
    (let s := withOpe mcore { sweeps := [aSweep] } (wordState mcore false 3 0x0C42)
     anyIssuable s mcore aSweep.due = true) ∧
    (let sc : StreamCtx := { state := scRunning, owner := some .f, stopping := true, reqs := [replied (.fault 4)] }
     let s := withCore mcore { inMode .running with scs := [(63, sc)] }
     (s.core mcore).sc 63 = sc ∧ coreDue s mcore 3 = true) := by decide +kernel

/-- A load whose answer has come, one that its agent holds, and one of a register that no other load precedes; SREGWR after such a load. -/
theorem witness_LoadsOfRegisters :
    (let l : LoadWait := { reg := 15, addr := 0xFFFFFF000000 + (corePage mcore).key 0, word := 0, slot := 7, gap := 4 }
     let s (l : LoadWait) : State :=
       withRegs [(corePage mcore, 0x040, 1)] (withCore mcore { ctxF := { mode := .running, exe := { ended := true }, acc := { loads := [l] } } })
     [l, { l with held := true }, { l with got := some (.data 7) }].all (fun l => coreDue (s l) mcore 9) = true ∧
       (spotOf l.addr matches .register 0) = true ∧ nextLoad ((s l).core mcore) = some (.f, l) ∧
       (match busRead (atCycle (s l) mcore 9) ((corePage mcore).key 0) (.jg mcore) with
        | (t, .value _) => decide (t.cores = (atCycle (s l) mcore 9).cores ∧ t.mem = (s l).mem)
        | _ => false) = true) ∧
    nextLoad ((wordState score false 6 0x00FFFFFC00000045).core score) = none := by decide +kernel

/-- Domains that run; nothing held; a FREE SPARE; a carousel message that its unit has not taken early. -/
theorem witness_MemoryAndMessages :
    ((List.range 12).all (fun h => (lit {}).domainState (324 + h) == 0) && (List.range 40).all (fun c => (lit {}).domainState (8 * c + 7) == 0)) = true ∧
    (lit {}).mem.held = [] ∧ (lit {}).mem.waiting = [] ∧ (lit {}).holdsFor 0 = false ∧
    (let m : Msg := { cls := 5, psn := 3, len := 16, srcCtx := 9, dstCtx := 4 }
     let c : TalCtx := { st := 1, kind := 2, port := 16, peer := 7, peerCtx := 9, rxNext := 3 }
     let s := arrived 16 stReady [(4, c)] m
     s.tctx 4 = c ∧ malformed m = false ∧ c.early.contains m.psn = false ∧ m.psn = c.rxNext) := by decide +kernel

/-- The partner of a Mirror sample whose clock runs, and one that is down. -/
theorem witness_Partners :
    (let k : MirrorSample := { back := false, start := 0, ctx := .f, key := {}, queue := [⟨aSweep, 0, [], []⟩] }
     let s (st : Nat) : State := { aMirror k with fab := { State.reset.fab with clocks := [(coreDomain ⟨0, 1⟩, { st := st })] } }
     (s 0).coreRuns ⟨0, 1⟩ = true ∧ (s 3).domainUp (coreDomain ⟨0, 1⟩) = false ∧ (s 3).mirror (partner ⟨0, 1⟩) = some k) ∧
    (let s := withRegs [(portPage 17, 0x014, 2 ^ 24 + 5 * 2 ^ 20)] State.reset
     bitAt (s.regN (portPage 17) 0x014) 24 = true ∧ field (s.regN (portPage 17) 0x014) 23 20 = 5 ∧ s.ledger.recs = [] ∧
       (5 * 2 ^ 28 + 5 * 2 ^ 20) / 2 ^ 28 = 5 ∧ field (5 * 2 ^ 28 + 5 * 2 ^ 20) 27 20 = 5) ∧
    (let r : LedgerRec := { unit := 5 * 2 ^ 28 + 5 * 2 ^ 20, cls := 3 }
     let s : State := { State.reset with ledger := { recs := [(0, r)] } }
     bitAt (s.regN (portPage 17) 0x014) 24 = false ∧ SMap.get s.ledger.recs 0 = some r ∧ field r.unit 27 20 = 6 - 1) := by decide +kernel

/-- Clears of the counters that OPE and JGL keep ahead; a bring-up with a channel that does not train; a SUBMIT of a closed tag; nothing
waits at the end of DRAINING. -/
theorem witness_CountersAndBringUp :
    ([⟨.ope, 0⟩, ⟨.jgl, 0⟩] : List Page).all (fun p => reachesOk State.reset p 0x030 .rmSecure true 0x40000001 &&
      reachesOk State.reset p 0x030 .rmSecure true 0x40000000) = true ∧
    Block.ope.counters[0]? = some false ∧ Block.jgl.counters[1]? = some false ∧
    (Instr.stageAdvance { done := true, hbm := [⟨11, 31, [0, 71], true, false⟩] }).wf = true ∧
    (let s := { updState thinOwner 0 {} with staged := [(updPage.key 0xBF4, 1), (updPage.key 0xBF8, 4 * 2 ^ 16)] }
     let t := withRegs [(crsPage, 0x110, 3 * 2 ^ 30 + 5)] s
     t.tagClosed 4 = true ∧ reachesOk t updPage 0xBFC .rmSecure true 0 = true ∧ (t.bucket 4 0).valid = true ∧ (t.bucket 4 0).thinned = true ∧
       (t.bucket 4 0).owner = true) ∧
    (secState { removal := 1 } 0).upd.queue = [] := by decide +kernel
end Sys2Proof.Tests
end

section
/-! SUPPORT. The accessors of a core and of its contexts after their updates. -/

namespace Sys2Proof.Machine

/-- A table written twice at one key holds what was written last. -/
theorem SMap.set_set {α : Type} (m : SMap α) (k : Nat) (v w : α) : SMap.set (SMap.set m k v) k w = SMap.set m k w := by
  induction m with
  | nil => simp [SMap.set]
  | cons e r ih =>
    obtain ⟨j, x⟩ := e
    rcases Nat.lt_trichotomy k j with h | h | h
    · simp [SMap.set, h]
    · simp [SMap.set, h]
    · simp [SMap.set, Nat.not_lt_of_gt h, Nat.ne_of_gt h, ih]

/-- Two changes of one core are one change. -/
theorem State.modCore_modCore (s : State) (id : CoreId) (f g : Core → Core) :
    (s.modCore id f).modCore id g = s.modCore id (fun c => g (f c)) := by
  show (s.modCore id f).setCore id (g ((s.modCore id f).core id)) = s.setCore id (g (f (s.core id)))
  rw [State.core_modCore_self]
  simp only [State.modCore, State.setCore, SMap.set_set]

/-- Every other core is as it was after a change of one core. -/
theorem State.core_modCore_of_idx_ne (s : State) {id y : CoreId} (f : Core → Core) (h : coreIdx y ≠ coreIdx id) :
    (s.modCore id f).core y = s.core y :=
  State.core_modCore_ne s f (fun e => h (congrArg coreIdx e))

@[simp] theorem State.bump_core (s : State) (p : Page) (sel : Nat) (id : CoreId) : (s.bump p sel).core id = s.core id :=
  State.core_of_cores (State.bump_cores s p sel) id

theorem Core.ctx_setCtx (c : Core) (x y : Ctx) (v : Context) : (c.setCtx x v).ctx y = if y = x then v else c.ctx y := by
  cases x <;> cases y <;> rfl

@[simp] theorem Core.setCtx_ctx (c : Core) (x : Ctx) : c.setCtx x (c.ctx x) = c := by cases x <;> rfl

@[simp] theorem Core.ctx_modCtx_self (c : Core) (x : Ctx) (f : Context → Context) : (c.modCtx x f).ctx x = f (c.ctx x) := by
  simp [Core.modCtx, Core.ctx_setCtx]

theorem Core.ctx_modCtx_ne (c : Core) {x y : Ctx} (f : Context → Context) (h : y ≠ x) : (c.modCtx x f).ctx y = c.ctx y := by
  simp [Core.modCtx, Core.ctx_setCtx, h]

/-- A change of one context keeps, of every context, what it keeps of that one. -/
theorem Core.ctx_modCtx_keep {β : Type} (g : Context → β) (c : Core) (x : Ctx) (f : Context → Context)
    (h : g (f (c.ctx x)) = g (c.ctx x)) (y : Ctx) : g ((c.modCtx x f).ctx y) = g (c.ctx y) := by
  by_cases e : y = x
  · rw [e, Core.ctx_modCtx_self, h]
  · rw [Core.ctx_modCtx_ne c f e]

@[simp] theorem Core.modCtx_istore (c : Core) (x : Ctx) (f : Context → Context) : (c.modCtx x f).istore = c.istore := by cases x <;> rfl
@[simp] theorem Core.modCtx_flags (c : Core) (x : Ctx) (f : Context → Context) : (c.modCtx x f).flags = c.flags := by cases x <;> rfl
@[simp] theorem Core.modCtx_store (c : Core) (x : Ctx) (f : Context → Context) : (c.modCtx x f).store = c.store := by cases x <;> rfl
@[simp] theorem Core.modCtx_marks (c : Core) (x : Ctx) (f : Context → Context) : (c.modCtx x f).marks = c.marks := by cases x <;> rfl
@[simp] theorem Core.modCtx_holder (c : Core) (x : Ctx) (f : Context → Context) : (c.modCtx x f).holder = c.holder := by cases x <;> rfl
@[simp] theorem Core.modCtx_pend (c : Core) (x : Ctx) (f : Context → Context) : (c.modCtx x f).pend = c.pend := by cases x <;> rfl
@[simp] theorem Core.modCtx_scs (c : Core) (x : Ctx) (f : Context → Context) : (c.modCtx x f).scs = c.scs := by cases x <;> rfl

@[simp] theorem Context.stream_setStream_self (k : Context) (a : Bool) (st : Stream) : (k.setStream a st).stream a = st := by
  cases a <;> rfl

/-! ### The clock of a core -/

/-- The fill port's next tile is all that its lock changes (R139). -/
theorem Core.lockFill_eq (c : Core) (t : Nat) : ∃ p, c.lockFill t = { c with filling := p } := by
  unfold Core.lockFill
  split
  · exact ⟨c.filling, rfl⟩
  · split
    · split
      · exact ⟨_, rfl⟩
      · exact ⟨c.filling, rfl⟩
    · exact ⟨c.filling, rfl⟩

/-- A core whose clock moves changes its cycle, its counts of waiting cycles and its fill port's tile, and nothing else (R105, R139, R152). -/
theorem Core.reach_eq (c : Core) (t : Nat) :
    ∃ p n w q, c.reach t = { c with filling := p, now := n, waitCycles := w, faultCycles := q } := by
  obtain ⟨p, hp⟩ := c.lockFill_eq t
  unfold Core.reach
  simp only [hp]
  exact ⟨p, _, _, _, rfl⟩

@[simp] theorem Core.reach_ctx (c : Core) (t : Nat) (x : Ctx) : (c.reach t).ctx x = c.ctx x := by
  obtain ⟨p, n, w, q, h⟩ := c.reach_eq t
  rw [h]; cases x <;> rfl
@[simp] theorem Core.reach_istore (c : Core) (t : Nat) : (c.reach t).istore = c.istore := by
  obtain ⟨p, n, w, q, h⟩ := c.reach_eq t; rw [h]
@[simp] theorem Core.reach_flags (c : Core) (t : Nat) : (c.reach t).flags = c.flags := by
  obtain ⟨p, n, w, q, h⟩ := c.reach_eq t; rw [h]
@[simp] theorem Core.reach_store (c : Core) (t : Nat) : (c.reach t).store = c.store := by
  obtain ⟨p, n, w, q, h⟩ := c.reach_eq t; rw [h]
@[simp] theorem Core.reach_marks (c : Core) (t : Nat) : (c.reach t).marks = c.marks := by
  obtain ⟨p, n, w, q, h⟩ := c.reach_eq t; rw [h]
@[simp] theorem Core.reach_holder (c : Core) (t : Nat) : (c.reach t).holder = c.holder := by
  obtain ⟨p, n, w, q, h⟩ := c.reach_eq t; rw [h]
@[simp] theorem Core.reach_pend (c : Core) (t : Nat) : (c.reach t).pend = c.pend := by
  obtain ⟨p, n, w, q, h⟩ := c.reach_eq t; rw [h]
@[simp] theorem Core.reach_scs (c : Core) (t : Nat) : (c.reach t).scs = c.scs := by
  obtain ⟨p, n, w, q, h⟩ := c.reach_eq t; rw [h]

/-! ### A state whose core has reached a cycle -/

@[simp] theorem core_atCycle_self (s : State) (id : CoreId) (t : Nat) : (atCycle s id t).core id = (s.core id).reach t :=
  State.core_modCore_self s id _

@[simp] theorem issuingStream_atCycle (s : State) (u : Issue) (t : Nat) : issuingStream u (atCycle s u.id t) = issuingStream u s := by
  simp [issuingStream]

@[simp] theorem wordOf_atCycle (s : State) (u : Issue) (t : Nat) : wordOf (atCycle s u.id t) u = wordOf s u := by
  simp [wordOf, nextWord]

@[simp] theorem nextPc_atCycle (s : State) (u : Issue) (t : Nat) : nextPc (atCycle s u.id t) u = nextPc s u := by
  simp [nextPc]

/-! ### The issue of a word that nothing halts -/

section
variable {s : State} {u : Issue}

/-- A word that may issue, where neither stream of its context has a halt cause nor the core one, takes effect (R83, R99, R108). -/
theorem issueWord_of_clean (h : CleanIssue s u) : issueWord s u = performWord (atCycle s u.id u.cycle) u := by
  obtain ⟨⟨hissue, hread, hdue⟩, hcore, hexe, hacc⟩ := h
  have hnow : issueNow (atCycle s u.id u.cycle) u = performWord (atCycle s u.id u.cycle) u := by
    simp only [issueNow, hcore, hexe, hacc]
  rw [← hnow]
  simp only [issueWord, hissue, hread, Option.isNone_none, Bool.and_self, if_true]
  exact inCycle_of_due s _ hdue

theorem issueIf_of_clean {ok : LongWord → Bool} (h : CleanIssue s u) (hok : ok (wordOf s u) = true) :
    issueIf s u ok = performWord (atCycle s u.id u.cycle) u := by
  rw [← issueWord_of_clean h]
  exact if_pos hok

end

/-! ### A word with no slot (R109) -/

theorem slots_of_isEmptyWord {w : LongWord} (h : isEmptyWord w = true) : w.slots = [] := by
  simp only [isEmptyWord, Bool.and_eq_true, List.isEmpty_iff] at h
  exact h.1.1

section
variable {w : LongWord} (h : w.slots = [])
include h

theorem takePoint_of_no_slots (st : Stream) : takePoint st w = none := by simp [takePoint, h]

theorem nextStream_of_no_slots (st : Stream) (after : Nat) : nextStream st w after none = { st with pc := after } := by
  simp [nextStream, h]

theorem slotOrder_of_no_slots : slotOrder w = [] := by simp [slotOrder, h]

theorem startsTiles_of_no_slots : startsTiles w = false := by simp [startsTiles, h]

theorem recordEarly_of_no_slots (s0 s : State) (u : Issue) (word : Nat) : recordEarly s0 s u w word = s := by
  unfold recordEarly
  split
  · rfl
  · simp [h]

theorem popQueues_of_no_slots (s : State) (u : Issue) : popQueues s u w = s.modCore u.id (fun c => c) := by
  simp [popQueues, h, Core.modCtx]

end

/-- The issuing stream goes where `go` says and may issue again GAP cycles after the next cycle (R108): what every word does last to its
core. -/
def Core.moveOn (u : Issue) (go : Stream) (gap : Nat) (c : Core) : Core :=
  let c := c.modCtx u.ctx (fun k => k.setStream u.access
    { k.stream u.access with pc := go.pc, active := go.active, readyAt := u.cycle + 1 + gap })
  { c with lastIssue := max c.lastIssue (u.cycle + 1) }

/-- A word with no slot moves its stream on, is counted, and does nothing else. -/
theorem performWord_of_no_slots (s : State) (u : Issue) (h : (wordOf s u).slots = []) :
    performWord s u = (s.modCore u.id (Core.moveOn u { issuingStream u s with pc := nextPc s u } (wordOf s u).gap)).bump
      (corePage u.id) (b2n u.access) := by
  unfold performWord
  simp only [show nextWord s u.id u.ctx u.access = wordOf s u from rfl, recordEarly_of_no_slots h, popQueues_of_no_slots h,
    slotOrder_of_no_slots h, startsTiles_of_no_slots h, takePoint_of_no_slots h, nextStream_of_no_slots h, List.foldl_nil,
    Bool.false_eq_true, if_false, State.modCore_modCore]
  rfl

/-! ### What a stream that moves on keeps -/

section
variable (u : Issue) (go : Stream) (gap : Nat) (c : Core)

theorem Core.moveOn_stream : ((c.moveOn u go gap).ctx u.ctx).stream u.access =
    { (c.ctx u.ctx).stream u.access with pc := go.pc, active := go.active, readyAt := u.cycle + 1 + gap } := by
  show ((c.modCtx u.ctx _).ctx u.ctx).stream u.access = _
  rw [Core.ctx_modCtx_self, Context.stream_setStream_self]

/-- What every context keeps that does not read the addresses, replay states and gaps of its streams. -/
theorem Core.moveOn_ctx_keep {β : Type} (g : Context → β)
    (h : ∀ k : Context, g (k.setStream u.access
      { k.stream u.access with pc := go.pc, active := go.active, readyAt := u.cycle + 1 + gap }) = g k) (x : Ctx) :
    g ((c.moveOn u go gap).ctx x) = g (c.ctx x) :=
  Core.ctx_modCtx_keep g c u.ctx _ (h _) x

@[simp] theorem Core.moveOn_flags : (c.moveOn u go gap).flags = c.flags := Core.modCtx_flags ..
@[simp] theorem Core.moveOn_istore : (c.moveOn u go gap).istore = c.istore := Core.modCtx_istore ..
@[simp] theorem Core.moveOn_store : (c.moveOn u go gap).store = c.store := Core.modCtx_store ..
@[simp] theorem Core.moveOn_marks : (c.moveOn u go gap).marks = c.marks := Core.modCtx_marks ..
@[simp] theorem Core.moveOn_holder : (c.moveOn u go gap).holder = c.holder := Core.modCtx_holder ..
@[simp] theorem Core.moveOn_pend : (c.moveOn u go gap).pend = c.pend := Core.modCtx_pend ..
@[simp] theorem Core.moveOn_scs : (c.moveOn u go gap).scs = c.scs := Core.modCtx_scs ..

@[simp] theorem Core.moveOn_exe_iregs (x : Ctx) : ((c.moveOn u go gap).ctx x).exe.iregs = (c.ctx x).exe.iregs :=
  Core.moveOn_ctx_keep u go gap c (·.exe.iregs) (fun _ => by cases u.access <;> rfl) x
@[simp] theorem Core.moveOn_acc_iregs (x : Ctx) : ((c.moveOn u go gap).ctx x).acc.iregs = (c.ctx x).acc.iregs :=
  Core.moveOn_ctx_keep u go gap c (·.acc.iregs) (fun _ => by cases u.access <;> rfl) x
@[simp] theorem Core.moveOn_sregs (x : Ctx) : ((c.moveOn u go gap).ctx x).sregs = (c.ctx x).sregs :=
  Core.moveOn_ctx_keep u go gap c (·.sregs) (fun _ => by cases u.access <;> rfl) x
@[simp] theorem Core.moveOn_vregs (x : Ctx) : ((c.moveOn u go gap).ctx x).vregs = (c.ctx x).vregs :=
  Core.moveOn_ctx_keep u go gap c (·.vregs) (fun _ => by cases u.access <;> rfl) x
@[simp] theorem Core.moveOn_mregs (x : Ctx) : ((c.moveOn u go gap).ctx x).mregs = (c.ctx x).mregs :=
  Core.moveOn_ctx_keep u go gap c (·.mregs) (fun _ => by cases u.access <;> rfl) x
@[simp] theorem Core.moveOn_mode (x : Ctx) : ((c.moveOn u go gap).ctx x).mode = (c.ctx x).mode :=
  Core.moveOn_ctx_keep u go gap c (·.mode) (fun _ => by cases u.access <;> rfl) x
@[simp] theorem Core.moveOn_layer (x : Ctx) : ((c.moveOn u go gap).ctx x).layer = (c.ctx x).layer :=
  Core.moveOn_ctx_keep u go gap c (·.layer) (fun _ => by cases u.access <;> rfl) x
@[simp] theorem Core.moveOn_queues (x : Ctx) : ((c.moveOn u go gap).ctx x).queues = (c.ctx x).queues :=
  Core.moveOn_ctx_keep u go gap c (·.queues) (fun _ => by cases u.access <;> rfl) x

end

/-! ### Frames of a word -/

theorem sameOutside_modCore_bump (s : State) (id : CoreId) (f : Core → Core) (p : Page) (sel : Nat) :
    SameOutside s ((s.modCore id f).bump p sel) id := by
  simp +contextual [SameOutside, State.core_modCore_of_idx_ne]

/-- The state once a core has reached the cycle of an issue and the issuing stream has moved on. -/
def movedOn (s : State) (u : Issue) (go : Stream) (gap : Nat) : State :=
  ((atCycle s u.id u.cycle).modCore u.id (Core.moveOn u go gap)).bump (corePage u.id) (b2n u.access)

@[simp] theorem movedOn_core (s : State) (u : Issue) (go : Stream) (gap : Nat) :
    (movedOn s u go gap).core u.id = ((s.core u.id).reach u.cycle).moveOn u go gap := by simp [movedOn]

/-- No register, queue, flag, store or byte of memory changes where a stream only moves on. -/
theorem wordFrame_movedOn (s : State) (u : Issue) (go : Stream) (gap : Nat) : WordFrame s (movedOn s u go gap) u := by
  refine ⟨?regs, ?queues, ?outside, ?stores, ?flags⟩
  case regs => intro x; simp
  case queues => intro x; simp
  case outside =>
    rw [movedOn, atCycle, State.modCore_modCore]
    exact sameOutside_modCore_bump ..
  case stores => simp [SameStores]
  case flags => simp [SameFlags]

theorem noResult_movedOn (s : State) (u : Issue) (go : Stream) (gap : Nat) : NoResult s (movedOn s u go gap) u := by
  simp [NoResult]

theorem goesOn_movedOn (s : State) (u : Issue) (go : Stream) : GoesOn s (movedOn s u go (wordOf s u).gap) u go.pc := by
  simp [GoesOn, issuingStream, Core.moveOn_stream]

/-- An empty word that may issue leaves the state in which its stream has moved to the next word. -/
theorem exec_emptyWord_of_clean {s : State} {u : Issue} (h : CleanIssue s u) (he : isEmptyWord (wordOf s u) = true) :
    exec (.emptyWord u) s = .next (movedOn s u { issuingStream u s with pc := nextPc s u } (wordOf s u).gap) := by
  have hslots : (wordOf (atCycle s u.id u.cycle) u).slots = [] := by
    rw [wordOf_atCycle]; exact slots_of_isEmptyWord he
  show Host.Outcome.next (issueIf s u isEmptyWord) = _
  rw [issueIf_of_clean h he, performWord_of_no_slots _ u hslots]
  simp only [wordOf_atCycle, nextPc_atCycle, issuingStream_atCycle]
  rfl

/-- Settles O6: the word's effect is that its stream moves on, and a stream that moves on keeps everything in the frame. -/
theorem emptyWords : Obligations.EmptyWords := by
  unfold Obligations.EmptyWords
  intro s u hclean hempty
  exact ⟨_, exec_emptyWord_of_clean hclean hempty, goesOn_movedOn .., noResult_movedOn .., wordFrame_movedOn ..⟩

end Sys2Proof.Machine
end

section
/-! SUPPORT. Writes of a CORE page's context registers, and RESET of a context with its stream contexts. -/

namespace Sys2Proof.Machine

/-- A table whose values all change by one function reads, at every key, that function of what it read. -/
theorem SMap.getD_map {α β : Type} (f : α → β) (m : SMap α) (d : α) (k : Nat) :
    SMap.getD (m.map (fun e => (e.1, f e.2))) (f d) k = f (SMap.getD m d k) := by
  induction m with
  | nil => rfl
  | cons e r ih =>
    by_cases h : k = e.1
    · simp [SMap.getD, SMap.get, h]
    · simpa [SMap.getD, SMap.get, h] using ih

/-! ### Writes of a CORE page that reach it (R104, R378) -/

@[simp] theorem coreId_corePage (id : CoreId) : (corePage id).coreId = id := by
  obtain ⟨⟨cluster, hcluster⟩, ⟨core, hcore⟩⟩ := id
  have hc : (7 * cluster + core) / 7 % 40 = cluster := by omega
  have hk : (7 * cluster + core) % 7 = core := by omega
  simp [corePage, Page.coreId, coreIdx, coreOfIdx, hc, hk]

/-- A page of a core begins at a multiple of 4 KiB, so that an aligned offset of it is what the bus makes of its key (R379). -/
theorem offset_of_corePage_key (id : CoreId) {off : Nat} (hlt : off < 0x1000) (h4 : off % 4 = 0) :
    (corePage id).key off % 0x1000 / 4 * 4 = off := by
  simp only [Page.key, Page.base, corePage]
  omega

/-- The offset of CTX_CTRL lies in its page, aligned, among the registers of its context (R104). -/
theorem ctxOff_zero_cases (x : Ctx) : ctxOff x 0 = 0x100 ∨ ctxOff x 0 = 0x140 ∨ ctxOff x 0 = 0x180 := by
  cases x <;> decide

/-- The checks of an admitted access change no core. -/
theorem WriteReaches.cores {s s1 : State} {p : Page} {off v : Nat} {who : Requester} (h : WriteReaches s s1 p off who v) :
    s1.cores = s.cores := by
  have hseen : (seenBy s who).cores = s.cores := by
    unfold seenBy; split <;> rfl
  obtain ⟨-, hr, -⟩ | ⟨q, -, ⟨-, hr, -⟩ | ⟨-, hr⟩ | ⟨ht, -⟩⟩ := busCheck_cases s h
  · cases hr
  · cases hr
  · cases hr
  · rw [ht, hseen]

/-- A write that reaches a CORE page in a cycle in which its core may act is the page's write in that cycle. -/
theorem coreWriteAt_of_reaches {s s1 : State} {id : CoreId} {off v t : Nat} {who : Requester} (hdue : coreDue s id t = true)
    (hlt : off < 0x1000) (h4 : off % 4 = 0) (h : WriteReaches (atCycle s id t) s1 (corePage id) off who v) :
    coreWriteAt s id off who v t = pageWrite s1 (corePage id) who off (v % 2 ^ 32) t := by
  unfold WriteReaches at h
  rw [coreWriteAt, inCycle_of_due s _ hdue]
  show (busWriteAt (atCycle s id t) _ who v t).1 = _
  simp only [busWriteAt, h, offset_of_corePage_key id hlt h4]

/-- A write of CTX_CTRL is a request to its context (R104). -/
theorem pageWrite_ctxCtrl (s : State) (id : CoreId) (x : Ctx) (who : Requester) (v t : Nat) :
    pageWrite s (corePage id) who (ctxOff x 0) v t = ctxCtrlWrite s id x who t v := by
  have hblock : (corePage id).block = .core := rfl
  have hdebug (off : Nat) : isDebug (corePage id) off = false := rfl
  cases x <;>
    simp [pageWrite, hdebug, blockWrite, hblock, coreWrite, ctxOff, Ctx.idx, Ctx.ofIdx]

/-! ### RESET (R103, R146) -/

/-- A stream context after RESET of a context: IDLE, unowned and with nothing but its descriptor if it was that context's. -/
def StreamCtx.afterResetOf (x : Ctx) (sc : StreamCtx) : StreamCtx := if sc.owner = some x then { desc := sc.desc } else sc

theorem StreamCtx.afterResetOf_of_owned {x : Ctx} {sc : StreamCtx} (h : sc.owner = some x) : sc.afterResetOf x = { desc := sc.desc } :=
  if_pos h

theorem StreamCtx.afterResetOf_of_not_owned {x : Ctx} {sc : StreamCtx} (h : sc.owner ≠ some x) : sc.afterResetOf x = sc := if_neg h

theorem Core.sc_resetScs (c : Core) (x : Ctx) (n : Nat) : (resetScs c x).sc n = (c.sc n).afterResetOf x := by
  have hmap : (resetScs c x).scs = c.scs.map (fun e => (e.1, e.2.afterResetOf x)) :=
    List.map_congr_left fun e _ => by simp only [StreamCtx.afterResetOf, beq_iff_eq]; split <;> rfl
  rw [Core.sc, hmap]
  exact SMap.getD_map (StreamCtx.afterResetOf x) c.scs {} n

theorem Core.sc_of_scs {c d : Core} (h : c.scs = d.scs) (n : Nat) : c.sc n = d.sc n := by rw [Core.sc, h, Core.sc]

@[simp] theorem Core.setCtx_scs (c : Core) (x : Ctx) (v : Context) : (c.setCtx x v).scs = c.scs := by cases x <;> rfl

/-- RESET of a context treats each stream context of its core by its owner alone (R146). -/
theorem sc_ctxReset (s : State) (id : CoreId) (x : Ctx) (n : Nat) :
    ((ctxReset s id x).core id).sc n = ((s.core id).sc n).afterResetOf x := by
  have hscs : ((ctxReset s id x).core id).scs = (resetScs (s.core id) x).scs := by
    simp [ctxReset, State.core, State.setCore, resetScs]
  rw [Core.sc_of_scs hscs, Core.sc_resetScs]

/-- RESET acts on a context that is IDLE or HALTED (R103). -/
theorem resetRequest_of_rest {s : State} {id : CoreId} {x : Ctx}
    (h : ((s.core id).ctx x).mode = .idle ∨ ((s.core id).ctx x).mode = .halted) : resetRequest s id x = ctxReset s id x := by
  obtain h | h := h <;> simp only [resetRequest, h]

/-- CTX_CTRL written with its RESET bit alone makes the one request (R104). -/
theorem ctxCtrlWrite_reset (s : State) (id : CoreId) (x : Ctx) (who : Requester) (t : Nat) :
    ctxCtrlWrite s id x who t 4 = resetRequest s id x := rfl

/-- The command RESET, admitted and in time, makes the request of its context. -/
theorem exec_reset_of_reaches {s s1 : State} {a : CtxAt} {who : Requester} (hdue : coreDue s a.id a.cycle = true)
    (h : WriteReaches (atCycle s a.id a.cycle) s1 (corePage a.id) (ctxOff a.ctx 0) who 4) :
    exec (.reset a who) s = .next (resetRequest s1 a.id a.ctx) := by
  have hoff := ctxOff_zero_cases a.ctx
  show Host.Outcome.next (coreWriteAt s a.id (ctxOff a.ctx 0) who 4 a.cycle) = _
  rw [coreWriteAt_of_reaches hdue (by omega) (by omega) h, pageWrite_ctxCtrl]
  exact congrArg _ (ctxCtrlWrite_reset ..)

/-- Settles O21: the command is a RESET of the state that its access's checks leave, whose stream contexts are those before it. -/
theorem resetsOfOwners : Obligations.ResetsOfOwners := by
  unfold Obligations.ResetsOfOwners
  intro s s1 a who hdue hreach hmode
  have hcore : s1.core a.id = (s.core a.id).reach a.cycle :=
    (State.core_of_cores hreach.cores a.id).trans (core_atCycle_self s a.id a.cycle)
  have hrest : ((s1.core a.id).ctx a.ctx).mode = .idle ∨ ((s1.core a.id).ctx a.ctx).mode = .halted := by
    simpa [hcore] using hmode
  refine ⟨ctxReset s1 a.id a.ctx, ?_, fun n => ?_⟩
  · rw [exec_reset_of_reaches hdue hreach, resetRequest_of_rest hrest]
  · have hsc : ((ctxReset s1 a.id a.ctx).core a.id).sc n = ((s.core a.id).sc n).afterResetOf a.ctx := by
      rw [sc_ctxReset, hcore, Core.sc_of_scs (Core.reach_scs ..)]
    simp only [hsc]
    refine ⟨fun howned => ?_, StreamCtx.afterResetOf_of_not_owned⟩
    rw [StreamCtx.afterResetOf_of_owned howned]
    exact ⟨rfl, rfl, rfl, rfl, rfl, rfl, rfl, rfl, rfl, rfl⟩

end Sys2Proof.Machine
end

section
/-! SUPPORT. A word with one operation that only puts a result in flight (R90, R113): what it leaves, and what is the same after it. -/

namespace Sys2Proof.Machine

/-! ### Records: the registers, counters and error logs of pages -/

/-- The states differ in registers, counters and error logs at most. -/
structure RecordsOnly (s t : State) : Prop where
  onlyIn : OnlyIn s t [.regs, .counters, .logs]

theorem RecordsOnly.refl (s : State) : RecordsOnly s s := ⟨fun p _ => by cases p <;> rfl⟩

theorem RecordsOnly.trans {s t r : State} (h : RecordsOnly s t) (g : RecordsOnly t r) : RecordsOnly s r := by
  refine ⟨fun p hp => ?_⟩
  have hst := h.onlyIn p hp
  have htr := g.onlyIn p hp
  cases p <;> exact Eq.trans htr hst

theorem RecordsOnly.core {s t : State} (h : RecordsOnly s t) (id : CoreId) : t.core id = s.core id :=
  State.core_of_cores (h.onlyIn .cores (by decide)) id

theorem RecordsOnly.sameOutside {s t : State} (h : RecordsOnly s t) (id : CoreId) : SameOutside s t id := by
  have hsame := h.onlyIn
  exact ⟨hsame .mem (by decide), hsame .opes (by decide), hsame .net (by decide), hsame .crs (by decide), hsame .step (by decide),
    hsame .upd (by decide), hsame .rowEngines (by decide), hsame .irq (by decide), hsame .fab (by decide), hsame .cont (by decide),
    hsame .sec (by decide), hsame .flash (by decide), hsame .power (by decide), hsame .ledger (by decide), hsame .pending (by decide),
    fun y _ => h.core y⟩

theorem recordsOnly_setReg (s : State) (p : Page) (off : Nat) (v : Word) : RecordsOnly s (s.setReg p off v) := by
  refine ⟨fun x hx => ?_⟩
  cases x <;> simp_all [Untouched]

theorem recordsOnly_bump (s : State) (p : Page) (sel : Nat) : RecordsOnly s (s.bump p sel) := by
  refine ⟨fun x hx => ?_⟩
  cases x <;> simp_all [Untouched]

theorem recordsOnly_countCycles (s : State) (p : Page) (sel n : Nat) : RecordsOnly s (s.countCycles p sel n) := by
  refine ⟨fun x hx => ?_⟩
  cases x <;> simp_all [Untouched, State.countCycles]

theorem recordsOnly_record (s : State) (p : Page) (off v : Nat) : RecordsOnly s (s.record p off v) := by
  unfold State.record
  dsimp only
  split <;> exact recordsOnly_setReg ..

theorem recordsOnly_coreHazard (s : State) (id : CoreId) (kind : Nat) (x : Ctx) (access : Bool) (addr : Nat) :
    RecordsOnly s (coreHazard s id kind x access addr) :=
  (recordsOnly_record ..).trans ((recordsOnly_setReg ..).trans (recordsOnly_bump ..))

theorem recordsOnly_recordEarly (s0 s : State) (u : Issue) (w : LongWord) (word : Nat) : RecordsOnly s (recordEarly s0 s u w word) := by
  unfold recordEarly
  split
  · exact .refl s
  · exact foldl_inv (RecordsOnly s) _ (fun _ _ h => h.trans (recordsOnly_coreHazard ..)) _ s (.refl s)

theorem recordsOnly_raiseExc (s : State) (id : CoreId) (cond : Nat) : RecordsOnly s (raiseExc s id cond) := by
  unfold raiseExc
  dsimp only
  split
  · exact .refl s
  · split
    · exact recordsOnly_bump ..
    · exact (recordsOnly_bump ..).trans ((recordsOnly_setReg ..).trans (recordsOnly_setReg ..))

/-! ### What lies outside a core -/

theorem SameOutside.trans {s t r : State} {id : CoreId} (h : SameOutside s t id) (g : SameOutside t r id) : SameOutside s r id := by
  unfold SameOutside at *
  grind

theorem sameOutside_modCore (s : State) (id : CoreId) (f : Core → Core) : SameOutside s (s.modCore id f) id := by
  simp +contextual [SameOutside, State.core_modCore_of_idx_ne]

/-! ### The registers that a hazard is recorded in (R91, R93) -/

/-- The pages of a core's registers and of its cluster's scalar unit do not meet (R379). -/
theorem sclPage_key_ne_corePage_key (id : CoreId) (off : Nat) {o : Nat} (h : o < 0x1000) : (sclPage id).key off ≠ (corePage id).key o := by
  obtain ⟨⟨c, hc⟩, ⟨k, hk⟩⟩ := id
  simp only [Page.key, Page.base, sclPage, corePage, coreIdx]
  omega

/-- A hazard of a core changes no register of the scalar unit's page. -/
theorem reg_sclPage_coreHazard (s : State) (id : CoreId) (kind : Nat) (x : Ctx) (access : Bool) (addr off : Nat) :
    (coreHazard s id kind x access addr).reg (sclPage id) off = s.reg (sclPage id) off := by
  have hrecord (v : Nat) : (s.record (corePage id) 0x1C4 v).reg (sclPage id) off = s.reg (sclPage id) off := by
    unfold State.record
    dsimp only
    split <;> rw [State.setRegN, State.reg_setReg, if_neg (sclPage_key_ne_corePage_key id off (by decide))]
  unfold coreHazard
  rw [State.reg_of_regs (State.bump_regs ..), State.raise, State.reg_setReg,
    if_neg (sclPage_key_ne_corePage_key id off (by decide)), hrecord]

theorem reg_sclPage_recordEarly (s0 s : State) (u : Issue) (w : LongWord) (word off : Nat) :
    (recordEarly s0 s u w word).reg (sclPage u.id) off = s.reg (sclPage u.id) off := by
  unfold recordEarly
  split
  · rfl
  · exact foldl_keep (fun t => t.reg (sclPage u.id) off) _ (fun _ _ => reg_sclPage_coreHazard ..) _ s

/-! ### The state after the word -/

/-- An operation of no CTL slot that pops no queue, starts no tile run and ends no phase: a word of it alone goes on at the next word. -/
def SlotOp.isPlain (op : SlotOp) : Bool :=
  op.slot != 0 && (popOf op).isNone && !([.markEnd, .replayEnd, .jgRun, .jgSwap] : List OpName).contains op.name

/-- The state in which the operation of a word takes effect: the word's early reads are recorded (R93). -/
def atEffect (s : State) (u : Issue) : State :=
  (recordEarly s s u (wordOf s u) (issuingStream u s).pc).modCore u.id (fun c => c)

@[simp] theorem atEffect_core (s : State) (u : Issue) : (atEffect s u).core u.id = s.core u.id := by
  rw [atEffect, State.core_modCore_self, (recordsOnly_recordEarly ..).core]

theorem sameOutside_atEffect (s : State) (u : Issue) : SameOutside s (atEffect s u) u.id :=
  ((recordsOnly_recordEarly ..).sameOutside u.id).trans (sameOutside_modCore ..)

theorem reg_sclPage_atEffect (s : State) (u : Issue) (off : Nat) : (atEffect s u).reg (sclPage u.id) off = s.reg (sclPage u.id) off :=
  reg_sclPage_recordEarly ..

/-- The stream of a word goes on, and the word is counted: the last of an issue (R108). -/
def finishWord (s t : State) (u : Issue) : State :=
  (t.modCore u.id (Core.moveOn u { issuingStream u s with pc := nextPc s u } (wordOf s u).gap)).bump (corePage u.id) (b2n u.access)

/-- A word of one plain operation records its early reads, does what the operation does, and goes on at the next word. -/
theorem performWord_of_plain {s : State} {u : Issue} {op : SlotOp} (h : (wordOf s u).slots = [op]) (hplain : op.isPlain = true) :
    performWord s u =
      finishWord s (opEffect s u (issuingStream u s).pc (wordOf s u).gap (atEffect s u) op) u := by
  simp only [SlotOp.isPlain, Bool.and_eq_true, bne_iff_ne, ne_eq, Option.isNone_iff_eq_none, Bool.not_eq_true',
    List.contains_eq_mem, List.mem_cons, List.not_mem_nil, or_false, decide_eq_false_iff_not, not_or] at hplain
  obtain ⟨⟨hslot, hpop⟩, hmark, hreplay, hrun, hswap⟩ := hplain
  have hpops : popQueues (recordEarly s s u (wordOf s u) (issuingStream u s).pc) u (wordOf s u) = atEffect s u := by
    simp [popQueues, h, hpop, Core.modCtx, atEffect]
  have horder : slotOrder (wordOf s u) = [op] := by
    by_cases hd : op.name = .mxDrain <;> simp [slotOrder, h, hd]
  have hpoint : takePoint (issuingStream u s) (wordOf s u) = none := by simp [takePoint, h, hmark, hreplay]
  have htiles : startsTiles (wordOf s u) = false := by simp [startsTiles, h, hrun, hswap]
  have hnext : nextStream (issuingStream u s) (wordOf s u) (nextPc s u) none = { issuingStream u s with pc := nextPc s u } := by
    simp [nextStream, h, hslot]
  unfold performWord
  simp only [show nextWord s u.id u.ctx u.access = wordOf s u from rfl, hpops, horder, List.foldl_cons, List.foldl_nil, htiles,
    Bool.false_eq_true, if_false, hpoint]
  rw [← nextPc, hnext]
  rfl

/-- A core with one more result in flight (R90). -/
def Core.withPend (c : Core) (p : Pend) : Core := { c with pend := c.pend ++ [p] }

section
variable (c : Core) (p : Pend)

@[simp] theorem Core.withPend_ctx (x : Ctx) : (c.withPend p).ctx x = c.ctx x := by cases x <;> rfl
@[simp] theorem Core.withPend_pend : (c.withPend p).pend = c.pend ++ [p] := rfl
@[simp] theorem Core.withPend_store : (c.withPend p).store = c.store := rfl
@[simp] theorem Core.withPend_marks : (c.withPend p).marks = c.marks := rfl
@[simp] theorem Core.withPend_istore : (c.withPend p).istore = c.istore := rfl
@[simp] theorem Core.withPend_holder : (c.withPend p).holder = c.holder := rfl
@[simp] theorem Core.withPend_scs : (c.withPend p).scs = c.scs := rfl
@[simp] theorem Core.withPend_flags : (c.withPend p).flags = c.flags := rfl

end

/-- The state after a word whose operation puts a result in flight, where the operation's own state is `t` but for the result. -/
def afterResult (s t : State) (u : Issue) (op : SlotOp) (L : Nat) (e : Effect) : State :=
  finishWord s (addPend t u op (issuingStream u s).pc L e) u

section
variable {s t : State} {u : Issue} (op : SlotOp) (L : Nat) (e : Effect) (hcore : t.core u.id = (s.core u.id).reach u.cycle)
include hcore

theorem afterResult_core : (afterResult s t u op L e).core u.id = Core.moveOn u { issuingStream u s with pc := nextPc s u } (wordOf s u).gap
    (((s.core u.id).reach u.cycle).withPend ⟨u.cycle + L - 1, u.cycle, u.ctx, u.access, op.slot, (issuingStream u s).pc, e⟩) := by
  simp [afterResult, finishWord, addPend, hcore, Core.withPend]

theorem inFlight_afterResult : InFlight s (afterResult s t u op L e) u op L e := by
  simp [InFlight, afterResult_core op L e hcore]

theorem goesOn_afterResult : GoesOn s (afterResult s t u op L e) u (nextPc s u) := by
  simp [GoesOn, issuingStream, afterResult_core op L e hcore, Core.moveOn_stream]

theorem wordFrame_afterResult (hout : SameOutside s t u.id) : WordFrame s (afterResult s t u op L e) u := by
  have houtside : SameOutside t (afterResult s t u op L e) u.id :=
    (sameOutside_modCore ..).trans ((sameOutside_modCore ..).trans ((recordsOnly_bump ..).sameOutside u.id))
  refine ⟨?regs, ?queues, hout.trans houtside, ?stores, ?flags⟩
  case regs => intro x; simp [afterResult_core op L e hcore]
  case queues => intro x; simp [afterResult_core op L e hcore]
  case stores => simp [SameStores, afterResult_core op L e hcore]
  case flags => simp [SameFlags, afterResult_core op L e hcore]

end

theorem afterResult_regs (s t : State) (u : Issue) (op : SlotOp) (L : Nat) (e : Effect) : (afterResult s t u op L e).regs = t.regs := by
  simp [afterResult, finishWord, addPend]

/-- The command of an operation issues the word that holds it alone: if all that the operation does is to put a result in flight, that is
the command's effect. -/
theorem exec_of_sole {s t : State} {u : Issue} {op : SlotOp} {c : Instr} {L : Nat} {e : Effect} (h : SoleIssue s u op)
    (hplain : op.isPlain = true) (hexec : exec c s = .next (issueIf s u (hasOp op.name)))
    (heffect : opEffect (atCycle s u.id u.cycle) u (issuingStream u s).pc (wordOf s u).gap (atEffect (atCycle s u.id u.cycle) u) op =
      addPend t u op (issuingStream u s).pc L e) :
    exec c s = .next (afterResult s t u op L e) := by
  obtain ⟨hclean, hslots⟩ := h
  have hholds : hasOp op.name (wordOf s u) = true := by simp [hasOp, hslots]
  have hat : (wordOf (atCycle s u.id u.cycle) u).slots = [op] := by rw [wordOf_atCycle, hslots]
  rw [hexec, issueIf_of_clean hclean hholds, performWord_of_plain hat hplain]
  simp only [wordOf_atCycle, issuingStream_atCycle, heffect, finishWord, nextPc_atCycle, afterResult]

/-- A result in flight after a word that goes on and keeps its frame: what the statements on arithmetic say of a command. -/
def PutsInFlight (s : State) (u : Issue) (op : SlotOp) (c : Instr) (L : Nat) (e : Effect) (t : State) : Prop :=
  exec c s = .next t ∧ InFlight s t u op L e ∧ GoesOn s t u (nextPc s u) ∧ WordFrame s t u

theorem putsInFlight_of_effect {s t : State} {u : Issue} {op : SlotOp} {c : Instr} {L : Nat} {e : Effect} (h : SoleIssue s u op)
    (hplain : op.isPlain = true) (hexec : exec c s = .next (issueIf s u (hasOp op.name)))
    (heffect : opEffect (atCycle s u.id u.cycle) u (issuingStream u s).pc (wordOf s u).gap (atEffect (atCycle s u.id u.cycle) u) op =
      addPend t u op (issuingStream u s).pc L e)
    (hrecords : RecordsOnly (atEffect (atCycle s u.id u.cycle) u) t) :
    PutsInFlight s u op c L e (afterResult s t u op L e) := by
  have hcore : t.core u.id = (s.core u.id).reach u.cycle := by rw [hrecords.core, atEffect_core, core_atCycle_self]
  have hout : SameOutside s t u.id :=
    (sameOutside_modCore ..).trans ((sameOutside_atEffect ..).trans (hrecords.sameOutside u.id))
  exact ⟨exec_of_sole h hplain hexec heffect, inFlight_afterResult op L e hcore, goesOn_afterResult op L e hcore,
    wordFrame_afterResult op L e hcore hout⟩

end Sys2Proof.Machine
end

section
/-! SUPPORT. The lanes of a vector register, and the operations of the VA and VX slots that write one (R153-R161). -/

namespace Sys2Proof.Machine

/-! ### Lanes (R153) -/

theorem laneOf_eq_zero {v w n : Nat} (h : v < 2 ^ (w * n)) : laneOf v w n = 0 := by
  simp [laneOf, Nat.div_eq_of_lt h]

/-- The lane above a register's lanes is what is put there. -/
theorem laneOf_add_top {v w n : Nat} (x : Nat) (h : v < 2 ^ (w * n)) : laneOf (v + x * 2 ^ (w * n)) w n = x % 2 ^ w := by
  rw [laneOf, Nat.add_mul_div_right _ _ (Nat.two_pow_pos _), Nat.div_eq_of_lt h, Nat.zero_add]

/-- What is put above a lane does not change it. -/
theorem laneOf_add_above (v x w : Nat) {i n : Nat} (h : i < n) : laneOf (v + x * 2 ^ (w * n)) w i = laneOf v w i := by
  obtain ⟨k, rfl⟩ := Nat.exists_eq_add_of_lt h
  have hsplit : x * 2 ^ (w * (i + k + 1)) = x * 2 ^ (w * k) * 2 ^ w * 2 ^ (w * i) := by ring
  rw [laneOf, laneOf, hsplit, Nat.add_mul_div_right _ _ (Nat.two_pow_pos _), Nat.add_mul_mod_self_right]

theorem add_top_lt {v w n x : Nat} (h : v < 2 ^ (w * n)) (hx : x < 2 ^ w) : v + x * 2 ^ (w * n) < 2 ^ (w * (n + 1)) := by
  calc v + x * 2 ^ (w * n) < (x + 1) * 2 ^ (w * n) := by rw [Nat.add_mul, Nat.one_mul]; omega
    _ ≤ 2 ^ w * 2 ^ (w * n) := Nat.mul_le_mul_right _ hx
    _ = 2 ^ (w * (n + 1)) := by ring

theorem ones_eq_top (w n : Nat) : ones (w * n) w = (2 ^ w - 1) * 2 ^ (w * n) := rfl

section
variable {w mask : Nat} {f : Nat → Nat × Nat} {n : Nat}

theorem runLanes_succ_of_masked (h : bitAt mask n = false) : runLanes w mask f (n + 1) = runLanes w mask f n := by
  simp [runLanes, h]

theorem runLanes_succ_val (h : bitAt mask n = true) :
    (runLanes w mask f (n + 1)).val = (runLanes w mask f n).val + (f n).1 % 2 ^ w * 2 ^ (w * n) := by
  simp [runLanes, h]

theorem runLanes_succ_keep (h : bitAt mask n = true) :
    (runLanes w mask f (n + 1)).keep = (runLanes w mask f n).keep + (2 ^ w - 1) * 2 ^ (w * n) := by
  simp [runLanes, h, ones_eq_top]

end

/-- The lanes that an operation has run over hold its result and its write mask. -/
theorem runLanes_lt (w mask : Nat) (f : Nat → Nat × Nat) (n : Nat) :
    (runLanes w mask f n).val < 2 ^ (w * n) ∧ (runLanes w mask f n).keep < 2 ^ (w * n) := by
  induction n with
  | zero => simp [runLanes]
  | succ n ih =>
    obtain ⟨hval, hkeep⟩ := ih
    cases hm : bitAt mask n with
    | false =>
      have hle : 2 ^ (w * n) ≤ 2 ^ (w * (n + 1)) := Nat.pow_le_pow_right (by decide) (Nat.mul_le_mul_left w n.le_succ)
      rw [runLanes_succ_of_masked hm]
      exact ⟨hval.trans_le hle, hkeep.trans_le hle⟩
    | true =>
      rw [runLanes_succ_val hm, runLanes_succ_keep hm]
      exact ⟨add_top_lt hval (Nat.mod_lt _ (Nat.two_pow_pos w)), add_top_lt hkeep (Nat.sub_lt (Nat.two_pow_pos w) Nat.one_pos)⟩

/-- An operation that runs over lanes gives each lane whose mask bit is 1 its value and writes no other (R154). -/
theorem lanesGive_runLanes (w mask : Nat) (f : Nat → Nat × Nat) (n : Nat) :
    LanesGive (runLanes w mask f n) w mask n (fun i => (f i).1) := by
  induction n with
  | zero => exact fun i hi => absurd hi i.not_lt_zero
  | succ n ih =>
    obtain ⟨hval, hkeep⟩ := runLanes_lt w mask f n
    intro i hi
    cases hm : bitAt mask n with
    | false =>
      rw [runLanes_succ_of_masked hm]
      obtain rfl | hlt := Nat.eq_or_lt_of_le (Nat.le_of_lt_succ hi)
      · simp [laneOf_eq_zero hkeep, hm]
      · exact ih i hlt
    | true =>
      rw [runLanes_succ_val hm, runLanes_succ_keep hm]
      obtain rfl | hlt := Nat.eq_or_lt_of_le (Nat.le_of_lt_succ hi)
      · have hfull : (2 ^ w - 1) % 2 ^ w = 2 ^ w - 1 := Nat.mod_eq_of_lt (Nat.sub_lt (Nat.two_pow_pos w) Nat.one_pos)
        simp [laneOf_add_top _ hval, laneOf_add_top _ hkeep, hm, hfull]
      · rw [laneOf_add_above _ _ _ hlt, laneOf_add_above _ _ _ hlt]
        exact ih i hlt

/-- Lanes are told apart by their low bits alone. -/
theorem LanesGive.congr {r : VRes} {w mask n : Nat} {f g : Nat → Nat} (h : LanesGive r w mask n f)
    (hfg : ∀ i, i < n → f i % 2 ^ w = g i % 2 ^ w) : LanesGive r w mask n g := by
  intro i hi
  obtain ⟨hkeep, hval⟩ := h i hi
  exact ⟨hkeep, fun hm => (hval hm).trans (hfg i hi)⟩

/-! ### What an operation of the VA and VX slots puts in flight -/

/-- The operations of the VA and VX slots whose result is a V register. -/
def vregOps : List OpName :=
  [.vadd, .vsub, .vmul, .vfma, .vrcp, .vrsq, .vexp2, .vlog2, .vcvt, .vrsum, .vmax, .vmin, .vabs, .vneg, .vsel, .vmov, .vbcst]

theorem isPlain_of_vregOp {op : SlotOp} (hslot : op.slot = 4 ∨ op.slot = 5) (hname : op.name ∈ vregOps) : op.isPlain = true := by
  have hplain : ∀ n ∈ vregOps, ∀ slot raw, slot ≠ 0 → SlotOp.isPlain ⟨slot, n, raw⟩ = true := by
    simp [vregOps, SlotOp.isPlain, popOf]
  exact hplain op.name hname op.slot op.raw (by omega)

theorem isPlain_vcmp {op : SlotOp} (hslot : op.slot = 5) (hname : op.name = .vcmp) : op.isPlain = true := by
  simp [SlotOp.isPlain, popOf, hslot, hname]

/-- An operation of a vector core's slot 4 or 5 is the vector unit's. -/
theorem opEffect_vector {s0 s : State} {u : Issue} {op : SlotOp} (word gap : Nat) (hkind : kindOf u.id = .vector)
    (hslot : op.slot = 4 ∨ op.slot = 5) : opEffect s0 u word gap s op = vecEffect s0 s u op word := by
  obtain h | h := hslot <;> simp [opEffect, h, hkind]

/-- The counters of the vector unit after an operation of slot 4 or 5 (R182). -/
def vecCounted (s : State) (u : Issue) (op : SlotOp) : State :=
  if op.slot = 4 then (s.bump (vecPage u.id) (op.slot - 4)).countCycles (vecPage u.id) 3 1 else s.bump (vecPage u.id) (op.slot - 4)

theorem recordsOnly_vecCounted (s : State) (u : Issue) (op : SlotOp) : RecordsOnly s (vecCounted s u op) := by
  unfold vecCounted
  split
  · exact (recordsOnly_bump ..).trans (recordsOnly_countCycles ..)
  · exact recordsOnly_bump ..

section
variable (s0 s : State) (u : Issue) (op : SlotOp) (word : Nat)

theorem vecEffect_vregOp (h : op.name ∈ vregOps) :
    vecEffect s0 s u op word =
      addPend (raiseExc (vecCounted s u op) u.id (vecResult ((s0.core u.id).ctx u.ctx) op).cond) u op word (latencyOf op.name op.raw)
        (.vreg (field op.raw 12 8) (vecResult ((s0.core u.id).ctx u.ctx) op).val (vecResult ((s0.core u.id).ctx u.ctx) op).keep) := by
  unfold vecEffect
  dsimp only
  rw [← vecCounted]
  split
  case h_7 => rfl
  all_goals simp_all [vregOps]

theorem vecEffect_vcmp (h : op.name = .vcmp) :
    vecEffect s0 s u op word = addPend (vecCounted s u op) u op word (latencyOf op.name op.raw)
      (.mreg (field op.raw 12 8) (vecResult ((s0.core u.id).ctx u.ctx) op).val (vecResult ((s0.core u.id).ctx u.ctx) op).keep) := by
  simp only [vecEffect, h]
  rfl

end

section
variable {s : State} {u : Issue} {op : SlotOp} {c : Instr} (h : SoleIssue s u op) (hkind : kindOf u.id = .vector)
include h hkind

/-- An operation of the VA and VX slots puts its lanes in flight to its V register (R90, R154). -/
theorem putsInFlight_vregOp (hslot : op.slot = 4 ∨ op.slot = 5) {n : OpName} (hname : op.name = n) (hn : n ∈ vregOps)
    (hexec : exec c s = .next (issueIf s u (hasOp n))) :
    let r := vecResult ((s.core u.id).ctx u.ctx) op
    ∃ t, PutsInFlight s u op c (latencyOf n op.raw) (.vreg (field op.raw 12 8) r.val r.keep) t := by
  subst hname
  have heffect := (opEffect_vector (issuingStream u s).pc (wordOf s u).gap hkind hslot).trans
    (vecEffect_vregOp (atCycle s u.id u.cycle) (atEffect (atCycle s u.id u.cycle) u) u op _ hn)
  simp only [core_atCycle_self, Core.reach_ctx] at heffect
  exact ⟨_, putsInFlight_of_effect h (isPlain_of_vregOp hslot hn) hexec heffect
    ((recordsOnly_vecCounted ..).trans (recordsOnly_raiseExc ..))⟩

/-- A command of the VA or VX slot gives the lanes of its V register what the operation computes. -/
theorem givesLanes_of_vregOp (hslot : op.slot = 4 ∨ op.slot = 5) {n : OpName} (hname : op.name = n) (hn : n ∈ vregOps)
    (hexec : exec c s = .next (issueIf s u (hasOp n))) {L w m l : Nat} {f : Nat → Nat} (hlatency : latencyOf n op.raw = L)
    (hlanes : LanesGive (vecResult ((s.core u.id).ctx u.ctx) ⟨op.slot, n, op.raw⟩) w m l f) :
    ∃ (t : State) (r : VRes), exec c s = .next t ∧ InFlight s t u op L (.vreg (field op.raw 12 8) r.val r.keep) ∧
      LanesGive r w m l f ∧ GoesOn s t u (nextPc s u) ∧ WordFrame s t u := by
  subst hname hlatency
  obtain ⟨t, hnext, hflight, hgoes, hframe⟩ := putsInFlight_vregOp h hkind hslot rfl hn hexec
  exact ⟨t, _, hnext, hflight, hlanes, hgoes, hframe⟩

/-- VCMP puts its bits in flight to an M register (R159). -/
theorem putsInFlight_vcmp (hslot : op.slot = 5) (hname : op.name = .vcmp) :
    let r := vecResult ((s.core u.id).ctx u.ctx) op
    ∃ t, PutsInFlight s u op (.vcmp u) 2 (.mreg (field op.raw 12 8) r.val r.keep) t := by
  have heffect := (opEffect_vector (issuingStream u s).pc (wordOf s u).gap hkind (.inr hslot)).trans
    (vecEffect_vcmp (atCycle s u.id u.cycle) (atEffect (atCycle s u.id u.cycle) u) u op _ hname)
  simp only [core_atCycle_self, Core.reach_ctx, hname] at heffect
  exact ⟨_, putsInFlight_of_effect h (isPlain_vcmp hslot hname) (by rw [hname]; rfl) heffect (recordsOnly_vecCounted ..)⟩

end

/-! ### VRSUM (R161) -/

/-- VRSUM gives lane 0 the sum over the tree and the other lanes 0 (R161). -/
theorem lanesGive_vecRsum (ty mask a : Nat) :
    LanesGive (vecRsum ty mask a) 32 mask 512 (fun i => if i = 0 then
      (if isInt ty then treeSum (fun x y => (x + y) % 2 ^ 32) 9 ((List.range 512).map (laneOf a 32))
       else treeSum (fAdd fp32) 9 ((List.range 512).map (laneOf a 32))) else 0) :=
  lanesGive_runLanes 32 mask _ 512

/-- Settles O14: VRSUM runs over the lanes of its register with the tree's sum in lane 0, and its word puts that in flight. -/
theorem rowSum : Obligations.RowSum := by
  unfold Obligations.RowSum
  intro s u op h hkind _ hslot k ty m a hname
  have hlatency : latencyOf .vrsum op.raw = if isInt ty then 8 else 14 := by simp [latencyOf, isInt, ty]
  exact givesLanes_of_vregOp h hkind (.inl hslot) hname (by decide) rfl hlatency (lanesGive_vecRsum ty m a)

end Sys2Proof.Machine
end

section
/-! SUPPORT. Integer lanes (R157): two's complement values modulo the lane width. -/

namespace Sys2Proof.Machine

/-! ### Values of a lane's width -/

/-- The least value of `w` bits is its own negation modulo `2 ^ w`. -/
theorem wrapTo_neg_least {w : Nat} (h : 0 < w) : wrapTo w (-(-((2 ^ (w - 1) : Nat) : Int))) = wrapTo w (-((2 ^ (w - 1) : Nat) : Int)) := by
  have hpow : ((2 ^ w : Nat) : Int) = ((2 ^ (w - 1) : Nat) : Int) + ((2 ^ (w - 1) : Nat) : Int) := by
    exact_mod_cast (Nat.two_pow_pred_add_two_pow_pred h).symm
  have hneg : -((2 ^ (w - 1) : Nat) : Int) = ((2 ^ (w - 1) : Nat) : Int) - ((2 ^ w : Nat) : Int) := by omega
  unfold wrapTo
  rw [Int.neg_neg, hneg, Int.sub_emod_right]

/-- A negation keeps the least value (R157). -/
theorem wrapTo_neg {w : Nat} (h : 0 < w) (v : Int) :
    wrapTo w (-v) = wrapTo w (if v = -((2 ^ (w - 1) : Nat) : Int) then -((2 ^ (w - 1) : Nat) : Int) else -v) := by
  split
  · rename_i hv
    rw [hv, wrapTo_neg_least h]
  · rfl

/-- An absolute value keeps the least value (R157). -/
theorem wrapTo_natAbs {w : Nat} (h : 0 < w) (v : Int) :
    wrapTo w (v.natAbs : Int) = wrapTo w (if v = -((2 ^ (w - 1) : Nat) : Int) then -((2 ^ (w - 1) : Nat) : Int)
      else if v < 0 then -v else v) := by
  by_cases hneg : v < 0
  · rw [Int.ofNat_natAbs_of_nonpos hneg.le, wrapTo_neg h, if_pos hneg]
  · have hleast : v ≠ -((2 ^ (w - 1) : Nat) : Int) := by
      have := Nat.two_pow_pos (w - 1)
      omega
    rw [Int.natAbs_of_nonneg (not_lt.mp hneg), if_neg hleast, if_neg hneg]

theorem laneBits_pos (ty : Nat) : 0 < laneBits ty := by unfold laneBits; split_ifs <;> decide

/-! ### Lanes of integer operations -/

section
variable {ty : Nat} (hint : isInt ty = true) (m a b : Nat)
include hint

/-- An operation of two integer lanes gives the low bits of its exact value (R157). -/
theorem lanesGive_lane2_int (ff : Fmt → Nat → Nat → Nat) (fi : Int → Int → Int) :
    LanesGive (runLanes (laneBits ty) m (fun n => lane2 ty ff fi (laneOf a (laneBits ty) n) (laneOf b (laneBits ty) n)) (lanesOf ty))
      (laneBits ty) m (lanesOf ty)
      (fun i => wrapTo (laneBits ty) (fi (signedOf (laneBits ty) (laneOf a (laneBits ty) i)) (signedOf (laneBits ty) (laneOf b (laneBits ty) i)))) :=
  (lanesGive_runLanes _ _ _ _).congr fun i _ => by simp [lane2, hint]

/-- VFMA on integers gives the low bits of the exact product and sum (R157). -/
theorem lanesGive_vecFma_int (c : Nat) :
    LanesGive (vecFma ty m a b c) (laneBits ty) m (lanesOf ty)
      (fun i => wrapTo (laneBits ty) (signedOf (laneBits ty) (laneOf a (laneBits ty) i) * signedOf (laneBits ty) (laneOf b (laneBits ty) i) +
        signedOf (laneBits ty) (laneOf c (laneBits ty) i))) :=
  (lanesGive_runLanes _ _ _ _).congr fun i _ => by simp [hint]

theorem lanesGive_vecAbs_int :
    LanesGive (vecAbs ty m a) (laneBits ty) m (lanesOf ty)
      (fun i => wrapTo (laneBits ty) ((signedOf (laneBits ty) (laneOf a (laneBits ty) i)).natAbs : Int)) :=
  (lanesGive_runLanes _ _ _ _).congr fun i _ => by simp [hint]

theorem lanesGive_vecNeg_int :
    LanesGive (vecNeg ty m a) (laneBits ty) m (lanesOf ty)
      (fun i => wrapTo (laneBits ty) (-(signedOf (laneBits ty) (laneOf a (laneBits ty) i)))) :=
  (lanesGive_runLanes _ _ _ _).congr fun i _ => by simp [hint]

end

/-! ### VCMP (R159) -/

/-- The comparison that a COND names, on integers: EQ, NE, LT, LE, GT and GE as 0 to 5 (R157, R159). -/
def CondHolds (c : Nat) (a b : Int) : Prop :=
  (c = 0 ∧ a = b) ∨ (c = 1 ∧ a ≠ b) ∨ (c = 2 ∧ a < b) ∨ (c = 3 ∧ a ≤ b) ∨ (c = 4 ∧ b < a) ∨ (c = 5 ∧ b ≤ a)

/-- Integer lanes compare as signed values (R157). -/
theorem cmpLane_iff_condHolds {ty c : Nat} (hint : isInt ty = true) (hc : c ≤ 5) (a b : Nat) :
    cmpLane ty c a b = true ↔ CondHolds c (signedOf (laneBits ty) a) (signedOf (laneBits ty) b) := by
  simp only [cmpLane, hint, if_true, CondHolds]
  generalize signedOf (laneBits ty) a = x
  generalize signedOf (laneBits ty) b = y
  interval_cases c <;> simp <;> omega

theorem bitAt_eq_laneOf (v i : Nat) : bitAt v i = (laneOf v 1 i == 1) := by simp [bitAt, laneOf]

/-- VCMP writes the outcome of each lane's comparison to the lane's bit (R159). -/
theorem bitAt_vecCmp {ty c m i : Nat} (a b : Nat) (hi : i < lanesOf ty) (hm : bitAt m i = true) :
    bitAt (vecCmp ty c m a b).val i = cmpLane ty c (laneOf a (laneBits ty) i) (laneOf b (laneBits ty) i) := by
  have hlane := (lanesGive_runLanes 1 m
    (fun n => (b2n (cmpLane ty c (laneOf a (laneBits ty) n) (laneOf b (laneBits ty) n)), 0)) (lanesOf ty) i hi).2 hm
  rw [bitAt_eq_laneOf]
  show (laneOf (runLanes 1 m _ (lanesOf ty)).val 1 i == 1) = _
  rw [hlane]
  cases hcmp : cmpLane ty c (laneOf a (laneBits ty) i) (laneOf b (laneBits ty) i) <;> simp [hcmp, b2n]

/-! ### The obligation -/

/-- The latencies of the arithmetic operations on integers (chapter 5's tables). -/
theorem latencyOf_int {raw : Nat} (hint : isInt (field raw 7 6) = true) :
    latencyOf .vadd raw = 2 ∧ latencyOf .vsub raw = 2 ∧ latencyOf .vmul raw = 2 ∧ latencyOf .vfma raw = 4 := by
  have hty : 1 < field raw 7 6 := of_decide_eq_true hint
  simp [latencyOf, hty]

/-- A command of the VA or VX slot gives the lanes of its V register what the operation computes, and keeps the word's frame. -/
theorem givesFramedLanes_of_vregOp {s : State} {u : Issue} {op : SlotOp} {c : Instr} (h : SoleIssue s u op) (hkind : kindOf u.id = .vector)
    (hslot : op.slot = 4 ∨ op.slot = 5) {n : OpName} (hname : op.name = n) (hn : n ∈ vregOps)
    (hexec : exec c s = .next (issueIf s u (hasOp n))) {L w m l : Nat} {f : Nat → Nat} (hlatency : latencyOf n op.raw = L)
    (hlanes : LanesGive (vecResult ((s.core u.id).ctx u.ctx) ⟨op.slot, n, op.raw⟩) w m l f) :
    ∃ (t : State) (r : VRes), exec c s = .next t ∧ InFlight s t u op L (.vreg (field op.raw 12 8) r.val r.keep) ∧
      LanesGive r w m l f ∧ WordFrame s t u := by
  obtain ⟨t, r, hnext, hflight, hgives, -, hframe⟩ := givesLanes_of_vregOp h hkind hslot hname hn hexec hlatency hlanes
  exact ⟨t, r, hnext, hflight, hgives, hframe⟩

/-- Settles O15: each operation runs over its lanes with the low bits of its exact value, and VCMP with the signed comparison. -/
theorem integerLanes : Obligations.IntegerLanes := by
  unfold Obligations.IntegerLanes
  intro s u op h hkind _ hint k w n m x y z least low holds gives
  have hw : 0 < w := laneBits_pos _
  obtain ⟨hadd, hsub, hmul, hfma⟩ := latencyOf_int hint
  refine ⟨?vadd, ?vsub, ?vmul, ?vfma, ?vabs, ?vneg, ?vmax, ?vmin, ?vcmp⟩
  case vadd =>
    intro hslot hname
    exact givesFramedLanes_of_vregOp h hkind (.inl hslot) hname (by decide) rfl hadd (lanesGive_lane2_int hint _ _ _ fAdd (· + ·))
  case vsub =>
    intro hslot hname
    exact givesFramedLanes_of_vregOp h hkind (.inl hslot) hname (by decide) rfl hsub (lanesGive_lane2_int hint _ _ _ fSub (· - ·))
  case vmul =>
    intro hslot hname
    exact givesFramedLanes_of_vregOp h hkind (.inl hslot) hname (by decide) rfl hmul (lanesGive_lane2_int hint _ _ _ fMul (· * ·))
  case vfma =>
    intro hslot hname
    exact givesFramedLanes_of_vregOp h hkind (.inl hslot) hname (by decide) rfl hfma (lanesGive_vecFma_int hint _ _ _ _)
  case vabs =>
    intro hslot hname
    exact givesFramedLanes_of_vregOp h hkind (.inr hslot) hname (by decide) rfl rfl
      ((lanesGive_vecAbs_int hint _ _).congr fun i _ => congrArg (· % 2 ^ w) (wrapTo_natAbs hw (x i)))
  case vneg =>
    intro hslot hname
    exact givesFramedLanes_of_vregOp h hkind (.inr hslot) hname (by decide) rfl rfl
      ((lanesGive_vecNeg_int hint _ _).congr fun i _ => congrArg (· % 2 ^ w) (wrapTo_neg hw (x i)))
  case vmax =>
    intro hslot hname
    have hmax (i : Nat) : max (x i) (y i) = if x i < y i then y i else x i := max_def_lt ..
    exact givesFramedLanes_of_vregOp h hkind (.inr hslot) hname (by decide) rfl rfl
      ((lanesGive_lane2_int hint _ _ _ fMax max).congr fun i _ => congrArg (fun v => wrapTo w v % 2 ^ w) (hmax i))
  case vmin =>
    intro hslot hname
    have hmin (i : Nat) : min (x i) (y i) = if y i < x i then y i else x i := by rw [min_comm, min_def_lt]
    exact givesFramedLanes_of_vregOp h hkind (.inr hslot) hname (by decide) rfl rfl
      ((lanesGive_lane2_int hint _ _ _ fMin min).congr fun i _ => congrArg (fun v => wrapTo w v % 2 ^ w) (hmin i))
  case vcmp =>
    intro hslot hname hcond
    obtain ⟨t, hexec, hflight, -, hframe⟩ := putsInFlight_vcmp h hkind hslot hname
    refine ⟨t, _, hexec, hflight, hframe, fun i hi hm => ?_⟩
    have hbits : vecResult k op = vecCmp (field op.raw 7 6) (field op.raw 34 32) m
        (k.vreg (field op.raw 17 13)).toNat (k.vreg (field op.raw 22 18)).toNat := by simp only [vecResult, hname]; rfl
    rw [hbits, bitAt_vecCmp _ _ hi hm]
    exact cmpLane_iff_condHolds hint hcond ..

end Sys2Proof.Machine
end

section
/-! SUPPORT. Scalar arithmetic (R165), and two results of one stream for one S register (R91). -/

namespace Sys2Proof.Machine

/-! ### Values modulo 2^64 -/

section
variable (a b : Word64)

theorem word64_add : a + b = BitVec.ofNat 64 ((a.toNat + b.toNat) % 2 ^ 64) := BitVec.eq_of_toNat_eq (by simp)

theorem word64_sub : a - b = BitVec.ofNat 64 ((a.toNat + 2 ^ 64 - b.toNat) % 2 ^ 64) := by
  have hb := b.isLt
  refine BitVec.eq_of_toNat_eq ?_
  rw [BitVec.toNat_sub, BitVec.toNat_ofNat, Nat.mod_mod]
  congr 1
  omega

theorem word64_mul : a * b = BitVec.ofNat 64 (a.toNat * b.toNat % 2 ^ 64) := BitVec.eq_of_toNat_eq (by simp)

theorem word64_shiftLeft (n : Nat) : a <<< n = BitVec.ofNat 64 (a.toNat * 2 ^ n % 2 ^ 64) :=
  BitVec.eq_of_toNat_eq (by simp [Nat.shiftLeft_eq])

theorem word64_ushiftRight (n : Nat) : a >>> n = BitVec.ofNat 64 (a.toNat / 2 ^ n) := by
  refine BitVec.eq_of_toNat_eq ?_
  have hlt : a.toNat / 2 ^ n < 2 ^ 64 := (Nat.div_le_self ..).trans_lt a.isLt
  rw [BitVec.toNat_ushiftRight, BitVec.toNat_ofNat, Nat.mod_eq_of_lt hlt, Nat.shiftRight_eq_div_pow]

/-- A shift that fills with the sign: of a negative word, what is left of its complement is complemented again. -/
theorem word64_sshiftRight (n : Nat) : a.sshiftRight n =
    BitVec.ofNat 64 (if a.toNat < 2 ^ 63 then a.toNat / 2 ^ n else 2 ^ 64 - 1 - (2 ^ 64 - 1 - a.toNat) / 2 ^ n) := by
  refine BitVec.eq_of_toNat_eq ?_
  have hlt := a.isLt
  split
  · have hmsb : a.msb = false := by rw [BitVec.msb_eq_decide]; exact decide_eq_false (by omega)
    have hquot : a.toNat / 2 ^ n < 2 ^ 64 := (Nat.div_le_self ..).trans_lt hlt
    rw [BitVec.toNat_sshiftRight_of_msb_false hmsb, BitVec.toNat_ofNat, Nat.mod_eq_of_lt hquot, Nat.shiftRight_eq_div_pow]
  · have hmsb : a.msb = true := by rw [BitVec.msb_eq_decide]; exact decide_eq_true (by omega)
    have hlow (k : Nat) : (2 ^ 64 - 1 - k) % 2 ^ 64 = 2 ^ 64 - 1 - k := Nat.mod_eq_of_lt (by omega)
    rw [BitVec.toNat_sshiftRight_of_msb_true hmsb, BitVec.toNat_ofNat, Nat.shiftRight_eq_div_pow, hlow]

/-- Division by zero gives all ones. -/
theorem word64_div : (if b = 0 then BitVec.allOnes 64 else a / b) =
    BitVec.ofNat 64 (if b.toNat = 0 then 2 ^ 64 - 1 else a.toNat / b.toNat) := by
  by_cases hb : b = 0
  · simp [hb]
  · have hne : b.toNat ≠ 0 := fun h => hb (BitVec.eq_of_toNat_eq h)
    have hquot : a.toNat / b.toNat < 2 ^ 64 := (Nat.div_le_self ..).trans_lt a.isLt
    refine BitVec.eq_of_toNat_eq ?_
    rw [if_neg hb, if_neg hne, BitVec.toNat_udiv, BitVec.toNat_ofNat, Nat.mod_eq_of_lt hquot]

end

/-- The signed reading of a number's low half is that of the 32-bit word which they make. -/
theorem toInt_ofNat_32 (n : Nat) : (BitVec.ofNat 32 n).toInt = signedOf 32 n := by
  rw [BitVec.toInt_eq_toNat_cond, BitVec.toNat_ofNat]
  simp only [signedOf]
  split <;> split <;> omega

/-- An immediate extends with its sign before the addition. -/
theorem word64_add_signExtend (a : Word64) (n : Nat) : a + (BitVec.ofNat 32 n).signExtend 64 =
    BitVec.ofNat 64 (((a.toNat : Int) + signedOf 32 n) % ((2 ^ 64 : Nat) : Int)).toNat := by
  have ha : BitVec.ofInt 64 (a.toNat : Int) = a := by simp
  have hsum : a + (BitVec.ofNat 32 n).signExtend 64 = BitVec.ofInt 64 ((a.toNat : Int) + signedOf 32 n) := by
    rw [BitVec.signExtend, toInt_ofNat_32, BitVec.ofInt_add, ha]
  have hlow : (((a.toNat : Int) + signedOf 32 n) % ((2 ^ 64 : Nat) : Int)).toNat < 2 ^ 64 := by omega
  refine BitVec.eq_of_toNat_eq ?_
  rw [hsum, BitVec.toNat_ofInt, BitVec.toNat_ofNat, Nat.mod_eq_of_lt hlow]

/-! ### What an operation of the SA slots puts in flight -/

/-- The operations of the SA slots that compute an S register from S registers and an immediate. -/
def sregOps : List OpName :=
  [.sadd, .ssub, .sand, .sor, .sxor, .sshl, .sshr, .ssra, .smovi, .saddi, .scmplt, .scmpeq, .smul, .sdivu]

theorem isPlain_of_sregOp {op : SlotOp} (hslot : op.slot = 4 ∨ op.slot = 5) (hname : op.name ∈ sregOps) : op.isPlain = true := by
  have hplain : ∀ n ∈ sregOps, ∀ slot raw, slot ≠ 0 → SlotOp.isPlain ⟨slot, n, raw⟩ = true := by
    simp [sregOps, SlotOp.isPlain, popOf]
  exact hplain op.name hname op.slot op.raw (by omega)

/-- An operation of a scalar core's slot 4 or 5 is the scalar unit's. -/
theorem opEffect_scalar {s0 s : State} {u : Issue} {op : SlotOp} (word gap : Nat) (hkind : kindOf u.id = .scalar)
    (hslot : op.slot = 4 ∨ op.slot = 5) : opEffect s0 u word gap s op = scalarEffect s0 s u op word := by
  obtain h | h := hslot <;> simp [opEffect, h, hkind]

/-- What an operation of the SA slots computes from the registers of its context (R165). -/
def scalarResult (k : Context) (op : SlotOp) : Word64 :=
  scalarAlu op.name (k.sreg (field op.raw 15 11)) (k.sreg (field op.raw 20 16)) (field op.raw 63 32)

theorem scalarEffect_sregOp (s0 s : State) (u : Issue) (op : SlotOp) (word : Nat) (h : op.name ∈ sregOps) :
    scalarEffect s0 s u op word = addPend (s.bump (sclPage u.id) (if op.slot = 6 then 1 else 0)) u op word (latencyOf op.name op.raw)
      (.sreg (field op.raw 10 6) (scalarResult ((s0.core u.id).ctx u.ctx) op)) := by
  unfold scalarEffect
  dsimp only
  split
  case h_9 => rfl
  all_goals simp_all [sregOps]

/-- An operation of the SA slots puts its value in flight to its S register and writes no register of the scalar unit's page. -/
theorem putsInFlight_sregOp {s : State} {u : Issue} {op : SlotOp} {c : Instr} (h : SoleIssue s u op) (hkind : kindOf u.id = .scalar)
    (hslot : op.slot = 4 ∨ op.slot = 5) {n : OpName} (hname : op.name = n) (hn : n ∈ sregOps)
    (hexec : exec c s = .next (issueIf s u (hasOp n))) {v : Word64}
    (hv : scalarResult ((s.core u.id).ctx u.ctx) ⟨op.slot, n, op.raw⟩ = v) :
    ∃ t, exec c s = .next t ∧ InFlight s t u op (latencyOf n op.raw) (.sreg (field op.raw 10 6) v) ∧ WordFrame s t u ∧
      ∀ off, t.reg (sclPage u.id) off = s.reg (sclPage u.id) off := by
  subst hname hv
  have heffect := (opEffect_scalar (issuingStream u s).pc (wordOf s u).gap hkind hslot).trans
    (scalarEffect_sregOp (atCycle s u.id u.cycle) (atEffect (atCycle s u.id u.cycle) u) u op _ hn)
  simp only [core_atCycle_self, Core.reach_ctx] at heffect
  obtain ⟨hnext, hflight, -, hframe⟩ :=
    putsInFlight_of_effect h (isPlain_of_sregOp hslot hn) hexec heffect (recordsOnly_bump ..)
  refine ⟨_, hnext, hflight, hframe, fun off => ?_⟩
  rw [State.reg_of_regs (afterResult_regs ..), State.reg_of_regs (State.bump_regs ..), reg_sclPage_atEffect]
  rfl

/-! ### Two results of one cycle for one S register (R91) -/

/-- Two results of one cycle, the second over the first, commit in this order. -/
theorem orderPends_pair {p q : Pend} (h : p.over q = false) : orderPends [p, q] = [p, q] := by
  simp [orderPends, insertPend, h]

/-- The slot of later number stands over the other of its word (R91). -/
theorem not_over_of_slot_lt {p q : Pend} (hissued : p.issued = q.issued) (hctx : p.ctx = q.ctx) (haccess : p.access = q.access)
    (hslot : p.slot < q.slot) : p.over q = false := by
  simp [Pend.over, hissued, hctx, haccess, hslot.le]

/-- The winner of two results for one S register is what the register holds. -/
theorem sreg_commitAll_pair (s : State) (id : CoreId) (size : Nat) {p q : Pend} {n : Nat} {v w : Word64} (hn : n ≠ 0)
    (hp : p.what = .sreg n v) (hq : q.what = .sreg n w) (hctx : p.ctx = q.ctx) (haccess : p.access = q.access) :
    (((commitAll s id size [p, q]).core id).ctx q.ctx).sreg n = w := by
  have hmeets : p.meets size q = true := by simp [Pend.meets, Effect.target, hp, hq, hn, hctx, haccess]
  have hstore : p.isStore = false := by simp [Pend.isStore, hp]
  simp [commitAll, hmeets, hstore, passHolder, hq, Core.commit, Core.unmark, hn, Context.sreg]

/-- Two results for S registers meet no queue whose EXT bit is set. -/
theorem pushConflict_sreg (id : CoreId) (s : State) {p : Pend} {n : Nat} {v : Word64} (h : p.what = .sreg n v) : pushConflict id s p = s := by
  simp [pushConflict, h]

/-- The results of a cycle that are all for S registers commit in their order and do nothing else. -/
theorem resultCommit_sreg_pair {s : State} {id : CoreId} {t : Nat} {p q : Pend} {n : Nat} {v w : Word64} (hdue : coreDue s id t = true)
    (hissue : anyIssuable s id t = false) (hmine : (s.core id).pend.filter (fun r => decide (r.due = t)) = [p, q])
    (hp : p.what = .sreg n v) (hq : q.what = .sreg n w) :
    resultCommit s id t =
      commitAll ((atCycle s id t).modCore id (fun c => { c with pend := c.pend.filter (fun p => decide (p.due ≠ t)) })) id
        (storeSize (kindOf id)) (orderPends [p, q]) := by
  have hstore : [p, q].any (·.isStore) = false := by simp [Pend.isStore, hp, hq]
  unfold resultCommit
  rw [hmine, hissue]
  simp only [List.isEmpty_cons, Bool.or_self, Bool.false_eq_true, if_false, inCycle_of_due s _ hdue, hstore, List.foldl_cons,
    List.foldl_nil, pushConflict_sreg _ _ hp, pushConflict_sreg _ _ hq]
  rfl

/-- Settles O17: an operation's value is arithmetic modulo 2^64, and of two results of one word SA1's commits last. -/
theorem scalarArithmetic : Obligations.ScalarArithmetic := by
  unfold Obligations.ScalarArithmetic
  refine ⟨?arithmetic, ?commit⟩
  case arithmetic =>
    intro s u op h hkind _ hslot a b imm n gives
    refine ⟨?sadd, ?ssub, ?saddi, ?smul, ?sshl, ?sshr, ?ssra, ?sdivu⟩
    case sadd => exact fun hname => putsInFlight_sregOp h hkind hslot hname (by decide) rfl (word64_add ..)
    case ssub => exact fun hname => putsInFlight_sregOp h hkind hslot hname (by decide) rfl (word64_sub ..)
    case saddi => exact fun hname => putsInFlight_sregOp h hkind hslot hname (by decide) rfl (word64_add_signExtend ..)
    case smul => exact fun hname => putsInFlight_sregOp h hkind hslot hname (by decide) rfl (word64_mul ..)
    case sshl => exact fun hname => putsInFlight_sregOp h hkind hslot hname (by decide) rfl (word64_shiftLeft ..)
    case sshr => exact fun hname => putsInFlight_sregOp h hkind hslot hname (by decide) rfl (word64_ushiftRight ..)
    case ssra => exact fun hname => putsInFlight_sregOp h hkind hslot hname (by decide) rfl (word64_sshiftRight ..)
    case sdivu => exact fun hname => putsInFlight_sregOp h hkind hslot hname (by decide) rfl (word64_div ..)
  case commit =>
    intro s id t p q n v w hdue hissue hmine hn hp hq hctx haccess hissued hpslot hqslot
    have hover : p.over q = false := not_over_of_slot_lt hissued hctx haccess (by omega)
    refine ⟨resultCommit s id t, rfl, ?_⟩
    rw [resultCommit_sreg_pair hdue hissue hmine hp hq, orderPends_pair hover]
    exact sreg_commitAll_pair _ _ _ hn hp hq hctx haccess

end Sys2Proof.Machine
end

section
/-! SUPPORT. What a read that reaches its page answers, and the bits of EDGE.STATUS (R425, R432). -/

namespace Sys2Proof.Machine

/-! ### Reads that reach their page (R378, R430) -/

/-- An admitted read acts in the state in which it was checked. -/
theorem ReadReaches.eq_seenBy {s s1 : State} {p : Page} {off : Nat} {who : Requester} (h : ReadReaches s s1 p off who) :
    s1 = seenBy s who := by
  obtain ⟨-, hr, -⟩ | ⟨q, -, ⟨-, hr, -⟩ | ⟨-, hr⟩ | ⟨ht, -⟩⟩ := busCheck_cases s h
  · cases hr
  · cases hr
  · cases hr
  · exact ht

/-- A read that reaches its page is the page's own read. -/
theorem busRead_of_reaches {s s1 : State} {p : Page} {off : Nat} {who : Requester} (h : ReadReaches s s1 p off who) :
    busRead s (p.key off) who = pageRead s1 p who (p.key off % 0x1000 / 4 * 4) := by
  unfold ReadReaches at h
  simp only [busRead, h]

/-! ### EDGE.STATUS (R432) -/

theorem offset_of_edgeStatus_key : edgePage.key 0x014 % 0x1000 / 4 * 4 = 0x014 := by decide

/-- A read of EDGE.STATUS answers it and changes nothing. -/
theorem pageRead_edgeStatus (s : State) (who : Requester) : pageRead s edgePage who 0x014 = (s, .value (edgeStatus s)) := rfl

/-- ALERT is bit 0 of EDGE.STATUS: every other field has an even weight. -/
theorem bitAt_zero_edgeStatus (s : State) : bitAt (edgeStatus s) 0 = alert s := by
  have hlow : edgeStatus s % 2 = b2n (alert s) % 2 := by unfold edgeStatus; omega
  unfold bitAt
  rw [Nat.pow_zero, Nat.div_one, hlow]
  cases alert s <;> rfl

/-! ### The alert line (R425) -/

theorem alert_iff (s : State) :
    alert s = true ↔ s.sec.removal = 3 ∨ s.sec.held = true ∨ s.sec.recovery = true ∨ s.stage347 = stRetired := by
  simp [alert, or_assoc]

/-- A frame of a session renews the session alone, which the alert line does not depend on. -/
theorem alert_seenBy (s : State) (who : Requester) : alert (seenBy s who) = alert s := by
  unfold seenBy
  split <;> rfl

/-- Settles O52: the value read is EDGE.STATUS of the state that the access's checks leave, whose alert line is that of the state before. -/
theorem alertLine : Obligations.AlertLine := by
  unfold Obligations.AlertLine
  intro s s1 who h
  refine ⟨edgeStatus s1, ?read, ?bit⟩
  case read => rw [busRead_of_reaches h, offset_of_edgeStatus_key, pageRead_edgeStatus]
  case bit => rw [bitAt_zero_edgeStatus, h.eq_seenBy, alert_seenBy, alert_iff]

end Sys2Proof.Machine
end

section
/-! SUPPORT. What no command changes: the waiting commands, the root key in flash (R415, R417), the memory's canonical form. -/

namespace Sys2Proof.Machine

variable {s₀ : State}

/-- What a command keeps of the state `a` before it: the waiting commands, the root key in flash, and the memory's canonical form. -/
structure Keeps (s₀ s : State) : Prop where
  pending : s.pending = s₀.pending
  rootKey : s.flash.rootKey = s₀.flash.rootKey
  wf : Memory.wf s₀.mem → Memory.wf s.mem


theorem Keeps.refl (s : State) : Keeps s s := ⟨rfl, rfl, id⟩

theorem Keeps.trans {s t : State} (h : Keeps s₀ s) (g : Keeps s t) : Keeps s₀ t :=
  ⟨g.pending.trans h.pending, g.rootKey.trans h.rootKey, g.wf ∘ h.wf⟩

/-- An update of parts of the state that leaves the waiting commands, the root key and the bytes of HBM as they are. -/
theorem Keeps.update {s : State} {tick fresh regs staged counters logs snaps cores opes mem retireDue rowEngines numIn step net crs upd num ledger fab irq
    cont sec flash power} (h : Keeps s₀ s) (hk : flash.rootKey = s.flash.rootKey) (hm : mem.dram = s.mem.dram) :
    Keeps s₀ ⟨s.pending, tick, fresh, regs, staged, counters, logs, snaps, cores, opes, mem, retireDue, rowEngines, numIn, step, net, crs, upd, num,
      ledger, fab, irq, cont, sec, flash, power⟩ :=
  ⟨h.pending, hk.trans h.rootKey, fun hw => by
    have hs := h.wf hw
    unfold Memory.wf at hs ⊢
    rwa [hm]⟩

/-- An update that may write bytes of HBM, whose canonical form it keeps. -/
theorem Keeps.updateMem {s : State} {tick fresh regs staged counters logs snaps cores opes mem retireDue rowEngines numIn step net crs upd num ledger
    fab irq cont sec flash power} (h : Keeps s₀ s) (hk : flash.rootKey = s.flash.rootKey) (hm : Mem.wf s.mem.dram → Mem.wf mem.dram) :
    Keeps s₀ ⟨s.pending, tick, fresh, regs, staged, counters, logs, snaps, cores, opes, mem, retireDue, rowEngines, numIn, step, net, crs, upd, num,
      ledger, fab, irq, cont, sec, flash, power⟩ :=
  ⟨h.pending, hk.trans h.rootKey, hm ∘ h.wf⟩

theorem Keeps.withRetired {s : State} {l : NSet} (hk : Keeps s₀ s) : Keeps s₀ { s with mem.retired := l } := .update hk rfl rfl

theorem Keeps.withAllPoison {s : State} {b : Bool} (hk : Keeps s₀ s) : Keeps s₀ { s with mem.allPoison := b } := .update hk rfl rfl

@[simp] theorem Flash.putImage_rootKey (f : Flash) (k : Nat) (i : Image) : (f.putImage k i).rootKey = f.rootKey := by
  unfold Flash.putImage
  split <;> rfl

theorem Keeps.pair {β : Type} {s : State} {b : β} (h : Keeps s₀ s) : Keeps s₀ (s, b).1 := h

theorem Keeps.pair_snd {β : Type} {s : State} {b : β} (h : Keeps s₀ s) : Keeps s₀ (b, s).2 := h

theorem Keeps.ite {c : Prop} {_ : Decidable c} {s t : State} (hs : Keeps s₀ s) (ht : Keeps s₀ t) : Keeps s₀ (if c then s else t) := by
  split <;> assumption

theorem Keeps.onlyIf {c : Prop} {_ : Decidable c} {s t : State} (hs : Keeps s₀ s) (ht : Keeps s t) : Keeps s₀ (if c then t else s) :=
  .ite (hs.trans ht) hs

theorem Keeps.unless {c : Prop} {_ : Decidable c} {s t : State} (hs : Keeps s₀ s) (ht : Keeps s t) : Keeps s₀ (if c then s else t) :=
  .ite hs (hs.trans ht)

theorem Keeps.ite_fst {β : Type} {c : Prop} {_ : Decidable c} {s t : State × β} (hs : Keeps s₀ s.1) (ht : Keeps s₀ t.1) :
    Keeps s₀ (if c then s else t).1 := by
  split <;> assumption

theorem Keeps.ite_snd {β : Type} {c : Prop} {_ : Decidable c} {s t : β × State} (hs : Keeps s₀ s.2) (ht : Keeps s₀ t.2) :
    Keeps s₀ (if c then s else t).2 := by
  split <;> assumption

theorem Keeps.of_fst {β : Type} {p : State × β} {s : State} {b : β} (h : Keeps s₀ p.1) (e : p = (s, b)) : Keeps s₀ s := by
  rwa [e] at h

theorem Keeps.of_snd {β : Type} {p : β × State} {s : State} {b : β} (h : Keeps s₀ p.2) (e : p = (b, s)) : Keeps s₀ s := by
  rwa [e] at h

theorem Keeps.foldl {β : Type} {f : State → β → State} {l : List β} {s : State} (h : Keeps s₀ s)
    (hf : ∀ s x, Keeps s₀ s → Keeps s₀ (f s x)) : Keeps s₀ (l.foldl f s) := foldl_inv (Keeps s₀) f hf l s h

theorem Keeps.foldl_fst {β γ : Type} {f : State × γ → β → State × γ} {l : List β} {s : State × γ} (h : Keeps s₀ s.1)
    (hf : ∀ s x, Keeps s₀ s.1 → Keeps s₀ (f s x).1) : Keeps s₀ (l.foldl f s).1 := by
  induction l generalizing s with
  | nil => exact h
  | cons x l ih => exact ih (hf s x h)

theorem Keeps.foldr {β : Type} {f : β → State → State} {l : List β} {s : State} (h : Keeps s₀ s)
    (hf : ∀ s x, Keeps s₀ s → Keeps s₀ (f x s)) : Keeps s₀ (l.foldr f s) := by
  induction l with
  | nil => exact h
  | cons x l ih => exact hf _ x ih

theorem Keeps.matchKick {s : State} {f : RowKick → List RowKick → State} (run : Option RowRun) (queue : List RowKick)
    (hk : Keeps s₀ s) (hf : ∀ k rest, Keeps s₀ (f k rest)) :
    Keeps s₀ (match run, queue with | none, k :: rest => f k rest | _, _ => s) := by
  split
  · exact hf _ _
  · exact hk

/-- A reading that goes through keeps what every command keeps. -/
structure Reading.Keeping {α : Type} (m : Reading α) : Prop where
  ok : ∀ {s₀ s t : State} {x : α}, Keeps s₀ s → m s = .ok (x, t) → Keeps s₀ t

namespace Reading.Keeping
variable {α β : Type} {m m' : Reading α} {f : α → Reading β} {g : State → State}

theorem pure {x : α} : Reading.Keeping (Pure.pure x) := ⟨fun hk e => by cases e; exact hk⟩

theorem bind (hm : m.Keeping) (hf : ∀ x, (f x).Keeping) : Reading.Keeping (m >>= f) := by
  refine ⟨fun {s₀ s t y} hk e => ?_⟩
  match h : m s with
  | .error _ => simp [Bind.bind, StateT.bind, Except.bind, h] at e
  | .ok (x, r) =>
    simp only [Bind.bind, StateT.bind, Except.bind, h] at e
    exact (hf x).ok (hm.ok hk h) e

theorem get : Reading.Keeping MonadState.get := ⟨fun hk e => by cases e; exact hk⟩

theorem modify (hg : ∀ {s₀ s}, Keeps s₀ s → Keeps s₀ (g s)) : Reading.Keeping (modify g) := ⟨fun hk e => by cases e; exact hg hk⟩

theorem ite {c : Prop} {_ : Decidable c} (h : m.Keeping) (h' : m'.Keeping) : Reading.Keeping (if c then m else m') := by
  split <;> assumption

end Reading.Keeping

end Sys2Proof.Machine
end

section
/-! SUPPORT. That the operations of registers and counters of pages, clocks, flags and the matrix path keep what no command changes. -/

namespace Sys2Proof.Machine

variable {s₀ : State}

theorem Keeps.setReg {s : State} {p : Page} {off : ℕ} {v : Word} (hk : Keeps s₀ s) : Keeps s₀ (s.setReg p off v) := .update hk rfl rfl

theorem Keeps.setRegN {s : State} {p : Page} {off : ℕ} {v : ℕ} (hk : Keeps s₀ s) : Keeps s₀ (s.setRegN p off v) := .setReg hk

theorem Keeps.setField {s : State} {p : Page} {off : ℕ} {lo : ℕ} {w : ℕ} {v : ℕ} (hk : Keeps s₀ s) : Keeps s₀ (s.setField p off lo w v) := .setRegN hk

theorem Keeps.setStage {s : State} {p : Page} {off : ℕ} {v : Word} (hk : Keeps s₀ s) : Keeps s₀ (s.setStage p off v) := .update hk rfl rfl

theorem Keeps.raise {s : State} {p : Page} {bit : ℕ} (hk : Keeps s₀ s) : Keeps s₀ (s.raise p bit) := .setReg hk

theorem Keeps.logWord {s : State} {p : Page} {e : ℕ} (hk : Keeps s₀ s) : Keeps s₀ (s.logWord p e) := .update hk rfl rfl

theorem Keeps.bumpBy {s : State} {p : Page} {sel : ℕ} {n : ℕ} (hk : Keeps s₀ s) : Keeps s₀ (s.bumpBy p sel n) :=
  .ite (.logWord (.update hk rfl rfl)) (.update hk rfl rfl)

theorem Keeps.bump {s : State} {p : Page} {sel : ℕ} (hk : Keeps s₀ s) : Keeps s₀ (s.bump p sel) := .bumpBy hk

theorem Keeps.countCycles {s : State} {p : Page} {sel : ℕ} {n : ℕ} (hk : Keeps s₀ s) : Keeps s₀ (s.countCycles p sel n) := .update hk rfl rfl

theorem Keeps.bumpReg {s : State} {p : Page} {off : ℕ} (hk : Keeps s₀ s) : Keeps s₀ (s.bumpReg p off) :=
  .ite hk (.ite (.logWord (.setRegN hk)) (.setRegN hk))

theorem Keeps.record {s : State} {p : Page} {off : ℕ} {payload : ℕ} (hk : Keeps s₀ s) : Keeps s₀ (s.record p off payload) :=
  .ite (.setRegN hk) (.setRegN hk)

theorem Keeps.logReq {s : State} {p : Page} {kind : ℕ} {who : Requester} {write : Bool} {off : ℕ} (hk : Keeps s₀ s) : Keeps s₀ (s.logReq p kind who
    write off) :=
  .logWord hk

theorem Keeps.logHw {s : State} {p : Page} {off : ℕ} (hk : Keeps s₀ s) : Keeps s₀ (s.logHw p off) := .logWord hk

theorem Keeps.logUnit {s : State} {p : Page} {part : ℕ} {cluster : ℕ} {off : ℕ} (hk : Keeps s₀ s) : Keeps s₀ (s.logUnit p part cluster off) :=
  .logWord hk

theorem Keeps.setCore {s : State} {id : CoreId} {c : Core} (hk : Keeps s₀ s) : Keeps s₀ (s.setCore id c) := .update hk rfl rfl

theorem Keeps.modCore {s : State} {id : CoreId} {f : Core → Core} (hk : Keeps s₀ s) : Keeps s₀ (s.modCore id f) := .setCore hk

theorem Keeps.setOpe {s : State} {id : CoreId} {o : Ope} (hk : Keeps s₀ s) : Keeps s₀ (s.setOpe id o) := .update hk rfl rfl

theorem Keeps.draw {s : State} (hk : Keeps s₀ s) : Keeps s₀ (s.draw).2 := .pair_snd (.update hk rfl rfl)

theorem Keeps.setClock {s : State} {d : ℕ} {k : Clock} (hk : Keeps s₀ s) : Keeps s₀ (s.setClock d k) := .update hk rfl rfl

theorem Keeps.whileRunning {s : State} {d : ℕ} {t : State} (hk : Keeps s₀ s) (hk1 : Keeps s₀ t) : Keeps s₀ (whileRunning s d t) := .ite hk1 hk

theorem Keeps.haltCtx {s : State} {id : CoreId} {x : Ctx} {cause : ℕ} {access : Bool} {addr : ℕ} {slot : ℕ} (hk : Keeps s₀ s) : Keeps s₀ (haltCtx s id
    x cause access addr slot) := by
  unfold Machine.haltCtx
  dsimp only
  split
  · exact hk
  · exact .bump hk
  · exact .bump hk
  · exact .bump (.setRegN (.setRegN (.setRegN (.setCore hk))))

theorem Keeps.haltCore {s : State} {id : CoreId} {x : Option Ctx} {cause : ℕ} {access : Bool} {addr : ℕ} {slot : ℕ} (hk : Keeps s₀ s) : Keeps s₀
    (haltCore s id x cause access addr slot) :=
  .foldl hk (fun _ _ hk1 => .ite (.haltCtx hk1) (.ite (.haltCtx hk1) hk1))

theorem Keeps.takeCause {s : State} {id : CoreId} {x : Ctx} {cause : ℕ} {access : Bool} {addr : ℕ} {slot : ℕ} (hk : Keeps s₀ s) : Keeps s₀ (takeCause
    s id x cause access addr slot) :=
  .ite (.haltCore hk) (.haltCtx hk)

theorem Keeps.coreHazard {s : State} {id : CoreId} {kind : ℕ} {x : Ctx} {access : Bool} {addr : ℕ} (hk : Keeps s₀ s) : Keeps s₀ (coreHazard s id kind
    x access addr) :=
  .bump (.raise (.record hk))

theorem Keeps.passHolder {s : State} {id : CoreId} {p : Pend} (hk : Keeps s₀ s) : Keeps s₀ (passHolder s id p) := by
  unfold Machine.passHolder
  split
  · exact .ite (.setOpe hk) hk
  · exact hk

theorem Keeps.commitAll {s : State} {id : CoreId} {size : Nat} {l : List Pend} (hk : Keeps s₀ s) : Keeps s₀ (commitAll s id size l) := by
  induction l generalizing s with
  | nil => exact hk
  | cons p rest ih =>
    unfold Machine.commitAll
    dsimp only
    split
    · exact ih (.passHolder (.modCore hk))
    · exact ih (.ite (.passHolder (.modCore (.coreHazard hk))) (.coreHazard hk))

theorem Keeps.keepSeed {s : State} {id : CoreId} {t : ℕ} (hk : Keeps s₀ s) : Keeps s₀ (s.keepSeed id t) := by
  unfold State.keepSeed
  dsimp only
  split
  · exact .ite hk (.setOpe hk)
  · exact .setOpe hk

theorem Keeps.opeHazards {s : State} {id : CoreId} {x : Ctx} {layer : ℕ} {hs : List (ℕ × ℕ)} (hk : Keeps s₀ s) : Keeps s₀ (opeHazards s id x layer hs)
    :=
  .foldl hk (fun _ _ hk1 => .bump (.raise (.record hk1)))

theorem Keeps.issueSweep {s : State} {id : CoreId} {x : Ctx} {raw : ℕ} {t : ℕ} {word : ℕ} (hk : Keeps s₀ s) : Keeps s₀ (issueSweep s id x raw t word)
    :=
  .bump (.setOpe (.opeHazards hk))

theorem Keeps.issueDrain {s : State} {id : CoreId} {x : Ctx} {raw : ℕ} {t : ℕ} {word : ℕ} (hk : Keeps s₀ s) : Keeps s₀ (issueDrain s id x raw t word)
    :=
  .unless (.countCycles (.bump (.setOpe (.opeHazards hk)))) (.bump (.refl _))

theorem Keeps.issueCoord {s : State} {id : CoreId} {raw : ℕ} (hk : Keeps s₀ s) : Keeps s₀ (issueCoord s id raw) := .setOpe hk

theorem Keeps.countUpdate {s : State} {id : CoreId} (hk : Keeps s₀ s) : Keeps s₀ (countUpdate s id) := .countCycles (.ite (.setOpe hk) (.bump hk))

theorem Keeps.rankUpdate {s : State} {id : CoreId} {t : ℕ} {c : Core} (hk : Keeps s₀ s) : Keeps s₀ (rankUpdate s id t c) := by
  unfold Machine.rankUpdate
  dsimp only
  split
  · exact hk
  · exact .bumpBy (.countUpdate (.setOpe hk))

theorem Keeps.drainOverflow {s : State} {id : CoreId} {d : Drain} {i : ℕ} {xs : List (ℕ × Bool)} (hk : Keeps s₀ s) : Keeps s₀ (drainOverflow s id d i
    xs) := by
  unfold Machine.drainOverflow
  split
  · exact hk
  · exact .bumpBy (.raise (.update (.unless (.ite (.setRegN (.record hk)) (.record hk)) (.setField (.refl _))) rfl rfl))

theorem Keeps.drainRowWriteAt {s : State} {id : CoreId} {t : Nat} (hk : Keeps s₀ s) : Keeps s₀ (drainRowWriteAt s id t) := by
  unfold Machine.drainRowWriteAt
  dsimp only
  split
  · exact hk
  · exact .ite (.haltCore (.bump (.drainOverflow (.bumpBy (.bumpBy (.setOpe (.modCore hk)))))))
      (.bump (.drainOverflow (.bumpBy (.bumpBy (.setOpe (.modCore hk))))))

theorem Keeps.setEntry {s : State} {t : ℕ} {e : ℕ} (hk : Keeps s₀ s) : Keeps s₀ (s.setEntry t e) := .update hk rfl rfl

theorem Keeps.setStack {s : State} {h : ℕ} {v : Stack} (hk : Keeps s₀ s) : Keeps s₀ (s.setStack h v) := .update hk rfl rfl

theorem Keeps.writePart {s : State} {a n v : Nat} (hk : Keeps s₀ s) : Keeps s₀ (s.writePart a n v) := by
  unfold State.writePart
  exact .ite (.updateMem hk rfl (Mem.wf_write _ _ _)) (.ite hk (.updateMem hk rfl (Mem.wf_write _ _ _)))

theorem Keeps.writePlace {s : State} {a n v fuel : Nat} (hk : Keeps s₀ s) : Keeps s₀ (s.writePlace a n v fuel) := by
  induction fuel generalizing s a n v with
  | zero => exact hk
  | succ fuel ih =>
    unfold State.writePlace
    exact .ite hk (ih (.writePart hk))

theorem Keeps.put {s : State} {a : ℕ} {n : ℕ} {v : ℕ} (hk : Keeps s₀ s) : Keeps s₀ (s.put a n v) := .writePlace hk

theorem Keeps.poisonLine {s : State} {a : ℕ} (hk : Keeps s₀ s) : Keeps s₀ (s.poisonLine a) := .update hk rfl rfl

theorem Keeps.putLines {s : State} {a n b : Nat} {bytes : List Host.Cell} {marks : NSet} (hk : Keeps s₀ s) :
    Keeps s₀ (s.putLines a n bytes b marks) := by
  unfold State.putLines
  exact .updateMem hk rfl (Mem.wf_copy _ _ _ _)

theorem Keeps.setSc {s : State} {id : CoreId} {n : ℕ} {v : StreamCtx} (hk : Keeps s₀ s) : Keeps s₀ (s.setSc id n v) := .modCore hk

theorem Keeps.sendSc {s : State} {id : CoreId} {n t fuel : Nat} (hk : Keeps s₀ s) : Keeps s₀ (sendSc s id n t fuel) := by
  induction fuel generalizing s with
  | zero => exact hk
  | succ fuel ih =>
    unfold Machine.sendSc
    dsimp only
    split
    · exact hk
    · exact .ite hk (ih (.ite (.bump (.setSc hk)) (.setSc hk)))

theorem Keeps.sendAll {s : State} {id : CoreId} {t : ℕ} (hk : Keeps s₀ s) : Keeps s₀ (sendAll s id t) := .foldl hk (fun _ _ hk1 => .sendSc hk1)

theorem Keeps.jgBase {s0 : State} {s : State} {id : CoreId} {x : Ctx} {raw : ℕ} (hk1 : Keeps s₀ s) : Keeps s₀ (jgBase s0 s id x raw) := .setSc hk1

theorem Keeps.jgLoop {s : State} {id : CoreId} {raw : ℕ} (hk : Keeps s₀ s) : Keeps s₀ (jgLoop s id raw) := .setSc hk

theorem Keeps.jgDest {s : State} {id : CoreId} {raw : ℕ} (hk : Keeps s₀ s) : Keeps s₀ (jgDest s id raw) := .setSc hk

theorem Keeps.jgRun {s0 : State} {s : State} {id : CoreId} {x : Ctx} {raw : ℕ} {word : ℕ} {slot : ℕ} (hk1 : Keeps s₀ s) : Keeps s₀ (jgRun s0 s id x
    raw word slot) :=
  .setSc hk1

theorem Keeps.jgSwap {s0 : State} {s : State} {id : CoreId} {raw : ℕ} {word : ℕ} {slot : ℕ} {again : Bool} (hk1 : Keeps s₀ s) : Keeps s₀ (jgSwap s0 s
    id raw word slot again) :=
  .ite (.setSc hk1) (.ite (.bump (.setSc hk1)) (.bump hk1))

theorem Keeps.setFaultOutcome {s : State} {id : CoreId} {n : ℕ} {outcome : ℕ} {timeout : Bool} (hk : Keeps s₀ s) : Keeps s₀ (setFaultOutcome s id n
    outcome timeout) :=
  .ite (.ite (.setField (.setField hk)) (.setField hk)) hk

theorem Keeps.stopSc {s0 : State} {s : State} {id : CoreId} {n : ℕ} (hk1 : Keeps s₀ s) : Keeps s₀ (stopSc s0 s id n) :=
  .ite (.setSc (.ite (.setFaultOutcome hk1) hk1)) (.ite (.setSc hk1) (.bump hk1))

theorem Keeps.stopWaiting {s : State} {id : CoreId} {x : Ctx} (hk : Keeps s₀ s) : Keeps s₀ (stopWaiting s id x) := .modCore hk

theorem Keeps.settlePorts {s : State} {id : CoreId} {t : ℕ} (hk : Keeps s₀ s) : Keeps s₀ (s.settlePorts id t) := .setCore hk

theorem Keeps.deliverTile {s : State} {id : CoreId} {n : ℕ} {t : ℕ} (hk : Keeps s₀ s) : Keeps s₀ (deliverTile s id n t) := by
  unfold Machine.deliverTile
  dsimp only
  split
  · exact .sendAll (.onlyIf (.ite (.bumpBy (.bump (.setCore hk))) (.bump (.setCore hk))) (.bump (.refl _)))
  · exact hk

theorem Keeps.takeFault {s : State} {id : CoreId} {n : ℕ} {t : ℕ} (hk : Keeps s₀ s) : Keeps s₀ (takeFault s id n t) := by
  unfold Machine.takeFault
  dsimp only
  split
  · exact .ite (.sendAll (.setSc (.bumpBy hk))) (.sendAll (.setSc (.bumpBy (.bump (.raise (.ite (.setRegN (.setRegN (.record hk))) (.record hk)))))))
  · exact hk

theorem Keeps.faultServiced {s : State} {id : CoreId} {n : ℕ} {t : ℕ} (hk : Keeps s₀ s) : Keeps s₀ (faultServiced s id n t) :=
  .sendAll (.setSc (.setFaultOutcome hk))

theorem Keeps.faultRefused {s : State} {id : CoreId} {n : ℕ} {timeout : Bool} (hk : Keeps s₀ s) : Keeps s₀ (faultRefused s id n timeout) := by
  unfold Machine.faultRefused
  dsimp only
  split
  · exact .haltCtx (.raise (.bump (.setSc (.setFaultOutcome hk))))
  · exact .raise (.bump (.setSc (.setFaultOutcome hk)))

end Sys2Proof.Machine
end

section
/-! SUPPORT. That the operations of the unified memory, training passes and numerics keep what no command changes. -/

namespace Sys2Proof.Machine

variable {s₀ : State}

theorem Keeps.trigger {s : State} {cause : ℕ} {target : ℕ} {cluster : ℕ} (hk : Keeps s₀ s) : Keeps s₀ (s.trigger cause target cluster) :=
  .update hk rfl rfl

theorem Keeps.accept {s : State} {t : ℕ} (hk : Keeps s₀ s) : Keeps s₀ (s.accept t) :=
  .ite (.trigger (.raise (.ite (.bump hk) hk))) (.ite (.bump hk) hk)

theorem Keeps.sectorsRead {s : State} {stack : ℕ} {n : ℕ} {bad : ℕ} (hk : Keeps s₀ s) : Keeps s₀ (s.sectorsRead stack n bad) :=
  .ite (.ite hk (.bumpBy hk)) (.raise (.bumpBy (.ite hk (.bumpBy hk))))

theorem Keeps.readCounted {s : State} {a : ℕ} {n : ℕ} (hk : Keeps s₀ s) : Keeps s₀ (s.readCounted a n) :=
  .ite (.bumpBy hk) (.foldl hk (fun _ _ hk1 => .sectorsRead hk1))

theorem Keeps.writeCounted {s : State} {a : ℕ} {n : ℕ} (hk : Keeps s₀ s) : Keeps s₀ (s.writeCounted a n) :=
  .ite (.bumpBy hk) (.foldl hk (fun _ _ hk1 => .ite hk1 (.sectorsRead hk1)))

theorem Keeps.applyAtomic {s : State} {x : Atomic} (hk : Keeps s₀ s) : Keeps s₀ (applyAtomic s x) := by
  have hadd {place n : Nat} :
      Keeps s₀ { s.readCounted place n with
        mem.dram := (addGrains x.fmt (s.readCounted place n).mem.dram x.bytes place 0 (x.len / grainOf x.fmt)).1 } :=
    .updateMem (.readCounted hk) rfl (addGrains_wf _ _ _ _ _)
  unfold Machine.applyAtomic
  exact .ite (.bump (.ite hadd (.setEntry (.poisonLine hadd)))) (.bumpBy (.raise (.bump (.ite hadd (.setEntry (.poisonLine hadd))))))

theorem Keeps.dropAtomic {s : State} {a : Atomic} (hk : Keeps s₀ s) : Keeps s₀ (dropAtomic s a) := .logReq (.bump (.raise hk))

theorem Keeps.settle {s : State} {t : ℕ} (hk : Keeps s₀ s) : Keeps s₀ (s.settle t) := .foldl (.update hk rfl rfl) (fun _ _ hk1 => .applyAtomic hk1)

theorem Keeps.acceptAtomic {s : State} {a : Atomic} (hk : Keeps s₀ s) : Keeps s₀ (acceptAtomic s a) := .update hk rfl rfl

theorem Keeps.beginMove {s : State} {m : Move} (hk : Keeps s₀ s) : Keeps s₀ (s.beginMove m) := .update (.setEntry (.settle hk)) rfl rfl

theorem Keeps.serveWrite {s : State} {t : ℕ} {side : Bool} {off : ℕ} {n : ℕ} {v : ℕ} {bad : Bool} (hk : Keeps s₀ s) : Keeps s₀ (serveWrite s t side
    off n v bad) :=
  .unless (.put (.writeCounted (.settle hk))) (.setEntry (.update (.refl _) rfl rfl))

theorem Keeps.serveRead {s : State} {t : ℕ} {side : Bool} {off : ℕ} {n : ℕ} (hk : Keeps s₀ s) : Keeps s₀ (serveRead s t side off n).1 := by
  unfold Machine.serveRead
  refine .pair ?_
  split
  · exact .onlyIf (.readCounted (.settle hk)) (.bump (.refl _))
  · exact .readCounted (.settle hk)

theorem Keeps.readTile {s : State} {t : ℕ} {side : Bool} (hk : Keeps s₀ s) : Keeps s₀ (readTile s t side).1 := by
  unfold Machine.readTile
  refine .ite_fst ?_ ?_
  · refine .pair ?_
    split
    · exact .onlyIf (.onlyIf (.readCounted (.settle hk)) (.readCounted (.refl _))) (.bump (.refl _))
    · exact .onlyIf (.readCounted (.settle hk)) (.readCounted (.refl _))
  · refine .pair ?_
    split
    · exact .onlyIf (.onlyIf (.readCounted (.settle hk)) (.readCounted (.refl _))) (.bump (.refl _))
    · exact .onlyIf (.readCounted (.settle hk)) (.readCounted (.refl _))

theorem Keeps.writeTile {s : State} {t : ℕ} {side : Bool} {bytes : List Host.Cell} {marks : NSet} (hk : Keeps s₀ s) : Keeps s₀ (writeTile s t side
    bytes marks) :=
  .ite (.setEntry (.onlyIf (.putLines (.writeCounted (.settle hk))) (.putLines (.writeCounted (.refl _))))) (.onlyIf (.onlyIf (.putLines
      (.writeCounted (.settle hk))) (.putLines (.writeCounted (.refl _)))) (.setEntry (.refl _)))

theorem Keeps.setStash {s : State} {c : ℕ} {v : Stash} (hk : Keeps s₀ s) : Keeps s₀ (s.setStash c v) := .update hk rfl rfl

theorem Keeps.takeFrame {s : State} {c : ℕ} {f : ℕ} {t : ℕ} (hk : Keeps s₀ s) : Keeps s₀ (s.takeFrame c f t) := .update (.bump hk) rfl rfl

theorem Keeps.freeFrame {s : State} {c : ℕ} {f : ℕ} (hk : Keeps s₀ s) : Keeps s₀ (s.freeFrame c f) := .update (.bump hk) rfl rfl

theorem Keeps.stashAccept {s : State} {c : ℕ} {d : ℕ} (hk : Keeps s₀ s) : Keeps s₀ (stashAccept s c d).1 :=
  .ite_fst (.pair (.bump hk)) (.ite_fst (.pair hk) (.ite_fst (.ite_fst (.pair hk) (.pair (.setStash (.bump (.setEntry (.takeFrame hk)))))) (.ite_fst
      (.pair hk) (.pair (.setStash (.bump (.setEntry hk)))))))

theorem Keeps.answerTile {s : State} {core : ℕ} {sc : ℕ} {seq : ℕ} {t : ℕ} {r : TileReply} (hk : Keeps s₀ s) : Keeps s₀ (answerTile s core sc seq t r)
    :=
  .update hk rfl rfl

theorem Keeps.stashFull {s : State} {c : ℕ} {core : ℕ} {x : Ctx} {depth : ℕ} (hk : Keeps s₀ s) : Keeps s₀ (stashFull s c core x depth) :=
  .raise (.record hk)

theorem Keeps.ringTold {s : State} {p : Page} {head : ℕ} {flag : ℕ} {sent : Option ℕ} {refused : ℕ} {ok : Bool} (hk : Keeps s₀ s) : Keeps s₀ (ringTold
    s p head flag sent refused ok) := by
  unfold Machine.ringTold
  refine .ite ?_ (.bump (.raise (.setRegN hk)))
  split
  · exact .bump (.setRegN hk)
  · exact .setRegN hk

theorem Keeps.sendCommit {s : State} {c : Commit} (hk : Keeps s₀ s) : Keeps s₀ (sendCommit s c) := .update hk rfl rfl

theorem Keeps.homed {s : State} {t : Tag} {ok : Bool} (hk : Keeps s₀ s) : Keeps s₀ (homed s t ok) := by
  unfold Machine.homed
  dsimp only
  split
  · exact hk
  · refine .ite (.update hk rfl rfl) ?_
    refine .ite (.onlyIf (.update (.ite (.update (.update hk rfl rfl) rfl rfl) (.update hk rfl rfl)) rfl rfl) (.bump (.refl _))) ?_
    refine .sendCommit ?_
    split
    · exact .ite (.update (.update hk rfl rfl) rfl rfl) (.update hk rfl rfl)
    · exact .bump (.bump (.ite (.update (.update hk rfl rfl) rfl rfl) (.update hk rfl rfl)))

theorem Keeps.told {s : State} {who : Option Origin} {addr : ℕ} {len : ℕ} {ok : Bool} (hk : Keeps s₀ s) : Keeps s₀ (told s who addr len ok) := by
  unfold Machine.told
  split
  · exact .update hk rfl rfl
  · exact .ringTold hk
  · exact .ringTold hk
  · exact hk
  · exact .homed hk
  · exact hk

theorem Keeps.stashServe {s : State} {c : ℕ} {r : StashReq} (hk : Keeps s₀ s) : Keeps s₀ (stashServe s c r).1 := by
  unfold Machine.stashServe
  split
  · exact .pair hk
  · exact .pair hk
  · exact .pair hk
  · exact .pair (.answerTile (Keeps.of_fst (.stashAccept hk) ‹_›))
  · exact .pair (.answerTile (Keeps.of_fst (.stashAccept hk) ‹_›))
  · exact .pair (.stashFull (Keeps.of_fst (.stashAccept hk) ‹_›))
  · exact .pair (.told (Keeps.of_fst (.stashAccept hk) ‹_›))
  · exact .pair (.answerTile (.writeTile (Keeps.of_fst (.stashAccept hk) ‹_›)))
  · exact .pair (.told (.serveWrite (Keeps.of_fst (.stashAccept hk) ‹_›)))

theorem Keeps.answerLoad {s : State} {core : ℕ} {x : Ctx} {ans : LoadAns} (hk : Keeps s₀ s) : Keeps s₀ (answerLoad s core x ans) := .update hk rfl rfl

theorem Keeps.readHome {s : State} {t : ℕ} {addr : ℕ} {len : ℕ} (hk : Keeps s₀ s) : Keeps s₀ (readHome s t addr len).1 := by
  unfold Machine.readHome
  split
  · exact .ite_fst (.serveRead hk) (.pair hk)
  · exact .pair hk

theorem Keeps.performHeld {s : State} {h : Held} (hk : Keeps s₀ s) : Keeps s₀ (performHeld s h).1 := by
  unfold Machine.performHeld
  split
  · split
    · exact .stashServe hk
    · exact .pair hk
  · refine .ite_fst (.pair hk) ?_
    split
    · exact .ite_fst (.pair (.told (.serveWrite hk))) (.pair (.told hk))
    · exact .pair hk
  · exact .ite_fst (.pair (.dropAtomic hk)) (.ite_fst (.pair hk) (.ite_fst (.pair (.beginMove hk)) (.pair (.acceptAtomic hk))))
  · exact .ite_fst (.pair (.update (.dropAtomic hk) rfl rfl)) (.ite_fst (.pair hk) (.ite_fst (.pair (.beginMove hk)) (.pair (.update (.applyAtomic
      (.settle hk)) rfl rfl))))
  · refine .ite_fst (.pair hk) ?_
    split
    · exact .pair (.answerLoad (.readHome hk))
    · exact .pair hk
  · exact .ite_fst (.pair hk) (.pair (.update (.readHome hk) rfl rfl))
  · split
    · exact .pair (.answerTile hk)
    · exact .pair (.answerTile (.readTile hk))

theorem Keeps.hold {s : State} {h : Held} (hk : Keeps s₀ s) : Keeps s₀ (s.hold h) := by
  unfold State.hold
  split
  next t x e =>
    have ht : Keeps s₀ t := by
      refine .of_fst ?_ e
      split
      · split
        · exact hk
        · exact .told hk
      · exact hk
    exact .ite (.bump (.update ht rfl rfl)) (.ite (.bump (.update ht rfl rfl)) (.update ht rfl rfl))

theorem Keeps.arrive {s : State} {h : Held} (hk : Keeps s₀ s) : Keeps s₀ (arrive s h) := by
  unfold Machine.arrive
  refine .ite (.update hk rfl rfl) ?_
  refine .ite (.hold (.accept hk)) ?_
  split
  · exact Keeps.of_fst (.performHeld (.accept hk)) ‹_›
  · exact .hold (Keeps.of_fst (.performHeld (.accept hk)) ‹_›)

theorem Keeps.serveHeld {s : State} {l keep : List Held} (hk : Keeps s₀ s) : Keeps s₀ (serveHeld s l keep) := by
  induction l generalizing s keep with
  | nil => exact .update hk rfl rfl
  | cons h rest ih =>
    unfold Machine.serveHeld
    refine .ite (ih hk) ?_
    split
    · exact ih (.of_fst (.performHeld hk) ‹_›)
    · exact ih (.of_fst (.performHeld hk) ‹_›)

theorem Keeps.wakeAgent {s : State} {g : ℕ} (hk : Keeps s₀ s) : Keeps s₀ (wakeAgent s g) :=
  .foldl (.update (.serveHeld (.update hk rfl rfl)) rfl rfl) (fun _ _ hk1 => .arrive hk1)

theorem Keeps.takeAtomic {s : State} {a : Atomic} (hk : Keeps s₀ s) : Keeps s₀ (takeAtomic s a) := .arrive hk

theorem Keeps.storeAtomic {s : State} {a : Atomic} (hk : Keeps s₀ s) : Keeps s₀ (storeAtomic s a) :=
  .ite (.dropAtomic hk) (.foldl hk (fun _ _ hk1 => .takeAtomic hk1))

theorem Keeps.atomicStore {s : State} (hk : Keeps s₀ s) : Keeps s₀ (atomicStore s) := by
  unfold Machine.atomicStore
  split
  · exact hk
  · exact .storeAtomic (.update hk rfl rfl)

theorem Keeps.atomicApply {s : State} {stack : ℕ} (hk : Keeps s₀ s) : Keeps s₀ (atomicApply s stack) := by
  unfold Machine.atomicApply
  dsimp only
  split
  · exact hk
  · exact .applyAtomic (.update hk rfl rfl)

theorem Keeps.stashStore {s : State} {c : ℕ} (hk : Keeps s₀ s) : Keeps s₀ (stashStore s c) := by
  unfold Machine.stashStore
  dsimp only
  split
  · exact hk
  · exact .ite hk (.arrive (.setStash hk))

theorem Keeps.stashSpill {s : State} {c : ℕ} (hk : Keeps s₀ s) : Keeps s₀ (stashSpill s c) := by
  unfold Machine.stashSpill
  refine .ite hk ?_
  split
  · exact .ite (.beginMove hk) hk
  · exact hk

theorem Keeps.stashFill {s : State} {c : ℕ} (hk : Keeps s₀ s) : Keeps s₀ (stashFill s c) := by
  unfold Machine.stashFill
  refine .ite hk ?_
  split
  · exact .ite hk (.beginMove (.takeFrame hk))
  · exact hk

theorem Keeps.cancelMove {s : State} {m : Move} (hk : Keeps s₀ s) : Keeps s₀ (cancelMove s m) :=
  .wakeAgent (.onlyIf (.setEntry (.update hk rfl rfl)) (.freeFrame (.refl _)))

theorem Keeps.releaseDepth {s : State} {c : ℕ} {d : ℕ} (hk : Keeps s₀ s) : Keeps s₀ (releaseDepth s c d) := by
  unfold Machine.releaseDepth
  refine .bump ?_
  refine .setEntry ?_
  refine .onlyIf ?_ (.freeFrame (.refl _))
  split
  · exact .ite (.freeFrame (.update hk rfl rfl)) (.update hk rfl rfl)
  · exact hk

theorem Keeps.stashRelease {s : State} {c : ℕ} {r : ℕ} (hk : Keeps s₀ s) : Keeps s₀ (stashRelease s c r) :=
  .wakeAgent (.setStash (.foldl hk (fun _ _ hk1 => .releaseDepth hk1)))

theorem Keeps.stkReleaseWrite {s : State} {c : ℕ} {v : ℕ} (hk : Keeps s₀ s) : Keeps s₀ (stkReleaseWrite s c v).1 :=
  .ite_fst (.pair (.stashRelease hk)) (.pair hk)

theorem Keeps.stkCfgWrite {s : State} {c : ℕ} {base : Bool} {v : ℕ} (hk : Keeps s₀ s) : Keeps s₀ (stkCfgWrite s c base v).1 :=
  .ite_fst (.ite_fst (.pair (.setRegN hk)) (.pair hk)) (.ite_fst (.pair (.setRegN hk)) (.pair hk))

theorem Keeps.giveBack {s : State} {t : ℕ} (hk : Keeps s₀ s) : Keeps s₀ (giveBack s t) := .setEntry hk

theorem Keeps.hbmTilesWrite {s : State} {c : ℕ} {v : ℕ} (hk : Keeps s₀ s) : Keeps s₀ (hbmTilesWrite s c v).1 :=
  .ite_fst (.ite_fst (.pair (.setRegN hk)) (.pair hk)) (.ite_fst (.pair (.setRegN (.setStash (.foldl hk (fun _ _ hk1 => .giveBack hk1))))) (.pair hk))

theorem Keeps.stashTakeAway {s : State} {c : ℕ} (hk : Keeps s₀ s) : Keeps s₀ (stashTakeAway s c) :=
  .ite (.wakeAgent (.setStash (.setEntry (.ite (.freeFrame (.settle (.accept hk))) (.settle (.accept hk)))))) hk

theorem Keeps.setMover {s : State} {c : ℕ} {v : Mover} (hk : Keeps s₀ s) : Keeps s₀ (s.setMover c v) := .update hk rfl rfl

theorem Keeps.jgMove {s : State} {id : CoreId} {x : Ctx} {raw : ℕ} (hk : Keeps s₀ s) : Keeps s₀ (jgMove s id x raw) := .setMover hk

theorem Keeps.sendFlagAdd {s : State} {core : ℕ} {x : Ctx} {f : ℕ} (hk : Keeps s₀ s) : Keeps s₀ (sendFlagAdd s core x f) := .update hk rfl rfl

theorem Keeps.finishMoves {s : State} {c : ℕ} (hk : Keeps s₀ s) : Keeps s₀ (finishMoves s c) :=
  .foldl (.setMover hk) (fun _ _ hk1 => .sendFlagAdd hk1)

theorem Keeps.recordDecline {s : State} {c : ℕ} {r : MoveReq} {code : ℕ} (hk : Keeps s₀ s) : Keeps s₀ (recordDecline s c r code) :=
  .bump (.raise (.ite (.setRegN (.setRegN (.record hk))) (.record hk)))

theorem Keeps.moveTileRequest {s : State} {c : ℕ} (hk : Keeps s₀ s) : Keeps s₀ (moveTileRequest s c) := by
  unfold Machine.moveTileRequest
  dsimp only
  split
  · exact hk
  · refine .ite hk ?_
    refine .finishMoves ?_
    split
    · exact .beginMove (.onlyIf (.setMover (.ite (.accept hk) hk)) (.takeFrame (.refl _)))
    · exact .bump (.setMover (.ite (.accept hk) hk))
    · exact .recordDecline (.setMover (.ite (.accept hk) hk))

theorem Keeps.copyLines {s : State} {x : ℕ} {y : ℕ} {n : ℕ} (hk : Keeps s₀ s) : Keeps s₀ (copyLines s x y n) :=
  .putLines (.writeCounted (.readCounted hk))

theorem Keeps.moveGrant {s : State} {t : ℕ} (hk : Keeps s₀ s) : Keeps s₀ (moveGrant s t) := by
  unfold Machine.moveGrant
  split
  · exact hk
  · exact .update (.copyLines (.copyLines (.settle hk))) rfl rfl

theorem Keeps.answerFaults {s : State} {t : ℕ} {kind : ℕ} {ok : Bool} (hk : Keeps s₀ s) : Keeps s₀ (answerFaults s t kind ok) :=
  .foldl hk (fun _ _ hk1 => .foldl hk1 (fun _ _ hk2 => .ite (.onlyIf (.bump (.update hk2 rfl rfl)) (.bump (.refl _))) hk2))

theorem Keeps.useSpare {s : State} {k : ℕ} (hk : Keeps s₀ s) : Keeps s₀ (useSpare s k) := .ite (.raise (.update hk rfl rfl)) (.update hk rfl rfl)

theorem Keeps.startReloc {s : State} {stack fuel : Nat} (hk : Keeps s₀ s) : Keeps s₀ (startReloc s stack fuel) := by
  induction fuel generalizing s with
  | zero => exact hk
  | succ fuel ih =>
    unfold Machine.startReloc
    dsimp only
    split
    · exact hk
    · refine .ite hk (.ite (ih (.setStack hk)) ?_)
      split
      · exact ih (.answerFaults (.bump (.update (.raise (.setStack hk)) rfl rfl)))
      · refine .ite (.beginMove (.useSpare (.setStack hk))) ?_
        split
        · exact .update (.copyLines (.copyLines (.setEntry (.setEntry (.useSpare (.setStack hk)))))) rfl rfl
        · exact ih (.answerFaults (.setEntry (.useSpare (.setStack hk))))

theorem Keeps.relocate {s : State} {stack : ℕ} (hk : Keeps s₀ s) : Keeps s₀ (relocate s stack) := .startReloc hk

theorem Keeps.moveCommit {s : State} {t : ℕ} (hk : Keeps s₀ s) : Keeps s₀ (moveCommit s t) := by
  unfold Machine.moveCommit
  dsimp only
  split
  · exact hk
  · split
    · refine .relocate ?_
      refine .wakeAgent ?_
      split
      · refine .answerFaults ?_
        refine .answerFaults ?_
        split
        · exact .finishMoves (.setMover (.bump (.onlyIf (.setEntry (.ite (.freeFrame (.update hk rfl rfl)) (.update hk rfl rfl))) (.bump (.refl _)))))
        · exact .bump (.onlyIf (.setEntry (.ite (.freeFrame (.update hk rfl rfl)) (.update hk rfl rfl))) (.bump (.refl _)))
        · exact .onlyIf (.setEntry (.ite (.freeFrame (.update hk rfl rfl)) (.update hk rfl rfl))) (.bump (.refl _))
      · refine .answerFaults ?_
        split
        · exact .finishMoves (.setMover (.bump (.onlyIf (.setEntry (.ite (.freeFrame (.update hk rfl rfl)) (.update hk rfl rfl))) (.bump (.refl _)))))
        · exact .bump (.onlyIf (.setEntry (.ite (.freeFrame (.update hk rfl rfl)) (.update hk rfl rfl))) (.bump (.refl _)))
        · exact .onlyIf (.setEntry (.ite (.freeFrame (.update hk rfl rfl)) (.update hk rfl rfl))) (.bump (.refl _))
    · refine .relocate ?_
      refine .wakeAgent ?_
      split
      · refine .answerFaults ?_
        refine .answerFaults ?_
        split
        · exact .finishMoves (.setMover (.bump (.onlyIf (.setEntry (.ite (.freeFrame (.update hk rfl rfl)) (.update hk rfl rfl))) (.bump (.refl _)))))
        · exact .bump (.onlyIf (.setEntry (.ite (.freeFrame (.update hk rfl rfl)) (.update hk rfl rfl))) (.bump (.refl _)))
        · exact .onlyIf (.setEntry (.ite (.freeFrame (.update hk rfl rfl)) (.update hk rfl rfl))) (.bump (.refl _))
      · refine .answerFaults ?_
        split
        · exact .finishMoves (.setMover (.bump (.onlyIf (.setEntry (.ite (.freeFrame (.update hk rfl rfl)) (.update hk rfl rfl))) (.bump (.refl _)))))
        · exact .bump (.onlyIf (.setEntry (.ite (.freeFrame (.update hk rfl rfl)) (.update hk rfl rfl))) (.bump (.refl _)))
        · exact .onlyIf (.setEntry (.ite (.freeFrame (.update hk rfl rfl)) (.update hk rfl rfl))) (.bump (.refl _))
    · refine .relocate ?_
      refine .wakeAgent ?_
      split
      · refine .answerFaults ?_
        refine .answerFaults ?_
        split
        · exact .finishMoves (.setMover (.bump (.onlyIf (.setEntry (.ite (.freeFrame (.update hk rfl rfl)) (.update hk rfl rfl))) (.bump (.refl _)))))
        · exact .bump (.onlyIf (.setEntry (.ite (.freeFrame (.update hk rfl rfl)) (.update hk rfl rfl))) (.bump (.refl _)))
        · exact .onlyIf (.setEntry (.ite (.freeFrame (.update hk rfl rfl)) (.update hk rfl rfl))) (.bump (.refl _))
      · refine .answerFaults ?_
        split
        · exact .finishMoves (.setMover (.bump (.onlyIf (.setEntry (.ite (.freeFrame (.update hk rfl rfl)) (.update hk rfl rfl))) (.bump (.refl _)))))
        · exact .bump (.onlyIf (.setEntry (.ite (.freeFrame (.update hk rfl rfl)) (.update hk rfl rfl))) (.bump (.refl _)))
        · exact .onlyIf (.setEntry (.ite (.freeFrame (.update hk rfl rfl)) (.update hk rfl rfl))) (.bump (.refl _))

theorem Keeps.retireNotice {s : State} {stack : ℕ} (hk : Keeps s₀ s) : Keeps s₀ (retireNotice s stack) := by
  unfold Machine.retireNotice
  dsimp only
  split
  · exact hk
  · exact .ite hk (.relocate (.accept (.setStack hk)))

theorem Keeps.askMover {s : State} {id : CoreId} {n : ℕ} (hk : Keeps s₀ s) : Keeps s₀ (askMover s id n) := by
  unfold Machine.askMover
  refine .ite hk ?_
  split
  · exact hk
  · exact .ite (.bump (.setSc hk)) (.ite (.bump (.setSc hk)) hk)
  · exact .bump (.setSc hk)

theorem Keeps.movingFaultEnquiry {s : State} {id : CoreId} {n : ℕ} (hk : Keeps s₀ s) : Keeps s₀ (movingFaultEnquiry s id n) :=
  .ite (.ite (.bump (.bump (.setSc hk))) (.bump (.setSc hk))) hk

theorem Keeps.logSystem {s : State} {who : Requester} {write : Bool} {a : ℕ} (hk : Keeps s₀ s) : Keeps s₀ (logSystem s who write a) := .logReq hk

theorem Keeps.logSystemUnit {s : State} {part : Option ℕ} {cluster : ℕ} {write : Bool} {a : ℕ} (hk : Keeps s₀ s) : Keeps s₀ (logSystemUnit s part
    cluster write a) :=
  .logWord hk

theorem Keeps.logUnreached {s : State} {key : UnitKey} {part : Option Nat} {write : Bool} {a n : Nat} (hk : Keeps s₀ s) :
    Keeps s₀ (logUnreached s key part write a n) := by
  have hlog {c : Nat} {o : Option (Nat × Nat × Nat)} :
      Keeps s₀ (match o with | some p => Machine.logSystemUnit s part c write p.1 | none => s) := by
    split
    · exact .logSystemUnit hk
    · exact hk
  unfold Machine.logUnreached
  dsimp only
  split
  · exact hk
  · exact hlog
  · exact hlog

theorem Keeps.submit {s : State} {key : UnitKey} {a n : Nat} {op : HeldOp} (hk : Keeps s₀ s) : Keeps s₀ (submit s key a n op) := by
  unfold Machine.submit
  split
  · refine .ite hk ?_
    split
    · exact .arrive hk
    · exact .arrive hk
  · exact hk

theorem Keeps.takeOutcome {s t : State} {key : UnitKey} {a n : Nat} {x : LoadAns} (hk : Keeps s₀ s)
    (e : takeOutcome s key a n = some (t, x)) : Keeps s₀ t := by
  unfold Machine.takeOutcome at e
  dsimp only at e
  split at e
  · cases e; exact .update hk rfl rfl
  · cases e

theorem Keeps.askFor {s : State} {key : UnitKey} {part : Option ℕ} {a : ℕ} {n : ℕ} (hk : Keeps s₀ s) : Keeps s₀ (s.askFor key part a n) :=
  .ite hk (.foldl hk (fun _ _ hk1 => .submit hk1))

theorem Keeps.unitRead {s : State} {key : UnitKey} {part : Option ℕ} {a : ℕ} {n : ℕ} (hk : Keeps s₀ s) : Keeps s₀ (unitRead s key part a n).1 := by
  unfold Machine.unitRead
  dsimp only
  refine .ite_fst (.pair (.logUnreached hk)) ?_
  split
  · exact .pair (Keeps.takeOutcome (.askFor hk) ‹_›)
  · exact .pair (.askFor hk)

theorem Keeps.unitWriteDone {s : State} {key : UnitKey} {part : Option ℕ} {a : ℕ} {n : ℕ} {v : ℕ} (hk : Keeps s₀ s) : Keeps s₀ (unitWriteDone s key
    part a n v).1 := by
  unfold Machine.unitWriteDone
  dsimp only
  refine .ite_fst (.pair (.logUnreached hk)) ?_
  split
  · exact .pair (Keeps.takeOutcome (.foldl hk (fun _ _ hk1 => .submit hk1)) ‹_›)
  · exact .pair (.foldl hk (fun _ _ hk1 => .submit hk1))

theorem Keeps.unitPost {s : State} {key : UnitKey} {part : Option ℕ} {a : ℕ} {n : ℕ} {v : ℕ} {bad : Bool} {who : Option Origin} (hk : Keeps s₀ s) :
    Keeps s₀ (unitPost s key part a n v bad who) := by
  unfold Machine.unitPost
  refine .foldl (.ite hk (.logUnreached hk)) (fun _ _ hk1 => ?_)
  split
  · refine .ite (.told hk1) ?_
    split <;> exact .arrive hk1
  · exact .told hk1

theorem Keeps.unitWrite {s : State} {key : UnitKey} {part : Option ℕ} {a : ℕ} {n : ℕ} {v : ℕ} {bad : Bool} (hk : Keeps s₀ s) : Keeps s₀ (unitWrite s
    key part a n v bad).1 :=
  .ite_fst (.pair hk) (.pair (.unitPost hk))

theorem Keeps.postedWrite {s : State} {part : Option ℕ} {cluster : ℕ} {who : Origin} {a : ℕ} {n : ℕ} {v : ℕ} (hk : Keeps s₀ s) : Keeps s₀ (postedWrite
    s part cluster who a n v) := by
  unfold Machine.postedWrite
  split
  · refine .ite (.told hk) ?_
    split
    · exact .setStash hk
    · exact .arrive hk
  · exact .told (.logSystemUnit hk)
  · exact .told hk

theorem Keeps.dropUnit {s : State} {key : UnitKey} (hk : Keeps s₀ s) : Keeps s₀ (s.dropUnit key) := .update hk rfl rfl

theorem Keeps.dirPeek {s : State} {stack : ℕ} (hk : Keeps s₀ s) : Keeps s₀ (dirPeek s stack).1 :=
  .ite_fst (.pair (.setRegN (.setRegN hk))) (.pair (.setRegN (.setRegN hk)))

theorem Keeps.setStepEntry {s : State} {l : ℕ} {e : ℕ} (hk : Keeps s₀ s) : Keeps s₀ (s.setStepEntry l e) := .update hk rfl rfl

theorem Keeps.admitTag {s : State} {tag : ℕ} {l : ℕ} {i : ℕ} (hk : Keeps s₀ s) : Keeps s₀ (admitTag s tag l i).1 :=
  .ite_fst (.pair (.update (.bump hk) rfl rfl)) (.ite_fst (.pair (.raise (.setStepEntry (.raise (.ite (.setRegN (.record (.bump hk))) (.record (.bump
      hk))))))) (.pair (.raise (.ite (.setRegN (.record (.bump hk))) (.record (.bump hk))))))

theorem Keeps.sliceCommit {s : State} (hk : Keeps s₀ s) : Keeps s₀ (sliceCommit s) := by
  unfold Machine.sliceCommit
  split
  · exact hk
  · exact .ite (.update (.setStepEntry (.update hk rfl rfl)) rfl rfl) (.setStepEntry (.update hk rfl rfl))

theorem Keeps.releaseEvent {s : State} {l : ℕ} (hk : Keeps s₀ s) : Keeps s₀ (releaseEvent s l) :=
  .ite hk (.ite (.ite (.bump (.raise (.setStepEntry (.bump hk)))) (.setStepEntry (.bump hk))) (.setStepEntry (.bump hk)))

theorem Keeps.frontierAdvance {s : State} (hk : Keeps s₀ s) : Keeps s₀ (frontierAdvance s) := by
  unfold Machine.frontierAdvance
  dsimp only
  exact .ite hk (.ite hk (.update (.setRegN (.setRegN hk)) rfl rfl))

theorem Keeps.frontierFlagSend {s : State} (hk : Keeps s₀ s) : Keeps s₀ (frontierFlagSend s) := by
  unfold Machine.frontierFlagSend
  split
  · exact hk
  · exact .update (.update hk rfl rfl) rfl rfl

theorem Keeps.stepCfgWrite {s : State} {v : ℕ} (hk : Keeps s₀ s) : Keeps s₀ (stepCfgWrite s v).1 :=
  .ite_fst (.pair (.setRegN hk)) (.ite_fst (.pair (.setRegN hk)) (.pair (.setRegN hk)))

theorem Keeps.stepLdataWrite {s : State} {v : ℕ} (hk : Keeps s₀ s) : Keeps s₀ (stepLdataWrite s v).1 :=
  .ite_fst (.pair hk) (.pair (.update (.setRegN (.setStepEntry hk)) rfl rfl))

theorem Keeps.stepLdataRead {s : State} (hk : Keeps s₀ s) : Keeps s₀ (stepLdataRead s).1 := .pair (.update hk rfl rfl)

theorem Keeps.replayStarts {s : State} {id : CoreId} {x : Ctx} {r : ℕ} (hk : Keeps s₀ s) : Keeps s₀ (replayStarts s id x r) := .ite (.bump hk) hk

theorem Keeps.ledgerRecord {s : State} {id : CoreId} {x : Ctx} {access : Bool} {replayed : Bool} {unmatched : Bool} {layer : ℕ} {tick : ℕ} {cycle : ℕ}
    {ticks : ℕ} {cycles : ℕ} (hk : Keeps s₀ s) : Keeps s₀ (ledgerRecord s id x access replayed unmatched layer tick cycle ticks cycles) :=
  .ite hk (.postedWrite (.ite (.bump hk) hk))

theorem Keeps.closePhase {s : State} {id : CoreId} {x : Ctx} {access : Bool} {replaying : Bool} {unmatched : Bool} {t : ℕ} (hk : Keeps s₀ s) : Keeps
    s₀ (closePhase s id x access replaying unmatched t) := by
  unfold Machine.closePhase
  split
  · exact hk
  · exact .modCore (.ledgerRecord hk)

theorem Keeps.openPhase {s : State} {id : CoreId} {x : Ctx} {access : Bool} {replaying : Bool} {layer : ℕ} {t : ℕ} (hk : Keeps s₀ s) : Keeps s₀
    (openPhase s id x access replaying layer t) := by
  unfold Machine.openPhase
  exact .modCore (.closePhase hk)

theorem Keeps.endPhase {s : State} {id : CoreId} {x : Ctx} {access : Bool} {replaying : Bool} {layer : ℕ} {t : ℕ} (hk : Keeps s₀ s) : Keeps s₀
    (endPhase s id x access replaying layer t) := by
  unfold Machine.endPhase
  split
  · exact .ledgerRecord hk
  · exact .closePhase hk

theorem Keeps.numLog {s : State} {c : ℕ} {kind : ℕ} {core : ℕ} {x : Ctx} {layer : ℕ} {tile : ℕ} {count : ℕ} {at_ : ℕ} {ulps : ℕ} (hk : Keeps s₀ s) :
    Keeps s₀ (numLog s c kind core x layer tile count at_ ulps) :=
  .ite hk (.postedWrite hk)

theorem Keeps.setMirror {s : State} {id : CoreId} {m : MirrorSample} (hk : Keeps s₀ s) : Keeps s₀ (s.setMirror id m) := .update hk rfl rfl

theorem Keeps.abandonMirror {s : State} {id : CoreId} {sel : ℕ} (hk : Keeps s₀ s) : Keeps s₀ (abandonMirror s id sel) := by
  unfold Machine.abandonMirror
  split
  · exact hk
  · exact .bump (.raise (.update hk rfl rfl))

theorem Keeps.abandonMirrors {s : State} (hk : Keeps s₀ s) : Keeps s₀ (abandonMirrors s) := .foldl hk (fun _ _ hk1 => .abandonMirror hk1)

theorem Keeps.mirrorRankUpdate {s : State} {id : CoreId} {t : ℕ} {upset : List (ℕ × ℕ)} (hk : Keeps s₀ s) : Keeps s₀ (mirrorRankUpdate s id t upset)
    := by
  unfold Machine.mirrorRankUpdate
  dsimp only
  split
  · exact hk
  · split
    · exact .abandonMirror hk
    · exact hk
    · exact .ite hk (.bump (.setMirror hk))

theorem Keeps.reportUnit {s : State} {unit : ℕ} {kind : ℕ} {locus : ℕ} (hk : Keeps s₀ s) : Keeps s₀ (reportUnit s unit kind locus) :=
  .update hk rfl rfl

theorem Keeps.haltAllCore {s : State} {id : CoreId} (hk : Keeps s₀ s) : Keeps s₀ (haltAllCore s id) := .haltCore hk

theorem Keeps.mirrorMismatch {s : State} {src : CoreId} {m : MirrorSample} {row : ℕ} (hk : Keeps s₀ s) : Keeps s₀ (mirrorMismatch s src m row) :=
  .onlyIf (.reportUnit (.reportUnit (.numLog (.bump (.raise (.ite (.setRegN (.record hk)) (.record hk))))))) (.haltAllCore (.refl _))

theorem Keeps.mirrorCompare {s : State} {src : CoreId} (hk : Keeps s₀ s) : Keeps s₀ (mirrorCompare s src) := by
  unfold Machine.mirrorCompare
  split
  · exact hk
  · refine .ite (.abandonMirror hk) ?_
    refine .ite hk ?_
    split
    · exact .bump (.update hk rfl rfl)
    · exact .mirrorMismatch (.update hk rfl rfl)

theorem Keeps.sampleTimeout {s : State} {src : CoreId} (hk : Keeps s₀ s) : Keeps s₀ (sampleTimeout s src) := by
  unfold Machine.sampleTimeout
  split
  · exact hk
  · split
    · exact hk
    · exact .ite (.abandonMirror hk) hk

theorem Keeps.setLoupes {s : State} {id : CoreId} {l : List LoupeSample} (hk : Keeps s₀ s) : Keeps s₀ (s.setLoupes id l) := .update hk rfl rfl

theorem Keeps.abandonLoupes {s : State} {id : CoreId} {p : LoupeSample → Bool} (hk : Keeps s₀ s) : Keeps s₀ (abandonLoupes s id p) :=
  .ite hk (.bumpBy (.raise (.setLoupes hk)))

theorem Keeps.loupeCompare {s : State} {id : CoreId} (hk : Keeps s₀ s) : Keeps s₀ (loupeCompare s id) := by
  unfold Machine.loupeCompare
  dsimp only
  split
  · exact hk
  · split
    · exact hk
    · refine .ite hk ?_
      split
      · exact .bump (.update (.setLoupes hk) rfl rfl)
      · exact .update (.bump (.raise (.onlyIf (.record (.update (.setLoupes hk) rfl rfl)) (.setRegN (.refl _))))) rfl rfl

theorem Keeps.abandonBank {s : State} {id : CoreId} {back : Bool} {undrained : Bool} (hk : Keeps s₀ s) : Keeps s₀ (abandonBank s id back undrained) :=
    by
  unfold Machine.abandonBank
  refine .abandonLoupes ?_
  split
  · exact .ite (.abandonMirror hk) hk
  · exact hk

theorem Keeps.abandonHazards {s : State} {id : CoreId} {hs : List (ℕ × ℕ)} (hk : Keeps s₀ s) : Keeps s₀ (abandonHazards s id hs) :=
  .foldl hk (fun _ _ hk1 => .ite (.abandonBank hk1) hk1)

theorem Keeps.chooseMirror {s : State} {id : CoreId} {sw : Sweep} (hk : Keeps s₀ s) : Keeps s₀ (chooseMirror s id sw) := by
  unfold Machine.chooseMirror
  refine .ite ?_ hk
  split
  · exact .bump hk
  · exact .bump (.setMirror hk)

theorem Keeps.chooseLoupe {s : State} {id : CoreId} {sw : Sweep} (hk : Keeps s₀ s) : Keeps s₀ (chooseLoupe s id sw) := .ite (.bump (.setLoupes hk)) hk

theorem Keeps.sweepIssue {s : State} {id : CoreId} {x : Ctx} {raw : ℕ} {t : ℕ} {word : ℕ} (hk : Keeps s₀ s) : Keeps s₀ (sweepIssue s id x raw t word)
    := by
  unfold Machine.sweepIssue
  refine .abandonHazards ?_
  refine .ite (.chooseLoupe (.chooseMirror (.onlyIf (.ite (.abandonBank (.issueSweep hk)) (.issueSweep hk)) (.abandonBank (.refl _))))) ?_
  split
  · exact .ite (.abandonMirror (.issueSweep hk)) (.issueSweep hk)
  · exact .issueSweep hk

theorem Keeps.drainIssue {s : State} {id : CoreId} {x : Ctx} {raw : ℕ} {t : ℕ} {word : ℕ} (hk : Keeps s₀ s) : Keeps s₀ (drainIssue s id x raw t word)
    := by
  unfold Machine.drainIssue
  refine .abandonHazards ?_
  refine .setLoupes ?_
  split
  · exact .ite (.setMirror (.issueDrain hk)) (.issueDrain hk)
  · exact .issueDrain hk

theorem Keeps.copyMirror {s : State} {id : CoreId} {sw : Sweep} {poison : Bool} {c : Core} (hk : Keeps s₀ s) : Keeps s₀ (copyMirror s id sw poison c)
    := by
  unfold Machine.copyMirror
  split
  · exact hk
  · exact .ite hk (.ite (.abandonMirror hk) (.ite (.abandonMirror hk) (.ite (.abandonMirror hk) (.setMirror hk))))

theorem Keeps.copyLoupes {s : State} {id : CoreId} {sw : Sweep} {poison : Bool} {st : Core} (hk : Keeps s₀ s) : Keeps s₀ (copyLoupes s id sw poison
    st) :=
  .ite hk (.ite (.abandonLoupes hk) (.ite (.abandonLoupes (.draw hk)) (.setLoupes (.update (.draw hk) rfl rfl))))

theorem Keeps.rankUpdateStep {s : State} {id : CoreId} {t : ℕ} (hk : Keeps s₀ s) : Keeps s₀ (rankUpdateStep s id t) := by
  unfold Machine.rankUpdateStep
  split
  · exact hk
  · exact .rankUpdate (.copyLoupes (.copyMirror hk))

theorem Keeps.drainRowStep {s : State} {id : CoreId} {t : ℕ} (hk : Keeps s₀ s) : Keeps s₀ (drainRowStep s id t) := by
  unfold Machine.drainRowStep
  split
  · exact hk
  · refine .drainRowWriteAt ?_
    refine .unless ?_ (.setLoupes (.refl _))
    split
    · exact .ite (.setMirror (.settlePorts hk)) (.settlePorts hk)
    · exact .settlePorts hk

theorem Keeps.numericsTrigger {s : State} (hk : Keeps s₀ s) : Keeps s₀ (numericsTrigger s) := by
  unfold Machine.numericsTrigger
  split
  · exact hk
  · exact .ite (.bump (.raise (.numLog (.numLog (.update hk rfl rfl))))) (.onlyIf (.numLog (.update hk rfl rfl)) (.modCore (.refl _)))

theorem Keeps.repeatLimit {s : State} {id : CoreId} {x : Ctx} {layer : ℕ} (hk : Keeps s₀ s) : Keeps s₀ (repeatLimit s id x layer) :=
  .bump (.raise (.numLog (.modCore hk)))

theorem Keeps.repeatTaken {s : State} {id : CoreId} {x : Ctx} {access : Bool} {layer : ℕ} (hk : Keeps s₀ s) : Keeps s₀ (repeatTaken s id x access
    layer) :=
  .ite (.modCore hk) (.bump (.raise (.numLog (.modCore (.modCore hk)))))

theorem Keeps.retireUnits {s : State} {mine : LedgerRec → Bool} (hk : Keeps s₀ s) : Keeps s₀ (retireUnits s mine) :=
  .foldl hk (fun _ _ hk1 => .ite (.update hk1 rfl rfl) hk1)

theorem Keeps.unitPermanent {s : State} {unit : ℕ} {index : ℕ} (hk : Keeps s₀ s) : Keeps s₀ (unitPermanent s unit index) := by
  unfold Machine.unitPermanent
  refine .ite (.retireUnits hk) ?_
  refine .ite (.update hk rfl rfl) ?_
  refine .ite (.ite (.update hk rfl rfl) (.update hk rfl rfl)) ?_
  refine .ite ?_ hk
  split
  · exact hk
  · exact .ite hk (.raise (.ite (.update hk rfl rfl) (.setField (.setField (.update hk rfl rfl)))))

theorem Keeps.ledgerTake {s : State} {unit : ℕ} {kind : ℕ} {locus : ℕ} (hk : Keeps s₀ s) : Keeps s₀ (ledgerTake s unit kind locus) := by
  unfold Machine.ledgerTake
  dsimp only
  split
  · exact .onlyIf (.update (.bump hk) rfl rfl) (.unitPermanent (.raise (.record (.refl _))))
  · split
    · exact .onlyIf (.update (.bump hk) rfl rfl) (.unitPermanent (.raise (.record (.refl _))))
    · exact .bump (.raise (.bump hk))

theorem Keeps.ledgerEvent {s : State} {r : Option (Nat × Nat × Nat)} (hk : Keeps s₀ s) : Keeps s₀ (ledgerEvent s r) := by
  unfold Machine.ledgerEvent
  split
  · exact .ite (.ledgerTake hk) hk
  · split
    · exact hk
    · exact .ledgerTake (.update hk rfl rfl)

theorem Keeps.flushLedger {s : State} (hk : Keeps s₀ s) : Keeps s₀ (flushLedger s) := .bumpBy (.update hk rfl rfl)

theorem Keeps.ledgerFlashWrite {s : State} {ok : Bool} (hk : Keeps s₀ s) : Keeps s₀ (ledgerFlashWrite s ok) :=
  .ite hk (.ite (.flushLedger hk) (.raise hk))

theorem Keeps.qidxWrite {s : State} {v : ℕ} (hk : Keeps s₀ s) : Keeps s₀ (qidxWrite s v) := .foldl (.setRegN hk) (fun _ _ hk1 => .setRegN hk1)

end Sys2Proof.Machine
end

section
/-! SUPPORT. That the operations of the fabric, ports and Talel contexts keep what no command changes. -/

namespace Sys2Proof.Machine

variable {s₀ : State}

theorem Keeps.retune {s : State} {d : ℕ} (hk : Keeps s₀ s) : Keeps s₀ (retune s d) := .ite hk (.ite (.setClock hk) (.setClock hk))

theorem Keeps.dfreqWrite {s : State} {v : ℕ} (hk : Keeps s₀ s) : Keeps s₀ (dfreqWrite s v).1 := .ite_fst (.pair hk) (.pair (.setClock hk))

theorem Keeps.freqDone {s : State} {d : ℕ} (hk : Keeps s₀ s) : Keeps s₀ (freqDone s d) := by
  unfold Machine.freqDone
  dsimp only
  split
  · exact .ite (.bump (.raise (.setClock hk))) hk
  · exact hk

theorem Keeps.clkUnlock {s : State} {d : ℕ} (hk : Keeps s₀ s) : Keeps s₀ (clkUnlock s d) := .ite (.bump (.raise (.record (.setClock hk)))) hk

theorem Keeps.clkRelock {s : State} {d : ℕ} (hk : Keeps s₀ s) : Keeps s₀ (clkRelock s d) := .ite (.setClock hk) hk

theorem Keeps.fixAttachments {s : State} (hk : Keeps s₀ s) : Keeps s₀ (fixAttachments s) := .update hk rfl rfl

theorem Keeps.setRouter {s : State} {site : ℕ} {r : Router} (hk : Keeps s₀ s) : Keeps s₀ (s.setRouter site r) := .update hk rfl rfl

theorem Keeps.addInput {s : State} {site : ℕ} {cycle : ℕ} {e : MeshEntry} (hk : Keeps s₀ s) : Keeps s₀ (addInput s site cycle e) := .setRouter hk

theorem Keeps.meshEnter {s : State} {site cycle : Nat} {l : List Packet} (hk : Keeps s₀ s) : Keeps s₀ (meshEnter s site cycle l) := by
  induction l generalizing s with
  | nil => exact hk
  | cons p rest ih =>
    unfold Machine.meshEnter
    exact .ite (ih hk) (ih (.addInput (.setRouter hk)))

theorem Keeps.discardPosted {s : State} {p : Page} {cls : ℕ} {port : ℕ} (hk : Keeps s₀ s) : Keeps s₀ (discardPosted s p cls port) :=
  .bump (.raise (.record hk))

theorem Keeps.answerPacket {s : State} {p : Page} {port : ℕ} {h : ℕ} (hk : Keeps s₀ s) : Keeps s₀ (answerPacket s p port h) :=
  .ite (.update hk rfl rfl) (.discardPosted hk)

theorem Keeps.dropUnroutable {s : State} {site : ℕ} {port : ℕ} {h : ℕ} (hk : Keeps s₀ s) : Keeps s₀ (dropUnroutable s site port h) :=
  .answerPacket (.ite (.bump hk) hk)

theorem Keeps.postedDown {s : State} {d : ℕ} (hk : Keeps s₀ s) : Keeps s₀ (postedDown s d) := .discardPosted hk

theorem Keeps.dropParity {s : State} {site : ℕ} {port : ℕ} {h : ℕ} (hk : Keeps s₀ s) : Keeps s₀ (dropParity s site port h) :=
  .ite (.trigger (.reportUnit (.bump (.raise (.record hk))))) (.trigger (.reportUnit (.bump (.raise (.record hk)))))

theorem Keeps.meshForward {s : State} {site : ℕ} {out : ℕ} {cycle : ℕ} {e : MeshEntry} (hk : Keeps s₀ s) : Keeps s₀ (meshForward s site out cycle e)
    := by
  unfold Machine.meshForward
  split
  · exact hk
  · exact .onlyIf (.ite (.addInput hk) (.update hk rfl rfl)) (.bump (.refl _))

theorem Keeps.discardBad {site cycle fuel : Nat} {s : State} (hk : Keeps s₀ s) : Keeps s₀ (discardBad site cycle fuel s) := by
  induction fuel generalizing s with
  | zero => exact hk
  | succ fuel ih =>
    unfold Machine.discardBad
    dsimp only
    split
    · exact hk
    · exact ih (.ite (.dropParity (.setRouter hk)) (.dropUnroutable (.setRouter hk)))

theorem Keeps.meshGrant {s : State} {site : ℕ} {out : ℕ} {cycle : ℕ} (hk : Keeps s₀ s) : Keeps s₀ (meshGrant s site out cycle) := by
  unfold Machine.meshGrant
  dsimp only
  split
  · exact hk
  · split
    · exact hk
    · refine .ite ?_ (.meshForward (.ite (.bump (.bump (.setRouter hk))) (.bump (.setRouter hk))))
      split
      · exact .update (.ite (.bump (.bump (.setRouter hk))) (.bump (.setRouter hk))) rfl rfl
      · exact .ite (.bump (.bump (.setRouter hk))) (.bump (.setRouter hk))

theorem Keeps.packetHop {s : State} {site : ℕ} {out : ℕ} {cycle : ℕ} {enter : List Packet} (hk : Keeps s₀ s) : Keeps s₀ (packetHop s site out cycle
    enter) :=
  .ite hk (.unless (.discardBad (.meshEnter (.update hk rfl rfl))) (.meshGrant (.refl _)))

theorem Keeps.takeEpoch {s t : State} {d p n : Nat} {ok : Bool} (hk : Keeps s₀ s) (e : takeEpoch s d p n = some (t, ok)) : Keeps s₀ t := by
  unfold Machine.takeEpoch at e
  dsimp only at e
  split at e
  · cases e; exact hk
  · split at e
    · split at e
      · cases e
      · cases e; exact .update hk rfl rfl
    · cases e; exact .bump hk

theorem Keeps.epochAdopt {s : State} {d : ℕ} {p : ℕ} {e : ℕ} (hk : Keeps s₀ s) : Keeps s₀ (epochAdopt s d p e) := by
  unfold Machine.epochAdopt
  refine .ite hk ?_
  split
  · exact Keeps.takeEpoch hk ‹_›
  · exact hk

theorem Keeps.crossUsable {s : State} {d : Nat} {behind : List (Nat × Nat × Nat)} {l : List (Packet × Nat)} (hk : Keeps s₀ s) :
    Keeps s₀ (crossUsable s d behind l) := by
  induction l generalizing s behind with
  | nil => exact hk
  | cons w rest ih =>
    unfold Machine.crossUsable
    dsimp only
    refine .ite (ih (.update hk rfl rfl)) ?_
    split
    · exact ih (.update hk rfl rfl)
    · exact ih (.update (.takeEpoch hk ‹_›) rfl rfl)
    · exact ih (.takeEpoch hk ‹_›)

theorem Keeps.crossDown {p : Page} {s : State} {l : List (Packet × Nat)} (hk : Keeps s₀ s) : Keeps s₀ (crossDown p s l) := by
  induction l generalizing s with
  | nil => exact hk
  | cons w rest ih => exact ih (.answerPacket (.bump hk))

theorem Keeps.bridgeEdge {s : State} {key : ℕ} {cycle : ℕ} (hk : Keeps s₀ s) : Keeps s₀ (bridgeEdge s key cycle) :=
  .foldl (.update hk rfl rfl) (fun _ _ hk1 => .addInput hk1)

theorem Keeps.fieldEdge {s : State} {f : ℕ} (hk : Keeps s₀ s) : Keeps s₀ (fieldEdge s f) := by
  unfold Machine.fieldEdge
  split
  · exact .foldl (.update hk rfl rfl) (fun _ _ hk1 => .bridgeEdge hk1)
  · exact .foldl hk (fun _ _ hk1 => .crossDown (.update hk1 rfl rfl))
  · exact hk

theorem Keeps.crossingArrival {s : State} {d : ℕ} {enter : List Packet} (hk : Keeps s₀ s) : Keeps s₀ (crossingArrival s d enter) :=
  .ite (.crossDown (.update (.ite (.fieldEdge hk) hk) rfl rfl)) (.update (.ite (.crossUsable (.update (.ite (.fieldEdge hk) hk) rfl rfl)) (.ite
      (.fieldEdge hk) hk)) rfl rfl)

theorem Keeps.setPort {s : State} {i : ℕ} {p : Port} (hk : Keeps s₀ s) : Keeps s₀ (s.setPort i p) := .update hk rfl rfl

theorem Keeps.setTctx {s : State} {n : ℕ} {c : TalCtx} (hk : Keeps s₀ s) : Keeps s₀ (s.setTctx n c) := .setField (.update hk rfl rfl)

theorem Keeps.frameOut {s : State} {i : ℕ} {frame : Option SentTag → Sent} (hk : Keeps s₀ s) : Keeps s₀ (frameOut s i frame) :=
  .ite (.bump (.setPort (.update (.bump hk) rfl rfl))) (.update (.bump hk) rfl rfl)

theorem Keeps.wireOut {s : State} {i : ℕ} {m : Msg} (hk : Keeps s₀ s) : Keeps s₀ (wireOut s i m) := by
  unfold Machine.wireOut
  exact .frameOut hk

theorem Keeps.transmit {s : State} {i : ℕ} {m : Msg} (hk : Keeps s₀ s) : Keeps s₀ (transmit s i m) := .ite (.wireOut hk) (.setPort hk)

theorem Keeps.flushPort {s : State} {i : ℕ} (hk : Keeps s₀ s) : Keeps s₀ (flushPort s i) := .foldl (.setPort hk) (fun _ _ hk1 => .transmit hk1)

theorem Keeps.statelessNak {s : State} {i : ℕ} {dst : ℕ} {code : ℕ} {tag : ℕ} {psn : ℕ} (hk : Keeps s₀ s) : Keeps s₀ (statelessNak s i dst code tag
    psn) :=
  .ite (.raise (.bump hk)) (.transmit (.bump hk))

theorem Keeps.pump {s : State} {n fuel : Nat} (hk : Keeps s₀ s) : Keeps s₀ (pump s n fuel) := by
  induction fuel generalizing s with
  | zero => exact hk
  | succ fuel ih =>
    unfold Machine.pump
    dsimp only
    split
    · exact hk
    · exact .ite hk (ih (.transmit (.setTctx hk)))

theorem Keeps.sendMsg {s : State} {n : ℕ} {m : Msg} (hk : Keeps s₀ s) : Keeps s₀ (sendMsg s n m) := .pump (.setTctx hk)

theorem Keeps.sendAck {s : State} {n : ℕ} (hk : Keeps s₀ s) : Keeps s₀ (sendAck s n) := .transmit (.setTctx hk)

theorem Keeps.sendNak {s : State} {n : ℕ} {code : ℕ} {refused : Msg} (hk : Keeps s₀ s) : Keeps s₀ (sendNak s n code refused) :=
  .transmit (.setTctx hk)

theorem Keeps.respond {s : State} {n : ℕ} {req : Msg} {len : ℕ} {data : ℕ} (hk : Keeps s₀ s) : Keeps s₀ (respond s n req len data) := .sendMsg hk

theorem Keeps.failCtx {s : State} {n : ℕ} (hk : Keeps s₀ s) : Keeps s₀ (failCtx s n) := .bump (.raise (.record (.dropUnit (.setTctx hk))))

theorem Keeps.retransmit {s : State} {n : ℕ} {psn : ℕ} {why : Option ℕ} (hk : Keeps s₀ s) : Keeps s₀ (retransmit s n psn why) := by
  unfold Machine.retransmit
  dsimp only
  split
  · exact hk
  · refine .ite (.failCtx hk) ?_
    split
    · exact .bump (.transmit (.setTctx hk))
    · exact .transmit (.setTctx hk)

theorem Keeps.takeAck {s : State} {n : ℕ} {ackpsn : ℕ} {ece : Bool} (hk : Keeps s₀ s) : Keeps s₀ (takeAck s n ackpsn ece) :=
  .ite (.setTctx (.ite (.bump hk) hk)) (.pump (.setTctx (.ite (.bump hk) hk)))

theorem Keeps.popRx {s t : State} {i : Nat} {r : RxMsg} (hk : Keeps s₀ s) (e : s.popRx i = some (r, t)) : Keeps s₀ t := by
  unfold State.popRx at e
  dsimp only at e
  split at e
  · cases e
  · cases e; exact .setPort hk

theorem Keeps.popRxIf {s t : State} {i : Nat} {ok : Msg → Bool} {r : RxMsg} (hk : Keeps s₀ s) (e : s.popRxIf i ok = some (r, t)) :
    Keeps s₀ t := by
  unfold State.popRxIf at e
  split at e
  · cases e
  · split at e
    · cases e; exact .popRx hk ‹_›
    · cases e

theorem Keeps.deliver {s : State} {n : ℕ} {m : Msg} (hk : Keeps s₀ s) : Keeps s₀ (deliver s n m) :=
  .ite (.sendNak hk) (.ite (.setTctx hk) (.ite hk (.ite (.setTctx hk) (.sendNak hk))))

theorem Keeps.deliverAhead {s : State} {n fuel : Nat} (hk : Keeps s₀ s) : Keeps s₀ (deliverAhead s n fuel) := by
  induction fuel generalizing s with
  | zero => exact hk
  | succ fuel ih =>
    unfold Machine.deliverAhead
    dsimp only
    refine .ite (ih ?_) hk
    split
    · exact .deliver (.setTctx hk)
    · exact .setTctx hk

theorem Keeps.acceptAck {s : State} {n : ℕ} {ce : Bool} {now : Bool} (hk : Keeps s₀ s) : Keeps s₀ (acceptAck s n ce now) :=
  .ite (.sendAck (.setTctx hk)) (.setTctx hk)

theorem Keeps.sequence {s : State} {n : ℕ} {r : RxMsg} (hk : Keeps s₀ s) : Keeps s₀ (sequence s n r) :=
  .ite (.ite (.sendAck (.bump hk)) (.bump hk)) (.ite (.sendAck (.bump hk)) (.ite (.acceptAck (.deliverAhead (.deliver (.setTctx hk)))) (.ite (.sendAck
      (.bump hk)) (.acceptAck (.ite (.deliver (.setTctx hk)) (.setTctx hk))))))

theorem Keeps.messageReceive {s : State} {i : ℕ} (hk : Keeps s₀ s) : Keeps s₀ (messageReceive s i) := by
  unfold Machine.messageReceive
  dsimp only
  split
  · exact hk
  · refine .ite (.raise (.bump (Keeps.popRxIf hk ‹_›))) ?_
    split
    · exact .statelessNak (Keeps.popRxIf hk ‹_›)
    · refine .sequence ?_
      split
      · exact .takeAck (Keeps.popRxIf hk ‹_›)
      · exact Keeps.popRxIf hk ‹_›

theorem Keeps.ackReceive {s : State} {i : ℕ} (hk : Keeps s₀ s) : Keeps s₀ (ackReceive s i) := by
  unfold Machine.ackReceive
  split
  · exact hk
  · refine .ite ?_ (.bump (Keeps.popRxIf hk ‹_›))
    refine .foldl ?_ (fun _ _ hk1 => .retransmit hk1)
    split
    · exact .takeAck (Keeps.popRxIf hk ‹_›)
    · exact Keeps.popRxIf hk ‹_›

theorem Keeps.nakReceive {s : State} {i : ℕ} {ofConnect : Bool} (hk : Keeps s₀ s) : Keeps s₀ (nakReceive s i ofConnect) := by
  unfold Machine.nakReceive
  split
  · exact hk
  · split
    · refine .pump ?_
      refine .setTctx ?_
      split
      · exact .takeAck (Keeps.popRxIf hk ‹_›)
      · exact Keeps.popRxIf hk ‹_›
    · exact .ite (Keeps.popRxIf hk ‹_›) (.bump (Keeps.popRxIf hk ‹_›))

theorem Keeps.sendAccept {s : State} {n : ℕ} (hk : Keeps s₀ s) : Keeps s₀ (sendAccept s n) := .transmit (.setTctx hk)

theorem Keeps.openCtx {s : State} {n : ℕ} {kind : ℕ} {port : ℕ} {part : ℕ} {peer : ℕ} {peerCtx : ℕ} {peerPsn : ℕ} {myPsn : ℕ} (hk : Keeps s₀ s) :
    Keeps s₀ (openCtx s n kind port part peer peerCtx peerPsn myPsn) :=
  .bump (.setTctx hk)

theorem Keeps.openNew {i : ℕ} {s : State} {r : RxMsg} {m : Msg} {kind : ℕ} {part : ℕ} {psn : ℕ} (hk : Keeps s₀ s) : Keeps s₀ (connectReceive.openNew i
    s r m kind part psn) := by
  unfold connectReceive.openNew
  refine .ite (.statelessNak hk) ?_
  refine .ite (.statelessNak hk) ?_
  refine .ite (.statelessNak hk) ?_
  split
  · exact .statelessNak hk
  · exact .sendAccept (.openCtx hk)

theorem Keeps.connectReceive {s : State} {i : ℕ} (hk : Keeps s₀ s) : Keeps s₀ (connectReceive s i) := by
  unfold Machine.connectReceive
  dsimp only
  split
  · exact hk
  · split
    · exact .ite (.transmit (Keeps.popRxIf hk ‹_›)) (.openNew (.failCtx (Keeps.popRxIf hk ‹_›)))
    · exact .openNew (Keeps.popRxIf hk ‹_›)

theorem Keeps.acceptReceive {s : State} {i : ℕ} {kind : ℕ} {part : ℕ} {psn : ℕ} (hk : Keeps s₀ s) : Keeps s₀ (acceptReceive s i kind part psn) := by
  unfold Machine.acceptReceive
  split
  · exact hk
  · exact .ite (.statelessNak (Keeps.popRxIf hk ‹_›)) (.ite (.sendAck (.openCtx (Keeps.popRxIf hk ‹_›))) hk)

theorem Keeps.popReady {s t : State} {n : Nat} {ok : Msg → Bool} {m : Msg} (hk : Keeps s₀ s) (e : s.popReady n ok = some (m, t)) :
    Keeps s₀ t := by
  unfold State.popReady at e
  dsimp only at e
  split at e
  · cases e
  · split at e
    · cases e
    · split at e
      · cases e; exact .setTctx hk
      · cases e

theorem Keeps.closeCtx {s : State} {n : ℕ} (hk : Keeps s₀ s) : Keeps s₀ (closeCtx s n) := .ite (.setTctx (.dropUnit hk)) (.setTctx (.dropUnit hk))

theorem Keeps.sendClose {s : State} {n : ℕ} {reason : ℕ} {step : ℕ} (hk : Keeps s₀ s) : Keeps s₀ (sendClose s n reason step) := .setTctx (.sendMsg hk)

theorem Keeps.ackDelayExpiry {s : State} {n : ℕ} (hk : Keeps s₀ s) : Keeps s₀ (ackDelayExpiry s n) := by
  unfold Machine.ackDelayExpiry
  dsimp only
  split
  · exact .ite (.sendAck hk) hk
  · exact hk

theorem Keeps.rtoExpiry {s : State} {n : ℕ} (hk : Keeps s₀ s) : Keeps s₀ (rtoExpiry s n) := by
  unfold Machine.rtoExpiry
  refine .ite ?_ hk
  split
  · exact .retransmit hk
  · exact hk

theorem Keeps.cstateRelease {s : State} {v : ℕ} (hk : Keeps s₀ s) : Keeps s₀ (cstateRelease s v).1 :=
  .ite_fst (.pair hk) (.ite_fst (.pair (.setTctx hk)) (.pair hk))

theorem Keeps.sakCommit {s : State} {i : ℕ} {v : ℕ} (hk : Keeps s₀ s) : Keeps s₀ (sakCommit s i v) := .ite (.setRegN hk) (.setPort (.setRegN hk))

theorem Keeps.zeroiseSaks {s : State} (hk : Keeps s₀ s) : Keeps s₀ (zeroiseSaks s) := .update hk rfl rfl

theorem Keeps.macsec {s : State} {i : ℕ} {f : EthFrame} (hk : Keeps s₀ s) : Keeps s₀ (macsec s i f).1 := by
  unfold Machine.macsec
  split
  · exact .ite_fst (.pair (.raise (.bump hk))) (.pair hk)
  · exact .ite_fst (.pair (.bump hk)) (.ite_fst (.pair (.bump hk)) (.ite_fst (.pair (.raise (.bump hk))) (.ite_fst (.pair (.raise (.bump hk))) (.pair
      (.bump (.setPort hk))))))

theorem Keeps.frameReceive {s : State} {i : ℕ} {f : EthFrame} (hk : Keeps s₀ s) : Keeps s₀ (frameReceive s i f) := by
  unfold Machine.frameReceive
  refine .ite hk ?_
  refine .ite (.bump (.ite (.bumpBy (.bump hk)) (.raise (.bumpBy (.bumpBy (.bump hk)))))) ?_
  refine .ite (.raise (.bump (.ite (.bumpBy (.bump hk)) (.raise (.bumpBy (.bumpBy (.bump hk))))))) ?_
  refine .ite (.bump (.ite (.bumpBy (.bump hk)) (.raise (.bumpBy (.bumpBy (.bump hk)))))) ?_
  split
  refine .unless (Keeps.of_fst (.macsec (.ite (.bumpBy (.bump hk)) (.raise (.bumpBy (.bumpBy (.bump hk)))))) ‹_›) ?_
  split
  · exact .ite (.bump (.refl _)) (.ite (.refl _) (.ite (.refl _) (.setPort (.refl _))))
  · exact .ite (.bump (.refl _)) (.frameOut (.refl _))
  · exact .update (.refl _) rfl rfl
  · exact .bump (.setPort (.refl _))
  · exact .bump (.refl _)

theorem Keeps.pfcPause {s : State} {i : ℕ} (hk : Keeps s₀ s) : Keeps s₀ (pfcPause s i) := by
  unfold Machine.pfcPause
  dsimp only
  split
  · exact hk
  · exact .ite (.flushPort (.setField (.setPort hk))) (.setPort hk)

theorem Keeps.pfcSend {s : State} {i : ℕ} {k : ℕ} (hk : Keeps s₀ s) : Keeps s₀ (pfcSend s i k) :=
  .ite hk (.ite (.frameOut (.bump (.setPort hk))) (.ite (.frameOut (.bump (.setPort hk))) hk))

theorem Keeps.linkChange {s : State} {i : ℕ} {up : Bool} (hk : Keeps s₀ s) : Keeps s₀ (linkChange s i up) :=
  .ite hk (.onlyIf (.raise (.ite (.setField hk) (.setField (.setField hk)))) (.flushPort (.refl _)))

end Sys2Proof.Machine
end

section
/-! SUPPORT. That the operations of the row engine and the carousel keep what no command changes. -/

namespace Sys2Proof.Machine

variable {s₀ : State}

theorem Keeps.setRow {s : State} {c : ℕ} {v : RowEngine} (hk : Keeps s₀ s) : Keeps s₀ (s.setRow c v) := .update hk rfl rfl

theorem Keeps.takeRead {s t : State} {key : UnitKey} {part : Option Nat} {a n v : Nat} {bad : Bool} (hk : Keeps s₀ s)
    (e : takeRead s key part a n = some (t, v, bad)) : Keeps s₀ t := by
  unfold Machine.takeRead at e
  split at e
  · cases e
  · simp only [Option.some.injEq, Prod.mk.injEq] at e
    obtain ⟨rfl, -⟩ := e
    exact .of_fst (.unitRead hk) ‹_›

theorem Keeps.readGrid {s t : State} {c fmt base band row col k : Nat} {v : List Nat} {bad : Bool} (hk : Keeps s₀ s)
    (e : readGrid s c fmt base band row col k = some (t, v, bad)) : Keeps s₀ t := by
  induction k generalizing s col v bad with
  | zero => cases e; exact hk
  | succ k ih =>
    unfold Machine.readGrid at e
    split at e
    · cases e
    · split at e
      · cases e
      · cases e; exact ih (.takeRead hk ‹_›) ‹_›

theorem Keeps.readRow {s t : State} {c d base band row : Nat} {v : List Nat} {bad : Bool} (hk : Keeps s₀ s)
    (e : readRow s c d base band row = some (t, v, bad)) : Keeps s₀ t := by
  unfold Machine.readRow at e
  split at e
  · cases e
  · cases e; exact .readGrid hk ‹_›

theorem Keeps.rowPut {s : State} {c : ℕ} {a : ℕ} {n : ℕ} {v : ℕ} {bad : Bool} (hk : Keeps s₀ s) : Keeps s₀ (rowPut s c a n v bad) := .unitWrite hk

theorem Keeps.writeGrid {s : State} {c : ℕ} {fmt : ℕ} {base : ℕ} {band : ℕ} {row : ℕ} {vs : List ℕ} {bad : Bool} (hk : Keeps s₀ s) : Keeps s₀
    (writeGrid s c fmt base band row vs bad).1 :=
  .pair (.foldl hk (fun _ _ hk1 => .ite (.rowPut (.rowPut hk1)) (.rowPut hk1)))

theorem Keeps.rowKickWrite {s : State} {who : Requester} {c : ℕ} {port : ℕ} {v : ℕ} (hk : Keeps s₀ s) : Keeps s₀ (rowKickWrite s who c port v) :=
  .ite (.logReq (.bump (.raise hk))) (.setRow hk)

theorem Keeps.readVectors {s t : State} {c d : Nat} {l : List Nat} {v : List (List Nat)} {bad : Bool} (hk : Keeps s₀ s)
    (e : readVectors s c d l = some (t, v, bad)) : Keeps s₀ t := by
  induction l generalizing s v bad with
  | nil => cases e; exact hk
  | cons a rest ih =>
    unfold Machine.readVectors at e
    split at e
    · cases e
    · split at e
      · cases e
      · cases e; exact ih (.takeRead hk ‹_›) ‹_›

theorem Keeps.kickStart {s : State} {c : Nat} (hk : Keeps s₀ s) : Keeps s₀ (kickStart s c) := by
  delta Machine.kickStart
  extract_lets r p
  generalize r.run = run, r.queue = queue
  refine .matchKick run queue hk fun k rest => ?_
  extract_lets at_
  clear_value at_
  split
  · exact .askFor hk
  next t d bad e =>
    have ht := Keeps.takeRead hk e
    refine .ite (.bump (.raise (.record (.setRow ht)))) ?_
    split
    · exact .foldl hk fun _ _ hk => .askFor hk
    · exact .setRow (.readVectors ht (by assumption))

theorem Keeps.rowOverflow {s : State} {c : ℕ} {d : ℕ} {n : ℕ} (hk : Keeps s₀ s) : Keeps s₀ (rowOverflow s c d n) :=
  .ite hk (.ite (.bumpBy (.raise hk)) (.update (.bumpBy (.raise hk)) rfl rfl))

theorem Keeps.readRecord {s t : State} {c d row v : Nat} {bad : Bool} (hk : Keeps s₀ s)
    (e : readRecord s c d row = some (t, v, bad)) : Keeps s₀ t := by
  unfold Machine.readRecord at e
  split at e
  · cases e; exact hk
  · exact .takeRead hk e

theorem Keeps.writeRecord {s : State} {c : ℕ} {d : ℕ} {row : ℕ} {rec_ : Option (ℕ × ℕ)} {bad : Bool} (hk : Keeps s₀ s) : Keeps s₀ (writeRecord s c d
    row rec_ bad) := by
  unfold Machine.writeRecord
  split
  · exact hk
  · exact .ite (.setRow hk) (.rowPut hk)

theorem Keeps.addTerms {s : State} {c : ℕ} {d : ℕ} {terms : List (ℕ × Option ℕ)} {bad : Bool} (hk : Keeps s₀ s) : Keeps s₀ (addTerms s c d terms bad)
    :=
  .setRow hk

theorem Keeps.processRow {s t : State} {c row : Nat} {k : RowRun} (hk : Keeps s₀ s) (e : processRow s c k row = some t) : Keeps s₀ t := by
  unfold Machine.processRow at e
  dsimp only at e
  split at e
  · cases e
  next s1 x bx e1 =>
    have hk1 := Keeps.readRow hk e1
    split at e
    · cases e
    next s2 dyv bd e2 =>
      have hk2 : Keeps s₀ s2 := by
        split at e2
        · cases e2; exact hk1
        · exact .readRow hk1 e2
      split at e
      · cases e
      next s3 rv br e3 =>
        have hk3 : Keeps s₀ s3 := by
          split at e3
          · cases e3; exact hk2
          · exact .readRecord hk2 e3
        split at e
        · cases e
        · cases e
          have hk4 {o : RowOut} {d : Nat} {bad : Bool} : Keeps s₀ (Machine.rowOverflow (Machine.addTerms (Machine.writeRecord
              (Machine.writeGrid s3 c (rOutFmt d) (field d 480 448) (field d 447 416) row o.out bad).1 c d row o.record bad) c d o.terms bad) c d
              (Machine.writeGrid s3 c (rOutFmt d) (field d 480 448) (field d 447 416) row o.out bad).2) :=
            .rowOverflow (.addTerms (.writeRecord (.writeGrid hk3)))
          exact .bump (.ite (.bump (.raise (.ite hk4 (.setRegN hk4)))) hk4)

theorem Keeps.flushColumns {s : State} {c d n j : Nat} (hk : Keeps s₀ s) : Keeps s₀ (flushColumns s c d n j).1 := by
  induction n generalizing s j with
  | zero => exact hk
  | succ n ih => exact ih (.setRow (.rowPut hk))

theorem Keeps.rowProcess {s : State} {c : Nat} (hk : Keeps s₀ s) : Keeps s₀ (rowProcess s c) := by
  unfold Machine.rowProcess
  split
  · exact hk
  · refine .ite hk (.ite (.ite hk (.setRow (.rowOverflow (.flushColumns hk)))) ?_)
    dsimp only
    split
    · exact .foldl hk fun _ _ hk => .askFor hk
    · exact .setRow (.processRow hk ‹_›)

theorem Keeps.kickDone {s : State} {c : ℕ} (hk : Keeps s₀ s) : Keeps s₀ (kickDone s c) := by
  unfold Machine.kickDone
  dsimp only
  split
  · exact hk
  · exact .ite hk (.ite (.bump (.setRow hk)) (.ite (.sendFlagAdd (.bump (.setRow hk))) (.logUnit (.bump (.setRow hk)))))

theorem Keeps.rowAbort {s : State} {c : ℕ} (hk : Keeps s₀ s) : Keeps s₀ (rowAbort s c) := .raise (.bumpBy (.dropUnit (.setRow hk)))

theorem Keeps.sideStep {s : State} {c : ℕ} (hk : Keeps s₀ s) : Keeps s₀ (sideStep s c) := .setRegN hk

theorem Keeps.sideRead {s : State} {c : ℕ} {high : Bool} (hk : Keeps s₀ s) : Keeps s₀ (sideRead s c high).1 :=
  .ite_fst (.pair (.sideStep hk)) (.pair (.setRow hk))

theorem Keeps.sideWrite {s : State} {c : ℕ} {high : Bool} {v : ℕ} (hk : Keeps s₀ s) : Keeps s₀ (sideWrite s c high v).1 :=
  .ite_fst (.pair hk) (.ite_fst (.pair (.setRegN hk)) (.pair (.sideStep (.setRow hk))))

theorem Keeps.setUnit {s : State} {u : ℕ} {v : CrsUnit} (hk : Keeps s₀ s) : Keeps s₀ (s.setUnit u v) := .update hk rfl rfl

theorem Keeps.bdataWrite {s : State} {v : ℕ} (hk : Keeps s₀ s) : Keeps s₀ (bdataWrite s v).1 :=
  .ite_fst (.pair hk) (.ite_fst (.pair (.setRegN hk)) (.pair (.update (.setRegN hk) rfl rfl)))

theorem Keeps.bdataRead {s : State} (hk : Keeps s₀ s) : Keeps s₀ (bdataRead s).1 := .pair (.update hk rfl rfl)

theorem Keeps.bankSwitchWrite {s : State} {v : ℕ} (hk : Keeps s₀ s) : Keeps s₀ (bankSwitchWrite s v) := .setRegN hk

theorem Reading.Keeping.trainRead {a n : Nat} : (trainRead a n).Keeping := by
  refine ⟨fun hk e => ?_⟩
  unfold Machine.trainRead at e
  split at e
  · cases e
  · cases e; exact .takeRead hk ‹_›

theorem Reading.Keeping.lineRead {a : Nat} : (lineRead a).Keeping := by
  refine ⟨fun hk e => ?_⟩
  unfold Machine.lineRead at e
  split at e
  · cases e
  · cases e; exact .of_fst (.unitRead hk) ‹_›

theorem Reading.Keeping.tableRead {a n : Nat} : (tableRead a n).Keeping := by
  refine ⟨fun hk e => ?_⟩
  unfold Machine.tableRead at e
  split at e
  · cases e
  · cases e; exact .ite (.trigger (.takeRead hk ‹_›)) (.takeRead hk ‹_›)

theorem Keeps.trainAsk {s : State} {a : ℕ} {n : ℕ} (hk : Keeps s₀ s) : Keeps s₀ (trainAsk s a n) := .askFor hk

theorem Keeps.whenRead {α : Type} {s : State} {m : Reading α} {act : α → State → State} (hk : Keeps s₀ s) (hm : m.Keeping)
    (hact : ∀ x s, Keeps s₀ s → Keeps s₀ (act x s)) : Keeps s₀ (whenRead s m act) := by
  unfold Machine.whenRead
  split
  · exact .trainAsk hk
  · exact hact _ _ (hm.ok hk ‹_›)

theorem Keeps.trainWrite {s : State} {a : ℕ} {n : ℕ} {v : ℕ} (hk : Keeps s₀ s) : Keeps s₀ (trainWrite s a n v) := .unitPost hk

theorem Reading.Keeping.scaleE {t : Tag} : (scaleE t).Keeping := .bind .get fun _ => .ite .pure .tableRead

theorem Keeps.writeScale {s : State} {b : ℕ} {j : ℕ} {e : ℕ} (hk : Keeps s₀ s) : Keeps s₀ (writeScale s b j e) := .trainWrite hk

theorem Reading.Keeping.openedOf {t : Tag} : (openedOf t).Keeping := .bind .get fun _ => .bind .tableRead fun _ => .pure

theorem Keeps.lateInput {s : State} {u : ℕ} {kind : ℕ} {port : ℕ} {t : Tag} {seg : ℕ} (hk : Keeps s₀ s) : Keeps s₀ (lateInput s u kind port t seg) :=
  .onlyIf (.bump (.raise (.ite (.setRegN (.record hk)) (.record hk)))) (.raise (.refl _))

theorem Keeps.addHandFlag {s : State} {h : Hand} (hk : Keeps s₀ s) : Keeps s₀ (addHandFlag s h) := by
  unfold Machine.addHandFlag
  split
  · exact hk
  · exact .ite (.sendFlagAdd hk) (.logUnit hk)

theorem Keeps.promoteGathers {s : State} (hk : Keeps s₀ s) : Keeps s₀ (promoteGathers s) := .update hk rfl rfl

theorem Keeps.handWrite {s : State} {who : Requester} {p : ℕ} {v : ℕ} (hk : Keeps s₀ s) : Keeps s₀ (handWrite s who p v) :=
  .ite (.bump hk) (.ite (.lateInput hk) (.ite (.logReq (.bump (.raise hk))) (.ite (.onlyIf (.logReq (.bump (.raise hk))) (.addHandFlag (.refl _)))
      (.ite (.lateInput hk) (.promoteGathers (.onlyIf (.update (.bump hk) rfl rfl) (.setUnit (.refl _))))))))

theorem Keeps.sendFrame {s : State} {u : ℕ} {f : CrsFrame} (hk : Keeps s₀ s) : Keeps s₀ (sendFrame s u f) := .ite hk (.sendMsg (.bump hk))

theorem Keeps.putTctx {s : State} {n : ℕ} {c : TalCtx} (hk : Keeps s₀ s) : Keeps s₀ (s.putTctx n c) := .update hk rfl rfl

theorem Keeps.takeMessage {s t : State} {u n psn : Nat} {f : CrsFrame} (hk : Keeps s₀ s) (e : takeMessage s u n psn f = some t) :
    Keeps s₀ t := by
  unfold Machine.takeMessage at e
  dsimp only at e
  split at e
  · cases e
  · split at e
    · cases e; exact .putTctx hk
    · split at e
      · cases e; exact .putTctx hk
      · cases e

theorem Keeps.withFrame {s : State} {port : ℕ} {m : CrsMsg} {f : CrsFrame} {act : State → State × Bool} (hk : Keeps s₀ s) (hact : ∀ s, Keeps s₀ s →
    Keeps s₀ (act s).1) : Keeps s₀ (withFrame s port m f act) := by
  unfold Machine.withFrame
  split
  · exact hk
  · split
    · exact Keeps.of_fst (hact _ (Keeps.takeMessage hk ‹_›)) ‹_›
    · exact hact _ hk

theorem Keeps.resendFrame {s : State} {u : ℕ} {k : CrsKey} {f : CrsFrame} (hk : Keeps s₀ s) : Keeps s₀ (resendFrame s u k f) := by
  unfold Machine.resendFrame
  dsimp only
  split
  · exact .setTctx hk
  · exact .transmit (.setTctx hk)

theorem Keeps.stomp {s : State} {u : ℕ} {k : CrsKey} (hk : Keeps s₀ s) : Keeps s₀ (stomp s u k) := .update (.bump hk) rfl rfl

theorem Keeps.unqueue {s : State} {u : ℕ} {k : CrsKey} (hk : Keeps s₀ s) : Keeps s₀ (unqueue s u k) := .setTctx hk

theorem Keeps.marksMade {s : State} {u : ℕ} {n : ℕ} (hk : Keeps s₀ s) : Keeps s₀ (marksMade s u n) := .ite hk (.bumpBy (.raise hk))

theorem Keeps.excludeE {s : State} {u : ℕ} {t : Tag} {seg : ℕ} {e : ℕ} {ins : List SlotIn} (hk : Keeps s₀ s) : Keeps s₀ (excludeE s u t seg e ins).1
    :=
  .pair (.foldl hk (fun _ _ hk1 => .lateInput hk1))

theorem Keeps.forwardSlot {s : State} {u : ℕ} {sl : Slot} (hk : Keeps s₀ s) : Keeps s₀ (forwardSlot s u sl) :=
  .setUnit (.sendFrame (.marksMade (.excludeE hk)))

theorem Keeps.slotForward {s : State} {u : ℕ} (hk : Keeps s₀ s) : Keeps s₀ (slotForward s u) := by
  unfold Machine.slotForward
  split
  · exact .forwardSlot hk
  · exact hk

theorem Keeps.holdExpiry {s : State} {u : ℕ} (hk : Keeps s₀ s) : Keeps s₀ (holdExpiry s u) := by
  unfold Machine.holdExpiry
  split
  · exact .bump (.forwardSlot hk)
  · exact hk

theorem Keeps.evictFor {s : State} {u : ℕ} {t : Tag} {seg : ℕ} {i : SlotIn} (hk : Keeps s₀ s) : Keeps s₀ (evictFor s u t seg i) := by
  unfold Machine.evictFor
  refine .ite hk ?_
  split
  · exact .raise (.bump (.forwardSlot hk))
  · exact hk

theorem Keeps.hopInput {s : State} {u : ℕ} {t : Tag} {seg : ℕ} {i : SlotIn} (hk : Keeps s₀ s) : Keeps s₀ (hopInput s u t seg i).1 :=
  .ite_fst (.pair (.lateInput hk)) (.ite_fst (.pair (.lateInput (.evictFor hk))) (.ite_fst (.pair (.evictFor hk)) (.ite_fst (.pair (.setUnit
      (.evictFor hk))) (.pair (.setUnit (.evictFor hk))))))

theorem Keeps.rootTake {s : State} {u : ℕ} {t : Tag} {seg : ℕ} {i : SlotIn} {opened : ℕ} (hk : Keeps s₀ s) : Keeps s₀ (rootTake s u t seg i opened) :=
  .ite (.lateInput hk) (.ite (.lateInput hk) (.setUnit hk))

theorem Reading.Keeping.rootInput {u : Nat} {t : Tag} {seg : Nat} {i : SlotIn} : (rootInput u t seg i).Keeping :=
  .bind .openedOf fun _ => .modify .rootTake

theorem Keeps.closeSegment {s : State} {u : ℕ} {t : Tag} {e : ℕ} {seg : ℕ} (hk : Keeps s₀ s) : Keeps s₀ (closeSegment s u t e seg) := by
  unfold Machine.closeSegment
  split
  · exact hk
  · exact .setUnit (.marksMade (.excludeE hk))

theorem Keeps.segmentClose {s : State} {u : ℕ} (hk : Keeps s₀ s) : Keeps s₀ (segmentClose s u) := by
  unfold Machine.segmentClose
  dsimp only
  split
  · exact hk
  · exact .whenRead hk .scaleE (fun _ _ hk1 => .closeSegment hk1)

theorem Keeps.deadlineExpiry {s : State} {u : ℕ} (hk : Keeps s₀ s) : Keeps s₀ (deadlineExpiry s u) := by
  unfold Machine.deadlineExpiry
  dsimp only
  split
  · exact .whenRead hk .scaleE (fun _ _ hk1 => .foldl (.setUnit hk1) (fun _ _ hk2 => .closeSegment hk2))
  · split
    · exact .setUnit hk
    · exact hk

theorem Keeps.writeOpened {s : State} {t : Tag} (hk : Keeps s₀ s) : Keeps s₀ (writeOpened s t) := .trainWrite hk

theorem Keeps.sliceClose {s : State} {u : ℕ} (hk : Keeps s₀ s) : Keeps s₀ (sliceClose s u) := by
  unfold Machine.sliceClose
  split
  · exact hk
  · exact .ite hk (.whenRead hk .scaleE (fun _ _ hk1 => .bump (.update (.setUnit (.writeOpened (.writeScale (.foldl (.trainWrite hk1) (fun _ _ hk2 =>
      .trainWrite hk2))))) rfl rfl)))

theorem Keeps.writeContributor {s : State} {b : Bucket} {step : ℕ} {slot : ℕ} {c : Contributor} {es : List ℕ} (hk : Keeps s₀ s) : Keeps s₀
    (writeContributor s b step slot c es) :=
  .foldl hk (fun _ _ hk1 => .foldl (.foldl hk1 (fun _ _ hk2 => .trainWrite hk2)) (fun _ _ hk2 => .trainWrite hk2))

theorem Reading.Keeping.allScales {step bucket n j : Nat} : (allScales step bucket n j).Keeping := by
  induction n generalizing j with
  | zero => exact .pure
  | succ n ih => exact .bind .scaleE fun _ => .bind ih fun _ => .pure

theorem Keeps.factorTake {s : State} {u : ℕ} {port : ℕ} {f : CrsFrame} {opened : ℕ} {es : List ℕ} (hk : Keeps s₀ s) : Keeps s₀ (factorTake s u port f
    opened es) :=
  .ite (.lateInput hk) (.ite (.lateInput hk) (.setUnit (.ite (.writeContributor hk) hk)))

theorem Reading.Keeping.rootFactor {u port : Nat} {f : CrsFrame} : (rootFactor u port f).Keeping :=
  .bind .openedOf fun _ => .bind .get fun _ => .bind .allScales fun _ => .modify .factorTake

theorem Keeps.thinnedClose {s : State} {u : ℕ} (hk : Keeps s₀ s) : Keeps s₀ (thinnedClose s u) := by
  unfold Machine.thinnedClose
  split
  · exact hk
  · exact .ite hk (.whenRead hk .allScales (fun _ _ hk1 => .bumpBy (.update (.setUnit (.foldl (.trainWrite hk1) (fun _ _ hk2 => .writeOpened
      (.writeScale hk2)))) rfl rfl)))

theorem Reading.Keeping.localInput {b : Bucket} {t : Tag} {seg : Nat} {i : SlotIn} : (localInput b t seg i).Keeping :=
  .ite .rootInput (.modify .hopInput)

theorem Reading.Keeping.localFactor {b : Bucket} {f : CrsFrame} : (localFactor b f).Keeping := .ite .rootFactor (.modify .sendFrame)

theorem Keeps.recordVoid {s : State} {t : Tag} {seg : ℕ} (hk : Keeps s₀ s) : Keeps s₀ (recordVoid s t seg) :=
  .update (.logHw (.bump (.raise (.ite (.setRegN (.record hk)) (.record hk))))) rfl rfl

theorem Keeps.clampsMade {s : State} {n : ℕ} (hk : Keeps s₀ s) : Keeps s₀ (clampsMade s n) := .ite hk (.bumpBy (.raise hk))

theorem Reading.Keeping.quantFull {b : Bucket} {h : Hand} {e : Nat} : (quantFull b h e).Keeping :=
  .bind .trainRead fun _ => .ite (.bind (.modify .recordVoid) fun _ => .localInput)
    (.bind .get fun _ => .bind (.modify .clampsMade) fun _ => .localInput)

theorem Reading.Keeping.factorPieces {tile seg n : Nat} : (factorPieces tile seg n).Keeping := by
  induction n with
  | zero => exact .pure
  | succ n ih => exact .bind .trainRead fun _ => .bind ih fun _ => .pure

theorem Reading.Keeping.factorVoid {tile n g : Nat} : (factorVoid tile n g).Keeping := by
  induction n generalizing g with
  | zero => exact .pure
  | succ n ih => exact .bind .factorPieces fun _ => .ite .pure ih

theorem Reading.Keeping.quantFactor {b : Bucket} {h : Hand} {e : Nat} : (quantFactor b h e).Keeping := by
  unfold Machine.quantFactor
  refine .bind .get fun _ => .ite .pure (.bind (.ite .factorVoid .pure) fun g => ?_)
  cases g with
  | none => exact .bind .factorPieces fun _ => .bind (.modify .clampsMade) fun _ => .localFactor
  | some g => exact .bind (.modify fun hk => .update (.recordVoid hk) rfl rfl) fun _ => .localFactor

theorem Reading.Keeping.quantSegment {b : Bucket} {h : Hand} : (quantSegment b h).Keeping := .bind .scaleE fun _ => .ite .quantFactor .quantFull

theorem Keeps.quantiseSegment {s : State} (hk : Keeps s₀ s) : Keeps s₀ (quantiseSegment s) := by
  unfold Machine.quantiseSegment
  split
  · exact hk
  · exact .ite hk (.whenRead hk .quantSegment (fun _ _ hk1 => .update hk1 rfl rfl))

theorem Keeps.handDone {s : State} (hk : Keeps s₀ s) : Keeps s₀ (handDone s) := by
  unfold Machine.handDone
  split
  · exact hk
  · exact .ite hk (.promoteGathers (.addHandFlag (.update hk rfl rfl)))

theorem Keeps.resendStomped {s : State} {u : ℕ} {f : CrsFrame} (hk : Keeps s₀ s) : Keeps s₀ (resendStomped s u f).1 :=
  .pair (.foldl (.setUnit hk) (fun _ _ hk1 => .resendFrame hk1))

theorem Keeps.frameIn {s : State} {u : ℕ} {f : CrsFrame} (hk : Keeps s₀ s) : Keeps s₀ (frameIn s u f).1 :=
  .ite_fst (.pair (.bump hk)) (.ite_fst (.pair (.bump (.bump hk))) (.ite_fst (.pair (.lateInput (.bump hk))) (.pair (.bump hk))))

theorem Keeps.reduceFrame {s : State} {port : Nat} {f : CrsFrame} (hk : Keeps s₀ s) : Keeps s₀ (reduceFrame s port f).1 := by
  unfold Machine.reduceFrame
  dsimp only
  refine .ite_fst (.pair hk) (.ite_fst (.pair (.frameIn hk)) (.ite_fst (.pair (.frameIn hk)) (.ite_fst ?_ ?_)))
  · split
    · exact .pair (Reading.Keeping.rootInput.ok (.frameIn hk) ‹_›)
    · exact .pair (.trainAsk hk)
  · split
    · exact .pair (.of_fst (.hopInput (.frameIn hk)) ‹_›)
    · exact .pair (.evictFor hk)

theorem Keeps.factorFrame {s : State} {port : Nat} {f : CrsFrame} (hk : Keeps s₀ s) : Keeps s₀ (factorFrame s port f).1 := by
  unfold Machine.factorFrame
  dsimp only
  refine .ite_fst (.pair hk) (.ite_fst (.pair (.frameIn hk)) (.ite_fst ?_ ?_))
  · split
    · exact .pair (Reading.Keeping.rootFactor.ok (.frameIn hk) ‹_›)
    · exact .pair (.trainAsk hk)
  · exact .pair (.ite (.sendFrame (.resendStomped (.frameIn hk))) (.resendStomped (.frameIn hk)))

theorem Keeps.addCredit {s : State} {c : ℕ} {n : ℕ} (hk : Keeps s₀ s) : Keeps s₀ (addCredit s c n) := .update hk rfl rfl

theorem Keeps.returnCredits {s : State} {u : ℕ} {n : ℕ} (hk : Keeps s₀ s) : Keeps s₀ (returnCredits s u n) := .update hk rfl rfl

theorem Keeps.freeSegment {s : State} {u : ℕ} {t : Tag} {seg : ℕ} (hk : Keeps s₀ s) : Keeps s₀ (freeSegment s u t seg) := .ite hk (.returnCredits hk)

theorem Keeps.freePartial {s : State} {u : ℕ} {p : Partial} (hk : Keeps s₀ s) : Keeps s₀ (freePartial s u p) :=
  .foldl (.addCredit hk) (fun _ _ hk1 => .freeSegment hk1)

theorem Keeps.collect {s : State} {u : ℕ} {f : CrsFrame} (hk : Keeps s₀ s) : Keeps s₀ (collect s u f) :=
  .ite (.update (.setUnit hk) rfl rfl) (.setUnit hk)

theorem Keeps.serveChild {s : State} {c : ℕ} {f : CrsFrame} (hk : Keeps s₀ s) : Keeps s₀ (serveChild s c f) :=
  .ite (.collect (.ite (.update (.update hk rfl rfl) rfl rfl) (.update hk rfl rfl))) (.sendFrame (.ite (.update (.update hk rfl rfl) rfl rfl) (.update
      hk rfl rfl)))

theorem Keeps.drainChild {s : State} {c fuel : Nat} (hk : Keeps s₀ s) : Keeps s₀ (drainChild s c fuel) := by
  induction fuel generalizing s with
  | zero => exact hk
  | succ fuel ih =>
    unfold Machine.drainChild
    refine .ite hk ?_
    split
    · exact hk
    · exact ih (.freeSegment (.serveChild (.setUnit hk)))

theorem Keeps.addPull {s : State} {t : Tag} {retry : Option ℕ} (hk : Keeps s₀ s) : Keeps s₀ (addPull s t retry) := .ite hk (.update hk rfl rfl)

theorem Keeps.noteHeader {s : State} {f : CrsFrame} (hk : Keeps s₀ s) : Keeps s₀ (noteHeader s f) := .update hk rfl rfl

theorem Keeps.schedulePulls {s : State} {step : ℕ} {q : ℕ} (hk : Keeps s₀ s) : Keeps s₀ (schedulePulls s step q) :=
  .foldl hk (fun _ _ hk1 => .ite hk1 (.foldl hk1 (fun _ _ hk2 => .ite hk2 (.addPull hk2))))

theorem Keeps.dropPartials {s : State} {u : ℕ} {step : ℕ} (hk : Keeps s₀ s) : Keeps s₀ (dropPartials s u step) :=
  .foldl (.setUnit hk) (fun _ _ hk1 => .freePartial hk1)

theorem Keeps.dropWaiting {s : State} {u : ℕ} {step : ℕ} (hk : Keeps s₀ s) : Keeps s₀ (dropWaiting s u step) :=
  .foldl (.setUnit hk) (fun _ _ hk1 => .freeSegment hk1)

theorem Keeps.sendPrune {s : State} {c : ℕ} {step : ℕ} (hk : Keeps s₀ s) : Keeps s₀ (sendPrune s c step) := .sendFrame hk

theorem Keeps.pruneChild {s : State} {u : ℕ} {c : ℕ} {step : ℕ} (hk : Keeps s₀ s) : Keeps s₀ (pruneChild s u c step) :=
  .bump (.raise (.record (.ite (.schedulePulls (.dropPartials (.foldl (.update hk rfl rfl) (fun _ _ hk1 => .freeSegment hk1)))) (.sendPrune (.foldl
      (.update hk rfl rfl) (fun _ _ hk1 => .freeSegment hk1))))))

theorem Keeps.makeMcRoom {s : State} {u fuel : Nat} (hk : Keeps s₀ s) : Keeps s₀ (makeMcRoom s u fuel) := by
  induction fuel generalizing s with
  | zero => exact hk
  | succ fuel ih =>
    unfold Machine.makeMcRoom
    refine .ite hk ?_
    split
    · exact ih (.pruneChild hk)
    · exact hk

theorem Keeps.offer {s : State} {u : Nat} {f : CrsFrame} {children : List Nat} (hk : Keeps s₀ s) : Keeps s₀ (offer s u f children) := by
  have hserve {p : State × List Nat} {cs : List Nat} (hp : Keeps s₀ p.1) :
      Keeps s₀ (cs.foldl (fun p c => if p.1.credit c == 0 || p.1.crs.units.any (fun e => e.2.mc.any (fun m => m.children.contains c))
        then (p.1, p.2 ++ [c]) else (Machine.serveChild p.1 c f, p.2)) p).1 :=
    .foldl_fst hp fun _ _ hp => .ite_fst (.pair hp) (.pair (.serveChild hp))
  unfold Machine.offer
  exact .ite (.freeSegment (.ite (hserve (.pair hk)) (.makeMcRoom (hserve (.pair hk)))))
    (.setUnit (.ite (hserve (.pair hk)) (.makeMcRoom (hserve (.pair hk)))))

theorem Reading.Keeping.multicastLines {b : Bucket} {t : Tag} : (multicastLines b t).Keeping := .ite .pure .trainRead

theorem Keeps.paramMulticast {s : State} (hk : Keeps s₀ s) : Keeps s₀ (paramMulticast s) := by
  unfold Machine.paramMulticast
  split
  · exact hk
  · exact .ite hk (.whenRead hk .multicastLines (fun _ _ hk1 => .foldl (.trainWrite (.update hk1 rfl rfl)) (fun _ _ hk2 => .offer hk2)))

theorem Keeps.paramFrame {s : State} {port : ℕ} {f : CrsFrame} (hk : Keeps s₀ s) : Keeps s₀ (paramFrame s port f).1 :=
  .ite_fst (.pair hk) (.ite_fst (.pair (.frameIn hk)) (.ite_fst (.pair hk) (.pair (.offer (.onlyIf (.resendStomped (.frameIn hk)) (.noteHeader
      (.writeScale (.refl _))))))))

theorem Keeps.pruneRow {s : State} {u : ℕ} (hk : Keeps s₀ s) : Keeps s₀ (pruneRow s u) := by
  unfold Machine.pruneRow
  dsimp only
  split
  · exact .pruneChild hk
  · exact hk

theorem Keeps.prunedFrame {s : State} {port : ℕ} {f : CrsFrame} (hk : Keeps s₀ s) : Keeps s₀ (prunedFrame s port f).1 :=
  .ite_fst (.pair hk) (.ite_fst (.pair (.frameIn hk)) (.pair (.schedulePulls (.foldl (.dropWaiting (.dropPartials (.bump (.raise (.frameIn hk)))))
      (fun _ _ hk1 => .sendPrune hk1)))))

theorem Keeps.mcCredit {s : State} {port : ℕ} (hk : Keeps s₀ s) : Keeps s₀ (mcCredit s port) := .drainChild (.addCredit hk)

theorem Keeps.grantCredits {s : State} {port : ℕ} (hk : Keeps s₀ s) : Keeps s₀ (grantCredits s port) := .drainChild (.update hk rfl rfl)

theorem Keeps.homeSlice {s : State} {b : Bucket} {t : Tag} {v : ℕ} {rule : Option ℕ} (hk : Keeps s₀ s) : Keeps s₀ (homeSlice s b t v rule) :=
  .unitPost (.update hk rfl rfl)

theorem Keeps.homeParams {s : State} {b : Bucket} {t : Tag} {v : ℕ} {e : ℕ} (hk : Keeps s₀ s) : Keeps s₀ (homeParams s b t v e) :=
  .ite (.writeScale (.homeSlice hk)) (.homeSlice hk)

theorem Keeps.admission {s : State} (hk : Keeps s₀ s) : Keeps s₀ (admission s) := by
  unfold Machine.admission
  dsimp only
  split
  · exact hk
  · split
    · refine .ite hk ?_
      split
      · exact .homeParams (.drainChild (.freePartial (.admitTag (.update hk rfl rfl))))
      · exact .addPull (.drainChild (.freePartial (.admitTag (.update hk rfl rfl))))
      · exact .addPull (.drainChild (.freePartial (.admitTag (.update hk rfl rfl))))
      · exact .drainChild (.freePartial (.admitTag (.update hk rfl rfl)))
    · refine .ite hk ?_
      split
      · exact .bump (.homeParams (.admitTag (.update hk rfl rfl)))
      · exact .addPull (.admitTag (.update hk rfl rfl))
      · exact .addPull (.admitTag (.update hk rfl rfl))
      · exact .admitTag (.update hk rfl rfl)
    · split
      · exact .update (.admitTag (.update hk rfl rfl)) rfl rfl
      · exact .update (.admitTag (.update hk rfl rfl)) rfl rfl
      · exact .update (.admitTag (.update hk rfl rfl)) rfl rfl
      · exact .update (.bump (.admitTag (.update hk rfl rfl))) rfl rfl

theorem Keeps.pullFailed {s : State} {p : PullReq} (hk : Keeps s₀ s) : Keeps s₀ (pullFailed s p) :=
  .bump (.raise (.ite (.setRegN (.record hk)) (.record hk)))

theorem Keeps.gatherDone {s : State} {h : Hand} {b : Bucket} {v : ℕ} {bad : NSet} (hk : Keeps s₀ s) : Keeps s₀ (gatherDone s h b v bad) :=
  .bump (.addHandFlag (.update hk rfl rfl))

theorem Keeps.pullRead {s : State} {b : Bucket} {a : ℕ} {n : ℕ} (hk : Keeps s₀ s) : Keeps s₀ (pullRead s b a n) := .ite hk (.sendMsg hk)

theorem Keeps.pullLines {s : State} {b : Bucket} {a fuel n : Nat} (hk : Keeps s₀ s) : Keeps s₀ (pullLines s b a fuel n) := by
  induction fuel generalizing s a n with
  | zero => exact hk
  | succ fuel ih =>
    unfold Machine.pullLines
    exact .ite hk (ih (.pullRead hk))

theorem Reading.Keeping.linesRead {a n : Nat} : (linesRead a n).Keeping := by
  induction n generalizing a with
  | zero => exact .pure
  | succ n ih => exact .bind .lineRead fun _ => .bind ih fun _ => .pure

theorem Reading.Keeping.ownGather {b : Bucket} {t : Tag} {log : Nat} : (ownGather b t log).Keeping :=
  .bind .tableRead fun _ => .ite .pure (.bind .linesRead fun _ => .bind .tableRead fun _ => .pure)

theorem Keeps.pullSlice {s : State} {ok : Bool} {w1 : ℕ} {data : ℕ} {e : ℕ} {w2 : ℕ} (hk : Keeps s₀ s) : Keeps s₀ (pullSlice s ok w1 data e w2) := by
  unfold Machine.pullSlice
  dsimp only
  refine .ite hk ?_
  split
  · exact hk
  · split
    · refine .whenRead hk .ownGather (fun _ _ hk1 => ?_)
      split
      · exact .pullFailed (.update hk1 rfl rfl)
      · exact .update (.update hk1 rfl rfl) rfl rfl
      · exact .gatherDone (.update hk1 rfl rfl)
    · refine .ite (.pullFailed (.update (.pullRead hk) rfl rfl)) ?_
      refine .ite (.update (.update (.pullRead hk) rfl rfl) rfl rfl) ?_
      refine .ite (.pullFailed (.update (.pullRead (.pullRead (.ite (.pullRead hk) (.pullLines (.pullRead hk))))) rfl rfl)) ?_
      split
      · exact .gatherDone (.update (.pullRead (.pullRead (.ite (.pullRead hk) (.pullLines (.pullRead hk))))) rfl rfl)
      · exact .ite (.writeScale (.update (.pullRead (.pullRead (.ite (.pullRead hk) (.pullLines (.pullRead hk))))) rfl rfl)) (.update (.update
          (.pullRead (.pullRead (.ite (.pullRead hk) (.pullLines (.pullRead hk))))) rfl rfl) rfl rfl)

theorem Keeps.pullRetryRow {s : State} (hk : Keeps s₀ s) : Keeps s₀ (pullRetryRow s) := by
  unfold Machine.pullRetryRow
  dsimp only
  split
  · exact hk
  · exact .update (.bump hk) rfl rfl

theorem Keeps.stompCopy {s : State} {u : ℕ} {c : ℕ} {f : CrsFrame} (hk : Keeps s₀ s) : Keeps s₀ (stompCopy s u c f) :=
  .onlyIf (.ite (.ite (.addCredit (.unqueue hk)) (.unqueue hk)) hk) (.stomp (.setUnit (.refl _)))

theorem Keeps.dropSegment {s : State} {u : ℕ} {f : CrsFrame} (hk : Keeps s₀ s) : Keeps s₀ (dropSegment s u f) :=
  .addCredit (.update (.setUnit hk) rfl rfl)

theorem Keeps.cutThroughFail {s : State} {port : Nat} {m : CrsMsg} {f : CrsFrame} (hk : Keeps s₀ s) : Keeps s₀ (cutThroughFail s port m f) := by
  unfold Machine.cutThroughFail
  refine .ite hk (.ite ?_ (.ite (.putTctx (.stompCopy hk)) (.ite (.putTctx (.foldl (.dropSegment hk) fun _ _ hk => .stompCopy hk)) hk)))
  dsimp only
  split
  · exact hk
  · exact .ite hk (.putTctx (.resendFrame (.ite (.stomp (.setUnit hk)) (.setUnit hk))))

end Sys2Proof.Machine
end

section
/-! SUPPORT. That the operations of the update unit, interrupts and containment keep what no command changes. -/

namespace Sys2Proof.Machine

variable {s₀ : State}

theorem Keeps.updLdataWrite {s : State} {v : ℕ} (hk : Keeps s₀ s) : Keeps s₀ (updLdataWrite s v).1 :=
  .ite_fst (.pair hk) (.ite_fst (.pair hk) (.pair (.update (.setRegN hk) rfl rfl)))

theorem Keeps.updLdataRead {s : State} (hk : Keeps s₀ s) : Keeps s₀ (updLdataRead s).1 := .pair (.update hk rfl rfl)

theorem Keeps.updError {s : State} {kind : ℕ} {t : Tag} {layer : ℕ} (hk : Keeps s₀ s) : Keeps s₀ (updError s kind t layer) :=
  .ite (.setRegN (.record hk)) (.record hk)

theorem Keeps.updEnqueue {s : State} {t : Tag} {src : UpdSrc} (hk : Keeps s₀ s) : Keeps s₀ (updEnqueue s t src) :=
  .ite (.bump hk) (.update hk rfl rfl)

theorem Keeps.recordHandoff {s : State} (hk : Keeps s₀ s) : Keeps s₀ (recordHandoff s) := by
  unfold Machine.recordHandoff
  split
  · exact hk
  · exact .ite hk (.updEnqueue (.update hk rfl rfl))

theorem Keeps.unitPush {s : State} {core : ℕ} {x : Ctx} {q : ℕ} {src : ℕ} {data : ℕ} (hk : Keeps s₀ s) : Keeps s₀ (unitPush s core x q src data) :=
  .update hk rfl rfl

theorem Keeps.thinnedHandoff {s : State} (hk : Keeps s₀ s) : Keeps s₀ (thinnedHandoff s) := by
  unfold Machine.thinnedHandoff
  split
  · exact hk
  · exact .ite (.bumpBy (.update hk rfl rfl)) (.ite (.ite hk (.updEnqueue (.update hk rfl rfl))) (.ite (.update hk rfl rfl) (.ite hk (.unitPush
      (.update (.update hk rfl rfl) rfl rfl)))))

theorem Keeps.submitWrite {s : State} {p : ℕ} {v : ℕ} (hk : Keeps s₀ s) : Keeps s₀ (submitWrite s p v) :=
  .ite (.bump (.raise (.updError hk))) (.ite (.lateInput hk) (.updEnqueue (.update hk rfl rfl)))

theorem Reading.Keeping.gradBlock {x : UpdSlice} {i b : Nat} : (gradBlock x i b).Keeping := by
  unfold Machine.gradBlock
  refine .bind .get fun _ => ?_
  dsimp only
  split
  · exact .pure
  · exact .bind .trainRead fun _ => .bind .trainRead fun _ => .bind .trainRead fun _ => .pure
  · exact .bind .trainRead fun _ => .pure

theorem Reading.Keeping.emptySlice {x : UpdSlice} {n : Nat} : (emptySlice x n).Keeping := by
  induction n with
  | zero => exact .pure
  | succ n ih => exact .bind .gradBlock fun _ => .ite ih .pure

theorem Reading.Keeping.lagValid {w : List Nat} {n0 step : Nat} : (lagValid w n0 step).Keeping :=
  .bind .tableRead fun _ => .bind .tableRead fun _ => .pure

theorem Keeps.satMade {s : State} {n : ℕ} (hk : Keeps s₀ s) : Keeps s₀ (satMade s n) := .ite hk (.bumpBy (.raise hk))

theorem Reading.Keeping.carried {w : List Nat} {lag : Bool} {gen word : Nat} : (carried w lag gen word).Keeping :=
  .ite (.bind .tableRead fun _ => .pure) .pure

theorem Reading.Keeping.startColumns {w : List Nat} {lag : Bool} {p word n : Nat} : (startColumns w lag p word n).Keeping := by
  induction n generalizing word with
  | zero => exact .pure
  | succ n ih => exact .bind .carried fun _ => .bind (.modify .trainWrite) fun _ => ih

theorem Reading.Keeping.startGeneration {x : UpdSlice} {n0 : Nat} {lag : Bool} : (startGeneration x n0 lag).Keeping :=
  .bind .tableRead fun _ => .ite .pure (.bind .startColumns fun _ => .modify fun hk => .trainWrite (.trainWrite hk))

theorem Reading.Keeping.addWords {a : Nat} {l : List Nat} : (addWords a l).Keeping := by
  induction l generalizing a with
  | nil => exact .pure
  | cons x r ih => exact .bind .tableRead fun _ => .bind (.modify .trainWrite) fun _ => .bind ih fun _ => .pure

theorem Reading.Keeping.statLine {x : UpdSlice} {n0 i b : Nat} {lag : Bool} {gs : List (Option Nat)} : (statLine x n0 i b lag gs).Keeping :=
  .bind (.ite .carried .tableRead) fun _ => .bind (.modify .trainWrite) fun _ => .bind .addWords fun _ => .modify .satMade

theorem Reading.Keeping.finishStats {x : UpdSlice} {n0 slices : Nat} : (finishStats x n0 slices).Keeping :=
  .bind .tableRead fun _ => .bind .tableRead fun _ => .bind .tableRead fun _ => .modify fun hk => .satMade (.trainWrite (.trainWrite hk))

theorem Reading.Keeping.lagBlock {x : UpdSlice} {n0 i b : Nat} {lag : Bool} : (lagBlock x n0 i b lag).Keeping :=
  .ite (.bind .tableRead fun _ => .bind .tableRead fun _ => .bind .tableRead fun _ => .pure) .pure

theorem Reading.Keeping.readVals {a n : Nat} : (readVals a n).Keeping := .bind .trainRead fun _ => .pure

theorem Keeps.nonFiniteMade {s : State} {n : ℕ} (hk : Keeps s₀ s) : Keeps s₀ (nonFiniteMade s n) := .ite hk (.bumpBy (.raise hk))

theorem Keeps.setSlice {s : State} {n : ℕ} {x : UpdSlice} (hk : Keeps s₀ s) : Keeps s₀ (s.setSlice n x) := .update hk rfl rfl

theorem Reading.Keeping.lineWork {n : Nat} {x : UpdSlice} : (lineWork n x).Keeping := by
  unfold Machine.lineWork
  refine .bind .get fun _ => .bind .gradBlock fun _ => .bind .lagValid fun _ => .bind .lagBlock fun _ => .bind .readVals fun _ =>
    .bind (.ite .readVals .pure) fun _ => .bind (.modify .nonFiniteMade) fun _ => ?_
  dsimp only
  refine .ite (.bind .startGeneration fun _ => ?_) ?_ <;> refine .bind .statLine fun _ => .ite (.bind .finishStats fun _ => ?_) ?_ <;>
    exact .ite (.modify .setSlice) (.modify fun hk => .setSlice (.ite (.trainWrite (.ite (.trainWrite (.nonFiniteMade hk)) (.nonFiniteMade hk)))
      (.ite (.trainWrite (.nonFiniteMade hk)) (.nonFiniteMade hk))))

theorem Keeps.updateLine {s : State} {n : ℕ} (hk : Keeps s₀ s) : Keeps s₀ (updateLine s n) := by
  unfold Machine.updateLine
  split
  · exact hk
  · exact .ite hk (.whenRead hk .lineWork (fun _ _ hk1 => hk1))

theorem Keeps.stepBoundary {s : State} {step : ℕ} (hk : Keeps s₀ s) : Keeps s₀ (stepBoundary s step) :=
  .ite hk (.setRegN (.ite (.setReg (.setReg hk)) (.raise (.bumpReg (.setReg hk)))))

theorem Keeps.stepSize {s : State} {w : List ℕ} {t : Tag} {layer : ℕ} (hk : Keeps s₀ s) : Keeps s₀ (stepSize s w t layer).1 :=
  .pair (.ite hk (.bump (.raise (.updError hk))))

theorem Keeps.chooseRule {s : State} {w : List ℕ} {t : Tag} {layer : ℕ} {empty : Bool} {lag : Bool} (hk : Keeps s₀ s) : Keeps s₀ (chooseRule s w t
    layer empty lag).1 :=
  .ite_fst (.pair hk) (.pair (.ite (.bump (.raise (.updError hk))) hk))

theorem Reading.Keeping.sliceFacts {x : UpdSlice} {n0 : Nat} : (sliceFacts x n0).Keeping :=
  .bind .emptySlice fun _ => .bind .lagValid fun _ => .pure

theorem Keeps.sliceBegin {s : State} (hk : Keeps s₀ s) : Keeps s₀ (sliceBegin s) := by
  unfold Machine.sliceBegin
  dsimp only
  split
  · exact .ite (.bump (.raise (.updError (.stepBoundary (.update hk rfl rfl))))) (.whenRead hk .sliceFacts (fun _ _ hk1 => .update (.setSlice
      (.stepSize (.chooseRule (.stepBoundary (.update hk1 rfl rfl))))) rfl rfl))
  · exact hk

theorem Keeps.admissionRetry {s : State} (hk : Keeps s₀ s) : Keeps s₀ (admissionRetry s) := by
  unfold Machine.admissionRetry
  dsimp only
  split
  · exact hk
  · exact .update (.bump (.setSlice hk)) rfl rfl

theorem Reading.Keeping.gatherBlocks {α : Type} {f : Nat → Reading (List α)} {n b : Nat} (hf : ∀ b, (f b).Keeping) :
    (gatherBlocks f n b).Keeping := by
  induction n generalizing b with
  | zero => exact .pure
  | succ n ih => exact .bind (hf b) fun _ => .bind ih fun _ => .pure

theorem Reading.Keeping.batchRead {x : UpdSlice} {i h : Nat} : (batchRead x i h).Keeping :=
  .bind .get fun _ => .bind (.gatherBlocks fun _ => .bind .gradBlock fun _ => .pure) fun _ => .bind (.gatherBlocks fun _ => .readVals) fun _ =>
    .bind (.ite (.gatherBlocks fun _ => .readVals) .pure) fun _ => .bind (.ite (.gatherBlocks fun _ => .readVals) .pure) fun _ =>
    .bind .lagValid fun _ => .bind (.gatherBlocks fun _ => .lagBlock) fun _ => .pure

theorem Keeps.batchSend {s : State} {n : ℕ} {x : UpdSlice} {i : ℕ} {h : ℕ} {core : ℕ} {slot : ℕ} {d : BatchData} (hk : Keeps s₀ s) : Keeps s₀
    (batchSend s n x i h core slot d) :=
  .update (.setSlice (.unitPush (.update hk rfl rfl))) rfl rfl

theorem Keeps.batchPush {s : State} {n : ℕ} (hk : Keeps s₀ s) : Keeps s₀ (batchPush s n) := by
  unfold Machine.batchPush
  split
  · exact hk
  · refine .ite hk ?_
    split
    · exact hk
    · exact .whenRead hk .batchRead (fun _ _ hk1 => .batchSend hk1)

theorem Keeps.finishBatch {s : State} {n : ℕ} {x : UpdSlice} {k : Batch} {new : Option (List (ℕ × ℕ × ℕ))} (hk : Keeps s₀ s) : Keeps s₀ (finishBatch s
    n x k new) :=
  .setSlice (.onlyIf (.onlyIf (.ite (.trainWrite (.nonFiniteMade hk)) (.nonFiniteMade hk)) (.trainWrite (.refl _))) (.trainWrite (.refl _)))

theorem Keeps.dropBatch {s : State} {tok : ℕ} (hk : Keeps s₀ s) : Keeps s₀ (dropBatch s tok) := .update hk rfl rfl

theorem Keeps.bdone {s : State} {tok : ℕ} (hk : Keeps s₀ s) : Keeps s₀ (bdone s tok) := by
  unfold Machine.bdone
  split
  · exact .bump hk
  · refine .ite (.dropBatch hk) ?_
    split
    · exact .dropBatch hk
    · exact .bump (.dropBatch (.finishBatch hk))

theorem Keeps.batchTimeout {s : State} (hk : Keeps s₀ s) : Keeps s₀ (batchTimeout s) := by
  unfold Machine.batchTimeout
  dsimp only
  split
  · exact hk
  · split
    · exact .dropBatch hk
    · exact .update (.bump (.raise (.updError (.finishBatch hk)))) rfl rfl

theorem Keeps.paramWrite {s : State} {n : ℕ} (hk : Keeps s₀ s) : Keeps s₀ (paramWrite s n) := by
  unfold Machine.paramWrite
  split
  · exact hk
  · exact .ite hk (.whenRead hk .tableRead (fun _ _ hk1 => .homeSlice (.update (.setSlice hk1) rfl rfl)))

theorem Keeps.etaNextWrite {s : State} {v : ℕ} (hk : Keeps s₀ s) : Keeps s₀ (etaNextWrite s v) := .setField (.setRegN hk)

theorem Keeps.updEnableWrite {s : State} {v : ℕ} (hk : Keeps s₀ s) : Keeps s₀ (updEnableWrite s v) := .setRegN hk

theorem Keeps.oldIdle {s : State} (hk : Keeps s₀ s) : Keeps s₀ (oldIdle s) := .ite (.raise (.setRegN hk)) hk

theorem Keeps.setSic {s : State} {c : ℕ} {v : Sic} (hk : Keeps s₀ s) : Keeps s₀ (s.setSic c v) := .update hk rfl rfl

theorem Keeps.sicDeliver {s : State} {c : ℕ} (hk : Keeps s₀ s) : Keeps s₀ (sicDeliver s c) := by
  unfold Machine.sicDeliver
  split
  · exact hk
  · exact .ite hk (.bump (.setSic (.unitPush hk)))

theorem Keeps.setLicTarget {s : State} {t : ℕ} {v : LicTarget} (hk : Keeps s₀ s) : Keeps s₀ (s.setLicTarget t v) := .update hk rfl rfl

theorem Keeps.settleTarget {s : State} {t : ℕ} (hk : Keeps s₀ s) : Keeps s₀ (settleTarget s t) := .ite hk (.setLicTarget hk)

theorem Keeps.settleLic {s : State} (hk : Keeps s₀ s) : Keeps s₀ (settleLic s) := .foldl hk (fun _ _ hk1 => .settleTarget hk1)

theorem Keeps.sourceLineChange {s : State} {n : ℕ} (hk : Keeps s₀ s) : Keeps s₀ (sourceLineChange s n) := by
  unfold Machine.sourceLineChange
  split
  · exact hk
  · exact .ite hk (.ite hk (.settleLic (.update hk rfl rfl)))

theorem Keeps.sicComplete {s : State} {c : ℕ} {v : ℕ} (hk : Keeps s₀ s) : Keeps s₀ (sicComplete s c v) :=
  .ite (.setSic hk) (.bump (.raise (.bumpReg hk)))

theorem Keeps.sicSwset {s : State} {c : ℕ} {v : ℕ} (hk : Keeps s₀ s) : Keeps s₀ (sicSwset s c v).1 := .ite_fst (.pair hk) (.pair (.setSic hk))

theorem Keeps.sicSrcWrite {s : State} {c : ℕ} {n : ℕ} {v : ℕ} (hk : Keeps s₀ s) : Keeps s₀ (sicSrcWrite s c n v).1 := .pair (.settleLic (.setRegN hk))

theorem Keeps.licClaim {s : State} {t : ℕ} (hk : Keeps s₀ s) : Keeps s₀ (licClaim s t).1 := by
  unfold Machine.licClaim
  refine .ite_fst (.pair (.bump (.raise (.ite (.update hk rfl rfl) hk)))) ?_
  split
  · exact .pair (.bump (.ite (.update hk rfl rfl) hk))
  · exact .pair (.bump (.settleLic (.update (.setLicTarget (.ite (.update hk rfl rfl) hk)) rfl rfl)))

theorem Keeps.licComplete {s : State} {t : ℕ} {v : ℕ} (hk : Keeps s₀ s) : Keeps s₀ (licComplete s t v) := by
  unfold Machine.licComplete
  dsimp only
  split
  · exact .bump (.raise hk)
  · exact .ite (.settleLic (.update (.setLicTarget hk) rfl rfl)) (.ite (.bump (.raise (.record hk))) (.bump (.raise hk)))

theorem Keeps.licScfgWrite {s : State} {v : ℕ} (hk : Keeps s₀ s) : Keeps s₀ (licScfgWrite s v).1 :=
  .ite_fst (.pair hk) (.ite_fst (.pair hk) (.pair (.settleLic (.ite (.update (.update hk rfl rfl) rfl rfl) (.update hk rfl rfl)))))

theorem Keeps.licEdge {s : State} {n : ℕ} (hk : Keeps s₀ s) : Keeps s₀ (licEdge s n) := .settleLic (.update hk rfl rfl)

theorem Keeps.licSwset {s : State} {v : ℕ} (hk : Keeps s₀ s) : Keeps s₀ (licSwset s v).1 := .ite_fst (.pair hk) (.pair (.licEdge hk))

theorem Keeps.hostDoorbell {s : State} {n : ℕ} {prio : ℕ} (hk : Keeps s₀ s) : Keeps s₀ (hostDoorbell s n prio) :=
  .ite (.update (.sendMsg (.bump hk)) rfl rfl) (.raise (.bump hk))

theorem Keeps.licDeliver {s : State} {t : ℕ} {waiting : Bool} (hk : Keeps s₀ s) : Keeps s₀ (licDeliver s t waiting) := by
  unfold Machine.licDeliver
  dsimp only
  split
  · exact .ite hk (.update hk rfl rfl)
  · exact .unless (.ite hk (.update hk rfl rfl)) (.ite (.hostDoorbell (.setField (.bump (.setLicTarget (.refl _))))) (.update (.bump (.setLicTarget
      (.refl _))) rfl rfl))

theorem Keeps.moderationExpiry {s : State} {t : ℕ} (hk : Keeps s₀ s) : Keeps s₀ (moderationExpiry s t) := .ite (.setLicTarget hk) hk

theorem Keeps.idleHostWrite {s : State} {v : ℕ} (hk : Keeps s₀ s) : Keeps s₀ (idleHostWrite s v) := .ite (.update (.setField hk) rfl rfl) hk

theorem Keeps.spyPending {s : State} (hk : Keeps s₀ s) : Keeps s₀ (spyPending s) := .foldl hk (fun _ _ hk1 => .licEdge hk1)

theorem Keeps.relock {s : State} {d : ℕ} (hk : Keeps s₀ s) : Keeps s₀ (relock s d) := .ite (.spyPending (.clkRelock hk)) (.clkRelock hk)

theorem Keeps.spyglassHit {s : State} {n : ℕ} (hk : Keeps s₀ s) : Keeps s₀ (spyglassHit s n) := by
  unfold Machine.spyglassHit
  dsimp only
  split
  · exact hk
  · exact .ite hk (.onlyIf (.foldl (.bump (.raise (.setField hk))) (fun _ _ hk1 => .bump (.update hk1 rfl rfl))) (.licEdge (.refl _)))

theorem Keeps.setBox {s : State} {k : ℕ} {l : List ℕ} (hk : Keeps s₀ s) : Keeps s₀ (s.setBox k l) := .update hk rfl rfl

theorem Keeps.boxSend {s : State} {k : ℕ} {msg : ℕ} {who : Requester} (hk : Keeps s₀ s) : Keeps s₀ (boxSend s k msg who) :=
  .ite (.logReq (.bump (.raise hk))) (.bump (.raise (.setBox hk)))

theorem Keeps.boxDoorbell {s : State} {k : ℕ} {bits : ℕ} (hk : Keeps s₀ s) : Keeps s₀ (boxDoorbell s k bits) := .bump (.raise (.setReg hk))

theorem Keeps.boxEmpty {s : State} {k : ℕ} (hk : Keeps s₀ s) : Keeps s₀ (boxEmpty s k) := by
  unfold Machine.boxEmpty
  dsimp only
  split
  · exact hk
  · exact .bump hk
  · exact .ite (.sendMsg (.bump hk)) (.bump hk)
  · exact .licEdge (.bump hk)

theorem Keeps.boxPop {s : State} {k : ℕ} (hk : Keeps s₀ s) : Keeps s₀ (boxPop s k) := by
  unfold Machine.boxPop
  split
  · exact .bump hk
  · exact .ite (.boxEmpty (.raise (.bump (.setBox hk)))) (.bump (.setBox hk))

theorem Keeps.boxCfgWrite {s : State} {k : ℕ} {v : ℕ} (hk : Keeps s₀ s) : Keeps s₀ (boxCfgWrite s k v).1 := .ite_fst (.pair hk) (.pair (.setRegN hk))

theorem Keeps.boxReset {s : State} {k : ℕ} (hk : Keeps s₀ s) : Keeps s₀ (boxReset s k) := .setReg (.foldl (.setBox hk) (fun _ _ hk1 => .setStage hk1))

theorem Keeps.ctxReset {s : State} {id : CoreId} {x : Ctx} (hk : Keeps s₀ s) : Keeps s₀ (ctxReset s id x) :=
  .foldl (.setCore hk) (fun _ _ hk1 => .setRegN hk1)

theorem Keeps.coreReset {s : State} {id : CoreId} (hk : Keeps s₀ s) : Keeps s₀ (coreReset s id) :=
  .onlyIf (.foldl (.update (.setCore (.countCycles hk)) rfl rfl) (fun _ _ hk1 => .foldl hk1 (fun _ _ hk2 => .setRegN hk2))) (.abandonLoupes
      (.abandonMirror (.abandonMirror (.refl _))))

theorem Keeps.haltClusters {s : State} {cs : List ℕ} (hk : Keeps s₀ s) : Keeps s₀ (haltClusters s cs) := .foldl hk (fun _ _ hk1 => .haltAllCore hk1)

theorem Keeps.clearCluster {s : State} {c : ℕ} (hk : Keeps s₀ s) : Keeps s₀ (clearCluster s c) :=
  .setSic (.setMover (.foldl (.stashRelease (.rowAbort hk)) (fun _ _ hk1 => .cancelMove hk1)))

theorem Keeps.killCore {s : State} {id : CoreId} (hk : Keeps s₀ s) : Keeps s₀ (killCore s id) := by
  unfold Machine.killCore
  exact .modCore (.foldl hk (fun _ _ hk1 => .ite (.ctxReset hk1) (.modCore hk1)))

theorem Keeps.killWrite {s : State} {v : ℕ} (hk : Keeps s₀ s) : Keeps s₀ (killWrite s v).1 :=
  .ite_fst (.pair hk) (.ite_fst (.pair (.raise hk)) (.pair (.haltClusters (.update hk rfl rfl))))

theorem Keeps.nextKill {s : State} (hk : Keeps s₀ s) : Keeps s₀ (nextKill s) := by
  unfold Machine.nextKill
  split
  · exact hk
  · exact .haltClusters (.update hk rfl rfl)

theorem Keeps.killAll {s : State} (hk : Keeps s₀ s) : Keeps s₀ (killAll s) := by
  unfold Machine.killAll
  exact .unless (.haltClusters (.update hk rfl rfl)) (.nextKill (.refl _))

theorem Keeps.killDone {s : State} (hk : Keeps s₀ s) : Keeps s₀ (killDone s) := by
  unfold Machine.killDone
  split
  · exact hk
  · exact .ite hk (.ite hk (.nextKill (.bump (.raise (.update (.foldl (.foldl hk (fun _ _ hk1 => .killCore hk1)) (fun _ _ hk1 => .clearCluster hk1))
      rfl rfl)))))

theorem Keeps.fence {s : State} {p : ℕ} (hk : Keeps s₀ s) : Keeps s₀ (fence s p) := .haltClusters (.setRegN hk)

theorem Keeps.endSession {s : State} (hk : Keeps s₀ s) : Keeps s₀ (endSession s) := .update hk rfl rfl

theorem Keeps.enterStage {s : State} {n : ℕ} (hk : Keeps s₀ s) : Keeps s₀ (s.enterStage n) := .setField hk

theorem Keeps.startWarm {s : State} {cls : ℕ} (hk : Keeps s₀ s) : Keeps s₀ (startWarm s cls) := by
  unfold Machine.startWarm
  split
  · exact .update hk rfl rfl
  · exact .onlyIf (.endSession (.update (.update (.foldl hk (fun _ _ hk1 => .fence hk1)) rfl rfl) rfl rfl)) (.enterStage (.refl _))

theorem Keeps.takeTrigger {s : State} {cause : ℕ} {target : ℕ} {cluster : ℕ} (hk : Keeps s₀ s) : Keeps s₀ (takeTrigger s cause target cluster) :=
  .ite (.startWarm (.raise (.record hk))) (.ite (.raise (.record hk)) (.unless (.bump (.raise (.record hk))) (.fence (.update (.refl _) rfl rfl))))

theorem Keeps.sharedTrigger {s : State} (hk : Keeps s₀ s) : Keeps s₀ (sharedTrigger s) := by
  unfold Machine.sharedTrigger
  split
  · exact hk
  · exact .takeTrigger (.update hk rfl rfl)

theorem Keeps.partResetWrite {s : State} {v : ℕ} (hk : Keeps s₀ s) : Keeps s₀ (partResetWrite s v) := .foldl hk (fun _ _ hk1 => .takeTrigger hk1)

theorem Keeps.drainTimeout {s : State} {what : ℕ} (hk : Keeps s₀ s) : Keeps s₀ (drainTimeout s what) := by
  unfold Machine.drainTimeout
  refine .ite ?_ ?_
  · split
    · exact .ite (.nextKill (.takeTrigger (.bump (.raise (.update hk rfl rfl))))) hk
    · exact hk
  · refine .ite ?_ ?_
    · split
      · exact .ite (.takeTrigger (.bump (.raise hk))) hk
      · exact hk
    · split
      · exact .ite (.bump (.raise (.update hk rfl rfl))) hk
      · exact hk

theorem Keeps.retireSite {s : State} {site : ℕ} (hk : Keeps s₀ s) : Keeps s₀ (retireSite s site) := by
  unfold Machine.retireSite
  exact .retireUnits hk

theorem Keeps.sparesPending {s : State} (hk : Keeps s₀ s) : Keeps s₀ (sparesPending s) := by
  unfold Machine.sparesPending
  split <;> exact .setField (.setField hk)

theorem Keeps.promoteFrom {test : Nat → Bool} {s : State} {c : Nat} {sites : List Nat} (hk : Keeps s₀ s) :
    Keeps s₀ (promoteFrom test s c sites).1 := by
  induction sites generalizing s with
  | nil => exact .update hk rfl rfl
  | cons n rest ih =>
    unfold Machine.promoteFrom
    exact .ite_fst (ih (.update hk rfl rfl)) (.ite_fst (ih hk)
      (.pair (.sparesPending (.bump (.retireSite (.fixAttachments (.update hk rfl rfl)))))))

theorem Keeps.promoteDue {s : State} {cs : List ℕ} (hk : Keeps s₀ s) : Keeps s₀ (promoteDue s cs) := .foldl hk (fun _ _ hk1 => .promoteFrom hk1)

theorem Keeps.failContexts {s : State} {mine : TalCtx → Bool} (hk : Keeps s₀ s) : Keeps s₀ (failContexts s mine) :=
  .foldl hk (fun _ _ hk1 => .failCtx hk1)

theorem Keeps.clearTraining {s : State} (hk : Keeps s₀ s) : Keeps s₀ (clearTraining s) := .update (.setField (.setField (.setField hk))) rfl rfl

theorem Keeps.clearClusters {s : State} {cs : List ℕ} (hk : Keeps s₀ s) : Keeps s₀ (clearClusters s cs) :=
  .promoteDue (.foldl (.foldl hk (fun _ _ hk1 => .coreReset hk1)) (fun _ _ hk1 => .boxReset (.clearCluster hk1)))

theorem Keeps.clearPart {s : State} {p : ℕ} (hk : Keeps s₀ s) : Keeps s₀ (clearPart s p) :=
  .raise (.update (.onlyIf (.failContexts (.clearClusters hk)) (.clearTraining (.refl _))) rfl rfl)

theorem Keeps.resetPages {s : State} {p : Page → Bool} {keep : ℕ → Bool} (hk : Keeps s₀ s) : Keeps s₀ (resetPages s p keep) := .update hk rfl rfl

theorem Keeps.ringmasterReset {s : State} (hk : Keeps s₀ s) : Keeps s₀ (ringmasterReset s) :=
  .spyPending (.unless (.foldl (.update (.update (.resetPages (.foldl hk (fun _ _ hk1 => .boxReset hk1))) rfl rfl) rfl rfl) (fun _ _ hk1 => .retune
      (.setClock hk1))) (.update (.retireUnits (.refl _)) rfl rfl))

theorem Keeps.warmStage {s : State} (hk : Keeps s₀ s) : Keeps s₀ (warmStage s) := .ite hk (.ite (.enterStage hk) (.enterStage hk))

theorem Keeps.targetsAcknowledged {s : State} {what : ℕ} (hk : Keeps s₀ s) : Keeps s₀ (targetsAcknowledged s what) := by
  unfold Machine.targetsAcknowledged
  refine .ite (.ite (.clearPart hk) hk) ?_
  split
  · exact hk
  · exact .ite (.warmStage (.bump (.raise (.update (.ringmasterReset (.clearTraining (.failContexts (.clearClusters hk)))) rfl rfl)))) hk

theorem Keeps.partConfigWrite {s : State} {off : ℕ} {v : ℕ} (hk : Keeps s₀ s) : Keeps s₀ (partConfigWrite s off v).1 :=
  .ite_fst (.pair (.setRegN hk)) (.pair hk)

end Sys2Proof.Machine
end

section
/-! SUPPORT. That the operations of a core, HBM, power and the service edge keep what no command changes. -/

namespace Sys2Proof.Machine

variable {s₀ : State}

theorem Keeps.inCycle {s : State} {id : CoreId} {t : ℕ} {act : State → State} (hk : Keeps s₀ s) (hact : ∀ s, Keeps s₀ s → Keeps s₀ (act s)) : Keeps s₀
    (inCycle s id t act) :=
  .ite (hact _ (.modCore hk)) hk

theorem Keeps.pushConflict {id : CoreId} {s : State} {p : Pend} (hk : Keeps s₀ s) : Keeps s₀ (pushConflict id s p) := by
  unfold Machine.pushConflict
  split
  · exact .ite (.haltCtx hk) hk
  · exact hk

theorem Keeps.fillMeets {s : State} {id : CoreId} {t : ℕ} {mine : List Pend} (hk : Keeps s₀ s) : Keeps s₀ (fillMeets s id t mine) := by
  unfold Machine.fillMeets
  split
  · exact .ite (.foldl hk (fun _ _ hk1 => .coreHazard hk1)) hk
  · exact hk

theorem Keeps.resultCommit {s : State} {id : CoreId} {t : ℕ} (hk : Keeps s₀ s) : Keeps s₀ (resultCommit s id t) :=
  .ite hk (.inCycle hk (fun _ hk1 => .foldl (.commitAll (.ite (.fillMeets (.settlePorts (.modCore hk1))) (.modCore hk1))) (fun _ _ hk2 =>
      .pushConflict hk2)))

theorem Keeps.contextIdle {s : State} {id : CoreId} {x : Ctx} {t : ℕ} (hk : Keeps s₀ s) : Keeps s₀ (contextIdle s id x t) :=
  .ite (.inCycle hk (fun _ hk1 => .raise (.modCore hk1))) hk

theorem Keeps.haltComplete {s : State} {id : CoreId} {x : Ctx} {t : ℕ} (hk : Keeps s₀ s) : Keeps s₀ (haltComplete s id x t) :=
  .ite (.inCycle hk (fun _ hk1 => .raise (.modCore hk1))) hk

theorem Keeps.haltRequest {s : State} {id : CoreId} {x : Ctx} (hk : Keeps s₀ s) : Keeps s₀ (haltRequest s id x) := .ite (.haltCtx hk) hk

theorem Keeps.resetRequest {s : State} {id : CoreId} {x : Ctx} (hk : Keeps s₀ s) : Keeps s₀ (resetRequest s id x) := by
  unfold Machine.resetRequest
  split
  · exact .ctxReset hk
  · exact .ctxReset hk
  · exact .bump hk

theorem Keeps.resumeRequest {s : State} {id : CoreId} {x : Ctx} {who : Requester} {t : ℕ} (hk : Keeps s₀ s) : Keeps s₀ (resumeRequest s id x who t) :=
  .ite (.bump hk) (.ite (.logReq (.bump hk)) (.sendAll (.foldl (.modCore hk) (fun _ _ hk1 => .setRegN hk1))))

theorem Keeps.runRequest {s : State} {id : CoreId} {x : Ctx} {t : ℕ} (hk : Keeps s₀ s) : Keeps s₀ (runRequest s id x t) :=
  .ite (.modCore hk) (.bump hk)

theorem Keeps.ctxCtrlWrite {s : State} {id : CoreId} {x : Ctx} {who : Requester} {t : ℕ} {v : ℕ} (hk : Keeps s₀ s) : Keeps s₀ (ctxCtrlWrite s id x who
    t v) :=
  .onlyIf (.onlyIf (.onlyIf (.ite (.haltRequest hk) hk) (.resetRequest (.refl _))) (.resumeRequest (.refl _))) (.runRequest (.refl _))

theorem Keeps.coreCtrlWrite {s : State} {id : CoreId} {who : Requester} {v : ℕ} (hk : Keeps s₀ s) : Keeps s₀ (coreCtrlWrite s id who v) :=
  .onlyIf (.setRegN (.ite (.modCore (.ite (.logReq hk) hk)) (.ite (.logReq hk) hk))) (.haltAllCore (.refl _))

theorem Keeps.qcfgWrite {s : State} {id : CoreId} {x : Ctx} {v : ℕ} (hk : Keeps s₀ s) : Keeps s₀ (qcfgWrite s id x v).1 :=
  .ite_fst (.pair hk) (.pair (.modCore hk))

theorem Keeps.pcWrite {s : State} {id : CoreId} {x : Ctx} {access : Bool} {v : ℕ} (hk : Keeps s₀ s) : Keeps s₀ (pcWrite s id x access v).1 := by
  unfold Machine.pcWrite
  split
  · exact .pair hk
  · exact .pair hk
  · exact .pair (.modCore hk)

theorem Keeps.remoteFlagWrite {s : State} {id : CoreId} {t : ℕ} (hk : Keeps s₀ s) : Keeps s₀ (remoteFlagWrite s id t) := by
  unfold Machine.remoteFlagWrite
  split
  · exact hk
  · exact .inCycle hk (fun _ hk1 => .modCore hk1)

theorem Keeps.externalArrive {s : State} {id : CoreId} {x : Ctx} {q : ℕ} {src : ℕ} {data : Entry} {t : ℕ} {own : Bool} (hk : Keeps s₀ s) : Keeps s₀
    (externalArrive s id x q src data t own) :=
  .ite (.haltCtx (.modCore hk)) (.ite (.haltCtx hk) (.ite (.haltCtx (.modCore hk)) (.modCore hk)))

theorem Keeps.externalPush {s : State} {id : CoreId} {x : Ctx} {q : ℕ} {src : ℕ} {data : Entry} {t : ℕ} (hk : Keeps s₀ s) : Keeps s₀ (externalPush s
    id x q src data t) := by
  unfold Machine.externalPush
  dsimp only
  split
  · exact .inCycle hk (fun _ hk1 => .externalArrive (.modCore hk1))
  · exact .ite hk (.inCycle hk (fun _ hk1 => .externalArrive hk1))

theorem Keeps.deadlock {s : State} {id : CoreId} {t : ℕ} (hk : Keeps s₀ s) : Keeps s₀ (deadlock s id t) :=
  .ite hk (.inCycle hk (fun _ hk1 => .raise (.haltCore (.foldl hk1 (fun _ _ hk2 => .ite hk2 (.setRegN (.setRegN (.setRegN hk2))))))))

theorem Keeps.suppressed {s : State} {id : CoreId} (hk : Keeps s₀ s) : Keeps s₀ (suppressed s id) := .bump hk

theorem Keeps.serveTile {s : State} {id : CoreId} {n : ℕ} {seq : ℕ} {t : ℕ} {r : TileReq} {bytes : List Host.Cell} {marks : NSet} (hk : Keeps s₀ s) :
    Keeps s₀ (serveTile s id n seq t r bytes marks) := by
  unfold Machine.serveTile
  dsimp only
  split
  · exact .setSc (.storeAtomic hk)
  · refine .ite (.setSc (.suppressed hk)) ?_
    refine .ite hk ?_
    refine .ite ?_ ?_
    · refine .ite hk ?_
      refine .ite (.setSc (.arrive hk)) ?_
      split
      · exact .setSc (.accept hk)
      · exact .setSc (.readTile (.accept hk))
    · split
      · exact .setSc (.setStash hk)
      · split
        · exact .setSc (.accept hk)
        · exact .setSc (.writeTile (.accept hk))

theorem Keeps.tileResponse {s : State} {id : CoreId} {n : ℕ} {seq : ℕ} {t : ℕ} (hk : Keeps s₀ s) : Keeps s₀ (tileResponse s id n seq t) := by
  unfold Machine.tileResponse
  split
  · exact hk
  · exact .ite (.serveTile (.ite (.setCore hk) hk)) (.inCycle hk (fun _ hk1 => .serveTile (.ite (.setCore hk1) hk1)))

theorem Keeps.tileDelivered {s : State} {id : CoreId} {n : ℕ} {t : ℕ} (hk : Keeps s₀ s) : Keeps s₀ (tileDelivered s id n t) := by
  unfold Machine.tileDelivered
  dsimp only
  split
  · exact .ite hk (.inCycle hk (fun _ hk1 => .deliverTile (.ite hk1 (.settlePorts hk1))))
  · exact hk

theorem Keeps.faultTaken {s : State} {id : CoreId} {n : ℕ} {t : ℕ} (hk : Keeps s₀ s) : Keeps s₀ (faultTaken s id n t) := by
  unfold Machine.faultTaken
  split
  · exact .ite hk (.inCycle hk (fun _ hk1 => .onlyIf (.takeFault (.setCore hk1)) (.askMover (.refl _))))
  · exact hk

theorem Keeps.awaitedMover {s : State} {id : CoreId} {n : ℕ} {t : ℕ} (hk : Keeps s₀ s) : Keeps s₀ (awaitedMover s id n t) := .modCore hk

theorem Keeps.faultAnswer {s : State} {id : CoreId} {n : ℕ} {t : ℕ} (hk : Keeps s₀ s) : Keeps s₀ (faultAnswer s id n t) := by
  unfold Machine.faultAnswer
  refine .ite hk ?_
  split
  · exact hk
  · exact .inCycle hk (fun _ hk1 => .ite (.faultServiced (.awaitedMover hk1)) (.faultRefused (.awaitedMover hk1)))

theorem Keeps.faultTimeout {s : State} {id : CoreId} {n : ℕ} {t : ℕ} (hk : Keeps s₀ s) : Keeps s₀ (faultTimeout s id n t) :=
  .ite hk (.inCycle hk (fun _ hk1 => .faultRefused (.awaitedMover hk1)))

theorem Keeps.stashFullAt {s : State} {id : CoreId} {n : ℕ} {t : ℕ} (hk : Keeps s₀ s) : Keeps s₀ (stashFullAt s id n t) := by
  unfold Machine.stashFullAt
  dsimp only
  split
  · refine .ite hk ?_
    refine .inCycle hk (fun _ hk1 => ?_)
    refine .haltCtx ?_
    refine .sendAll ?_
    split
    · exact .stashFull (.setSc (.bumpBy (.setCore hk1)))
    · exact .setSc (.bumpBy (.setCore hk1))
  · exact hk

theorem Keeps.stopSweep {s : State} {id : CoreId} {sw : Sweep} {u : ℕ} {cause : ℕ} (hk : Keeps s₀ s) : Keeps s₀ (stopSweep s id sw u cause) := by
  unfold Machine.stopSweep
  refine .haltCore ?_
  refine .abandonLoupes ?_
  split
  · exact .onlyIf (.bumpBy (.countCycles (.bump (.setOpe hk)))) (.abandonMirror (.refl _))
  · exact .bumpBy (.countCycles (.bump (.setOpe hk)))

theorem Keeps.poisonConsumed {s : State} {id : CoreId} {t : ℕ} (hk : Keeps s₀ s) : Keeps s₀ (poisonConsumed s id t) := by
  unfold Machine.poisonConsumed
  split
  · exact hk
  · exact .ite hk (.stopSweep (.modCore hk))

theorem Keeps.toLedger {s : State} {unit : ℕ} {kind : ℕ} {locus : ℕ} (hk : Keeps s₀ s) : Keeps s₀ (s.toLedger unit kind locus) := .update hk rfl rfl

theorem Keeps.dueRemap {s : State} {stack : ℕ} {key : ℕ} (hk : Keeps s₀ s) : Keeps s₀ (dueRemap s stack key) := .ite hk (.setStack hk)

theorem Keeps.watchRow {s : State} {stack : ℕ} {key : ℕ} (hk : Keeps s₀ s) : Keeps s₀ (watchRow s stack key) :=
  .onlyIf (.ite (.bump (.setStack hk)) (.setStack hk)) (.dueRemap (.refl _))

theorem Keeps.watchLane {s : State} {h : HbmSpot} {errs : List SymErr} (hk : Keeps s₀ s) : Keeps s₀ (watchLane s h errs) := by
  unfold Machine.watchLane
  split
  · exact hk
  · exact .ite (.setStack hk) hk

theorem Keeps.poisonArises {s : State} {a : ℕ} (hk : Keeps s₀ s) : Keeps s₀ (poisonArises s a) := by
  unfold Machine.poisonArises
  split
  · exact .update hk rfl rfl
  · refine .ite (.foldl hk (fun _ _ hk1 => .ite (.trigger hk1) hk1)) ?_
    refine .ite ?_ (.ite (.trigger hk) (.trigger hk))
    split
    · exact .update hk rfl rfl
    · exact hk
  · exact hk

theorem Keeps.readSector {s : State} {line sector : Nat} {errs : List SymErr} {scrub : Bool} (hk : Keeps s₀ s) :
    Keeps s₀ (readSector s line sector errs scrub) := by
  unfold Machine.readSector
  dsimp only
  split
  · exact .updateMem (.bump hk) rfl (flipSector_wf _ _)
  · exact .watchLane (.watchRow (.toLedger (.raise (.bump (.updateMem (.bump hk) rfl (flipSector_wf _ _))))))
  · have hpoison {x : NSet} {p : Page} : Keeps s₀ (State.raise (State.bump { s.bump p 0 with mem.poison := x } p 3) p 2) :=
      .raise (.bump (.update (.bump hk) rfl rfl))
    exact .ite (.watchLane (.watchRow (.toLedger (.raise (.bump hpoison))))) hpoison
  · have hue {x : NSet} {p : Page} {v : Nat} :
        Keeps s₀ (State.record (State.raise (State.bump { s.bump p 0 with mem.poison := x } p 2) p 1) p 0x108 v) :=
      .record (.raise (.bump (.update (.bump hk) rfl rfl)))
    exact .dueRemap (.watchLane (.poisonArises (.toLedger (.ite (.setRegN hue) hue))))

theorem Keeps.hbmRead {s : State} {line : ℕ} {errs : List (ℕ × SymErr)} {scrub : Bool} (hk : Keeps s₀ s) : Keeps s₀ (hbmRead s line errs scrub) :=
  .ite hk (.foldl hk (fun _ _ hk1 => .readSector hk1))

theorem Keeps.hbmWrite {s : State} {line : ℕ} {off : ℕ} {n : ℕ} {data : Line} {mark : Bool} {errs : List (ℕ × SymErr)} (hk : Keeps s₀ s) : Keeps s₀
    (hbmWrite s line off n data mark errs) := by
  unfold Machine.hbmWrite
  dsimp only
  refine .ite hk ?_
  refine .onlyIf (.put (.foldl hk (fun _ _ hk1 => .ite (.readSector hk1) hk1))) ?_
  split
  · exact .setEntry (.poisonLine (.refl _))
  · exact .poisonLine (.refl _)

theorem Keeps.poisonNotice {s : State} (hk : Keeps s₀ s) : Keeps s₀ (poisonNotice s) := by
  unfold Machine.poisonNotice
  split
  · exact hk
  · exact .ite hk (.setEntry (.accept (.update hk rfl rfl)))

theorem Keeps.scrubRead {s : State} {stack : Nat} {errs : List (Nat × SymErr)} (hk : Keeps s₀ s) : Keeps s₀ (scrubRead s stack errs) := by
  unfold Machine.scrubRead
  dsimp only
  exact .ite (.setStack (.bump (.hbmRead hk))) hk

theorem Keeps.mapChanged {s : State} (hk : Keeps s₀ s) : Keeps s₀ (mapChanged s) := .update hk rfl rfl

theorem Keeps.readRowSectors {s : State} {stack : ℕ} {key : ℕ} {errs : List (ℕ × SymErr)} (hk : Keeps s₀ s) : Keeps s₀ (readRowSectors s stack key
    errs) :=
  .foldl hk (fun _ _ hk1 => .readSector hk1)

theorem Keeps.rowRemap {s : State} {stack : ℕ} {errs : List (ℕ × SymErr)} (hk : Keeps s₀ s) : Keeps s₀ (rowRemap s stack errs) := by
  unfold Machine.rowRemap
  dsimp only
  split
  · exact hk
  · exact .ite (.setStack hk) (.mapChanged (.onlyIf (.raise (.bump (.setStack (.readRowSectors hk)))) (.raise (.refl _))))

theorem Keeps.retireLine {s : State} {stack a : Nat} (hk : Keeps s₀ s) : Keeps s₀ (retireLine s stack a) := by
  unfold Machine.retireLine
  split
  · exact .ite (.setStack (.ite hk (.bump (.withRetired hk)))) (.ite hk (.bump (.withRetired hk)))
  · split
    · dsimp only
      split
      · exact .ite (.setStack (.ite hk (.bump (.withRetired hk)))) (.ite hk (.bump (.withRetired hk)))
      · exact .ite (.useSpare hk) (.bump (.withRetired (.useSpare hk)))
    · exact .raise hk
  · exact hk

theorem Keeps.rowRetire {s : State} {stack : ℕ} (hk : Keeps s₀ s) : Keeps s₀ (rowRetire s stack) := by
  unfold Machine.rowRetire
  dsimp only
  split
  · exact hk
  · exact .mapChanged (.foldl (.raise (.setStack hk)) (fun _ _ hk1 => .retireLine hk1))

theorem Keeps.repairMapWrite {s : State} (hk : Keeps s₀ s) : Keeps s₀ (repairMapWrite s) := by
  unfold Machine.repairMapWrite
  split
  · exact hk
  · exact .update hk rfl rfl

theorem Keeps.applyRepairMaps {s : State} (hk : Keeps s₀ s) : Keeps s₀ (applyRepairMaps s) :=
  .update (.foldl hk (fun _ _ hk1 => .setStack hk1)) rfl rfl

theorem Keeps.laneRepair {s : State} {stack : ℕ} (hk : Keeps s₀ s) : Keeps s₀ (laneRepair s stack) := by
  unfold Machine.laneRepair
  dsimp only
  split
  · exact hk
  · exact .ite (.mapChanged (.raise (.bump (.setStack (.toLedger hk))))) (.setStack (.toLedger hk))

theorem Keeps.trainChannel {s : State} {stack : ℕ} {ch : ℕ} {lanes : List ℕ} {command : Bool} {trained : Bool} (hk : Keeps s₀ s) : Keeps s₀
    (trainChannel s stack ch lanes command trained) :=
  .ite (.setStack hk) (.raise (.bump (.setStack hk)))

theorem Keeps.periodicRetrain {s : State} {stack : ℕ} {ch : ℕ} {lanes : List ℕ} {command : Bool} {trained : Bool} (hk : Keeps s₀ s) : Keeps s₀
    (periodicRetrain s stack ch lanes command trained) :=
  .ite hk (.trainChannel (.bump hk))

theorem Keeps.stackLost {s : State} {stack : ℕ} (hk : Keeps s₀ s) : Keeps s₀ (stackLost s stack) := by
  unfold Machine.stackLost
  dsimp only
  split
  · exact hk
  · exact .update (.raise (.raise (.setStack hk))) rfl rfl

theorem Keeps.bringUpChannel {s : State} {stack : ℕ} {ch : ℕ} {lanes : List ℕ} {command : Bool} {trained : Bool} (hk : Keeps s₀ s) : Keeps s₀
    (bringUpChannel s stack ch lanes command trained) :=
  .stackLost (.foldl (.trainChannel hk) (fun _ _ hk1 => .laneRepair hk1))

theorem Keeps.powerOn {s : State} (hk : Keeps s₀ s) : Keeps s₀ (powerOn s) := by
  unfold Machine.powerOn
  have hpower := Keeps.resetPages (p := fun p => !alwaysOn p.domain) (keep := fun _ => false) hk
  exact .ite
    (.enterStage (.spyPending (.sparesPending (.setField (.update (.setRegN (.setRegN (.updateMem hpower rfl fun _ => Mem.wf_nil))) rfl rfl)))))
    (.spyPending (.sparesPending (.setField (.update (.setRegN (.setRegN (.updateMem hpower rfl fun _ => Mem.wf_nil))) rfl rfl))))

theorem Keeps.fullPowerOn {s : State} (hk : Keeps s₀ s) : Keeps s₀ (fullPowerOn s) := by
  unfold Machine.fullPowerOn
  exact .ite hk (.sparesPending (.update (.setField (.powerOn (.updateMem hk rfl fun _ => Mem.wf_nil))) rfl rfl))

theorem Keeps.powerGood {s : State} (hk : Keeps s₀ s) : Keeps s₀ (powerGood s) := .ite hk (.powerOn (.update hk rfl rfl))

theorem Keeps.railsOff {s : State} {tail : Bool} (hk : Keeps s₀ s) : Keeps s₀ (railsOff s tail) := .update (.abandonMirrors hk) rfl rfl

theorem Keeps.undervolt {s : State} (hk : Keeps s₀ s) : Keeps s₀ (undervolt s) :=
  .ite hk (.railsOff (.update (.raise (.bumpReg (.ite (.update hk rfl rfl) hk))) rfl rfl))

theorem Keeps.powerEnableLow {s : State} (hk : Keeps s₀ s) : Keeps s₀ (powerEnableLow s) :=
  .ite hk (.ite (.update hk rfl rfl) (.railsOff (.update hk rfl rfl)))

theorem Keeps.raiseAlarm {s : State} {source : ℕ} {cls : ℕ} (hk : Keeps s₀ s) : Keeps s₀ (raiseAlarm s source cls) := .update hk rfl rfl

theorem Keeps.overvoltage {s : State} (hk : Keeps s₀ s) : Keeps s₀ (overvoltage s) := .ite hk (.raiseAlarm (.railsOff (.update hk rfl rfl)))

theorem Keeps.inputLoss {s : State} (hk : Keeps s₀ s) : Keeps s₀ (inputLoss s) := .ite hk (.endSession (.update (.abandonMirrors hk) rfl rfl))

theorem Keeps.failedSites {s : State} {failed : List Nat} (hk : Keeps s₀ s) : Keeps s₀ (failedSites s failed) := by
  unfold Machine.failedSites
  refine .foldl (.update hk rfl rfl) fun s n hk => ?_
  split
  · exact hk
  · exact .ite (.promoteFrom hk) (.update (.promoteFrom hk) rfl rfl)

theorem Keeps.trainWork {s t : State} {w : StageWork} (hk : Keeps s₀ s) (e : trainWork s w = some t) : Keeps s₀ t := by
  unfold Machine.trainWork at e
  dsimp only at e
  split at e
  · cases e
  · cases e
    exact .update (.fixAttachments (.foldl (.failedSites (.foldl (.applyRepairMaps hk) fun _ _ hk => .bringUpChannel hk))
      fun _ _ hk => .promoteFrom hk)) rfl rfl

theorem Keeps.nextStage {s : State} {n : ℕ} (hk : Keeps s₀ s) : Keeps s₀ (s.nextStage n) := .update (.enterStage hk) rfl rfl

theorem Keeps.stageAdvance {s : State} {w : StageWork} (hk : Keeps s₀ s) : Keeps s₀ (stageAdvance s w) := by
  unfold Machine.stageAdvance
  refine .ite hk ?_
  refine .ite (.ite (.nextStage hk) hk) ?_
  refine .ite ?_ (.ite (.ite (.unless (.update (.failedSites hk) rfl rfl) (.nextStage (.refl _))) hk) hk)
  refine .ite (.ite hk (.update hk rfl rfl)) ?_
  refine .ite ?_ hk
  split
  · exact .nextStage (Keeps.trainWork hk ‹_›)
  · exact hk

theorem Keeps.retuneCapped {s : State} (hk : Keeps s₀ s) : Keeps s₀ (retuneCapped s) := .foldl hk (fun _ _ hk1 => .ite (.retune hk1) hk1)

theorem Keeps.powerCapPeriod {s : State} {volts : ℕ} {amps : ℕ} {watts : ℕ} {dieMax : BitVec 16} (hk : Keeps s₀ s) : Keeps s₀ (powerCapPeriod s volts
    amps watts dieMax) :=
  .ite hk (.onlyIf (.onlyIf (.onlyIf (.onlyIf (.unless (.update (.setField (.setRegN (.setRegN hk))) rfl rfl) (.retuneCapped (.refl _))) (.raise
      (.refl _))) (.raise (.refl _))) (.bump (.refl _))) (.bump (.refl _)))

theorem Keeps.phaseSpare {s : State} (hk : Keeps s₀ s) : Keeps s₀ (phaseSpare s) := by
  unfold Machine.phaseSpare
  dsimp only
  split
  · exact hk
  · split
    · exact .update hk rfl rfl
    · exact .ite (.bump (.raise (.update (.update hk rfl rfl) rfl rfl))) (.update (.update hk rfl rfl) rfl rfl)

theorem Keeps.resendPort {s : State} {i : ℕ} (hk : Keeps s₀ s) : Keeps s₀ (resendPort s i) :=
  .foldl hk (fun _ _ hk1 => .foldl hk1 (fun _ _ hk2 => .retransmit hk2))

theorem Keeps.linkChangeRow {s : State} {port : ℕ} {up : Bool} (hk : Keeps s₀ s) : Keeps s₀ (linkChangeRow s port up) :=
  .ite hk (.ite (.linkChange hk) (.onlyIf (.ite (.linkChange hk) (.grantCredits (.linkChange hk))) (.setPort (.update (.resendPort (.refl _)) rfl
      rfl))))

theorem Keeps.failPort {s : State} {i : ℕ} (hk : Keeps s₀ s) : Keeps s₀ (failPort s i) := .failContexts hk

theorem Keeps.peerPortFail {s : State} {port : ℕ} (hk : Keeps s₀ s) : Keeps s₀ (peerPortFail s port) :=
  .ite (.update hk rfl rfl) (.ite (.linkChange hk) (.ite (.failPort (.linkChange hk)) (.setPort (.update (.retireUnits (.setField (.setField
      (.linkChange hk)))) rfl rfl))))

theorem Keeps.spareLinkTimeout {s : State} (hk : Keeps s₀ s) : Keeps s₀ (spareLinkTimeout s) := by
  unfold Machine.spareLinkTimeout
  split
  · exact hk
  · split
    · exact hk
    · exact .ite (.setPort (.update (.failPort hk) rfl rfl)) hk

theorem Keeps.closePeers {s : State} {step : ℕ} (hk : Keeps s₀ s) : Keeps s₀ (closePeers s step) := .foldl hk (fun _ _ hk1 => .sendClose hk1)

theorem Keeps.retire {s : State} (hk : Keeps s₀ s) : Keeps s₀ (retire s) := by
  unfold Machine.retire
  split
  · exact hk
  · exact .ite (.update hk rfl rfl) (.raise (.withAllPoison (.enterStage (.repairMapWrite (.flushLedger (.closePeers (.killAll
      (.setField (.update hk rfl rfl)))))))))

theorem Keeps.sleepWrite {s : State} {v : ℕ} (hk : Keeps s₀ s) : Keeps s₀ (sleepWrite s v) := .update (.setRegN hk) rfl rfl

theorem Keeps.wake {s : State} {g : ℕ} (hk : Keeps s₀ s) : Keeps s₀ (wake s g) := by
  unfold Machine.wake
  split
  · exact hk
  · exact .ite hk (.onlyIf (.setField (.update hk rfl rfl)) (.spyPending (.refl _)))

theorem Keeps.deriveIdentity {s : State} {sram : ℕ} (hk : Keeps s₀ s) : Keeps s₀ (deriveIdentity s sram) := by
  unfold Machine.deriveIdentity
  dsimp only
  split
  · exact .ite (.raiseAlarm (.update hk rfl rfl)) (.update hk rfl rfl)
  · split
    · exact .update (.update hk rfl rfl) rfl rfl
    · split
      · exact .onlyIf (.update (.update hk rfl rfl) rfl rfl) (.raiseAlarm (.refl _))
      · exact .update (.update (.update hk rfl rfl) rfl rfl) rfl rfl

theorem Keeps.runImage {s : State} {slot : ℕ} {i : Image} (hk : Keeps s₀ s) : Keeps s₀ (runImage s slot i) := .update hk rfl rfl

theorem Keeps.enterRecovery {s : State} (hk : Keeps s₀ s) : Keeps s₀ (enterRecovery s) :=
  .enterStage (.update (.foldl hk (fun _ _ hk1 => .linkChange hk1)) rfl rfl)

theorem Keeps.countBoot {s : State} (hk : Keeps s₀ s) : Keeps s₀ (countBoot s) := .ite hk (.ite (.logWord (.update hk rfl rfl)) (.update hk rfl rfl))

theorem Keeps.bootVerify {s : State} {sram : ℕ} (hk : Keeps s₀ s) : Keeps s₀ (bootVerify s sram) := by
  unfold Machine.bootVerify
  dsimp only
  refine .ite hk ?_
  split
  · exact .runImage (.update (.countBoot (.ite hk (.deriveIdentity hk))) rfl rfl)
  · split
    · exact .runImage (.raise (.raiseAlarm (.update (.countBoot (.ite hk (.deriveIdentity hk))) rfl rfl)))
    · exact .enterRecovery (.raise (.raiseAlarm (.update (.countBoot (.ite hk (.deriveIdentity hk))) rfl rfl)))

theorem Keeps.alarmActs {s : State} {cls : ℕ} (hk : Keeps s₀ s) : Keeps s₀ (alarmActs s cls) :=
  .ite hk (.unless (.onlyIf (.zeroiseSaks (.endSession (.update hk rfl rfl))) (.update (.refl _) rfl rfl)) (.startWarm (.refl _)))

theorem Keeps.takeAlarms {s : State} {as_ : List (ℕ × ℕ × ℕ)} (hk : Keeps s₀ s) : Keeps s₀ (takeAlarms s as_) := by
  unfold Machine.takeAlarms
  split
  · exact .foldl hk (fun _ _ hk1 => .raise (.bump hk1))
  · exact .unless (.update (.onlyIf (.record (.foldl hk (fun _ _ hk1 => .raise (.bump hk1)))) (.setRegN (.setRegN (.refl _)))) rfl rfl) (.alarmActs
      (.refl _))

theorem Keeps.alarm {s : State} {sources : List ℕ} (hk : Keeps s₀ s) : Keeps s₀ (alarm s sources) := by
  unfold Machine.alarm
  refine .ite hk ?_
  split
  · exact .takeAlarms hk
  · exact .ite (.takeAlarms (.update hk rfl rfl)) (.takeAlarms (.takeAlarms (.update hk rfl rfl)))

theorem Keeps.sendChunk {s : State} {dst : Option ℕ} {tag : ℕ} {op : ℕ} {status : ℕ} {chunk : ℕ} {last : ℕ} {len : ℕ} {data : ℕ} (hk : Keeps s₀ s) :
    Keeps s₀ (sendChunk s dst tag op status chunk last len data) := by
  unfold Machine.sendChunk
  split
  · exact .respond hk
  · exact .update hk rfl rfl

theorem Keeps.sendAnswer {s : State} {dst : Option ℕ} {tag : ℕ} {op : ℕ} {status : ℕ} {len : ℕ} {data : ℕ} (hk : Keeps s₀ s) : Keeps s₀ (sendAnswer s
    dst tag op status len data) :=
  .foldl hk (fun _ _ hk1 => .sendChunk hk1)

theorem Keeps.mgtChunk {s : State} {n : ℕ} (hk : Keeps s₀ s) : Keeps s₀ (mgtChunk s n) := by
  unfold Machine.mgtChunk
  split
  · exact hk
  · refine .ite (.sendAnswer (Keeps.popReady hk ‹_›)) ?_
    refine .ite (.sendAnswer (.update (Keeps.popReady hk ‹_›) rfl rfl)) ?_
    split
    · exact .update (Keeps.popReady hk ‹_›) rfl rfl
    · exact .sendAnswer (.update (Keeps.popReady hk ‹_›) rfl rfl)

theorem Keeps.takeMgt {s t : State} {op : Nat} {k : MgtOp} (hk : Keeps s₀ s) (e : takeMgt s op = some (k, t)) : Keeps s₀ t := by
  unfold Machine.takeMgt at e
  split at e
  · split at e
    · cases e; exact .update hk rfl rfl
    · cases e
  · cases e

theorem Keeps.answer {k : MgtOp} {s : State} {status : ℕ} (hk : Keeps s₀ s) : Keeps s₀ (k.answer s status) := .sendAnswer hk

theorem Keeps.sendReport {s : State} {dst : Option ℕ} {tag : ℕ} {op : ℕ} {nonceLen : ℕ} {nonce : ℕ} (hk : Keeps s₀ s) : Keeps s₀ (sendReport s dst tag
    op nonceLen nonce) := by
  unfold Machine.sendReport
  split
  · exact .sendAnswer hk
  · exact .ite (.sendAnswer hk) (.sendAnswer (.bump hk))

theorem Keeps.sendCert {s : State} {dst : Option ℕ} {tag : ℕ} {op : ℕ} (hk : Keeps s₀ s) : Keeps s₀ (sendCert s dst tag op) :=
  .ite (.sendAnswer hk) (.sendAnswer hk)

theorem Keeps.svcFrame {s t : State} (hk : Keeps s₀ s) (e : svcFrame s = some t) : Keeps s₀ t := by
  unfold Machine.svcFrame at e
  split at e
  · cases e
  · cases e; exact .bump hk

theorem Keeps.svcRequest {s : State} {f : SvcFrame} {act : State → State} (hk : Keeps s₀ s) (hact : ∀ s, Keeps s₀ s → Keeps s₀ (act s)) : Keeps s₀
    (svcRequest s f act) := by
  unfold Machine.svcRequest
  split
  · exact hk
  · exact .ite (.sendAnswer (Keeps.svcFrame hk ‹_›)) (.ite (.sendAnswer (Keeps.svcFrame hk ‹_›)) (hact _ (Keeps.svcFrame hk ‹_›)))

theorem Keeps.report {s : State} {f : Option SvcFrame} (hk : Keeps s₀ s) : Keeps s₀ (report s f) := by
  cases f with
  | none =>
    unfold Machine.report
    dsimp only
    split
    · exact .sendReport (.takeMgt hk ‹_›)
    · exact hk
  | some f => exact .svcRequest hk fun _ hk => .sendReport hk

theorem Keeps.cert {s : State} {f : Option SvcFrame} (hk : Keeps s₀ s) : Keeps s₀ (cert s f) := by
  cases f with
  | none =>
    unfold Machine.cert
    dsimp only
    split
    · exact .sendCert (.takeMgt hk ‹_›)
    · exact hk
  | some f => exact .svcRequest hk fun _ hk => .sendCert hk

theorem Keeps.enrol {s : State} (hk : Keeps s₀ s) : Keeps s₀ (enrol s) := by
  unfold Machine.enrol
  split
  · exact hk
  · exact .ite (.answer (Keeps.takeMgt hk ‹_›)) (.ite (.answer (Keeps.takeMgt hk ‹_›)) (.ite (.answer (Keeps.takeMgt hk ‹_›)) (.ite (.answer
      (Keeps.takeMgt hk ‹_›)) (.answer (.update (Keeps.takeMgt hk ‹_›) rfl rfl)))))

theorem Keeps.fwStage {s : State} (hk : Keeps s₀ s) : Keeps s₀ (fwStage s) := by
  unfold Machine.fwStage
  split
  · exact hk
  next k t e =>
    have ht : Keeps s₀ t := .takeMgt hk e
    exact .ite (.answer ht) (.answer (.update ht (Flash.putImage_rootKey ..) rfl))

theorem Keeps.fwCommit {s : State} (hk : Keeps s₀ s) : Keeps s₀ (fwCommit s) := by
  unfold Machine.fwCommit
  split
  · exact hk
  · refine .ite (.answer (Keeps.takeMgt hk ‹_›)) ?_
    refine .ite (.answer (Keeps.takeMgt hk ‹_›)) ?_
    split
    · exact .answer (Keeps.takeMgt hk ‹_›)
    · exact .ite (.answer (Keeps.takeMgt hk ‹_›)) (.ite (.answer (Keeps.takeMgt hk ‹_›)) (.answer (.onlyIf (.update (Keeps.takeMgt hk ‹_›) rfl rfl)
        (.update (.refl _) rfl rfl))))

theorem Keeps.mgtPartReset {s : State} (hk : Keeps s₀ s) : Keeps s₀ (mgtPartReset s) := by
  unfold Machine.mgtPartReset
  split
  · exact hk
  · exact .ite (.answer (Keeps.takeMgt hk ‹_›)) (.ite (.answer (Keeps.takeMgt hk ‹_›)) (.answer (.partResetWrite (Keeps.takeMgt hk ‹_›))))

theorem Keeps.killByFirmware {s : State} {v : ℕ} (hk : Keeps s₀ s) : Keeps s₀ (killByFirmware s v) := by
  unfold Machine.killByFirmware
  split
  · exact Keeps.of_fst (.killWrite hk) ‹_›
  · exact .logReq (Keeps.of_fst (.killWrite hk) ‹_›)

theorem Keeps.mgtPartKill {s : State} (hk : Keeps s₀ s) : Keeps s₀ (mgtPartKill s) := by
  unfold Machine.mgtPartKill
  split
  · exact hk
  · exact .ite (.answer (Keeps.takeMgt hk ‹_›)) (.ite (.answer (Keeps.takeMgt hk ‹_›)) (.answer (.killByFirmware (Keeps.takeMgt hk ‹_›))))

theorem Keeps.mgtWarm {s : State} (hk : Keeps s₀ s) : Keeps s₀ (mgtWarm s) := by
  unfold Machine.mgtWarm
  split
  · exact hk
  · exact .ite (.answer (Keeps.takeMgt hk ‹_›)) (.startWarm (.answer (Keeps.takeMgt hk ‹_›)))

theorem Keeps.haltForward {s : State} (hk : Keeps s₀ s) : Keeps s₀ (haltForward s) := .foldl hk (fun _ _ hk1 => .haltCtx hk1)

theorem Keeps.startRemoval {s : State} {cause : ℕ} (hk : Keeps s₀ s) : Keeps s₀ (startRemoval s cause).1 :=
  .ite_fst (.pair (.bump hk)) (.pair (.raise (.update (.closePeers (.haltForward (.ite (.setRegN (.bump hk)) (.enterStage (.setRegN (.bump hk))))))
      rfl rfl)))

theorem Keeps.mgtRemove {s : State} (hk : Keeps s₀ s) : Keeps s₀ (mgtRemove s) := by
  unfold Machine.mgtRemove
  split
  · exact hk
  · refine .ite (.answer (Keeps.takeMgt hk ‹_›)) ?_
    split <;> exact .answer (Keeps.of_fst (.startRemoval (Keeps.takeMgt hk ‹_›)) ‹_›)

theorem Keeps.buttonDown {s : State} (hk : Keeps s₀ s) : Keeps s₀ (buttonDown s) := .ite hk (.update hk rfl rfl)

theorem Keeps.removalRequest {s : State} (hk : Keeps s₀ s) : Keeps s₀ (removalRequest s) := by
  unfold Machine.removalRequest
  split
  · exact hk
  · exact .ite hk (.ite (.update hk rfl rfl) (.startRemoval (.update hk rfl rfl)))

theorem Keeps.shortPress {s : State} (hk : Keeps s₀ s) : Keeps s₀ (shortPress s) := by
  unfold Machine.shortPress
  split
  · exact hk
  · exact .ite (.update hk rfl rfl) (.bump (.raise (.update hk rfl rfl)))

theorem Keeps.drainingEnd {s : State} (hk : Keeps s₀ s) : Keeps s₀ (drainingEnd s) := .ite (.killAll (.update hk rfl rfl)) hk

theorem Keeps.safe {s : State} (hk : Keeps s₀ s) : Keeps s₀ (safe s) :=
  .ite hk (.raise (.update (.foldl (.repairMapWrite (.flushLedger hk)) (fun _ _ hk1 => .sendClose hk1)) rfl rfl))

theorem Keeps.tailWrite {s : State} (hk : Keeps s₀ s) : Keeps s₀ (tailWrite s) := .ite hk (.bump (.update hk rfl rfl))

theorem Keeps.latchLever {s : State} {opened : Bool} (hk : Keeps s₀ s) : Keeps s₀ (latchLever s opened) :=
  .ite hk (.unless (.raise (.update hk rfl rfl)) (.ite (.bump (.refl _)) (.raiseAlarm (.update (.bump (.refl _)) rfl rfl))))

theorem Keeps.alarmAck {s : State} (hk : Keeps s₀ s) : Keeps s₀ (alarmAck s) := by
  unfold Machine.alarmAck
  split
  · exact hk
  · exact .ite (.answer (Keeps.takeMgt hk ‹_›)) (.ite (.answer (Keeps.takeMgt hk ‹_›)) (.answer (.unless (.update (Keeps.takeMgt hk ‹_›) rfl rfl)
      (.warmStage (.refl _)))))

theorem Keeps.identify {s : State} (hk : Keeps s₀ s) : Keeps s₀ (identify s) := by
  unfold Machine.identify
  split
  · exact hk
  · exact .ite (.answer (Keeps.takeMgt hk ‹_›)) (.answer (.setField (Keeps.takeMgt hk ‹_›)))

theorem Keeps.provision {s : State} (hk : Keeps s₀ s) : Keeps s₀ (provision s) := by
  unfold Machine.provision
  split
  · exact hk
  · exact .ite (.answer (Keeps.takeMgt hk ‹_›)) (.ite (.answer (Keeps.takeMgt hk ‹_›)) (.ite (.answer (Keeps.takeMgt hk ‹_›)) (.powerOn (.update
      (.answer (Keeps.takeMgt hk ‹_›)) rfl rfl))))

theorem Keeps.statusFrame {s : State} {f : SvcFrame} (hk : Keeps s₀ s) : Keeps s₀ (statusFrame s f) := .svcRequest hk (fun _ hk1 => .sendAnswer hk1)

theorem Keeps.imageFrame {s : State} {f : SvcFrame} (hk : Keeps s₀ s) : Keeps s₀ (imageFrame s f) := by
  unfold Machine.imageFrame
  split
  · exact hk
  · refine .ite (.sendAnswer (Keeps.svcFrame hk ‹_›)) ?_
    refine .ite (.sendAnswer (.update (Keeps.svcFrame hk ‹_›) rfl rfl)) ?_
    split
    · exact .sendAnswer (.update (Keeps.svcFrame hk ‹_›) rfl rfl)
    · exact .ite (.update (Keeps.svcFrame hk ‹_›) rfl rfl) (.ite (.sendAnswer (.update (.update (Keeps.svcFrame hk ‹_›) rfl rfl) rfl rfl))
        (.sendAnswer (.update (Keeps.svcFrame hk ‹_›) rfl rfl)))

theorem Keeps.vbusChange {s : State} {present : Bool} (hk : Keeps s₀ s) : Keeps s₀ (vbusChange s present) :=
  .ite hk (.ite (.bump (.raise (.update hk rfl rfl))) (.endSession (.update (.raise (.update hk rfl rfl)) rfl rfl)))

theorem Keeps.authFail {s : State} (hk : Keeps s₀ s) : Keeps s₀ (authFail s) :=
  .onlyIf (.onlyIf (.logReq (.bump (.raise (.ite (.logWord (.setRegN hk)) (.setRegN hk))))) (.raiseAlarm (.update (.refl _) rfl rfl))) (.raiseAlarm
      (.refl _))

theorem Keeps.periscopeOpen {s : State} {key : ℕ} {signature : ℕ} {mask : ℕ} (hk : Keeps s₀ s) : Keeps s₀ (periscopeOpen s key signature mask) :=
  .ite hk (.ite (.logReq (.bump (.raise (.setField (.update (.draw hk) rfl rfl))))) (.authFail (.draw hk)))

theorem Keeps.periscopeClose {s : State} (hk : Keeps s₀ s) : Keeps s₀ (periscopeClose s) := .ite hk (.logReq (.endSession hk))

theorem Keeps.sessionTimeout {s : State} (hk : Keeps s₀ s) : Keeps s₀ (sessionTimeout s) := by
  unfold Machine.sessionTimeout
  split
  · exact .ite (.endSession hk) hk
  · exact hk

theorem Keeps.authLockoutExpiry {s : State} (hk : Keeps s₀ s) : Keeps s₀ (authLockoutExpiry s) := by
  unfold Machine.authLockoutExpiry
  split
  · exact .ite (.update hk rfl rfl) hk
  · exact hk

end Sys2Proof.Machine
end

section
/-! SUPPORT. That the operations of register accesses, issued words, Talel requests and parity errors keep what no command changes. -/

namespace Sys2Proof.Machine

variable {s₀ : State}

theorem Keeps.clearCounter {s : State} {p : Page} {sel : ℕ} (hk : Keeps s₀ s) : Keeps s₀ (clearCounter s p sel) := by
  unfold Machine.clearCounter
  split
  · exact .setOpe (.update hk rfl rfl)
  · exact .ite (.update hk rfl rfl) (.bumpBy (.update hk rfl rfl))
  · exact .update hk rfl rfl

theorem Keeps.cntSelWrite {s : State} {p : Page} {who : Requester} {v : ℕ} (hk : Keeps s₀ s) : Keeps s₀ (cntSelWrite s p who v) := by
  unfold Machine.cntSelWrite
  refine .ite (.setRegN hk) ?_
  split
  · exact .setRegN hk
  · exact .clearCounter (.setRegN hk)
  · exact .logReq (.setRegN hk)

theorem Keeps.cntLoRead {s : State} {p : Page} {who : Requester} (hk : Keeps s₀ s) : Keeps s₀ (cntLoRead s p who).1 := .pair (.update hk rfl rfl)

theorem Keeps.errlogRead {s : State} {p : Page} (hk : Keeps s₀ s) : Keeps s₀ (errlogRead s p).1 := .ite_fst (.pair hk) (.pair (.update hk rfl rfl))

theorem Keeps.pageRead {s : State} {p : Page} {who : Requester} {off : ℕ} (hk : Keeps s₀ s) : Keeps s₀ (pageRead s p who off).1 := by
  unfold Machine.pageRead
  dsimp only
  refine .ite_fst (.ite_fst (.pair hk) (.pair (.ite hk (.logReq hk)))) ?_
  refine .ite_fst (.pair (.errlogRead hk)) ?_
  refine .ite_fst (.pair (.cntLoRead hk)) ?_
  split
  · exact .ite_fst (.pair (.sideRead hk)) (.ite_fst (.pair (.sideRead hk)) (.pair hk))
  · refine .ite_fst ?_ (.pair hk)
    split
    · exact .pair (Keeps.of_fst (.dirPeek hk) ‹_›)
    · exact .pair (.logReq (Keeps.of_fst (.dirPeek hk) ‹_›))
  · exact .ite_fst (.pair (.bdataRead hk)) (.pair hk)
  · exact .ite_fst (.pair (.updLdataRead hk)) (.pair hk)
  · exact .ite_fst (.pair (.stepLdataRead hk)) (.pair hk)
  · exact .ite_fst (.pair (.licClaim hk)) (.pair hk)
  · exact .pair hk

theorem Keeps.ignored {s : State} {p : Page} {who : Requester} {off : ℕ} (hk : Keeps s₀ s) : Keeps s₀ (s.ignored p who off) := .logReq hk

theorem Keeps.tookOr {r : State × Bool} {p : Page} {who : Requester} {off : Nat} (hk : Keeps s₀ r.1) : Keeps s₀ (tookOr r p who off) :=
  .ite hk (.ignored hk)

theorem Keeps.tookCode {r : State × Nat} {p : Page} {who : Requester} {off : Nat} (hk : Keeps s₀ r.1) : Keeps s₀ (tookCode r p who off) :=
  .ite hk (.ite (.ignored hk) (.logReq hk))

theorem Keeps.plainWrite {s : State} {p : Page} {off : ℕ} {v : ℕ} {r : RegSpec} (hk : Keeps s₀ s) : Keeps s₀ (plainWrite s p off v r) :=
  .ite (.setStage hk) (.ite hk (.setReg hk))

theorem Keeps.tableWrite {s : State} {p : Page} {who : Requester} {off : ℕ} {v : ℕ} (hk : Keeps s₀ s) : Keeps s₀ (tableWrite s p who off v) := by
  unfold Machine.tableWrite
  split
  · exact .plainWrite hk
  · exact .logReq hk

theorem Keeps.guardedWrite {s : State} {p : Page} {who : Requester} {off : ℕ} {v : ℕ} {ok : Bool} (hk : Keeps s₀ s) : Keeps s₀ (guardedWrite s p who
    off v ok) :=
  .ite (.tableWrite hk) (.ignored hk)

theorem Keeps.fieldGuarded {s : State} {p : Page} {who : Requester} {off : ℕ} {v : ℕ} {hi : ℕ} {lo : ℕ} {ok : Bool} (hk : Keeps s₀ s) : Keeps s₀
    (fieldGuarded s p who off v hi lo ok) :=
  .ite (.tableWrite hk) (.ignored (.tableWrite hk))

theorem Keeps.coreWrite {s : State} {p : Page} {who : Requester} {off : ℕ} {v : ℕ} {t : ℕ} (hk : Keeps s₀ s) : Keeps s₀ (coreWrite s p who off v t) :=
  .ite (.coreCtrlWrite hk) (.ite (.ite (.logReq hk) (.modCore hk)) (.ite (.ctxCtrlWrite hk) (.ite (.tookOr (.pcWrite hk)) (.ite (.tookOr (.pcWrite
      hk)) (.ite (.tookOr (.qcfgWrite hk)) (.tableWrite hk))))))

theorem Keeps.jglWrite {s : State} {p : Page} {who : Requester} {off : ℕ} {v : ℕ} (hk : Keeps s₀ s) : Keeps s₀ (jglWrite s p who off v) :=
  .ite (.modCore (.tableWrite hk)) (.tableWrite hk)

theorem Keeps.rowWrite {s : State} {p : Page} {who : Requester} {off : ℕ} {v : ℕ} (hk : Keeps s₀ s) : Keeps s₀ (rowWrite s p who off v) :=
  .ite (.ite (.rowAbort hk) hk) (.ite (.tookOr (.sideWrite hk)) (.ite (.tookOr (.sideWrite hk)) (.ite (.rowKickWrite hk) (.tableWrite hk))))

theorem Keeps.stkWrite {s : State} {p : Page} {who : Requester} {off : ℕ} {v : ℕ} (hk : Keeps s₀ s) : Keeps s₀ (stkWrite s p who off v) :=
  .ite (.tookOr (.stkCfgWrite hk)) (.ite (.tookOr (.stkCfgWrite hk)) (.ite (.tookOr (.hbmTilesWrite hk)) (.ite (.tookOr (.stkReleaseWrite hk))
      (.tableWrite hk))))

theorem Keeps.crsWrite {s : State} {p : Page} {who : Requester} {off : ℕ} {v : ℕ} (hk : Keeps s₀ s) : Keeps s₀ (crsWrite s p who off v) :=
  .ite (.guardedWrite hk) (.ite (.bankSwitchWrite hk) (.ite (.tookCode (.bdataWrite hk)) (.ite (.handWrite hk) (.tableWrite hk))))

theorem Keeps.updWrite {s : State} {p : Page} {who : Requester} {off : ℕ} {v : ℕ} (hk : Keeps s₀ s) : Keeps s₀ (updWrite s p who off v) :=
  .ite (.updEnableWrite hk) (.ite (.guardedWrite hk) (.ite (.etaNextWrite hk) (.ite (.bdone hk) (.ite (.tookCode (.updLdataWrite hk)) (.ite
      (.submitWrite hk) (.tableWrite hk))))))

theorem Keeps.portWrite {s : State} {p : Page} {who : Requester} {off : ℕ} {v : ℕ} (hk : Keeps s₀ s) : Keeps s₀ (portWrite s p who off v) :=
  .ite (.fieldGuarded hk) (.ite (.guardedWrite hk) (.tableWrite hk))

theorem Keeps.licWrite {s : State} {p : Page} {who : Requester} {off : ℕ} {v : ℕ} (hk : Keeps s₀ s) : Keeps s₀ (licWrite s p who off v) :=
  .ite (.tookCode (.licScfgWrite hk)) (.ite (.tookOr (.licSwset hk)) (.ite (.idleHostWrite hk) (.ite (.licComplete hk) (.tableWrite hk))))

theorem Keeps.sicWrite {s : State} {p : Page} {who : Requester} {off : ℕ} {v : ℕ} (hk : Keeps s₀ s) : Keeps s₀ (sicWrite s p who off v) :=
  .ite (.tookOr (.sicSwset hk)) (.ite (.sicComplete hk) (.ite (.tookOr (.sicSrcWrite hk)) (.tableWrite hk)))

theorem Keeps.mbxWrite {s : State} {p : Page} {who : Requester} {off : ℕ} {v : ℕ} (hk : Keeps s₀ s) : Keeps s₀ (mbxWrite s p who off v) := by
  unfold Machine.mbxWrite
  refine .ite ?_ (.ite (.boxSend hk) (.ite (.boxPop hk) (.ite (.boxDoorbell hk) (.tableWrite hk))))
  split
  · exact Keeps.of_fst (.boxCfgWrite hk) ‹_›
  · exact .logReq (Keeps.of_fst (.boxCfgWrite hk) ‹_›)

theorem Keeps.ringWrite {s : State} {p : Page} {who : Requester} {cfg : ℕ} {lo : ℕ} {hi : ℕ} {off : ℕ} {v : ℕ} (hk : Keeps s₀ s) : Keeps s₀ (ringWrite
    s p who cfg lo hi off v) :=
  .ite (.fieldGuarded hk) (.ite (.guardedWrite hk) (.tableWrite hk))

theorem Keeps.stepWrite {s : State} {p : Page} {who : Requester} {off : ℕ} {v : ℕ} (hk : Keeps s₀ s) : Keeps s₀ (stepWrite s p who off v) :=
  .ite (.tookOr (.stepCfgWrite hk)) (.ite (.tookOr (.stepLdataWrite hk)) (.ite (.guardedWrite hk) (.tableWrite hk)))

theorem Keeps.partWrite {s : State} {p : Page} {who : Requester} {off : ℕ} {v : ℕ} (hk : Keeps s₀ s) : Keeps s₀ (partWrite s p who off v) :=
  .ite (.ite (.startWarm hk) hk) (.ite (.partResetWrite hk) (.ite (.tookOr (.killWrite hk)) (.ite (.tookOr (.partConfigWrite hk)) (.tableWrite hk))))

theorem Keeps.blockWrite {s : State} {p : Page} {who : Requester} {off : ℕ} {v : ℕ} {t : ℕ} (hk : Keeps s₀ s) : Keeps s₀ (blockWrite s p who off v t)
    := by
  unfold Machine.blockWrite
  split
  · exact .coreWrite hk
  · exact .jglWrite hk
  · exact .rowWrite hk
  · exact .stkWrite hk
  · exact .ite (.tookOr (.dfreqWrite hk)) (.tableWrite hk)
  · exact .crsWrite hk
  · exact .updWrite hk
  · exact .ringWrite hk
  · exact .ringWrite hk
  · exact .stepWrite hk
  · exact .tableWrite (.ite (.keepSeed hk) hk)
  · exact .portWrite hk
  · exact .ite (.sakCommit hk) (.tableWrite hk)
  · exact .ite (.tookOr (.cstateRelease hk)) (.ite (.guardedWrite hk) (.tableWrite hk))
  · exact .licWrite hk
  · exact .sicWrite hk
  · exact .mbxWrite hk
  · exact .ite (.update hk rfl rfl) (.tableWrite hk)
  · exact .ite (.ite (.startRemoval (.setRegN hk)) (.setRegN hk)) (.tableWrite hk)
  · exact .ite (.sleepWrite hk) (.tableWrite hk)
  · exact .ite (.ite (.flushLedger hk) hk) (.ite (.qidxWrite hk) (.tableWrite hk))
  · exact .partWrite hk
  · exact .tableWrite hk

theorem Keeps.ownerTake {s : State} {p : Page} {who : Requester} {v : ℕ} (hk : Keeps s₀ s) : Keeps s₀ (ownerTake s p who v) :=
  .ite (.logReq hk) (.setRegN hk)

theorem Keeps.pageWrite {s : State} {p : Page} {who : Requester} {off : ℕ} {v : ℕ} {t : ℕ} (hk : Keeps s₀ s) : Keeps s₀ (pageWrite s p who off v t) :=
  .ite (.setReg hk) (.ite (.setReg hk) (.ite (.setReg hk) (.ite (.update hk rfl rfl) (.ite (.cntSelWrite hk) (.ite (.ownerTake hk) (.ite hk (.ite hk
      (.ite (.logReq hk) (.ite (.logReq hk) (.blockWrite hk))))))))))

theorem Keeps.touchSession {s : State} (hk : Keeps s₀ s) : Keeps s₀ (touchSession s) := .update hk rfl rfl

theorem Keeps.busCheck {s : State} {off : ℕ} {who : Requester} {write : Bool} {v : ℕ} (hk : Keeps s₀ s) : Keeps s₀ (busCheck s off who write v).1 :=
    by
  unfold Machine.busCheck
  split
  · exact .pair hk
  · exact .ite_fst (.pair hk) (.ite_fst (.pair (.bump (.ite (.touchSession hk) hk))) (.ite_fst (.pair (.logReq (.ite (.touchSession hk) hk))) (.pair
      (.ite (.touchSession hk) hk))))

theorem Keeps.busRead {s : State} {off : ℕ} {who : Requester} (hk : Keeps s₀ s) : Keeps s₀ (busRead s off who).1 := by
  unfold Machine.busRead
  split
  · exact .pair (Keeps.of_fst (.busCheck hk) ‹_›)
  · exact .pageRead (Keeps.of_fst (.busCheck hk) ‹_›)

theorem Keeps.busWriteAt {s : State} {off : ℕ} {who : Requester} {v : ℕ} {t : ℕ} (hk : Keeps s₀ s) : Keeps s₀ (busWriteAt s off who v t).1 := by
  unfold Machine.busWriteAt
  split
  · exact .pair (Keeps.of_fst (.busCheck hk) ‹_›)
  · exact .pair (.pageWrite (Keeps.of_fst (.busCheck hk) ‹_›))

theorem Keeps.busWrite {s : State} {off : ℕ} {who : Requester} {v : ℕ} (hk : Keeps s₀ s) : Keeps s₀ (busWrite s off who v).1 := .busWriteAt hk

theorem Keeps.writeReg {s : State} {p : Page} {off : ℕ} {who : Requester} {v : Word} (hk : Keeps s₀ s) : Keeps s₀ (writeReg s p off who v) :=
  .busWrite hk

theorem Keeps.readReg {s : State} {p : Page} {off : ℕ} {who : Requester} (hk : Keeps s₀ s) : Keeps s₀ (readReg s p off who) := .busRead hk

theorem Keeps.addPend {s : State} {u : Issue} {op : SlotOp} {word : ℕ} {L : ℕ} {e : Effect} (hk : Keeps s₀ s) : Keeps s₀ (addPend s u op word L e) :=
  .modCore hk

theorem Keeps.pushLocal {s : State} {u : Issue} {op : SlotOp} {word : ℕ} {q : ℕ} {data : Entry} (hk : Keeps s₀ s) : Keeps s₀ (pushLocal s u op word q
    data) :=
  .addPend (.modCore hk)

theorem Keeps.passEngine {s : State} {u : Issue} {op : SlotOp} {word : ℕ} {code : ℕ} (hk : Keeps s₀ s) : Keeps s₀ (passEngine s u op word code) :=
  .addPend (.modCore hk)

theorem Keeps.ctlEffect {s : State} {u : Issue} {op : SlotOp} {word : ℕ} (hk : Keeps s₀ s) : Keeps s₀ (ctlEffect s u op word) := by
  unfold Machine.ctlEffect
  split
  · exact .ite (.stopWaiting (.modCore hk)) (.modCore hk)
  · exact .addPend hk
  · exact .addPend (.ite (.openPhase hk) (.modCore (.openPhase hk)))
  · exact .ite (.releaseEvent (.endPhase hk)) (.endPhase hk)
  · exact .ite (.modCore (.modCore hk)) (.modCore hk)
  · exact .ite (.modCore (.modCore hk)) (.modCore hk)
  · exact .replayStarts hk
  · exact hk

theorem Keeps.qfEffect {s0 : State} {s : State} {u : Issue} {op : SlotOp} {word : ℕ} (hk1 : Keeps s₀ s) : Keeps s₀ (qfEffect s0 s u op word) := by
  unfold Machine.qfEffect
  split
  · exact .modCore hk1
  · exact .modCore hk1
  · exact .addPend hk1
  · exact .pushLocal hk1
  · exact .addPend hk1
  · exact .addPend hk1
  · exact .addPend hk1
  · exact .addPend hk1
  · exact .addPend hk1
  · exact .addPend hk1
  · exact hk1

theorem Keeps.raiseExc {s : State} {id : CoreId} {cond : ℕ} (hk : Keeps s₀ s) : Keeps s₀ (raiseExc s id cond) :=
  .ite hk (.ite (.bump hk) (.raise (.setRegN (.bump hk))))

theorem Keeps.vecEffect {s0 : State} {s : State} {u : Issue} {op : SlotOp} {word : ℕ} (hk1 : Keeps s₀ s) : Keeps s₀ (vecEffect s0 s u op word) := by
  unfold Machine.vecEffect
  dsimp only
  split
  · exact .passEngine (.ite (.countCycles (.bump hk1)) (.bump hk1))
  · exact .addPend (.ite (.countCycles (.bump hk1)) (.bump hk1))
  · exact .addPend (.ite (.countCycles (.bump hk1)) (.bump hk1))
  · exact .addPend (.ite (.countCycles (.bump hk1)) (.bump hk1))
  · exact .pushLocal (.ite (.countCycles (.bump hk1)) (.bump hk1))
  · exact .addPend (.ite (.countCycles (.bump hk1)) (.bump hk1))
  · exact .addPend (.raiseExc (.ite (.countCycles (.bump hk1)) (.bump hk1)))

theorem Keeps.readLoad {s : State} {id : CoreId} {x : Ctx} {l : LoadWait} (hk : Keeps s₀ s) : Keeps s₀ (readLoad s id x l) := by
  unfold Machine.readLoad
  exact .modCore (.busRead hk)

theorem Keeps.readLoads {stop : Core → Bool} {s : State} {id : CoreId} {fuel : Nat} (hk : Keeps s₀ s) :
    Keeps s₀ (readLoads stop s id fuel) := by
  induction fuel generalizing s with
  | zero => exact hk
  | succ fuel ih =>
    unfold Machine.readLoads
    refine .ite hk ?_
    split
    · exact hk
    · exact ih (.readLoad hk)

theorem Keeps.earlierLoads {s : State} {id : CoreId} (hk : Keeps s₀ s) : Keeps s₀ (earlierLoads s id) := .readLoads hk

theorem Keeps.sregwrEffect {s : State} {u : Issue} {off v : Nat} (hk : Keeps s₀ s) : Keeps s₀ (sregwrEffect s u off v) := by
  unfold Machine.sregwrEffect
  dsimp only
  split
  · exact .of_fst (.busWrite (.bump (.earlierLoads hk))) ‹_›
  · exact .logReq (.bump (.raise (.record (.of_fst (.busWrite (.bump (.earlierLoads hk))) ‹_›))))

theorem Keeps.scalarEffect {s0 : State} {s : State} {u : Issue} {op : SlotOp} {word : ℕ} (hk1 : Keeps s₀ s) : Keeps s₀ (scalarEffect s0 s u op word)
    := by
  unfold Machine.scalarEffect
  dsimp only
  split
  · exact .passEngine (.bump hk1)
  · exact .addPend (.bump hk1)
  · exact .addPend (.bump hk1)
  · exact .addPend (.bump hk1)
  · exact .addPend (.bump hk1)
  · exact .addPend (.bump hk1)
  · exact .pushLocal (.bump hk1)
  · exact .sregwrEffect (.bump hk1)
  · exact .addPend (.bump hk1)

theorem Keeps.jgStore {s : State} {u : Issue} {a v : Nat} (hk : Keeps s₀ s) : Keeps s₀ (jgStore s u a v) := by
  unfold Machine.jgStore
  dsimp only
  split
  · split
    · exact .postedDown (.of_fst (.busWrite (.earlierLoads hk)) ‹_›)
    · exact .of_fst (.busWrite (.earlierLoads hk)) ‹_›
  · exact .logSystem hk
  · exact .ite (.storeAtomic hk) hk
  · exact .ite (.suppressed hk) (.postedWrite hk)
  · exact hk

theorem Keeps.jgEffect {s0 : State} {s : State} {u : Issue} {op : SlotOp} {word : ℕ} {gap : ℕ} (hk1 : Keeps s₀ s) : Keeps s₀ (jgEffect s0 s u op word
    gap) := by
  unfold Machine.jgEffect
  split
  · exact .jgBase hk1
  · exact .jgLoop hk1
  · exact .jgDest hk1
  · exact .setSc (.jgRun hk1)
  · exact .jgSwap hk1
  · exact .stopSc hk1
  · exact .modCore hk1
  · exact .jgStore hk1
  · exact .jgMove hk1
  · exact hk1

theorem Keeps.opEffect {s0 : State} {u : Issue} {word : ℕ} {gap : ℕ} {s : State} {op : SlotOp} (hk1 : Keeps s₀ s) : Keeps s₀ (opEffect s0 u word gap s
    op) := by
  unfold Machine.opEffect
  refine .ite (.ctlEffect hk1) ?_
  refine .ite (.qfEffect hk1) ?_
  refine .ite (.jgEffect hk1) ?_
  split
  · split
    · exact .sweepIssue hk1
    · exact .issueCoord hk1
    · exact .drainIssue hk1
    · exact .bump (.passEngine hk1)
  · exact .vecEffect hk1
  · exact .scalarEffect hk1

theorem Keeps.popQueues {s : State} {u : Issue} {w : LongWord} (hk : Keeps s₀ s) : Keeps s₀ (popQueues s u w) := by
  unfold Machine.popQueues
  exact .modCore hk

theorem Keeps.recordEarly {s0 : State} {s : State} {u : Issue} {w : LongWord} {word : ℕ} (hk1 : Keeps s₀ s) : Keeps s₀ (recordEarly s0 s u w word) :=
  .ite hk1 (.foldl hk1 (fun _ _ hk1 => .coreHazard hk1))

theorem Keeps.performWord {s : State} {u : Issue} (hk : Keeps s₀ s) : Keeps s₀ (performWord s u) := by
  unfold Machine.performWord
  refine .bump ?_
  refine .modCore ?_
  split
  · exact .replayStarts (.repeatTaken (.onlyIf (.foldl (.popQueues (.recordEarly hk)) (fun _ _ hk1 => .opEffect hk1)) (.sendAll (.refl _))))
  · exact .modCore (.onlyIf (.foldl (.popQueues (.recordEarly hk)) (fun _ _ hk1 => .opEffect hk1)) (.sendAll (.refl _)))
  · exact .onlyIf (.foldl (.popQueues (.recordEarly hk)) (fun _ _ hk1 => .opEffect hk1)) (.sendAll (.refl _))

theorem Keeps.haltAtIssue {s : State} {u : Issue} {cause : ℕ} {slot : ℕ} (hk : Keeps s₀ s) : Keeps s₀ (haltAtIssue s u cause slot) := by
  unfold Machine.haltAtIssue
  refine .ite (.haltCtx (.performWord hk)) ?_
  refine .takeCause ?_
  refine .ite ?_ hk
  split
  · exact .repeatLimit hk
  · exact hk

theorem Keeps.issueNow {s : State} {u : Issue} (hk : Keeps s₀ s) : Keeps s₀ (issueNow s u) := by
  unfold Machine.issueNow
  dsimp only
  split
  · exact .haltAtIssue hk
  · split
    · exact .haltAtIssue hk
    · exact .bump (.haltAtIssue hk)
    · exact .haltAtIssue hk
    · exact .performWord hk

theorem Keeps.issueWord {s : State} {u : Issue} (hk : Keeps s₀ s) : Keeps s₀ (issueWord s u) := .ite (.inCycle hk (fun _ hk1 => .issueNow hk1)) hk

theorem Keeps.issueIf {s : State} {u : Issue} {ok : LongWord → Bool} (hk : Keeps s₀ s) : Keeps s₀ (issueIf s u ok) := .ite (.issueWord hk) hk

theorem Keeps.sessionStop {s : State} {id : CoreId} {n : ℕ} {t : ℕ} (hk : Keeps s₀ s) : Keeps s₀ (sessionStop s id n t) := by
  unfold Machine.sessionStop
  split
  · exact .ite (.inCycle (.touchSession hk) (fun _ hk1 => .stopSc hk1)) (.touchSession hk)
  · exact hk

theorem Keeps.loadAnswer {s : State} {id : CoreId} {x : Ctx} {l : LoadWait} (hk : Keeps s₀ s) : Keeps s₀ (loadAnswer s id x l).1 := by
  unfold Machine.loadAnswer
  split
  · exact .ite_fst (.pair hk) (.ite_fst (.pair hk) (.ite_fst (.pair (.arrive (.modCore hk))) (.ite_fst (.pair (.accept hk)) (.pair (.serveRead
      (.accept hk))))))
  · exact .pair (.logSystem hk)
  · exact .pair hk

theorem Keeps.loadDone {s : State} {id : CoreId} {x : Ctx} {l : LoadWait} {t : ℕ} (hk : Keeps s₀ s) : Keeps s₀ (loadDone s id x l t) := .modCore hk

theorem Keeps.loadWrite {s : State} {id : CoreId} {x : Ctx} {l : LoadWait} {t : ℕ} {v : ℕ} (hk : Keeps s₀ s) : Keeps s₀ (loadWrite s id x l t v) :=
  .modCore hk

theorem Keeps.loadError {s : State} {id : CoreId} {x : Ctx} {l : LoadWait} {t : ℕ} (hk : Keeps s₀ s) : Keeps s₀ (loadError s id x l t) :=
  .loadWrite (.logReq (.bump (.raise (.ite hk (.setRegN (.setRegN hk))))))

theorem Keeps.takeAnswer {s : State} {id : CoreId} {x : Ctx} {l : LoadWait} {t : ℕ} {a : LoadAns} (hk : Keeps s₀ s) : Keeps s₀ (takeAnswer s id x l t
    a) := by
  unfold Machine.takeAnswer
  split
  · exact .loadDone (.loadWrite hk)
  · exact .loadDone (.loadError hk)
  · exact .haltCore (.loadDone hk)
  · exact .haltCtx (.loadDone hk)

theorem Keeps.loadRegister {s : State} {id : CoreId} {x : Ctx} {l : LoadWait} {t : ℕ} (hk : Keeps s₀ s) : Keeps s₀ (loadRegister s id x l t) := by
  unfold Machine.loadRegister
  dsimp only
  split
  · exact .takeAnswer (.readLoads hk)
  · exact .readLoads hk

theorem Keeps.jgLdResponse {s : State} {id : CoreId} {x : Ctx} {t : ℕ} (hk : Keeps s₀ s) : Keeps s₀ (jgLdResponse s id x t) := by
  unfold Machine.jgLdResponse
  split
  · exact hk
  · refine .ite hk ?_
    refine .inCycle hk (fun _ hk1 => ?_)
    split
    · exact .takeAnswer hk1
    · refine .ite hk1 ?_
      split
      · exact .loadRegister hk1
      · split
        · exact .takeAnswer (Keeps.of_fst (.loadAnswer hk1) ‹_›)
        · exact Keeps.of_fst (.loadAnswer hk1) ‹_›

theorem Keeps.answerReq {s : State} {n : ℕ} {req : Msg} {len : ℕ} {data : ℕ} (hk : Keeps s₀ s) : Keeps s₀ (answerReq s n req len data) :=
  .ite (.respond hk) hk

theorem Keeps.refuseReq {s : State} {n : ℕ} {code : ℕ} {req : Msg} (hk : Keeps s₀ s) : Keeps s₀ (refuseReq s n code req) := .ite (.sendNak hk) hk

theorem Keeps.withRequest {s : State} {n : ℕ} {ok : Msg → Bool} {act : State → Msg → State} (hk : Keeps s₀ s) (hact : ∀ s x, Keeps s₀ s → Keeps s₀
    (act s x)) : Keeps s₀ (withRequest s n ok act) := by
  unfold Machine.withRequest
  split
  · exact hk
  · exact .ite (.refuseReq (Keeps.popReady hk ‹_›)) (hact _ _ (Keeps.popReady hk ‹_›))

theorem Keeps.regCheck {s : State} {n : ℕ} {m : Msg} (hk : Keeps s₀ s) : Keeps s₀ (regCheck s n m).1 := by
  unfold Machine.regCheck
  dsimp only
  split
  · exact .pair hk
  · exact .ite_fst (.pair hk) (.ite_fst (.pair (.bump hk)) (.ite_fst (.pair (.logReq hk)) (.ite_fst (.pair (.logReq hk)) (.pair hk))))

theorem Keeps.regReads {s : State} {who : Requester} {off k : Nat} (hk : Keeps s₀ s) : Keeps s₀ (regReads s who off k).1 := by
  induction k generalizing s off with
  | zero => exact hk
  | succ k ih =>
    unfold Machine.regReads
    dsimp only
    split <;> exact ih (.busRead hk)

theorem Keeps.regWrites {s : State} {who : Requester} {off k v : Nat} (hk : Keeps s₀ s) : Keeps s₀ (regWrites s who off k v) := by
  induction k generalizing s off v with
  | zero => exact hk
  | succ k ih => exact ih (.busWrite hk)

theorem Keeps.regRead {s : State} {n : ℕ} (hk : Keeps s₀ s) : Keeps s₀ (regRead s n) := by
  unfold Machine.regRead
  dsimp only
  refine .withRequest hk (fun _ _ hk1 => ?_)
  split
  · split
    · exact .answerReq (Keeps.of_fst (.regReads (Keeps.of_fst (.regCheck hk1) ‹_›)) ‹_›)
    · exact .refuseReq (Keeps.of_fst (.regReads (Keeps.of_fst (.regCheck hk1) ‹_›)) ‹_›)
  · exact .refuseReq (Keeps.of_fst (.regCheck hk1) ‹_›)

theorem Keeps.regWrite {s : State} {n : ℕ} (hk : Keeps s₀ s) : Keeps s₀ (regWrite s n) := by
  unfold Machine.regWrite
  refine .withRequest hk (fun _ _ hk1 => ?_)
  split
  · exact .answerReq (.regWrites (Keeps.of_fst (.regCheck hk1) ‹_›))
  · exact .refuseReq (Keeps.of_fst (.regCheck hk1) ‹_›)

theorem Keeps.unmappedReq {s : State} {n : Nat} {m : Msg} (hk : Keeps s₀ s) : Keeps s₀ (unmappedReq s n m) := by
  unfold Machine.unmappedReq
  dsimp only
  refine .refuseReq ?_
  split
  next e =>
    split at e
    · cases e; exact .logSystem hk
    · cases e
  · split
    · exact .logSystem hk
    · exact hk

theorem Keeps.talelRead {s : State} {n : ℕ} (hk : Keeps s₀ s) : Keeps s₀ (talelRead s n) := by
  unfold Machine.talelRead
  split
  · exact hk
  · refine .ite (.refuseReq (Keeps.popReady hk ‹_›)) ?_
    split
    · exact .askFor hk
    · exact .answerReq (Keeps.of_fst (.unitRead (Keeps.popReady hk ‹_›)) ‹_›)
    · exact .refuseReq (Keeps.of_fst (.unitRead (Keeps.popReady hk ‹_›)) ‹_›)
    · exact .unmappedReq (Keeps.of_fst (.unitRead (Keeps.popReady hk ‹_›)) ‹_›)

theorem Keeps.talelReduce {s : State} {n : ℕ} {m : Msg} {fmt : ℕ} {off : ℕ} (hk : Keeps s₀ s) : Keeps s₀ (talelReduce s n m fmt off) :=
  .ite (.answerReq (.storeAtomic hk)) (.unmappedReq hk)

theorem Keeps.talelWrite {s : State} {n : ℕ} (hk : Keeps s₀ s) : Keeps s₀ (talelWrite s n) := by
  unfold Machine.talelWrite
  dsimp only
  split
  · exact hk
  · refine .ite (.refuseReq (Keeps.popReady hk ‹_›)) ?_
    split
    · exact .talelReduce (Keeps.popReady hk ‹_›)
    · split
      · exact .unitWriteDone hk
      · exact .answerReq (Keeps.of_fst (.unitWriteDone (Keeps.popReady hk ‹_›)) ‹_›)
      · exact .unmappedReq (Keeps.of_fst (.unitWriteDone (Keeps.popReady hk ‹_›)) ‹_›)

theorem Keeps.talelFetchAdd {s : State} {n : ℕ} (hk : Keeps s₀ s) : Keeps s₀ (talelFetchAdd s n) := by
  unfold Machine.talelFetchAdd
  dsimp only
  split
  · exact hk
  · refine .ite (.refuseReq (Keeps.popReady hk ‹_›)) ?_
    split
    · refine .ite (.refuseReq (Keeps.popReady hk ‹_›)) ?_
      refine .ite (.refuseReq (Keeps.popReady hk ‹_›)) ?_
      refine .ite (.refuseReq (.dropAtomic (Keeps.popReady hk ‹_›))) ?_
      split
      · exact .ite hk (.arrive hk)
      · exact .answerReq (Keeps.takeOutcome (.ite (Keeps.popReady hk ‹_›) (.arrive (Keeps.popReady hk ‹_›))) ‹_›)
      · exact .refuseReq (Keeps.takeOutcome (.ite (Keeps.popReady hk ‹_›) (.arrive (Keeps.popReady hk ‹_›))) ‹_›)
      · exact .refuseReq (Keeps.takeOutcome (.ite (Keeps.popReady hk ‹_›) (.arrive (Keeps.popReady hk ‹_›))) ‹_›)
    · exact .unmappedReq (Keeps.popReady hk ‹_›)

theorem Keeps.boxCheck {s : State} {who : Requester} {k : ℕ} {off : ℕ} (hk : Keeps s₀ s) : Keeps s₀ (boxCheck s who k off).1 :=
  .ite_fst (.pair (.bump hk)) (.ite_fst (.pair (.logReq hk)) (.pair hk))

theorem Keeps.talelDoorbell {s : State} {n : ℕ} (hk : Keeps s₀ s) : Keeps s₀ (talelDoorbell s n) := by
  unfold Machine.talelDoorbell
  dsimp only
  refine .withRequest hk (fun _ _ hk1 => ?_)
  split
  · exact .answerReq (.boxDoorbell (Keeps.of_fst (.boxCheck hk1) ‹_›))
  · exact .refuseReq (Keeps.of_fst (.boxCheck hk1) ‹_›)

theorem Keeps.talelSend {s : State} {n : ℕ} (hk : Keeps s₀ s) : Keeps s₀ (talelSend s n) := by
  unfold Machine.talelSend
  dsimp only
  refine .withRequest hk (fun _ _ hk1 => ?_)
  split
  · exact .answerReq (.boxSend (Keeps.of_fst (.boxCheck hk1) ‹_›))
  · exact .refuseReq (Keeps.of_fst (.boxCheck hk1) ‹_›)

theorem Keeps.mbxDoorbell {s : State} {via : MbxVia} (hk : Keeps s₀ s) : Keeps s₀ (mbxDoorbell s via) := by
  unfold Machine.mbxDoorbell
  split
  · exact .talelDoorbell hk
  · exact .writeReg hk

theorem Keeps.mbxSend {s : State} {via : MbxVia} (hk : Keeps s₀ s) : Keeps s₀ (mbxSend s via) := by
  unfold Machine.mbxSend
  split
  · exact .talelSend hk
  · exact .writeReg hk

theorem Keeps.closeReceive {s : State} {n : ℕ} (hk : Keeps s₀ s) : Keeps s₀ (closeReceive s n) := by
  unfold Machine.closeReceive
  split
  · exact hk
  · exact .closeCtx (.sendAck (.ite (.update (Keeps.popReady hk ‹_›) rfl rfl) (Keeps.popReady hk ‹_›)))

theorem Keeps.parityCore {s : State} {at_ : CtxAt} {access : Bool} {slot : Option (Fin 9)} {tileStore : Bool} (hk : Keeps s₀ s) : Keeps s₀ (parityCore
    s at_ access slot tileStore) := by
  unfold Machine.parityCore
  dsimp only
  split
  · exact .ite (.stopSweep (.ite (.bump (.raise hk)) hk)) (.takeCause (.ite (.bump (.raise hk)) hk))
  · exact .ite (.haltCore (.ite (.bump (.raise hk)) hk)) (.takeCause (.ite (.bump (.raise hk)) hk))
  · exact .takeCause (.ite (.bump (.raise hk)) hk)

theorem Keeps.parityLine {s : State} {place : ℕ} (hk : Keeps s₀ s) : Keeps s₀ (parityLine s place) := by
  unfold Machine.parityLine
  dsimp only
  refine .ite (.poisonArises (.poisonLine hk)) ?_
  refine .ite ?_ hk
  split
  · exact .update (.poisonLine hk) rfl rfl
  · exact .poisonLine hk

theorem Keeps.parityLoad {s : State} {id : CoreId} {x : Ctx} (hk : Keeps s₀ s) : Keeps s₀ (parityLoad s id x) := .modCore hk

theorem Keeps.parity {s : State} {where_ : ParityAt} {unit : Nat} (hk : Keeps s₀ s) : Keeps s₀ (parity s where_ unit) := by
  unfold Machine.parity
  dsimp only
  split
  · exact .ite hk (.inCycle hk fun _ hk => .reportUnit (.parityCore hk))
  · exact .reportUnit (.parityLine hk)
  · exact .reportUnit (.setRow hk)
  · split
    · exact .reportUnit (.setRow hk)
    · exact hk
  · split
    · exact .reportUnit (.refuseReq (.popReady hk ‹_›))
    · exact hk
  · exact .ite (.reportUnit (.parityLoad hk)) hk
  · exact .reportUnit hk
  · exact .ite (.reportUnit (.trigger hk)) hk
  · exact .reportUnit (.trigger hk)
  · exact .reportUnit (.trigger hk)
  · exact .startWarm (.reportUnit hk)

theorem Keeps.coreWriteAt {s : State} {id : CoreId} {off : ℕ} {who : Requester} {v : ℕ} {t : ℕ} (hk : Keeps s₀ s) : Keeps s₀ (coreWriteAt s id off who
    v t) :=
  .inCycle hk (fun _ hk1 => .busWriteAt hk1)

theorem Keeps.tickOf {s : State} (hk : Keeps s₀ s) : Keeps s₀ (tickOf s) := .update hk rfl rfl

end Sys2Proof.Machine
end

section
/-! SUPPORT. That every command keeps what no command changes, and the obligations on steps that follow. -/

namespace Sys2Proof.Machine

variable {s₀ : State}

/-- Every command answers a next state that keeps what every command keeps. -/
theorem Keeps.exec {s : State} (hk : Keeps s₀ s) (i : Instr) : ∃ t, exec i s = .next t ∧ Keeps s₀ t := by
  cases i with
  | illegalOpcode | slotAbsent | emptyWord | end_ | br | bz | bnz | loop | markStart | markEnd | replayBegin | replayEnd | replayRun | brk |
    fset | fadd | fwait | qpopi | qpushi | qdrop | imovi | iadd | iaddi | isub | ishli | iand | mxSweep | mxCoord | mxPass | mxDrain | vadd
    | vsub | vmul | vfma | vrcp | vrsq | vexp2 | vlog2 | vcvt | vrsum | vpass | vmax | vmin | vabs | vneg | vcmp | vsel | vmov | vbcst | vld
    | vst | vqpop | vqpush | sadd | ssub | sand | sor | sxor | sshl | sshr | ssra | smovi | saddi | scmplt | scmpeq | stoi | itos | smul |
    sdivu | spass | sld | sst | sqpop | sqpush | sregwr | jgBase | jgLoop | jgDest | jgRun | jgSwap | jgLd | jgSt | jgMove =>
    exact ⟨_, rfl, .issueIf hk⟩
  | jgStop =>
    refine ⟨_, rfl, ?_⟩
    split
    · exact .issueIf hk
    · exact .sessionStop hk
  | rankUpdateAccumulate =>
    exact ⟨_, rfl, .ite (.inCycle hk (fun _ hk1 => .rankUpdateStep hk1)) hk⟩
  | drainRowWrite =>
    exact ⟨_, rfl, .ite (.inCycle hk (fun _ hk1 => .drainRowStep hk1)) hk⟩
  | jgLdResponse =>
    exact ⟨_, rfl, .jgLdResponse hk⟩
  | resultCommit =>
    exact ⟨_, rfl, .resultCommit hk⟩
  | contextIdle =>
    exact ⟨_, rfl, .contextIdle hk⟩
  | haltComplete =>
    exact ⟨_, rfl, .haltComplete hk⟩
  | run | resume | reset | haltReq | haltAll | latAuditWrite | qcfgExtWrite | pcWrite =>
    exact ⟨_, rfl, .coreWriteAt hk⟩
  | remoteFlagWrite =>
    exact ⟨_, rfl, .remoteFlagWrite hk⟩
  | externalPush =>
    exact ⟨_, rfl, .externalPush hk⟩
  | deadlock =>
    exact ⟨_, rfl, .deadlock hk⟩
  | tileResponse =>
    exact ⟨_, rfl, .tileResponse hk⟩
  | tileDelivered =>
    exact ⟨_, rfl, .tileDelivered hk⟩
  | faultTaken =>
    exact ⟨_, rfl, .faultTaken hk⟩
  | faultAnswer =>
    exact ⟨_, rfl, .faultAnswer hk⟩
  | faultTimeout =>
    exact ⟨_, rfl, .faultTimeout hk⟩
  | stashFull =>
    exact ⟨_, rfl, .stashFullAt hk⟩
  | moveTileRequest =>
    exact ⟨_, rfl, .moveTileRequest hk⟩
  | moveGrant =>
    exact ⟨_, rfl, .moveGrant hk⟩
  | moveCommit =>
    exact ⟨_, rfl, .moveCommit hk⟩
  | movingFaultEnquiry =>
    exact ⟨_, rfl, .movingFaultEnquiry hk⟩
  | stashStore =>
    exact ⟨_, rfl, .stashStore hk⟩
  | stashSpill =>
    exact ⟨_, rfl, .stashSpill hk⟩
  | stashFill =>
    exact ⟨_, rfl, .stashFill hk⟩
  | stkRelease | stkCfgWrite | hbmTilesWrite | rowKick | rowAbort | sideDataWrite | mbxPop | mbxCfgWrite | cstateRelease | sakCommit |
    phsLdataWrite | hand | gather | bankSwitchWrite | bdataWrite | submit | etaNextWrite | bdone | updEnableWrite | updLdataWrite | flush |
    ldgQidxWrite | dfreqWrite | sicComplete | sicSwset | licComplete | scfgWrite | licSwset | idleHost | kill | partReset | warm | sleep =>
    exact ⟨_, rfl, .writeReg hk⟩
  | stashTakeAway =>
    exact ⟨_, rfl, .stashTakeAway hk⟩
  | atomicStore =>
    exact ⟨_, rfl, .atomicStore hk⟩
  | atomicApply =>
    exact ⟨_, rfl, .whileRunning hk (.atomicApply hk)⟩
  | dirPeek | sideDataRead | phsLdataRead | bdataRead | updLdataRead | claim =>
    exact ⟨_, rfl, .readReg hk⟩
  | hbmRead =>
    exact ⟨_, rfl, .whileRunning hk (.hbmRead hk)⟩
  | poisonNotice =>
    exact ⟨_, rfl, .poisonNotice hk⟩
  | hbmWrite =>
    exact ⟨_, rfl, .whileRunning hk (.hbmWrite hk)⟩
  | scrubRead =>
    exact ⟨_, rfl, .whileRunning hk (.scrubRead hk)⟩
  | rowRemap =>
    exact ⟨_, rfl, .rowRemap hk⟩
  | rowRetire =>
    exact ⟨_, rfl, .rowRetire hk⟩
  | retireNotice =>
    exact ⟨_, rfl, .retireNotice hk⟩
  | laneRepair =>
    exact ⟨_, rfl, .laneRepair hk⟩
  | stackLost =>
    exact ⟨_, rfl, .stackLost hk⟩
  | repairMapWrite =>
    exact ⟨_, rfl, .repairMapWrite hk⟩
  | periodicRetrain =>
    exact ⟨_, rfl, .periodicRetrain hk⟩
  | kickStart =>
    exact ⟨_, rfl, .whileRunning hk (.kickStart hk)⟩
  | rowProcess =>
    exact ⟨_, rfl, .whileRunning hk (.rowProcess hk)⟩
  | kickDone =>
    exact ⟨_, rfl, .whileRunning hk (.kickDone hk)⟩
  | frameReceive =>
    exact ⟨_, rfl, .frameReceive hk⟩
  | pfcPause =>
    exact ⟨_, rfl, .pfcPause hk⟩
  | pfcSend =>
    exact ⟨_, rfl, .pfcSend hk⟩
  | linkChange =>
    exact ⟨_, rfl, .linkChangeRow hk⟩
  | connect =>
    exact ⟨_, rfl, .connectReceive hk⟩
  | accept =>
    exact ⟨_, rfl, .acceptReceive hk⟩
  | close =>
    exact ⟨_, rfl, .closeReceive hk⟩
  | nak =>
    exact ⟨_, rfl, .nakReceive hk⟩
  | ack =>
    exact ⟨_, rfl, .ackReceive hk⟩
  | messageReceive =>
    exact ⟨_, rfl, .messageReceive hk⟩
  | ackDelayExpiry =>
    exact ⟨_, rfl, .ackDelayExpiry hk⟩
  | rtoExpiry =>
    exact ⟨_, rfl, .rtoExpiry hk⟩
  | regRead =>
    exact ⟨_, rfl, .regRead hk⟩
  | regWrite =>
    exact ⟨_, rfl, .regWrite hk⟩
  | memRead =>
    exact ⟨_, rfl, .talelRead hk⟩
  | memWrite =>
    exact ⟨_, rfl, .talelWrite hk⟩
  | atomicFetchAdd =>
    exact ⟨_, rfl, .talelFetchAdd hk⟩
  | mbxDoorbell =>
    exact ⟨_, rfl, .mbxDoorbell hk⟩
  | mbxSend =>
    exact ⟨_, rfl, .mbxSend hk⟩
  | admission =>
    exact ⟨_, rfl, .admission hk⟩
  | sliceCommit =>
    exact ⟨_, rfl, .sliceCommit hk⟩
  | frontierAdvance =>
    exact ⟨_, rfl, .frontierAdvance hk⟩
  | frontierFlagSend =>
    exact ⟨_, rfl, .frontierFlagSend hk⟩
  | quantiseSegment =>
    exact ⟨_, rfl, .quantiseSegment hk⟩
  | handDone =>
    exact ⟨_, rfl, .handDone hk⟩
  | reduceFrame =>
    exact ⟨_, rfl, .withFrame hk (fun _ hk1 => .reduceFrame hk1)⟩
  | slotForward =>
    exact ⟨_, rfl, .slotForward hk⟩
  | holdExpiry =>
    exact ⟨_, rfl, .holdExpiry hk⟩
  | segmentClose =>
    exact ⟨_, rfl, .segmentClose hk⟩
  | deadlineExpiry =>
    exact ⟨_, rfl, .deadlineExpiry hk⟩
  | sliceClose =>
    exact ⟨_, rfl, .sliceClose hk⟩
  | factorFrame =>
    exact ⟨_, rfl, .withFrame hk (fun _ hk1 => .factorFrame hk1)⟩
  | thinnedClose =>
    exact ⟨_, rfl, .thinnedClose hk⟩
  | paramMulticast =>
    exact ⟨_, rfl, .paramMulticast hk⟩
  | paramFrame =>
    exact ⟨_, rfl, .withFrame hk (fun _ hk1 => .paramFrame hk1)⟩
  | prune =>
    exact ⟨_, rfl, .pruneRow hk⟩
  | pruned =>
    exact ⟨_, rfl, .withFrame hk (fun _ hk1 => .prunedFrame hk1)⟩
  | mcCredit =>
    exact ⟨_, rfl, .mcCredit hk⟩
  | pull =>
    exact ⟨_, rfl, .pullSlice hk⟩
  | pullRetry =>
    exact ⟨_, rfl, .pullRetryRow hk⟩
  | cutThroughFail =>
    exact ⟨_, rfl, .cutThroughFail hk⟩
  | oldIdle =>
    exact ⟨_, rfl, .oldIdle hk⟩
  | recordHandoff =>
    exact ⟨_, rfl, .recordHandoff hk⟩
  | thinnedHandoff =>
    exact ⟨_, rfl, .thinnedHandoff hk⟩
  | sliceBegin =>
    exact ⟨_, rfl, .sliceBegin hk⟩
  | admissionRetry =>
    exact ⟨_, rfl, .admissionRetry hk⟩
  | updateLine =>
    exact ⟨_, rfl, .updateLine hk⟩
  | batchPush =>
    exact ⟨_, rfl, .batchPush hk⟩
  | batchTimeout =>
    exact ⟨_, rfl, .batchTimeout hk⟩
  | paramWrite =>
    exact ⟨_, rfl, .paramWrite hk⟩
  | mirrorRankUpdate =>
    exact ⟨_, rfl, .mirrorRankUpdate hk⟩
  | mirrorCompare =>
    exact ⟨_, rfl, .mirrorCompare hk⟩
  | sampleTimeout =>
    exact ⟨_, rfl, .sampleTimeout hk⟩
  | loupeCompare =>
    exact ⟨_, rfl, .loupeCompare hk⟩
  | numericsTrigger =>
    exact ⟨_, rfl, .numericsTrigger hk⟩
  | ledgerEvent =>
    exact ⟨_, rfl, .ledgerEvent hk⟩
  | ledgerFlashWrite =>
    exact ⟨_, rfl, .ledgerFlashWrite hk⟩
  | packetHop =>
    exact ⟨_, rfl, .packetHop hk⟩
  | crossingArrival =>
    exact ⟨_, rfl, .crossingArrival hk⟩
  | freqDone =>
    exact ⟨_, rfl, .freqDone hk⟩
  | unlock =>
    exact ⟨_, rfl, .clkUnlock hk⟩
  | relock =>
    exact ⟨_, rfl, .relock hk⟩
  | sourceLineChange =>
    exact ⟨_, rfl, .sourceLineChange hk⟩
  | sicDeliver =>
    exact ⟨_, rfl, .sicDeliver hk⟩
  | delivery =>
    exact ⟨_, rfl, .licDeliver hk⟩
  | moderationExpiry =>
    exact ⟨_, rfl, .moderationExpiry hk⟩
  | spyglassHit =>
    exact ⟨_, rfl, .spyglassHit hk⟩
  | isetWrite | cntSelWrite | ownerWrite | registerWrite =>
    exact ⟨_, rfl, .busWrite hk⟩
  | cntLoRead | errlogDataRead =>
    exact ⟨_, rfl, .busRead hk⟩
  | parity =>
    exact ⟨_, rfl, .parity hk⟩
  | poisonConsumed =>
    exact ⟨_, rfl, .poisonConsumed hk⟩
  | killDone =>
    exact ⟨_, rfl, .killDone hk⟩
  | drainTimeout =>
    exact ⟨_, rfl, .drainTimeout hk⟩
  | sharedTrigger =>
    exact ⟨_, rfl, .sharedTrigger hk⟩
  | epochAdopt =>
    exact ⟨_, rfl, .epochAdopt hk⟩
  | targetsAcknowledged =>
    exact ⟨_, rfl, .targetsAcknowledged hk⟩
  | partConfigWrite =>
    exact ⟨_, rfl, .ite (.writeReg hk) hk⟩
  | bootVerify =>
    exact ⟨_, rfl, .bootVerify hk⟩
  | image =>
    exact ⟨_, rfl, .imageFrame hk⟩
  | mgtChunk =>
    exact ⟨_, rfl, .mgtChunk hk⟩
  | report =>
    exact ⟨_, rfl, .report hk⟩
  | cert =>
    exact ⟨_, rfl, .cert hk⟩
  | enrol =>
    exact ⟨_, rfl, .enrol hk⟩
  | fwStage =>
    exact ⟨_, rfl, .fwStage hk⟩
  | fwCommit =>
    exact ⟨_, rfl, .fwCommit hk⟩
  | mgtPartReset =>
    exact ⟨_, rfl, .mgtPartReset hk⟩
  | mgtPartKill =>
    exact ⟨_, rfl, .mgtPartKill hk⟩
  | mgtWarm =>
    exact ⟨_, rfl, .mgtWarm hk⟩
  | remove via =>
    cases via with
    | none => exact ⟨_, rfl, .mgtRemove hk⟩
    | some v => exact ⟨_, rfl, .writeReg hk⟩
  | alarmAck =>
    exact ⟨_, rfl, .alarmAck hk⟩
  | identify =>
    exact ⟨_, rfl, .identify hk⟩
  | provision =>
    exact ⟨_, rfl, .provision hk⟩
  | alarm =>
    exact ⟨_, rfl, .alarm hk⟩
  | removalRequest =>
    exact ⟨_, rfl, .removalRequest hk⟩
  | shortPress =>
    exact ⟨_, rfl, .shortPress hk⟩
  | buttonDown =>
    exact ⟨_, rfl, .buttonDown hk⟩
  | drainingEnd =>
    exact ⟨_, rfl, .drainingEnd hk⟩
  | safe =>
    exact ⟨_, rfl, .safe hk⟩
  | tailWrite =>
    exact ⟨_, rfl, .tailWrite hk⟩
  | latchLever =>
    exact ⟨_, rfl, .latchLever hk⟩
  | status =>
    exact ⟨_, rfl, .statusFrame hk⟩
  | vbusChange =>
    exact ⟨_, rfl, .vbusChange hk⟩
  | periscopeOpen =>
    exact ⟨_, rfl, .periscopeOpen hk⟩
  | periscopeClose =>
    exact ⟨_, rfl, .periscopeClose hk⟩
  | sessionTimeout =>
    exact ⟨_, rfl, .sessionTimeout hk⟩
  | authLockoutExpiry =>
    exact ⟨_, rfl, .authLockoutExpiry hk⟩
  | fullPowerOn =>
    exact ⟨_, rfl, .fullPowerOn hk⟩
  | powerGood =>
    exact ⟨_, rfl, .powerGood hk⟩
  | stageAdvance =>
    exact ⟨_, rfl, .stageAdvance hk⟩
  | undervolt =>
    exact ⟨_, rfl, .undervolt hk⟩
  | powerEnableLow =>
    exact ⟨_, rfl, .powerEnableLow hk⟩
  | overvoltage =>
    exact ⟨_, rfl, .overvoltage hk⟩
  | powerCapPeriod =>
    exact ⟨_, rfl, .powerCapPeriod hk⟩
  | phaseSpare =>
    exact ⟨_, rfl, .phaseSpare hk⟩
  | peerPortFail =>
    exact ⟨_, rfl, .peerPortFail hk⟩
  | spareLinkTimeout =>
    exact ⟨_, rfl, .spareLinkTimeout hk⟩
  | retire =>
    exact ⟨_, rfl, .retire hk⟩
  | wake =>
    exact ⟨_, rfl, .wake hk⟩
  | inputLoss =>
    exact ⟨_, rfl, .inputLoss hk⟩

theorem step_of_idle {s : State} (h : s.pending = []) : step s = .next { s with tick := s.tick + 1 } := by
  have e : step s = .next (tickOf s) := by
    unfold step
    rw [h]
  exact e

theorem step_of_front {s : State} {c : Instr} {rest : List Instr} (h : s.pending = c :: rest) : step s = exec c { s with pending := rest } := by
  unfold step
  rw [h]

/-- A step on a waiting command keeps what commands keep, with that command taken out of the queue. -/
theorem keeps_of_step {s t : State} {c : Instr} {rest : List Instr} (h : s.pending = c :: rest) (e : step s = .next t) :
    Keeps { s with pending := rest } t := by
  obtain ⟨t', e', hk⟩ := Keeps.exec (.refl { s with pending := rest }) c
  rw [step_of_front h, e', Host.Outcome.next.injEq] at e
  exact e ▸ hk

/-- Settles O58: a tick leaves flash as it is, and every command keeps the root key. -/
theorem rootKeyKept : Obligations.RootKeyKept := by
  unfold Obligations.RootKeyKept
  intro s t e
  match h : s.pending with
  | [] =>
    rw [step_of_idle h, Host.Outcome.next.injEq] at e
    exact e ▸ rfl
  | c :: rest => exact (keeps_of_step h e).rootKey

/-- Settles O59: no command writes the queue that is left when it has been taken. -/
theorem queueOnlyShrinks : Obligations.QueueOnlyShrinks := by
  unfold Obligations.QueueOnlyShrinks
  intro s t e
  match h : s.pending with
  | [] =>
    rw [step_of_idle h, Host.Outcome.next.injEq] at e
    exact e ▸ h
  | c :: rest => exact (keeps_of_step h e).pending

/-- Settles O60: a tick leaves the bytes of HBM as they are, and every command keeps their canonical form. -/
theorem memoryStaysCanonical : Obligations.MemoryStaysCanonical := by
  unfold Obligations.MemoryStaysCanonical
  intro s t hw e
  match h : s.pending with
  | [] =>
    rw [step_of_idle h, Host.Outcome.next.injEq] at e
    exact e ▸ hw
  | c :: rest => exact (keeps_of_step h e).wf hw

/-- Settles O1: every command answers a next state (`Keeps.exec`), and a step takes the front of the queue. -/
theorem stepRunsFront : Obligations.StepRunsFront := by
  unfold Obligations.StepRunsFront Claims.StepRunsFront Claims.NothingStops
  refine ⟨fun c s => step_of_front rfl, fun c s => ?_⟩
  obtain ⟨t, e, -⟩ := Keeps.exec (.refl s) c
  exact ⟨t, e⟩

/-- Settles O2. -/
theorem idleTick : Obligations.IdleTick := fun _ => step_of_idle

end Sys2Proof.Machine
end

section
/-! SUPPORT. The registers of the state after reset. -/

namespace Sys2Proof.Machine

theorem resetAt_owner (p : Page) : p.resetAt 0x040 = 0x80000000 := by
  obtain ⟨b, i⟩ := p
  cases b <;> rfl

theorem regN_reset (p : Page) (off : Nat) : State.reset.regN p off = p.resetAt off % 2 ^ 32 := BitVec.toNat_ofNat _ _

/-- Bit 31 of OWNER reads 1 and its other bits 0, on a page whose bit 31 can be cleared and on one where it is fixed. -/
theorem owner_reset (p : Page) : State.reset.owner p = 0x80000000 := by
  have h : State.reset.regN p 0x040 = 0x80000000 := (regN_reset p _).trans (by rw [resetAt_owner]; rfl)
  unfold State.owner
  rw [h]
  split <;> decide

/-- Settles O57. -/
theorem afterReset : Obligations.AfterReset := by
  unfold Obligations.AfterReset
  refine ⟨rfl, rfl, Memory.wf_reset, by decide, regN_reset, fun p => ?owner, fun p n => ⟨rfl, rfl⟩, fun id x f n => ?core, fun n => rfl,
    by decide, fun a => rfl⟩
  case owner =>
    have h : bitAt (State.reset.owner p) 31 = true := by rw [owner_reset]; decide
    refine ⟨h, by rw [owner_reset]; decide, fun who => ?_⟩
    simp [State.admits, h]
  case core =>
    refine ⟨?_, rfl, ?_, fun acc => ?_, ?_, rfl⟩
    · cases x <;> rfl
    · cases x <;> exact ite_self _
    · cases x <;> cases acc <;> exact ite_self _
    · cases x <;> rfl

end Sys2Proof.Machine
end

section
/-! SUPPORT. Bits and fields of registers after the updates that set them. -/

namespace Sys2Proof.Machine

/-! ### Bits of words -/

theorem bitAt_eq_testBit (n i : Nat) : bitAt n i = n.testBit i := by
  rw [Nat.testBit_eq_decide_div_mod_eq, bitAt]
  rfl

theorem bitAt_toNat {w : Nat} (v : BitVec w) (i : Nat) : bitAt v.toNat i = v.getLsbD i := by
  rw [bitAt_eq_testBit]
  rfl

theorem field_lt (v hi lo : Nat) : field v hi lo < 2 ^ (hi + 1 - lo) := Nat.mod_lt _ (Nat.two_pow_pos _)

/-! ### Keys of one page -/

theorem Page.key_ne (p : Page) {a b : Nat} (h : a ≠ b) : p.key a ≠ p.key b := by
  unfold Page.key
  omega

theorem State.reg_setReg_ne (s : State) {p q : Page} {a b : Nat} (v : Word) (h : q.key b ≠ p.key a) :
    (s.setReg p a v).reg q b = s.reg q b := by
  rw [State.reg_setReg, if_neg h]

/-! ### Bits of ISTATUS that are raised (R385) -/

theorem State.reg_raise_ne (s : State) {p q : Page} (bit : Nat) {off : Nat} (h : q.key off ≠ p.key 0x018) :
    (s.raise p bit).reg q off = s.reg q off := s.reg_setReg_ne _ h

theorem State.reg_raise_self (s : State) (p : Page) (bit : Nat) :
    (s.raise p bit).reg p 0x018 = s.reg p 0x018 ||| BitVec.ofNat 32 (2 ^ bit) := State.reg_setReg_self ..

/-- A raised bit reads 1. -/
theorem State.bitAt_raise_self (s : State) (p : Page) {bit : Nat} (h : bit < 32) : bitAt ((s.raise p bit).regN p 0x018) bit = true := by
  rw [State.regN, bitAt_toNat, State.reg_raise_self, BitVec.getLsbD_or, BitVec.getLsbD_ofNat, Nat.testBit_two_pow]
  simp [h]

/-- A raised bit leaves the others as they are. -/
theorem State.bitAt_raise_ne (s : State) (p : Page) {bit i : Nat} (h : i ≠ bit) :
    bitAt ((s.raise p bit).regN p 0x018) i = bitAt (s.regN p 0x018) i := by
  rw [State.regN, State.regN, bitAt_toNat, bitAt_toNat, State.reg_raise_self, BitVec.getLsbD_or, BitVec.getLsbD_ofNat,
    Nat.testBit_two_pow]
  simp [h.symm]

/-! ### First-event records (R386) -/

theorem State.reg_record_ne (s : State) {p q : Page} {a b : Nat} (v : Nat) (h : q.key b ≠ p.key a) : (s.record p a v).reg q b = s.reg q b := by
  unfold State.record
  dsimp only
  split <;> exact s.reg_setReg_ne _ h

/-- A record is valid once something has been recorded. -/
theorem State.bitAt_record (s : State) (p : Page) (off : Nat) {v : Nat} (h : v < 2 ^ 30) : bitAt ((s.record p off v).regN p off) 31 = true := by
  have hlt : s.regN p off < 2 ^ 32 := (s.reg p off).isLt
  have hfield := field_lt (s.regN p off) 30 30
  unfold State.record
  dsimp only
  split
  case isTrue hvalid =>
    rw [State.regN_setRegN_self]
    simp only [bitAt, putField, field, beq_iff_eq] at hvalid ⊢
    norm_num at *
    omega
  case isFalse =>
    rw [State.regN_setRegN_self]
    simp only [bitAt, beq_iff_eq]
    norm_num at *
    omega

end Sys2Proof.Machine
end

section
/-! SUPPORT. The issue of a word of one operation, of whatever slot: what takes effect, and where the stream goes (R83, R108, R113). -/

namespace Sys2Proof.Machine

/-! ### The commands of operations (R83) -/

/-- Every operation's command is the issue of a word that holds the operation. -/
theorem exec_opRows : ∀ e ∈ opRows, ∀ (s : State) (u : Issue), exec (e.2 u) s = .next (issueIf s u (hasOp e.1)) := by
  simp only [opRows, controlRows, queueRows, matrixRows, vectorRows, vectorMemRows, scalarRows, scalarMemRows, jugglerRows,
    List.append, List.forall_mem_cons, List.not_mem_nil, false_implies, implies_true, and_true]
  and_intros <;> exact fun _ _ => rfl

theorem issueIf_of_other {s : State} {u : Issue} {ok : LongWord → Bool} (h : ok (wordOf s u) = false) : issueIf s u ok = s := by
  unfold issueIf
  rw [show ok (nextWord s u.id u.ctx u.access) = false from h]
  rfl

theorem issueWord_of_waiting {s : State} {u : Issue} (h : ¬ MayIssue s u) : issueWord s u = s := by
  obtain e | ⟨hissue, hread, hdue, -⟩ := issueWord_cases s u
  · exact e
  · exact absurd ⟨hissue, hread, hdue⟩ h

theorem issueIf_of_waiting {s : State} {u : Issue} {ok : LongWord → Bool} (h : ¬ MayIssue s u) : issueIf s u ok = s := by
  unfold issueIf
  split
  · exact issueWord_of_waiting h
  · rfl

/-- Settles O3. -/
theorem rowsIssueTheirWord : Obligations.RowsIssueTheirWord := by
  unfold Obligations.RowsIssueTheirWord
  intro e he s u
  rw [exec_opRows e he s u]
  refine ⟨fun hop hclean => ?_, fun hop => ?_, fun hwait => ?_⟩
  · rw [issueIf_of_clean hclean hop]
  · rw [issueIf_of_other hop]
  · rw [issueIf_of_waiting hwait]

/-! ### The word of one operation -/

/-- What one operation pops of its context's queues (R83). -/
def Context.popFor (k : Context) (op : SlotOp) (t : Nat) : Context :=
  match popOf op with
  | some q => k.setQueue q ((k.queue q).pop t)
  | none => k

/-- The state in which the operation of a word takes effect: its early reads are recorded, its pop is made (R83, R93). -/
def beforeOp (s : State) (u : Issue) (op : SlotOp) : State :=
  (recordEarly s s u (wordOf s u) (issuingStream u s).pc).modCore u.id (fun c => c.modCtx u.ctx (fun k => k.popFor op u.cycle))

/-- The last of an issue: the stream goes on as `go` says, and the word is counted (R108). -/
def wordEnd (s t : State) (u : Issue) (go : Stream) : State :=
  (t.modCore u.id (Core.moveOn u go (wordOf s u).gap)).bump (corePage u.id) (b2n u.access)

@[simp] theorem wordEnd_atCycle (s t : State) (u : Issue) (n : Nat) (go : Stream) :
    wordEnd (atCycle s u.id n) t u go = wordEnd s t u go := by simp [wordEnd]

/-- A word of one operation, which starts no tile run and takes no layer repeat, does what the operation does and goes on. -/
theorem performWord_of_single {s : State} {u : Issue} {op : SlotOp} (h : (wordOf s u).slots = [op]) (hrun : op.name ≠ .jgRun)
    (hswap : op.name ≠ .jgSwap) (hpoint : takePoint (issuingStream u s) (wordOf s u) = none) :
    performWord s u = wordEnd s (opEffect s u (issuingStream u s).pc (wordOf s u).gap (beforeOp s u op) op) u
      (nextStream (issuingStream u s) (wordOf s u) (nextPc s u) none) := by
  have hpops : popQueues (recordEarly s s u (wordOf s u) (issuingStream u s).pc) u (wordOf s u) = beforeOp s u op := by
    unfold popQueues beforeOp Context.popFor
    cases hp : popOf op with
    | none => simp [h, hp]
    | some q =>
      have hone : [q].eraseDups = [q] := rfl
      simp [h, hp, hone]
  have horder : slotOrder (wordOf s u) = [op] := by
    by_cases hd : op.name = .mxDrain <;> simp [slotOrder, h, hd]
  have htiles : startsTiles (wordOf s u) = false := by simp [startsTiles, h, hrun, hswap]
  unfold performWord
  simp only [show nextWord s u.id u.ctx u.access = wordOf s u from rfl, hpops, horder, List.foldl_cons, List.foldl_nil, htiles,
    Bool.false_eq_true, if_false, hpoint]
  rfl

theorem takePoint_of_single {st : Stream} {w : LongWord} {op : SlotOp} (h : w.slots = [op]) (hmark : op.name ≠ .markEnd)
    (hreplay : op.name ≠ .replayEnd) : takePoint st w = none := by
  simp [takePoint, h, hmark, hreplay]

/-- After an operation of no CTL slot the stream goes to the next word. -/
theorem nextStream_of_single {st : Stream} {w : LongWord} {op : SlotOp} (h : w.slots = [op]) (hslot : op.slot ≠ 0) (after : Nat) :
    nextStream st w after none = { st with pc := after } := by
  simp [nextStream, h, hslot]

/-- The command of an operation issues the word that holds it alone. -/
theorem exec_of_single {s : State} {u : Issue} {op : SlotOp} {c : Instr} (h : SoleIssue s u op)
    (hexec : exec c s = .next (issueIf s u (hasOp op.name))) (hrun : op.name ≠ .jgRun) (hswap : op.name ≠ .jgSwap)
    (hpoint : takePoint (issuingStream u s) (wordOf s u) = none) :
    exec c s = .next (wordEnd s (opEffect (atCycle s u.id u.cycle) u (issuingStream u s).pc (wordOf s u).gap
      (beforeOp (atCycle s u.id u.cycle) u op) op) u (nextStream (issuingStream u s) (wordOf s u) (nextPc s u) none)) := by
  obtain ⟨hclean, hslots⟩ := h
  have hholds : hasOp op.name (wordOf s u) = true := by simp [hasOp, hslots]
  have hat : (wordOf (atCycle s u.id u.cycle) u).slots = [op] := by rw [wordOf_atCycle, hslots]
  have hpoint' : takePoint (issuingStream u (atCycle s u.id u.cycle)) (wordOf (atCycle s u.id u.cycle) u) = none := by
    rwa [issuingStream_atCycle, wordOf_atCycle]
  rw [hexec, issueIf_of_clean hclean hholds, performWord_of_single hat hrun hswap hpoint']
  simp only [wordEnd_atCycle, wordOf_atCycle, issuingStream_atCycle, nextPc_atCycle]

/-- The command of an operation of no CTL slot: the stream goes on at the next word. -/
theorem exec_of_op {s : State} {u : Issue} {op : SlotOp} {c : Instr} (h : SoleIssue s u op)
    (hexec : exec c s = .next (issueIf s u (hasOp op.name))) (hslot : op.slot ≠ 0)
    (hname : op.name ∉ ([.jgRun, .jgSwap, .markEnd, .replayEnd] : List OpName)) :
    exec c s = .next (wordEnd s (opEffect (atCycle s u.id u.cycle) u (issuingStream u s).pc (wordOf s u).gap
      (beforeOp (atCycle s u.id u.cycle) u op) op) u { issuingStream u s with pc := nextPc s u }) := by
  simp only [List.mem_cons, List.not_mem_nil, or_false, not_or] at hname
  obtain ⟨hrun, hswap, hmark, hreplay⟩ := hname
  rw [exec_of_single h hexec hrun hswap (takePoint_of_single h.2 hmark hreplay), nextStream_of_single h.2 hslot]

/-! ### What a word's end leaves -/

@[simp] theorem wordEnd_core (s t : State) (u : Issue) (go : Stream) :
    (wordEnd s t u go).core u.id = (t.core u.id).moveOn u go (wordOf s u).gap := by simp [wordEnd]

theorem sameOutside_wordEnd (s t : State) (u : Issue) (go : Stream) : SameOutside t (wordEnd s t u go) u.id :=
  sameOutside_modCore_bump ..

@[simp] theorem wordEnd_mem (s t : State) (u : Issue) (go : Stream) : (wordEnd s t u go).mem = t.mem := by simp [wordEnd]

@[simp] theorem wordEnd_regs (s t : State) (u : Issue) (go : Stream) : (wordEnd s t u go).regs = t.regs := by simp [wordEnd]

@[simp] theorem wordEnd_opes (s t : State) (u : Issue) (go : Stream) : (wordEnd s t u go).opes = t.opes := by simp [wordEnd]

theorem issuingStream_wordEnd (s t : State) (u : Issue) (go : Stream) : issuingStream u (wordEnd s t u go) =
    { issuingStream u t with pc := go.pc, active := go.active, readyAt := u.cycle + 1 + (wordOf s u).gap } := by
  simp [issuingStream, Core.moveOn_stream]

theorem goesOn_wordEnd (s t : State) (u : Issue) (go : Stream) : GoesOn s (wordEnd s t u go) u go.pc := by
  simp [GoesOn, issuingStream_wordEnd]

/-! ### What stands before an operation -/

@[simp] theorem beforeOp_core (s : State) (u : Issue) (op : SlotOp) :
    (beforeOp s u op).core u.id = (s.core u.id).modCtx u.ctx (fun k => k.popFor op u.cycle) := by
  rw [beforeOp, State.core_modCore_self, (recordsOnly_recordEarly ..).core]

theorem sameOutside_beforeOp (s : State) (u : Issue) (op : SlotOp) : SameOutside s (beforeOp s u op) u.id :=
  ((recordsOnly_recordEarly ..).sameOutside u.id).trans (sameOutside_modCore ..)

/-- What a command's operation finds lies outside its core as it was before the command. -/
theorem sameOutside_beforeOp_atCycle (s : State) (u : Issue) (op : SlotOp) :
    SameOutside s (beforeOp (atCycle s u.id u.cycle) u op) u.id :=
  (sameOutside_modCore ..).trans (sameOutside_beforeOp ..)

theorem Context.popFor_of_no_pop (k : Context) {op : SlotOp} (h : popOf op = none) (t : Nat) : k.popFor op t = k := by
  simp [Context.popFor, h]

theorem Context.popFor_of_pop (k : Context) {op : SlotOp} {q : Nat} (h : popOf op = some q) (t : Nat) :
    k.popFor op t = k.setQueue q ((k.queue q).pop t) := by
  simp [Context.popFor, h]

/-- Before an operation that pops nothing the core is as it was when it reached the cycle. -/
theorem beforeOp_core_of_no_pop (s : State) (u : Issue) {op : SlotOp} (h : popOf op = none) :
    (beforeOp (atCycle s u.id u.cycle) u op).core u.id = (s.core u.id).reach u.cycle := by
  rw [beforeOp_core, core_atCycle_self]
  simp only [Context.popFor_of_no_pop _ h, Core.modCtx, Core.setCtx_ctx]

/-! ### Frames, by what becomes of the core -/

/-- The registers, mode and layer mark of a context: what `SameRegs` says is the same. -/
def Context.regs (k : Context) : SMap Word × SMap Word × SMap Word64 × SMap VReg × SMap MReg × CtxMode × Nat :=
  (k.exe.iregs, k.acc.iregs, k.sregs, k.vregs, k.mregs, k.mode, k.layer)

theorem sameRegs_of_regs {s t : State} {id : CoreId} (h : ∀ x, ((t.core id).ctx x).regs = ((s.core id).ctx x).regs) : SameRegs s t id := by
  intro x
  simpa [Context.regs] using h x

@[simp] theorem Core.moveOn_regs (u : Issue) (go : Stream) (gap : Nat) (c : Core) (x : Ctx) :
    ((c.moveOn u go gap).ctx x).regs = (c.ctx x).regs :=
  Core.moveOn_ctx_keep u go gap c Context.regs (fun _ => by cases u.access <;> rfl) x

/-- A core keeps what the frame of a word speaks of: registers, queues, flags, stores, stream contexts and the engine's holder. -/
structure Core.SameFrame (c d : Core) : Prop where
  regs : ∀ x : Ctx, (d.ctx x).regs = (c.ctx x).regs
  queues : ∀ x : Ctx, (d.ctx x).queues = (c.ctx x).queues
  stores : d.store = c.store ∧ d.marks = c.marks ∧ d.istore = c.istore ∧ d.holder = c.holder ∧ d.scs = c.scs
  flags : d.flags = c.flags

theorem Core.sameFrame_reach (c : Core) (t : Nat) : c.SameFrame (c.reach t) := by
  constructor <;> simp

theorem Core.SameFrame.withPend {c d : Core} (h : c.SameFrame d) (p : Pend) : c.SameFrame (d.withPend p) := by
  obtain ⟨hr, hq, hs, hf⟩ := h
  exact ⟨fun x => by simpa using hr x, fun x => by simpa using hq x, hs, hf⟩

theorem Core.SameFrame.moveOn {c d : Core} (h : c.SameFrame d) (u : Issue) (go : Stream) (gap : Nat) : c.SameFrame (d.moveOn u go gap) := by
  obtain ⟨hr, hq, hs, hf⟩ := h
  exact ⟨fun x => by simpa using hr x, fun x => by simpa using hq x, by simpa using hs, by simpa using hf⟩

/-- The frame of a word is that of its core, of what stood before the word's end, and of what lies outside the core. -/
theorem wordFrame_wordEnd {s t : State} {u : Issue} (hcore : (s.core u.id).SameFrame (t.core u.id)) (hout : SameOutside s t u.id)
    (go : Stream) : WordFrame s (wordEnd s t u go) u := by
  have hend : (s.core u.id).SameFrame ((wordEnd s t u go).core u.id) := by
    rw [wordEnd_core]; exact hcore.moveOn ..
  exact ⟨sameRegs_of_regs hend.regs, hend.queues, hout.trans (sameOutside_wordEnd ..), hend.stores, hend.flags⟩

theorem noResult_wordEnd {s t : State} {u : Issue} (h : (t.core u.id).pend = (s.core u.id).pend) (go : Stream) :
    NoResult s (wordEnd s t u go) u := by
  simpa [NoResult] using h

@[simp] theorem addPend_core (s : State) (u : Issue) (op : SlotOp) (word L : Nat) (e : Effect) : (addPend s u op word L e).core u.id =
    (s.core u.id).withPend ⟨u.cycle + L - 1, u.cycle, u.ctx, u.access, op.slot, word, e⟩ :=
  State.core_modCore_self ..

theorem sameOutside_addPend (s : State) (u : Issue) (op : SlotOp) (word L : Nat) (e : Effect) :
    SameOutside s (addPend s u op word L e) u.id := sameOutside_modCore ..

theorem inFlight_wordEnd {s t : State} {u : Issue} (h : (t.core u.id).pend = (s.core u.id).pend) (op : SlotOp) (L : Nat) (e : Effect)
    (go : Stream) : InFlight s (wordEnd s (addPend t u op (issuingStream u s).pc L e) u go) u op L e := by
  simp [InFlight, h]

end Sys2Proof.Machine
end

section
/-! SUPPORT. Words of a CTL slot that choose where their stream goes (R116, R117). -/

namespace Sys2Proof.Machine

theorem opEffect_ctl {s0 s : State} {u : Issue} {op : SlotOp} (word gap : Nat) (h : op.slot = 0) :
    opEffect s0 u word gap s op = ctlEffect s u op word := by simp [opEffect, h]

/-- What a word's operation finds: the core when it has reached the cycle, and the rest as it was. -/
theorem issuingStream_beforeOp (s : State) (u : Issue) {op : SlotOp} (h : popOf op = none) :
    issuingStream u (beforeOp (atCycle s u.id u.cycle) u op) = issuingStream u s := by
  rw [issuingStream, beforeOp_core_of_no_pop s u h, Core.reach_ctx, issuingStream]

/-- An operation that leaves what it finds as it is moves its stream alone. -/
theorem framed_of_no_effect {s : State} {u : Issue} {op : SlotOp} (h : popOf op = none) (go : Stream) :
    let t := wordEnd s (beforeOp (atCycle s u.id u.cycle) u op) u go
    GoesOn s t u go.pc ∧ NoResult s t u ∧ WordFrame s t u := by
  have hcore := beforeOp_core_of_no_pop s u h
  exact ⟨goesOn_wordEnd .., noResult_wordEnd (by rw [hcore, Core.reach_pend]) _,
    wordFrame_wordEnd (by rw [hcore]; exact Core.sameFrame_reach ..) (sameOutside_beforeOp_atCycle ..) _⟩

/-- A stream context that waits at a segment's end, stopped because its context's access stream has ended (R116). -/
def StreamCtx.stoppedWith (x : Ctx) (sc : StreamCtx) : StreamCtx :=
  if sc.owner == some x && sc.state == scSegWait then { sc with state := scStopped, swapPending := false } else sc

@[simp] theorem stopWaiting_core (s : State) (id : CoreId) (x : Ctx) : (stopWaiting s id x).core id =
    { s.core id with scs := (s.core id).scs.map (fun e => (e.1, e.2.stoppedWith x)) } := by
  rw [stopWaiting, State.core_modCore_self]
  congr 1
  refine List.map_congr_left fun e _ => ?_
  unfold StreamCtx.stoppedWith
  split <;> rfl

theorem StreamCtx.stoppedWith_of_waiting {x : Ctx} {sc : StreamCtx} (howner : sc.owner = some x) (hstate : sc.state = scSegWait) :
    (sc.stoppedWith x).state = scStopped := by
  simp [StreamCtx.stoppedWith, howner, hstate]

theorem Core.sc_map (c : Core) (f : StreamCtx → StreamCtx) (hf : f {} = {}) (n : Nat) :
    Core.sc { c with scs := c.scs.map (fun e => (e.1, f e.2)) } n = f (c.sc n) := by
  have h := SMap.getD_map f c.scs {} n
  rwa [hf] at h

section
variable {s : State} {u : Issue} {op : SlotOp} (h : SoleIssue s u op) (hslot : op.slot = 0)
include h hslot

/-- BR, BZ and BNZ choose where their stream goes and do nothing else (R116). -/
theorem exec_branch {c : Instr} {pc : Nat} (hname : op.name = .br ∨ op.name = .bz ∨ op.name = .bnz)
    (hexec : exec c s = .next (issueIf s u (hasOp op.name)))
    (hpc : (nextStream (issuingStream u s) (wordOf s u) (nextPc s u) none).pc = pc) :
    ∃ t, exec c s = .next t ∧ GoesOn s t u pc ∧ NoResult s t u ∧ WordFrame s t u := by
  subst hpc
  have hpop : popOf op = none := by obtain e | e | e := hname <;> simp [popOf, e]
  have hexec' : exec c s = .next (wordEnd s (beforeOp (atCycle s u.id u.cycle) u op) u
      (nextStream (issuingStream u s) (wordOf s u) (nextPc s u) none)) := by
    obtain e | e | e := hname <;>
      rw [exec_of_single h hexec (by simp [e]) (by simp [e]) (takePoint_of_single h.2 (by simp [e]) (by simp [e])),
        opEffect_ctl _ _ hslot] <;>
      simp [ctlEffect, e]
  exact ⟨_, hexec', framed_of_no_effect hpop _⟩

/-- LOOP sends its register, one less, to where it was read from. -/
theorem exec_loop (hname : op.name = .loop) :
    let i := (issuingStream u s).ireg (field op.raw 9 6)
    ∃ t, exec (.loop u) s = .next t ∧ GoesOn s t u (if i = 1 then nextPc s u else field op.raw 31 16) ∧
      InFlight s t u op 1 (.ireg (field op.raw 9 6) (i - 1)) ∧ WordFrame s t u := by
  intro i
  have hpop : popOf op = none := by simp [popOf, hname]
  have hgo : (nextStream (issuingStream u s) (wordOf s u) (nextPc s u) none).pc = if i = 1 then nextPc s u else field op.raw 31 16 := by
    simp [nextStream, h.2, hslot, hname, i]
  have hcore := beforeOp_core_of_no_pop s u hpop
  have heffect : opEffect (atCycle s u.id u.cycle) u (issuingStream u s).pc (wordOf s u).gap
      (beforeOp (atCycle s u.id u.cycle) u op) op = addPend (beforeOp (atCycle s u.id u.cycle) u op) u op (issuingStream u s).pc 1
        (.ireg (field op.raw 9 6) (i - 1)) := by
    simp [opEffect_ctl _ _ hslot, ctlEffect, hname, issuingStream_beforeOp s u hpop, i]
  have hexec := exec_of_single (c := .loop u) h (by rw [hname]; rfl) (by simp [hname]) (by simp [hname])
    (takePoint_of_single h.2 (by simp [hname]) (by simp [hname]))
  rw [heffect] at hexec
  refine ⟨_, hexec, hgo ▸ goesOn_wordEnd .., inFlight_wordEnd (by rw [hcore, Core.reach_pend]) .., wordFrame_wordEnd ?_ ?_ _⟩
  · rw [addPend_core, hcore]; exact (Core.sameFrame_reach ..).withPend _
  · exact (sameOutside_beforeOp_atCycle ..).trans (sameOutside_addPend ..)

end

/-- The issuing stream has ended (R116). -/
def Core.endStream (u : Issue) (c : Core) : Core :=
  c.modCtx u.ctx (fun k => k.setStream u.access { k.stream u.access with ended := true })

theorem Core.SameFrame.endStream {c d : Core} (h : c.SameFrame d) (u : Issue) : c.SameFrame (d.endStream u) := by
  obtain ⟨hr, hq, hs, hf⟩ := h
  have hkeep {β : Type} (g : Context → β) (hg : ∀ k : Context, g (k.setStream u.access { k.stream u.access with ended := true }) = g k)
      (x : Ctx) : g ((d.endStream u).ctx x) = g (d.ctx x) := Core.ctx_modCtx_keep g d u.ctx _ (hg _) x
  refine ⟨fun x => ?_, fun x => ?_, by simpa [Core.endStream] using hs, by simpa [Core.endStream] using hf⟩
  · rw [hkeep Context.regs (fun _ => by cases u.access <;> rfl), hr x]
  · rw [hkeep (·.queues) (fun _ => by cases u.access <;> rfl), hq x]

theorem Core.stream_endStream (c : Core) (u : Issue) :
    ((c.endStream u).ctx u.ctx).stream u.access = { (c.ctx u.ctx).stream u.access with ended := true } := by
  rw [Core.endStream, Core.ctx_modCtx_self, Context.stream_setStream_self]

section
variable {s : State} {u : Issue} {op : SlotOp} (h : SoleIssue s u op) (hslot : op.slot = 0) (hname : op.name = .end_)
include h hslot hname

/-- END ends its stream; on the access stream it also stops the context's waiting stream contexts (R116). -/
theorem exec_end : exec (.end_ u) s = .next (wordEnd s
    (if u.access then stopWaiting ((beforeOp (atCycle s u.id u.cycle) u op).modCore u.id (Core.endStream u)) u.id u.ctx
      else (beforeOp (atCycle s u.id u.cycle) u op).modCore u.id (Core.endStream u)) u
    { issuingStream u s with pc := nextPc s u }) := by
  have hgo : nextStream (issuingStream u s) (wordOf s u) (nextPc s u) none = { issuingStream u s with pc := nextPc s u } := by
    simp [nextStream, h.2, hslot, hname]
  rw [exec_of_single (c := .end_ u) h (by rw [hname]; rfl) (by simp [hname]) (by simp [hname])
    (takePoint_of_single h.2 (by simp [hname]) (by simp [hname])), hgo, opEffect_ctl _ _ hslot]
  simp only [ctlEffect, hname]
  rfl

omit h hslot in
/-- The core once its stream has ended, before what END does to stream contexts. -/
theorem endStream_core : ((beforeOp (atCycle s u.id u.cycle) u op).modCore u.id (Core.endStream u)).core u.id =
    ((s.core u.id).reach u.cycle).endStream u := by
  rw [State.core_modCore_self, beforeOp_core_of_no_pop s u (by simp [popOf, hname])]

theorem exec_end_of_execute (haccess : u.access = false) : ∃ t, exec (.end_ u) s = .next t ∧ GoesOn s t u (nextPc s u) ∧
    (issuingStream u t).ended = true ∧ NoResult s t u ∧ WordFrame s t u := by
  have hcore := endStream_core (s := s) (u := u) hname
  have hexec := exec_end h hslot hname
  rw [if_neg (by simp [haccess])] at hexec
  refine ⟨_, hexec, goesOn_wordEnd .., ?ended, noResult_wordEnd ?pend _, wordFrame_wordEnd ?core ?outside _⟩
  case ended =>
    rw [issuingStream_wordEnd]
    show (issuingStream u _).ended = true
    rw [issuingStream, hcore, Core.stream_endStream]
  case pend => simp [hcore, Core.endStream]
  case core => rw [hcore]; exact (Core.sameFrame_reach ..).endStream u
  case outside => exact (sameOutside_beforeOp_atCycle ..).trans (sameOutside_modCore ..)

theorem exec_end_of_access (haccess : u.access = true) : ∃ t, exec (.end_ u) s = .next t ∧ GoesOn s t u (nextPc s u) ∧
    (issuingStream u t).ended = true ∧ NoResult s t u ∧ SameRegs s t u.id ∧ SameQueues s t u.id ∧ SameFlags s t u.id ∧
    ∀ n, ((s.core u.id).sc n).owner = some u.ctx → ((s.core u.id).sc n).state = scSegWait → ((t.core u.id).sc n).state = scStopped := by
  have hframe : (s.core u.id).SameFrame (((s.core u.id).reach u.cycle).endStream u) := (Core.sameFrame_reach ..).endStream u
  have hexec := exec_end h hslot hname
  rw [if_pos haccess] at hexec
  have hcore := stopWaiting_core ((beforeOp (atCycle s u.id u.cycle) u op).modCore u.id (Core.endStream u)) u.id u.ctx
  rw [endStream_core (s := s) (u := u) hname] at hcore
  generalize he : ((s.core u.id).reach u.cycle).endStream u = c at hframe hcore
  have hctx (scs : SMap StreamCtx) (x : Ctx) : Core.ctx { c with scs := scs } x = c.ctx x := by cases x <;> rfl
  refine ⟨_, hexec, goesOn_wordEnd .., ?ended, noResult_wordEnd ?pend _, ?regs, ?queues, ?flags, fun n howner hstate => ?stopped⟩
  case ended =>
    have hended : ((c.ctx u.ctx).stream u.access).ended = true := by rw [← he, Core.stream_endStream]
    rw [issuingStream_wordEnd]
    show (issuingStream u _).ended = true
    rw [issuingStream, hcore, hctx, hended]
  case pend => simp [hcore, ← he, Core.endStream]
  case regs => exact sameRegs_of_regs fun x => by simpa [hcore, hctx] using hframe.regs x
  case queues => intro x; simpa [hcore, hctx] using hframe.queues x
  case flags => simpa [SameFlags, hcore] using hframe.flags
  case stopped =>
    have hsc : c.sc n = (s.core u.id).sc n := Core.sc_of_scs hframe.stores.2.2.2.2 n
    rw [wordEnd_core, Core.sc_of_scs (Core.moveOn_scs ..), hcore, Core.sc_map c (·.stoppedWith u.ctx) (by simp [StreamCtx.stoppedWith]), hsc]
    exact StreamCtx.stoppedWith_of_waiting howner hstate

end

/-- Settles O5: END, BR, BZ, BNZ and LOOP each issue as a word that goes where the stream's next address says. -/
theorem branches : Obligations.Branches := by
  unfold Obligations.Branches
  intro s u op h hslot r target
  refine ⟨fun hname => ?br, fun hname => ?bz, fun hname => ?bnz, exec_loop h hslot, exec_end_of_execute h hslot, exec_end_of_access h hslot⟩
  case br => exact exec_branch h hslot (.inl hname) (by rw [hname]; rfl) (by simp [nextStream, h.2, hslot, hname, target])
  case bz => exact exec_branch h hslot (.inr (.inl hname)) (by rw [hname]; rfl) (by simp [nextStream, h.2, hslot, hname, target, r])
  case bnz => exact exec_branch h hslot (.inr (.inr hname)) (by rw [hname]; rfl) (by simp [nextStream, h.2, hslot, hname, target, r])

end Sys2Proof.Machine
end

section
/-! SUPPORT. The address unit, the scalar ALU, and words of two scalar slots (R113, R114, R165). -/

namespace Sys2Proof.Machine

/-! ### The address unit (R114) -/

theorem opEffect_qf {s0 s : State} {u : Issue} {op : SlotOp} (word gap : Nat) (h : op.slot = 1 ∨ op.slot = 2 ∨ op.slot = 3) :
    opEffect s0 u word gap s op = qfEffect s0 s u op word := by
  obtain e | e | e := h <;> simp [opEffect, e]

/-- The operations of the AD slot. -/
def adOps : List OpName := [.imovi, .iadd, .iaddi, .isub, .ishli, .iand]

/-- The word that an operation of the AD slot computes from the I registers of its stream. -/
def addressResult (st : Stream) (op : SlotOp) : Word :=
  let a := st.ireg (field op.raw 13 10)
  let b := st.ireg (field op.raw 17 14)
  match op.name with
  | .imovi => BitVec.ofNat 32 (field op.raw 63 32)
  | .iadd => a + b
  | .iaddi => a + BitVec.ofNat 32 (field op.raw 63 32)
  | .isub => a - b
  | .ishli => a <<< field op.raw 22 18
  | _ => a &&& b

theorem qfEffect_addressOp (s0 s : State) (u : Issue) (op : SlotOp) (word : Nat) (h : op.name ∈ adOps) :
    qfEffect s0 s u op word = addPend s u op word 1 (.ireg (field op.raw 9 6) (addressResult (issuingStream u s0) op)) := by
  simp only [adOps, List.mem_cons, List.not_mem_nil, or_false] at h
  obtain e | e | e | e | e | e := h <;> simp [qfEffect, addressResult, e]

theorem isPlain_of_addressOp {op : SlotOp} (hslot : op.slot = 3) (hname : op.name ∈ adOps) : op.isPlain = true := by
  simp only [adOps, List.mem_cons, List.not_mem_nil, or_false] at hname
  obtain e | e | e | e | e | e := hname <;> simp [SlotOp.isPlain, popOf, hslot, e]

/-- An operation of the AD slot puts its word in flight to its I register. -/
theorem putsInFlight_addressOp {s : State} {u : Issue} {op : SlotOp} {c : Instr} (h : SoleIssue s u op) (hslot : op.slot = 3)
    {n : OpName} (hname : op.name = n) (hn : n ∈ adOps) (hexec : exec c s = .next (issueIf s u (hasOp n))) {v : Word}
    (hv : addressResult (issuingStream u s) ⟨op.slot, n, op.raw⟩ = v) :
    ∃ t, exec c s = .next t ∧ InFlight s t u op 1 (.ireg (field op.raw 9 6) v) ∧ GoesOn s t u (nextPc s u) ∧ WordFrame s t u := by
  subst hname hv
  have heffect := (opEffect_qf (s0 := atCycle s u.id u.cycle) (s := atEffect (atCycle s u.id u.cycle) u) (u := u)
    (issuingStream u s).pc (wordOf s u).gap (.inr (.inr hslot))).trans (qfEffect_addressOp _ _ u op _ hn)
  rw [issuingStream_atCycle] at heffect
  exact ⟨_, putsInFlight_of_effect h (isPlain_of_addressOp hslot hn) hexec heffect (.refl _)⟩

/-- Settles O9. -/
theorem addressOps : Obligations.AddressOps := by
  unfold Obligations.AddressOps
  intro s u op h hslot st a b imm gives
  have hgives {c : Instr} {n : OpName} {v : Word} (hn : n ∈ adOps) (hexec : exec c s = .next (issueIf s u (hasOp n)))
      (hv : addressResult st ⟨op.slot, n, op.raw⟩ = v) (hname : op.name = n) : gives c v :=
    putsInFlight_addressOp h hslot hname hn hexec hv
  exact ⟨rfl, hgives (by decide) rfl rfl, hgives (by decide) rfl rfl, hgives (by decide) rfl rfl, hgives (by decide) rfl rfl,
    hgives (by decide) rfl rfl, hgives (by decide) rfl rfl⟩

/-! ### The scalar ALU (R127, R165) -/

/-- An operation of the SA slots that only puts a result in flight: its latency and its effect, for every state it may find. -/
theorem putsInFlight_scalar {s : State} {u : Issue} {op : SlotOp} {c : Instr} {L : Nat} {e : Effect} (h : SoleIssue s u op)
    (hkind : kindOf u.id = .scalar) (hslot : op.slot = 4 ∨ op.slot = 5) (hplain : op.isPlain = true)
    (hexec : exec c s = .next (issueIf s u (hasOp op.name)))
    (heffect : ∀ t word, scalarEffect (atCycle s u.id u.cycle) t u op word = addPend (t.bump (sclPage u.id) 0) u op word L e) :
    ∃ t, exec c s = .next t ∧ InFlight s t u op L e ∧ GoesOn s t u (nextPc s u) ∧ WordFrame s t u :=
  ⟨_, putsInFlight_of_effect h hplain hexec ((opEffect_scalar _ _ hkind hslot).trans (heffect ..)) (recordsOnly_bump ..)⟩

/-- The scalar ALU: ScalarAlu. -/
theorem scalarAlu_claim : Claims.ScalarAlu := by
  unfold Claims.ScalarAlu
  intro s u op h hkind _ hslot k a b imm gives
  have h6 : op.slot ≠ 6 := by omega
  have hgives {c : Instr} {n : OpName} {L : Nat} {v : Word64} (hn : n ∈ sregOps) (hexec : exec c s = .next (issueIf s u (hasOp n)))
      (hv : scalarResult k ⟨op.slot, n, op.raw⟩ = v) (hL : latencyOf n op.raw = L) (hname : op.name = n) : gives c L v := by
    subst hname hv hL
    refine putsInFlight_scalar h hkind hslot (isPlain_of_sregOp hslot hn) hexec fun t word => ?_
    rw [scalarEffect_sregOp _ _ _ _ _ hn, if_neg h6, core_atCycle_self, Core.reach_ctx]
  refine ⟨rfl, hgives (by decide) rfl rfl rfl, hgives (by decide) rfl rfl rfl, hgives (by decide) rfl rfl rfl, hgives (by decide) rfl rfl rfl,
    hgives (by decide) rfl rfl rfl, hgives (by decide) rfl rfl rfl, hgives (by decide) rfl rfl rfl, hgives (by decide) rfl rfl rfl,
    hgives (by decide) rfl rfl rfl, hgives (by decide) rfl rfl rfl, hgives (by decide) rfl rfl rfl, hgives (by decide) rfl rfl rfl,
    hgives (by decide) rfl rfl rfl, hgives (by decide) rfl rfl rfl, ?itos, ?stoi⟩
  case itos =>
    refine fun hname => putsInFlight_scalar h hkind hslot ?_ (by rw [hname]; rfl) fun t word => ?_
    · simp [SlotOp.isPlain, popOf, hname]; omega
    · simp [scalarEffect, hname, h6, latencyOf, k]
  case stoi =>
    refine fun hname => putsInFlight_scalar h hkind hslot ?_ (by rw [hname]; rfl) fun t word => ?_
    · simp [SlotOp.isPlain, popOf, hname]; omega
    · simp [scalarEffect, hname, h6, latencyOf, k, a]

end Sys2Proof.Machine
end

section
/-! SUPPORT. The lanes of the VA and VX slots, on every format (R153-R159). -/

namespace Sys2Proof.Machine

/-! ### Values of lanes -/

theorem latencyOf_arith (raw : Nat) : latencyOf .vadd raw = (if isInt (field raw 7 6) then 2 else 4) ∧
    latencyOf .vsub raw = (if isInt (field raw 7 6) then 2 else 4) ∧ latencyOf .vmul raw = (if isInt (field raw 7 6) then 2 else 4) ∧
    latencyOf .vfma raw = (if isInt (field raw 7 6) then 4 else 6) := by
  simp [latencyOf, isInt]

theorem lane2_fst (ty : Nat) (ff : Fmt → Nat → Nat → Nat) (fi : Int → Int → Int) (a b i : Nat) :
    (lane2 ty ff fi (laneOf a (laneBits ty) i) (laneOf b (laneBits ty) i)).1 = laneArith ty ff fi a b i := by
  unfold lane2 laneArith
  split <;> rfl

/-- An operation of two lanes gives each lane its sum, difference, product, maximum or minimum. -/
theorem lanesGive_lane2 (ty m a b : Nat) (ff : Fmt → Nat → Nat → Nat) (fi : Int → Int → Int) :
    LanesGive (runLanes (laneBits ty) m (fun n => lane2 ty ff fi (laneOf a (laneBits ty) n) (laneOf b (laneBits ty) n)) (lanesOf ty))
      (laneBits ty) m (lanesOf ty) (laneArith ty ff fi a b) :=
  (lanesGive_runLanes _ _ _ _).congr fun i _ => congrArg (· % _) (lane2_fst ty ff fi a b i)

theorem lanesGive_vecFma (ty m a b c : Nat) :
    LanesGive (vecFma ty m a b c) (laneBits ty) m (lanesOf ty) (fun i =>
      if isInt ty then wrapTo (laneBits ty) (signedOf (laneBits ty) (laneOf a (laneBits ty) i) * signedOf (laneBits ty) (laneOf b (laneBits ty) i) +
        signedOf (laneBits ty) (laneOf c (laneBits ty) i))
      else fFma (typeFmt ty) (laneOf a (laneBits ty) i) (laneOf b (laneBits ty) i) (laneOf c (laneBits ty) i)) :=
  (lanesGive_runLanes _ _ _ _).congr fun i _ => by
    dsimp only
    split <;> rfl

theorem lanesGive_vecSel (ty m a b : Nat) :
    LanesGive (vecSel ty m a b) (laneBits ty) (2 ^ 2048 - 1) (lanesOf ty)
      (fun i => if bitAt m i then laneOf a (laneBits ty) i else laneOf b (laneBits ty) i) := by
  have hones : ones 0 2048 = 2 ^ 2048 - 1 := by rw [ones, Nat.pow_zero, Nat.mul_one]
  rw [← hones]
  exact lanesGive_runLanes _ _ _ _

/-! ### VCMP (R159) -/

theorem bitAt_add_top_of_lt {v l i : Nat} (x : Nat) (h : i < l) : bitAt (v + x * 2 ^ l) i = bitAt v i := by
  have hlane := laneOf_add_above v x 1 h
  rw [Nat.one_mul] at hlane
  rw [bitAt_eq_laneOf, bitAt_eq_laneOf, hlane]

theorem bitAt_of_lt {v l i : Nat} (hv : v < 2 ^ l) (h : l ≤ i) : bitAt v i = false := by
  have hlt : v < 2 ^ i := hv.trans_le (Nat.pow_le_pow_right (by decide) h)
  simp [bitAt, Nat.div_eq_of_lt hlt]

/-- Every bit from `l` up to `n` of a mask which `ones` fills there is 1. -/
theorem bitAt_add_ones {v l n i : Nat} (hv : v < 2 ^ l) (hl : l ≤ i) (hi : i < n) : bitAt (v + ones l (n - l)) i = true := by
  have hpow : 2 ^ i = 2 ^ l * 2 ^ (i - l) := by rw [← pow_add, Nat.add_sub_cancel' hl]
  have hquot : (v + ones l (n - l)) / 2 ^ i = (2 ^ (n - l) - 1) / 2 ^ (i - l) := by
    rw [hpow, ← Nat.div_div_eq_div_mul, ones, Nat.add_mul_div_right _ _ (Nat.two_pow_pos l), Nat.div_eq_of_lt hv, Nat.zero_add]
  have hbit : (2 ^ (n - l) - 1).testBit (i - l) = true := by rw [Nat.testBit_two_pow_sub_one]; exact decide_eq_true (by omega)
  rw [Nat.testBit_eq_decide_div_mod_eq] at hbit
  rw [bitAt, hquot]
  exact beq_iff_eq.mpr (of_decide_eq_true hbit)

theorem lanesOf_le (ty : Nat) : lanesOf ty ≤ 2048 := by unfold lanesOf; split_ifs <;> decide

/-- VCMP writes the outcome of each unmasked lane's comparison to the lane's bit, and 0 to the bits above the lanes. -/
theorem lanesGive_vecCmp (ty c m a b : Nat) :
    LanesGive (vecCmp ty c m a b) 1 m (lanesOf ty)
      (fun i => b2n (cmpLane ty c (laneOf a (laneBits ty) i) (laneOf b (laneBits ty) i))) := by
  intro i hi
  obtain ⟨hkeep, hval⟩ := lanesGive_runLanes 1 m
    (fun n => (b2n (cmpLane ty c (laneOf a (laneBits ty) n) (laneOf b (laneBits ty) n)), 0)) (lanesOf ty) i hi
  have habove := laneOf_add_above (runLanes 1 m
    (fun n => (b2n (cmpLane ty c (laneOf a (laneBits ty) n) (laneOf b (laneBits ty) n)), 0)) (lanesOf ty)).keep
    (2 ^ (2048 - lanesOf ty) - 1) 1 hi
  rw [Nat.one_mul] at habove
  exact ⟨habove.trans hkeep, hval⟩

theorem vecCmp_above (ty c m a b : Nat) {i : Nat} (hl : lanesOf ty ≤ i) (hi : i < 2048) :
    bitAt (vecCmp ty c m a b).keep i = true ∧ bitAt (vecCmp ty c m a b).val i = false := by
  obtain ⟨hval, hkeep⟩ := runLanes_lt 1 m
    (fun n => (b2n (cmpLane ty c (laneOf a (laneBits ty) n) (laneOf b (laneBits ty) n)), 0)) (lanesOf ty)
  rw [Nat.one_mul] at hval hkeep
  exact ⟨bitAt_add_ones hkeep hl hi, bitAt_of_lt hval hl⟩

/-! ### The obligation -/

/-- The VA slot: VectorArithmetic. -/
theorem vectorArithmetic : Claims.VectorArithmetic := by
  unfold Claims.VectorArithmetic
  intro s u op h hkind _ hslot k ty m a b c w gives
  have hgives {i : Instr} {n : OpName} {L : Nat} {f : Nat → Nat} (hn : n ∈ vregOps) (hexec : exec i s = .next (issueIf s u (hasOp n)))
      (hL : latencyOf n op.raw = L) (hlanes : LanesGive (vecResult k ⟨op.slot, n, op.raw⟩) w m (lanesOf ty) f) (hname : op.name = n) :
      gives i L f :=
    givesLanes_of_vregOp h hkind (.inl hslot) hname hn hexec hL hlanes
  obtain ⟨hadd, hsub, hmul, hfma⟩ := latencyOf_arith op.raw
  exact ⟨hgives (by decide) rfl hadd (lanesGive_lane2 _ _ _ _ _ _), hgives (by decide) rfl hsub (lanesGive_lane2 _ _ _ _ _ _),
    hgives (by decide) rfl hmul (lanesGive_lane2 _ _ _ _ _ _), hgives (by decide) rfl hfma (lanesGive_vecFma _ _ _ _ _),
    hgives (by decide) rfl rfl (lanesGive_runLanes _ _ _ _), hgives (by decide) rfl rfl (lanesGive_runLanes _ _ _ _),
    hgives (by decide) rfl rfl (lanesGive_runLanes _ _ _ _), hgives (by decide) rfl rfl (lanesGive_runLanes _ _ _ _)⟩

/-- The VX slot: VectorSelects. -/
theorem vectorSelects : Claims.VectorSelects := by
  unfold Claims.VectorSelects
  intro s u op h hkind _ hslot k ty m a b w gives
  have hgives {i : Instr} {n : OpName} {L mask : Nat} {f : Nat → Nat} (hn : n ∈ vregOps) (hexec : exec i s = .next (issueIf s u (hasOp n)))
      (hL : latencyOf n op.raw = L) (hlanes : LanesGive (vecResult k ⟨op.slot, n, op.raw⟩) w mask (lanesOf ty) f) (hname : op.name = n) :
      gives i L mask f :=
    givesLanes_of_vregOp h hkind (.inr hslot) hname hn hexec hL hlanes
  refine ⟨hgives (by decide) rfl rfl (lanesGive_lane2 _ _ _ _ _ _), hgives (by decide) rfl rfl (lanesGive_lane2 _ _ _ _ _ _),
    hgives (by decide) rfl rfl (lanesGive_runLanes _ _ _ _), hgives (by decide) rfl rfl (lanesGive_runLanes _ _ _ _),
    hgives (by decide) rfl rfl (lanesGive_vecSel _ _ _ _), hgives (by decide) rfl rfl (lanesGive_runLanes _ _ _ _),
    hgives (by decide) rfl rfl ((lanesGive_runLanes _ _ _ _).congr fun _ _ => Nat.mod_mod ..), fun hname => ?vcmp⟩
  case vcmp =>
    obtain ⟨t, hexec, hflight, hgoes, hframe⟩ := putsInFlight_vcmp h hkind hslot hname
    have hbits : vecResult k op = vecCmp ty (field op.raw 34 32) m a b := by simp only [vecResult, hname]; rfl
    refine ⟨t, vecResult k op, hexec, hflight, ?_, ?_, hgoes, hframe⟩
    · rw [hbits]; exact lanesGive_vecCmp _ _ _ _ _
    · rw [hbits]; exact fun i hl hi => vecCmp_above _ _ _ _ _ hl hi

/-- Settles O12. -/
theorem vectorValues : Obligations.VectorValues := ⟨vectorArithmetic, vectorSelects⟩

end Sys2Proof.Machine
end

section
/-! SUPPORT. A word of two scalar slots (R113). -/

namespace Sys2Proof.Machine

/-- A word of two operations of the SA slots, of which neither pops a queue, puts what each does to the state together. -/
theorem performWord_of_sregOps {s : State} {u : Issue} {a b : SlotOp} (h : (wordOf s u).slots = [a, b]) (ha : a.slot = 4) (hb : b.slot = 5)
    (hna : a.name ∈ sregOps) (hnb : b.name ∈ sregOps) :
    performWord s u = wordEnd s ([a, b].foldl (opEffect s u (issuingStream u s).pc (wordOf s u).gap) (atEffect s u)) u
      { issuingStream u s with pc := nextPc s u } := by
  have hplain : ∀ n ∈ sregOps, ∀ slot raw, popOf ⟨slot, n, raw⟩ = none ∧ n ≠ .mxDrain ∧ n ≠ .jgRun ∧ n ≠ .jgSwap ∧ n ≠ .markEnd ∧
      n ≠ .replayEnd := by simp [sregOps, popOf]
  obtain ⟨hpa, hda, hra, hwa, hma, hea⟩ := hplain a.name hna a.slot a.raw
  obtain ⟨hpb, hdb, hrb, hwb, hmb, heb⟩ := hplain b.name hnb b.slot b.raw
  have hpops : popQueues (recordEarly s s u (wordOf s u) (issuingStream u s).pc) u (wordOf s u) = atEffect s u := by
    simp [popQueues, h, hpa, hpb, Core.modCtx, atEffect]
  have horder : slotOrder (wordOf s u) = [a, b] := by simp [slotOrder, h, hda, hdb]
  have htiles : startsTiles (wordOf s u) = false := by simp [startsTiles, h, hra, hwa, hrb, hwb]
  have hpoint : takePoint (issuingStream u s) (wordOf s u) = none := by simp [takePoint, h, hma, hea, hmb, heb]
  have hnext : nextStream (issuingStream u s) (wordOf s u) (nextPc s u) none = { issuingStream u s with pc := nextPc s u } := by
    simp [nextStream, h, ha, hb]
  unfold performWord
  simp only [show nextWord s u.id u.ctx u.access = wordOf s u from rfl, hpops, horder, htiles, Bool.false_eq_true, if_false, hpoint]
  rw [← nextPc, hnext]
  rfl

/-- Settles O4: each slot's result is computed from the state before the word, which the other slot's does not change. -/
theorem slotsReadBeforeTheWord : Obligations.SlotsReadBeforeTheWord := by
  unfold Obligations.SlotsReadBeforeTheWord
  intro s u a b hclean hkind hslots ha hb hna hnb k r
  have hsa : a.name ∈ sregOps := by rw [hna]; decide
  have hsub : ∀ n ∈ ([.sadd, .ssub, .sand, .sor, .sxor] : List OpName), n ∈ sregOps ∧ ∀ raw, latencyOf n raw = 1 := by
    simp [sregOps, latencyOf]
  obtain ⟨hsb, hLb⟩ := hsub b.name hnb
  have hLa : latencyOf a.name a.raw = 1 := by rw [hna]; rfl
  have hexec : exec (.sadd u) s = .next (performWord (atCycle s u.id u.cycle) u) :=
    congrArg _ (issueIf_of_clean hclean (by simp [hasOp, hslots, hna]))
  rw [performWord_of_sregOps (by rw [wordOf_atCycle, hslots]) ha hb hsa hsb] at hexec
  simp only [List.foldl_cons, List.foldl_nil, opEffect_scalar _ _ hkind (.inl ha), opEffect_scalar _ _ hkind (.inr hb),
    scalarEffect_sregOp _ _ _ _ _ hsa, scalarEffect_sregOp _ _ _ _ _ hsb, hLa, hLb, core_atCycle_self, Core.reach_ctx,
    wordEnd_atCycle] at hexec
  refine ⟨_, hexec, ?pend, ?frame⟩
  case pend =>
    simp only [wordEnd_core, Core.moveOn_pend, addPend_core, Core.withPend_pend, State.bump_core, atEffect_core, core_atCycle_self,
      Core.reach_pend, Nat.add_sub_cancel, issuingStream_atCycle, List.append_assoc]
    rfl
  case frame =>
    refine wordFrame_wordEnd ?_ ?_ _
    · simp only [addPend_core, State.bump_core, atEffect_core, core_atCycle_self]
      exact ((Core.sameFrame_reach ..).withPend _).withPend _
    · have hcounted (t : State) (sel : Nat) : SameOutside t (t.bump (sclPage u.id) sel) u.id := (recordsOnly_bump ..).sameOutside u.id
      exact (sameOutside_modCore ..).trans ((sameOutside_atEffect ..).trans ((hcounted ..).trans ((sameOutside_addPend ..).trans
        ((hcounted ..).trans (sameOutside_addPend ..)))))

end Sys2Proof.Machine
end

section
/-! SUPPORT. Flags and data queues at issue (R82, R83, R86-R88, R120). -/

namespace Sys2Proof.Machine

/-! ### FWAIT (R87) -/

/-- A word whose FWAIT does not hold waits. -/
theorem not_mayIssue_of_fwait {s : State} {u : Issue} {op : SlotOp} (hop : op ∈ (wordOf s u).slots) (hname : op.name = .fwait)
    (hcauses : (wordOf s u).causes = []) (habsent : (wordOf s u).absent = false)
    (hheld : ((s.core u.id).flag u.ctx (field op.raw 15 8)).released (issuingStream u s).readyAt u.cycle (field op.raw 17 16)
      (field op.raw 47 24) = false) : ¬ MayIssue s u := by
  have hwait : (op.slot, 3, bitAt op.raw 18, field op.raw 15 8) ∈ waitsOf (s.core u.id) u.ctx u.access (wordOf s u) u.cycle := by
    unfold waitsOf
    rw [if_neg (by simp [habsent])]
    refine List.mem_filterMap.mpr ⟨op, by simp [hop, hcauses], ?_⟩
    simp only [popOf, pushOf, hname, if_true]
    exact if_neg (by simpa [issuingStream] using hheld)
  rintro ⟨hissue, -, -⟩
  have hnone : (waitsOf (s.core u.id) u.ctx u.access (wordOf s u) u.cycle).isEmpty = true := by
    simp only [issuable, Bool.and_eq_true] at hissue
    exact hissue.2
  rw [List.isEmpty_iff.mp hnone] at hwait
  exact List.not_mem_nil hwait

/-- FWAIT: FlagWaits. -/
theorem flagWaits : Claims.FlagWaits := by
  unfold Claims.FlagWaits
  refine fun s u => ⟨fun op h hname hslot => ?_, fun op hop hname hcauses habsent hheld => ?_⟩
  · have hexec := exec_of_op (c := .fwait u) h (by rw [hname]; rfl) (by omega) (by simp [hname])
    rw [opEffect_qf _ _ (by omega), show ∀ t word, qfEffect (atCycle s u.id u.cycle) t u op word = t from
      fun t word => by simp [qfEffect, hname]] at hexec
    exact ⟨_, hexec, framed_of_no_effect (by simp [popOf, hname]) _⟩
  · exact congrArg _ (issueIf_of_waiting (not_mayIssue_of_fwait hop hname hcauses habsent hheld))

/-! ### FSET and FADD (R86, R88) -/

/-- What is pruned of a flag's history is never its latest value. -/
theorem FlagCell.value_pruned (base floor : Nat) (fc : FlagCycle) (r : List FlagCycle) :
    FlagCell.value ⟨base, pruneFlag (fc :: r) floor⟩ = fc.after := by
  unfold pruneFlag
  split <;> rfl

/-- The latest value of a flag after the only write of its cycle. -/
theorem FlagCell.value_write {c : FlagCell} {w : Nat} (h : c.hist.all (fun e => decide (e.cycle < w)) = true) (rank : Nat) (add : Bool)
    (v floor : Nat) : (c.write w rank add v floor).value = if add then (c.value + v) % 2 ^ 24 else v % 2 ^ 24 := by
  obtain ⟨base, hist⟩ := c
  cases hist with
  | nil =>
    unfold FlagCell.write
    rw [FlagCell.value_pruned]
    cases add <;> simp [FlagCycle.after, FlagCell.value]
  | cons e r =>
    have hne : e.cycle ≠ w := by
      simp only [List.all_cons, Bool.and_eq_true, decide_eq_true_eq] at h
      omega
    unfold FlagCell.write
    simp only [hne, if_false]
    rw [FlagCell.value_pruned]
    cases add <;> simp [FlagCycle.after, FlagCell.value]

theorem Core.flag_of_flags {c d : Core} (h : c.flags = d.flags) (x : Ctx) (f : Nat) : c.flag x f = d.flag x f := by
  rw [Core.flag, h, Core.flag]

section
variable (c : Core) (x : Ctx) (f w rank : Nat) (add : Bool) (v : Nat)

theorem Core.flag_writeFlag_self : (c.writeFlag x f w rank add v).flag x f = (c.flag x f).write w rank add v c.flagFloor :=
  SMap.getD_set_self ..

theorem Core.flag_writeFlag_ne {y : Ctx} {g : Nat} (h : 256 * y.idx + g ≠ 256 * x.idx + f) :
    (c.writeFlag x f w rank add v).flag y g = c.flag y g :=
  SMap.getD_set_ne _ _ _ h

@[simp] theorem Core.writeFlag_ctx (y : Ctx) : (c.writeFlag x f w rank add v).ctx y = c.ctx y := by cases y <;> rfl
@[simp] theorem Core.writeFlag_pend : (c.writeFlag x f w rank add v).pend = c.pend := rfl
@[simp] theorem Core.writeFlag_store : (c.writeFlag x f w rank add v).store = c.store := rfl
@[simp] theorem Core.writeFlag_marks : (c.writeFlag x f w rank add v).marks = c.marks := rfl
@[simp] theorem Core.writeFlag_istore : (c.writeFlag x f w rank add v).istore = c.istore := rfl
@[simp] theorem Core.writeFlag_holder : (c.writeFlag x f w rank add v).holder = c.holder := rfl
@[simp] theorem Core.writeFlag_scs : (c.writeFlag x f w rank add v).scs = c.scs := rfl

end

/-- After the word a flag has a value, and the rest of the core's flags, registers, queues and stores are as they were. -/
def FlagWritten (s : State) (u : Issue) (y : Ctx) (f value : Nat) (t : State) : Prop :=
  ((t.core u.id).flag y f).value = value ∧ GoesOn s t u (nextPc s u) ∧ NoResult s t u ∧ SameRegs s t u.id ∧ SameQueues s t u.id ∧
    SameOutside s t u.id ∧ SameStores s t u.id ∧
    ∀ (z : Ctx) (g : Nat), 256 * z.idx + g ≠ 256 * y.idx + f → (t.core u.id).flag z g = (s.core u.id).flag z g

/-- A word that writes one flag, whose cycle has no other write of it, and goes on. -/
theorem flagWritten_wordEnd {s t : State} {u : Issue} {y : Ctx} {f rank : Nat} {add : Bool} {v : Nat}
    (hcore : t.core u.id = ((s.core u.id).reach u.cycle).writeFlag y f u.cycle rank add v) (hout : SameOutside s t u.id)
    (hfresh : ((s.core u.id).flag y f).hist.all (fun w => decide (w.cycle < u.cycle)) = true) :
    FlagWritten s u y f (if add then (((s.core u.id).flag y f).value + v) % 2 ^ 24 else v % 2 ^ 24)
      (wordEnd s t u { issuingStream u s with pc := nextPc s u }) := by
  have hflags (x : Ctx) (g : Nat) : ((s.core u.id).reach u.cycle).flag x g = (s.core u.id).flag x g :=
    Core.flag_of_flags (Core.reach_flags ..) x g
  have hend (go : Stream) (x : Ctx) (g : Nat) : ((wordEnd s t u go).core u.id).flag x g =
      (((s.core u.id).reach u.cycle).writeFlag y f u.cycle rank add v).flag x g := by
    rw [wordEnd_core, Core.flag_of_flags (Core.moveOn_flags ..), hcore]
  refine ⟨?value, goesOn_wordEnd .., noResult_wordEnd ?pend _, sameRegs_of_regs fun x => ?regs, fun x => ?queues,
    hout.trans (sameOutside_wordEnd ..), ?stores, fun z g hne => ?others⟩
  case value => rw [hend, Core.flag_writeFlag_self, hflags, FlagCell.value_write hfresh]
  case pend => simp [hcore]
  case regs => simp [hcore]
  case queues => simp [hcore]
  case stores => simp [SameStores, hcore]
  case others => rw [hend, Core.flag_writeFlag_ne _ _ _ _ _ _ _ hne, hflags]

/-- FSET (`add` false) and FADD (`add` true) write the flag that they name. -/
theorem exec_flagWrite {s : State} {u : Issue} {op : SlotOp} {c : Instr} (h : SoleIssue s u op) (hslot : op.slot = 1 ∨ op.slot = 2)
    (add : Bool) (hname : op.name = if add then .fadd else .fset) (hexec : exec c s = .next (issueIf s u (hasOp op.name))) :
    let y := Ctx.ofIdx (field op.raw 7 6)
    let f := field op.raw 15 8
    let v := field op.raw 47 24
    ((s.core u.id).flag y f).hist.all (fun w => decide (w.cycle < u.cycle)) = true →
    ∃ t, exec c s = .next t ∧ FlagWritten s u y f (if add then (((s.core u.id).flag y f).value + v) % 2 ^ 24 else v % 2 ^ 24) t := by
  intro y f v hfresh
  have hpop : popOf op = none := by cases add <;> simp [popOf, hname]
  have hother : op.name ∉ ([.jgRun, .jgSwap, .markEnd, .replayEnd] : List OpName) := by cases add <;> simp [hname]
  have heffect : opEffect (atCycle s u.id u.cycle) u (issuingStream u s).pc (wordOf s u).gap (beforeOp (atCycle s u.id u.cycle) u op) op =
      (beforeOp (atCycle s u.id u.cycle) u op).modCore u.id (fun k => k.writeFlag y f u.cycle (b2n u.access) add v) := by
    rw [opEffect_qf _ _ (by omega)]
    cases add <;> (simp only [qfEffect, hname]; rfl)
  have hnext := exec_of_op h hexec (by omega) hother
  rw [heffect] at hnext
  exact ⟨_, hnext, flagWritten_wordEnd (by rw [State.core_modCore_self, beforeOp_core_of_no_pop s u hpop])
    ((sameOutside_beforeOp_atCycle ..).trans (sameOutside_modCore ..)) hfresh⟩

/-- FSET and FADD: FlagWrites. -/
theorem flagWrites : Claims.FlagWrites := by
  unfold Claims.FlagWrites
  intro s u op h hslot y f v hfresh
  have hv : v % 2 ^ 24 = v := Nat.mod_eq_of_lt (field_lt ..)
  refine ⟨fun hname => ?fset, fun hname => exec_flagWrite h hslot true hname (by rw [hname]; rfl) hfresh⟩
  case fset =>
    have hset := exec_flagWrite (c := .fset u) h hslot false hname (by rw [hname]; rfl) hfresh
    rwa [if_neg Bool.false_ne_true, hv] at hset

/-! ### Data queues (R82, R83, R120) -/

theorem Context.queue_setQueue (k : Context) (q : Nat) (v : DataQueue) (r : Nat) :
    (k.setQueue q v).queue r = if r = q then v else k.queue r := SMap.getD_set ..

theorem Context.queue_of_queues {k l : Context} (h : k.queues = l.queues) (q : Nat) : k.queue q = l.queue q := by
  rw [Context.queue, h, Context.queue]

/-- A core in which one queue of a context has changed, and the results in flight. -/
def Core.withQueue (c : Core) (x : Ctx) (q : Nat) (v : DataQueue) (ps : List Pend) : Core :=
  { c.modCtx x (fun k => k.setQueue q v) with pend := ps }

section
variable (c : Core) (x : Ctx) (q : Nat) (v : DataQueue) (ps : List Pend)

theorem Core.withQueue_ctx (y : Ctx) : (c.withQueue x q v ps).ctx y = (c.modCtx x (fun k => k.setQueue q v)).ctx y := by cases y <;> rfl

@[simp] theorem Core.withQueue_regs (y : Ctx) : ((c.withQueue x q v ps).ctx y).regs = (c.ctx y).regs := by
  rw [Core.withQueue_ctx]
  exact Core.ctx_modCtx_keep Context.regs c x _ rfl y

theorem Core.withQueue_queue (r : Nat) : ((c.withQueue x q v ps).ctx x).queue r = if r = q then v else (c.ctx x).queue r := by
  rw [Core.withQueue_ctx, Core.ctx_modCtx_self, Context.queue_setQueue]

theorem Core.withQueue_same_pend : c.withQueue x q v c.pend = c.modCtx x (fun k => k.setQueue q v) := by cases x <;> rfl

@[simp] theorem Core.withQueue_pend : (c.withQueue x q v ps).pend = ps := rfl
@[simp] theorem Core.withQueue_flags : (c.withQueue x q v ps).flags = c.flags := Core.modCtx_flags ..
@[simp] theorem Core.withQueue_store : (c.withQueue x q v ps).store = c.store := Core.modCtx_store ..
@[simp] theorem Core.withQueue_marks : (c.withQueue x q v ps).marks = c.marks := Core.modCtx_marks ..
@[simp] theorem Core.withQueue_istore : (c.withQueue x q v ps).istore = c.istore := Core.modCtx_istore ..
@[simp] theorem Core.withQueue_holder : (c.withQueue x q v ps).holder = c.holder := Core.modCtx_holder ..
@[simp] theorem Core.withQueue_scs : (c.withQueue x q v ps).scs = c.scs := Core.modCtx_scs ..

end

/-- A queue of the word's context is now `v`; every other queue, register, flag and store is as it was. -/
def QueueBecomes (s : State) (u : Issue) (q : Nat) (v : DataQueue) (t : State) : Prop :=
  ((t.core u.id).ctx u.ctx).queue q = v ∧ (∀ r, r ≠ q → ((t.core u.id).ctx u.ctx).queue r = ((s.core u.id).ctx u.ctx).queue r) ∧
    GoesOn s t u (nextPc s u) ∧ SameRegs s t u.id ∧ SameOutside s t u.id ∧ SameStores s t u.id ∧ SameFlags s t u.id

theorem queueBecomes_wordEnd {s t : State} {u : Issue} {q : Nat} {v : DataQueue} {ps : List Pend}
    (hcore : t.core u.id = ((s.core u.id).reach u.cycle).withQueue u.ctx q v ps) (hout : SameOutside s t u.id) :
    QueueBecomes s u q v (wordEnd s t u { issuingStream u s with pc := nextPc s u }) := by
  have hqueue (go : Stream) (r : Nat) : (((wordEnd s t u go).core u.id).ctx u.ctx).queue r =
      if r = q then v else ((s.core u.id).ctx u.ctx).queue r := by
    rw [wordEnd_core, Context.queue_of_queues (Core.moveOn_queues ..), hcore, Core.withQueue_queue, Core.reach_ctx]
  refine ⟨(hqueue ..).trans (if_pos rfl), fun r hr => (hqueue ..).trans (if_neg hr), goesOn_wordEnd .., sameRegs_of_regs fun x => ?regs,
    hout.trans (sameOutside_wordEnd ..), ?stores, ?flags⟩
  case regs => simp [hcore]
  case stores => simp [SameStores, hcore]
  case flags => simp [SameFlags, hcore]

/-- An operation that pops a queue finds it without its head entry. -/
theorem beforeOp_core_of_pop (s : State) (u : Issue) {op : SlotOp} {q : Nat} (h : popOf op = some q) :
    (beforeOp (atCycle s u.id u.cycle) u op).core u.id = ((s.core u.id).reach u.cycle).withQueue u.ctx q
      ((((s.core u.id).ctx u.ctx).queue q).pop u.cycle) (s.core u.id).pend := by
  rw [beforeOp_core, core_atCycle_self, ← Core.reach_pend (s.core u.id) u.cycle, Core.withQueue_same_pend]
  simp only [Core.modCtx, Context.popFor_of_pop _ h, Core.reach_ctx]

theorem Core.withQueue_withPend (c : Core) (x : Ctx) (q : Nat) (v : DataQueue) (ps : List Pend) (p : Pend) :
    (c.withQueue x q v ps).withPend p = c.withQueue x q v (ps ++ [p]) := rfl

/-- A push reserves a slot of its queue and puts its entry in flight. -/
theorem pushLocal_core (s : State) (u : Issue) (op : SlotOp) (word q : Nat) (data : Entry) : (pushLocal s u op word q data).core u.id =
    (s.core u.id).withQueue u.ctx q { ((s.core u.id).ctx u.ctx).queue q with reserved := (((s.core u.id).ctx u.ctx).queue q).reserved + 1 }
      ((s.core u.id).pend ++ [⟨u.cycle + 1 - 1, u.cycle, u.ctx, u.access, op.slot, word, .push q data⟩]) := by
  rw [pushLocal, addPend_core, State.core_modCore_self, Core.withQueue, Core.withPend, Core.modCtx_pend]
  rfl

theorem sameOutside_pushLocal (s : State) (u : Issue) (op : SlotOp) (word q : Nat) (data : Entry) :
    SameOutside s (pushLocal s u op word q data) u.id := (sameOutside_modCore ..).trans (sameOutside_addPend ..)

section
variable {s t : State} {u : Issue} {op : SlotOp} {q : Nat}

/-- The state after a word whose operation pops a queue and puts a result in flight, where records may have been made between. -/
theorem popped_addPend (hpop : popOf op = some q) (hrecords : RecordsOnly (beforeOp (atCycle s u.id u.cycle) u op) t) (L : Nat) (e : Effect) :
    let r := wordEnd s (addPend t u op (issuingStream u s).pc L e) u { issuingStream u s with pc := nextPc s u }
    InFlight s r u op L e ∧ QueueBecomes s u q ((((s.core u.id).ctx u.ctx).queue q).pop u.cycle) r := by
  have hcore := (hrecords.core u.id).trans (beforeOp_core_of_pop s u hpop)
  have hafter := addPend_core t u op (issuingStream u s).pc L e
  rw [hcore, Core.withQueue_withPend] at hafter
  refine ⟨inFlight_wordEnd (by rw [hcore, Core.withQueue_pend]) .., queueBecomes_wordEnd hafter ?_⟩
  exact (sameOutside_beforeOp_atCycle ..).trans ((hrecords.sameOutside u.id).trans (sameOutside_addPend ..))

/-- The state after a word whose operation pushes to a queue, where records may have been made before. -/
theorem pushed_wordEnd (hpop : popOf op = none) (hrecords : RecordsOnly (beforeOp (atCycle s u.id u.cycle) u op) t) (data : Entry) :
    let r := wordEnd s (pushLocal t u op (issuingStream u s).pc q data) u { issuingStream u s with pc := nextPc s u }
    InFlight s r u op 1 (.push q data) ∧
      QueueBecomes s u q { ((s.core u.id).ctx u.ctx).queue q with reserved := (((s.core u.id).ctx u.ctx).queue q).reserved + 1 } r := by
  have hcore := (hrecords.core u.id).trans (beforeOp_core_of_no_pop s u hpop)
  have hpush := pushLocal_core t u op (issuingStream u s).pc q data
  rw [hcore, Core.reach_ctx, Core.reach_pend] at hpush
  refine ⟨by simp [InFlight, hpush], queueBecomes_wordEnd hpush ?_⟩
  exact (sameOutside_beforeOp_atCycle ..).trans ((hrecords.sameOutside u.id).trans (sameOutside_pushLocal ..))

end

/-- QPOPI, QDROP and QPUSHI: IntegerQueueOps. -/
theorem integerQueueOps : Claims.IntegerQueueOps := by
  unfold Claims.IntegerQueueOps
  intro s u op h hslot q k popped
  have hexec {c : Instr} {n : OpName} {e : State → State} (hname : op.name = n) (hn : n ∉ ([.jgRun, .jgSwap, .markEnd, .replayEnd] : List OpName))
      (hc : exec c s = .next (issueIf s u (hasOp n))) (he : ∀ t, qfEffect (atCycle s u.id u.cycle) t u op (issuingStream u s).pc = e t) :
      exec c s = .next (wordEnd s (e (beforeOp (atCycle s u.id u.cycle) u op)) u { issuingStream u s with pc := nextPc s u }) := by
    rw [← he, ← opEffect_qf _ (wordOf s u).gap (by omega)]
    exact exec_of_op h (hname ▸ hc) (by omega) (hname ▸ hn)
  refine ⟨fun hname => ?qpopi, fun hname => ?qdrop, fun hname => ?qpushi⟩
  case qpopi =>
    have hnext := hexec hname (by decide) (c := .qpopi u) rfl fun t => by
      simp only [qfEffect, hname, core_atCycle_self, Core.reach_ctx]; rfl
    obtain ⟨hflight, hqueue⟩ := popped_addPend (s := s) (u := u) (op := op) (q := q) (by simp [popOf, hname, q]) (.refl _) 1 _
    exact ⟨_, hnext, hqueue, hflight⟩
  case qdrop =>
    have hpop : popOf op = some q := by simp [popOf, hname, q]
    have hnext := hexec hname (by decide) (c := .qdrop u) (e := id) rfl fun t => by simp [qfEffect, hname]
    have hcore := beforeOp_core_of_pop s u hpop
    exact ⟨_, hnext, queueBecomes_wordEnd hcore (sameOutside_beforeOp_atCycle ..), noResult_wordEnd (by rw [id, hcore, Core.withQueue_pend]) _⟩
  case qpushi =>
    have hnext := hexec hname (by decide) (c := .qpushi u) rfl fun t => by
      simp only [qfEffect, hname, issuingStream_atCycle]; rfl
    obtain ⟨hflight, hqueue, -, hgoes, hregs, hrest⟩ := pushed_wordEnd (s := s) (u := u) (op := op) (q := q) (by simp [popOf, hname]) (.refl _) _
    exact ⟨_, hnext, hflight, hqueue, hgoes, hregs, hrest⟩

/-- Settles O7. -/
theorem queuesAndFlags : Obligations.QueuesAndFlags := ⟨flagWaits, flagWrites, integerQueueOps⟩

end Sys2Proof.Machine
end

section
/-! SUPPORT. Scalar moves, and the register writes of SREGWR (R127, R164, R166, R384). -/

namespace Sys2Proof.Machine

/-- A read of a wrapping store depends on its address modulo the size alone. -/
theorem Mem.readMod_of_modEq {m : List (Nat × Byte)} {size a b : Nat} (h : a % size = b % size) (n : Nat) :
    Mem.readMod m size a n = Mem.readMod m size b n := by
  induction n generalizing a b with
  | zero => rfl
  | succ n ih =>
    rw [Mem.readMod, Mem.readMod, h, ih (show (a + 1) % size = (b + 1) % size from Nat.ModEq.add_right 1 h)]

/-! ### Moves of the SM slot (R127, R164) -/

/-- An operation of a scalar core's slot 6 is the scalar unit's. -/
theorem opEffect_scalarMove {s0 s : State} {u : Issue} {op : SlotOp} (word gap : Nat) (hkind : kindOf u.id = .scalar)
    (hslot : op.slot = 6) : opEffect s0 u word gap s op = scalarEffect s0 s u op word := by
  simp [opEffect, hslot, hkind]

@[simp] theorem localAddr_atCycle (s : State) (u : Issue) (op : SlotOp) (n : Nat) : localAddr (atCycle s u.id n) u op = localAddr s u op := by
  simp [localAddr]

section
variable {s : State} {u : Issue} {op : SlotOp} {c : Instr} (h : SoleIssue s u op) (hkind : kindOf u.id = .scalar) (hslot : op.slot = 6)
include h hkind hslot

/-- An operation of the SM slot issues as its effect on what stands before it. -/
theorem exec_scalarMove {n : OpName} {e : State → State} (hname : op.name = n)
    (hn : n ∉ ([.jgRun, .jgSwap, .markEnd, .replayEnd] : List OpName)) (hexec : exec c s = .next (issueIf s u (hasOp n)))
    (he : ∀ t, scalarEffect (atCycle s u.id u.cycle) t u op (issuingStream u s).pc = e (t.bump (sclPage u.id) 1)) :
    exec c s = .next (wordEnd s (e ((beforeOp (atCycle s u.id u.cycle) u op).bump (sclPage u.id) 1)) u
      { issuingStream u s with pc := nextPc s u }) := by
  rw [← he, ← opEffect_scalarMove _ (wordOf s u).gap hkind hslot]
  exact exec_of_op h (hname ▸ hexec) (by omega) (hname ▸ hn)

/-- A move that only puts a result in flight. -/
theorem putsInFlight_scalarMove {n : OpName} {L : Nat} {e : Effect} (hname : op.name = n)
    (hn : n ∉ ([.jgRun, .jgSwap, .markEnd, .replayEnd] : List OpName)) (hexec : exec c s = .next (issueIf s u (hasOp n)))
    (hpop : popOf op = none)
    (he : ∀ t, scalarEffect (atCycle s u.id u.cycle) t u op (issuingStream u s).pc =
      addPend (t.bump (sclPage u.id) 1) u op (issuingStream u s).pc L e) :
    ∃ t, exec c s = .next t ∧ InFlight s t u op L e ∧ GoesOn s t u (nextPc s u) ∧ WordFrame s t u := by
  have hcore := beforeOp_core_of_no_pop s u hpop
  have hnext := exec_scalarMove (e := fun t => addPend t u op (issuingStream u s).pc L e) h hkind hslot hname hn hexec he
  refine ⟨_, hnext, inFlight_wordEnd ?_ .., goesOn_wordEnd .., wordFrame_wordEnd ?_ ?_ _⟩
  · rw [State.bump_core, hcore, Core.reach_pend]
  · rw [addPend_core, State.bump_core, hcore]
    exact (Core.sameFrame_reach ..).withPend _
  · exact (sameOutside_beforeOp_atCycle ..).trans (((recordsOnly_bump ..).sameOutside u.id).trans (sameOutside_addPend ..))

end

/-! ### Register writes of a core (R166, R378, R384) -/

/-- With no register load of the core unread, an access of it has none to wait for (R384). -/
theorem earlierLoads_of_none {s : State} {id : CoreId} (h : nextLoad (s.core id) = none) : earlierLoads s id = s := by
  simp [earlierLoads, readLoads, h]

theorem nextLoad_of_ctx {c d : Core} (h : ∀ x, c.ctx x = d.ctx x) : nextLoad c = nextLoad d := by
  unfold nextLoad
  congr 1
  funext best x
  rw [h x]

theorem pageAt_corePage (id : CoreId) {off : Nat} (h : off < 0x1000) : pageAt ((corePage id).key off) = some (corePage id) := by
  obtain ⟨⟨c, hc⟩, ⟨k, hk⟩⟩ := id
  have hn : (corePage ⟨⟨c, hc⟩, ⟨k, hk⟩⟩).key off / 0x1000 = 0x40 * c + k := by
    simp only [Page.key, Page.base, corePage, coreIdx]
    omega
  have hq : (0x40 * c + k) / 0x40 = c := by omega
  have hr : (0x40 * c + k) % 0x40 = k := by omega
  simp only [pageAt, hn, show 0x40 * c + k < 0xA00 by omega, if_true, hq, hr, clusterPage, show k < 7 from hk]
  simp [corePage, coreIdx, Nat.mul_comm]

/-- The checks of an access that its page admits, by a requester other than Periscope and secure software, that does not write OWNER. -/
theorem busCheck_of_admitted {s : State} {off v : Nat} {who : Requester} {w : Bool} {p : Page} (hpage : pageAt off = some p)
    (hwho : who ≠ .periscope) (hup : s.domainUp p.domain = true) (hadmits : s.admits p who = true) (howner : off % 0x1000 ≠ 0x040) :
    busCheck s off who w v = (s, .ok p) := by
  simp [busCheck, hpage, hwho, hup, hadmits, howner]

/-- The checks of an access to no page. -/
theorem busCheck_of_absent {s : State} {off : Nat} (v : Nat) (who : Requester) (w : Bool) (h : pageAt off = none) :
    busCheck s off who w v = (s, .error .absent) := by
  simp [busCheck, h]

/-- With no early read of its only operation a word records no hazard. -/
theorem recordEarly_of_none {s : State} {u : Issue} {op : SlotOp} {w : LongWord} (hslots : w.slots = [op]) (h : earlyReads s u op = 0)
    (t : State) (word : Nat) : recordEarly s t u w word = t := by
  unfold recordEarly
  split
  · rfl
  · simp [hslots, h]

theorem earlyReads_atCycle (s : State) (u : Issue) (op : SlotOp) (n : Nat) : earlyReads (atCycle s u.id n) u op = earlyReads s u op := by
  simp only [earlyReads, core_atCycle_self, Core.reach_pend, resRead, localAddr_atCycle]

/-! ### What the checks of an access read -/

theorem State.domainUp_congr {s t : State} (hpower : t.power = s.power) (hfab : t.fab = s.fab) (d : Nat) : t.domainUp d = s.domainUp d := by
  simp only [State.domainUp, State.domainState, State.clock, hpower, hfab]

theorem State.admits_of_regs {s t : State} (h : t.regs = s.regs) (p : Page) (who : Requester) : t.admits p who = s.admits p who := by
  have hpart : t.reqPart who = s.reqPart who := by
    cases who <;> simp only [State.reqPart, State.clusterPart, State.regN_of_regs h]
  simp only [State.admits, State.owner, State.regN_of_regs h, hpart]

/-- STALL_LIMIT is a plain register of a CORE page (R104). -/
theorem pageWrite_stallLimit (s : State) (id : CoreId) (who : Requester) (v t : Nat) :
    pageWrite s (corePage id) who 0x1C0 v t = s.setReg (corePage id) 0x1C0
      ((s.reg (corePage id) 0x1C0 &&& ~~~0x1F1F#32) ||| (BitVec.ofNat 32 v &&& 0x1F1F#32)) := by
  have hblock : (corePage id).block = .core := rfl
  have hdebug : isDebug (corePage id) 0x1C0 = false := rfl
  have hspec : Block.core.spec 0x1C0 = some ⟨0x1C0, 4, 1, 0, 1, 0x1E14, 0x1F1F, 0x0, 0x0, 0x0, 0x0⟩ := by decide
  have hones (x : Word) : x &&& 4294967295#32 = x := BitVec.and_allOnes
  simp [pageWrite, hdebug, blockWrite, hblock, coreWrite, tableWrite, hspec, plainWrite, hones]

theorem recordsOnly_logReq (s : State) (p : Page) (kind : Nat) (who : Requester) (write : Bool) (off : Nat) :
    RecordsOnly s (s.logReq p kind who write off) := by
  refine ⟨fun x hx => ?_⟩
  cases x <;> simp_all [Untouched]

/-! ### SREGWR (R127, R166) -/

/-- The state in which an SREGWR takes effect. -/
def beforeSregwr (s : State) (u : Issue) (op : SlotOp) : State := (beforeOp (atCycle s u.id u.cycle) u op).bump (sclPage u.id) 1

section
variable {s : State} {u : Issue} {op : SlotOp} (hname : op.name = .sregwr)
include hname

theorem exec_sregwr (h : SoleIssue s u op) (hkind : kindOf u.id = .scalar) (hslot : op.slot = 6) :
    exec (.sregwr u) s = .next (wordEnd s (sregwrEffect (beforeSregwr s u op) u
      (localAddr s u op % 2 ^ 24) (((s.core u.id).ctx u.ctx).sreg (field op.raw 10 6)).toNat) u { issuingStream u s with pc := nextPc s u }) :=
  exec_scalarMove (e := fun t => sregwrEffect t u (localAddr s u op % 2 ^ 24) (((s.core u.id).ctx u.ctx).sreg (field op.raw 10 6)).toNat)
    h hkind hslot hname (by decide) rfl fun t => by
      simp only [scalarEffect, hname, hslot, if_true, sregwrOff, localAddr_atCycle, core_atCycle_self, Core.reach_ctx]

/-- What SREGWR finds: the core when it has reached the cycle. -/
theorem beforeSregwr_core : (beforeSregwr s u op).core u.id = (s.core u.id).reach u.cycle := by
  rw [beforeSregwr, State.bump_core, beforeOp_core_of_no_pop s u (by simp [popOf, hname])]

theorem earlierLoads_beforeSregwr (hloads : nextLoad (s.core u.id) = none) :
    earlierLoads (beforeSregwr s u op) u.id = beforeSregwr s u op := by
  refine earlierLoads_of_none ?_
  rw [beforeSregwr_core hname, nextLoad_of_ctx (fun x => Core.reach_ctx ..), hloads]

end

theorem sameOutside_beforeSregwr (s : State) (u : Issue) (op : SlotOp) : SameOutside s (beforeSregwr s u op) u.id :=
  (sameOutside_beforeOp_atCycle ..).trans ((recordsOnly_bump ..).sameOutside u.id)

/-- With no early read the registers are as they were. -/
theorem beforeSregwr_regs {s : State} {u : Issue} {op : SlotOp} (h : SoleIssue s u op) (hearly : earlyReads s u op = 0) :
    (beforeSregwr s u op).regs = s.regs := by
  have hslots : (wordOf (atCycle s u.id u.cycle) u).slots = [op] := by rw [wordOf_atCycle, h.2]
  rw [beforeSregwr, State.bump_regs, beforeOp, State.modCore_regs, recordEarly_of_none hslots (by rw [earlyReads_atCycle, hearly])]
  exact State.modCore_regs ..

/-- A refused SREGWR is recorded in POST_ERR and raises ISTATUS, and leaves all but records as it finds it. -/
theorem sregwrEffect_of_absent {s : State} {u : Issue} (off v : Nat) (hloads : earlierLoads s u.id = s) (hlt : off < 2 ^ 24)
    (habsent : pageAt off = none) :
    RecordsOnly s (sregwrEffect s u off v) ∧ bitAt ((sregwrEffect s u off v).regN (sclPage u.id) 0x018) 0 = true ∧
      bitAt ((sregwrEffect s u off v).regN (sclPage u.id) 0x104) 31 = true := by
  have hctx : u.ctx.idx ≤ 2 := by cases u.ctx <;> decide
  have heffect : sregwrEffect s u off v = (((((s.bump (sclPage u.id) 2).record (sclPage u.id) 0x104 (u.ctx.idx * 2 ^ 28 + off)).raise
      (sclPage u.id) 0).bump (sclPage u.id) 3).logReq (sclPage u.id) kindEvent (.sregwr u.id.cluster u.ctx) true 0x104) := by
    simp only [sregwrEffect, hloads, busWrite, busWriteAt, busCheck_of_absent _ _ _ habsent]
  rw [heffect]
  refine ⟨?records, ?raised, ?recorded⟩
  case records =>
    exact (recordsOnly_bump ..).trans ((recordsOnly_record ..).trans ((recordsOnly_setReg ..).trans ((recordsOnly_bump ..).trans
      (recordsOnly_logReq ..))))
  case raised =>
    rw [State.regN_of_regs (State.logReq_regs ..), State.regN_of_regs (State.bump_regs ..)]
    exact State.bitAt_raise_self _ _ (by decide)
  case recorded =>
    rw [State.regN_of_regs (State.logReq_regs ..), State.regN_of_regs (State.bump_regs ..), State.regN,
      State.reg_raise_ne _ _ (Page.key_ne _ (by decide))]
    exact State.bitAt_record _ _ _ (by omega)

/-- An admitted SREGWR of STALL_LIMIT of its own core writes it. -/
theorem sregwrEffect_stallLimit {s : State} {u : Issue} {off v : Nat} (hloads : earlierLoads s u.id = s) (hoff : off = (corePage u.id).key 0x1C0)
    (hup : s.domainUp (corePage u.id).domain = true) (hadmits : s.admits (corePage u.id) (.sregwr u.id.cluster u.ctx) = true) :
    sregwrEffect s u off v = (s.bump (sclPage u.id) 2).setReg (corePage u.id) 0x1C0
      ((s.reg (corePage u.id) 0x1C0 &&& ~~~0x1F1F#32) ||| (BitVec.ofNat 32 v &&& 0x1F1F#32)) := by
  subst hoff
  have hoff := offset_of_corePage_key u.id (off := 0x1C0) (by decide) (by decide)
  have hcheck := busCheck_of_admitted (s := s.bump (sclPage u.id) 2) (v := v) (who := .sregwr u.id.cluster u.ctx) (w := true)
    (pageAt_corePage u.id (off := 0x1C0) (by decide)) (by simp)
    ((State.domainUp_congr (State.bump_power ..) (State.bump_fab ..) _).trans hup)
    ((State.admits_of_regs (State.bump_regs ..) _ _).trans hadmits) (by omega)
  have hv : BitVec.ofNat 32 (v % 2 ^ 32) = BitVec.ofNat 32 v := BitVec.eq_of_toNat_eq (by simp)
  simp only [sregwrEffect, hloads, busWrite, busWriteAt, hcheck, hoff, pageWrite_stallLimit, hv,
    State.reg_of_regs (State.bump_regs s _ _)]

/-- A word that only makes records goes on and keeps its core's registers and results. -/
theorem recorded_wordEnd {s t t' : State} {u : Issue} (hcore : t.core u.id = (s.core u.id).reach u.cycle) (hrecords : RecordsOnly t t') (go : Stream) :
    NoResult s (wordEnd s t' u go) u ∧ SameRegs s (wordEnd s t' u go) u.id := by
  have hcore' : t'.core u.id = (s.core u.id).reach u.cycle := (hrecords.core u.id).trans hcore
  exact ⟨noResult_wordEnd (by rw [hcore', Core.reach_pend]) _, sameRegs_of_regs fun x => by simp [hcore']⟩

/-- SLD, SST, SQPOP, SQPUSH and SREGWR: ScalarMoves. -/
theorem scalarMoves : Claims.ScalarMoves := by
  unfold Claims.ScalarMoves
  intro s u op h hkind _ hslot k d a q addr store
  have haddr (hname : op.name = .sregwr ∨ op.name = .sld ∨ op.name = .sst) : localAddr s u op = addr := by
    obtain e | e | e := hname <;> simp [localAddr, e, addr]
  refine ⟨fun hname => ?sld, fun hname => ?sst, fun hname => ?sqpop, fun hname => ?sqpush, fun hname hloads hearly habsent => ?refused,
    fun hname hloads hearly hoff hup hadmits => ?written⟩
  case sld =>
    refine putsInFlight_scalarMove h hkind hslot hname (by decide) rfl (by simp [popOf, hname]) fun t => ?_
    have hread : Mem.readMod ((atCycle s u.id u.cycle).coreAt u.id u.cycle).store (storeSize .scalar) (localAddr (atCycle s u.id u.cycle) u op) 8 =
        Mem.readMod ((atCycle s u.id u.cycle).coreAt u.id u.cycle).store (256 * 2 ^ 10) store 8 := by
      rw [localAddr_atCycle, haddr (.inr (.inl hname))]
      exact Mem.readMod_of_modEq (Nat.mod_mod ..).symm 8
    simp only [scalarEffect, hname, hslot, if_true, hread]
    rfl
  case sst =>
    refine putsInFlight_scalarMove h hkind hslot hname (by decide) rfl (by simp [popOf, hname]) fun t => ?_
    simp only [scalarEffect, hname, hslot, if_true, localAddr_atCycle, haddr (.inr (.inr hname)), core_atCycle_self, Core.reach_ctx]
    rfl
  case sqpop =>
    have hnext := exec_scalarMove (c := .sqpop u) (e := fun t => addPend t u op (issuingStream u s).pc 1
        (.sreg d (BitVec.ofNat 64 ((k.queue q).head.toNat / 2 ^ (64 * field op.raw 25 23))))) h hkind hslot hname (by decide) rfl fun t => by
      simp only [scalarEffect, hname, hslot, if_true, core_atCycle_self, Core.reach_ctx]
      rfl
    obtain ⟨hflight, hqueue, -, hgoes, hregs, hrest⟩ :=
      popped_addPend (s := s) (u := u) (op := op) (q := q) (by simp [popOf, hname, q]) (recordsOnly_bump ..) 1 _
    exact ⟨_, hnext, hflight, hqueue, hgoes, hregs, hrest⟩
  case sqpush =>
    have hnext := exec_scalarMove (c := .sqpush u) (e := fun t => pushLocal t u op (issuingStream u s).pc q
        (BitVec.ofNat 512 ((k.sreg d).toNat + 2 ^ 64 * a.toNat))) h hkind hslot hname (by decide) rfl fun t => by
      simp only [scalarEffect, hname, hslot, if_true, core_atCycle_self, Core.reach_ctx]
      rfl
    obtain ⟨hflight, hqueue, -, hgoes, hregs, hrest⟩ :=
      pushed_wordEnd (s := s) (u := u) (op := op) (q := q) (by simp [popOf, hname]) (recordsOnly_bump ..) _
    exact ⟨_, hnext, hflight, hqueue, hgoes, hregs, hrest⟩
  case refused =>
    obtain ⟨hrecords, hraised, hrecorded⟩ := sregwrEffect_of_absent (u := u) (localAddr s u op % 2 ^ 24) (k.sreg d).toNat
      (earlierLoads_beforeSregwr (s := s) hname hloads) (Nat.mod_lt _ (by decide)) (by rw [haddr (.inl hname), habsent])
    obtain ⟨hpend, hregs⟩ := recorded_wordEnd (beforeSregwr_core hname) hrecords { issuingStream u s with pc := nextPc s u }
    refine ⟨_, exec_sregwr hname h hkind hslot, hpend, hregs, goesOn_wordEnd .., ?_, ?_, ?_⟩
    · rwa [State.regN_of_regs (wordEnd_regs ..)]
    · rwa [State.regN_of_regs (wordEnd_regs ..)]
    · exact ((sameOutside_beforeSregwr s u op).trans ((hrecords.sameOutside u.id).trans (sameOutside_wordEnd ..))).1
  case written =>
    have hout := sameOutside_beforeSregwr s u op
    have hregs := beforeSregwr_regs h hearly
    have hwritten := sregwrEffect_stallLimit (s := beforeSregwr s u op) (v := (k.sreg d).toNat) (earlierLoads_beforeSregwr hname hloads)
      ((congrArg (· % 2 ^ 24) (haddr (.inl hname))).trans hoff)
      ((State.domainUp_congr hout.2.2.2.2.2.2.2.2.2.2.2.2.1 hout.2.2.2.2.2.2.2.2.1 _).trans hup)
      ((State.admits_of_regs hregs _ _).trans hadmits)
    have hrecords : RecordsOnly (beforeSregwr s u op) (sregwrEffect (beforeSregwr s u op) u (localAddr s u op % 2 ^ 24) (k.sreg d).toNat) := by
      rw [hwritten]
      exact (recordsOnly_bump ..).trans (recordsOnly_setReg ..)
    obtain ⟨hpend, hsame⟩ := recorded_wordEnd (beforeSregwr_core hname) hrecords { issuingStream u s with pc := nextPc s u }
    refine ⟨_, exec_sregwr hname h hkind hslot, hpend, hsame, goesOn_wordEnd ..,
      hout.trans ((hrecords.sameOutside u.id).trans (sameOutside_wordEnd ..)), ?_⟩
    rw [State.reg_of_regs (wordEnd_regs ..), hwritten, State.reg_setReg_self, State.reg_of_regs hregs]
    rfl

/-- Settles O16. -/
theorem scalarOps : Obligations.ScalarOps := ⟨scalarAlu_claim, scalarMoves⟩

end Sys2Proof.Machine
end

section
/-! SUPPORT. Halts of contexts and cores, and halt causes at issue (R98-R101, R107, R111). -/

namespace Sys2Proof.Machine

/-! ### A context that halts (R98) -/

/-- A stream context after the halt of its owner. -/
def StreamCtx.heldFor (x : Ctx) (sc : StreamCtx) : StreamCtx := if sc.owner == some x then { sc with held := true } else sc

/-- A core one of whose RUNNING contexts halts. -/
def Core.halting (c : Core) (x : Ctx) : Core :=
  let d := Core.modCtx { c with lastIssue := c.stallFloor x } x (fun k => { k with mode := .halting })
  { d with scs := d.scs.map (fun e => (e.1, e.2.heldFor x)) }

section
variable (c : Core) (x : Ctx)

theorem Core.halting_ctx (y : Ctx) : (c.halting x).ctx y = if y = x then { c.ctx x with mode := .halting } else c.ctx y := by
  cases x <;> cases y <;> rfl

/-- What every context keeps that does not read its mode. -/
theorem Core.halting_ctx_keep {β : Type} (g : Context → β) (h : ∀ k : Context, g { k with mode := .halting } = g k) (y : Ctx) :
    g ((c.halting x).ctx y) = g (c.ctx y) := by
  rw [Core.halting_ctx]
  split
  · rename_i e
    rw [e, h]
  · rfl

@[simp] theorem Core.halting_pend : (c.halting x).pend = c.pend := by cases x <;> rfl
@[simp] theorem Core.halting_flags : (c.halting x).flags = c.flags := by cases x <;> rfl
@[simp] theorem Core.halting_store : (c.halting x).store = c.store := by cases x <;> rfl
@[simp] theorem Core.halting_istore : (c.halting x).istore = c.istore := by cases x <;> rfl
@[simp] theorem Core.halting_holder : (c.halting x).holder = c.holder := by cases x <;> rfl

end

section
variable (s : State) (id : CoreId) (x : Ctx) (cause : Nat) (access : Bool) (addr slot : Nat)

/-- The halt of a RUNNING context records its cause, and counts. -/
theorem haltCtx_of_running (h : ((s.core id).ctx x).mode = .running) : haltCtx s id x cause access addr slot =
    ((((s.setCore id ((s.core id).halting x)).setRegN (corePage id) (ctxOff x 0x0C) (b2n access * 256 + cause)).setRegN (corePage id)
      (ctxOff x 0x10) addr).setRegN (corePage id) (ctxOff x 0x14) slot).bump (corePage id) 5 := by
  have hscs : (fun e : Nat × StreamCtx => if e.2.owner == some x then (e.1, { e.2 with held := true }) else e) =
      fun e => (e.1, e.2.heldFor x) := by
    funext e
    unfold StreamCtx.heldFor
    split <;> rfl
  unfold haltCtx
  simp only [h, hscs]
  rfl

/-- A context that does not run is not halted. -/
theorem haltCtx_core_of_not_running (h : ((s.core id).ctx x).mode ≠ .running) (y : CoreId) :
    (haltCtx s id x cause access addr slot).core y = s.core y := by
  unfold haltCtx
  simp only
  split
  · rfl
  · exact State.bump_core ..
  · exact State.bump_core ..
  · exact absurd ‹_› h

theorem haltCtx_core : (haltCtx s id x cause access addr slot).core id =
    if ((s.core id).ctx x).mode = .running then (s.core id).halting x else s.core id := by
  split
  case isTrue h =>
    rw [haltCtx_of_running s id x cause access addr slot h, State.bump_core]
    exact State.core_setCore_self s id _
  case isFalse h => exact haltCtx_core_of_not_running s id x cause access addr slot h id

theorem haltCtx_mode (y : Ctx) : (((haltCtx s id x cause access addr slot).core id).ctx y).mode =
    if y = x ∧ ((s.core id).ctx x).mode = .running then .halting else ((s.core id).ctx y).mode := by
  rw [haltCtx_core]
  split <;> rename_i hrun
  · rw [Core.halting_ctx]
    split <;> simp_all
  · simp [hrun]

theorem ctxOff_lt (x : Ctx) {o : Nat} (h : o < 0x40) : ctxOff x o < 0x1C0 := by
  cases x <;> (simp only [ctxOff, Ctx.idx]; omega)

/-- The records of a context's halt. -/
theorem haltCtx_records (h : ((s.core id).ctx x).mode = .running) :
    let t := haltCtx s id x cause access addr slot
    t.regN (corePage id) (ctxOff x 0x0C) = (b2n access * 256 + cause) % 2 ^ 32 ∧ t.regN (corePage id) (ctxOff x 0x10) = addr % 2 ^ 32 ∧
      t.regN (corePage id) (ctxOff x 0x14) = slot % 2 ^ 32 := by
  have hne {a b : Nat} (hab : a ≠ b) : (corePage id).key (ctxOff x a) ≠ (corePage id).key (ctxOff x b) :=
    Page.key_ne _ (by unfold ctxOff; omega)
  rw [haltCtx_of_running s id x cause access addr slot h]
  simp only [State.regN_of_regs (State.bump_regs ..)]
  refine ⟨?_, ?_, State.regN_setRegN_self ..⟩
  · rw [State.regN_setRegN_ne _ _ (hne (by decide)), State.regN_setRegN_ne _ _ (hne (by decide)), State.regN_setRegN_self]
  · rw [State.regN_setRegN_ne _ _ (hne (by decide)), State.regN_setRegN_self]

end

/-! ### A cause at issue (R99) -/

theorem waitsOf_reach (c : Core) (n : Nat) (x : Ctx) (access : Bool) (w : LongWord) (t : Nat) :
    waitsOf (c.reach n) x access w t = waitsOf c x access w t := by
  have hflag (f : Nat) : (c.reach n).flag x f = c.flag x f := Core.flag_of_flags (Core.reach_flags ..) x f
  unfold waitsOf
  simp only [Core.reach_ctx, hflag]

@[simp] theorem nextWord_atCycle (s : State) (id : CoreId) (n : Nat) (x : Ctx) (access : Bool) :
    nextWord (atCycle s id n) id x access = nextWord s id x access := by
  simp [nextWord]

@[simp] theorem issuable_atCycle (s : State) (id : CoreId) (n : Nat) (x : Ctx) (access : Bool) (t : Nat) :
    issuable (atCycle s id n) id x access t = issuable s id x access t := by
  simp [issuable, waitsOf_reach]

theorem mode_of_mayIssue {s : State} {u : Issue} (h : MayIssue s u) : ((s.core u.id).ctx u.ctx).mode = .running := by
  have hissue := h.1
  simp only [issuable, Context.live, Bool.and_eq_true, beq_iff_eq] at hissue
  exact hissue.1.1.1.1

theorem issueWord_of_mayIssue {s : State} {u : Issue} (h : MayIssue s u) : issueWord s u = issueNow (atCycle s u.id u.cycle) u := by
  obtain ⟨hissue, hread, hdue⟩ := h
  simp only [issueWord, hissue, hread, Option.isNone_none, Bool.and_self, if_true]
  exact inCycle_of_due s _ hdue

/-- A cause of one stream's word, where the other stream has none and no other context halts the core, halts at that word. -/
theorem issueNow_of_cause {s : State} {u : Issue} {cause slot : Nat} (hcore : coreCause s u = none)
    (hcause : issueCause s u = some (cause, slot)) (hother : issueCause s { u with access := !u.access } = none) :
    issueNow s u = haltAtIssue s u cause slot := by
  obtain ⟨id, x, access, cycle⟩ := u
  cases access <;> simp only [issueNow, hcore] <;> simp_all

theorem exec_of_cause {s : State} {u : Issue} {ok : LongWord → Bool} {c : Instr} {cause slot : Nat} (hmay : MayIssue s u)
    (hexec : exec c s = .next (issueIf s u ok)) (hok : ok (wordOf s u) = true) (hcore : coreCause (atCycle s u.id u.cycle) u = none)
    (hcause : issueCause (atCycle s u.id u.cycle) u = some (cause, slot))
    (hother : issueCause (atCycle s u.id u.cycle) { u with access := !u.access } = none) :
    exec c s = .next (haltAtIssue (atCycle s u.id u.cycle) u cause slot) := by
  rw [hexec, ← issueNow_of_cause hcore hcause hother, ← issueWord_of_mayIssue hmay]
  exact congrArg _ (if_pos hok)

/-! ### BRK (R100) -/

/-- A halt leaves the streams of its core where they are. -/
theorem issuingStream_haltCtx (s : State) (u : Issue) (x : Ctx) (cause : Nat) (access : Bool) (addr slot : Nat) :
    issuingStream u (haltCtx s u.id x cause access addr slot) = issuingStream u s := by
  rw [issuingStream, haltCtx_core]
  split
  · exact Core.halting_ctx_keep _ x (·.stream u.access) (fun k => by cases u.access <;> rfl) u.ctx
  · rfl

/-- BRK: Breakpoint. -/
theorem breakpoint : Claims.Breakpoint := by
  unfold Claims.Breakpoint
  intro s u op hmay hcore hslots hname hslot hcauses hother
  have hbrk : hasBrk (nextWord s u.id u.ctx u.access) = true := by
    rw [show nextWord s u.id u.ctx u.access = wordOf s u from rfl, hasBrk, hslots]
    simp [hname]
  have hcause : issueCause (atCycle s u.id u.cycle) u = some (causeBreakpoint, 0) := by
    rw [issueCause, issuable_atCycle, hmay.1, if_pos rfl, hcauses, nextWord_atCycle, hbrk]
    rfl
  have hat : (wordOf (atCycle s u.id u.cycle) u).slots = [op] := by rw [wordOf_atCycle, hslots]
  have hpop : popOf op = none := by simp [popOf, hname]
  have hword : performWord (atCycle s u.id u.cycle) u = wordEnd s (beforeOp (atCycle s u.id u.cycle) u op) u
      { issuingStream u s with pc := nextPc s u } := by
    have hnext : nextStream (issuingStream u s) (wordOf s u) (nextPc s u) none = { issuingStream u s with pc := nextPc s u } := by
      simp [nextStream, hslots, hslot, hname]
    rw [performWord_of_single hat (by simp [hname]) (by simp [hname]) (takePoint_of_single hat (by simp [hname]) (by simp [hname])),
      opEffect_ctl _ _ hslot]
    simp only [ctlEffect, hname, wordEnd_atCycle, issuingStream_atCycle, wordOf_atCycle, nextPc_atCycle, hnext]
  generalize htdef : wordEnd s (beforeOp (atCycle s u.id u.cycle) u op) u { issuingStream u s with pc := nextPc s u } = t at hword
  have hgoes : GoesOn s t u (nextPc s u) := by rw [← htdef]; exact goesOn_wordEnd ..
  have hmode : ((t.core u.id).ctx u.ctx).mode = .running := by
    rw [← htdef, wordEnd_core, Core.moveOn_mode, beforeOp_core_of_no_pop s u hpop, Core.reach_ctx, mode_of_mayIssue hmay]
  have hmem : t.mem = s.mem := by rw [← htdef, wordEnd_mem]; exact (sameOutside_beforeOp_atCycle s u op).1
  have hexec := exec_of_cause (c := .brk u) hmay rfl (by simp [hasOp, hslots, hname]) hcore hcause hother
  rw [haltAtIssue, hcauses] at hexec
  simp only [List.isEmpty_nil, if_true, hword, hgoes.1] at hexec
  obtain ⟨hrcause, hraddr, hrslot⟩ := haltCtx_records t u.id u.ctx causeBreakpoint u.access (nextPc s u) 0 hmode
  refine ⟨_, hexec, ?mode, ?goes, ?code, ?place, hrslot, ?mem⟩
  case mode => rw [haltCtx_mode, if_pos ⟨rfl, hmode⟩]
  case goes => rwa [GoesOn, issuingStream_haltCtx]
  case code => rw [hrcause]; cases u.access <;> rfl
  case place =>
    have hlt : nextPc s u < 2 ^ 32 := (Nat.mod_lt _ (by decide)).trans (by decide : 65536 < 2 ^ 32)
    rw [hraddr, Nat.mod_eq_of_lt hlt]
  case mem => rw [haltCtx_mem, hmem]

/-! ### Undefined opcodes and absent slots (R98, R107, R111) -/

/-- A cause that is not BREAKPOINT, of context scope and not of a replay, halts the context at its word and does nothing else. -/
theorem haltAtIssue_of_cause {s : State} {u : Issue} {cause slot : Nat} (hcauses : wordCauses s u ≠ []) (hscope : coreScope cause = false)
    (hreplay : cause ≠ causeReplayLimit) :
    haltAtIssue s u cause slot = haltCtx s u.id u.ctx cause u.access (issuingStream u s).pc slot := by
  have hne : (wordCauses s u).isEmpty = false := by simpa using hcauses
  simp [haltAtIssue, hne, hreplay, takeCause, hscope]

/-- Undefined opcodes and absent slots: BadWordsHalt. -/
theorem badWordsHalt : Claims.BadWordsHalt := by
  unfold Claims.BadWordsHalt
  intro s u cause slot hmay hcore hcause hcauses hother halts
  have hmode : (((atCycle s u.id u.cycle).core u.id).ctx u.ctx).mode = .running := by
    rw [core_atCycle_self, Core.reach_ctx, mode_of_mayIssue hmay]
  have hhalts (hscope : coreScope cause = false) (hreplay : cause ≠ causeReplayLimit) (hlt : cause < 256) :
      halts (haltAtIssue (atCycle s u.id u.cycle) u cause slot) := by
    rw [haltAtIssue_of_cause hcauses hscope hreplay]
    obtain ⟨hrcause, hraddr, hrslot⟩ :=
      haltCtx_records (atCycle s u.id u.cycle) u.id u.ctx cause u.access (issuingStream u (atCycle s u.id u.cycle)).pc slot hmode
    have hhalted := haltCtx_core (atCycle s u.id u.cycle) u.id u.ctx cause u.access (issuingStream u (atCycle s u.id u.cycle)).pc slot
    rw [if_pos hmode, core_atCycle_self] at hhalted
    refine ⟨?mode, ?pc, ?pend, ?cause, ?addr, hrslot, ?mem, ?queues, ?flags⟩
    case mode => rw [haltCtx_mode, if_pos ⟨rfl, hmode⟩]
    case pc => rw [issuingStream_haltCtx, issuingStream_atCycle]
    case pend => rw [NoResult, hhalted, Core.halting_pend, Core.reach_pend]
    case cause =>
      have hbit : b2n u.access * 256 + cause < 2 ^ 32 := by cases u.access <;> simp only [b2n] <;> norm_num <;> omega
      rw [hrcause, Nat.mod_eq_of_lt hbit]
    case addr => rw [hraddr, issuingStream_atCycle]
    case mem => rw [haltCtx_mem]; exact State.modCore_mem ..
    case queues =>
      intro x
      rw [hhalted, Core.halting_ctx_keep _ _ (·.queues) (fun _ => rfl), Core.reach_ctx]
    case flags => rw [SameFlags, hhalted, Core.halting_flags, Core.reach_flags]
  refine ⟨fun hill hcode => ?illegal, fun habs hcode => ?absent⟩
  case illegal => exact ⟨_, exec_of_cause hmay rfl hill hcore hcause hother, hhalts (by rw [hcode]; rfl) (by rw [hcode]; decide) (by rw [hcode]; decide)⟩
  case absent => exact ⟨_, exec_of_cause hmay rfl habs hcore hcause hother, hhalts (by rw [hcode]; rfl) (by rw [hcode]; decide) (by rw [hcode]; decide)⟩

/-- Settles O8. -/
theorem haltsAtIssue : Obligations.HaltsAtIssue := ⟨breakpoint, badWordsHalt⟩

end Sys2Proof.Machine
end

section
/-! SUPPORT. What stream contexts send, contexts at rest, and CTX_CTRL (R80, R98, R101-R104). -/

namespace Sys2Proof.Machine

/-! ### Tile requests that go out (R139) -/

/-- The states differ in the requests that the stream contexts of one core have added, in counters and in error logs. -/
structure Sends (id : CoreId) (s t : State) : Prop where
  onlyIn : OnlyIn s t [.cores, .counters, .logs]
  others : ∀ y, coreIdx y ≠ coreIdx id → t.core y = s.core y
  mine : ∃ scs, t.core id = { s.core id with scs := scs }
  appends : ∀ n, ∃ l, (t.core id).sc n = { (s.core id).sc n with reqs := ((s.core id).sc n).reqs ++ l }

theorem Sends.refl (id : CoreId) (s : State) : Sends id s s :=
  ⟨fun p _ => by cases p <;> rfl, fun _ _ => rfl, ⟨_, rfl⟩, fun n => ⟨[], by simp⟩⟩

theorem Sends.trans {id : CoreId} {s t r : State} (h : Sends id s t) (g : Sends id t r) : Sends id s r := by
  obtain ⟨ho, hy, ⟨a, ha⟩, hs⟩ := h
  obtain ⟨go, gy, ⟨b, hb⟩, gs⟩ := g
  refine ⟨fun p hp => ?_, fun y hne => (gy y hne).trans (hy y hne), ⟨b, by rw [hb, ha]⟩, fun n => ?_⟩
  · have hst := ho p hp
    have htr := go p hp
    cases p <;> exact Eq.trans htr hst
  · obtain ⟨l, hl⟩ := hs n
    obtain ⟨m, hm⟩ := gs n
    exact ⟨l ++ m, by rw [hm, hl, List.append_assoc]⟩

theorem sends_bump (id : CoreId) (s : State) (p : Page) (sel : Nat) : Sends id s (s.bump p sel) :=
  ⟨fun x hx => by cases x <;> simp_all [Untouched], fun _ _ => State.bump_core .., ⟨_, State.bump_core ..⟩,
    fun n => ⟨[], by simp⟩⟩

theorem Core.sc_setSc (c : Core) (n m : Nat) (v : StreamCtx) : (c.setSc n v).sc m = if m = n then v else c.sc m := by
  simp only [Core.sc, Core.setSc]
  exact SMap.getD_set ..

@[simp] theorem State.core_setSc_self (s : State) (id : CoreId) (n : Nat) (v : StreamCtx) :
    (s.setSc id n v).core id = (s.core id).setSc n v := State.core_modCore_self ..

theorem sends_setSc (id : CoreId) (s : State) (n : Nat) (l : List TileReq) :
    Sends id s (s.setSc id n { (s.core id).sc n with reqs := ((s.core id).sc n).reqs ++ l }) := by
  refine ⟨fun x hx => ?_, fun y hy => State.core_modCore_of_idx_ne s _ hy, ⟨_, State.core_setSc_self ..⟩, fun m => ?_⟩
  · cases x <;> simp_all [Untouched, State.setSc]
  · rw [State.core_setSc_self, Core.sc_setSc]
    split
    case isTrue h => exact ⟨l, by rw [h]⟩
    case isFalse => exact ⟨[], by simp⟩

/-- A stream context that sends adds requests to its own alone. -/
theorem sends_sendSc (s : State) (id : CoreId) (n t fuel : Nat) : Sends id s (sendSc s id n t fuel) := by
  induction fuel generalizing s with
  | zero => exact .refl id s
  | succ fuel ih =>
    unfold sendSc
    dsimp only
    split
    case h_1 => exact .refl id s
    case h_2 tile =>
      split
      · exact .refl id s
      · split
        · exact (sends_setSc id s n _).trans ((sends_bump ..).trans (ih _))
        · exact (sends_setSc id s n _).trans (ih _)

theorem sends_sendAll (s : State) (id : CoreId) (t : Nat) : Sends id s (sendAll s id t) :=
  foldl_inv (Sends id s) _ (fun _ _ h => h.trans (sends_sendSc ..)) _ s (.refl id s)

section
variable {id : CoreId} {s t : State} (h : Sends id s t)
include h

theorem Sends.ctx (x : Ctx) : (t.core id).ctx x = (s.core id).ctx x := by
  obtain ⟨scs, hscs⟩ := h.mine
  rw [hscs]
  cases x <;> rfl

theorem Sends.mem : t.mem = s.mem := h.onlyIn .mem (by decide)
theorem Sends.regs : t.regs = s.regs := h.onlyIn .regs (by decide)

end

/-! ### Contexts at rest (R80, R98) -/

/-- The state in which a context has taken a mode and the core's page the bit that says so. -/
def restsIn (s : State) (a : CtxAt) (m : CtxMode) (bit : Nat) : State :=
  ((atCycle s a.id a.cycle).modCore a.id (fun c => c.modCtx a.ctx (fun k => { k with mode := m }))).raise (corePage a.id) bit

section
variable (s : State) (a : CtxAt) (m : CtxMode)

theorem restsIn_core (bit : Nat) : (restsIn s a m bit).core a.id =
    ((s.core a.id).reach a.cycle).modCtx a.ctx (fun k => { k with mode := m }) := by
  rw [restsIn, State.raise, State.core_of_cores (State.setReg_cores ..), State.core_modCore_self, core_atCycle_self]

theorem restsIn_holds {bit : Nat} (hbit : bit < 32) : ((((restsIn s a m bit).core a.id).ctx a.ctx).mode = m ∧
    bitAt ((restsIn s a m bit).regN (corePage a.id) 0x018) bit = true ∧ OnlyIn s (restsIn s a m bit) [.cores, .regs] ∧
    (∀ y, y ≠ a.ctx → ((restsIn s a m bit).core a.id).ctx y = (s.core a.id).ctx y) ∧ SameStores s (restsIn s a m bit) a.id ∧
    SameFlags s (restsIn s a m bit) a.id) := by
  refine ⟨?mode, State.bitAt_raise_self _ _ hbit, ?only, ?others, ?stores, ?flags⟩
  case mode => rw [restsIn_core, Core.ctx_modCtx_self]
  case only => intro x hx; cases x <;> simp_all [Untouched, restsIn, atCycle, State.raise]
  case others => intro y hy; rw [restsIn_core, Core.ctx_modCtx_ne _ _ hy, Core.reach_ctx]
  case stores => simp [SameStores, restsIn_core]
  case flags => simp [SameFlags, restsIn_core]

end

theorem Ctx.idx_lt (x : Ctx) : x.idx < 3 := by cases x <;> decide

/-- CONTEXT_IDLE and HALT_COMPLETE: ContextsComeToRest. -/
theorem contextsComeToRest : Claims.ContextsComeToRest := by
  unfold Claims.ContextsComeToRest
  intro s a hdue k rests
  have hidx := Ctx.idx_lt a.ctx
  refine ⟨fun hmode hexe hacc hout hbusy => ?idle, fun hmode hout hflight => ?halted, fun hout => ⟨?_, ?_⟩⟩
  case idle =>
    refine ⟨restsIn s a .idle (3 + a.ctx.idx), ?_, restsIn_holds s a .idle (by omega)⟩
    show Host.Outcome.next (contextIdle s a.id a.ctx a.cycle) = _
    unfold contextIdle
    rw [if_pos (by simp_all [k]), inCycle_of_due s _ hdue]
    rfl
  case halted =>
    refine ⟨restsIn s a .halted a.ctx.idx, ?_, restsIn_holds s a .halted (by omega)⟩
    show Host.Outcome.next (haltComplete s a.id a.ctx a.cycle) = _
    unfold haltComplete
    rw [if_pos (by simp_all [k]), inCycle_of_due s _ hdue]
    rfl
  · show Host.Outcome.next (contextIdle s a.id a.ctx a.cycle) = _
    unfold contextIdle
    rw [if_neg (by simp [hout])]
  · show Host.Outcome.next (haltComplete s a.id a.ctx a.cycle) = _
    unfold haltComplete
    rw [if_neg (by simp [hout])]

/-! ### CTX_CTRL (R104) -/

/-- The checks of an admitted access change nothing but the session that makes it. -/
theorem WriteReaches.eq_seenBy {s s1 : State} {p : Page} {off v : Nat} {who : Requester} (h : WriteReaches s s1 p off who v) :
    s1 = seenBy s who := by
  obtain ⟨-, hr, -⟩ | ⟨q, -, ⟨-, hr, -⟩ | ⟨-, hr⟩ | ⟨ht, -⟩⟩ := busCheck_cases s h
  · cases hr
  · cases hr
  · cases hr
  · exact ht

@[simp] theorem seenBy_regs (s : State) (who : Requester) : (seenBy s who).regs = s.regs := by unfold seenBy; split <;> rfl
@[simp] theorem seenBy_mem (s : State) (who : Requester) : (seenBy s who).mem = s.mem := by unfold seenBy; split <;> rfl

section
variable {s s1 : State} {id : CoreId} {t off v : Nat} {who : Requester}
variable (h : WriteReaches (atCycle s id t) s1 (corePage id) off who v)
include h

/-- A write that reaches a core's page finds the core in its cycle. -/
theorem core_of_reaches : s1.core id = (s.core id).reach t :=
  (State.core_of_cores h.cores id).trans (core_atCycle_self s id t)

theorem mem_of_reaches : s1.mem = s.mem := by rw [h.eq_seenBy, seenBy_mem]; exact State.modCore_mem ..
theorem regs_of_reaches : s1.regs = s.regs := by rw [h.eq_seenBy, seenBy_regs]; exact State.modCore_regs ..

end

/-- Each of the commands RUN, RESUME, RESET and HALT_REQ is the write of CTX_CTRL that it names. -/
theorem coreWriteAt_ctxCtrl {s s1 : State} {a : CtxAt} {who : Requester} {v : Nat} (hdue : coreDue s a.id a.cycle = true)
    (h : WriteReaches (atCycle s a.id a.cycle) s1 (corePage a.id) (ctxOff a.ctx 0) who v) :
    coreWriteAt s a.id (ctxOff a.ctx 0) who v a.cycle = ctxCtrlWrite s1 a.id a.ctx who a.cycle (v % 2 ^ 32) := by
  have hoff := ctxOff_zero_cases a.ctx
  rw [coreWriteAt_of_reaches hdue (by omega) (by omega) h, pageWrite_ctxCtrl]

/-- RESUME's core: the context runs again, and its stream contexts are held no more. -/
def Core.resumed (c : Core) (x : Ctx) (t : Nat) : Core :=
  let start (st : Stream) : Stream := { st with readyAt := max st.readyAt (t + 1) }
  let c := c.modCtx x (fun k => { k with mode := .running, exe := start k.exe, acc := start k.acc })
  { c with scs := c.scs.map (fun e => if e.2.owner == some x then (e.1, { e.2 with held := false }) else e) }

theorem Core.resumed_ctx (c : Core) (x : Ctx) (t : Nat) : (c.resumed x t).ctx x =
    { c.ctx x with mode := .running, exe := { (c.ctx x).exe with readyAt := max (c.ctx x).exe.readyAt (t + 1) }
                   acc := { (c.ctx x).acc with readyAt := max (c.ctx x).acc.readyAt (t + 1) } } := by
  cases x <;> rfl

/-- The records of a context's halt are cleared. -/
def clearHaltRecords (s : State) (p : Page) (x : Ctx) : State := [0x0C, 0x18, 0x1C].foldl (fun s o => s.setRegN p (ctxOff x o) 0) s

section
variable (s : State) (p : Page) (x : Ctx)

@[simp] theorem clearHaltRecords_cores : (clearHaltRecords s p x).cores = s.cores := by simp [clearHaltRecords]
@[simp] theorem clearHaltRecords_mem : (clearHaltRecords s p x).mem = s.mem := by simp [clearHaltRecords]

theorem clearHaltRecords_cause : (clearHaltRecords s p x).regN p (ctxOff x 0x0C) = 0 := by
  have hne {a b : Nat} (hab : a ≠ b) : p.key (ctxOff x a) ≠ p.key (ctxOff x b) := Page.key_ne _ (by unfold ctxOff; omega)
  simp only [clearHaltRecords, List.foldl_cons, List.foldl_nil]
  rw [State.regN_setRegN_ne _ _ (hne (by decide)), State.regN_setRegN_ne _ _ (hne (by decide)), State.regN_setRegN_self, Nat.zero_mod]

end

theorem resumeRequest_of_halted {s : State} {id : CoreId} {x : Ctx} {who : Requester} {t : Nat}
    (hmode : ((s.core id).ctx x).mode = .halted) (hpoison : field (s.regN (corePage id) (ctxOff x 0x0C)) 7 0 ≠ causePoison)
    (hparity : field (s.regN (corePage id) (ctxOff x 0x0C)) 7 0 ≠ causeParity) : resumeRequest s id x who t =
      sendAll (clearHaltRecords (s.modCore id (fun c => c.resumed x t)) (corePage id) x) id (t + 1) := by
  unfold resumeRequest
  simp only [hmode, ne_eq, not_true_eq_false, if_false, hpoison, hparity, or_self]
  rfl

/-- The queues of a context after RESET. -/
theorem queue_cleared (k : Context) (away : Nat → Nat) (q : Nat) (d : Context)
    (h : d.queues = k.queues.map (fun e => (e.1, e.2.cleared (away e.1)))) :
    (d.queue q).items = [] ∧ (d.queue q).ext = (k.queue q).ext ∧ (d.queue q).bound = none := by
  have hget : ∀ m : SMap DataQueue, let r := SMap.getD (m.map (fun e => (e.1, e.2.cleared (away e.1)))) {} q
      r.items = [] ∧ r.ext = (SMap.getD m {} q).ext ∧ r.bound = none := by
    intro m
    induction m with
    | nil => exact ⟨rfl, rfl, rfl⟩
    | cons e r ih =>
      by_cases hq : q = e.1
      · simp [SMap.getD, SMap.get, hq, DataQueue.cleared]
      · simpa [SMap.getD, SMap.get, hq] using ih
  have hd : d.queue q = SMap.getD (k.queues.map (fun e => (e.1, e.2.cleared (away e.1)))) {} q := by rw [Context.queue, h]
  rw [hd]
  exact hget k.queues

/-- The core after RESET of a context. -/
theorem ctxReset_core (s : State) (id : CoreId) (x : Ctx) :
    let st (v : Stream) : Stream := { pc := v.pc, readyAt := v.readyAt }
    let k := (s.core id).ctx x
    ((ctxReset s id x).core id).ctx x =
      { exe := st k.exe, acc := st k.acc, queues := k.queues.map (fun e => (e.1, e.2.cleared ((s.core id).pushesIn x e.1))) } ∧
    ((ctxReset s id x).core id).flags = (s.core id).flags ∧ ((ctxReset s id x).core id).store = (s.core id).store := by
  have hcore : (ctxReset s id x).core id = (clearHaltRecords (s.setCore id _) (corePage id) x).core id := rfl
  rw [hcore, State.core_of_cores (clearHaltRecords_cores ..), State.core_setCore_self]
  cases x <;> exact ⟨rfl, rfl, rfl⟩

theorem ctxReset_mem (s : State) (id : CoreId) (x : Ctx) : (ctxReset s id x).mem = s.mem := by simp [ctxReset, State.setCore]

/-- RUN, RESUME, RESET and HALT_REQ: ContextControl. -/
theorem contextControl : Claims.ContextControl := by
  unfold Claims.ContextControl
  intro s s1 a who v hdue h k restart goOn after
  have hwrite := coreWriteAt_ctxCtrl hdue h
  have hcore := core_of_reaches h
  have hmem := mem_of_reaches h
  have hregs := State.regN_of_regs (regs_of_reaches h) (corePage a.id)
  have hctx : (s1.core a.id).ctx a.ctx = k := by rw [hcore, Core.reach_ctx]
  have hrun (hv : v = 1) : exec (.run a who) s = .next (runRequest s1 a.id a.ctx a.cycle) := by
    subst hv; exact congrArg Host.Outcome.next hwrite
  have hresume (hv : v = 2) : exec (.resume a who) s = .next (resumeRequest s1 a.id a.ctx who a.cycle) := by
    subst hv; exact congrArg Host.Outcome.next hwrite
  have hreset (hv : v = 4) : exec (.reset a who) s = .next (resetRequest s1 a.id a.ctx) := by
    subst hv; exact congrArg Host.Outcome.next hwrite
  have hhalt (hv : v = 8) : exec (.haltReq a who) s = .next (haltRequest s1 a.id a.ctx) := by
    subst hv; exact congrArg Host.Outcome.next hwrite
  have hbump (sel : Nat) : (((s1.bump (corePage a.id) sel).core a.id).ctx a.ctx) = k := by rw [State.bump_core, hctx]
  refine ⟨fun hv hmode => ?run, fun hv hmode => ?runOther, fun hv hmode hpoison hparity => ?resume, fun hv hmode hpoison => ?resumePoison,
    fun hv hmode => ?reset, fun hv hmode => ?resetRunning, fun hv hmode => ?halt⟩
  case run =>
    refine ⟨_, hrun hv, ?_⟩
    rw [runRequest, if_pos (by rw [hctx]; exact hmode)]
    refine ⟨?_, (State.modCore_mem ..).trans hmem, ?_, ?_⟩
    · simp only [after, State.core_modCore_self, Core.ctx_modCtx_self, hctx]
      rfl
    · simp [SameStores, hcore]
    · simp [SameFlags, hcore]
  case runOther =>
    refine ⟨_, hrun hv, ?_⟩
    rw [runRequest, if_neg (by rw [hctx]; exact hmode)]
    exact ⟨hbump 7, (State.bump_mem ..).trans hmem⟩
  case resume =>
    refine ⟨_, hresume hv, ?_⟩
    rw [resumeRequest_of_halted (by rw [hctx]; exact hmode) (by rw [hregs]; exact hpoison) (by rw [hregs]; exact hparity)]
    have hsend := sends_sendAll (clearHaltRecords (s1.modCore a.id (fun c => c.resumed a.ctx a.cycle)) (corePage a.id) a.ctx) a.id (a.cycle + 1)
    refine ⟨?_, ?_, ?_⟩
    · simp only [after]
      rw [hsend.ctx, State.core_of_cores (clearHaltRecords_cores ..), State.core_modCore_self, Core.resumed_ctx, hctx]
    · rw [State.regN_of_regs hsend.regs, clearHaltRecords_cause]
    · rw [hsend.mem, clearHaltRecords_mem, State.modCore_mem, hmem]
  case resumePoison =>
    refine ⟨_, hresume hv, ?_⟩
    have hignored : resumeRequest s1 a.id a.ctx who a.cycle =
        (s1.bump (corePage a.id) 7).logReq (corePage a.id) kindIgnored who true (ctxOff a.ctx 0) := by
      simp [resumeRequest, hctx, hmode, hregs, hpoison, k]
    rw [hignored]
    have hsame := recordsOnly_logReq (s1.bump (corePage a.id) 7) (corePage a.id) kindIgnored who true (ctxOff a.ctx 0)
    refine ⟨?_, (hsame.onlyIn .mem (by decide)).trans ((State.bump_mem ..).trans hmem)⟩
    simp only [after]
    rw [hsame.core, hbump]
  case reset =>
    refine ⟨_, hreset hv, ?_⟩
    rw [resetRequest_of_rest (by rw [hctx]; exact hmode)]
    obtain ⟨hk, hflags, hstore⟩ := ctxReset_core s1 a.id a.ctx
    simp only [hctx] at hk
    simp only [after, hk, true_and]
    refine ⟨fun q => queue_cleared k _ q _ rfl, clearHaltRecords_cause .., ?_, ?_,
      (ctxReset_mem ..).trans hmem⟩
    · rw [SameFlags, hflags, hcore, Core.reach_flags]
    · rw [hstore, hcore, Core.reach_store]
  case resetRunning =>
    refine ⟨_, hreset hv, ?_⟩
    have hcount : resetRequest s1 a.id a.ctx = s1.bump (corePage a.id) 7 := by simp only [resetRequest, hctx, hmode, k]
    rw [hcount]
    exact hbump 7
  case halt =>
    have hrunning : ((s1.core a.id).ctx a.ctx).mode = .running := by rw [hctx]; exact hmode
    refine ⟨_, hhalt hv, ?_⟩
    obtain ⟨hcause, haddr, -⟩ := haltCtx_records s1 a.id a.ctx causeExternal false k.exe.pc noSlot hrunning
    rw [haltRequest]
    rw [if_pos hrunning, hctx]
    refine ⟨?_, hcause, haddr, by rw [haltCtx_mem, hmem]⟩
    simp only [after]
    rw [haltCtx_core, if_pos hrunning, Core.halting_ctx, if_pos rfl, hctx]

/-- Settles O20. -/
theorem contextStates : Obligations.ContextStates := ⟨contextsComeToRest, contextControl⟩

end Sys2Proof.Machine
end

section
/-! SUPPORT. Halts of a whole core (R97, R101), its registers, and what reaches it from outside (R84, R85, R95, R102). -/

namespace Sys2Proof.Machine

/-! ### A core that halts (R101) -/

/-- What a halt of the core does to one of its contexts: `x` is the one at fault. -/
def haltStep (id : CoreId) (x : Option Ctx) (cause : Nat) (access : Bool) (addr slot : Nat) (s : State) (y : Ctx) : State :=
  if some y = x then haltCtx s id y cause access addr slot
  else if ((s.core id).ctx y).mode == .running then haltCtx s id y cause false ((s.core id).ctx y).exe.pc noSlot
  else s

section
variable (s : State) (id : CoreId) (x : Option Ctx) (cause : Nat) (access : Bool) (addr slot : Nat)

theorem haltCore_eq : haltCore s id x cause access addr slot =
    allCtx.foldl (haltStep id x cause access addr slot) s := rfl

theorem haltStep_of_not_running {y : Ctx} (h : ((s.core id).ctx y).mode ≠ .running) :
    (haltStep id x cause access addr slot s y).core id = s.core id ∧ (haltStep id x cause access addr slot s y).regs = s.regs := by
  unfold haltStep
  split
  · refine ⟨haltCtx_core_of_not_running s id y cause access addr slot h id, ?_⟩
    unfold haltCtx
    simp only
    split
    · rfl
    · exact State.bump_regs ..
    · exact State.bump_regs ..
    · exact absurd ‹_› h
  · rw [if_neg (by simpa using h)]
    exact ⟨rfl, rfl⟩

/-- The halt of one context of a RUNNING core is a halt with its cause. -/
theorem haltStep_of_running {y : Ctx} (h : ((s.core id).ctx y).mode = .running) : ∃ a p n,
    haltStep id x cause access addr slot s y = haltCtx s id y cause a p n ∧
      (a, p) = if some y = x then (access, addr) else (false, ((s.core id).ctx y).exe.pc) := by
  unfold haltStep
  by_cases hx : some y = x
  · exact ⟨access, addr, slot, if_pos hx, by rw [if_pos hx]⟩
  · exact ⟨false, _, noSlot, by rw [if_neg hx, if_pos (by simp [h])], by rw [if_neg hx]⟩

theorem haltStep_ctx (y z : Ctx) : ((haltStep id x cause access addr slot s y).core id).ctx z =
    if z = y ∧ ((s.core id).ctx y).mode = .running then { (s.core id).ctx y with mode := .halting } else (s.core id).ctx z := by
  by_cases h : ((s.core id).ctx y).mode = .running
  · obtain ⟨a, p, n, he, -⟩ := haltStep_of_running s id x cause access addr slot h
    rw [he, haltCtx_core, if_pos h, Core.halting_ctx]
    simp [h]
  · rw [(haltStep_of_not_running s id x cause access addr slot h).1, if_neg (by simp [h])]

/-- The halt of another context writes no record of this one. -/
theorem haltStep_regN_ne {y z : Ctx} (h : z ≠ y) {o : Nat} (ho : o < 0x40) :
    (haltStep id x cause access addr slot s y).regN (corePage id) (ctxOff z o) = s.regN (corePage id) (ctxOff z o) := by
  by_cases hrun : ((s.core id).ctx y).mode = .running
  · obtain ⟨a, p, n, he, -⟩ := haltStep_of_running s id x cause access addr slot hrun
    have hne {o' : Nat} (ho' : o' < 0x40) : (corePage id).key (ctxOff z o) ≠ (corePage id).key (ctxOff y o') := by
      have hlt (a : Ctx) : a.idx < 3 := Ctx.idx_lt a
      have hidx : z.idx ≠ y.idx := fun e => h (by cases y <;> cases z <;> simp_all [Ctx.idx])
      refine Page.key_ne _ ?_
      unfold ctxOff
      omega
    rw [he, haltCtx_of_running s id y cause a p n hrun, State.regN_of_regs (State.bump_regs ..),
      State.regN_setRegN_ne _ _ (hne (by decide)), State.regN_setRegN_ne _ _ (hne (by decide)),
      State.regN_setRegN_ne _ _ (hne (by decide)), State.regN_of_regs (State.setCore_regs ..)]
  · rw [State.regN_of_regs (haltStep_of_not_running s id x cause access addr slot hrun).2]

/-- A context that does not run keeps its records while the core halts. -/
theorem haltSteps_regN_keep (l : List Ctx) {z : Ctx} (h : ((s.core id).ctx z).mode ≠ .running) {o : Nat} (ho : o < 0x40) :
    (l.foldl (haltStep id x cause access addr slot) s).regN (corePage id) (ctxOff z o) = s.regN (corePage id) (ctxOff z o) := by
  induction l generalizing s with
  | nil => rfl
  | cons y r ih =>
    rw [List.foldl_cons, ih]
    · by_cases hz : z = y
      · subst hz
        rw [State.regN_of_regs (haltStep_of_not_running s id x cause access addr slot h).2]
      · exact haltStep_regN_ne s id x cause access addr slot hz ho
    · rw [haltStep_ctx]
      split
      · simp
      · exact h

theorem haltSteps_ctx (l : List Ctx) (z : Ctx) : ((l.foldl (haltStep id x cause access addr slot) s).core id).ctx z =
    if z ∈ l ∧ ((s.core id).ctx z).mode = .running then { (s.core id).ctx z with mode := .halting } else (s.core id).ctx z := by
  induction l generalizing s with
  | nil => simp
  | cons y r ih =>
    rw [List.foldl_cons, ih, haltStep_ctx]
    by_cases hz : z = y
    · subst hz
      by_cases hrun : ((s.core id).ctx z).mode = .running <;> simp [hrun]
    · simp [hz]

/-- The records of the halt of each RUNNING context. -/
theorem haltSteps_records (l : List Ctx) {z : Ctx} (hz : z ∈ l) (h : ((s.core id).ctx z).mode = .running) :
    let t := l.foldl (haltStep id x cause access addr slot) s
    let place := if some z = x then (access, addr) else (false, ((s.core id).ctx z).exe.pc)
    t.regN (corePage id) (ctxOff z 0x0C) = (b2n place.1 * 256 + cause) % 2 ^ 32 ∧
      t.regN (corePage id) (ctxOff z 0x10) = place.2 % 2 ^ 32 := by
  induction l generalizing s with
  | nil => exact absurd hz (by simp)
  | cons y r ih =>
    rw [List.foldl_cons]
    have hctx := haltStep_ctx s id x cause access addr slot y z
    by_cases hzy : z = y
    · subst hzy
      obtain ⟨a, p, n, he, hplace⟩ := haltStep_of_running s id x cause access addr slot h
      have hstopped : (((haltStep id x cause access addr slot s z).core id).ctx z).mode ≠ .running := by
        rw [hctx, if_pos ⟨rfl, h⟩]
        simp
      obtain ⟨hcause, haddr, -⟩ := haltCtx_records s id z cause a p n h
      dsimp only
      rw [haltSteps_regN_keep _ id x cause access addr slot r hstopped (by decide),
        haltSteps_regN_keep _ id x cause access addr slot r hstopped (by decide), he, ← hplace]
      exact ⟨hcause, haddr⟩
    · have hsame : ((haltStep id x cause access addr slot s y).core id).ctx z = (s.core id).ctx z := by
        rw [hctx, if_neg (by simp [hzy])]
      have hrest := ih (haltStep id x cause access addr slot s y) (by simpa [hzy] using hz) (by rw [hsame]; exact h)
      rwa [hsame] at hrest

theorem haltCore_ctx (z : Ctx) : ((haltCore s id x cause access addr slot).core id).ctx z =
    if ((s.core id).ctx z).mode = .running then { (s.core id).ctx z with mode := .halting } else (s.core id).ctx z := by
  have hz : z ∈ allCtx := by cases z <;> decide
  rw [haltCore_eq, haltSteps_ctx]
  simp [hz]

theorem haltCore_records {z : Ctx} (h : ((s.core id).ctx z).mode = .running) :
    let t := haltCore s id x cause access addr slot
    let place := if some z = x then (access, addr) else (false, ((s.core id).ctx z).exe.pc)
    t.regN (corePage id) (ctxOff z 0x0C) = (b2n place.1 * 256 + cause) % 2 ^ 32 ∧
      t.regN (corePage id) (ctxOff z 0x10) = place.2 % 2 ^ 32 :=
  haltSteps_records s id x cause access addr slot allCtx (by cases z <;> decide) h

end

/-! ### DEADLOCK and POISON_CONSUMED (R97, R101) -/

/-- A deadlock's records of one context: the objects that its streams wait for and their addresses (R97). -/
def deadlockRecord (s : State) (id : CoreId) (t : Nat) (s' : State) (x : Ctx) : State :=
  let p := corePage id
  let k := (s.core id).ctx x
  if k.mode ≠ .running then s'
  else
    let addr (a : Bool) : Nat := if (streamWait s id x a t).isSome then (k.stream a).pc else 0
    let s' := (s'.setRegN p (ctxOff x 0x18) (deadlockObject s id x false t)).setRegN p (ctxOff x 0x1C) (deadlockObject s id x true t)
    s'.setRegN p (ctxOff x 0x20) (addr true * 2 ^ 16 + addr false)

theorem deadlockRecord_keep {β : Type} (g : State → β) (hreg : ∀ s p o v, g (State.setRegN s p o v) = g s) (s : State) (id : CoreId)
    (t : Nat) (s' : State) (x : Ctx) : g (deadlockRecord s id t s' x) = g s' := by
  unfold deadlockRecord
  dsimp only
  split
  · rfl
  · simp only [hreg]

/-- DEADLOCK, when it is due. -/
theorem exec_deadlock {s : State} {id : CoreId} {t : Nat} (hdue : coreDue s id t = true) (hstall : stallDue s id t = true) :
    exec (.deadlock id t) s = .next ((haltCore (allCtx.foldl (deadlockRecord (atCycle s id t) id t) (atCycle s id t)) id none
      causeDeadlock false 0 noSlot).raise (corePage id) 6) := by
  show Host.Outcome.next (deadlock s id t) = _
  rw [deadlock, if_neg (by simp [hstall]), inCycle_of_due s _ hdue]
  rfl

theorem deadlockHalts {s : State} {id : CoreId} {t : Nat} (hdue : coreDue s id t = true) (hstall : stallDue s id t = true) :
    ∃ s', exec (.deadlock id t) s = .next s' ∧ s'.mem = s.mem ∧ bitAt (s'.regN (corePage id) 0x018) 6 = true ∧
      ∀ x, ((s.core id).ctx x).mode = .running → ((s'.core id).ctx x).mode = .halting ∧
        s'.regN (corePage id) (ctxOff x 0x0C) = causeDeadlock ∧ ((s'.core id).ctx x).exe.pc = ((s.core id).ctx x).exe.pc := by
  refine ⟨_, exec_deadlock hdue hstall, ?mem, State.bitAt_raise_self _ _ (by decide), fun x hrun => ?contexts⟩
  generalize hrec : allCtx.foldl (deadlockRecord (atCycle s id t) id t) (atCycle s id t) = r
  case mem =>
    have hr : r.mem = s.mem := by
      rw [← hrec, foldl_keep State.mem _ (deadlockRecord_keep State.mem (fun _ _ _ _ => rfl) _ _ _)]
      exact State.modCore_mem ..
    rw [State.raise, State.setReg_mem, haltCore_mem, hr]
  case contexts =>
    generalize hrec : allCtx.foldl (deadlockRecord (atCycle s id t) id t) (atCycle s id t) = r
    have hctx : (r.core id).ctx x = (s.core id).ctx x := by
      rw [← hrec, foldl_keep (fun r : State => (r.core id).ctx x) _
        (deadlockRecord_keep (fun r : State => (r.core id).ctx x) (fun _ _ _ _ => rfl) _ _ _), core_atCycle_self, Core.reach_ctx]
    have hrunning : ((r.core id).ctx x).mode = .running := by rw [hctx]; exact hrun
    have hafter : (((haltCore r id none causeDeadlock false 0 noSlot).raise (corePage id) 6).core id).ctx x =
        { (s.core id).ctx x with mode := .halting } := by
      rw [State.raise, State.core_of_cores (State.setReg_cores ..), haltCore_ctx, if_pos hrunning, hctx]
    refine ⟨by rw [hafter], ?_, by rw [hafter]⟩
    have hne : (corePage id).key (ctxOff x 0x0C) ≠ (corePage id).key 0x018 := Page.key_ne _ (by unfold ctxOff; omega)
    rw [State.regN, State.reg_raise_ne _ _ hne, ← State.regN, (haltCore_records r id none causeDeadlock false 0 noSlot hrunning).1]
    simp [b2n, causeDeadlock]

theorem abandonMirror_cores (s : State) (id : CoreId) (sel : Nat) : (abandonMirror s id sel).cores = s.cores := by
  unfold abandonMirror
  split
  · rfl
  · simp [State.raise]

theorem abandonMirror_mem (s : State) (id : CoreId) (sel : Nat) : (abandonMirror s id sel).mem = s.mem := by
  unfold abandonMirror
  split
  · rfl
  · simp [State.raise]

theorem abandonLoupes_cores (s : State) (id : CoreId) (p : LoupeSample → Bool) : (abandonLoupes s id p).cores = s.cores := by
  unfold abandonLoupes
  dsimp only
  split
  · rfl
  · simp [State.raise, State.setLoupes]

theorem abandonLoupes_mem (s : State) (id : CoreId) (p : LoupeSample → Bool) : (abandonLoupes s id p).mem = s.mem := by
  unfold abandonLoupes
  dsimp only
  split
  · rfl
  · simp [State.raise, State.setLoupes]

/-- A sweep operation that stops at a read halts its core at its word; what else stops with it changes no core and no byte. -/
theorem stopSweep_eq (s : State) (id : CoreId) (sw : Sweep) (u cause : Nat) : ∃ r, r.cores = s.cores ∧ r.mem = s.mem ∧
    stopSweep s id sw u cause = haltCore r id (some sw.ctx) cause false sw.word 4 := by
  unfold stopSweep
  refine ⟨_, ?_, ?_, rfl⟩
  · rw [abandonLoupes_cores]
    split
    · split
      · rw [abandonMirror_cores]; simp [State.countCycles]
      · simp [State.countCycles]
    · simp [State.countCycles]
  · rw [abandonLoupes_mem]
    split
    · split
      · rw [abandonMirror_mem]; simp [State.countCycles]
      · simp [State.countCycles]
    · simp [State.countCycles]

theorem poisonHalts {s : State} {id : CoreId} {t : Nat} {sw : Sweep} {n : Nat} (hread : poisonedRead s id t = some (sw, n))
    (hnow : (s.core id).now ≤ t) (hruns : s.coreRuns id = true) (hpend : (s.core id).pend = []) (hope : opeDueBefore (s.ope id) t = false)
    (hmode : ((s.core id).ctx sw.ctx).mode = .running) :
    ∃ s', exec (.poisonConsumed id t) s = .next s' ∧ s'.mem = s.mem ∧ ((s'.core id).ctx sw.ctx).mode = .halting ∧
      s'.regN (corePage id) (ctxOff sw.ctx 0x0C) = causePoison ∧ s'.regN (corePage id) (ctxOff sw.ctx 0x10) = sw.word % 2 ^ 32 ∧
      ∀ y, ((s.core id).ctx y).mode = .running → ((s'.core id).ctx y).mode = .halting := by
  have hexec : exec (.poisonConsumed id t) s = .next (stopSweep (atCycle s id t) id sw n causePoison) := by
    show Host.Outcome.next (poisonConsumed s id t) = _
    simp only [poisonConsumed, hread]
    rw [if_neg (by simp [hruns, hpend, hope]; omega)]
    rfl
  obtain ⟨r, hcores, hmem, heq⟩ := stopSweep_eq (atCycle s id t) id sw n causePoison
  have hctx (y : Ctx) : (r.core id).ctx y = (s.core id).ctx y := by
    rw [State.core_of_cores hcores, core_atCycle_self, Core.reach_ctx]
  have hhalts (y : Ctx) (hy : ((s.core id).ctx y).mode = .running) :
      (((haltCore r id (some sw.ctx) causePoison false sw.word 4).core id).ctx y).mode = .halting := by
    rw [haltCore_ctx, hctx, if_pos hy]
  obtain ⟨hcause, haddr⟩ := haltCore_records r id (some sw.ctx) causePoison false sw.word 4 (z := sw.ctx) (by rw [hctx]; exact hmode)
  rw [if_pos rfl] at hcause haddr
  refine ⟨_, hexec, ?_⟩
  rw [heq]
  exact ⟨by rw [haltCore_mem, hmem]; exact State.modCore_mem .., hhalts _ hmode, by rw [hcause]; simp [b2n, causePoison], haddr, hhalts⟩

/-- Settles O23. -/
theorem coreScopeHalts : Obligations.CoreScopeHalts := by
  unfold Obligations.CoreScopeHalts
  refine ⟨fun s id t => deadlockHalts, fun s id t hstall => ?none, fun s id t sw n => poisonHalts⟩
  case none =>
    show Host.Outcome.next (deadlock s id t) = _
    rw [deadlock, if_pos (by simp [hstall])]

end Sys2Proof.Machine
end

section
/-! SUPPORT. Core registers (R84, R95, R101, R102), and flags and entries from outside (R84, R85, R87, R89). -/

namespace Sys2Proof.Machine

/-! ### Writes of a core's registers -/

/-- A write of a core's page beyond its common registers is its core's. -/
theorem pageWrite_core (s : State) (id : CoreId) (who : Requester) {off : Nat} (v t : Nat) (h : off = 0x010 ∨ 0x100 ≤ off) :
    pageWrite s (corePage id) who off v t = coreWrite s (corePage id) who off v t := by
  have hdebug : isDebug (corePage id) off = false := rfl
  have hspec : ((corePage id).block.spec 0x010).isNone = false := by rfl
  have hblock : blockWrite s (corePage id) who off v t = coreWrite s (corePage id) who off v t := rfl
  obtain rfl | h := h
  · simp [pageWrite, hdebug, hspec, hblock]
  · have hne {k : Nat} (hk : k < 0x100) : off ≠ k := by omega
    unfold pageWrite
    simp only [hdebug, Bool.false_and, Bool.false_eq_true, if_false, hblock]
    rw [if_neg (hne (by decide)), if_neg (hne (by decide)), if_neg (hne (by decide)), if_neg (hne (by decide)),
      if_neg (hne (by decide)), if_neg (hne (by decide)), if_neg (by omega), if_neg (by omega), if_neg (by omega)]

/-- A write of a core's register, admitted and in time, is the core's own write. -/
theorem coreWriteAt_core {s s1 : State} {id : CoreId} {off v t : Nat} {who : Requester} (hdue : coreDue s id t = true)
    (hlt : off < 0x1000) (h4 : off % 4 = 0) (hoff : off = 0x010 ∨ 0x100 ≤ off) (hv : v < 2 ^ 32)
    (h : WriteReaches (atCycle s id t) s1 (corePage id) off who v) :
    coreWriteAt s id off who v t = coreWrite s1 (corePage id) who off v t := by
  rw [coreWriteAt_of_reaches hdue hlt h4 h, pageWrite_core _ _ _ _ _ hoff, Nat.mod_eq_of_lt hv]

theorem coreWrite_ctrl (s : State) (id : CoreId) (who : Requester) (v t : Nat) :
    coreWrite s (corePage id) who 0x010 v t = coreCtrlWrite s id who v := by simp [coreWrite]

theorem coreWrite_pc (s : State) (id : CoreId) (x : Ctx) (acc : Bool) (who : Requester) (v t : Nat) :
    coreWrite s (corePage id) who (ctxOff x (if acc then 0x08 else 0x04)) v t =
      tookOr (pcWrite s id x acc v) (corePage id) who (ctxOff x (if acc then 0x08 else 0x04)) := by
  cases x <;> cases acc <;> simp [coreWrite, ctxOff, Ctx.idx, Ctx.ofIdx]

theorem coreWrite_qcfg (s : State) (id : CoreId) (x : Ctx) (who : Requester) (v t : Nat) :
    coreWrite s (corePage id) who (ctxOff x 0x28) v t = tookOr (qcfgWrite s id x v) (corePage id) who (ctxOff x 0x28) := by
  cases x <;> simp [coreWrite, ctxOff, Ctx.idx, Ctx.ofIdx]

/-! ### CORE.CTRL (R95, R101) -/

/-- The core's control word takes its audit bit where the core may change it, and its stall monitor's bit. -/
structure CtrlWritten (s t : State) (id : CoreId) (v : Nat) : Prop where
  mem : t.mem = s.mem
  ctx : ∀ y, (t.core id).ctx y = (s.core id).ctx y
  ctrl : ∃ audit, t.regN (corePage id) 0x010 = b2n audit * 2 ^ 8 + b2n (bitAt v 0) ∧
    audit = if allCtx.all (fun y => ((s.core id).ctx y).mode == .idle || ((s.core id).ctx y).mode == .halted) then bitAt v 8
      else bitAt (s.regN (corePage id) 0x010) 8

/-- The state in which CORE.CTRL is put: a refused audit bit is logged, and a stall monitor that starts counts from now. -/
def beforeCtrl (s : State) (id : CoreId) (who : Requester) (refused starts : Bool) : State :=
  let s := if refused then s.logReq (corePage id) kindIgnored who true 0x010 else s
  if starts then s.modCore id (fun c => { c with lastIssue := max c.lastIssue c.now }) else s

section
variable (s : State) (id : CoreId) (who : Requester) (refused starts : Bool)

theorem beforeCtrl_mem : (beforeCtrl s id who refused starts).mem = s.mem := by
  unfold beforeCtrl
  cases refused <;> cases starts <;> simp

theorem beforeCtrl_ctx (y : Ctx) : ((beforeCtrl s id who refused starts).core id).ctx y = (s.core id).ctx y := by
  have hlog : (s.logReq (corePage id) kindIgnored who true 0x010).core id = s.core id := (recordsOnly_logReq ..).core id
  unfold beforeCtrl
  cases refused <;> cases starts <;> simp only [if_true, Bool.false_eq_true, if_false, State.core_modCore_self, hlog] <;> cases y <;> rfl

theorem coreCtrlWrite_eq (v : Nat) :
    ∃ t, CtrlWritten s t id v ∧ coreCtrlWrite s id who v = if bitAt v 4 then haltAllCore t id else t := by
  let still := allCtx.all (fun x => ((s.core id).ctx x).mode == .idle || ((s.core id).ctx x).mode == .halted)
  let old := s.regN (corePage id) 0x010
  let refused := bitAt v 8 != bitAt old 8 && !still
  let audit := if refused then bitAt old 8 else bitAt v 8
  let b := beforeCtrl s id who refused (bitAt v 0 && !bitAt old 0)
  refine ⟨b.setRegN (corePage id) 0x010 (b2n audit * 2 ^ 8 + b2n (bitAt v 0)), ⟨?mem, fun y => ?ctx, audit, ?ctrl, ?audit⟩, rfl⟩
  case mem => exact (State.setRegN_mem ..).trans (beforeCtrl_mem ..)
  case ctx => rw [State.core_of_cores (State.setRegN_cores ..)]; exact beforeCtrl_ctx ..
  case ctrl =>
    rw [State.regN_setRegN_self]
    cases audit <;> cases bitAt v 0 <;> rfl
  case audit =>
    show audit = if still then bitAt v 8 else bitAt old 8
    have heq (st a b : Bool) : (if (a != b && !st) then b else a) = if st then a else b := by cases st <;> cases a <;> cases b <;> rfl
    exact heq ..

end

/-- The bits of CORE.CTRL. -/
theorem bitAt_ctrl (a b : Bool) : bitAt (b2n a * 2 ^ 8 + b2n b) 8 = a ∧ bitAt (b2n a * 2 ^ 8 + b2n b) 0 = b := by
  cases a <;> cases b <;> decide

/-! ### QCFG (R84) and the PCs (R102) -/

/-- What QCFG makes of one queue of a context. -/
def DataQueue.configured (q : DataQueue) (ext : Bool) (away : Nat) : DataQueue :=
  if ext then { q with ext := true } else { q with ext := false, bound := none, credits := 32 - away }

theorem queue_foldl_configured (k : Context) (v : Nat) (away : Nat → Nat) (q : Nat) (hq : q < 4) :
    ((List.range 4).foldl (fun k q => k.setQueue q ((k.queue q).configured (bitAt v q) (away q))) k).queue q =
      (k.queue q).configured (bitAt v q) (away q) := by
  simp only [List.range, List.range.loop, List.foldl_cons, List.foldl_nil, Context.queue_setQueue]
  interval_cases q <;> rfl

theorem qcfgWrite_of_idle {s : State} {id : CoreId} {x : Ctx} (v : Nat) (h : ((s.core id).ctx x).mode = .idle) :
    qcfgWrite s id x v = (s.modCore id (fun c => c.modCtx x (fun k => (List.range 4).foldl
      (fun k q => k.setQueue q ((k.queue q).configured (bitAt v q) ((s.core id).pushesIn x q))) k)), true) := by
  rw [qcfgWrite, if_neg (by simp [h])]
  rfl

theorem qcfgWrite_of_not_idle {s : State} {id : CoreId} {x : Ctx} (v : Nat) (h : ((s.core id).ctx x).mode ≠ .idle) :
    qcfgWrite s id x v = (s, false) := if_pos h

/-- A refused write of a core's register changes no core and no byte. -/
theorem tookOr_refused (s : State) (p : Page) (who : Requester) (off : Nat) :
    (tookOr (s, false) p who off).mem = s.mem ∧ ∀ id, (tookOr (s, false) p who off).core id = s.core id :=
  ⟨(recordsOnly_logReq s p kindIgnored who true off).onlyIn .mem (by decide), (recordsOnly_logReq s p kindIgnored who true off).core⟩

theorem tookOr_taken (s : State) (p : Page) (who : Requester) (off : Nat) : tookOr (s, true) p who off = s := rfl

theorem pcWrite_of_rest {s : State} {id : CoreId} {x : Ctx} (acc : Bool) (v : Nat)
    (h : ((s.core id).ctx x).mode = .idle ∨ ((s.core id).ctx x).mode = .halted) : pcWrite s id x acc v =
      (s.modCore id (fun c => c.modCtx x (fun k => k.setStream acc { k.stream acc with pc := v % 2 ^ 16 })), true) := by
  obtain h | h := h <;> simp only [pcWrite, h]

theorem pcWrite_of_active {s : State} {id : CoreId} {x : Ctx} (acc : Bool) (v : Nat)
    (h : ((s.core id).ctx x).mode = .running ∨ ((s.core id).ctx x).mode = .halting) : pcWrite s id x acc v = (s, false) := by
  obtain h | h := h <;> simp only [pcWrite, h]

theorem Context.setStream_other (k : Context) (acc : Bool) (st : Stream) : (k.setStream acc st).stream (!acc) = k.stream (!acc) := by
  cases acc <;> rfl

theorem pow_add_of_clear {n : Nat} (hn : n < 2 ^ 32) (h : bitAt n 4 = false) : n + 2 ^ 4 < 2 ^ 32 ∧ bitAt (n + 2 ^ 4) 4 = true := by
  simp only [bitAt, beq_iff_eq, beq_eq_false_iff_ne] at *
  omega

theorem State.regN_lt (s : State) (p : Page) (off : Nat) : s.regN p off < 2 ^ 32 := BitVec.isLt _

/-- HALT_ALL, LAT_AUDIT_WRITE, QCFG_EXT_WRITE and PC_WRITE: CoreRegisters. -/
theorem coreRegisters : Claims.CoreRegisters := by
  unfold Claims.CoreRegisters
  intro s s1 id x t who v hdue p k old still reaches
  have hv : v.toNat < 2 ^ 32 := v.isLt
  have hctxOff (o : Nat) (ho : o < 0x40) : ctxOff x o < 0x1000 ∧ 0x100 ≤ ctxOff x o := by
    have hlt := ctxOff_lt x ho
    unfold ctxOff at *
    omega
  refine ⟨fun h hclear => ?haltAll, fun h hclear => ?latAudit, fun h => ?qcfg, fun acc h => ?pc⟩
  case haltAll =>
    obtain ⟨hlt, hset⟩ := pow_add_of_clear (State.regN_lt s p 0x010) hclear
    have hexec : exec (.haltAll id t who) s = .next (coreCtrlWrite s1 id who (old + 2 ^ 4)) :=
      congrArg Host.Outcome.next ((coreWriteAt_core hdue (by decide) (by decide) (.inl rfl) hlt h).trans (coreWrite_ctrl ..))
    obtain ⟨r, ⟨hmem, hctx, -⟩, heq⟩ := coreCtrlWrite_eq s1 id who (old + 2 ^ 4)
    refine ⟨_, hexec, ?_⟩
    rw [heq, if_pos hset, haltAllCore]
    refine ⟨by rw [haltCore_mem, hmem, mem_of_reaches h], fun y => ?_⟩
    have hy : (r.core id).ctx y = (s.core id).ctx y := by rw [hctx, core_of_reaches h, Core.reach_ctx]
    rw [haltCore_ctx, hy]
    split <;> rfl
  case latAudit =>
    have hexec : exec (.latAuditWrite id t who v) s = .next (coreCtrlWrite s1 id who v.toNat) :=
      congrArg Host.Outcome.next ((coreWriteAt_core hdue (by decide) (by decide) (.inl rfl) hv h).trans (coreWrite_ctrl ..))
    obtain ⟨r, ⟨hmem, hctx, audit, hctrl, haudit⟩, heq⟩ := coreCtrlWrite_eq s1 id who v.toNat
    have hy (y : Ctx) : (s1.core id).ctx y = (s.core id).ctx y := by rw [core_of_reaches h, Core.reach_ctx]
    have hstill : allCtx.all (fun y => ((s1.core id).ctx y).mode == .idle || ((s1.core id).ctx y).mode == .halted) = still := by
      simp only [hy, still, Bool.decide_or]
      rfl
    obtain ⟨hbit, hlow⟩ := bitAt_ctrl audit (bitAt v.toNat 0)
    refine ⟨_, hexec, ?_⟩
    rw [heq, if_neg (by simp [hclear])]
    refine ⟨hmem.trans (mem_of_reaches h), ?_, ?_, fun y => (hctx y).trans (hy y)⟩
    · rw [hctrl, hbit, haudit, hstill, State.regN_of_regs (regs_of_reaches h)]
    · rw [hctrl, hlow]
  case qcfg =>
    obtain ⟨hlt, hge⟩ := hctxOff 0x28 (by decide)
    have h4 : ctxOff x 0x28 % 4 = 0 := by unfold ctxOff; omega
    have hexec : exec (.qcfgExtWrite ⟨id, x, t⟩ who v) s = .next (tookOr (qcfgWrite s1 id x v.toNat) (corePage id) who (ctxOff x 0x28)) :=
      congrArg Host.Outcome.next ((coreWriteAt_core hdue hlt h4 (.inr hge) hv h).trans (coreWrite_qcfg ..))
    have hk : (s1.core id).ctx x = k := by rw [core_of_reaches h, Core.reach_ctx]
    by_cases hidle : k.mode = .idle
    · rw [qcfgWrite_of_idle v.toNat (by rw [hk]; exact hidle), tookOr_taken] at hexec
      refine ⟨_, hexec, (State.modCore_mem ..).trans (mem_of_reaches h), fun _ q hq => ?_, fun hne => absurd hidle hne⟩
      rw [State.core_modCore_self, Core.ctx_modCtx_self, hk, queue_foldl_configured _ _ _ _ hq]
      unfold DataQueue.configured
      split <;> simp_all
    · rw [qcfgWrite_of_not_idle v.toNat (by rw [hk]; exact hidle)] at hexec
      obtain ⟨hmem, hcore⟩ := tookOr_refused s1 (corePage id) who (ctxOff x 0x28)
      exact ⟨_, hexec, hmem.trans (mem_of_reaches h), fun he => absurd he hidle, fun _ => by rw [hcore, hk]⟩
  case pc =>
    obtain ⟨hlt, hge⟩ := hctxOff (if acc then 0x08 else 0x04) (by cases acc <;> decide)
    have h4 : ctxOff x (if acc then 0x08 else 0x04) % 4 = 0 := by unfold ctxOff; cases acc <;> simp <;> omega
    have hexec : exec (.pcWrite ⟨id, x, t⟩ acc who v) s =
        .next (tookOr (pcWrite s1 id x acc v.toNat) (corePage id) who (ctxOff x (if acc then 0x08 else 0x04))) :=
      congrArg Host.Outcome.next ((coreWriteAt_core hdue hlt h4 (.inr hge) hv h).trans (coreWrite_pc ..))
    have hk : (s1.core id).ctx x = k := by rw [core_of_reaches h, Core.reach_ctx]
    by_cases hrest : k.mode = .idle ∨ k.mode = .halted
    · rw [pcWrite_of_rest acc v.toNat (by rw [hk]; exact hrest), tookOr_taken] at hexec
      refine ⟨_, hexec, (State.modCore_mem ..).trans (mem_of_reaches h), fun _ => ?_, fun hactive => ?_⟩
      · rw [State.core_modCore_self, Core.ctx_modCtx_self, hk, Context.stream_setStream_self, Context.setStream_other]
        exact ⟨rfl, rfl, rfl⟩
      · obtain hm | hm := hactive <;> simp [hm] at hrest
    · have hactive : k.mode = .running ∨ k.mode = .halting := by
        cases hm : k.mode <;> simp_all
      rw [pcWrite_of_active acc v.toNat (by rw [hk]; exact hactive)] at hexec
      obtain ⟨hmem, hcore⟩ := tookOr_refused s1 (corePage id) who (ctxOff x (if acc then 0x08 else 0x04))
      exact ⟨_, hexec, hmem.trans (mem_of_reaches h), fun hr => absurd hr hrest, fun _ => by rw [hcore, hk]⟩

/-! ### Flags and entries from outside (R84, R85, R87, R89) -/

theorem onlyIn_modCore (s : State) (id : CoreId) (f : Core → Core) : OnlyIn s (s.modCore id f) [.cores] := by
  intro p hp
  cases p <;> simp_all [Untouched]

/-- REMOTE_FLAG_WRITE: the oldest flag write on its way takes effect. -/
theorem flagFromOutside {s : State} {id : CoreId} {t : Nat} {m : FlagMsg} {rest : List FlagMsg} (hdue : coreDue s id t = true)
    (hmsg : (s.core id).flagsIn = m :: rest)
    (hfresh : ((s.core id).flag m.ctx m.flag).hist.all (fun w => decide (w.cycle < t)) = true) :
    ∃ s', exec (.remoteFlagWrite id t) s = .next s' ∧ OnlyIn s s' [.cores] ∧ (s'.core id).flagsIn = rest ∧
      ((s'.core id).flag m.ctx m.flag).value =
        (if m.add then ((s.core id).flag m.ctx m.flag).value + m.operand else m.operand) % 2 ^ 24 ∧
      ∀ y f, 256 * y.idx + f ≠ 256 * m.ctx.idx + m.flag → (s'.core id).flag y f = (s.core id).flag y f := by
  let c : Core := { (s.core id).reach t with flagsIn := rest }
  have hexec : exec (.remoteFlagWrite id t) s = .next ((atCycle s id t).modCore id
      (fun c => { c with flagsIn := rest }.writeFlag m.ctx m.flag t 2 m.add m.operand)) := by
    show Host.Outcome.next (remoteFlagWrite s id t) = _
    simp only [remoteFlagWrite, hmsg, inCycle_of_due s _ hdue]
    rfl
  have hflag (y : Ctx) (f : Nat) : c.flag y f = (s.core id).flag y f := Core.flag_of_flags (Core.reach_flags ..) y f
  refine ⟨_, hexec, ?only, ?_⟩
  case only => rw [atCycle, State.modCore_modCore]; exact onlyIn_modCore _ _ _
  rw [State.core_modCore_self, core_atCycle_self]
  refine ⟨rfl, ?_, fun y f hne => ?_⟩
  · rw [Core.flag_writeFlag_self, hflag, FlagCell.value_write hfresh]
    split <;> rfl
  · rw [Core.flag_writeFlag_ne _ _ _ _ _ _ _ hne]
    exact hflag y f

section
variable {s : State} {id : CoreId} {x : Ctx} {q src t : Nat} (e : Entry) (own : Bool)

/-- The change of one queue of a context. -/
def putQueue (s : State) (id : CoreId) (x : Ctx) (q : Nat) (d : DataQueue) : State :=
  s.modCore id (fun c => c.modCtx x (fun k => k.setQueue q d))

theorem externalArrive_of_ext (hext : (((s.core id).ctx x).queue q).ext = true)
    (hbound : (((s.core id).ctx x).queue q).bound = none ∨ (((s.core id).ctx x).queue q).bound = some src)
    (hroom : (((s.core id).ctx x).queue q).used t < 32) :
    let dq := ((s.core id).ctx x).queue q
    externalArrive s id x q src e t own = putQueue s id x q
      { dq with items := dq.items ++ [⟨e, t + 2, some src⟩], bound := some src
                credits := if own then dq.credits else if dq.bound.isSome then dq.credits - 1 else 31 } := by
  intro dq
  have hother : (dq.bound.isSome && dq.bound != some src) = false := by obtain h | h := hbound <;> simp [dq, h]
  have hfull : ¬ 32 ≤ ({ dq with bound := some src, credits := if own then dq.credits else if dq.bound.isSome then dq.credits - 1 else 31 }
      : DataQueue).used t := Nat.not_le_of_lt hroom
  unfold externalArrive
  dsimp only
  rw [if_neg (by simp [hext]), if_neg (by rw [hother]; exact Bool.false_ne_true), if_neg hfull]
  rfl

theorem externalArrive_of_not_ext (hext : (((s.core id).ctx x).queue q).ext = false) :
    let dq := ((s.core id).ctx x).queue q
    externalArrive s id x q src e t own = haltCtx (putQueue s id x q
      { dq with credits := if own then min (dq.credits + 1) 32 else dq.credits }) id x causeOverrun false ((s.core id).ctx x).exe.pc noSlot := by
  intro dq
  unfold externalArrive
  dsimp only
  rw [if_pos (by simp [hext])]
  rfl

theorem putQueue_core (d : DataQueue) : (putQueue s id x q d).core id = (s.core id).modCtx x (fun k => k.setQueue q d) :=
  State.core_modCore_self ..

theorem putQueue_queue (d : DataQueue) : (((putQueue s id x q d).core id).ctx x).queue q = d := by
  rw [putQueue_core, Core.ctx_modCtx_self, Context.queue_setQueue, if_pos rfl]

/-- A halt with OVERRUN after a change of one queue. -/
theorem overrun_after_putQueue (d : DataQueue) (addr slot : Nat) (hmode : ((s.core id).ctx x).mode = .running) :
    let r := haltCtx (putQueue s id x q d) id x causeOverrun false addr slot
    ((r.core id).ctx x).mode = .halting ∧ ((r.core id).ctx x).queue q = d ∧ r.regN (corePage id) (ctxOff x 0x0C) = causeOverrun ∧
      r.mem = s.mem ∧ (r.core id).pushIn = (s.core id).pushIn := by
  intro r
  have hrun : (((putQueue s id x q d).core id).ctx x).mode = .running := by
    rw [putQueue_core, Core.ctx_modCtx_self]; exact hmode
  have hcore : r.core id = ((putQueue s id x q d).core id).halting x := by rw [haltCtx_core, if_pos hrun]
  refine ⟨?mode, ?queue, ?code, ?mem, ?pushIn⟩
  case mode => rw [hcore, Core.halting_ctx, if_pos rfl]
  case queue => rw [hcore, Core.halting_ctx, if_pos rfl]; exact putQueue_queue d
  case code =>
    have hrecord : r.regN (corePage id) (ctxOff x 0x0C) = _ := (haltCtx_records _ id x causeOverrun false addr slot hrun).1
    rw [hrecord]
    simp [b2n, causeOverrun]
  case mem => exact (haltCtx_mem ..).trans (State.modCore_mem ..)
  case pushIn => rw [hcore, putQueue_core]; cases x <;> rfl

end

/-- An entry of an outside agent that is not on its way here. -/
theorem externalPush_of_none {s : State} {a : CtxAt} {q src : Nat} (e : Entry) (hdue : coreDue s a.id a.cycle = true)
    (hsrc : src < unitSources) (hpush : (s.core a.id).pushIn = []) :
    externalPush s a.id a.ctx q src e a.cycle = externalArrive (atCycle s a.id a.cycle) a.id a.ctx q src e a.cycle false := by
  unfold externalPush
  simp only [hpush, List.find?_nil]
  rw [if_neg (by omega), inCycle_of_due s _ hdue]
  rfl

/-- The state in which the oldest push on its way to a core arrives. -/
def arriving (s : State) (a : CtxAt) (rest : List PushMsg) : State :=
  (atCycle s a.id a.cycle).modCore a.id (fun c => { c with pushIn := rest })

/-- A unit's push that is on its way arrives with its own entry and takes no credit (R85). -/
theorem externalPush_of_msg {s : State} {a : CtxAt} {q : Nat} {m : PushMsg} {rest : List PushMsg} (e : Entry)
    (hdue : coreDue s a.id a.cycle = true) (hpush : (s.core a.id).pushIn = m :: rest) (hctx : m.ctx = a.ctx) (hq : m.queue = q) :
    externalPush s a.id a.ctx q m.src e a.cycle = externalArrive (arriving s a rest) a.id a.ctx q m.src m.data a.cycle true := by
  have hreach : ((s.core a.id).reach a.cycle).pushIn = m :: rest := by
    obtain ⟨p, n, w, f, h⟩ := (s.core a.id).reach_eq a.cycle
    rw [h]; exact hpush
  unfold externalPush
  simp only [hpush, List.find?_cons, hctx, hq, BEq.rfl, Bool.and_self, inCycle_of_due s _ hdue]
  have hdrop : (atCycle s a.id a.cycle).modCore a.id (fun c =>
      { c with pushIn := dropFirst (fun n => n.ctx == a.ctx && n.queue == q && n.src == m.src) c.pushIn }) = arriving s a rest := by
    unfold arriving State.modCore
    rw [core_atCycle_self]
    dsimp only
    rw [hreach]
    simp [dropFirst, hctx, hq]
  rw [← hdrop]
  rfl

section
variable (s : State) (a : CtxAt) (rest : List PushMsg)

theorem arriving_ctx (y : Ctx) : ((arriving s a rest).core a.id).ctx y = (s.core a.id).ctx y := by
  rw [arriving, State.core_modCore_self, core_atCycle_self, ← Core.reach_ctx (s.core a.id) a.cycle]
  cases y <;> rfl

theorem arriving_pushIn : ((arriving s a rest).core a.id).pushIn = rest := by rw [arriving, State.core_modCore_self]

theorem onlyIn_putQueue_atCycle (id : CoreId) (t : Nat) (x : Ctx) (q : Nat) (d : DataQueue) :
    OnlyIn s (putQueue (atCycle s id t) id x q d) [.cores] := by
  rw [putQueue, atCycle, State.modCore_modCore]
  exact onlyIn_modCore _ _ _

theorem onlyIn_putQueue_arriving (x : Ctx) (q : Nat) (d : DataQueue) : OnlyIn s (putQueue (arriving s a rest) a.id x q d) [.cores] := by
  rw [putQueue, arriving, atCycle, State.modCore_modCore, State.modCore_modCore]
  exact onlyIn_modCore _ _ _

end

/-- REMOTE_FLAG_WRITE and EXTERNAL_PUSH: FlagsAndPushesFromOutside. -/
theorem flagsAndPushesFromOutside : Claims.FlagsAndPushesFromOutside := by
  unfold Claims.FlagsAndPushesFromOutside
  refine ⟨fun s id t m rest => flagFromOutside, fun s a q src e hdue hsrc hpush => ⟨?outside, ?outsideOverrun⟩,
    fun s a q m rest e hdue hpush hctx hq => ⟨?unit, ?unitOverrun⟩⟩
  case outside =>
    intro hext hbound hroom
    have hk : ((atCycle s a.id a.cycle).core a.id).ctx a.ctx = (s.core a.id).ctx a.ctx := by rw [core_atCycle_self, Core.reach_ctx]
    have hexec : exec (.externalPush a q src e) s = _ := congrArg Host.Outcome.next ((externalPush_of_none e hdue hsrc hpush).trans
      (externalArrive_of_ext e false (by rw [hk]; exact hext) (by rw [hk]; exact hbound) (by rw [hk]; exact hroom)))
    refine ⟨_, hexec, onlyIn_putQueue_atCycle _ _ _ _ _ _, ?_, ?_, ?_⟩
    · rw [putQueue_queue, hk]
    · rw [putQueue_queue]
    · refine sameRegs_of_regs fun y => ?_
      rw [putQueue_core, Core.ctx_modCtx_keep Context.regs _ a.ctx _ rfl, core_atCycle_self, Core.reach_ctx]
  case outsideOverrun =>
    intro hext hmode
    have hk : ((atCycle s a.id a.cycle).core a.id).ctx a.ctx = (s.core a.id).ctx a.ctx := by rw [core_atCycle_self, Core.reach_ctx]
    have hexec : exec (.externalPush a q src e) s = _ := congrArg Host.Outcome.next ((externalPush_of_none e hdue hsrc hpush).trans
      (externalArrive_of_not_ext e false (by rw [hk]; exact hext)))
    obtain ⟨hhalt, hqueue, hcause, hmem, -⟩ := overrun_after_putQueue (s := atCycle s a.id a.cycle) (q := q.val)
      { (((atCycle s a.id a.cycle).core a.id).ctx a.ctx).queue q.val with
        credits := (((((atCycle s a.id a.cycle).core a.id).ctx a.ctx).queue q.val)).credits }
      (((atCycle s a.id a.cycle).core a.id).ctx a.ctx).exe.pc noSlot (by rw [hk]; exact hmode)
    exact ⟨_, hexec, hhalt, (congrArg DataQueue.items hqueue).trans (by rw [hk]), hcause, hmem.trans (State.modCore_mem ..)⟩
  case unit =>
    intro hext hbound hroom
    have hk := arriving_ctx s a rest a.ctx
    have hexec : exec (.externalPush a q m.src e) s = _ := congrArg Host.Outcome.next ((externalPush_of_msg e hdue hpush hctx hq).trans
      (externalArrive_of_ext m.data true (by rw [hk]; exact hext) (by rw [hk]; exact hbound) (by rw [hk]; exact hroom)))
    refine ⟨_, hexec, onlyIn_putQueue_arriving _ _ _ _ _ _, ?_, ?_⟩
    · have hkeep (c : Core) (d : DataQueue) : (c.modCtx a.ctx (fun k => k.setQueue q d)).pushIn = c.pushIn := by cases a.ctx <;> rfl
      rw [putQueue_core, hkeep, arriving_pushIn]
    · rw [putQueue_queue, hk]
      rfl
  case unitOverrun =>
    intro hext hmode
    have hk := arriving_ctx s a rest a.ctx
    have hexec : exec (.externalPush a q m.src e) s = _ := congrArg Host.Outcome.next ((externalPush_of_msg e hdue hpush hctx hq).trans
      (externalArrive_of_not_ext m.data true (by rw [hk]; exact hext)))
    obtain ⟨hhalt, hqueue, -, hmem, hpushIn⟩ := overrun_after_putQueue (s := arriving s a rest) (q := q.val)
      { (((arriving s a rest).core a.id).ctx a.ctx).queue q.val with
        credits := min ((((((arriving s a rest).core a.id).ctx a.ctx).queue q.val)).credits + 1) 32 }
      (((arriving s a rest).core a.id).ctx a.ctx).exe.pc noSlot (by rw [hk]; exact hmode)
    exact ⟨_, hexec, hpushIn.trans (arriving_pushIn ..), hmem.trans ((State.modCore_mem ..).trans (State.modCore_mem ..)), hhalt,
      hqueue.trans (by rw [hk])⟩

/-- Settles O22. -/
theorem coreAccess : Obligations.CoreAccess := ⟨coreRegisters, flagsAndPushesFromOutside⟩

end Sys2Proof.Machine
end

section
/-! SUPPORT. A collision of results whose operation stands at an address beyond the instruction store (R91). -/

namespace Sys2Proof.Machine

/-- A result of the F context's execute stream for S1, due in cycle 0, of an operation issued in cycle `n` at the word `word`. -/
def resultForS1 (n word : Nat) : Pend := ⟨0, n, .f, false, 4, word, .sreg 1 0⟩

/-- After reset, two results that fall due in cycle 0 for one S register, the later of an operation at the address `2 ^ 31 - 2 ^ 28`. -/
def collidingResults : State := State.reset.modCore ⟨0, 0⟩ (fun c => { c with pend := [resultForS1 0 0, resultForS1 1 0x70000000] })

/-- The hazard's address carries into the VALID bit of CORE.HAZARD. -/
theorem hazard_of_collidingResults : bitAt ((resultCommit collidingResults ⟨0, 0⟩ 0).regN (corePage ⟨0, 0⟩) 0x1C4) 31 = false := by
  decide

/-- Refutes O19: the address of a colliding operation is no address of an instruction store, and CORE.HAZARD, whose address field it
overflows, does not record the collision. -/
theorem not_commits : ¬ Obligations.Commits := by
  unfold Obligations.Commits
  rintro ⟨-, hlater⟩
  obtain ⟨s', hexec, -, hvalid, -⟩ := hlater collidingResults ⟨0, 0⟩ 0 (resultForS1 0 0) (resultForS1 1 0x70000000) 1 0 0
    (by decide) (by decide) (by decide) (by decide) rfl rfl rfl rfl (by decide)
  have hs' : resultCommit collidingResults ⟨0, 0⟩ 0 = s' := Host.Outcome.next.inj hexec
  rw [← hs', hazard_of_collidingResults] at hvalid
  exact Bool.false_ne_true hvalid

end Sys2Proof.Machine
end

section
/-! SUPPORT. A fault whose kind is none of R142's. -/

namespace Sys2Proof.Machine

/-- After reset, a stream context of the F context whose head tile has met a fault of kind 128. -/
def unknownFault : State := State.reset.modCore ⟨0, 0⟩ (fun c => c.setSc 0
  { owner := some .f, reqs := [⟨0, 0, false, false, some (0, .fault 128), 0, none⟩] })

/-- The fault's kind carries into the VALID bit of JGL.FAULT. -/
theorem fault_of_unknownFault : bitAt ((faultTaken unknownFault ⟨0, 0⟩ 0 0).regN (jglPage ⟨0, 0⟩) 0x100) 31 = false := by
  decide

/-- Refutes O26: the kind of a fault has four bits in JGL.FAULT; a kind of 128 overflows them, and VALID is not set. -/
theorem not_tileDelivery : ¬ Obligations.TileDelivery := by
  unfold Obligations.TileDelivery
  rintro ⟨-, -, hfaults⟩
  obtain ⟨htaken, -⟩ := hfaults unknownFault ⟨0, 0⟩ 0 0 .f (by decide) rfl
  obtain ⟨s', hexec, -, -, -, -, -, hvalid, -⟩ := htaken _ _ 128 [] rfl rfl (Nat.le_refl 0) rfl
  have hs' : faultTaken unknownFault ⟨0, 0⟩ 0 0 = s' := Host.Outcome.next.inj hexec
  rw [← hs', fault_of_unknownFault] at hvalid
  exact Bool.false_ne_true hvalid

end Sys2Proof.Machine
end

section
/-! SUPPORT. A kick of a port that the row engine does not have. -/

namespace Sys2Proof.Machine

/-- A kick of port 16 waits at the row engine of cluster 0, and its descriptor, all of it 0, is at home in HBM. -/
def kickOfPort16 : State :=
  { State.reset.setRow 0 { queue := [⟨16, 0, 0, 1⟩] } with mem := { State.reset.mem with dirInit := true } }

/-- The port's number carries into the VALID bit of ROW.ERR. -/
theorem rowErr_of_kickOfPort16 : bitAt ((kickStart kickOfPort16 0).regN (rowPage 0) 0x108) 31 = false := by
  decide +kernel

/-- The read of the kick's descriptor. -/
def descriptorRead : Option (State × Nat × Bool) :=
  takeRead kickOfPort16 (.row 0) (kickOfPort16.unitPart 0)
    (field (kickOfPort16.regN (rowPage 0) 0x104) 15 0 * 2 ^ 32 + field (kickOfPort16.regN (rowPage 0) 0x100) 31 7 * 128 + 128 * 0) 128

/-- The kick's descriptor is read and refused. -/
theorem descriptorRead_refused : ∃ s2 d bad, descriptorRead = some (s2, d, bad) ∧ rowReason d 0 1 ≠ 0 := by
  have hread : descriptorRead.isSome = true := by decide
  have hreason : descriptorRead.all (fun x => decide (rowReason x.2.1 0 1 ≠ 0)) = true := by decide +kernel
  obtain ⟨⟨s2, d, bad⟩, hsome⟩ := Option.isSome_iff_exists.mp hread
  rw [hsome] at hreason
  exact ⟨s2, d, bad, hsome, by simpa using hreason⟩

/-- Refutes O30: the port of a kick has three bits in ROW.ERR; a kick of port 16 overflows them, and VALID is not set. -/
theorem not_rowKicks : ¬ Obligations.RowKicks := by
  unfold Obligations.RowKicks
  intro h
  obtain ⟨-, hstart, -⟩ := h kickOfPort16 kickOfPort16 0 .periscope 0 (by decide)
  obtain ⟨s2, d, bad, hread, hreason⟩ := descriptorRead_refused
  obtain ⟨hrefused, -⟩ := hstart ⟨16, 0, 0, 1⟩ [] s2 d bad rfl rfl hread
  obtain ⟨t, hexec, -, -, hvalid, -⟩ := hrefused hreason
  have hruns : exec (.kickStart 0) kickOfPort16 = .next (kickStart kickOfPort16 0) :=
    congrArg Host.Outcome.next (whileRunning_of_running _ _ (by decide))
  have ht : kickStart kickOfPort16 0 = t := Host.Outcome.next.inj (hruns.symm.trans hexec)
  rw [← ht] at hvalid
  exact Bool.false_ne_true (rowErr_of_kickOfPort16.symm.trans hvalid)

end Sys2Proof.Machine
end

section
/-! SUPPORT. A packet that waits at an input port of a router beyond its five. -/

namespace Sys2Proof.Machine

/-- The header of a posted write for a site that serves no cluster. -/
def lostHeader : Nat := putHeader (putHeader 0 39 2 1) 16 6 47

/-- The packet waits at input 128. -/
def lostEntry : MeshEntry := ⟨128, ⟨BitVec.ofNat 64 lostHeader, []⟩, none⟩

/-- Router 0 holds the packet and nothing else. -/
def lostPacket : State := State.reset.setRouter 0 { inputs := [lostEntry] }

/-- The port's number carries into the VALID bit of the record that the router keeps of the discarded packet. -/
theorem meshErr_of_lostPacket :
    bitAt ((packetHop lostPacket 0 0 0 []).regN (meshPageAt lostPacket 0) 0x100) 31 = false := by decide +kernel

/-- The header is a posted write with good parity that no router can deliver. -/
theorem lostHeader_unroutable : hparBad lostEntry.pkt.header.toNat = 0 ∧
    unroutable lostPacket 0 lostEntry.pkt.header.toNat = true ∧ field lostEntry.pkt.header.toNat 40 39 ≠ 0 := by decide +kernel

/-- Refutes O44: PORT of the record of a discarded packet has three bits; an input of number 128 overflows them, and VALID is not set. -/
theorem not_fabricAndClocks : ¬ Obligations.FabricAndClocks := by
  unfold Obligations.FabricAndClocks Sys2Proof.Claims.Mesh
  rintro ⟨hmesh, -⟩
  obtain ⟨hserves, -⟩ := hmesh lostPacket 0 0 0
  have hfree : SMap.get (lostPacket.router 0).granted 0 = none := by decide
  obtain ⟨-, -, -, hdrop, -⟩ := hserves (by decide) (by decide) (fun c hc => nomatch hfree.symm.trans hc)
  obtain ⟨hparity, hlost, hclass⟩ := lostHeader_unroutable
  obtain ⟨t, hexec, -, -, -, -, hvalid⟩ := (hdrop lostEntry (by decide) hparity hlost).2 hclass
  have ht : packetHop lostPacket 0 0 0 [] = t := Host.Outcome.next.inj hexec
  rw [← ht] at hvalid
  exact Bool.false_ne_true (meshErr_of_lostPacket.symm.trans hvalid)

end Sys2Proof.Machine
end
section
/-! SUPPORT. A line of a frame that a data tile has lent to a Stash. -/

namespace Sys2Proof.Machine

/-- Tile 0 lends its frame to depth 0 of cluster 0's Stash, whose tile has its home there. -/
def lentFrame : State :=
  ((State.reset.setEntry 0 (2 ^ 58)).setEntry (stashTile 0 0) (2 ^ 63)).setStash 0 { taken := 1 }

/-- The notice of the poison goes to the Stash tile. -/
theorem notices_of_lentFrame :
    (parity lentFrame (.line 0) 0).mem.poisonNotices = [stashTile 0 0] := by decide +kernel

/-- Refutes O47: a line of a lent frame belongs to the Stash tile that has its home there, and its notice names that tile. -/
theorem not_parityErrors : ¬ Obligations.ParityErrors := by
  unfold Obligations.ParityErrors
  intro h
  obtain ⟨-, -, hline, -⟩ := h lentFrame 0
  obtain ⟨t, hexec, -, -, -, -, hnotice⟩ := hline 0 (by decide)
  have ht : parity lentFrame (.line 0) 0 = t := Host.Outcome.next.inj hexec
  rw [← ht, notices_of_lentFrame] at hnotice
  exact absurd hnotice (by decide)

end Sys2Proof.Machine
end

section
/-! SUPPORT. Writes of a page's own registers (R378, R393), and the mailboxes (R342, R373, R374). -/

namespace Sys2Proof.Machine

/-! ### Writes that reach their page -/

theorem Page.base_mod (p : Page) : p.base % 0x1000 = 0 := by
  obtain ⟨b, i⟩ := p
  cases b <;> simp only [Page.base] <;> (try split) <;> omega

theorem Page.key_mod (p : Page) {off : Nat} (h : off < 0x1000) : p.key off % 0x1000 = off := by
  have := p.base_mod
  unfold Page.key
  omega

/-- An admitted write of a word is its page's write of it. -/
theorem writeReg_of_reaches {s s1 : State} {p : Page} {off : Nat} {who : Requester} {v : Word}
    (h : WriteReaches s s1 p off who v.toNat) (hlt : off < 0x1000) (h4 : off % 4 = 0) :
    writeReg s p off who v = pageWrite (seenBy s who) p who off v.toNat (cycleAt s (p.key off)) := by
  have hoff : off / 4 * 4 = off := by omega
  rw [← h.eq_seenBy, writeReg_of_ok s h, p.key_mod hlt, hoff, Nat.mod_eq_of_lt v.isLt]

/-- A write beyond the common registers and the debug window is the block's own. -/
theorem pageWrite_block (s : State) (p : Page) (who : Requester) {off : Nat} (v t : Nat) (hoff : 0x100 ≤ off)
    (hdebug : isDebug p off = false) : pageWrite s p who off v t = blockWrite s p who off v t := by
  have hne {k : Nat} (hk : k < 0x100) : off ≠ k := by omega
  unfold pageWrite
  simp only [hdebug, Bool.false_and, Bool.false_eq_true, if_false]
  rw [if_neg (hne (by decide)), if_neg (hne (by decide)), if_neg (hne (by decide)), if_neg (hne (by decide)),
    if_neg (hne (by decide)), if_neg (hne (by decide)), if_neg (by omega), if_neg (by omega), if_neg (by omega)]

section
variable (s : State) (who : Requester)

/-- What the checks of an access leave unchanged: all but the session. -/
theorem seenBy_keep {β : Type} (g : State → β) (h : ∀ k, g { s with sec.session := k } = g s) : g (seenBy s who) = g s := by
  unfold seenBy
  split
  · exact h _
  · rfl

@[simp] theorem seenBy_irq : (seenBy s who).irq = s.irq := seenBy_keep s who State.irq fun _ => rfl
@[simp] theorem seenBy_net : (seenBy s who).net = s.net := seenBy_keep s who State.net fun _ => rfl
@[simp] theorem seenBy_logs : (seenBy s who).logs = s.logs := seenBy_keep s who State.logs fun _ => rfl
@[simp] theorem seenBy_counters : (seenBy s who).counters = s.counters := seenBy_keep s who State.counters fun _ => rfl
@[simp] theorem seenBy_staged : (seenBy s who).staged = s.staged := seenBy_keep s who State.staged fun _ => rfl
@[simp] theorem seenBy_cores : (seenBy s who).cores = s.cores := seenBy_keep s who State.cores fun _ => rfl
@[simp] theorem seenBy_power : (seenBy s who).power = s.power := seenBy_keep s who State.power fun _ => rfl
@[simp] theorem seenBy_cont : (seenBy s who).cont = s.cont := seenBy_keep s who State.cont fun _ => rfl
@[simp] theorem seenBy_crs : (seenBy s who).crs = s.crs := seenBy_keep s who State.crs fun _ => rfl
@[simp] theorem seenBy_upd : (seenBy s who).upd = s.upd := seenBy_keep s who State.upd fun _ => rfl
@[simp] theorem seenBy_step : (seenBy s who).step = s.step := seenBy_keep s who State.step fun _ => rfl
@[simp] theorem seenBy_ledger : (seenBy s who).ledger = s.ledger := seenBy_keep s who State.ledger fun _ => rfl
@[simp] theorem seenBy_fab : (seenBy s who).fab = s.fab := seenBy_keep s who State.fab fun _ => rfl
@[simp] theorem seenBy_flash : (seenBy s who).flash = s.flash := seenBy_keep s who State.flash fun _ => rfl
@[simp] theorem seenBy_tick : (seenBy s who).tick = s.tick := seenBy_keep s who State.tick fun _ => rfl
@[simp] theorem seenBy_num : (seenBy s who).num = s.num := seenBy_keep s who State.num fun _ => rfl
@[simp] theorem seenBy_reg (p : Page) (off : Nat) : (seenBy s who).reg p off = s.reg p off :=
  seenBy_keep s who (State.reg · p off) fun _ => rfl
@[simp] theorem seenBy_regN (p : Page) (off : Nat) : (seenBy s who).regN p off = s.regN p off :=
  seenBy_keep s who (State.regN · p off) fun _ => rfl
@[simp] theorem seenBy_stage (p : Page) (off : Nat) : (seenBy s who).stage p off = s.stage p off :=
  seenBy_keep s who (State.stage · p off) fun _ => rfl
@[simp] theorem seenBy_box (k : Nat) : (seenBy s who).box k = s.box k := seenBy_keep s who (State.box · k) fun _ => rfl
@[simp] theorem seenBy_port (k : Nat) : (seenBy s who).port k = s.port k := seenBy_keep s who (State.port · k) fun _ => rfl
@[simp] theorem seenBy_log (p : Page) : (seenBy s who).log p = s.log p := seenBy_keep s who (State.log · p) fun _ => rfl

end

/-- A register keeps its value while no register changes. -/
theorem State.reg_congr {s t : State} (h : t.regs = s.regs) (p : Page) (off : Nat) : t.reg p off = s.reg p off := by
  unfold State.reg
  rw [h]

theorem State.regN_congr {s t : State} (h : t.regs = s.regs) (p : Page) (off : Nat) : t.regN p off = s.regN p off :=
  congrArg BitVec.toNat (State.reg_congr h p off)

@[simp] theorem State.reg_bump (s : State) (p q : Page) (sel off : Nat) : (s.bump p sel).reg q off = s.reg q off :=
  State.reg_congr (s.bump_regs p sel) q off

@[simp] theorem State.regN_bump (s : State) (p q : Page) (sel off : Nat) : (s.bump p sel).regN q off = s.regN q off :=
  State.regN_congr (s.bump_regs p sel) q off

@[simp] theorem State.regN_logReq (s : State) (p q : Page) (kind : Nat) (who : Requester) (w : Bool) (o off : Nat) :
    (s.logReq p kind who w o).regN q off = s.regN q off := rfl

/-! ### Mailbox channels -/

/-- A write of a channel's page is the channel's own. -/
theorem writeReg_mbx {s s1 : State} {k off : Nat} {who : Requester} {v : Word} (h : WriteReaches s s1 (mbxPage k) off who v.toNat)
    (hlt : off < 0x1000) (h4 : off % 4 = 0) (hoff : 0x100 ≤ off) :
    writeReg s (mbxPage k) off who v = mbxWrite (seenBy s who) (mbxPage k) who off v.toNat := by
  rw [writeReg_of_reaches h hlt h4, pageWrite_block _ _ _ _ _ hoff rfl]
  rfl

theorem State.box_of_irq {s t : State} (h : t.irq = s.irq) (k : Nat) : t.box k = s.box k := by
  unfold State.box
  rw [h]

theorem mbxDoorbells {s s1 : State} {k : Nat} {who : Requester} {v : Word} (h : WriteReaches s s1 (mbxPage k) 0x300 who v.toNat) :
    writeReg s (mbxPage k) 0x300 who v = boxDoorbell (seenBy s who) k v.toNat := by
  rw [writeReg_mbx h (by decide) (by decide) (by decide)]
  rfl

theorem boxDoorbell_holds (s : State) (k bits : Nat) : let t := boxDoorbell s k bits
    t.reg (mbxPage k) 0x304 = s.reg (mbxPage k) 0x304 ||| BitVec.ofNat 32 bits ∧ bitAt (t.regN (mbxPage k) 0x018) 0 = true ∧
      t.irq = s.irq ∧ t.mem = s.mem := by
  refine ⟨?_, ?_, ?_, ?_⟩
  · rw [boxDoorbell, State.reg_bump, State.reg_raise_ne _ _ (Page.key_ne _ (by decide)), State.reg_setReg_self]
  · rw [boxDoorbell, State.regN_bump, State.bitAt_raise_self _ _ (by decide)]
  · simp [boxDoorbell]
  · simp [boxDoorbell]

theorem mbxSends {s s1 : State} {k : Nat} {who : Requester} {v : Word} (h : WriteReaches s s1 (mbxPage k) 0x240 who v.toNat) :
    writeReg s (mbxPage k) 0x240 who v = boxSend (seenBy s who) k (boxStaged s k) who := by
  rw [writeReg_mbx h (by decide) (by decide) (by decide)]
  simp [mbxWrite, mbxPage, boxStaged]

/-- A channel with room takes the message. -/
theorem boxSend_of_room {s : State} {k : Nat} (msg : Nat) (who : Requester) (h : (s.box k).length < 16) :
    let t := boxSend s k msg who
    t.box k = s.box k ++ [msg % 2 ^ 512] ∧ bitAt (t.regN (mbxPage k) 0x018) 0 = true ∧ t.mem = s.mem := by
  simp only [boxSend, if_neg (Nat.not_le.mpr h), State.bump_mem, State.raise_mem, State.setBox_mem, and_true, State.regN_bump,
    State.bitAt_raise_self _ _ (show 0 < 32 by decide)]
  rw [State.box_of_irq (State.bump_irq ..), State.box_of_irq (State.raise_irq ..), State.box_setBox, if_pos rfl]

/-- A full channel discards the message. -/
theorem boxSend_of_full {s : State} {k : Nat} (msg : Nat) (who : Requester) (h : 16 ≤ (s.box k).length) :
    let t := boxSend s k msg who
    t.box k = s.box k ∧ bitAt (t.regN (mbxPage k) 0x018) 2 = true := by
  simp only [boxSend, if_pos h, State.regN_logReq, State.regN_bump, State.bitAt_raise_self _ _ (show 2 < 32 by decide), and_true]
  exact State.box_of_irq (by simp) k

theorem mbxPops {s s1 : State} {k : Nat} {who : Requester} {v : Word} (h : WriteReaches s s1 (mbxPage k) 0x2C0 who v.toNat) :
    writeReg s (mbxPage k) 0x2C0 who v = boxPop (seenBy s who) k := by
  rw [writeReg_mbx h (by decide) (by decide) (by decide)]
  simp [mbxWrite, mbxPage]

/-- A pop that leaves a message takes the head and no more. -/
theorem boxPop_of_more {s : State} {k m : Nat} {rest : List Nat} (h : s.box k = m :: rest) (hrest : rest ≠ []) :
    boxPop s k = (s.setBox k rest).bump (mbxPage k) 1 := by
  have hne : rest.isEmpty = false := by simpa using hrest
  simp [boxPop, h, hne]

theorem boxPop_of_empty {s : State} {k : Nat} (h : s.box k = []) : boxPop s k = s.bump (mbxPage k) 5 := by simp [boxPop, h]

theorem mbxCfgWrites {s s1 : State} {k : Nat} {who : Requester} {v : Word} (h : WriteReaches s s1 (mbxPage k) 0x100 who v.toNat) :
    writeReg s (mbxPage k) 0x100 who v = if field v.toNat 31 30 = 3 ∧ (field v.toNat 13 0 < 3072 ∨ 4095 < field v.toNat 13 0)
      then (seenBy s who).logReq (mbxPage k) kindReserved who true 0x100
      else (seenBy s who).setRegN (mbxPage k) 0x100 (field v.toNat 31 30 * 2 ^ 30 + field v.toNat 13 0) := by
  rw [writeReg_mbx h (by decide) (by decide) (by decide)]
  rw [mbxWrite, if_pos rfl, boxCfgWrite]
  split_ifs <;> rfl

/-! ### Frame keys -/

theorem sakCommits {s s1 : State} {i : Nat} {who : Requester} {v : Word} (h : WriteReaches s s1 (msecPage i) 0x108 who v.toNat) :
    writeReg s (msecPage i) 0x108 who v = sakCommit (seenBy s who) i v.toNat := by
  rw [writeReg_of_reaches h (by decide) (by decide), pageWrite_block _ _ _ _ _ (by decide) rfl]
  rfl

theorem sakCommit_of_commit {s : State} {i v : Nat} (h : bitAt v 31 = true) : sakCommit s i v =
    (s.setRegN (msecPage i) 0x108 (v % 8)).setPort i { s.port i with
      keys := SMap.set (s.port i).keys (v % 8) (ofWords ((List.range 12).map (fun w => s.stage (msecPage i) (0x10C + 4 * w))))
      pns := SMap.set (s.port i).pns (v % 8) 1 } := by
  simp [sakCommit, h, State.stage, State.port]

/-- Settles O35: each of the five commands is the write of the register that it names. -/
theorem mailboxes : Obligations.Mailboxes := by
  unfold Obligations.Mailboxes
  intro s s1 k who v
  refine ⟨fun h => ⟨_, congrArg Host.Outcome.next (mbxDoorbells h), ?_⟩,
    fun h => ⟨fun hroom => ⟨_, congrArg Host.Outcome.next (mbxSends h), ?_⟩,
      fun hfull => ⟨_, congrArg Host.Outcome.next (mbxSends h), ?_⟩⟩,
    fun h => ⟨fun m rest hbox hrest => ⟨_, congrArg Host.Outcome.next (mbxPops h), ?_⟩,
      fun hbox => ⟨_, congrArg Host.Outcome.next (mbxPops h), ?_⟩⟩,
    fun h => ⟨fun hto hn => ⟨_, congrArg Host.Outcome.next (mbxCfgWrites h), ?_⟩,
      fun hto => ⟨_, congrArg Host.Outcome.next (mbxCfgWrites h), ?_⟩⟩,
    fun port h hcommit => ⟨_, congrArg Host.Outcome.next (sakCommits h), ?_⟩⟩
  · simpa using boxDoorbell_holds (seenBy s who) k v.toNat
  · rw [← seenBy_box s who]
    simpa only [seenBy_mem] using boxSend_of_room (s := seenBy s who) (boxStaged s k) who (by rwa [seenBy_box])
  · rw [← seenBy_box s who]
    exact boxSend_of_full (boxStaged s k) who (by rwa [seenBy_box])
  · rw [boxPop_of_more ((seenBy_box s who k).trans hbox) hrest]
    simp [State.box_of_irq (State.bump_irq ..), State.box_setBox]
  · rw [boxPop_of_empty ((seenBy_box s who k).trans hbox)]
    simpa [State.box_of_irq (State.bump_irq ..)] using hbox
  · rw [if_pos ⟨hto, .inl hn⟩]
    simp [State.logReq, State.log_logWord]
  · have hfield := field_lt v.toNat 31 30
    have hlow := field_lt v.toNat 13 0
    rw [if_neg (fun h => hto h.1), State.regN_setRegN_self]
    omega
  · rw [sakCommit_of_commit hcommit]
    simp [State.port_setPort]

end Sys2Proof.Machine
end

section
/-! SUPPORT. Which parts of the state an operation changes: rules that build `OnlyIn` operation by operation. -/

namespace Sys2Proof.Machine

theorem OnlyIn.refl (s : State) : OnlyIn s s [] := by
  intro p _
  cases p <;> rfl

theorem OnlyIn.mono {s t : State} {ps qs : List Part} (h : OnlyIn s t qs) (hsub : ∀ p ∈ qs, p ∈ ps) : OnlyIn s t ps :=
  fun p hp => h p fun hq => hp (hsub p hq)

theorem OnlyIn.trans {s t r : State} {ps qs : List Part} (h : OnlyIn s t ps) (g : OnlyIn t r qs) : OnlyIn s r (ps ++ qs) := by
  intro p hp
  have h1 := h p fun hm => hp (List.mem_append_left _ hm)
  have h2 := g p fun hm => hp (List.mem_append_right _ hm)
  cases p <;> exact Eq.trans h2 h1

theorem OnlyIn.ite {s a b : State} {ps qs : List Part} {c : Prop} [Decidable c] (ha : OnlyIn s a ps) (hb : OnlyIn s b qs) :
    OnlyIn s (if c then a else b) (ps ++ qs) := by
  split
  · exact ha.mono fun _ => List.mem_append_left _
  · exact hb.mono fun _ => List.mem_append_right _

theorem OnlyIn.foldl {α : Type} {ps : List Part} {f : State → α → State} (hf : ∀ t x, OnlyIn t (f t x) ps) (s : State) (l : List α) :
    OnlyIn s (l.foldl f s) ps := by
  induction l generalizing s with
  | nil => exact (OnlyIn.refl s).mono (List.forall_mem_nil _)
  | cons x l ih => exact ((hf s x).trans (ih (f s x))).mono fun p hp => (List.mem_append.mp hp).elim id id

/-! ### One rule per part -/

section
variable {s t : State} {ps : List Part} (h : OnlyIn s t ps)
include h

/-- The part that an update names may change; every other part is as it was. -/
theorem OnlyIn.put {t' : State} (q : Part) (g : ∀ p, p ≠ q → Untouched t t' p) : OnlyIn s t' (q :: ps) :=
  (h.trans (qs := [q]) fun p hp => g p fun he => hp (he ▸ List.mem_singleton_self q)).mono fun _ hp =>
    (List.mem_append.mp hp).elim (List.mem_cons_of_mem q) fun hq => List.mem_singleton.mp hq ▸ List.mem_cons_self

theorem OnlyIn.putRegs {v} : OnlyIn s { t with regs := v } (.regs :: ps) :=
  h.put .regs fun p hp => by cases p <;> trivial

theorem OnlyIn.putStaged {v} : OnlyIn s { t with staged := v } (.staged :: ps) :=
  h.put .staged fun p hp => by cases p <;> trivial

theorem OnlyIn.putCounters {v} : OnlyIn s { t with counters := v } (.counters :: ps) :=
  h.put .counters fun p hp => by cases p <;> trivial

theorem OnlyIn.putLogs {v} : OnlyIn s { t with logs := v } (.logs :: ps) :=
  h.put .logs fun p hp => by cases p <;> trivial

theorem OnlyIn.putSnaps {v} : OnlyIn s { t with snaps := v } (.snaps :: ps) :=
  h.put .snaps fun p hp => by cases p <;> trivial

theorem OnlyIn.putCores {v} : OnlyIn s { t with cores := v } (.cores :: ps) :=
  h.put .cores fun p hp => by cases p <;> trivial

theorem OnlyIn.putOpes {v} : OnlyIn s { t with opes := v } (.opes :: ps) :=
  h.put .opes fun p hp => by cases p <;> trivial

theorem OnlyIn.putMem {v} : OnlyIn s { t with mem := v } (.mem :: ps) :=
  h.put .mem fun p hp => by cases p <;> trivial

theorem OnlyIn.putRetireDue {v} : OnlyIn s { t with retireDue := v } (.retireDue :: ps) :=
  h.put .retireDue fun p hp => by cases p <;> trivial

theorem OnlyIn.putRowEngines {v} : OnlyIn s { t with rowEngines := v } (.rowEngines :: ps) :=
  h.put .rowEngines fun p hp => by cases p <;> trivial

theorem OnlyIn.putNumIn {v} : OnlyIn s { t with numIn := v } (.numIn :: ps) :=
  h.put .numIn fun p hp => by cases p <;> trivial

theorem OnlyIn.putStep {v} : OnlyIn s { t with step := v } (.step :: ps) :=
  h.put .step fun p hp => by cases p <;> trivial

theorem OnlyIn.putNet {v} : OnlyIn s { t with net := v } (.net :: ps) :=
  h.put .net fun p hp => by cases p <;> trivial

theorem OnlyIn.putCrs {v} : OnlyIn s { t with crs := v } (.crs :: ps) :=
  h.put .crs fun p hp => by cases p <;> trivial

theorem OnlyIn.putUpd {v} : OnlyIn s { t with upd := v } (.upd :: ps) :=
  h.put .upd fun p hp => by cases p <;> trivial

theorem OnlyIn.putNum {v} : OnlyIn s { t with num := v } (.num :: ps) :=
  h.put .num fun p hp => by cases p <;> trivial

theorem OnlyIn.putLedger {v} : OnlyIn s { t with ledger := v } (.ledger :: ps) :=
  h.put .ledger fun p hp => by cases p <;> trivial

theorem OnlyIn.putFab {v} : OnlyIn s { t with fab := v } (.fab :: ps) :=
  h.put .fab fun p hp => by cases p <;> trivial

theorem OnlyIn.putIrq {v} : OnlyIn s { t with irq := v } (.irq :: ps) :=
  h.put .irq fun p hp => by cases p <;> trivial

theorem OnlyIn.putCont {v} : OnlyIn s { t with cont := v } (.cont :: ps) :=
  h.put .cont fun p hp => by cases p <;> trivial

theorem OnlyIn.putSec {v} : OnlyIn s { t with sec := v } (.sec :: ps) :=
  h.put .sec fun p hp => by cases p <;> trivial

theorem OnlyIn.putFlash {v} : OnlyIn s { t with flash := v } (.flash :: ps) :=
  h.put .flash fun p hp => by cases p <;> trivial

theorem OnlyIn.putPower {v} : OnlyIn s { t with power := v } (.power :: ps) :=
  h.put .power fun p hp => by cases p <;> trivial

/-! ### One rule per operation -/

theorem OnlyIn.setReg {p : Page} {off : Nat} {v : Word} : OnlyIn s (t.setReg p off v) (.regs :: ps) :=
  h.putRegs

theorem OnlyIn.setRegN {p : Page} {off v : Nat} : OnlyIn s (t.setRegN p off v) (.regs :: ps) :=
  h.putRegs

theorem OnlyIn.setField {p : Page} {off lo w v : Nat} : OnlyIn s (t.setField p off lo w v) (.regs :: ps) :=
  h.putRegs

theorem OnlyIn.raise {p : Page} {bit : Nat} : OnlyIn s (t.raise p bit) (.regs :: ps) :=
  h.putRegs

theorem OnlyIn.setStage {p : Page} {off : Nat} {v : Word} : OnlyIn s (t.setStage p off v) (.staged :: ps) :=
  h.putStaged

theorem OnlyIn.logWord {p : Page} {e : Nat} : OnlyIn s (t.logWord p e) (.logs :: ps) :=
  h.putLogs

theorem OnlyIn.logReq {p : Page} {kind : Nat} {who : Requester} {w : Bool} {off : Nat} : OnlyIn s (t.logReq p kind who w off) (.logs :: ps) :=
  h.putLogs

theorem OnlyIn.logHw {p : Page} {off : Nat} : OnlyIn s (t.logHw p off) (.logs :: ps) :=
  h.putLogs

theorem OnlyIn.logUnit {p : Page} {part cluster off : Nat} : OnlyIn s (t.logUnit p part cluster off) (.logs :: ps) :=
  h.putLogs

theorem OnlyIn.setCore {id : CoreId} {c : Core} : OnlyIn s (t.setCore id c) (.cores :: ps) :=
  h.putCores

theorem OnlyIn.modCore {id : CoreId} {f : Core → Core} : OnlyIn s (t.modCore id f) (.cores :: ps) :=
  h.putCores

theorem OnlyIn.setSc {id : CoreId} {n : Nat} {v : StreamCtx} : OnlyIn s (t.setSc id n v) (.cores :: ps) :=
  h.putCores

theorem OnlyIn.setOpe {id : CoreId} {o : Ope} : OnlyIn s (t.setOpe id o) (.opes :: ps) :=
  h.putOpes

theorem OnlyIn.setRow {c : Nat} {v : RowEngine} : OnlyIn s (t.setRow c v) (.rowEngines :: ps) :=
  h.putRowEngines

theorem OnlyIn.setPort {i : Nat} {v : Port} : OnlyIn s (t.setPort i v) (.net :: ps) :=
  h.putNet

theorem OnlyIn.putTctx {n : Nat} {c : TalCtx} : OnlyIn s (t.putTctx n c) (.net :: ps) :=
  h.putNet

theorem OnlyIn.setEntry {a e : Nat} : OnlyIn s (t.setEntry a e) (.mem :: ps) :=
  h.putMem

theorem OnlyIn.trigger {cause target cluster : Nat} : OnlyIn s (t.trigger cause target cluster) (.mem :: ps) :=
  h.putMem

theorem OnlyIn.toLedger {unit kind locus : Nat} : OnlyIn s (t.toLedger unit kind locus) (.mem :: ps) :=
  h.putMem

theorem OnlyIn.setStack {n : Nat} {v : Stack} : OnlyIn s (t.setStack n v) (.mem :: ps) :=
  h.putMem

theorem OnlyIn.setStash {n : Nat} {v : Stash} : OnlyIn s (t.setStash n v) (.mem :: ps) :=
  h.putMem

theorem OnlyIn.setMover {n : Nat} {v : Mover} : OnlyIn s (t.setMover n v) (.mem :: ps) :=
  h.putMem

theorem OnlyIn.poisonLine {a : Nat} : OnlyIn s (t.poisonLine a) (.mem :: ps) :=
  h.putMem

theorem OnlyIn.setBox {k : Nat} {l : List Nat} : OnlyIn s (t.setBox k l) (.irq :: ps) :=
  h.putIrq

theorem OnlyIn.setMirror {id : CoreId} {m : MirrorSample} : OnlyIn s (t.setMirror id m) (.num :: ps) :=
  h.putNum

theorem OnlyIn.setLoupes {id : CoreId} {l : List LoupeSample} : OnlyIn s (t.setLoupes id l) (.num :: ps) :=
  h.putNum

theorem OnlyIn.setStepEntry {l e : Nat} : OnlyIn s (t.setStepEntry l e) (.step :: ps) :=
  h.putStep

theorem OnlyIn.setSlice {n : Nat} {x : UpdSlice} : OnlyIn s (t.setSlice n x) (.upd :: ps) :=
  h.putUpd

theorem OnlyIn.record {p : Page} {off v : Nat} : OnlyIn s (t.record p off v) (.regs :: ps) :=
  (OnlyIn.ite h.setRegN h.setRegN).mono fun _ hp => (List.mem_append.mp hp).elim id id

theorem OnlyIn.bumpBy {p : Page} {sel n : Nat} : OnlyIn s (t.bumpBy p sel n) (.logs :: .counters :: ps) :=
  (OnlyIn.ite h.putCounters.logWord h.putCounters).mono fun _ hp => (List.mem_append.mp hp).elim id (List.mem_cons_of_mem _)

theorem OnlyIn.bump {p : Page} {sel : Nat} : OnlyIn s (t.bump p sel) (.logs :: .counters :: ps) :=
  h.bumpBy

theorem OnlyIn.setTctx {n : Nat} {c : TalCtx} : OnlyIn s (t.setTctx n c) (.regs :: .net :: ps) :=
  h.putNet.setField

theorem OnlyIn.seenBy {who : Requester} : OnlyIn s (seenBy t who) (.sec :: ps) :=
  (OnlyIn.ite h.putSec h).mono fun _ hp => (List.mem_append.mp hp).elim id (List.mem_cons_of_mem _)

end

end Sys2Proof.Machine
end

section
/-! SUPPORT. Mirror and Loupe checks, and the triggers of the numerics (R303-R306, R309-R313). -/

namespace Sys2Proof.Machine

/-! ### Mirror samples -/

theorem partner_partner {id : CoreId} (h : id.core.val < 2) : partner (partner id) = id := by
  obtain ⟨c, ⟨k, hk⟩⟩ := id
  obtain rfl | rfl : k = 0 ∨ k = 1 := Nat.le_one_iff_eq_zero_or_eq_one.mp (Nat.le_of_lt_succ h)
  · rfl
  · rfl

theorem mcId_core_lt (m : McId) : (McId.core m).core.val < 2 := m.mc.isLt

theorem partnerDown_partner (s : State) {id : CoreId} (h : id.core.val < 2) :
    s.partnerDown (partner id) = !s.domainUp (coreDomain id) := by
  rw [State.partnerDown, partner_partner h]

theorem domainUp_of_coreRuns {s : State} {id : CoreId} (h : s.coreRuns id = true) : s.domainUp (coreDomain id) = true := by
  simp only [State.coreRuns, beq_iff_eq] at h
  simp [State.domainUp, h]

/-- A sample that is abandoned is gone, and ABANDONED rises. -/
theorem abandonMirror_of_sample {s : State} {id : CoreId} {k : MirrorSample} (sel : Nat) (h : s.mirror id = some k) :
    OnlyIn s (abandonMirror s id sel) [.num, .regs, .counters, .logs] ∧ (abandonMirror s id sel).mirror id = none ∧
      bitAt ((abandonMirror s id sel).regN (mckPage id.cluster.val) 0x018) 1 = true := by
  simp only [abandonMirror, h]
  refine ⟨(OnlyIn.refl s).putNum.raise.bump.mono (by decide), ?_, ?_⟩
  · simp [State.mirror]
  · rw [State.regN_bump, State.bitAt_raise_self _ _ (by decide)]

section
variable {s : State} {id : CoreId} {t : Nat} {upset : List (Nat × Nat)} {k : MirrorSample} (hid : id.core.val < 2)
variable (hsample : s.mirror (partner id) = some k)
include hid hsample

/-- The next queued rank update runs in a cycle that is free for it. -/
theorem mirrorRankUpdate_of_free {e : MirrorEntry} {rest : List MirrorEntry} (hqueue : k.queue = e :: rest) (hruns : s.coreRuns id = true)
    (hreads : (s.ope id).reads t = false) (hlast : k.last < t) (hnow : (s.core id).now ≤ t) : mirrorRankUpdate s id t upset =
      (s.setMirror (partner id) { k with queue := rest, cells := upset.foldl upsetCell (mirrorAccumulate k.cells e), last := t }).bump
        (mckPage id.cluster.val) 7 := by
  have hup : s.partnerDown (partner id) = false := by rw [partnerDown_partner s hid, domainUp_of_coreRuns hruns]; rfl
  simp [mirrorRankUpdate, hsample, hup, hqueue, hruns, hreads, hlast, Nat.not_lt.mpr hnow]

/-- It waits while the core's own stage 1 reads. -/
theorem mirrorRankUpdate_of_reads {e : MirrorEntry} {rest : List MirrorEntry} (hqueue : k.queue = e :: rest)
    (hruns : s.coreRuns id = true) (hreads : (s.ope id).reads t = true) : mirrorRankUpdate s id t upset = s := by
  have hup : s.partnerDown (partner id) = false := by rw [partnerDown_partner s hid, domainUp_of_coreRuns hruns]; rfl
  simp [mirrorRankUpdate, hsample, hup, hqueue, hreads]

theorem mirrorRankUpdate_of_down (hdown : s.domainUp (coreDomain id) = false) :
    mirrorRankUpdate s id t upset = abandonMirror s (partner id) 6 := by
  have hup : s.partnerDown (partner id) = true := by rw [partnerDown_partner s hid, hdown]; rfl
  simp [mirrorRankUpdate, hsample, hup]

end

/-- MIRROR_RANK_UPDATE runs an update, waits, or abandons the sample. -/
theorem mirrorUpdates {s : State} {m : McId} (t : Nat) (upset : List (Nat × Nat)) {k : MirrorSample} {e : MirrorEntry}
    {rest : List MirrorEntry} (hsample : s.mirror (partner (McId.core m)) = some k) (hqueue : k.queue = e :: rest) :
    (s.coreRuns (McId.core m) = true → (s.ope (McId.core m)).reads t = false → k.last < t → (s.core (McId.core m)).now ≤ t →
      ∃ r, exec (.mirrorRankUpdate m t upset) s = .next r ∧ OnlyIn s r [.num, .counters, .logs] ∧ r.mirror (partner (McId.core m)) =
        some { k with queue := rest, cells := upset.foldl upsetCell (mirrorAccumulate k.cells e), last := t }) ∧
    (s.coreRuns (McId.core m) = true → (s.ope (McId.core m)).reads t = true → exec (.mirrorRankUpdate m t upset) s = .next s) ∧
    (s.domainUp (coreDomain (McId.core m)) = false → ∃ r, exec (.mirrorRankUpdate m t upset) s = .next r ∧
      OnlyIn s r [.num, .regs, .counters, .logs] ∧ r.mirror (partner (McId.core m)) = none ∧
        bitAt (r.regN (mckPage m.cluster.val) 0x018) 1 = true) := by
  refine ⟨fun hruns hreads hlast hnow => ⟨_,
      congrArg Host.Outcome.next (mirrorRankUpdate_of_free (mcId_core_lt m) hsample hqueue hruns hreads hlast hnow), (OnlyIn.refl s).setMirror.bump.mono (by decide), ?_⟩,
    fun hruns hreads => congrArg Host.Outcome.next (mirrorRankUpdate_of_reads (mcId_core_lt m) hsample hqueue hruns hreads),
    fun hdown => ⟨_, congrArg Host.Outcome.next (mirrorRankUpdate_of_down (mcId_core_lt m) hsample hdown), abandonMirror_of_sample 6 hsample⟩⟩
  simp [State.mirror, State.setMirror]

/-! ### Comparisons of signatures -/

/-- The state in which the mirror's verdict is taken: the sample is gone. -/
def sampleGone (s : State) (id : CoreId) : State := { s with num.mirrors := SMap.del s.num.mirrors (mcKey id) }

theorem sampleGone_mirror (s : State) (id : CoreId) : (sampleGone s id).mirror id = none := SMap.get_del_self ..

/-- The first row in which the signatures of a sample differ. -/
def differingRow (k : MirrorSample) : Option Nat := (List.range 256).find? (fun i => rowSignature k.cells i != SMap.getD k.sigs 0 i)

section
variable {s : State} {id : CoreId} {k : MirrorSample} (hsample : s.mirror id = some k) (hdrain : k.drain.isSome = true)
variable (hqueue : k.queue = []) (hsigs : 256 ≤ k.sigs.length) (hruns : s.coreRuns (partner id) = true)
include hsample hdrain hqueue hsigs hruns

/-- A sample that is ready to be compared, with equal signatures. -/
theorem mirrorCompare_of_equal (hrow : differingRow k = none) :
    mirrorCompare s id = (sampleGone s id).bump (mckPage id.cluster.val) 1 := by
  have hup : s.partnerDown id = false := by rw [State.partnerDown, domainUp_of_coreRuns hruns]; rfl
  have hdone : k.drain.isNone = false := Option.isNone_eq_false_iff.mpr hdrain
  unfold differingRow at hrow
  simp [mirrorCompare, hsample, hup, hdone, hqueue, hruns, Nat.not_lt.mpr hsigs, hrow, sampleGone]

/-- The same with a row that differs. -/
theorem mirrorCompare_of_differing {row : Nat} (hrow : differingRow k = some row) :
    mirrorCompare s id = mirrorMismatch (sampleGone s id) id k row := by
  have hup : s.partnerDown id = false := by rw [State.partnerDown, domainUp_of_coreRuns hruns]; rfl
  have hdone : k.drain.isNone = false := Option.isNone_eq_false_iff.mpr hdrain
  unfold differingRow at hrow
  simp [mirrorCompare, hsample, hup, hdone, hqueue, hruns, Nat.not_lt.mpr hsigs, hrow, sampleGone]

end

/-- The first row that differs is the one found. -/
theorem find_first_row {p : Nat → Bool} {i n : Nat} (hlt : i < n) (hi : p i = true) (hbefore : ∀ j, j < i → p j = false) :
    (List.range n).find? p = some i := by
  rw [List.find?_range_eq_some]
  exact ⟨hi, List.mem_range.mpr hlt, fun j hj => by simp [hbefore j hj]⟩

/-- With no ring of records, a trigger's record goes nowhere. -/
theorem numLog_of_off {s : State} {c : Nat} (kind core : Nat) (x : Ctx) (layer tile count at_ ulps : Nat)
    (h : bitAt (s.regN (lckPage c) 0x11C) 31 = false) : numLog s c kind core x layer tile count at_ ulps = s := by simp [numLog, h]

/-- The pages of a cluster's Mirror and Loupe lie apart. -/
theorem lck_key_ne_mck {c a b : Nat} (ha : a < 0x1000) (hb : b < 0x1000) : (lckPage c).key a ≠ (mckPage c).key b := by
  simp only [Page.key, Page.base, lckPage, mckPage]
  omega

/-- The first-event record of a mismatch. -/
def mirrorRecord (s : State) (p : Page) (v tile : Nat) : State :=
  ((if s.isFirst p 0x10C then (s.record p 0x10C v).setRegN p 0x110 tile else s.record p 0x10C v).raise p 0).bump p 2

theorem onlyIn_mirrorRecord (s : State) (p : Page) (v tile : Nat) : OnlyIn s (mirrorRecord s p v tile) [.regs, .counters, .logs] :=
  (OnlyIn.ite (OnlyIn.refl s).record.setRegN (OnlyIn.refl s).record).raise.bump.mono (by decide)

theorem mirrorRecord_regN_ne (s : State) {p q : Page} (v tile : Nat) {off : Nat} (h : ∀ b ∈ [0x10C, 0x110, 0x018], q.key off ≠ p.key b) :
    (mirrorRecord s p v tile).regN q off = s.regN q off := by
  have hne {b : Nat} (hb : b ∈ [0x10C, 0x110, 0x018]) : q.key off ≠ p.key b := h b hb
  have hrec := s.reg_record_ne v (hne (b := 0x10C) (by decide))
  rw [mirrorRecord, State.regN_bump, State.regN, State.regN, State.reg_raise_ne _ _ (hne (by decide))]
  split
  · rw [State.setRegN, State.reg_setReg_ne _ _ (hne (by decide)), hrec]
  · rw [hrec]

theorem mirrorRecord_raised (s : State) (p : Page) (v tile : Nat) : bitAt ((mirrorRecord s p v tile).regN p 0x018) 0 = true := by
  rw [mirrorRecord, State.regN_bump, State.bitAt_raise_self _ _ (by decide)]

theorem reportUnit_regN (s : State) (u k l : Nat) (p : Page) (off : Nat) : (reportUnit s u k l).regN p off = s.regN p off := rfl
theorem reportUnit_mirror (s : State) (u k l : Nat) (id : CoreId) : (reportUnit s u k l).mirror id = s.mirror id := rfl

/-- A mismatch that neither halts nor is written to a ring. -/
theorem mirrorMismatch_of_quiet {s : State} {id : CoreId} {k : MirrorSample} {row : Nat}
    (hhalt : bitAt (s.regN (mckPage id.cluster.val) 0x010) 1 = false) (hring : bitAt (s.regN (lckPage id.cluster.val) 0x11C) 31 = false) :
    ∃ v, mirrorMismatch s id k row = reportUnit (reportUnit (mirrorRecord s (mckPage id.cluster.val) v k.key.tile) (opeUnit s id) 5 row)
      (opeUnit s (partner id)) 5 row := by
  refine ⟨id.core.val * 2 ^ 29 + k.ctx.idx * 2 ^ 27 + row * 2 ^ 16 + k.key.layer % 2 ^ 16, ?_⟩
  have hring' (v tile : Nat) : bitAt ((mirrorRecord s (mckPage id.cluster.val) v tile).regN (lckPage id.cluster.val) 0x11C) 31 = false := by
    rw [mirrorRecord_regN_ne _ _ _ fun b hb => lck_key_ne_mck (by decide) (by revert b; decide), hring]
  have hhalt' (v tile : Nat) : bitAt ((mirrorRecord s (mckPage id.cluster.val) v tile).regN (mckPage id.cluster.val) 0x010) 1 = false := by
    rw [mirrorRecord_regN_ne _ _ _ fun b hb => Page.key_ne _ (by revert b; decide), hhalt]
  have hope (v tile : Nat) (who : CoreId) : opeUnit (mirrorRecord s (mckPage id.cluster.val) v tile) who = opeUnit s who := by
    rw [opeUnit, State.siteOf, onlyIn_mirrorRecord s _ v tile .fab (by decide)]
    rfl
  have hrec (v : Nat) : ((if s.isFirst (mckPage id.cluster.val) 0x10C = true
      then (s.record (mckPage id.cluster.val) 0x10C v).setRegN (mckPage id.cluster.val) 0x110 k.key.tile
      else s.record (mckPage id.cluster.val) 0x10C v).raise (mckPage id.cluster.val) 0).bump (mckPage id.cluster.val) 2 =
        mirrorRecord s (mckPage id.cluster.val) v k.key.tile := rfl
  have hreg (r : State) (u n v l : Nat) : (reportUnit (reportUnit r u 5 row) n v l).regN (mckPage id.cluster.val) 0x010 =
      r.regN (mckPage id.cluster.val) 0x010 := rfl
  simp only [mirrorMismatch, hrec]
  rw [numLog_of_off _ _ _ _ _ _ _ _ (hring' _ _), hreg, hhalt', hope, hope]
  rfl

/-- MIRROR_COMPARE passes a sample with equal signatures; the first row that differs makes an event of either engine. -/
theorem mirrorCompares {s : State} {m : McId} {k : MirrorSample} (hsample : s.mirror (McId.core m) = some k) (hdrain : k.drain.isSome = true)
    (hqueue : k.queue = []) (hsigs : 256 ≤ k.sigs.length) (hruns : s.coreRuns (partner (McId.core m)) = true) :
    ((∀ i, i < 256 → rowSignature k.cells i = SMap.getD k.sigs 0 i) → ∃ r, exec (.mirrorCompare m) s = .next r ∧
      OnlyIn s r [.num, .counters, .logs] ∧ r.mirror (McId.core m) = none) ∧
    (∀ i, i < 256 → rowSignature k.cells i ≠ SMap.getD k.sigs 0 i → (∀ j, j < i → rowSignature k.cells j = SMap.getD k.sigs 0 j) →
      bitAt (s.regN (mckPage m.cluster.val) 0x010) 1 = false → bitAt (s.regN (lckPage m.cluster.val) 0x11C) 31 = false →
      ∃ r, exec (.mirrorCompare m) s = .next r ∧ OnlyIn s r [.num, .mem, .regs, .counters, .logs] ∧ r.mirror (McId.core m) = none ∧
        bitAt (r.regN (mckPage m.cluster.val) 0x018) 0 = true ∧
        r.mem = { s.mem with ledgerIn := s.mem.ledgerIn ++ [⟨opeUnit s (McId.core m), 5, i⟩, ⟨opeUnit s (partner (McId.core m)), 5, i⟩] }) := by
  constructor
  · intro hsame
    have hrow : differingRow k = none := by
      rw [differingRow, List.find?_eq_none]
      intro i hi
      simp [hsame i (List.mem_range.mp hi)]
    refine ⟨_, congrArg Host.Outcome.next (mirrorCompare_of_equal hsample hdrain hqueue hsigs hruns hrow), (OnlyIn.refl s).putNum.bump.mono (by decide), ?_⟩
    rw [State.mirror, State.bump_num]
    exact sampleGone_mirror ..
  · intro i hlt hi hbefore hhalt hring
    have hrow : differingRow k = some i := find_first_row hlt (by simpa using hi) fun j hj => by simpa using hbefore j hj
    obtain ⟨v, hquiet⟩ := mirrorMismatch_of_quiet (s := sampleGone s (McId.core m)) (id := McId.core m) (k := k) (row := i) hhalt hring
    have honly := onlyIn_mirrorRecord (sampleGone s (McId.core m)) (mckPage (McId.core m).cluster.val) v k.key.tile
    refine ⟨_, congrArg Host.Outcome.next ((mirrorCompare_of_differing hsample hdrain hqueue hsigs hruns hrow).trans hquiet), ?_, ?_, ?_, ?_⟩
    · exact ((OnlyIn.refl s).putNum.trans honly).putMem.putMem.mono (by decide)
    · have hnum : _ = (sampleGone s (McId.core m)).num := honly .num (by decide)
      rw [reportUnit_mirror, reportUnit_mirror, State.mirror, hnum]
      exact sampleGone_mirror ..
    · rw [reportUnit_regN, reportUnit_regN]
      exact mirrorRecord_raised ..
    · have hmem : _ = s.mem := honly .mem (by decide)
      simp only [reportUnit, hmem, List.append_assoc]
      rfl

/-- SAMPLE_TIMEOUT abandons a sample past its limit and waits before. -/
theorem sampleTimeouts {s : State} {m : McId} {k : MirrorSample} {c at_ : Nat} (hsample : s.mirror (McId.core m) = some k)
    (hdrain : k.drain = some (c, at_)) :
    (at_ + max (s.regN (mckPage m.cluster.val) 0x108) 1024 ≤ s.tick → ∃ r, exec (.sampleTimeout m) s = .next r ∧
      OnlyIn s r [.num, .regs, .counters, .logs] ∧ r.mirror (McId.core m) = none ∧ bitAt (r.regN (mckPage m.cluster.val) 0x018) 1 = true) ∧
    (s.tick < at_ + max (s.regN (mckPage m.cluster.val) 0x108) 1024 → exec (.sampleTimeout m) s = .next s) := by
  have htimeout : sampleTimeout s (McId.core m) = if at_ + max (s.regN (mckPage m.cluster.val) 0x108) 1024 ≤ s.tick
      then abandonMirror s (McId.core m) 6 else s := by
    simp only [sampleTimeout, hsample, hdrain]
    rfl
  constructor
  · intro hpast
    exact ⟨_, congrArg Host.Outcome.next (htimeout.trans (if_pos hpast)), abandonMirror_of_sample 6 hsample⟩
  · intro hearly
    exact congrArg Host.Outcome.next (htimeout.trans (if_neg (Nat.not_le.mpr hearly)))

/-! ### Loupe samples -/

section
variable {out : Nat → Nat × Bool}

/-- The worst disagreeing cell below `n`. -/
def worstBelow (out : Nat → Nat × Bool) (n : Nat) : Option (Nat × Nat) :=
  (List.range n).foldl (fun best m => worstCell best m (out m)) none

theorem worstBelow_succ (out : Nat → Nat × Bool) (n : Nat) : worstBelow out (n + 1) = worstCell (worstBelow out n) n (out n) := by
  simp [worstBelow, List.range_succ]

theorem worstBelow_of_agreeing {n : Nat} (h : ∀ j, j < n → (out j).2 = false) : worstBelow out n = none := by
  induction n with
  | zero => rfl
  | succ n ih => rw [worstBelow_succ, ih fun j hj => h j (Nat.lt_succ_of_lt hj), worstCell, h n (Nat.lt_succ_self n)]; rfl

/-- The cell kept is a disagreeing one. -/
theorem worstBelow_disagrees {n m d : Nat} (h : worstBelow out n = some (m, d)) : m < n ∧ (out m).2 = true ∧ d = (out m).1 := by
  induction n with
  | zero => cases h
  | succ n ih =>
    have hkeep : worstBelow out n = some (m, d) → m < n + 1 ∧ (out m).2 = true ∧ d = (out m).1 := fun h =>
      ⟨Nat.lt_succ_of_lt (ih h).1, (ih h).2⟩
    rw [worstBelow_succ] at h
    unfold worstCell at h
    cases hn : (out n).2 with
    | false => simp [hn] at h; exact hkeep h
    | true =>
      cases hb : worstBelow out n with
      | none => simp [hn, hb] at h; obtain ⟨rfl, rfl⟩ := h; exact ⟨Nat.lt_succ_self _, hn, rfl⟩
      | some b =>
        simp only [hn, hb, Bool.not_true, Bool.false_eq_true, if_false] at h
        split at h
        · obtain ⟨rfl, rfl⟩ := Prod.mk.inj (Option.some.inj h); exact ⟨Nat.lt_succ_self _, hn, rfl⟩
        · exact hkeep (hb.trans h)

/-- The cell that is worse than all before it and no better than any after it is the one kept. -/
theorem worstBelow_of_worst {n j : Nat} (hj : j < n) (hout : (out j).2 = true)
    (hworst : ∀ i, i < n → (out i).2 = true → (out i).1 < (out j).1 ∨ ((out i).1 = (out j).1 ∧ j ≤ i)) :
    worstBelow out n = some (j, (out j).1) := by
  induction n with
  | zero => omega
  | succ n ih =>
    rw [worstBelow_succ]
    unfold worstCell
    rcases Nat.lt_succ_iff_lt_or_eq.mp hj with hlt | rfl
    · have hn := hworst n (Nat.lt_succ_self n)
      rw [ih hlt fun i hi => hworst i (Nat.lt_succ_of_lt hi)]
      split
      · rfl
      · rename_i hdis
        have hle := hn (by simpa using hdis)
        exact if_neg (by omega)
    · rw [if_neg (by simp [hout])]
      cases hb : worstBelow out j with
      | none => rfl
      | some b =>
        obtain ⟨hlt, hdis, hd⟩ := worstBelow_disagrees (m := b.1) (d := b.2) hb
        have hle := hworst b.1 (Nat.lt_succ_of_lt hlt) hdis
        exact if_pos (by omega)

end

/-- The captures of a cluster once those up to a sample's are gone. -/
def capturesAfter (s : State) (id : CoreId) (l : LoupeSample) : List (Nat × Nat) :=
  ((SMap.getD s.num.capture [] id.cluster.val).reverse.takeWhile (fun e => !decide (e = (mcKey id, l.start)))).reverse

/-- The state in which the Loupe's verdict on its oldest sample is taken: the sample and its captures are gone. -/
def loupeTaken (s : State) (id : CoreId) (l : LoupeSample) (rest : List LoupeSample) : State :=
  { s.setLoupes id rest with num.capture := SMap.set s.num.capture id.cluster.val (capturesAfter s id l) }

theorem loupeTaken_loupes (s : State) (id : CoreId) (l : LoupeSample) (rest : List LoupeSample) : (loupeTaken s id l rest).loupes id = rest :=
  SMap.getD_set_self ..

theorem onlyIn_loupeTaken (s : State) (id : CoreId) (l : LoupeSample) (rest : List LoupeSample) : OnlyIn s (loupeTaken s id l rest) [.num] :=
  (OnlyIn.refl s).setLoupes.putNum.mono (by decide)

/-- The outcomes of a Loupe sample's cells. -/
def loupeOut (s : State) (id : CoreId) (l : LoupeSample) (raw : Nat) (acs : BitVec 10) (j : Nat) : Nat × Bool :=
  loupeCellOutcome l raw acs (field (s.regN (lckPage id.cluster.val) 0x100) 23 16) j

section
variable {s : State} {id : CoreId} {l : LoupeSample} {rest : List LoupeSample} {c raw : Nat} {acs : BitVec 10}
variable (hsample : s.loupes id = l :: rest) (hdrain : l.drain = some (c, raw, acs)) (hrows : 256 ≤ l.rows)
include hsample hdrain hrows

theorem loupeCompare_of_agreeing (hworst : worstBelow (loupeOut s id l raw acs) 16 = none) :
    loupeCompare s id = (loupeTaken s id l rest).bump (lckPage id.cluster.val) 1 := by
  simp only [loupeCompare, hsample, hdrain, Nat.not_lt.mpr hrows, if_false]
  split
  · rfl
  · rename_i m d h
    cases hworst.symm.trans h

theorem loupeCompare_of_worst {j d : Nat} (hworst : worstBelow (loupeOut s id l raw acs) 16 = some (j, d)) :
    ∃ v, loupeCompare s id = { mirrorRecord (loupeTaken s id l rest) (lckPage id.cluster.val) v l.key.tile with
      numIn := s.numIn ++ [⟨3, coreIdx id, l.ctx, l.layer, l.key.tile, j, d⟩] } := by
  simp only [loupeCompare, hsample, hdrain, Nat.not_lt.mpr hrows, if_false]
  split
  · rename_i h
    cases hworst.symm.trans h
  · rename_i m e h
    obtain ⟨rfl, rfl⟩ := Prod.mk.inj (Option.some.inj (hworst.symm.trans h))
    refine ⟨id.core.val * 2 ^ 29 + l.ctx.idx * 2 ^ 27 + j * 2 ^ 16 + l.layer % 2 ^ 16, ?_⟩
    have hnum (v : Nat) : (mirrorRecord (loupeTaken s id l rest) (lckPage id.cluster.val) v l.key.tile).numIn = s.numIn :=
      onlyIn_mirrorRecord _ _ _ _ .numIn (by decide)
    rw [← hnum]
    rfl

end

/-- LOUPE_COMPARE passes a sample whose cells agree; the worst disagreeing cell makes a trigger. -/
theorem loupeCompares {s : State} {m : McId} {l : LoupeSample} {rest : List LoupeSample} {c raw : Nat} {acs : BitVec 10}
    (hsample : s.loupes (McId.core m) = l :: rest) (hdrain : l.drain = some (c, raw, acs)) (hrows : 256 ≤ l.rows) :
    let p := lckPage m.cluster.val
    let out (j : Nat) : Nat × Bool := loupeCellOutcome l raw acs (field (s.regN p 0x100) 23 16) j
    ((∀ j, j < 16 → (out j).2 = false) → ∃ r, exec (.loupeCompare m) s = .next r ∧ OnlyIn s r [.num, .counters, .logs] ∧
      r.loupes (McId.core m) = rest) ∧
    (∀ j, j < 16 → (out j).2 = true → (∀ i, i < 16 → (out i).2 = true → (out i).1 < (out j).1 ∨ ((out i).1 = (out j).1 ∧ j ≤ i)) →
      ∃ r, exec (.loupeCompare m) s = .next r ∧ OnlyIn s r [.num, .numIn, .regs, .counters, .logs] ∧ r.loupes (McId.core m) = rest ∧
        bitAt (r.regN p 0x018) 0 = true ∧
        r.numIn = s.numIn ++ [⟨3, coreIdx (McId.core m), l.ctx, l.layer, l.key.tile, j, (out j).1⟩]) := by
  intro p out
  constructor
  · intro hagree
    refine ⟨_, congrArg Host.Outcome.next (loupeCompare_of_agreeing hsample hdrain hrows (worstBelow_of_agreeing hagree)),
      (onlyIn_loupeTaken _ _ _ _).bump.mono (by decide), ?_⟩
    rw [State.loupes, State.bump_num]
    exact loupeTaken_loupes ..
  · intro j hj hdis hworst
    obtain ⟨v, hcompare⟩ := loupeCompare_of_worst hsample hdrain hrows (worstBelow_of_worst (out := loupeOut s (McId.core m) l raw acs) hj hdis hworst)
    have honly := onlyIn_mirrorRecord (loupeTaken s (McId.core m) l rest) (lckPage (McId.core m).cluster.val) v l.key.tile
    have hnum : _ = (loupeTaken s (McId.core m) l rest).num := honly .num (by decide)
    refine ⟨_, congrArg Host.Outcome.next hcompare, ((onlyIn_loupeTaken _ _ _ _).trans honly).putNumIn.mono (by decide), ?_,
      mirrorRecord_raised .., rfl⟩
    simp only [State.loupes, hnum]
    exact loupeTaken_loupes ..

/-! ### Triggers -/

theorem repeatTo_request (st : Stream) (layer range : Nat) : (st.request layer range).repeatTo = some (st.repeatTo.getD (layer, range)) := by
  unfold Stream.request
  cases h : st.repeatTo with
  | none => rfl
  | some r => exact h

/-- The triggers that wait once one is taken. -/
def triggerTaken (s : State) (rest : List NumTrig) : State := { s with numIn := rest }

/-- A context whose streams are both asked to repeat a layer. -/
def Context.repeatAsked (k : Context) (layer range : Nat) : Context :=
  { k with exe := k.exe.request layer range, acc := k.acc.request layer range }

/-- NUMERICS_TRIGGER with no ring of records. -/
theorem numericsTrigger_of_quiet {s : State} {g : NumTrig} {rest : List NumTrig} (hin : s.numIn = g :: rest) {who : CoreId}
    (hwho : coreOfIdx g.core = who) (hring : bitAt (s.regN (lckPage who.cluster.val) 0x11C) 31 = false) : numericsTrigger s =
      if ((s.core who).ctx g.ctx).exe.passed.contains g.layer || ((s.core who).ctx g.ctx).acc.passed.contains g.layer
      then ((triggerTaken s rest).raise (lckPage who.cluster.val) 3).bump (lckPage who.cluster.val) 6
      else if bitAt (s.regN (lckPage who.cluster.val) 0x010) 1 then (triggerTaken s rest).modCore who (fun r => r.modCtx g.ctx
        (fun k => k.repeatAsked g.layer (repeatBase s who.cluster.val + ((s.core who).ctx g.ctx).repeats)))
      else triggerTaken s rest := by
  have hlog (kind : Nat) : numLog (triggerTaken s rest) who.cluster.val kind who.core.val g.ctx g.layer g.tile
      (((triggerTaken s rest).core who).ctx g.ctx).repeats g.at_ g.ulps = triggerTaken s rest :=
    numLog_of_off kind who.core.val g.ctx g.layer g.tile _ g.at_ g.ulps hring
  have htaken : ({ s with numIn := rest } : State) = triggerTaken s rest := rfl
  simp only [numericsTrigger, hin, hwho, htaken, hlog]
  rfl

/-- NUMERICS_TRIGGER asks both streams for a repeat, unless the layer has passed. -/
theorem numericsTriggers {s : State} {g : NumTrig} {rest : List NumTrig} (hin : s.numIn = g :: rest)
    (hring : bitAt (s.regN (lckPage (coreOfIdx g.core).cluster.val) 0x11C) 31 = false) :
    let who := coreOfIdx g.core
    let p := lckPage who.cluster.val
    let k := (s.core who).ctx g.ctx
    let want (st : Stream) : Option (Nat × Nat) := some (st.repeatTo.getD (g.layer, field (s.regN p 0x108) 5 0 + k.repeats))
    (k.exe.passed.contains g.layer = false → k.acc.passed.contains g.layer = false →
      (bitAt (s.regN p 0x010) 1 = true → ∃ r, exec .numericsTrigger s = .next r ∧ OnlyIn s r [.cores, .numIn] ∧ r.numIn = rest ∧
        ((r.core who).ctx g.ctx).exe.repeatTo = want k.exe ∧ ((r.core who).ctx g.ctx).acc.repeatTo = want k.acc) ∧
      (bitAt (s.regN p 0x010) 1 = false → ∃ r, exec .numericsTrigger s = .next r ∧ OnlyIn s r [.numIn] ∧ r.numIn = rest)) ∧
    (k.exe.passed.contains g.layer = true → ∃ r, exec .numericsTrigger s = .next r ∧ OnlyIn s r [.numIn, .regs, .counters, .logs] ∧
      r.numIn = rest ∧ bitAt (r.regN p 0x018) 3 = true) := by
  intro who p k want
  have htrigger := numericsTrigger_of_quiet hin rfl hring
  have hneither (hexe : k.exe.passed.contains g.layer = false) (hacc : k.acc.passed.contains g.layer = false) :
      (k.exe.passed.contains g.layer || k.acc.passed.contains g.layer) ≠ true := by rw [hexe, hacc]; decide
  refine ⟨fun hexe hacc => ⟨fun hon => ?_, fun hoff => ?_⟩, fun hexe => ?_⟩
  · refine ⟨_, congrArg Host.Outcome.next (htrigger.trans ((if_neg (hneither hexe hacc)).trans (if_pos hon))),
      (OnlyIn.refl s).putNumIn.modCore.mono (by decide), rfl, ?_, ?_⟩
    · rw [State.core_modCore_self, Core.ctx_modCtx_self]
      exact repeatTo_request ..
    · rw [State.core_modCore_self, Core.ctx_modCtx_self]
      exact repeatTo_request ..
  · exact ⟨_, congrArg Host.Outcome.next (htrigger.trans ((if_neg (hneither hexe hacc)).trans (if_neg (Bool.eq_false_iff.mp hoff)))),
      (OnlyIn.refl s).putNumIn, rfl⟩
  · refine ⟨_, congrArg Host.Outcome.next (htrigger.trans (if_pos (Bool.or_eq_true_iff.mpr (.inl hexe)))), (OnlyIn.refl s).putNumIn.raise.bump.mono (by decide), State.bump_numIn .., ?_⟩
    rw [State.regN_bump, State.bitAt_raise_self _ _ (by decide)]

/-- MIRROR_RANK_UPDATE, MIRROR_COMPARE, SAMPLE_TIMEOUT, LOUPE_COMPARE and NUMERICS_TRIGGER: NumericsChecks. -/
theorem numericsChecks : Claims.NumericsChecks := by
  intro s m t
  refine ⟨fun k e rest upset hsample hqueue => mirrorUpdates t upset hsample hqueue, fun k hsample =>
    ⟨fun hdrain hqueue hsigs hruns => mirrorCompares hsample hdrain hqueue hsigs hruns, fun c at_ hdrain => sampleTimeouts hsample hdrain⟩,
    fun l rest c raw acs hsample hdrain hrows => loupeCompares hsample hdrain hrows, fun g rest hin => numericsTriggers hin⟩

end Sys2Proof.Machine
end

section
/-! SUPPORT. The unit history ledger (R316-R319). -/

namespace Sys2Proof.Machine

/-! ### What follows from a unit becoming PERMANENT -/

/-- Retiring no unit leaves the state as it is. -/
theorem retireUnits_of_none {s : State} {mine : LedgerRec → Bool} (h : ∀ r, mine r = false) : retireUnits s mine = s := by
  unfold retireUnits
  exact foldl_keep (g := fun t => t) _ (fun t e => if_neg (by simp [h])) _ _

theorem laneReplaced_of_whole {s : State} (h : bitAt (s.regN (portPage 17) 0x014) 24 = false) (r : LedgerRec) : s.laneReplaced r = false := by
  have h' : bitAt (s.regN ⟨.port, 17⟩ 0x014) 24 = false := h
  simp [State.laneReplaced, h']

/-- Units retire in the ledger alone. -/
theorem onlyIn_retireUnits (s : State) (mine : LedgerRec → Bool) : OnlyIn s (retireUnits s mine) [.ledger] :=
  OnlyIn.foldl (fun t _ => (OnlyIn.ite (OnlyIn.refl t).putLedger (OnlyIn.refl t)).mono (by decide)) s _

theorem unitPermanent_of_lane {s : State} {unit : Nat} (index : Nat) (h : unit / 2 ^ 28 = 5) :
    unitPermanent s unit index = retireUnits s s.laneReplaced := if_pos h

/-- A unit that is no lane leaves the ledger to itself. -/
theorem onlyIn_unitPermanent_of_not_lane (s : State) {unit : Nat} (index : Nat) (h : unit / 2 ^ 28 ≠ 5) :
    OnlyIn s (unitPermanent s unit index) [.regs, .power, .retireDue] := by
  have h0 := OnlyIn.refl s
  unfold unitPermanent
  dsimp only
  rw [if_neg h]
  refine (OnlyIn.ite (qs := [.power, .retireDue, .power, .regs]) h0.putPower ?_).mono (by decide)
  refine .ite (.ite h0.putPower h0.putRetireDue) (.ite (ps := [.power, .regs]) ?_ h0)
  split
  · exact h0.mono (by decide)
  · exact (OnlyIn.ite h0 (OnlyIn.ite h0.putPower h0.putPower.setField.setField).raise).mono (by decide)

theorem onlyIn_unitPermanent (s : State) (unit index : Nat) :
    OnlyIn s (unitPermanent s unit index) [.ledger, .regs, .power, .retireDue] := by
  by_cases h : unit / 2 ^ 28 = 5
  · rw [unitPermanent_of_lane index h]
    exact (onlyIn_retireUnits s _).mono (by decide)
  · exact (onlyIn_unitPermanent_of_not_lane s index h).mono (by decide)

/-- Only a lane of the port that P16 has replaced is RETIRED. -/
theorem unitPermanent_ledger {s : State} {unit : Nat} (index : Nat)
    (h : ¬ (unit / 2 ^ 28 = 5 ∧ bitAt (s.regN (portPage 17) 0x014) 24 = true)) : (unitPermanent s unit index).ledger = s.ledger := by
  by_cases hlane : unit / 2 ^ 28 = 5
  · rw [unitPermanent_of_lane index hlane, retireUnits_of_none (laneReplaced_of_whole (Bool.eq_false_iff.mpr fun hb => h ⟨hlane, hb⟩))]
  · exact onlyIn_unitPermanent_of_not_lane s index hlane .ledger (by decide)

/-! ### An event in the ledger engine -/

/-- The state with the record `r` at index `i`. -/
def withRecord (s : State) (i : Nat) (r : LedgerRec) : State := { s with ledger := s.ledger.put i s.tick r }

/-- The record of a unit that has just become PERMANENT. -/
def becamePermanent (s : State) (kind i : Nat) : State := (s.record ldgPage 0x12C (kind % 256 * 2 ^ 17 + i)).raise ldgPage 0

/-- An event counts in the record `old` of its unit, at index `i`. -/
def countEvent (s : State) (i : Nat) (old r : LedgerRec) (unit kind : Nat) : State :=
  if r.cls = 3 ∧ old.cls ≠ 3 then unitPermanent (becamePermanent (withRecord s i r) kind i) unit i else withRecord s i r

theorem onlyIn_countEvent (s : State) (i : Nat) (old r : LedgerRec) (unit kind : Nat) :
    OnlyIn s (countEvent s i old r unit kind) [.ledger, .regs, .power, .retireDue] :=
  (OnlyIn.ite ((OnlyIn.refl s).putLedger.record.raise.trans (onlyIn_unitPermanent _ unit i)) (OnlyIn.refl s).putLedger).mono (by decide)

theorem becamePermanent_port (s : State) (kind i : Nat) :
    (becamePermanent s kind i).regN (portPage 17) 0x014 = s.regN (portPage 17) 0x014 := by
  rw [becamePermanent, State.regN, State.reg_raise_ne _ _ (by decide), State.reg_record_ne _ _ (by decide), ← State.regN]

theorem becamePermanent_ledger (s : State) (kind i : Nat) : (becamePermanent s kind i).ledger = s.ledger := by simp [becamePermanent]

/-- Beside a replaced lane, the event changes its own record alone. -/
theorem countEvent_ledger {s : State} {i : Nat} {old r : LedgerRec} {unit : Nat} (kind : Nat)
    (h : ¬ (unit / 2 ^ 28 = 5 ∧ bitAt (s.regN (portPage 17) 0x014) 24 = true)) :
    (countEvent s i old r unit kind).ledger = s.ledger.put i s.tick r := by
  unfold countEvent
  split
  · rw [unitPermanent_ledger i (by rwa [becamePermanent_port]), becamePermanent_ledger]
    rfl
  · rfl

/-- The record of a unit after an event. -/
def recordAfter (s : State) (old : LedgerRec) (isNew : Bool) (kind locus : Nat) : LedgerRec :=
  old.after isNew (ledgerWindow s) (permCount s) s.poweredSeconds kind locus

/-- An event of a known unit. -/
theorem ledgerTake_of_known {s : State} {unit i : Nat} {r : LedgerRec} (kind locus : Nat)
    (hfind : s.ledger.recs.find? (fun e => e.2.unit == unit) = some (i, r)) (hget : SMap.get s.ledger.recs i = some r) :
    ledgerTake s unit kind locus = countEvent (s.bump ldgPage 0) i r (recordAfter s r false kind locus) unit kind := by
  have hindex : ledgerIndex (s.bump ldgPage 0).ledger unit = some i := by rw [State.bump_ledger, ledgerIndex, hfind]; rfl
  have hold (d : LedgerRec) : SMap.getD (s.bump ldgPage 0).ledger.recs d i = r := by rw [State.bump_ledger, SMap.getD, hget]; rfl
  have hperm : permCount (s.bump ldgPage 0) = permCount s := by rw [permCount, State.regN_bump]; rfl
  simp only [ledgerTake, hindex, hold, hperm]
  rfl

/-- An event of a new unit. -/
theorem ledgerTake_of_new {s : State} {unit : Nat} (kind locus : Nat)
    (hfind : s.ledger.recs.find? (fun e => e.2.unit == unit) = none) (hroom : s.ledger.recs.length < 131072) :
    ledgerTake s unit kind locus = countEvent (s.bump ldgPage 0) s.ledger.recs.length ⟨unit, 0, 0, 0, [], 0⟩
      (recordAfter s ⟨unit, 0, 0, 0, [], 0⟩ true kind locus) unit kind := by
  have hindex : ledgerIndex (s.bump ldgPage 0).ledger unit = none := by rw [State.bump_ledger, ledgerIndex, hfind]; rfl
  have hplace (w t : Nat) : ledgerPlace (s.bump ldgPage 0).ledger w t = some s.ledger.recs.length := by
    rw [State.bump_ledger, ledgerPlace, if_pos hroom]
  have hperm : permCount (s.bump ldgPage 0) = permCount s := by rw [permCount, State.regN_bump]; rfl
  simp only [ledgerTake, hindex, hplace, hperm]
  rfl

theorem onlyIn_ledgerTake (s : State) (unit kind locus : Nat) :
    OnlyIn s (ledgerTake s unit kind locus) [.ledger, .regs, .counters, .logs, .power, .retireDue] := by
  have hcount (i : Nat) (old r : LedgerRec) : OnlyIn s (countEvent (s.bump ldgPage 0) i old r unit kind)
      [.ledger, .regs, .counters, .logs, .power, .retireDue] :=
    ((OnlyIn.refl s).bump.trans (onlyIn_countEvent _ i old r unit kind)).mono (by decide)
  unfold ledgerTake
  dsimp only
  split
  · exact hcount _ _ _
  · split
    · exact hcount _ ⟨unit, 0, 0, 0, [], 0⟩ _
    · exact (OnlyIn.refl s).bump.raise.bump.mono (by decide)

/-- What an event leaves in the ledger: LedgerRecords. -/
theorem ledgerTake_recorded (s : State) (unit kind locus : Nat) :
    let perm := min (max (field (s.regN ldgPage 0x100) 2 0) 1) 4
    let window := field (s.regN ldgPage 0x100) 23 8 * 3600
    let now := s.poweredSeconds
    let fatal (kind : Nat) : Bool := kind == 4 || kind == 6 || kind == 8
    let counted (kind : Nat) : Bool := kind == 1 || kind == 3 || kind == 5 || kind == 7
    let t := ledgerTake s unit kind locus
    let lane := unit / 2 ^ 28 = 5 ∧ bitAt (s.regN (portPage 17) 0x014) 24 = true
    ¬ lane → (∀ i r, s.ledger.recs.find? (fun e => e.2.unit == unit) = some (i, r) → SMap.get s.ledger.recs i = some r → ∃ r' : LedgerRec,
      SMap.get t.ledger.recs i = some r' ∧ r'.unit = r.unit ∧ r'.lastKind = kind ∧ r'.events = min (r.events + 1) (2 ^ 32 - 1) ∧
        r'.locus = locus ∧ r'.times = (if counted kind then (now :: r.times).take 4 else r.times) ∧
        r'.cls = (if 3 ≤ r.cls then r.cls else if fatal kind then 3
          else if counted kind then (if perm ≤ (r'.times.filter (fun u => decide (now ≤ u + window))).length then 3 else 2)
          else if r.cls = 1 then 2 else r.cls) ∧
        t.ledger.dirty.contains i = true ∧ ∀ j, j ≠ i → SMap.get t.ledger.recs j = SMap.get s.ledger.recs j) ∧
    (s.ledger.recs.find? (fun e => e.2.unit == unit) = none → s.ledger.recs.length < 131072 → ∃ r' : LedgerRec,
      SMap.get t.ledger.recs s.ledger.recs.length = some r' ∧ r'.unit = unit ∧ r'.lastKind = kind ∧ r'.events = 1 ∧
        r'.locus = locus ∧ r'.times = (if counted kind then [now] else []) ∧ r'.cls = (if fatal kind then 3 else 1)) := by
  intro perm window now fatal counted t lane hlane
  have hlane' : ¬ (unit / 2 ^ 28 = 5 ∧ bitAt ((s.bump ldgPage 0).regN (portPage 17) 0x014) 24 = true) := by rwa [State.regN_bump]
  constructor
  · intro i r hfind hget
    have ht : t.ledger = s.ledger.put i s.tick (recordAfter s r false kind locus) := by
      rw [show t = _ from ledgerTake_of_known kind locus hfind hget, countEvent_ledger kind hlane', State.bump_ledger, State.bump_tick]
    refine ⟨recordAfter s r false kind locus, ?_, rfl, rfl, rfl, rfl, rfl, rfl, ?_, fun j hj => ?_⟩
    · rw [ht]; exact SMap.get_set_self ..
    · rw [ht]; simp [Ledger.put]
    · rw [ht]; exact SMap.get_set_ne _ _ hj
  · intro hfind hroom
    have ht : t.ledger = s.ledger.put s.ledger.recs.length s.tick (recordAfter s ⟨unit, 0, 0, 0, [], 0⟩ true kind locus) := by
      rw [show t = _ from ledgerTake_of_new kind locus hfind hroom, countEvent_ledger kind hlane', State.bump_ledger, State.bump_tick]
    refine ⟨recordAfter s ⟨unit, 0, 0, 0, [], 0⟩ true kind locus, ?_, rfl, rfl, rfl, rfl, rfl, rfl⟩
    rw [ht]
    exact SMap.get_set_self ..

/-- A lane of the port that P16 has replaced is RETIRED by the event that makes it PERMANENT. -/
theorem ledgerTake_of_replaced_lane {s : State} {unit : Nat} (locus : Nat) (hunit : unit / 2 ^ 28 = 5)
    (hlane : bitAt (s.regN (portPage 17) 0x014) 24 = true) (hport : field unit 27 20 = field (s.regN (portPage 17) 0x014) 23 20)
    (hempty : s.ledger.recs = []) :
    ∃ r : LedgerRec, SMap.get (ledgerTake s unit 6 locus).ledger.recs 0 = some r ∧ r.unit = unit ∧ r.cls = 4 := by
  have htake := ledgerTake_of_new (s := s) (unit := unit) 6 locus (by rw [hempty]; rfl) (by rw [hempty]; decide)
  rw [hempty] at htake
  obtain ⟨r, hr⟩ : ∃ r, r = recordAfter s ⟨unit, 0, 0, 0, [], 0⟩ true 6 locus := ⟨_, rfl⟩
  have hclass : r.cls = 3 := by rw [hr]; rfl
  have hof : r.unit = unit := by rw [hr]; rfl
  rw [htake, ← hr, countEvent, if_pos ⟨hclass, show (0 : Nat) ≠ 3 by decide⟩, unitPermanent_of_lane _ hunit]
  obtain ⟨t, ht⟩ : ∃ t, t = becamePermanent (withRecord (s.bump ldgPage 0) ([] : SMap LedgerRec).length r) 6 ([] : SMap LedgerRec).length := ⟨_, rfl⟩
  have hport' : t.regN (portPage 17) 0x014 = s.regN (portPage 17) 0x014 := by rw [ht, becamePermanent_port, withRecord]; exact State.regN_bump ..
  have hrecs : t.ledger.recs = [(0, r)] := by
    rw [ht, becamePermanent_ledger]
    simp [withRecord, Ledger.put, hempty, SMap.set]
  have hmine : t.laneReplaced r = true := by
    have hport'' : t.regN ⟨.port, 17⟩ 0x014 = s.regN (portPage 17) 0x014 := hport'
    simp only [State.laneReplaced, hport'', hlane, hunit, hclass, hof, hport, decide_true, and_self, Bool.and_self]
  refine ⟨{ r with cls := 4 }, ?_, hof, rfl⟩
  rw [← ht, retireUnits, hrecs, List.foldl_cons, List.foldl_nil, if_pos hmine]
  exact SMap.get_set_self ..

/-! ### Flash -/

theorem flushLedger_kept (s : State) : let t := flushLedger s
    t.ledger.flash = s.ledger.recs ∧ t.ledger.dirty = [] ∧ t.ledger.recs = s.ledger.recs := by simp [flushLedger]

theorem onlyIn_flushLedger (s : State) : OnlyIn s (flushLedger s) [.ledger, .counters, .logs] := (OnlyIn.refl s).putLedger.bumpBy.mono (by decide)

theorem ledgerFlashWrite_of_clean {s : State} (ok : Bool) (h : s.ledger.dirty = []) : ledgerFlashWrite s ok = s := by simp [ledgerFlashWrite, h]

theorem ledgerFlashWrite_of_dirty {s : State} (ok : Bool) (h : s.ledger.dirty ≠ []) :
    ledgerFlashWrite s ok = if ok then flushLedger s else s.raise ldgPage 2 := by simp [ledgerFlashWrite, h]

/-- A write of a page's CTRL register is the block's own where the block has one. -/
theorem pageWrite_ctrl (s : State) (p : Page) (who : Requester) (v t : Nat) (hspec : (p.block.spec 0x010).isNone = false)
    (hdebug : isDebug p 0x010 = false) : pageWrite s p who 0x010 v t = blockWrite s p who 0x010 v t := by
  simp [pageWrite, hdebug, hspec]

theorem writeReg_flush {s s1 : State} {who : Requester} {v : Word} (h : WriteReaches s s1 ldgPage 0x010 who v.toNat) :
    writeReg s ldgPage 0x010 who v = if bitAt v.toNat 0 then flushLedger (seenBy s who) else seenBy s who := by
  rw [writeReg_of_reaches h (by decide) (by decide), pageWrite_ctrl _ _ _ _ _ rfl rfl]
  rfl

theorem writeReg_qidx {s s1 : State} {who : Requester} {v : Word} (h : WriteReaches s s1 ldgPage 0x108 who v.toNat) :
    writeReg s ldgPage 0x108 who v = qidxWrite (seenBy s who) v.toNat := by
  rw [writeReg_of_reaches h (by decide) (by decide), pageWrite_block _ _ _ _ _ (by decide) rfl]
  rfl

/-! ### The record that QIDX shows -/

/-- The bytes shown for an index. -/
def shownBytes (s : State) (i : Nat) : Nat := ((SMap.get s.ledger.recs i).map LedgerRec.bytes).getD 0

/-- Word `w` of a number is written to its register. -/
def showWord (b : Nat) (s : State) (w : Nat) : State := s.setRegN ldgPage (0x10C + 4 * w) (b / 2 ^ (32 * w) % 2 ^ 32)

theorem qidxWrite_eq (s : State) (v : Nat) : qidxWrite s v =
    (List.range 8).foldl (showWord (shownBytes s (v % 2 ^ 17))) (s.setRegN ldgPage 0x108 (v % 2 ^ 17)) := by
  unfold qidxWrite shownBytes
  dsimp only
  split
  · rename_i r h
    rw [h]
    rfl
  · rename_i h
    rw [h]
    rfl

theorem regN_showWords_ne (b off : Nat) {l : List Nat} (h : ∀ w ∈ l, off ≠ 0x10C + 4 * w) (s : State) :
    (l.foldl (showWord b) s).regN ldgPage off = s.regN ldgPage off := by
  induction l generalizing s with
  | nil => rfl
  | cons w l ih =>
    rw [List.foldl_cons, ih fun x hx => h x (List.mem_cons_of_mem _ hx), showWord,
      State.regN_setRegN_ne _ _ (Page.key_ne _ (h w List.mem_cons_self))]

theorem regN_showWords (b : Nat) {w n : Nat} (hw : w < n) (s : State) :
    ((List.range n).foldl (showWord b) s).regN ldgPage (0x10C + 4 * w) = b / 2 ^ (32 * w) % 2 ^ 32 := by
  induction n with
  | zero => omega
  | succ n ih =>
    rw [List.range_succ, List.foldl_append, List.foldl_cons, List.foldl_nil]
    rcases Nat.lt_succ_iff_lt_or_eq.mp hw with hlt | rfl
    · rw [showWord, State.regN_setRegN_ne _ _ (Page.key_ne _ (by omega)), ih hlt]
    · rw [showWord, State.regN_setRegN_self, Nat.mod_mod]

theorem onlyIn_qidxWrite (s : State) (v : Nat) : OnlyIn s (qidxWrite s v) [.regs] := by
  rw [qidxWrite_eq]
  exact ((OnlyIn.refl s).setRegN.trans (OnlyIn.foldl (fun t _ => (OnlyIn.refl t).setRegN) _ _)).mono (by decide)

theorem qidxWrite_index (s : State) (v : Nat) : (qidxWrite s v).regN ldgPage 0x108 = v % 2 ^ 17 := by
  rw [qidxWrite_eq, regN_showWords_ne _ _ (fun w _ => by omega), State.regN_setRegN_self]
  omega

theorem qidxWrite_word (s : State) (v : Nat) {w : Nat} (hw : w < 8) :
    (qidxWrite s v).regN ldgPage (0x10C + 4 * w) = shownBytes s (v % 2 ^ 17) / 2 ^ (32 * w) % 2 ^ 32 := by
  rw [qidxWrite_eq, regN_showWords _ hw]

/-- The words of a record's 32 bytes. -/
theorem words_of_bytes {r : LedgerRec} (hunit : r.unit < 2 ^ 32) (hcls : r.cls < 2 ^ 8) (hkind : r.lastKind < 2 ^ 8)
    (hevents : r.events < 2 ^ 32) (hlocus : r.locus < 2 ^ 32) :
    r.bytes / 2 ^ (32 * 0) % 2 ^ 32 = r.unit ∧ r.bytes / 2 ^ (32 * 1) % 2 ^ 32 = r.cls + 2 ^ 8 * r.lastKind ∧
    r.bytes / 2 ^ (32 * 2) % 2 ^ 32 = r.events ∧ (∀ i, i < 4 → r.bytes / 2 ^ (32 * (3 + i)) % 2 ^ 32 = r.times.getD i 0 % 2 ^ 32) ∧
    r.bytes / 2 ^ (32 * 7) % 2 ^ 32 = r.locus := by
  simp only [LedgerRec.bytes, List.range, List.range.loop, List.foldl_cons, List.foldl_nil]
  refine ⟨by omega, by omega, by omega, fun i hi => ?_, by omega⟩
  obtain rfl | rfl | rfl | rfl : i = 0 ∨ i = 1 ∨ i = 2 ∨ i = 3 := by omega
  all_goals omega

/-- QIDX shows a record's 32 bytes, or zeros. -/
theorem qidxWrite_shows (s : State) (v : Nat) : let t := qidxWrite s v
    t.regN ldgPage 0x108 = v % 2 ^ 17 ∧
      (SMap.get s.ledger.recs (v % 2 ^ 17) = none → ∀ w, w < 8 → t.regN ldgPage (0x10C + 4 * w) = 0) ∧
      (∀ r, SMap.get s.ledger.recs (v % 2 ^ 17) = some r → r.unit < 2 ^ 32 → r.cls < 2 ^ 8 → r.lastKind < 2 ^ 8 →
        r.events < 2 ^ 32 → r.locus < 2 ^ 32 → t.regN ldgPage 0x10C = r.unit ∧
          t.regN ldgPage 0x110 = r.cls + 2 ^ 8 * r.lastKind ∧ t.regN ldgPage 0x114 = r.events ∧
          (∀ i, i < 4 → t.regN ldgPage (0x118 + 4 * i) = r.times.getD i 0 % 2 ^ 32) ∧ t.regN ldgPage 0x128 = r.locus) := by
  refine ⟨qidxWrite_index s v, fun hnone w hw => ?_, fun r hr hunit hcls hkind hevents hlocus => ?_⟩
  · rw [qidxWrite_word s v hw, shownBytes, hnone]
    simp
  · have hbytes : shownBytes s (v % 2 ^ 17) = r.bytes := by rw [shownBytes, hr]; rfl
    obtain ⟨h0, h1, h2, htimes, h7⟩ := words_of_bytes hunit hcls hkind hevents hlocus
    have hword {w : Nat} (hw : w < 8) {x : Nat} (h : r.bytes / 2 ^ (32 * w) % 2 ^ 32 = x) :
        (qidxWrite s v).regN ldgPage (0x10C + 4 * w) = x := by rw [qidxWrite_word s v hw, hbytes, h]
    refine ⟨hword (w := 0) (by decide) h0, hword (w := 1) (by decide) h1, hword (w := 2) (by decide) h2, fun i hi => ?_,
      hword (w := 7) (by decide) h7⟩
    rw [show 0x118 + 4 * i = 0x10C + 4 * (3 + i) by omega]
    exact hword (w := 3 + i) (by omega) (htimes i hi)

/-- LEDGER_EVENT, LEDGER_FLASH_WRITE, FLUSH and LDG_QIDX_WRITE: LedgerRecords. -/
theorem ledgerRecords : Claims.LedgerRecords := by
  intro s s1 who v
  refine ⟨fun e rest hin => ⟨ledgerTake { s with mem.ledgerIn := rest } (e.unit % 2 ^ 32) e.kind (e.locus % 2 ^ 32), ?_, ?_, ?_, ?_⟩,
    fun unit kind locus hkind => ⟨ledgerTake s (unit % 2 ^ 32) kind (locus % 2 ^ 32), ?_, ?_, ledgerTake_recorded s _ kind _⟩,
    fun unit locus hlt hunit hlane hport hempty => ?_,
    ⟨fun hdirty => ⟨⟨_, ?_, onlyIn_flushLedger s, flushLedger_kept s⟩, ⟨_, ?_, (OnlyIn.refl s).raise.mono (by decide), State.bitAt_raise_self s _ (by decide)⟩⟩,
      fun ok hclean => congrArg Host.Outcome.next (ledgerFlashWrite_of_clean ok hclean),
      fun h => ⟨fun hset => ⟨_, congrArg Host.Outcome.next ((writeReg_flush h).trans (if_pos hset)), ?_, ?_⟩,
        fun hclear => ⟨_, congrArg Host.Outcome.next ((writeReg_flush h).trans (if_neg (Bool.eq_false_iff.mp hclear))), (OnlyIn.refl s).seenBy.mono (by decide)⟩⟩⟩,
    fun h => ⟨_, congrArg Host.Outcome.next (writeReg_qidx h), ?_, ?_⟩⟩
  · exact congrArg Host.Outcome.next (by simp only [ledgerEvent, hin])
  · exact onlyIn_ledgerTake { s with mem.ledgerIn := rest } _ _ _ .mem (by decide)
  · exact ((OnlyIn.refl s).putMem.trans (onlyIn_ledgerTake { s with mem.ledgerIn := rest } _ _ _)).mono (by decide)
  · exact ledgerTake_recorded { s with mem.ledgerIn := rest } _ _ _
  · exact congrArg Host.Outcome.next (if_pos hkind)
  · exact onlyIn_ledgerTake s _ _ _
  · obtain ⟨r, hget, hof, hcls⟩ := ledgerTake_of_replaced_lane (s := s) (unit := unit) (locus % 2 ^ 32) hunit hlane hport hempty
    refine ⟨_, r, ?_, hget, hof, hcls⟩
    have hmod : unit % 2 ^ 32 = unit := Nat.mod_eq_of_lt hlt
    exact congrArg Host.Outcome.next (by simp only [ledgerEvent, hmod]; rfl)
  · exact congrArg Host.Outcome.next (ledgerFlashWrite_of_dirty true hdirty)
  · exact congrArg Host.Outcome.next (ledgerFlashWrite_of_dirty false hdirty)
  · exact ((OnlyIn.refl s).seenBy.trans (onlyIn_flushLedger (seenBy s who))).mono (by decide)
  · simpa only [seenBy_ledger] using flushLedger_kept (seenBy s who)
  · exact ((OnlyIn.refl s).seenBy.trans (onlyIn_qidxWrite (seenBy s who) v.toNat)).mono (by decide)
  · simpa only [seenBy_ledger] using qidxWrite_shows (seenBy s who) v.toNat

/-- Settles O43: the checks of the Mirror and the Loupe with their triggers, and the ledger of unit histories. -/
theorem numericsAndLedger : Obligations.NumericsAndLedger := ⟨numericsChecks, ledgerRecords⟩

end Sys2Proof.Machine
end

section
/-! SUPPORT. Fields of registers, and pages that lie apart. -/

namespace Sys2Proof.Machine

/-! ### A field that is put -/

/-- What lies above, in and below a field that is put. -/
theorem putField_eq (n lo v : Nat) {w : Nat} (hw : 0 < w) :
    putField n lo w v = 2 ^ (lo + w) * (n / 2 ^ (lo + w)) + (2 ^ lo * (v % 2 ^ w) + n % 2 ^ lo) := by
  have hfield : field n (lo + w - 1) lo = n / 2 ^ lo % 2 ^ w := by
    rw [field, show lo + w - 1 + 1 - lo = w by omega]
  have hsplit : n / 2 ^ lo = 2 ^ w * (n / 2 ^ (lo + w)) + n / 2 ^ lo % 2 ^ w := by
    rw [Nat.pow_add, ← Nat.div_div_eq_div_mul, Nat.div_add_mod]
  have hn : n = 2 ^ lo * (2 ^ w * (n / 2 ^ (lo + w)) + n / 2 ^ lo % 2 ^ w) + n % 2 ^ lo := by
    rw [← hsplit, Nat.div_add_mod]
  have hmul : 2 ^ (lo + w) * (n / 2 ^ (lo + w)) = 2 ^ lo * (2 ^ w * (n / 2 ^ (lo + w))) := by rw [Nat.pow_add, Nat.mul_assoc]
  rw [Nat.mul_add] at hn
  rw [putField, hfield, hmul, Nat.mul_comm (n / 2 ^ lo % 2 ^ w), Nat.mul_comm (v % 2 ^ w)]
  omega

theorem testBit_putField (n lo v : Nat) {w : Nat} (hw : 0 < w) (j : Nat) :
    (putField n lo w v).testBit j = if lo ≤ j ∧ j < lo + w then v.testBit (j - lo) else n.testBit j := by
  have hlow : n % 2 ^ lo < 2 ^ lo := Nat.mod_lt _ (Nat.two_pow_pos _)
  have hv : v % 2 ^ w < 2 ^ w := Nat.mod_lt _ (Nat.two_pow_pos _)
  have hboth : 2 ^ lo * (v % 2 ^ w) + n % 2 ^ lo < 2 ^ (lo + w) := by
    rw [Nat.pow_add]
    have := Nat.mul_le_mul_left (2 ^ lo) (Nat.succ_le_of_lt hv)
    rw [Nat.mul_succ] at this
    omega
  rw [putField_eq n lo v hw, Nat.testBit_two_pow_mul_add _ hboth, Nat.testBit_two_pow_mul_add _ hlow]
  by_cases h1 : j < lo
  · rw [if_pos (by omega), if_pos h1, if_neg (by omega), Nat.testBit_mod_two_pow]
    simp [h1]
  · by_cases h2 : j < lo + w
    · rw [if_pos h2, if_neg h1, if_pos ⟨by omega, h2⟩, Nat.testBit_mod_two_pow]
      simp [show j - lo < w by omega]
    · rw [if_neg h2, if_neg (fun h => h2 h.2), Nat.testBit_div_two_pow]
      congr 1
      omega

theorem bitAt_putField (n lo v : Nat) {w : Nat} (hw : 0 < w) (j : Nat) :
    bitAt (putField n lo w v) j = if lo ≤ j ∧ j < lo + w then bitAt v (j - lo) else bitAt n j := by
  simp only [bitAt_eq_testBit]
  exact testBit_putField n lo v hw j

theorem putField_lt {n lo w v k : Nat} (hw : 0 < w) (hn : n < 2 ^ k) (h : lo + w ≤ k) : putField n lo w v < 2 ^ k := by
  apply Nat.lt_pow_two_of_testBit
  intro j hj
  rw [testBit_putField n lo v hw, if_neg (by omega)]
  exact Nat.testBit_lt_two_pow (hn.trans_le (Nat.pow_le_pow_right (by decide) hj))

theorem testBit_field (v hi lo j : Nat) : (field v hi lo).testBit j = (decide (j < hi + 1 - lo) && v.testBit (j + lo)) := by
  rw [field, Nat.testBit_mod_two_pow, Nat.testBit_div_two_pow]

/-- A field beside the one that is put. -/
theorem field_putField_ne (n v : Nat) {lo w hi l : Nat} (hw : 0 < w) (h : hi < lo ∨ lo + w ≤ l) :
    field (putField n lo w v) hi l = field n hi l := by
  refine Nat.eq_of_testBit_eq fun j => ?_
  rw [testBit_field, testBit_field, testBit_putField n lo v hw]
  by_cases hj : j < hi + 1 - l
  · rw [if_neg (by omega)]
  · simp [hj]

/-- The field that is put. -/
theorem field_putField_self (n v : Nat) {lo w hi : Nat} (hw : 0 < w) (hhi : hi + 1 = lo + w) : field (putField n lo w v) hi lo = v % 2 ^ w := by
  refine Nat.eq_of_testBit_eq fun j => ?_
  rw [testBit_field, testBit_putField n lo v hw, Nat.testBit_mod_two_pow, show hi + 1 - lo = w by omega]
  by_cases hj : j < w
  · rw [if_pos (by omega), Nat.add_sub_cancel]
  · simp [hj]

/-- The register after a field of it is put. -/
theorem State.regN_setField_self (s : State) (p : Page) (off lo v : Nat) {w : Nat} (hw : 0 < w) (h : lo + w ≤ 32) :
    (s.setField p off lo w v).regN p off = putField (s.regN p off) lo w v := by
  rw [State.setField, State.regN_setRegN_self, Nat.mod_eq_of_lt (putField_lt hw (s.regN_lt p off) h)]

theorem State.regN_setField_ne (s : State) {p q : Page} {a b : Nat} (lo w v : Nat) (h : q.key b ≠ p.key a) :
    (s.setField p a lo w v).regN q b = s.regN q b := State.regN_setRegN_ne _ _ h

theorem State.bitAt_setField (s : State) (p : Page) (off lo v : Nat) {w : Nat} (hw : 0 < w) (h : lo + w ≤ 32) (j : Nat) :
    bitAt ((s.setField p off lo w v).regN p off) j = if lo ≤ j ∧ j < lo + w then bitAt v (j - lo) else bitAt (s.regN p off) j := by
  rw [State.regN_setField_self s p off lo v hw h, bitAt_putField _ _ _ hw]

theorem State.regN_raise_ne (s : State) {p q : Page} (bit : Nat) {off : Nat} (h : q.key off ≠ p.key 0x018) :
    (s.raise p bit).regN q off = s.regN q off := congrArg BitVec.toNat (s.reg_raise_ne bit h)

theorem State.regN_record_ne (s : State) {p q : Page} {a b : Nat} (v : Nat) (h : q.key b ≠ p.key a) :
    (s.record p a v).regN q b = s.regN q b := congrArg BitVec.toNat (s.reg_record_ne v h)

@[simp] theorem State.regN_bumpBy (s : State) (p q : Page) (sel n off : Nat) : (s.bumpBy p sel n).regN q off = s.regN q off :=
  State.regN_congr (s.bumpBy_regs p sel n) q off

/-! ### Pages that lie apart -/

/-- Registers of pages at different bases differ. -/
theorem Page.key_ne_of_base {p q : Page} {a b : Nat} (h : p.base ≠ q.base) (ha : a < 0x1000) (hb : b < 0x1000) : p.key a ≠ q.key b := by
  have hp := p.base_mod
  have hq := q.base_mod
  unfold Page.key
  omega

end Sys2Proof.Machine
end

section
/-! SUPPORT. Frames at a port (R22, R340-R343). -/

namespace Sys2Proof.Machine

/-! ### A frame that leaves -/

theorem State.port_of_net {s t : State} (h : t.net = s.net) (i : Nat) : t.port i = s.port i := by
  unfold State.port
  rw [h]

@[simp] theorem State.port_bump (s : State) (p : Page) (sel i : Nat) : (s.bump p sel).port i = s.port i := State.port_of_net (s.bump_net p sel) i

theorem onlyIn_frameOut (s : State) (i : Nat) (f : Option SentTag → Sent) : OnlyIn s (frameOut s i f) [.net, .counters, .logs] :=
  (OnlyIn.ite (OnlyIn.refl s).bump.putNet.setPort.bump (OnlyIn.refl s).bump.putNet).mono (by decide)

/-- A frame that leaves joins the wire, tagged where the port protects its frames; of its port only packet numbers change. -/
theorem frameOut_holds (s : State) (i : Nat) (f : Option SentTag → Sent) :
    (∃ sec, (frameOut s i f).net.wire = f sec :: s.net.wire ∧ (bitAt (s.regN (msecPage i) 0x010) 0 = false → sec = none)) ∧
    ∃ pns, (frameOut s i f).port i = { s.port i with pns := pns } := by
  unfold frameOut
  dsimp only
  rw [State.regN_bump]
  split
  · rename_i hprotected
    constructor
    · simp only [State.bump_net, State.setPort]
      exact ⟨_, rfl, fun h => absurd hprotected (Bool.eq_false_iff.mp h)⟩
    · simp only [State.port_bump, State.port_setPort, if_true]
      exact ⟨_, rfl⟩
  · refine ⟨⟨none, ?_, fun _ => rfl⟩, (s.port i).pns, ?_⟩
    · simp
    · exact State.port_bump ..

/-! ### What waits at a port -/

theorem onlyIn_transmit (s : State) (i : Nat) (m : Msg) : OnlyIn s (transmit s i m) [.net, .counters, .logs] := by
  unfold transmit wireOut
  exact (OnlyIn.ite (onlyIn_frameOut s i _) (OnlyIn.refl s).setPort).mono (by decide)

theorem transmit_pfcIn (s : State) (i : Nat) (m : Msg) : ((transmit s i m).port i).pfcIn = (s.port i).pfcIn := by
  unfold transmit
  split
  · unfold wireOut
    obtain ⟨-, pns, hport⟩ := frameOut_holds s i _
    rw [hport]
  · simp [State.port_setPort]

theorem onlyIn_flushPort (s : State) (i : Nat) : OnlyIn s (flushPort s i) [.net, .counters, .logs] :=
  ((OnlyIn.refl s).setPort.trans (OnlyIn.foldl (fun _ m => onlyIn_transmit _ i m) _ _)).mono (by decide)

theorem flushPort_pfcIn (s : State) (i : Nat) : ((flushPort s i).port i).pfcIn = (s.port i).pfcIn := by
  unfold flushPort
  rw [foldl_keep (fun t : State => (t.port i).pfcIn) (fun s m => transmit s i m) fun t m => transmit_pfcIn t i m]
  simp [State.port_setPort]

/-! ### Frames that arrive -/

/-- The checks of an arriving frame's code words. -/
def fecChecked (s : State) (i : Nat) (f : EthFrame) : State :=
  if f.uncorrectable = 0 then (s.bump (portPage i) 0).bumpBy (portPage i) 2 f.corrected
  else ((((s.bump (portPage i) 0).bumpBy (portPage i) 2 f.corrected).bumpBy (portPage i) 3 f.uncorrectable).raise (portPage i) 1)

theorem onlyIn_fecChecked (s : State) (i : Nat) (f : EthFrame) : OnlyIn s (fecChecked s i f) [.regs, .counters, .logs] :=
  (OnlyIn.ite (OnlyIn.refl s).bump.bumpBy (OnlyIn.refl s).bump.bumpBy.bumpBy.raise).mono (by decide)

theorem fecChecked_regN (s : State) (i : Nat) (f : EthFrame) {q : Page} {off : Nat} (h : q.key off ≠ (portPage i).key 0x018) :
    (fecChecked s i f).regN q off = s.regN q off := by
  unfold fecChecked
  split
  · simp
  · rw [State.regN_raise_ne _ _ h]
    simp

theorem portAddr_of_regN {s t : State} {i : Nat} (h : ∀ off, off ≠ 0x018 → t.regN (portPage i) off = s.regN (portPage i) off) (v6 : Bool) (a : Nat) :
    t.portAddr i v6 a = s.portAddr i v6 a := by
  have hreg (w : Nat) : t.reg (portPage i) (0x110 + 4 * w) = s.reg (portPage i) (0x110 + 4 * w) :=
    BitVec.eq_of_toNat_eq (h _ (by omega))
  simp only [State.portAddr, hreg, h 0x10C (by decide)]

theorem fecChecked_portAddr (s : State) (i : Nat) (f : EthFrame) (v6 : Bool) (a : Nat) :
    (fecChecked s i f).portAddr i v6 a = s.portAddr i v6 a :=
  portAddr_of_regN (fun _ hne => fecChecked_regN s i f (Page.key_ne _ hne)) v6 a

theorem portNo_lt (s : State) (port : Fin 18) : s.portNo port.val < 18 := by
  have := field_lt (s.regN (portPage 17) 0x014) 23 20
  unfold State.portNo
  dsimp only
  split
  · omega
  · exact port.isLt

theorem msec_base_ne_port {i : Nat} (h : i < 18) : (msecPage i).base ≠ (portPage i).base :=
  (show ∀ j : Fin 18, (msecPage j.val).base ≠ (portPage j.val).base by decide) ⟨i, h⟩

theorem tal_base_ne_port {i : Nat} (h : i < 18) : talPage.base ≠ (portPage i).base :=
  (show ∀ j : Fin 18, talPage.base ≠ (portPage j.val).base by decide) ⟨i, h⟩

/-- A frame that a port takes up goes through its checks. -/
theorem frameReceive_of_bad {s : State} {i : Nat} {f : EthFrame} (hmay : s.mayCarry i = true) (hbad : f.fcsOk = false) :
    frameReceive s i f = (fecChecked s i f).bump (portPage i) 4 := by
  simp [frameReceive, hmay, hbad, fecChecked]

theorem macsec_of_clear {s : State} {i : Nat} {f : EthFrame} (hsec : f.sec = none) (hclear : bitAt (s.regN (msecPage i) 0x010) 0 = false) :
    macsec s i f = (s, true) := by
  simp [macsec, hsec, hclear]

section
variable {s : State} {i : Nat} {f : EthFrame} {v6 : Bool} {src dst : Nat} {ecn : Fin 4} {m : Msg}
variable (hi : i < 18) (hmay : s.mayCarry i = true) (hfcs : f.fcsOk = true) (hsize : f.size ≤ 9216) (htags : f.tags = 0) (hsec : f.sec = none)
variable (hclear : bitAt (s.regN (msecPage i) 0x010) 0 = false) (haddr : s.portAddr i v6 dst = true)
variable (hbody : f.body = .udp v6 src dst false (s.regN talPage 0x11C % 2 ^ 16) false ecn m) (hecn : ecn ≠ 1)
variable (hroom : (s.port i).rxBytes + f.size ≤ 8388608)
include hi hmay hfcs hsize htags hsec hclear haddr hbody hecn hroom

/-- A good untagged UDP frame for the port joins its receive buffer. -/
theorem frameReceive_of_good : frameReceive s i f =
    (fecChecked s i f).setPort i { s.port i with rx := (s.port i).rx ++ [⟨src, ecn == 3, 0, f.size, m⟩] } := by
  have hmsec : (fecChecked s i f).regN (msecPage i) 0x010 = s.regN (msecPage i) 0x010 :=
    fecChecked_regN s i f (Page.key_ne_of_base (msec_base_ne_port hi) (by decide) (by decide))
  have htal : (fecChecked s i f).regN talPage 0x11C = s.regN talPage 0x11C :=
    fecChecked_regN s i f (Page.key_ne_of_base (tal_base_ne_port hi) (by decide) (by decide))
  have hport : (fecChecked s i f).port i = s.port i := State.port_of_net (onlyIn_fecChecked s i f .net (by decide)) i
  have haddr' := fecChecked_portAddr s i f v6 dst
  have hsec' := macsec_of_clear (s := fecChecked s i f) hsec (by rw [hmsec, hclear])
  have hudp : (false || ecn == 1 || !(fecChecked s i f).portAddr i v6 dst || s.regN talPage 0x11C % 2 ^ 16 != (fecChecked s i f).regN talPage 0x11C % 2 ^ 16) = false := by
    rw [haddr', haddr, htal]
    simp [hecn]
  have hchecked : (if f.uncorrectable = 0 then (s.bump (portPage i) 0).bumpBy (portPage i) 2 f.corrected
    else (((s.bump (portPage i) 0).bumpBy (portPage i) 2 f.corrected).bumpBy (portPage i) 3 f.uncorrectable).raise (portPage i) 1) =
      fecChecked s i f := rfl
  simp only [frameReceive, hmay, hchecked, hfcs, htags, hsec', hbody, hudp, hport, Nat.not_lt.mpr hsize, Nat.not_lt.mpr hroom]
  rfl

end

/-! ### Pauses and links -/

/-- A received change pauses or resumes an enabled priority. -/
theorem pfcPause_of_enabled {s : State} {i k : Nat} {on : Bool} {rest : List (Nat × Bool)} (hin : (s.port i).pfcIn = (k, on) :: rest)
    (hk : k < 8) (hon : bitAt (s.regN (portPage i) 0x100) (8 + k) = true) : pfcPause s i =
      flushPort ((s.setPort i { s.port i with pfcIn := rest }).setField (portPage i) 0x014 (8 + k) 1 (b2n on)) i := by
  have hon' : bitAt ((s.setPort i { s.port i with pfcIn := rest }).regN (portPage i) 0x100) (8 + k) = true := hon
  simp only [pfcPause, hin]
  exact if_pos ⟨hk, hon'⟩

/-- A buffer above XOFF sends a pause. -/
theorem pfcSend_of_full {s : State} {i k : Nat} (hon : bitAt (s.regN (portPage i) 0x100) (8 + k) = true) (hmay : s.mayCarry i = true)
    (hsent : (s.port i).pausing.contains k = false) (hfull : 1024 * field (s.regN (portPage i) 0x124) 15 0 <
      ((s.port i).rx.filter (fun r => decide (r.prio = k))).foldl (fun n r => n + r.size) 0) : pfcSend s i k =
      frameOut ((s.setPort i { s.port i with pausing := NSet.insert (s.port i).pausing k }).bump (portPage i) 7) i (.pfc i k true) := by
  simp only [pfcSend, hon, hmay, hsent, decide_eq_true hfull]
  rfl

/-- A link that goes down loses its lanes and its pauses. -/
theorem linkChangeRow_of_down {s : State} {port : Nat} (h : s.linkUp (s.portNo port) = true) : linkChangeRow s port false =
    (((s.setField (portPage (s.portNo port)) 0x014 0 7 0).setField (portPage (s.portNo port)) 0x014 8 8 0).raise
      (portPage (s.portNo port)) 0) := by
  simp [linkChangeRow, linkChange, h]

/-- Settles O31: each command acts on the port in whose place it comes. -/
theorem ports : Obligations.Ports := by
  unfold Obligations.Ports
  intro s port i q
  have hi : i < 18 := portNo_lt s port
  refine ⟨fun f hnone => ?_, fun f v6 src dst ecn m hmay hfcs hsize htags hsec hclear haddr hbody hecn hroom => ?_,
    fun f hmay hbad => ⟨_, congrArg Host.Outcome.next (frameReceive_of_bad hmay hbad), (onlyIn_fecChecked s i f).bump.mono (by decide)⟩,
    fun k on rest hin hk hon => ⟨_, congrArg Host.Outcome.next (pfcPause_of_enabled hin hk hon), ?_, ?_, ?_⟩,
    fun k hon hmay hsent hfull => ⟨_, congrArg Host.Outcome.next (pfcSend_of_full hon hmay hsent hfull), ?_, ?_, ?_, ?_⟩,
    fun hup => ⟨_, congrArg Host.Outcome.next (linkChangeRow_of_down hup), ?_, ?_, ?_, ?_⟩⟩
  · have hmay : s.mayCarry i = false := by
      rcases hnone with h | h
      · simp [State.mayCarry, h]
      · simp [State.mayCarry, h]
    exact congrArg Host.Outcome.next (if_pos (by rw [hmay]; rfl))
  · refine ⟨_, congrArg Host.Outcome.next (frameReceive_of_good hi hmay hfcs hsize htags hsec hclear haddr hbody hecn hroom), ?_, ?_⟩
    · exact (onlyIn_fecChecked s i f).setPort.mono (by decide)
    · rw [State.port_setPort, if_pos rfl]
  · rw [flushPort_pfcIn]
    simp [State.port_of_net (State.setField_net ..), State.port_setPort]
  · rw [State.paused, State.regN_congr (onlyIn_flushPort _ _ .regs (by decide)), State.bitAt_setField _ _ _ _ _ (by decide) (by omega),
      if_pos ⟨Nat.le_refl _, Nat.lt_succ_self _⟩, Nat.sub_self]
    cases on <;> rfl
  · exact (onlyIn_flushPort _ _ .mem (by decide)).trans (by simp)
  · exact ((OnlyIn.refl s).setPort.bump.trans (onlyIn_frameOut _ _ _)).mono (by decide)
  · obtain ⟨⟨sec, hwire, hnone⟩, -⟩ := frameOut_holds ((s.setPort i { q with pausing := NSet.insert q.pausing k }).bump (portPage i) 7) i
      (.pfc i k true)
    refine ⟨sec, ?_, fun h => hnone (by rwa [State.regN_bump])⟩
    rw [hwire, State.bump_net]
    rfl
  · obtain ⟨-, pns, hport⟩ := frameOut_holds ((s.setPort i { q with pausing := NSet.insert q.pausing k }).bump (portPage i) 7) i (.pfc i k true)
    rw [hport, State.port_bump, State.port_setPort, if_pos rfl, NSet.contains_insert]
    simp
  · obtain ⟨-, pns, hport⟩ := frameOut_holds ((s.setPort i { q with pausing := NSet.insert q.pausing k }).bump (portPage i) 7) i (.pfc i k true)
    rw [hport, State.port_bump, State.port_setPort, if_pos rfl]
  · rw [State.linkUp, State.regN_raise_ne _ _ (Page.key_ne _ (by decide)), State.bitAt_setField _ _ _ _ _ (by decide) (by decide),
      if_neg (by decide), State.bitAt_setField _ _ _ _ _ (by decide) (by decide), if_pos (by decide)]
    rfl
  · intro k hk
    rw [State.paused, State.regN_raise_ne _ _ (Page.key_ne _ (by decide)), State.bitAt_setField _ _ _ _ _ (by decide) (by decide),
      if_pos (by omega)]
    simp [bitAt]
  · exact State.bitAt_raise_self _ _ (by decide)
  · exact (OnlyIn.refl s).setField.setField.raise.mono (by decide)

end Sys2Proof.Machine
end

section
/-! SUPPORT. The step unit (R236, R237, R239, R246). -/

namespace Sys2Proof.Machine

/-! ### Layer entries -/

theorem stepEntry_setStepEntry (s : State) (l e : Nat) (k : Nat) :
    (s.setStepEntry l e).stepEntry k = if k = l then e % 2 ^ 64 else s.stepEntry k := by
  simp only [State.stepEntry, State.setStepEntry, SMap.getD_set]
  split
  · exact BitVec.toNat_ofNat _ _
  · rfl

theorem stepEntry_lt (s : State) (l : Nat) : s.stepEntry l < 2 ^ 64 := BitVec.isLt _

theorem stepEntry_of_step {s t : State} (h : t.step = s.step) (l : Nat) : t.stepEntry l = s.stepEntry l := by
  unfold State.stepEntry
  rw [h]

/-! ### Admission (R236) -/

/-- The state in which the first ask is answered. -/
def askTaken (s : State) (rest : List Ask) : State := { s with step.asks := rest }

/-- What an outcome other than ADMIT records. -/
def refusalRecord (s : State) (code tag l i : Nat) : State :=
  (if s.isFirst stepPage 0x118 then (s.record stepPage 0x118 (code * 2 ^ 27 + (i % 1024) * 2 ^ 10 + l % 1024)).setRegN stepPage 0x11C (tag % 2 ^ 16)
    else s.record stepPage 0x118 (code * 2 ^ 27 + (i % 1024) * 2 ^ 10 + l % 1024)).raise stepPage 1

theorem onlyIn_refusalRecord (s : State) (code tag l i : Nat) : OnlyIn s (refusalRecord s code tag l i) [.regs] :=
  (OnlyIn.ite (OnlyIn.refl s).record.setRegN (OnlyIn.refl s).record).raise.mono (by decide)

theorem refusalRecord_holds (s : State) {code : Nat} (tag l i : Nat) (hcode : code < 7) : let t := refusalRecord s code tag l i
    bitAt (t.regN stepPage 0x018) 1 = true ∧ bitAt (t.regN stepPage 0x118) 31 = true := by
  have hpayload : code * 2 ^ 27 + (i % 1024) * 2 ^ 10 + l % 1024 < 2 ^ 30 := by omega
  refine ⟨State.bitAt_raise_self _ _ (by decide), ?_⟩
  rw [refusalRecord, State.regN_raise_ne _ _ (Page.key_ne _ (by decide))]
  split
  · rw [State.regN_setRegN_ne _ _ (Page.key_ne _ (by decide)), State.bitAt_record _ _ _ hpayload]
  · rw [State.bitAt_record _ _ _ hpayload]

theorem refusalRecord_crs (s : State) (code tag l i off : Nat) (hoff : off < 0x1000) :
    (refusalRecord s code tag l i).regN crsPage off = s.regN crsPage off := by
  have hne {b : Nat} (hb : b < 0x1000) : crsPage.key off ≠ stepPage.key b := Page.key_ne_of_base (by decide) hoff hb
  rw [refusalRecord, State.regN_raise_ne _ _ (hne (by decide))]
  split
  · rw [State.regN_setRegN_ne _ _ (hne (by decide)), State.regN_record_ne _ _ (hne (by decide))]
  · rw [State.regN_record_ne _ _ (hne (by decide))]

theorem admitTag_of_admit {s : State} {tag l i : Nat} (h : admitCode s tag l i = 0) : admitTag s tag l i =
    ({ s.bump stepPage 0 with step.bitmaps := SMap.set s.step.bitmaps l (SMap.getD s.step.bitmaps 0 l + 2 ^ i) }, 0) := by
  simp [admitTag, h]

theorem admitTag_of_busy {s : State} {tag l i : Nat} (h : admitCode s tag l i = 2) : admitTag s tag l i =
    (((refusalRecord (s.bump stepPage 2) 2 tag l i).setStepEntry l (eBit ((refusalRecord (s.bump stepPage 2) 2 tag l i).stepEntry l) 16 true)).raise
      stepPage 0, 2) := by
  simp only [admitTag, h]
  rfl

theorem admitTag_of_refused {s : State} {tag l i code : Nat} (h : admitCode s tag l i = code) (h0 : code ≠ 0) (h2 : code ≠ 2) (h4 : code ≤ 4) :
    admitTag s tag l i = (refusalRecord (s.bump stepPage code) code tag l i, code) := by
  simp only [admitTag, h, if_pos h4, if_neg h0, if_neg h2]
  rfl

/-- The outcome for a slice that the unit knows. -/
theorem admitCode_of_known {s : State} {tag l i : Nat} (hon : s.stepOn = true) (hl : l ≤ s.layersM1) (htag : tag < 65532)
    (hi : i ≤ field (s.stepEntry l) 9 0) : admitCode s tag l i =
      if stepDiff tag (field (s.stepEntry l) 63 48) = 1 then
        if bitAt (SMap.getD s.step.bitmaps 0 l) i then 1
        else if 1 ≤ field (s.stepEntry l) 47 46 ∨ field (s.stepEntry l) 45 37 = 0 then 0 else 2
      else if 2 ≤ stepDiff tag (field (s.stepEntry l) 63 48) ∧ stepDiff tag (field (s.stepEntry l) 63 48) ≤ 32765 then 3 else 4 := by
  have hbad : ¬ (s.layersM1 < l ∨ field (s.stepEntry l) 9 0 < i ∨ (!isStep tag) = true) := by
    simp only [isStep, stepMod, htag, decide_true, Bool.not_true, Bool.false_eq_true, or_false]
    omega
  simp only [admitCode, hon, Bool.not_true, Bool.false_eq_true, if_false, if_neg hbad]

/-- The bit that asks for a release. -/
theorem bitAt_releaseWanted (s : State) (l : Nat) :
    bitAt ((s.setStepEntry l (eBit (s.stepEntry l) 16 true)).stepEntry l) 16 = true := by
  rw [stepEntry_setStepEntry, if_pos rfl, eBit, Nat.mod_eq_of_lt (putField_lt (by decide) (stepEntry_lt s l) (by decide)),
    bitAt_putField _ _ _ (by decide), if_pos (by decide)]
  rfl

section
variable {s : State} {a : Ask} {rest : List Ask} {n : Nat} (hasks : s.step.asks = a :: rest) (hpath : a.path = .update n)
include hasks hpath

/-- The update unit's slice acts on the outcome of its ask. -/
theorem admission_of_update {t : State} {code : Nat} (h : admitTag (askTaken s rest) a.step a.layer a.idx = (t, code)) :
    (code = 0 → admission s = { t with upd := t.upd.mapSlice n (fun x => { x with admitted := true, retry := none }) }) ∧
    (code = 2 ∨ code = 3 → admission s = { t with upd := t.upd.mapSlice n (fun x => { x with retry := some (t.tick + t.pullRetry) }) }) ∧
    (code = 1 ∨ code = 4 → admission s = { t.bump ⟨.upd, 0⟩ 10 with upd := { t.upd with slices := SMap.del t.upd.slices n } }) := by
  have hask : admitTag ({ s with step.asks := rest } : State) a.step a.layer a.idx = (t, code) := h
  simp only [admission, hasks, hpath, hask]
  refine ⟨?_, ?_, ?_⟩
  · rintro rfl; rfl
  · rintro (rfl | rfl) <;> rfl
  · rintro (rfl | rfl) <;> rfl

end

/-- ADMISSION of a slice of the update unit (R236). -/
theorem admissions {s : State} {a : Ask} {rest : List Ask} {n : Nat} (hasks : s.step.asks = a :: rest) (hpath : a.path = .update n)
    (hon : s.stepOn = true) (hl : a.layer ≤ s.layersM1) (htag : a.step < 65532) :
    let e := s.stepEntry a.layer
    let d := stepDiff a.step (field e 63 48)
    let bits := SMap.getD s.step.bitmaps 0 a.layer
    a.idx ≤ field e 9 0 →
    (d = 1 → bitAt bits a.idx = false → (1 ≤ field e 47 46 ∨ field e 45 37 = 0) → ∃ t, exec .admission s = .next t ∧
      OnlyIn s t [.step, .upd, .counters, .logs] ∧ t.step = { s.step with asks := rest, bitmaps := SMap.set s.step.bitmaps a.layer (bits + 2 ^ a.idx) } ∧
      t.upd = s.upd.mapSlice n (fun x => { x with admitted := true, retry := none })) ∧
    (((d = 1 ∧ bitAt bits a.idx = true) ∨ d = 0 ∨ 32766 ≤ d) → ∃ t, exec .admission s = .next t ∧
      OnlyIn s t [.step, .upd, .regs, .counters, .logs] ∧ t.step = { s.step with asks := rest } ∧
      t.upd.slices = SMap.del s.upd.slices n ∧ bitAt (t.regN stepPage 0x018) 1 = true ∧
      bitAt (t.regN stepPage 0x118) 31 = true) ∧
    (d = 1 → bitAt bits a.idx = false → field e 47 46 = 0 → field e 45 37 ≠ 0 → ∃ t, exec .admission s = .next t ∧
      t.step.asks = rest ∧ t.step.bitmaps = s.step.bitmaps ∧ bitAt (t.stepEntry a.layer) 16 = true ∧
      bitAt (t.regN stepPage 0x018) 0 = true ∧ bitAt (t.regN stepPage 0x018) 1 = true ∧
      t.upd = s.upd.mapSlice n (fun x => { x with retry := some (s.tick + max 100 (s.regN crsPage 0x130)) })) ∧
    (2 ≤ d → d ≤ 32765 → ∃ t, exec .admission s = .next t ∧ t.step = { s.step with asks := rest } ∧
      bitAt (t.regN stepPage 0x018) 1 = true ∧
      t.upd = s.upd.mapSlice n (fun x => { x with retry := some (s.tick + max 100 (s.regN crsPage 0x130)) })) := by
  intro e d bits hidx
  have hcode : admitCode (askTaken s rest) a.step a.layer a.idx = if d = 1 then
      if bitAt bits a.idx then 1 else if 1 ≤ field e 47 46 ∨ field e 45 37 = 0 then 0 else 2
      else if 2 ≤ d ∧ d ≤ 32765 then 3 else 4 := admitCode_of_known (s := askTaken s rest) hon hl htag hidx
  have hretry (code : Nat) : (refusalRecord ((askTaken s rest).bump stepPage code) code a.step a.layer a.idx).pullRetry =
      max 100 (s.regN crsPage 0x130) := by
    rw [State.pullRetry, refusalRecord_crs _ _ _ _ _ _ (by decide), State.regN_bump]
    rfl
  have hkept (code : Nat) := onlyIn_refusalRecord ((askTaken s rest).bump stepPage code) code a.step a.layer a.idx
  have hstep (code : Nat) : (refusalRecord ((askTaken s rest).bump stepPage code) code a.step a.layer a.idx).step =
      { s.step with asks := rest } := (hkept code .step (by decide)).trans (State.bump_step ..)
  have hupd (code : Nat) : (refusalRecord ((askTaken s rest).bump stepPage code) code a.step a.layer a.idx).upd = s.upd :=
    (hkept code .upd (by decide)).trans (State.bump_upd ..)
  have htick (code : Nat) : (refusalRecord ((askTaken s rest).bump stepPage code) code a.step a.layer a.idx).tick = s.tick :=
    (hkept code .tick (by decide)).trans (State.bump_tick ..)
  have hholds {code : Nat} (h : code < 7) := refusalRecord_holds ((askTaken s rest).bump stepPage code) a.step a.layer a.idx h
  refine ⟨fun hd hbit hrel => ?_, fun hlate => ?_, fun hd hbit hrel hneed => ?_, fun hlow hhigh => ?_⟩
  · have hzero : admitCode (askTaken s rest) a.step a.layer a.idx = 0 := by
      rw [hcode, if_pos hd, hbit, if_neg Bool.false_ne_true, if_pos hrel]
    obtain ⟨hadmit, -⟩ := admission_of_update hasks hpath (admitTag_of_admit hzero)
    refine ⟨_, congrArg Host.Outcome.next (hadmit rfl), ?_, ?_, ?_⟩
    · exact (OnlyIn.refl s).putStep.bump.putStep.putUpd.mono (by decide)
    · simp only [State.bump_step]
      rfl
    · simp only [State.bump_upd]
      rfl
  · obtain ⟨code, hcase, hrefused⟩ : ∃ code, (code = 1 ∨ code = 4) ∧ admitCode (askTaken s rest) a.step a.layer a.idx = code := by
      rcases hlate with ⟨hd, hbit⟩ | hd
      · exact ⟨1, .inl rfl, by rw [hcode, if_pos hd, if_pos hbit]⟩
      · exact ⟨4, .inr rfl, by rw [hcode, if_neg (by omega), if_neg (by omega)]⟩
    obtain ⟨-, -, hdrop⟩ := admission_of_update hasks hpath (admitTag_of_refused hrefused (by omega) (by omega) (by omega))
    obtain ⟨hraised, hvalid⟩ := hholds (code := code) (by omega)
    refine ⟨_, congrArg Host.Outcome.next (hdrop hcase), ?_, ?_, ?_, ?_, ?_⟩
    · exact ((OnlyIn.refl s).putStep.bump.trans (hkept code)).bump.putUpd.mono (by decide)
    · exact (State.bump_step ..).trans (hstep code)
    · exact congrArg (fun u => SMap.del u.slices n) (hupd code)
    · exact (congrArg (bitAt · 1) (State.regN_bump ..)).trans hraised
    · exact (congrArg (bitAt · 31) (State.regN_bump ..)).trans hvalid
  · have htwo : admitCode (askTaken s rest) a.step a.layer a.idx = 2 := by
      rw [hcode, if_pos hd, hbit, if_neg Bool.false_ne_true, if_neg (by omega)]
    obtain ⟨-, hwait, -⟩ := admission_of_update hasks hpath (admitTag_of_busy htwo)
    have hr := hstep 2
    have hraised := (hholds (code := 2) (by decide)).1
    rw [← hretry 2, ← htick 2, ← hupd 2]
    generalize refusalRecord ((askTaken s rest).bump stepPage 2) 2 a.step a.layer a.idx = r at hwait hr hraised ⊢
    have hwaits : ((r.setStepEntry a.layer (eBit (r.stepEntry a.layer) 16 true)).raise stepPage 0).pullRetry = r.pullRetry := by
      rw [State.pullRetry, State.regN_raise_ne _ _ (by decide)]
      rfl
    refine ⟨_, congrArg Host.Outcome.next (hwait (.inl rfl)), ?_, ?_, ?_, ?_, ?_, ?_⟩
    · show r.step.asks = rest
      rw [hr]
    · show r.step.bitmaps = s.step.bitmaps
      rw [hr]
    · exact bitAt_releaseWanted r a.layer
    · exact State.bitAt_raise_self _ _ (by decide)
    · exact (State.bitAt_raise_ne _ _ (by decide)).trans hraised
    · simp only [hwaits]
      rfl
  · have hthree : admitCode (askTaken s rest) a.step a.layer a.idx = 3 := by
      rw [hcode, if_neg (by omega), if_pos ⟨hlow, hhigh⟩]
    obtain ⟨-, hwait, -⟩ := admission_of_update hasks hpath (admitTag_of_refused hthree (by decide) (by decide) (by decide))
    refine ⟨_, congrArg Host.Outcome.next (hwait (.inr rfl)), hstep 3, (hholds (by decide)).1, ?_⟩
    simp only [hupd, htick, hretry]

/-! ### Commits (R237) -/

/-- A layer's entry once its tag is complete. -/
def completed (e : Nat) : Nat :=
  eBit (putField (putField (putField e 48 16 (stepNext (field e 63 48))) 46 2 (field (putField e 48 16 (stepNext (field e 63 48))) 47 46 + 3))
    17 11 0) 16 false

theorem completed_lt {e : Nat} (h : e < 2 ^ 64) : completed e < 2 ^ 64 :=
  putField_lt (by decide) (putField_lt (by decide) (putField_lt (by decide) (putField_lt (by decide) h (by decide)) (by decide)) (by decide)) (by decide)

theorem completed_fields (e : Nat) : field (completed e) 63 48 = (field e 63 48 + 1) % 65532 ∧ field (completed e) 27 17 = 0 ∧
    field (completed e) 47 46 = (field e 47 46 + 3) % 4 ∧ bitAt (completed e) 16 = false ∧ field (completed e) 9 0 = field e 9 0 := by
  have hnext : stepNext (field e 63 48) < 2 ^ 16 := (Nat.mod_lt _ (by decide)).trans (by decide)
  refine ⟨?_, ?_, ?_, ?_, ?_⟩
  · rw [completed, eBit, field_putField_ne _ _ (by decide) (by decide), field_putField_ne _ _ (by decide) (by decide),
      field_putField_ne _ _ (by decide) (by decide), field_putField_self _ _ (by decide) (by decide), Nat.mod_eq_of_lt hnext]
    rfl
  · rw [completed, eBit, field_putField_ne _ _ (by decide) (by decide), field_putField_self _ _ (by decide) (by decide)]
    rfl
  · rw [completed, eBit, field_putField_ne _ _ (by decide) (by decide), field_putField_ne _ _ (by decide) (by decide),
      field_putField_self _ _ (by decide) (by decide), field_putField_ne _ _ (by decide) (by decide)]
    rfl
  · rw [completed, eBit, bitAt_putField _ _ _ (by decide), if_pos (by decide)]
    rfl
  · rw [completed, eBit, field_putField_ne _ _ (by decide) (by decide), field_putField_ne _ _ (by decide) (by decide),
      field_putField_ne _ _ (by decide) (by decide), field_putField_ne _ _ (by decide) (by decide)]

/-- SLICE_COMMIT counts a slice of its layer's tag; the last one completes it. -/
theorem sliceCommits {s : State} {c : Commit} {rest : List Commit} (hcommits : s.step.commits = c :: rest) :
    let e := s.stepEntry c.layer
    (field e 27 17 < field e 9 0 → ∃ t, exec .sliceCommit s = .next t ∧ OnlyIn s t [.step] ∧ t.step.commits = rest ∧
      t.step.bitmaps = s.step.bitmaps ∧ t.stepEntry c.layer = putField e 17 11 (field e 27 17 + 1)) ∧
    (field e 9 0 ≤ field e 27 17 → ∃ t, exec .sliceCommit s = .next t ∧ OnlyIn s t [.step] ∧ t.step.commits = rest ∧
      field (t.stepEntry c.layer) 63 48 = (field e 63 48 + 1) % 65532 ∧ field (t.stepEntry c.layer) 27 17 = 0 ∧
      field (t.stepEntry c.layer) 47 46 = (field e 47 46 + 3) % 4 ∧ bitAt (t.stepEntry c.layer) 16 = false ∧
      field (t.stepEntry c.layer) 9 0 = field e 9 0 ∧ SMap.getD t.step.bitmaps 0 c.layer = 0) := by
  intro e
  have hcommit : sliceCommit s = if field e 9 0 + 1 ≤ field e 27 17 + 1
      then { ({ s with step.commits := rest } : State).setStepEntry c.layer (completed e) with step.bitmaps := SMap.del s.step.bitmaps c.layer }
      else ({ s with step.commits := rest } : State).setStepEntry c.layer (putField e 17 11 (field e 27 17 + 1)) := by
    simp only [sliceCommit, hcommits]
    rfl
  constructor
  · intro hless
    refine ⟨_, congrArg Host.Outcome.next (hcommit.trans (if_neg (by omega))), (OnlyIn.refl s).putStep.setStepEntry.mono (by decide), rfl, rfl, ?_⟩
    rw [stepEntry_setStepEntry, if_pos rfl, Nat.mod_eq_of_lt (putField_lt (by decide) (stepEntry_lt s _) (by decide))]
  · intro hlast
    have hentry : (({ s with step.commits := rest } : State).setStepEntry c.layer (completed e)).stepEntry c.layer = completed e := by
      rw [stepEntry_setStepEntry, if_pos rfl, Nat.mod_eq_of_lt (completed_lt (stepEntry_lt s _))]
    obtain ⟨htag, hcount, hrel, hwant, hslices⟩ := completed_fields e
    rw [← hentry] at htag hcount hrel hwant hslices
    refine ⟨_, congrArg Host.Outcome.next (hcommit.trans (if_pos (by omega))), (OnlyIn.refl s).putStep.setStepEntry.putStep.mono (by decide), rfl, htag, hcount,
      hrel, hwant, hslices, ?_⟩
    simp [SMap.getD]

/-! ### The frontier (R239) -/

/-- The loop passes the complete layers and stops at the first that is not. -/
theorem frontierLoop_of_layers (s : State) (last step : Nat) (n : Nat) : ∀ fuel layer count, n < fuel → layer + n ≤ last →
    (∀ k, k < n → stepAtOrAfter (field (s.stepEntry (layer + k)) 63 48) step = true) →
    stepAtOrAfter (field (s.stepEntry (layer + n)) 63 48) step = false →
    frontierLoop s last fuel step layer count = (step, layer + n, count + n) := by
  induction n with
  | zero =>
    intro fuel layer count hfuel _ _ hstop
    obtain ⟨fuel, rfl⟩ := Nat.exists_eq_succ_of_ne_zero (Nat.ne_of_gt hfuel)
    simp only [stepAtOrAfter, decide_eq_false_iff_not, Nat.add_zero] at hstop
    rw [frontierLoop, if_neg hstop, Nat.add_zero, Nat.add_zero]
  | succ n ih =>
    intro fuel layer count hfuel hlast hdone hstop
    obtain ⟨fuel, rfl⟩ := Nat.exists_eq_succ_of_ne_zero (show fuel ≠ 0 by omega)
    have h0 := hdone 0 (Nat.succ_pos n)
    simp only [stepAtOrAfter, decide_eq_true_eq, Nat.add_zero] at h0
    rw [frontierLoop, if_pos h0, if_neg (by omega)]
    dsimp only
    rw [ih fuel (layer + 1) (count + 1) (by omega) (by omega) (fun k hk => by rw [Nat.add_right_comm, Nat.add_assoc]; exact hdone (k + 1) (by omega))
      (by rwa [Nat.add_right_comm, Nat.add_assoc]), Nat.add_right_comm layer, Nat.add_right_comm count]
    rfl

/-- From the last layer, complete, the loop goes on to the next step's first. -/
theorem frontierLoop_of_last (s : State) (last step fuel count : Nat) (hdone : stepAtOrAfter (field (s.stepEntry last) 63 48) step = true)
    (hstop : stepAtOrAfter (field (s.stepEntry 0) 63 48) (stepNext step) = false) :
    frontierLoop s last (fuel + 1) step last count = (stepNext step, 0, count + 1) := by
  simp only [stepAtOrAfter, decide_eq_true_eq] at hdone
  simp only [stepAtOrAfter, decide_eq_false_iff_not] at hstop
  rw [frontierLoop, if_pos hdone, if_pos rfl]
  cases fuel with
  | zero => rfl
  | succ fuel => dsimp only; rw [frontierLoop, if_neg hstop]

/-- The frontier's registers once it has advanced by `n` layers. -/
def frontierMoved (s : State) (step layer n : Nat) : State :=
  (s.setRegN stepPage 0x104 (step * 2 ^ 16 + layer)).setRegN stepPage 0x108
    (((s.setRegN stepPage 0x104 (step * 2 ^ 16 + layer)).regN stepPage 0x108 + n) % 2 ^ 32)

/-- The adds that an advance by `n` layers queues. -/
def frontierAdds (t : State) (n : Nat) : State := { t with step.sends := t.step.sends ++ (subscribed t).map (fun c => (c, n)) }

/-- The loop's result is put in the place of the loop before anything else: it must not be evaluated. -/
theorem frontierAdvance_of_loop {s : State} {step layer n : Nat} (hon : s.stepOn = true) (hn : n ≠ 0)
    (hloop : frontierLoop s s.layersM1 (s.layersM1 + 1) (field (s.regN stepPage 0x104) 31 16) (field (s.regN stepPage 0x104) 9 0) 0 = (step, layer, n)) :
    frontierAdvance s = frontierAdds (frontierMoved s step layer n) n := by
  unfold frontierAdvance
  rw [if_neg (by simp [hon])]
  extract_lets f
  have hloop' : frontierLoop s s.layersM1 (s.layersM1 + 1) (field f 31 16) (field f 9 0) 0 = (step, layer, n) := hloop
  rw [hloop']
  dsimp only
  rw [if_neg hn]
  rfl

theorem frontierAdvance_of_still {s : State} {step layer : Nat}
    (hloop : frontierLoop s s.layersM1 (s.layersM1 + 1) (field (s.regN stepPage 0x104) 31 16) (field (s.regN stepPage 0x104) 9 0) 0 = (step, layer, 0)) :
    frontierAdvance s = s := by
  unfold frontierAdvance
  split
  · rfl
  · extract_lets f
    have hloop' : frontierLoop s s.layersM1 (s.layersM1 + 1) (field f 31 16) (field f 9 0) 0 = (step, layer, 0) := hloop
    rw [hloop']
    rfl

/-- The subscriptions do not depend on the frontier's registers. -/
theorem subscribed_frontierMoved (s : State) (step layer n : Nat) : subscribed (frontierMoved s step layer n) = subscribed s := by
  have hreg (c : Nat) : (frontierMoved s step layer n).regN stepPage (0x400 + 4 * c) = s.regN stepPage (0x400 + 4 * c) := by
    rw [frontierMoved, State.regN_setRegN_ne _ _ (Page.key_ne _ (by omega)), State.regN_setRegN_ne _ _ (Page.key_ne _ (by omega))]
  simp only [subscribed, hreg]

theorem frontierMoved_step (s : State) (step layer n : Nat) : (frontierMoved s step layer n).step = s.step := rfl

theorem frontierAdds_regs (t : State) (n : Nat) : (frontierAdds t n).regs = t.regs := rfl

theorem frontierAdds_step (t : State) (n : Nat) :
    (frontierAdds t n).step = { t.step with sends := t.step.sends ++ (subscribed t).map (fun c => (c, n)) } := rfl

theorem onlyIn_advance (s : State) (step layer n : Nat) : OnlyIn s (frontierAdds (frontierMoved s step layer n) n) [.step, .regs] :=
  (OnlyIn.refl s).setRegN.setRegN.putStep.mono (by decide)

theorem frontierMoved_regs (s : State) {step layer : Nat} (n : Nat) (h : step * 2 ^ 16 + layer < 2 ^ 32) :
    (frontierMoved s step layer n).regN stepPage 0x104 = step * 2 ^ 16 + layer ∧
      (frontierMoved s step layer n).regN stepPage 0x108 = (s.regN stepPage 0x108 + n) % 2 ^ 32 := by
  have hother : (s.setRegN stepPage 0x104 (step * 2 ^ 16 + layer)).regN stepPage 0x108 = s.regN stepPage 0x108 :=
    State.regN_setRegN_ne _ _ (Page.key_ne _ (by decide))
  constructor
  · rw [frontierMoved, State.regN_setRegN_ne _ _ (Page.key_ne _ (by decide)), State.regN_setRegN_self, Nat.mod_eq_of_lt h]
  · rw [frontierMoved, State.regN_setRegN_self, Nat.mod_mod, hother]

theorem advanced_holds (s : State) {step layer : Nat} (n : Nat) (h : step * 2 ^ 16 + layer < 2 ^ 32) :
    let t := frontierAdds (frontierMoved s step layer n) n
    OnlyIn s t [.step, .regs] ∧ t.regN stepPage 0x104 = step * 2 ^ 16 + layer ∧ t.regN stepPage 0x108 = (s.regN stepPage 0x108 + n) % 2 ^ 32 ∧
      t.step = { s.step with sends := s.step.sends ++ (subscribed s).map (fun c => (c, n)) } := by
  obtain ⟨hfrontier, hcount⟩ := frontierMoved_regs s n h
  refine ⟨onlyIn_advance s step layer n, ?_, ?_, ?_⟩
  · rw [State.regN_congr (frontierAdds_regs _ n), hfrontier]
  · rw [State.regN_congr (frontierAdds_regs _ n), hcount]
  · rw [frontierAdds_step, subscribed_frontierMoved, frontierMoved_step]

/-- FRONTIER_ADVANCE (R239). -/
theorem frontierAdvances {s : State} (hon : s.stepOn = true) :
    let step := field (s.regN stepPage 0x104) 31 16
    let layer := field (s.regN stepPage 0x104) 9 0
    let tagOf (l : Nat) : Nat := field (s.stepEntry l) 63 48
    (∀ n, 0 < n → layer + n ≤ s.layersM1 → (∀ k, k < n → stepAtOrAfter (tagOf (layer + k)) step = true) →
      stepAtOrAfter (tagOf (layer + n)) step = false → ∃ t, exec .frontierAdvance s = .next t ∧ OnlyIn s t [.step, .regs] ∧
        t.regN stepPage 0x104 = step * 2 ^ 16 + (layer + n) ∧ t.regN stepPage 0x108 = (s.regN stepPage 0x108 + n) % 2 ^ 32 ∧
        t.step = { s.step with sends := s.step.sends ++ (subscribed s).map (fun c => (c, n)) }) ∧
    (layer = s.layersM1 → stepAtOrAfter (tagOf layer) step = true → stepAtOrAfter (tagOf 0) (stepNext step) = false →
      ∃ t, exec .frontierAdvance s = .next t ∧ t.regN stepPage 0x104 = (step + 1) % 65532 * 2 ^ 16 ∧
        t.step.sends = s.step.sends ++ (subscribed s).map (fun c => (c, 1))) ∧
    (stepAtOrAfter (tagOf layer) step = false → exec .frontierAdvance s = .next s) := by
  intro step layer tagOf
  have hstep : step < 2 ^ 16 := field_lt ..
  have hlayers : s.layersM1 < 1024 := field_lt ..
  refine ⟨fun n hn hlast hdone hstop => ?_, fun hlast hdone hstop => ?_, fun hstop => ?_⟩
  · have hloop := frontierLoop_of_layers s s.layersM1 step n (s.layersM1 + 1) layer 0 (by omega) hlast hdone hstop
    rw [Nat.zero_add] at hloop
    exact ⟨_, congrArg Host.Outcome.next (frontierAdvance_of_loop hon (Nat.ne_of_gt hn) hloop), advanced_holds s n (by omega)⟩
  · have hloop : frontierLoop s s.layersM1 (s.layersM1 + 1) step layer 0 = (stepNext step, 0, 1) := by
      rw [hlast] at hdone ⊢
      exact frontierLoop_of_last s s.layersM1 step s.layersM1 0 hdone hstop
    have hnext : stepNext step < 65532 := Nat.mod_lt _ (by decide)
    obtain ⟨-, hreg, -, hsends⟩ := advanced_holds s (step := stepNext step) (layer := 0) 1 (by omega)
    refine ⟨_, congrArg Host.Outcome.next (frontierAdvance_of_loop hon Nat.one_ne_zero hloop), hreg.trans (Nat.add_zero _), ?_⟩
    rw [hsends]
  · have hloop : frontierLoop s s.layersM1 (s.layersM1 + 1) step layer 0 = (step, layer, 0) := by
      simp only [stepAtOrAfter, decide_eq_false_iff_not] at hstop
      rw [frontierLoop, if_neg hstop]
    exact congrArg Host.Outcome.next (frontierAdvance_of_still hloop)

/-- FRONTIER_FLAG_SEND: the next add goes on its way. -/
theorem frontierFlagSends {s : State} {core n : Nat} {rest : List (Nat × Nat)} (hsends : s.step.sends = (core, n) :: rest) :
    ∃ t, exec .frontierFlagSend s = .next t ∧ OnlyIn s t [.step, .cores] ∧ t.step = { s.step with sends := rest } ∧
      (SMap.getD t.cores {} core).flagsIn = (SMap.getD s.cores {} core).flagsIn ++ [⟨.f, field (s.regN stepPage 0x100) 7 0, true, n⟩] := by
  have hsend : frontierFlagSend s = { ({ s with step.sends := rest } : State) with cores := SMap.set s.cores core { SMap.getD s.cores {} core with
      flagsIn := (SMap.getD s.cores {} core).flagsIn ++ [⟨.f, field (s.regN stepPage 0x100) 7 0, true, n⟩] } } := by
    simp only [frontierFlagSend, hsends]
    rfl
  refine ⟨_, congrArg Host.Outcome.next hsend, (OnlyIn.refl s).putStep.putCores.mono (by decide), rfl, ?_⟩
  rw [SMap.getD_set_self]

/-! ### Layer entries through LDATA (R246) -/

theorem writeReg_stepLdata {s s1 : State} {who : Requester} {v : Word} (h : WriteReaches s s1 stepPage 0x114 who v.toNat) :
    writeReg s stepPage 0x114 who v = tookOr (stepLdataWrite (seenBy s who) v.toNat) stepPage who 0x114 := by
  rw [writeReg_of_reaches h (by decide) (by decide), pageWrite_block _ _ _ _ _ (by decide) rfl]
  rfl

theorem busRead_stepLdata {s s1 : State} {who : Requester} (h : ReadReaches s s1 stepPage 0x110 who) :
    busRead s (stepPage.key 0x110) who = ((stepLdataRead (seenBy s who)).1, .value (stepLdataRead (seenBy s who)).2) := by
  rw [busRead_of_reaches h, h.eq_seenBy, stepPage.key_mod (by decide)]
  rfl

@[simp] theorem seenBy_stepEntry (s : State) (who : Requester) (l : Nat) : (seenBy s who).stepEntry l = s.stepEntry l :=
  seenBy_keep s who (State.stepEntry · l) fun _ => rfl

@[simp] theorem seenBy_stepOn (s : State) (who : Requester) : (seenBy s who).stepOn = s.stepOn := seenBy_keep s who State.stepOn fun _ => rfl

/-- Settles O36: the outcomes of admissions, the commits, the frontier, and the layer entries. -/
theorem stepUnit : Obligations.StepUnit := by
  unfold Obligations.StepUnit
  intro s s1
  refine ⟨fun a rest n hasks hpath hon hl htag => admissions hasks hpath hon hl htag, fun c rest hcommits => sliceCommits hcommits,
    frontierAdvances, fun core n rest hsends => frontierFlagSends hsends, fun who v h => ⟨fun hoff => ?_, fun hon => ?_⟩, fun who h => ?_⟩
  · have hwrite : stepLdataWrite (seenBy s who) v.toNat = ({ ((seenBy s who).setStepEntry (field (s.regN stepPage 0x10C) 9 0)
        (putField (v.toNat * 2 ^ 32 + s.regN stepPage 0x110) 10 6 0)).setRegN stepPage 0x114 v.toNat with
          step.bitmaps := SMap.del s.step.bitmaps (field (s.regN stepPage 0x10C) 9 0) }, true) := by
      simp only [stepLdataWrite, seenBy_stepOn, hoff, seenBy_regN, seenBy_step, Nat.mod_eq_of_lt v.isLt]
      rfl
    refine ⟨_, congrArg Host.Outcome.next ((writeReg_stepLdata h).trans (congrArg (tookOr · stepPage who 0x114) hwrite)), ?_, ?_, ?_, ?_⟩
    · have hlt := v.isLt
      have hlow := s.regN_lt stepPage 0x110
      refine (stepEntry_setStepEntry (seenBy s who) _ _ _).trans ?_
      rw [if_pos rfl, Nat.mod_eq_of_lt (putField_lt (by decide) (by omega) (by decide))]
    · simp [tookOr, SMap.getD]
    · intro k hk
      refine (stepEntry_setStepEntry (seenBy s who) _ _ _).trans ?_
      rw [if_neg hk, seenBy_stepEntry]
    · exact seenBy_mem s who
  · have hwrite : stepLdataWrite (seenBy s who) v.toNat = (seenBy s who, false) := if_pos (by simpa using hon)
    refine ⟨_, congrArg Host.Outcome.next ((writeReg_stepLdata h).trans (congrArg (tookOr · stepPage who 0x114) hwrite)), seenBy_step s who, ?_⟩
    simp [tookOr, State.ignored, State.logReq, State.log_logWord]
  · refine ⟨_, congrArg Host.Outcome.next (congrArg Prod.fst (busRead_stepLdata h)), seenBy_step s who, seenBy_regs s who, ?_, ?_⟩
    · rw [busRead_stepLdata h]
      simp [stepLdataRead]
    · simp [stepLdataRead]

end Sys2Proof.Machine
end

section
/-! SUPPORT. Boot and recovery (R415-R417). -/

namespace Sys2Proof.Machine

/-! ### What the checks of an image look at -/

theorem imageOk_congr {s t : State} (hroot : t.flash.rootKey = s.flash.rootKey) (howner : t.flash.owner = s.flash.owner)
    (hfloor : t.svnFloor = s.svnFloor) (i : Image) : imageOk t i = imageOk s i := by
  simp only [imageOk, signedOk, rootOk, hroot, howner, hfloor]

theorem svnFloor_congr {s t : State} (hfloor : t.flash.floor = s.flash.floor) (htag : t.flash.floorTag = s.flash.floorTag)
    (hkey : t.sec.wrapKey = s.sec.wrapKey) : t.svnFloor = s.svnFloor := by
  simp only [State.svnFloor, hfloor, htag, hkey]

/-- A boot counts in flash and changes nothing else of it. -/
theorem countBoot_flash (s : State) : (countBoot s).flash =
    { s.flash with boots := if s.flash.boots = 2 ^ 32 - 1 then s.flash.boots else s.flash.boots + 1 } := by
  unfold countBoot
  dsimp only
  split_ifs
  · rfl
  · rfl
  · rfl

theorem onlyIn_countBoot (s : State) : OnlyIn s (countBoot s) [.flash, .logs] :=
  (OnlyIn.ite (OnlyIn.refl s) (.ite (OnlyIn.refl s).putFlash.logWord (OnlyIn.refl s).putFlash)).mono (by decide)

theorem countBoot_sec (s : State) : (countBoot s).sec = s.sec := onlyIn_countBoot s .sec (by decide)

theorem countBoot_imageOk (s : State) (i : Image) : imageOk (countBoot s) i = imageOk s i := by
  refine imageOk_congr ?_ ?_ (svnFloor_congr ?_ ?_ (by rw [countBoot_sec])) i
  all_goals rw [countBoot_flash]

theorem countBoot_stage (s : State) : (countBoot s).stage347 = s.stage347 := by
  rw [State.stage347, State.regN_congr (onlyIn_countBoot s .regs (by decide))]
  rfl

/-- The image of a slot, if it passes its checks. -/
def goodImage (s : State) (n : Nat) : Option Image := (s.flash.image n).filter (imageOk s)

theorem goodImage_of_good {s : State} {n : Nat} {i : Image} (himage : s.flash.image n = some i) (hok : imageOk s i = true) :
    goodImage s n = some i := by
  simp [goodImage, himage, Option.filter, hok]

theorem goodImage_of_bad {s : State} {n : Nat} (h : ∀ i, s.flash.image n = some i → imageOk s i = false) : goodImage s n = none := by
  unfold goodImage
  cases himage : s.flash.image n with
  | none => rfl
  | some i => simp [Option.filter, h i himage]

theorem countBoot_image (s : State) (n : Nat) : (countBoot s).flash.image n = s.flash.image n := by rw [countBoot_flash]; rfl

theorem countBoot_goodImage (s : State) (n : Nat) : goodImage (countBoot s) n = goodImage s n := by
  unfold goodImage
  rw [countBoot_image, funext (countBoot_imageOk s)]

/-! ### Which image runs -/

/-- The fall back to the other slot, with its alarm. -/
def fallenBack (s : State) : State := (raiseAlarm { s with sec.fallback := true } 7 1).raise secPage 3

theorem onlyIn_fallenBack (s : State) : OnlyIn s (fallenBack s) [.sec, .regs] := (OnlyIn.refl s).putSec.putSec.raise.mono (by decide)

/-- The boot ROM once identity stands and the boot is counted. -/
def verifySlots (s : State) : State :=
  match goodImage s s.flash.preferred with
  | some i => runImage { s with sec.fallback := false } s.flash.preferred i
  | none =>
    match goodImage (fallenBack s) (1 - s.flash.preferred) with
    | some i => runImage (fallenBack s) (1 - s.flash.preferred) i
    | none => enterRecovery (fallenBack s)

theorem verifySlots_of_preferred {s : State} {i : Image} (h : goodImage s s.flash.preferred = some i) :
    verifySlots s = runImage { s with sec.fallback := false } s.flash.preferred i := by simp only [verifySlots, h]

theorem goodImage_fallenBack (s : State) (n : Nat) : goodImage (fallenBack s) n = goodImage s n := rfl

theorem verifySlots_of_other {s : State} {i : Image} (h : goodImage s s.flash.preferred = none)
    (ho : goodImage s (1 - s.flash.preferred) = some i) : verifySlots s = runImage (fallenBack s) (1 - s.flash.preferred) i := by
  simp only [verifySlots, h, goodImage_fallenBack, ho]

theorem verifySlots_of_none {s : State} (h : goodImage s s.flash.preferred = none) (ho : goodImage s (1 - s.flash.preferred) = none) :
    verifySlots s = enterRecovery (fallenBack s) := by
  simp only [verifySlots, h, goodImage_fallenBack, ho]

/-- The identity at the verification. -/
def identified (s : State) (sram : Nat) : State := if s.sec.derived then s else deriveIdentity s sram

theorem bootVerify_of_due {s : State} (sram : Nat) (hverified : s.sec.verified = false) (hrecovery : s.sec.recovery = false)
    (hoff : s.power.off = false) (hdark : s.power.dark = false) : bootVerify s sram = verifySlots (countBoot (identified s sram)) := by
  unfold bootVerify
  rw [if_neg (by simp [hverified, hrecovery, hoff, hdark])]
  unfold verifySlots goodImage
  rfl

/-! ### Recovery -/

/-- A link that is up loses its lanes and its pauses. -/
theorem linkDown_eq (s : State) (i : Nat) : linkChange s i false =
    if s.linkUp i then ((s.setField (portPage i) 0x014 0 7 0).setField (portPage i) 0x014 8 8 0).raise (portPage i) 0 else s := by
  unfold linkChange
  cases s.linkUp i <;> rfl

theorem onlyIn_linkDown (s : State) (i : Nat) : OnlyIn s (linkChange s i false) [.regs] := by
  rw [linkDown_eq]
  exact (OnlyIn.ite (OnlyIn.refl s).setField.setField.raise (OnlyIn.refl s)).mono (by decide)

theorem linkUp_linkDown (s : State) (i : Nat) : (linkChange s i false).linkUp i = false := by
  rw [linkDown_eq]
  split
  · rw [State.linkUp, State.regN_raise_ne _ _ (Page.key_ne _ (by decide)), State.bitAt_setField _ _ _ _ _ (by decide) (by decide),
      if_neg (by decide), State.bitAt_setField _ _ _ _ _ (by decide) (by decide), if_pos (by decide)]
    rfl
  · rename_i hdown
    exact Bool.eq_false_iff.mpr hdown

theorem port_base_ne {i j : Nat} (hi : i < 18) (hj : j < 18) (h : i ≠ j) : (portPage i).base ≠ (portPage j).base :=
  (show ∀ a b : Fin 18, a ≠ b → (portPage a.val).base ≠ (portPage b.val).base by decide) ⟨i, hi⟩ ⟨j, hj⟩ (by simpa using h)

theorem linkUp_linkDown_ne (s : State) {i j : Nat} (hi : i < 18) (hj : j < 18) (h : i ≠ j) :
    (linkChange s j false).linkUp i = s.linkUp i := by
  have hne {b : Nat} (hb : b < 0x1000) : (portPage i).key 0x014 ≠ (portPage j).key b := Page.key_ne_of_base (port_base_ne hi hj h) (by decide) hb
  rw [linkDown_eq]
  split
  · rw [State.linkUp, State.regN_raise_ne _ _ (hne (by decide)), State.regN_setField_ne _ _ _ _ (hne (by decide)),
      State.regN_setField_ne _ _ _ _ (hne (by decide))]
    rfl
  · rfl

/-- Every link that is taken down is down. -/
theorem linkUp_linksDown (n : Nat) (hn : n ≤ 18) (s : State) : ∀ i, i < n →
    ((List.range n).foldl (fun s i => linkChange s i false) s).linkUp i = false := by
  induction n with
  | zero => exact fun i hi => absurd hi (Nat.not_lt_zero i)
  | succ n ih =>
    intro i hi
    rw [List.range_succ, List.foldl_append, List.foldl_cons, List.foldl_nil]
    rcases Nat.lt_succ_iff_lt_or_eq.mp hi with hlt | rfl
    · rw [linkUp_linkDown_ne _ (by omega) (by omega) (by omega)]
      exact ih (by omega) i hlt
    · exact linkUp_linkDown _ _

theorem onlyIn_enterRecovery (s : State) : OnlyIn s (enterRecovery s) [.regs, .sec] :=
  (OnlyIn.foldl onlyIn_linkDown s _).putSec.setField.mono (by decide)

theorem enterRecovery_sec (s : State) : (enterRecovery s).sec = { s.sec with recovery := true, running := none } := by
  have hsec : ((List.range 18).foldl (fun s i => linkChange s i false) s).sec = s.sec :=
    foldl_keep State.sec _ (fun t i => onlyIn_linkDown t i .sec (by decide)) _ s
  exact congrArg (fun x : Security => { x with recovery := true, running := none }) hsec

theorem enterRecovery_stage (s : State) : (enterRecovery s).stage347 = stLink := by
  rw [State.stage347, enterRecovery, State.enterStage, State.regN_setField_self _ _ _ _ _ (by decide) (by decide),
    field_putField_self _ _ (by decide) (by decide)]
  rfl

theorem enterRecovery_links (s : State) {i : Nat} (hi : i < 18) : (enterRecovery s).linkUp i = false := by
  have hlinks := linkUp_linksDown 18 (by decide) s i hi
  rw [State.linkUp, enterRecovery, State.enterStage,
    State.regN_setField_ne _ _ _ _ (Page.key_ne_of_base (tal_base_ne_port hi).symm (by decide) (by decide))]
  exact hlinks

/-! ### Identity -/

theorem deriveIdentity_of_opened {s : State} {sram r b sk : Nat} (hr : Config.fuzzyExtract sram s.flash.helper = some r)
    (hb : s.flash.blob = some b)
    (hsk : Config.openBlob (Config.shake256 40 (wrapTag + 2 ^ 64 * (r % 2 ^ 256)) % 2 ^ 256) b = some sk) : deriveIdentity s sram =
      { s with sec.derived := true, sec.identity := some sk, sec.wrapKey := Config.shake256 40 (wrapTag + 2 ^ 64 * (r % 2 ^ 256)) % 2 ^ 256 } := by
  simp only [deriveIdentity, hr, hb, hsk]

/-- What identity leaves to the choice of an image: the parts of the identity. -/
def SameIdentity (s t : State) : Prop := t.sec.identity = s.sec.identity ∧ t.sec.wrapKey = s.sec.wrapKey ∧ t.sec.derived = s.sec.derived

theorem verifySlots_identity (s : State) : SameIdentity s (verifySlots s) := by
  unfold verifySlots
  split
  · exact ⟨rfl, rfl, rfl⟩
  · split
    · exact ⟨rfl, rfl, rfl⟩
    · rw [SameIdentity, enterRecovery_sec]
      exact ⟨rfl, rfl, rfl⟩

/-! ### An image at the service port -/

theorem svcFrame_of_ready {s : State} {f : SvcFrame} (h : SvcReady s f) : svcFrame s = some (s.bump edgePage 4) := by
  obtain ⟨hvbus, hdark, -⟩ := h
  simp [svcFrame, hvbus, hdark]

/-- An answer without data is one frame. -/
theorem sendAnswer_empty (s : State) (dst : Option Nat) (tag op status : Nat) :
    sendAnswer s dst tag op status 0 0 = sendChunk s dst tag op status 0 0 0 0 := by
  simp [sendAnswer, sub]

theorem sendAnswer_service (s : State) (op status : Nat) : sendAnswer s none 0 op status 0 0 =
    { s with sec.sent := ⟨op + status * 2 ^ 8, 0, 0, 0, 0⟩ :: s.sec.sent } := sendAnswer_empty ..

/-- The image in a service frame. -/
def frameImage (f : SvcFrame) : Image := ⟨f.len, f.data % 2 ^ (8 * f.len)⟩

/-- The state with a frame's image in slot A. -/
def imageStored (r : State) (f : SvcFrame) : State := { r with sec.svc := none, flash.slotA := some (frameImage f) }

/-- The state in which the boot starts over. -/
def bootRestarted (r : State) : State :=
  { r with flash.preferred := 0, sec.recovery := false, sec.verified := false, power.goodAt := r.tick, power.stageAt := r.tick, power.upDone := false }

theorem imageFrame_of_image {s : State} {f : SvcFrame} (h : SvcReady s f) (hrecovery : s.sec.recovery = true) (hlen : f.len ≤ 8192) :
    imageFrame s f = if imageOk (imageStored (s.bump edgePage 4) f) (frameImage f)
      then sendAnswer (bootRestarted (imageStored (s.bump edgePage 4) f)) none 0 (f.op % 2 ^ 8) mgtOk 0 0
      else sendAnswer (imageStored (s.bump edgePage 4) f) none 0 (f.op % 2 ^ 8) mgtBadSig 0 0 := by
  have hframe := svcFrame_of_ready h
  obtain ⟨-, -, hsvc, hchunk, hlast⟩ := h
  have hdata : sub f.data 0 f.len = f.data % 2 ^ (8 * f.len) := by simp [sub]
  have hsec : (s.bump edgePage 4).sec = s.sec := State.bump_sec ..
  rw [← hsec] at hrecovery hsvc
  generalize s.bump edgePage 4 = r at hframe hrecovery hsvc ⊢
  have hgather : gatherChunk r.sec.svc none 0 (f.op % 2 ^ 8) f.chunk f.chunksM1 f.len (sub f.data 0 f.len) =
      some ⟨none, 0, f.op % 2 ^ 8, 1, 0, f.data % 2 ^ (8 * f.len), f.len, true⟩ := by
    rw [hsvc, hchunk, hlast, hdata]
    rfl
  unfold imageFrame
  rw [hframe]
  dsimp only
  rw [if_neg (by simp [hrecovery]), if_neg (show ¬ 8200 < f.len by omega), hgather]
  rfl

theorem imageFrame_of_running {s : State} {f : SvcFrame} (h : SvcReady s f) (hrecovery : s.sec.recovery = false) :
    imageFrame s f = sendAnswer (s.bump edgePage 4) none 0 (f.op % 2 ^ 8) mgtState 0 0 := by
  simp only [imageFrame, svcFrame_of_ready h, State.bump_sec, hrecovery]
  rfl

theorem imageStored_imageOk (s : State) (f : SvcFrame) (i : Image) : imageOk (imageStored (s.bump edgePage 4) f) i = imageOk s i := by
  have hflash : (s.bump edgePage 4).flash = s.flash := State.bump_flash ..
  have hsec : (s.bump edgePage 4).sec = s.sec := State.bump_sec ..
  refine imageOk_congr (congrArg Flash.rootKey hflash) (congrArg Flash.owner hflash)
    (svnFloor_congr (congrArg Flash.floor hflash) (congrArg Flash.floorTag hflash) (congrArg Security.wrapKey hsec)) i

/-- A verification that runs an image of a known identity: Boot. -/
theorem bootsSlot {s : State} (sram : Nat) (hdue : s.sec.verified = false ∧ s.sec.recovery = false ∧ s.power.off = false ∧ s.power.dark = false)
    (hderived : s.sec.derived = true) : bootVerify s sram = verifySlots (countBoot s) := by
  obtain ⟨hverified, hrecovery, hoff, hdark⟩ := hdue
  rw [bootVerify_of_due sram hverified hrecovery hoff hdark, identified, if_pos hderived]

theorem runImage_fwVer {s : State} (slot : Nat) (i : Image) (h : stMgmt ≤ s.stage347) : (runImage s slot i).sec.fwVer = i.version :=
  if_neg (Nat.not_lt.mpr h)

theorem fallenBack_stage (s : State) : (fallenBack s).stage347 = s.stage347 := by
  rw [State.stage347, fallenBack, State.regN_raise_ne _ _ (by decide)]
  rfl

/-- BOOT_VERIFY with a known identity: Boot. -/
theorem bootVerifies {s : State} (sram : Nat) (hdue : s.sec.verified = false ∧ s.sec.recovery = false ∧ s.power.off = false ∧ s.power.dark = false)
    (hderived : s.sec.derived = true) :
    let slot := s.flash.preferred
    let good (n : Nat) (i : Image) : Prop := s.flash.image n = some i ∧ imageOk s i = true
    let bad (n : Nat) : Prop := ∀ i, s.flash.image n = some i → imageOk s i = false
    let ran (t : State) (n : Nat) (i : Image) : Prop := t.sec.running = some i ∧ t.sec.slot = n ∧ t.sec.verified = true ∧
      t.flash.boots = (if s.flash.boots = 2 ^ 32 - 1 then s.flash.boots else s.flash.boots + 1) ∧ (stMgmt ≤ s.stage347 → t.sec.fwVer = i.version)
    (∀ i, good slot i → ∃ t, exec (.bootVerify sram) s = .next t ∧ OnlyIn s t [.sec, .flash, .logs] ∧ ran t slot i ∧
      t.sec.fallback = false ∧ t.sec.alarms = s.sec.alarms) ∧
    (∀ i, bad slot → good (1 - slot) i → ∃ t, exec (.bootVerify sram) s = .next t ∧ OnlyIn s t [.sec, .flash, .regs, .logs] ∧
      ran t (1 - slot) i ∧ t.sec.fallback = true ∧ t.sec.alarms = s.sec.alarms ++ [(7, 1, s.tick)] ∧
      bitAt (t.regN secPage 0x018) 3 = true) ∧
    (bad slot → bad (1 - slot) → ∃ t, exec (.bootVerify sram) s = .next t ∧ t.sec.recovery = true ∧ t.sec.running = none ∧
      t.stage347 = stLink ∧ (∀ i, i < 18 → t.linkUp i = false) ∧ t.flash = { s.flash with boots := t.flash.boots }) := by
  intro slot good bad ran
  have hboot := bootsSlot sram hdue hderived
  have hpreferred : (countBoot s).flash.preferred = slot := by rw [countBoot_flash]
  have hbad {n : Nat} (h : bad n) : goodImage (countBoot s) n = none := (countBoot_goodImage s n).trans (goodImage_of_bad h)
  have hgood {n : Nat} {i : Image} (h : good n i) : goodImage (countBoot s) n = some i :=
    (countBoot_goodImage s n).trans (goodImage_of_good h.1 h.2)
  have hboots := congrArg Flash.boots (countBoot_flash s)
  have hsec := countBoot_sec s
  refine ⟨fun i hi => ?_, fun i hslot hi => ?_, fun hslot hother => ?_⟩
  · refine ⟨_, congrArg Host.Outcome.next (hboot.trans (verifySlots_of_preferred (by rw [hpreferred]; exact hgood hi))), ?_,
      ⟨rfl, hpreferred, rfl, hboots, fun hstage => runImage_fwVer _ _ ((countBoot_stage s).symm ▸ hstage)⟩, rfl,
      (congrArg Security.alarms hsec :)⟩
    exact (onlyIn_countBoot s).putSec.putSec.mono (by decide)
  · have hrun := verifySlots_of_other (s := countBoot s) (by rw [hpreferred]; exact hbad hslot) (by rw [hpreferred]; exact hgood hi)
    have hraised : bitAt ((fallenBack (countBoot s)).regN secPage 0x018) 3 = true := State.bitAt_raise_self _ _ (by decide)
    have halarms : (fallenBack (countBoot s)).sec.alarms = s.sec.alarms ++ [(7, 1, s.tick)] := by
      show (countBoot s).sec.alarms ++ [(7, 1, (countBoot s).tick)] = _
      rw [hsec, show (countBoot s).tick = s.tick from onlyIn_countBoot s .tick (by decide)]
    refine ⟨_, congrArg Host.Outcome.next (hboot.trans hrun), ?_, ⟨rfl, congrArg (1 - ·) hpreferred, rfl, hboots, fun hstage => runImage_fwVer _ _ ?_⟩,
      rfl, halarms, hraised⟩
    · exact ((onlyIn_countBoot s).trans (onlyIn_fallenBack _)).putSec.mono (by decide)
    · rw [fallenBack_stage, countBoot_stage]
      exact hstage
  · have hrun := verifySlots_of_none (s := countBoot s) (by rw [hpreferred]; exact hbad hslot) (by rw [hpreferred]; exact hbad hother)
    have hflash : (enterRecovery (fallenBack (countBoot s))).flash = (countBoot s).flash := onlyIn_enterRecovery _ .flash (by decide)
    refine ⟨_, congrArg Host.Outcome.next (hboot.trans hrun), ?_, ?_, enterRecovery_stage _, fun i hi => enterRecovery_links _ hi, ?_⟩
    · rw [enterRecovery_sec]
    · rw [enterRecovery_sec]
    · rw [hflash, countBoot_flash]

/-- Settles O50: the verification of the two slots, identity at power-up, and an image at the service port. -/
theorem boot : Obligations.Boot := by
  refine ⟨fun s sram hverified hrecovery hoff hdark => ⟨fun hderived => bootVerifies sram ⟨hverified, hrecovery, hoff, hdark⟩ hderived,
    fun hderived r b sk hr hb hsk => ?_⟩, fun s sram hnot => ?_, fun s f hready => ⟨fun hrecovery hlen => ⟨fun hok => ?_, fun hbad => ?_⟩,
    fun hrecovery => ?_⟩⟩
  · have hid : identified s sram = _ := (if_neg (Bool.eq_false_iff.mp hderived)).trans (deriveIdentity_of_opened hr hb hsk)
    have hboot := bootVerify_of_due sram hverified hrecovery hoff hdark
    obtain ⟨hidentity, hkey, hdone⟩ := verifySlots_identity (countBoot (identified s sram))
    rw [countBoot_sec, hid] at hidentity hkey hdone
    exact ⟨_, congrArg Host.Outcome.next (hboot.trans (by rw [hid])), hidentity, hkey, hdone⟩
  · refine congrArg Host.Outcome.next (if_pos ?_)
    rcases hnot with h | h | h | h <;> simp [h]
  · have himage := imageFrame_of_image hready hrecovery hlen
    rw [imageStored_imageOk, if_pos (show imageOk s (frameImage f) = true from hok), sendAnswer_service] at himage
    refine ⟨_, congrArg Host.Outcome.next himage, ?_, rfl, rfl, ?_⟩
    · exact congrArg (fun x : Flash => { x with slotA := some (frameImage f), preferred := 0 }) (s.bump_flash edgePage 4)
    · exact congrArg (_ :: ·) (congrArg Security.sent (s.bump_sec edgePage 4) :)
  · have himage := imageFrame_of_image hready hrecovery hlen
    rw [imageStored_imageOk, if_neg (show ¬ imageOk s (frameImage f) = true from Bool.eq_false_iff.mp hbad), sendAnswer_service] at himage
    refine ⟨_, congrArg Host.Outcome.next himage, ?_, ?_, ?_⟩
    · exact congrArg (fun x : Flash => { x with slotA := some (frameImage f) }) (s.bump_flash edgePage 4)
    · exact (congrArg Security.recovery (s.bump_sec edgePage 4)).trans hrecovery
    · exact congrArg (_ :: ·) (congrArg Security.sent (s.bump_sec edgePage 4) :)
  · have himage := imageFrame_of_running hready hrecovery
    rw [sendAnswer_service] at himage
    refine ⟨_, congrArg Host.Outcome.next himage, s.bump_flash edgePage 4, ?_⟩
    exact congrArg (_ :: ·) (congrArg Security.sent (s.bump_sec edgePage 4) :)

end Sys2Proof.Machine
end

section
/-! SUPPORT. Messages that a Talel context sends (R351, R353): what they leave as it was. -/

namespace Sys2Proof.Machine

/-! ### A message handed to a port -/

theorem frameOut_ctxs (s : State) (i : Nat) (f : Option SentTag → Sent) : (frameOut s i f).net.ctxs = s.net.ctxs := by
  unfold frameOut
  dsimp only
  split
  · rw [State.bump_net]
    show (s.bump (portPage i) 1).net.ctxs = _
    rw [State.bump_net]
  · show (s.bump (portPage i) 1).net.ctxs = _
    rw [State.bump_net]

theorem transmit_ctxs (s : State) (i : Nat) (m : Msg) : (transmit s i m).net.ctxs = s.net.ctxs := by
  unfold transmit wireOut
  split
  · exact frameOut_ctxs ..
  · rfl

theorem State.tctx_of_ctxs {s t : State} (h : t.net.ctxs = s.net.ctxs) (n : Nat) : t.tctx n = s.tctx n := by
  unfold State.tctx
  rw [h]

@[simp] theorem transmit_tctx (s : State) (i : Nat) (m : Msg) (n : Nat) : (transmit s i m).tctx n = s.tctx n :=
  State.tctx_of_ctxs (transmit_ctxs s i m) n

@[simp] theorem transmit_regs (s : State) (i : Nat) (m : Msg) : (transmit s i m).regs = s.regs := onlyIn_transmit s i m .regs (by decide)

/-- A frame that leaves takes nothing out of a receive buffer. -/
theorem frameOut_rx (s : State) (i : Nat) (f : Option SentTag → Sent) (j : Nat) : ((frameOut s i f).port j).rx = (s.port j).rx := by
  unfold frameOut
  dsimp only
  split
  · rw [State.port_bump, State.port_setPort]
    split
    · rename_i hj
      rw [State.port_bump, hj]
    · exact congrArg Port.rx ((s.port_bump (portPage i) 1 j :))
  · exact congrArg Port.rx ((s.port_bump (portPage i) 1 j :))

theorem transmit_rx (s : State) (i : Nat) (m : Msg) (j : Nat) : ((transmit s i m).port j).rx = (s.port j).rx := by
  unfold transmit wireOut
  split
  · exact frameOut_rx ..
  · rw [State.port_setPort]
    split
    · rename_i hj
      rw [hj]
    · rfl

/-! ### A context's messages -/

/-- A context without its transmit side: what sending never changes. -/
def TalCtx.receiving (c : TalCtx) : TalCtx := { c with unanswered := 0, firstAt := none, txNext := 0, unacked := [], queue := [] }

/-- What no change of Talel contexts and no frame that leaves touches. -/
structure TalWrites (s t : State) : Prop where
  onlyIn : OnlyIn s t [.net, .regs, .counters, .logs]
  rx : ∀ i, (t.port i).rx = (s.port i).rx
  reg : ∀ (p : Page) (off : Nat), p.key off ≠ talPage.key 0x014 → t.regN p off = s.regN p off
  stage : t.stage347 = s.stage347

theorem TalWrites.sec {s t : State} (h : TalWrites s t) : t.sec = s.sec := h.onlyIn .sec (by decide)
theorem TalWrites.mem {s t : State} (h : TalWrites s t) : t.mem = s.mem := h.onlyIn .mem (by decide)
theorem TalWrites.cores {s t : State} (h : TalWrites s t) : t.cores = s.cores := h.onlyIn .cores (by decide)
theorem TalWrites.flash {s t : State} (h : TalWrites s t) : t.flash = s.flash := h.onlyIn .flash (by decide)

theorem TalWrites.refl (s : State) : TalWrites s s :=
  ⟨(OnlyIn.refl s).mono (by decide), fun _ => rfl, fun _ _ _ => rfl, rfl⟩

theorem TalWrites.trans {s t r : State} (h : TalWrites s t) (g : TalWrites t r) : TalWrites s r where
  onlyIn := (h.onlyIn.trans g.onlyIn).mono (by decide)
  rx i := (g.rx i).trans (h.rx i)
  reg p off hk := (g.reg p off hk).trans (h.reg p off hk)
  stage := g.stage.trans h.stage

theorem TalWrites.foldl {α : Type} {f : State → α → State} (hf : ∀ s a, TalWrites s (f s a)) (s : State) (l : List α) :
    TalWrites s (l.foldl f s) := by
  induction l generalizing s with
  | nil => exact .refl s
  | cons a l ih => exact (hf s a).trans (ih (f s a))

/-- Between the two states context `n` has done nothing but send. -/
structure TalSends (n : Nat) (s t : State) : Prop where
  writes : TalWrites s t
  others : ∀ m, m ≠ n → t.tctx m = s.tctx m
  own : (t.tctx n).receiving = (s.tctx n).receiving

theorem TalSends.refl (n : Nat) (s : State) : TalSends n s s := ⟨.refl s, fun _ _ => rfl, rfl⟩

theorem TalSends.trans {n : Nat} {s t r : State} (h : TalSends n s t) (g : TalSends n t r) : TalSends n s r where
  writes := h.writes.trans g.writes
  others m hm := (g.others m hm).trans (h.others m hm)
  own := g.own.trans h.own

theorem TalSends.keeps {α : Type} {n : Nat} {s t : State} (h : TalSends n s t) (f : TalCtx → α) (hf : ∀ c : TalCtx, f c.receiving = f c) :
    f (t.tctx n) = f (s.tctx n) := by
  rw [← hf, h.own, hf]

theorem talWrites_transmit (s : State) (i : Nat) (m : Msg) : TalWrites s (transmit s i m) where
  onlyIn := (onlyIn_transmit s i m).mono (by decide)
  rx := transmit_rx s i m
  reg p off _ := State.regN_congr (transmit_regs s i m) p off
  stage := congrArg (field · 3 0) (State.regN_congr (transmit_regs s i m) talPage 0x014)

theorem talSends_transmit (n : Nat) (s : State) (i : Nat) (m : Msg) : TalSends n s (transmit s i m) where
  writes := talWrites_transmit s i m
  others _ _ := transmit_tctx ..
  own := by rw [transmit_tctx]

/-- The count of OPEN contexts is a field of TAL.STAGE beside the stage. -/
theorem setTctx_stage (s : State) (n : Nat) (c : TalCtx) : (s.setTctx n c).stage347 = s.stage347 := by
  unfold State.setTctx State.stage347
  rw [State.regN_setField_self _ _ _ _ _ (by decide) (by decide), field_putField_ne _ _ (by decide) (by decide)]
  rfl

theorem setTctx_regN (s : State) (n : Nat) (c : TalCtx) {p : Page} {off : Nat} (h : p.key off ≠ talPage.key 0x014) :
    (s.setTctx n c).regN p off = s.regN p off := by
  unfold State.setTctx
  exact State.regN_setField_ne _ _ _ _ h

theorem talWrites_setTctx (s : State) (n : Nat) (c : TalCtx) : TalWrites s (s.setTctx n c) where
  onlyIn := (OnlyIn.refl s).setTctx.mono (by decide)
  rx _ := rfl
  reg p off hk := setTctx_regN s n c hk
  stage := setTctx_stage s n c

theorem talSends_setTctx (s : State) {n : Nat} {c : TalCtx} (h : c.receiving = (s.tctx n).receiving) : TalSends n s (s.setTctx n c) where
  writes := talWrites_setTctx s n c
  others m hm := by rw [State.tctx_setTctx, if_neg hm]
  own := by rw [State.tctx_setTctx, if_pos rfl, h]

/-- A context after the next message of its queue has left. -/
def sentCtx (s : State) (n : Nat) (m : Msg) (rest : List Msg) : TalCtx :=
  { answered (s.tctx n) with
    queue := rest, txNext := psnNext (s.tctx n).txNext
    unacked := (s.tctx n).unacked ++ [⟨stamp s n { m with psn := (s.tctx n).txNext }, s.tick, 0, false⟩] }

theorem pump_of_empty {s : State} {n fuel : Nat} (h : (s.tctx n).queue = []) : pump s n fuel = s := by
  cases fuel with
  | zero => rfl
  | succ fuel =>
    unfold pump
    dsimp only
    rw [h]

theorem pump_of_full {s : State} {n fuel : Nat} (h : min (s.tctx n).cwnd s.cwndMax ≤ (s.tctx n).unacked.length) : pump s n fuel = s := by
  cases fuel with
  | zero => rfl
  | succ fuel =>
    unfold pump
    dsimp only
    split
    · rfl
    · exact if_pos h

theorem pump_of_room {s : State} {n fuel : Nat} {m : Msg} {rest : List Msg} (hqueue : (s.tctx n).queue = m :: rest)
    (hroom : (s.tctx n).unacked.length < min (s.tctx n).cwnd s.cwndMax) :
    pump s n (fuel + 1) = pump (transmit (s.setTctx n (sentCtx s n m rest)) (s.tctx n).port
      (stamp s n { m with psn := (s.tctx n).txNext })) n fuel := by
  rw [pump]
  dsimp only
  rw [hqueue]
  exact if_neg (by omega)

/-- A context's queue leaves message by message. -/
theorem talSends_pump (n fuel : Nat) (s : State) : TalSends n s (pump s n fuel) := by
  induction fuel generalizing s with
  | zero => exact .refl n s
  | succ fuel ih =>
    by_cases hroom : min (s.tctx n).cwnd s.cwndMax ≤ (s.tctx n).unacked.length
    · rw [pump_of_full hroom]
      exact .refl n s
    · cases hqueue : (s.tctx n).queue with
      | nil =>
        rw [pump_of_empty hqueue]
        exact .refl n s
      | cons m rest =>
        rw [pump_of_room hqueue (by omega)]
        exact (TalSends.trans (talSends_setTctx s (c := sentCtx s n m rest) rfl) (talSends_transmit n _ _ _)).trans (ih _)

/-- A context with one more message in its queue. -/
def queuedCtx (s : State) (n : Nat) (m : Msg) : TalCtx := { s.tctx n with queue := (s.tctx n).queue ++ [m] }

theorem sendMsg_eq (s : State) (n : Nat) (m : Msg) :
    sendMsg s n m = pump (s.setTctx n (queuedCtx s n m)) n ((s.tctx n).queue.length + 1) := rfl

theorem talSends_sendMsg (s : State) (n : Nat) (m : Msg) : TalSends n s (sendMsg s n m) :=
  (talSends_setTctx s (c := queuedCtx s n m) rfl).trans (talSends_pump n _ _)

/-! ### A message that leaves at once -/

theorem State.cwndMax_of_regN {s t : State} (h : t.regN talPage 0x108 = s.regN talPage 0x108) : t.cwndMax = s.cwndMax := by
  rw [State.cwndMax, h, State.cwndMax]

/-- The last of a context's unacknowledged messages is a copy of `m` under the next PSN. -/
def LastSent (s t : State) (n : Nat) (m : Msg) : Prop :=
  ∃ e : Unacked, (t.tctx n).unacked = (s.tctx n).unacked ++ [e] ∧ e.msg.cls = m.cls ∧ e.msg.resp = m.resp ∧ e.msg.tag = m.tag ∧
    e.msg.len = m.len ∧ e.msg.data = m.data ∧ e.msg.psn = (s.tctx n).txNext

/-- With nothing before it and a window that is open, a message leaves at once (R353). -/
theorem sendMsg_of_room {s : State} {n : Nat} (m : Msg) (hqueue : (s.tctx n).queue = [])
    (hroom : (s.tctx n).unacked.length < min (s.tctx n).cwnd s.cwndMax) : LastSent s (sendMsg s n m) n m := by
  obtain ⟨t, ht⟩ : ∃ t, t = s.setTctx n (queuedCtx s n m) := ⟨_, rfl⟩
  have hown : t.tctx n = queuedCtx s n m := by rw [ht, State.tctx_setTctx, if_pos rfl]
  have hmax : t.cwndMax = s.cwndMax := by
    rw [ht]
    exact State.cwndMax_of_regN (setTctx_regN s n _ (by decide))
  have hlist : (t.tctx n).queue = [m] := by
    rw [hown]
    show (s.tctx n).queue ++ [m] = [m]
    rw [hqueue]
    rfl
  have hopen : (t.tctx n).unacked.length < min (t.tctx n).cwnd t.cwndMax := by
    rw [hown, hmax]
    exact hroom
  have hsent := pump_of_room (fuel := 0) hlist hopen
  rw [sendMsg_eq, ← ht, hqueue]
  refine ⟨⟨stamp t n { m with psn := (t.tctx n).txNext }, t.tick, 0, false⟩, ?_, rfl, rfl, rfl, rfl, rfl, ?_⟩
  · show ((pump t n (0 + 1)).tctx n).unacked = _
    rw [hsent]
    show ((transmit _ _ _).tctx n).unacked = _
    rw [transmit_tctx, State.tctx_setTctx, if_pos rfl]
    show (t.tctx n).unacked ++ _ = _
    rw [hown]
    rfl
  · show (t.tctx n).txNext = _
    rw [hown]
    rfl

/-- A request's answer leaves at once (R355). -/
theorem respond_of_room {s : State} {n : Nat} (req : Msg) (len data : Nat) (hqueue : (s.tctx n).queue = [])
    (hroom : (s.tctx n).unacked.length < min (s.tctx n).cwnd s.cwndMax) : Answers s (respond s n req len data) n req len data := by
  obtain ⟨e, hlast, hcls, hresp, htag, hlen, hdata, hpsn⟩ := sendMsg_of_room
    { cls := req.cls, resp := true, tc := tcOf req.cls, tag := req.tag, len := len, data := data } hqueue hroom
  exact ⟨e, hlast, hcls, hresp, htag, hlen, hdata, hpsn⟩

end Sys2Proof.Machine
end

section
/-! SUPPORT. Halts of many contexts (R98, R101): which contexts stop, and what a halt never touches. -/

namespace Sys2Proof.Machine

/-! ### A context that has been told to halt -/

/-- A context after HALT_REQ: a RUNNING one is HALTING, any other is as it was. -/
def Context.stopped (k : Context) : Context := { k with mode := if k.mode = .running then .halting else k.mode }

theorem Context.stopped_of_running {k : Context} (h : k.mode = .running) : k.stopped = { k with mode := .halting } := by
  rw [Context.stopped, if_pos h]

theorem Context.stopped_of_not_running {k : Context} (h : k.mode ≠ .running) : k.stopped = k := by
  rw [Context.stopped, if_neg h]

theorem Context.stopped_mode_ne (k : Context) : k.stopped.mode ≠ .running := by
  rw [Context.stopped]
  dsimp only
  split
  · exact nofun
  · assumption

theorem Context.stopped_stopped (k : Context) : k.stopped.stopped = k.stopped := Context.stopped_of_not_running k.stopped_mode_ne

/-- The contexts that `who` names have been told to halt, and no other has changed. -/
structure Halts (who : CoreId → Ctx → Prop) (s t : State) : Prop where
  onlyIn : OnlyIn s t [.cores, .regs, .counters, .logs]
  reg : ∀ (p : Page) (off : Nat), off < 0x1000 → (∀ id x, who id x → p.base ≠ (corePage id).base) → t.regN p off = s.regN p off
  named : ∀ id x, who id x → (t.core id).ctx x = ((s.core id).ctx x).stopped
  others : ∀ id x, ¬ who id x → (t.core id).ctx x = (s.core id).ctx x
  apart : ∀ id, (∀ x, ¬ who id x) → t.core id = s.core id

theorem Halts.refl (s : State) : Halts (fun _ _ => False) s s :=
  ⟨(OnlyIn.refl s).mono (by decide), fun _ _ _ _ => rfl, fun _ _ h => h.elim, fun _ _ _ => rfl, fun _ _ => rfl⟩

theorem Halts.trans {A B : CoreId → Ctx → Prop} {s t r : State} (h : Halts A s t) (g : Halts B t r) :
    Halts (fun id x => A id x ∨ B id x) s r where
  onlyIn := (h.onlyIn.trans g.onlyIn).mono (by decide)
  reg p off hoff hp := (g.reg p off hoff fun id x hb => hp id x (.inr hb)).trans (h.reg p off hoff fun id x ha => hp id x (.inl ha))
  named id x hwho := by
    by_cases ha : A id x
    · by_cases hb : B id x
      · rw [g.named id x hb, h.named id x ha, Context.stopped_stopped]
      · rw [g.others id x hb, h.named id x ha]
    · rw [g.named id x (hwho.resolve_left ha), h.others id x ha]
  others id x hwho := by rw [g.others id x fun hb => hwho (.inr hb), h.others id x fun ha => hwho (.inl ha)]
  apart id hwho := by rw [g.apart id fun x hb => hwho x (.inr hb), h.apart id fun x ha => hwho x (.inl ha)]

theorem Halts.congr {A B : CoreId → Ctx → Prop} {s t : State} (h : Halts A s t) (hab : ∀ id x, B id x ↔ A id x) : Halts B s t :=
  ⟨h.onlyIn, fun p off hoff hp => h.reg p off hoff fun id x ha => hp id x ((hab id x).mpr ha), fun id x hb => h.named id x ((hab id x).mp hb), fun id x hb => h.others id x fun ha => hb ((hab id x).mpr ha),
    fun id hb => h.apart id fun x ha => hb x ((hab id x).mpr ha)⟩

theorem Halts.foldl {α : Type} {A : α → CoreId → Ctx → Prop} {f : State → α → State} (hf : ∀ s a, Halts (A a) s (f s a)) (s : State)
    (l : List α) : Halts (fun id x => ∃ a ∈ l, A a id x) s (l.foldl f s) := by
  induction l generalizing s with
  | nil => exact (Halts.refl s).congr (by simp)
  | cons a l ih => exact ((hf s a).trans (ih (f s a))).congr (by simp)

/-- Nothing that a halt writes lies on a page of another block. -/
theorem corePage_key_ne {p : Page} {a b : Nat} {id : CoreId} (hp : p.base ≠ (corePage id).base) (ha : a < 0x1000) (hb : b < 0x1000) :
    p.key a ≠ (corePage id).key b := Page.key_ne_of_base hp ha hb

/-- HALT_REQ of one context. -/
theorem halts_haltCtx (s : State) (id : CoreId) (x : Ctx) (cause : Nat) (access : Bool) (addr slot : Nat) :
    Halts (fun i y => i = id ∧ y = x) s (haltCtx s id x cause access addr slot) := by
  by_cases hrun : ((s.core id).ctx x).mode = .running
  · rw [haltCtx_of_running s id x cause access addr slot hrun]
    have hcore (i : CoreId) : ((((((s.setCore id ((s.core id).halting x)).setRegN (corePage id) (ctxOff x 0x0C) (b2n access * 256 + cause)).setRegN
        (corePage id) (ctxOff x 0x10) addr).setRegN (corePage id) (ctxOff x 0x14) slot).bump (corePage id) 5).core i) =
        if i = id then (s.core id).halting x else s.core i := by
      rw [State.bump_core]
      exact State.core_setCore s id ((s.core id).halting x) i
    refine ⟨(OnlyIn.refl s).setCore.setRegN.setRegN.setRegN.bump.mono (by decide), fun p off hoff hp => ?_, ?_, ?_, ?_⟩
    · have hne {o : Nat} (ho : o < 0x40) : p.key off ≠ (corePage id).key (ctxOff x o) :=
        corePage_key_ne (hp id x ⟨rfl, rfl⟩) hoff (by have := ctxOff_lt x ho; omega)
      rw [State.regN_bump, State.regN_setRegN_ne _ _ (hne (by decide)), State.regN_setRegN_ne _ _ (hne (by decide)),
        State.regN_setRegN_ne _ _ (hne (by decide))]
      rfl
    · rintro i y ⟨rfl, rfl⟩
      rw [hcore, if_pos rfl, Core.halting_ctx, if_pos rfl, Context.stopped_of_running hrun]
    · intro i y hne
      rw [hcore]
      split
      case isTrue hi => rw [Core.halting_ctx, if_neg fun hy => hne ⟨hi, hy⟩, hi]
      case isFalse => rfl
    · intro i hne
      rw [hcore, if_neg fun hi => hne x ⟨hi, rfl⟩]
  · have hregs : (haltCtx s id x cause access addr slot).regs = s.regs := by
      unfold haltCtx
      dsimp only
      split
      · rfl
      · exact State.bump_regs ..
      · exact State.bump_regs ..
      · exact absurd ‹_› hrun
    have hcore (i : CoreId) := haltCtx_core_of_not_running s id x cause access addr slot hrun i
    refine ⟨?_, fun p off _ _ => State.regN_congr hregs p off, ?_, ?_, fun i _ => hcore i⟩
    · unfold haltCtx
      dsimp only
      split
      · exact (OnlyIn.refl s).mono (by decide)
      · exact (OnlyIn.refl s).bump.mono (by decide)
      · exact (OnlyIn.refl s).bump.mono (by decide)
      · exact absurd ‹_› hrun
    · rintro i y ⟨rfl, rfl⟩
      rw [hcore, Context.stopped_of_not_running hrun]
    · intro i y _
      rw [hcore]

/-- Nothing that a halt writes lies on a page outside the cores. -/
theorem Halts.regOutside {who : CoreId → Ctx → Prop} {s t : State} (h : Halts who s t) (p : Page) {off : Nat} (hoff : off < 0x1000)
    (hp : ∀ id, p.base ≠ (corePage id).base) : t.regN p off = s.regN p off := h.reg p off hoff fun id _ _ => hp id

theorem halts_haltStep (s : State) (id : CoreId) (x : Option Ctx) (cause : Nat) (access : Bool) (addr slot : Nat) (y : Ctx) :
    Halts (fun i z => i = id ∧ z = y) s (haltStep id x cause access addr slot s y) := by
  unfold haltStep
  split
  · exact halts_haltCtx ..
  · split
    · exact halts_haltCtx ..
    · rename_i hrun
      have hmode : ((s.core id).ctx y).mode ≠ .running := by simpa using hrun
      refine ⟨(OnlyIn.refl s).mono (by decide), fun _ _ _ _ => rfl, ?_, fun _ _ _ => rfl, fun _ _ => rfl⟩
      rintro i z ⟨rfl, rfl⟩
      rw [Context.stopped_of_not_running hmode]

theorem mem_allCtx (x : Ctx) : x ∈ allCtx := by cases x <;> decide

/-- The halt of a core halts its three contexts. -/
theorem halts_haltCore (s : State) (id : CoreId) (x : Option Ctx) (cause : Nat) (access : Bool) (addr slot : Nat) :
    Halts (fun i _ => i = id) s (haltCore s id x cause access addr slot) := by
  rw [haltCore_eq]
  refine (Halts.foldl (fun s y => halts_haltStep s id x cause access addr slot y) s allCtx).congr fun i z => ?_
  exact ⟨fun h => ⟨z, mem_allCtx z, h, rfl⟩, fun ⟨_, _, h, _⟩ => h⟩

/-! ### The cores of clusters -/

theorem mem_coresOf (id : CoreId) (cs : List Nat) (hcs : ∀ c ∈ cs, c < 40) : id ∈ coresOf cs ↔ id.cluster.val ∈ cs := by
  obtain ⟨⟨c, hc⟩, ⟨k, hk⟩⟩ := id
  simp only [coresOf, List.mem_flatMap, List.mem_map, List.mem_range, coreOfIdx, CoreId.mk.injEq, Fin.mk.injEq]
  constructor
  · rintro ⟨a, ha, b, hb, h1, h2⟩
    have := hcs a ha
    rwa [show c = a by omega]
  · intro h
    exact ⟨c, h, k, hk, by omega, by omega⟩

theorem mem_coresOf_all (id : CoreId) : id ∈ coresOf (List.range 40) :=
  (mem_coresOf id _ fun _ hc => List.mem_range.mp hc).mpr (List.mem_range.mpr id.cluster.isLt)

/-- HALT_ALL of every core of the clusters. -/
theorem halts_haltClusters_list (s : State) (cs : List Nat) : Halts (fun i _ => i ∈ coresOf cs) s (haltClusters s cs) :=
  (Halts.foldl (fun s id => halts_haltCore s id none causeExternal false 0 noSlot) s (coresOf cs)).congr fun i _ =>
    ⟨fun h => ⟨i, h, rfl⟩, fun ⟨_, h, e⟩ => e ▸ h⟩

theorem halts_haltClusters (s : State) (cs : List Nat) (hcs : ∀ c ∈ cs, c < 40) :
    Halts (fun i _ => i.cluster.val ∈ cs) s (haltClusters s cs) :=
  (halts_haltClusters_list s cs).congr fun i _ => (mem_coresOf i cs hcs).symm

theorem halts_haltClusters_all (s : State) : Halts (fun _ _ => True) s (haltClusters s (List.range 40)) :=
  (halts_haltClusters s _ fun _ hc => List.mem_range.mp hc).congr fun i _ => ⟨fun _ => List.mem_range.mpr i.cluster.isLt, fun _ => trivial⟩

theorem Halts.halting {who : CoreId → Ctx → Prop} {s t : State} (h : Halts who s t) {id : CoreId} {x : Ctx} (hwho : who id x)
    (hrun : ((s.core id).ctx x).mode = .running) : ((t.core id).ctx x).mode = .halting := by
  rw [h.named id x hwho, Context.stopped_of_running hrun]

/-- A context that is HALTING stays so while others are told to halt. -/
theorem Halts.stays {who : CoreId → Ctx → Prop} {s t : State} (h : Halts who s t) {id : CoreId} {x : Ctx}
    (hmode : ((s.core id).ctx x).mode = .halting) : ((t.core id).ctx x).mode = .halting := by
  by_cases hwho : who id x
  · rw [h.named id x hwho, Context.stopped_of_not_running (by rw [hmode]; exact nofun), hmode]
  · rw [h.others id x hwho, hmode]

/-! ### Kills of jobs (R399, R426) -/

/-- The next kill of a list halts its job's cores and writes nothing but what a halt writes and the kills. -/
theorem nextKill_halts (s : State) : ∃ A t, t.cores = s.cores ∧ Halts A t (nextKill s) ∧ OnlyIn s t [.cont] := by
  cases hkills : s.cont.kills with
  | nil =>
    refine ⟨fun _ _ => False, s, rfl, ?_, (OnlyIn.refl s).mono (by decide)⟩
    rw [nextKill, hkills]
    exact Halts.refl s
  | cons job rest =>
    refine ⟨fun i _ => i ∈ coresOf (s.jobClusters job.1 job.2), { s with cont.kill := some (job.1, job.2, s.tick), cont.kills := rest }, rfl, ?_, (OnlyIn.refl s).putCont.mono (by decide)⟩
    rw [nextKill, hkills]
    exact halts_haltClusters_list _ (s.jobClusters job.1 job.2)

/-- A kill of every job halts every core, and writes nothing but what a halt writes and the kills. -/
theorem killAll_halts (s : State) : AllHalt s (killAll s) (fun _ => True) ∧ OnlyIn s (killAll s) [.cores, .regs, .counters, .logs, .cont] := by
  unfold killAll
  dsimp only
  generalize hq : (if s.cont.warm.isSome then [] else ((List.range 40).map fun c => (s.clusterPart c, s.clusterJob c)).eraseDups) = q
  have hhalts := halts_haltClusters_all { s with cont.kills := q }
  generalize haltClusters { s with cont.kills := q } (List.range 40) = r at hhalts ⊢
  have hfirst : AllHalt s r fun _ => True := fun _ _ _ hrun => hhalts.halting trivial hrun
  have honly : OnlyIn s r [.cores, .regs, .counters, .logs, .cont] := ((OnlyIn.refl s).putCont.trans hhalts.onlyIn).mono (by decide)
  split
  · exact ⟨hfirst, honly⟩
  · obtain ⟨A, t, hcores, hnext, hcont⟩ := nextKill_halts r
    refine ⟨fun id x hwho hrun => hnext.stays ?_, ((honly.trans hcont).trans hnext.onlyIn).mono (by decide)⟩
    unfold State.core
    rw [hcores]
    exact hfirst id x hwho hrun

end Sys2Proof.Machine
end

section
/-! SUPPORT. Removal, from the button to SAFE (R419, R424, R426, R427). -/

namespace Sys2Proof.Machine

/-! ### Management answers that leave at once (R418) -/

/-- The state without the operation that is complete. -/
def mgtTaken (s : State) : State := { s with sec.mgt := none }

theorem takeMgt_of_ready {s : State} {n : Nat} {k : MgtOp} {op : Nat} (h : MgtReady s n k op) :
    takeMgt s op = some (k, mgtTaken s) := by
  obtain ⟨hmgt, -, hcomplete, hop, -⟩ := h
  simp [takeMgt, mgtTaken, hmgt, hcomplete, hop]

theorem MgtReady.part {s t : State} {n : Nat} {k : MgtOp} {op : Nat} (h : MgtReady s n k op) (ht : t.net = s.net) :
    k.part t = (s.tctx n).part := by
  obtain ⟨-, hctx, -⟩ := h
  rw [MgtOp.part, hctx]
  exact congrArg TalCtx.part (State.tctx_of_ctxs (congrArg (·.ctxs) ht) n)

theorem MgtOp.answer_eq (k : MgtOp) {n : Nat} (h : k.ctx = some n) (s : State) (status : Nat) : k.answer s status =
    respond s n { cls := 7, tag := k.tag } 8 (mgtData k.op status 0 0 0) := by
  rw [MgtOp.answer, sendAnswer_empty, h]
  rfl

theorem talSends_answer (k : MgtOp) {n : Nat} (h : k.ctx = some n) (s : State) (status : Nat) : TalSends n s (k.answer s status) := by
  rw [k.answer_eq h]
  exact talSends_sendMsg ..

/-- The answer of an operation whose context can send at once. -/
theorem mgtAnswers_of_ready {s t : State} {n : Nat} {k : MgtOp} {op : Nat} (h : MgtReady s n k op) (hctx : t.tctx n = s.tctx n)
    (hmax : t.cwndMax = s.cwndMax) (hmgt : t.sec.mgt = none) (status : Nat) :
    MgtAnswers s (k.answer t status) n k status 0 0 ∧ TalSends n t (k.answer t status) := by
  obtain ⟨-, hkctx, -, -, hqueue, hroom⟩ := h
  have hsends := talSends_answer k hkctx t status
  refine ⟨⟨?_, ?_⟩, hsends⟩
  · exact (congrArg Security.mgt hsends.writes.sec).trans hmgt
  · rw [k.answer_eq hkctx]
    have hans := respond_of_room (s := t) (n := n) { cls := 7, tag := k.tag } 8 (mgtData k.op status 0 0 0)
      (by rw [hctx, hqueue]) (by rw [hctx, hmax]; exact hroom)
    rw [Answers, hctx] at hans
    simpa [Answers, mgtData] using hans

/-! ### Closing contexts (R346, R426) -/

theorem talWrites_sendClose (s : State) (n reason step : Nat) : TalWrites s (sendClose s n reason step) :=
  (talSends_sendMsg s n _).writes.trans (talWrites_setTctx _ n _)

theorem talWrites_closePeers (s : State) (step : Nat) : TalWrites s (closePeers s step) := by
  unfold closePeers
  refine TalWrites.foldl ?_ s _
  intro t e
  exact talWrites_sendClose t e.1 1 step

/-- A closed context is CLOSING; no other context changes. -/
theorem sendClose_st (s : State) (n reason step m : Nat) : ((sendClose s n reason step).tctx m).st = if m = n then 2 else (s.tctx m).st := by
  have hsends := talSends_sendMsg s n { cls := 6, tc := 3, len := 4, data := 4 + reason * 2 ^ 8 + step * 2 ^ 16 }
  unfold sendClose
  dsimp only
  rw [State.tctx_setTctx]
  split
  · rfl
  · rw [hsends.others m ‹_›]

theorem sendCloses_st (reason step n : Nat) (l : List (Nat × TalCtx)) (s : State) :
    ((l.foldl (fun s e => sendClose s e.1 reason step) s).tctx n).st = if n ∈ l.map Prod.fst then 2 else (s.tctx n).st := by
  induction l generalizing s with
  | nil => rfl
  | cons e l ih =>
    rw [List.foldl_cons, ih, sendClose_st, List.map_cons]
    simp only [List.mem_cons]
    by_cases he : n = e.1
    · simp [he]
    · simp only [he, false_or, if_false]

theorem SMap.mem_of_get {α : Type} {m : SMap α} {k : Nat} {v : α} (h : SMap.get m k = some v) : (k, v) ∈ m := by
  induction m with
  | nil => cases h
  | cons e m ih =>
    rw [SMap.get] at h
    split at h
    · rename_i hk
      rw [hk, ← Option.some.inj h]
      exact List.mem_cons_self
    · exact List.mem_cons_of_mem e (ih h)

/-- A context that is not FREE stands in the context memory. -/
theorem mem_ctxs_of_st {s : State} {n : Nat} (h : (s.tctx n).st ≠ 0) : (n, s.tctx n) ∈ s.net.ctxs := by
  unfold State.tctx SMap.getD at h ⊢
  cases hget : SMap.get s.net.ctxs n with
  | none => exact absurd (by rw [hget]; rfl) h
  | some c => exact SMap.mem_of_get hget

/-! ### A removal that starts (R426) -/

/-- The pages of the core block come before the module's. -/
theorem corePage_base_lt (id : CoreId) : (corePage id).base < 0xA00000 := by
  have hcluster := id.cluster.isLt
  have hcore := id.core.isLt
  simp only [corePage, coreIdx, Page.base]
  omega

theorem base_ne_corePage {p : Page} (h : 0xA00000 ≤ p.base) (id : CoreId) : p.base ≠ (corePage id).base :=
  fun he => absurd (corePage_base_lt id) (by omega)

/-- A removal has started: DRAINING is entered, the step and the cause stand in RM_STEP, and the F contexts halt. -/
structure RemovalStarted (s t : State) (cause : Nat) : Prop where
  removal : t.sec.removal = 1
  since : t.sec.removalAt = s.tick
  step : t.regN edgePage 0x100 = s.frontStep * 2 ^ 16 + cause
  raised : bitAt (t.regN edgePage 0x018) 0 = true
  stage : s.isRetired = false → t.stage347 = stDraining
  mem : t.mem = s.mem
  forward : ∀ id : CoreId, ((s.core id).ctx .f).mode = .running → ((t.core id).ctx .f).mode = .halting
  rest : ∀ id : CoreId, ((t.core id).ctx .b) = ((s.core id).ctx .b) ∧ ((t.core id).ctx .u) = ((s.core id).ctx .u)

/-- What a removal's start reads of the state. -/
theorem RemovalStarted.of_eq {s s' t : State} {cause : Nat} (h : RemovalStarted s' t cause) (htick : s'.tick = s.tick)
    (hregs : s'.regs = s.regs) (hmem : s'.mem = s.mem) (hcores : ∀ id, s'.core id = s.core id) : RemovalStarted s t cause where
  removal := h.removal
  since := h.since.trans htick
  step := by rw [h.step, State.frontStep, State.frontStep, State.regN_congr hregs]
  raised := h.raised
  stage hr := h.stage (by rw [State.isRetired, State.regN_congr hregs]; exact hr)
  mem := h.mem.trans hmem
  forward id hrun := h.forward id (by rw [hcores]; exact hrun)
  rest id := by
    rw [← hcores id]
    exact h.rest id

theorem State.core_congr {s t : State} (h : t.cores = s.cores) (id : CoreId) : t.core id = s.core id := by
  unfold State.core
  rw [h]

/-- An answer leaves a started removal as it is. -/
theorem RemovalStarted.trans {s t r : State} {cause : Nat} (h : RemovalStarted s t cause) (g : TalWrites t r) : RemovalStarted s r cause := by
  have hsec : r.sec = t.sec := g.onlyIn .sec (by decide)
  have hcores : r.cores = t.cores := g.onlyIn .cores (by decide)
  have hcore (id : CoreId) : r.core id = t.core id := State.core_congr hcores id
  refine ⟨by rw [hsec, h.removal], by rw [hsec, h.since], ?_, ?_, fun hr => g.stage.trans (h.stage hr), ?_, fun id hrun => ?_, fun id => ?_⟩
  · rw [g.reg _ _ (by decide), h.step]
  · rw [g.reg _ _ (by decide), h.raised]
  · exact (g.onlyIn .mem (by decide)).trans h.mem
  · rw [hcore]
    exact h.forward id hrun
  · rw [hcore]
    exact h.rest id

/-- The state whose registers name the removal, before any context halts. -/
def removalNamed (s : State) (cause : Nat) : State := (s.bump edgePage 0).setRegN edgePage 0x100 (s.frontStep * 2 ^ 16 + cause)

/-- The stage during a removal: a retired module keeps its own. -/
def removalStaged (s : State) (cause : Nat) : State :=
  if s.isRetired then removalNamed s cause else (removalNamed s cause).enterStage stDraining

/-- HALT_REQ of every F context. -/
theorem halts_haltForward (s : State) : Halts (fun _ x => x = .f) s (haltForward s) := by
  have hone (t : State) (id : CoreId) := halts_haltCtx t id .f causeExternal false ((t.core id).ctx .f).exe.pc noSlot
  refine (Halts.foldl hone s (coresOf (List.range 40))).congr fun id x => ?_
  exact ⟨fun h => ⟨id, mem_coresOf_all id, rfl, h⟩, fun ⟨_, _, _, h⟩ => h⟩

/-- The state in which the F contexts halt and the peers' contexts close. -/
def removalClosing (s : State) (cause : Nat) : State := closePeers (haltForward (removalStaged s cause)) s.frontStep

/-- A removal that is under way. -/
def underWay (t : State) : State := ({ t with sec.removal := 1, sec.removalAt := t.tick } : State).raise edgePage 0

theorem startRemoval_of_none {s : State} {cause : Nat} (h : s.sec.removal = 0) : startRemoval s cause = (underWay (removalClosing s cause), true) := by
  have hstep : (s.bump edgePage 0).frontStep = s.frontStep := by rw [State.frontStep, State.regN_bump, State.frontStep]
  have hretired : (removalNamed s cause).isRetired = s.isRetired := by
    rw [State.isRetired, removalNamed, State.regN_setRegN_ne _ _ (by decide), State.regN_bump, State.isRetired]
  have hnamed : (s.bump edgePage 0).setRegN edgePage 0x100 (s.frontStep * 2 ^ 16 + cause) = removalNamed s cause := rfl
  unfold startRemoval
  dsimp only
  rw [State.bump_sec, hstep, hnamed, hretired, if_neg (by simp [h])]
  unfold underWay removalClosing removalStaged
  rfl

theorem startRemoval_of_some {s : State} (cause : Nat) (h : s.sec.removal ≠ 0) : startRemoval s cause = (s.bump edgePage 0, false) := by
  unfold startRemoval
  dsimp only
  rw [State.bump_sec, if_pos h]

theorem frontStep_lt (s : State) : s.frontStep < 2 ^ 16 := by
  rw [State.frontStep, field]
  exact Nat.mod_lt _ (Nat.two_pow_pos _)

/-- The F contexts are told to halt, the peers' contexts close, and nothing else of the state but registers, counters and logs changes. -/
theorem removalClosing_halts (s : State) (cause : Nat) : OnlyIn s (removalClosing s cause) [.net, .cores, .regs, .counters, .logs] ∧
    (∀ id x, ((removalClosing s cause).core id).ctx x = if x = .f then ((s.core id).ctx x).stopped else (s.core id).ctx x) ∧
    (∀ off, off < 0x1000 → (removalClosing s cause).regN edgePage off = (removalStaged s cause).regN edgePage off) ∧
    (removalClosing s cause).stage347 = (removalStaged s cause).stage347 := by
  have hstaged : OnlyIn s (removalStaged s cause) [.regs, .counters, .logs] :=
    (OnlyIn.ite (OnlyIn.refl s).bump.setRegN (OnlyIn.refl s).bump.setRegN.setField).mono (by decide)
  unfold removalClosing
  generalize removalStaged s cause = a at hstaged ⊢
  have hhalts := halts_haltForward a
  have hcloses := talWrites_closePeers (haltForward a) s.frontStep
  refine ⟨((hstaged.trans hhalts.onlyIn).trans hcloses.onlyIn).mono (by decide), fun id x => ?_, fun off hoff => ?_, ?_⟩
  · rw [State.core_congr (hcloses.onlyIn .cores (by decide)), ← State.core_congr (hstaged .cores (by decide))]
    split
    · exact hhalts.named id x ‹_›
    · exact hhalts.others id x ‹_›
  · rw [hcloses.reg _ _ (Page.key_ne_of_base (by decide) hoff (by decide)), hhalts.regOutside _ hoff (base_ne_corePage (by decide))]
  · rw [hcloses.stage, State.stage347, hhalts.regOutside _ (by decide) (base_ne_corePage (by decide)), State.stage347]

theorem removalStaged_regs (s : State) (cause : Nat) :
    (removalStaged s cause).regN edgePage 0x100 = (s.frontStep * 2 ^ 16 + cause) % 2 ^ 32 ∧
      (s.isRetired = false → (removalStaged s cause).stage347 = stDraining) := by
  unfold removalStaged
  split
  · exact ⟨State.regN_setRegN_self .., fun h => absurd h (by simp [*])⟩
  · refine ⟨?_, fun _ => ?_⟩
    · rw [State.enterStage, State.regN_setField_ne _ _ _ _ (by decide)]
      exact State.regN_setRegN_self ..
    · rw [State.stage347, State.enterStage, State.regN_setField_self _ _ _ _ _ (by decide) (by decide),
        field_putField_self _ _ (by decide) (by decide)]
      rfl

theorem underWay_started (s : State) {cause : Nat} (hcause : cause < 2 ^ 16) : RemovalStarted s (underWay (removalClosing s cause)) cause := by
  obtain ⟨honly, hctx, hreg, hstage⟩ := removalClosing_halts s cause
  obtain ⟨hnamed, hdraining⟩ := removalStaged_regs s cause
  have hfront := frontStep_lt s
  rw [← hreg _ (by decide)] at hnamed
  rw [← hstage] at hdraining
  generalize removalClosing s cause = b at honly hctx hnamed hdraining ⊢
  refine ⟨rfl, honly .tick (by decide), ?_, State.bitAt_raise_self _ _ (by decide), fun hretired => ?_, honly .mem (by decide), fun id hrun => ?_,
    fun id => ?_⟩
  · rw [underWay, State.regN_raise_ne _ _ (by decide)]
    exact hnamed.trans (Nat.mod_eq_of_lt (by omega))
  · rw [underWay, State.stage347, State.regN_raise_ne _ _ (by decide)]
    exact hdraining hretired
  · have h := hctx id .f
    rw [if_pos rfl, Context.stopped_of_running hrun] at h
    exact congrArg Context.mode h
  · exact ⟨hctx id .b, hctx id .u⟩

/-! ### Requests for a removal -/

theorem mgtRemove_of_ready {s : State} {n : Nat} {k : MgtOp} (h : MgtReady s n k 9) : mgtRemove s =
    if (s.tctx n).part = s.flash.admin then
      if s.sec.removal = 0 then k.answer (underWay (removalClosing (mgtTaken s) 2)) mgtOk
      else k.answer ((mgtTaken s).bump edgePage 0) mgtState
    else k.answer (mgtTaken s) mgtNotAdmin := by
  have hpart : k.isAdmin (mgtTaken s) = ((s.tctx n).part == s.flash.admin) :=
    congrArg (· == s.flash.admin) (h.part (t := (mgtTaken s)) rfl)
  unfold mgtRemove
  rw [takeMgt_of_ready h]
  dsimp only
  rw [hpart]
  by_cases hadmin : (s.tctx n).part = s.flash.admin
  · rw [if_pos hadmin, if_neg (by simp [hadmin])]
    by_cases hnone : s.sec.removal = 0
    · rw [if_pos hnone, startRemoval_of_none (s := (mgtTaken s)) hnone]
    · rw [if_neg hnone, startRemoval_of_some (s := (mgtTaken s)) 2 hnone]
  · rw [if_neg hadmin, if_pos (by simp [hadmin])]

theorem writeReg_edgeCtrl {s s1 : State} {who : Requester} {v : Word} (h : WriteReaches s s1 edgePage 0x010 who v.toNat) :
    writeReg s edgePage 0x010 who v = if bitAt v.toNat 1
      then (startRemoval ((seenBy s who).setRegN edgePage 0x010 (v.toNat % 2)) 2).1
      else (seenBy s who).setRegN edgePage 0x010 (v.toNat % 2) := by
  rw [writeReg_of_reaches h (by decide) (by decide), pageWrite_ctrl _ _ _ _ _ rfl rfl]
  rfl

/-- EDGE.CTRL holds no field that a removal reads. -/
theorem RemovalStarted.of_edgeCtrl {s t : State} {who : Requester} {v cause : Nat}
    (h : RemovalStarted ((seenBy s who).setRegN edgePage 0x010 v) t cause) : RemovalStarted s t cause where
  removal := h.removal
  since := h.since.trans (seenBy_tick s who)
  step := by rw [h.step, State.frontStep, State.regN_setRegN_ne _ _ (by decide), seenBy_regN, State.frontStep]
  raised := h.raised
  stage hr := h.stage (by rw [State.isRetired, State.regN_setRegN_ne _ _ (by decide), seenBy_regN]; exact hr)
  mem := h.mem.trans (seenBy_mem s who)
  forward id hrun := h.forward id (by
    show (((seenBy s who).core id).ctx .f).mode = .running
    rw [State.core_congr (seenBy_cores s who)]
    exact hrun)
  rest id := by
    rw [← State.core_congr (seenBy_cores s who)]
    exact h.rest id

theorem removalRequest_of_button {s : State} {b : Nat} (hbutton : s.sec.button = some b) (hasked : s.sec.asked = false) :
    removalRequest s = if b + 200000000 ≤ s.tick ∧ s.power.dark = false then
      (if s.power.low || s.power.off then { s with sec.asked := true } else (startRemoval { s with sec.asked := true } 1).1) else s := by
  unfold removalRequest
  rw [hbutton]
  dsimp only
  rw [hasked]
  by_cases hlong : b + 200000000 ≤ s.tick
  · cases s.power.dark <;> simp [hlong]
  · simp [hlong, Nat.lt_of_not_le hlong]

theorem shortPress_of_button {s : State} {b : Nat} (hbutton : s.sec.button = some b) (hasked : s.sec.asked = false) :
    shortPress s = if b + 200000000 ≤ s.tick ∨ s.power.low = true then { s with sec.button := none, sec.asked := false }
      else (({ s with sec.button := none, sec.asked := false } : State).raise edgePage 1).bump edgePage 1 := by
  unfold shortPress
  rw [hbutton]
  dsimp only
  rw [hasked]
  simp

theorem removalStarts : Claims.RemovalStarts := by
  intro s s1 who v started
  have holds {t : State} {cause : Nat} (h : RemovalStarted s t cause) : started t cause :=
    ⟨h.removal, h.since, h.step, h.raised, h.stage, h.mem, h.forward, h.rest⟩
  refine ⟨fun n k hready => ⟨fun hother => ?_, fun hadmin hnone => ?_, fun hadmin hsome => ?_⟩, fun hreach => ⟨fun hbit hnone => ?_, fun hbit => ?_⟩,
    fun hup hdark => ?_, fun hdown => ?_, fun hup => ?_, fun b hbutton hasked => ⟨fun hlong hdark hlow hoff hnone => ?_, fun hlong hdark hlost => ?_,
    fun hshort => ?_, fun hshort hlow => ?_, fun hlong => ?_⟩⟩
  · obtain ⟨hanswers, hsends⟩ := mgtAnswers_of_ready (t := mgtTaken s) hready rfl rfl rfl mgtNotAdmin
    exact ⟨_, congrArg Host.Outcome.next ((mgtRemove_of_ready hready).trans (if_neg hother)), hanswers,
      (congrArg Security.removal hsends.writes.sec).trans rfl⟩
  · have hstarted := underWay_started (mgtTaken s) (cause := 2) (by decide)
    exact ⟨_, congrArg Host.Outcome.next ((mgtRemove_of_ready hready).trans ((if_pos hadmin).trans (if_pos hnone))),
      holds ((hstarted.trans (talSends_answer k hready.2.1 _ mgtOk).writes).of_eq rfl rfl rfl fun _ => rfl)⟩
  · have hanswers := mgtAnswers_of_ready (t := (mgtTaken s).bump edgePage 0) hready (State.tctx_of_ctxs (by rw [State.bump_net]; rfl) n)
      (State.cwndMax_of_regN (by rw [State.regN_bump]; rfl)) (by rw [State.bump_sec]; rfl) mgtState
    refine ⟨_, congrArg Host.Outcome.next ((mgtRemove_of_ready hready).trans ((if_pos hadmin).trans (if_neg hsome))), hanswers.1, ?_⟩
    rw [hanswers.2.writes.sec, State.bump_sec]
    rfl
  · have hexec := (writeReg_edgeCtrl hreach).trans (if_pos hbit)
    have hfree : ((seenBy s who).setRegN edgePage 0x010 (v.toNat % 2)).sec.removal = 0 :=
      (seenBy_keep s who (fun t => t.sec.removal) fun _ => rfl).trans hnone
    rw [startRemoval_of_none hfree] at hexec
    exact ⟨_, congrArg Host.Outcome.next hexec, holds (underWay_started _ (by decide)).of_edgeCtrl⟩
  · refine ⟨_, congrArg Host.Outcome.next ((writeReg_edgeCtrl hreach).trans (if_neg (Bool.eq_false_iff.mp hbit))),
      (OnlyIn.refl s).seenBy.setRegN.mono (by decide), ?_, ?_⟩
    · rw [State.regN_setRegN_self]
      omega
    · exact seenBy_keep s who (fun t => t.sec.removal) fun _ => rfl
  · refine ⟨_, congrArg Host.Outcome.next (if_neg ?_), (OnlyIn.refl s).putSec.mono (by decide), rfl⟩
    simp [hup, hdark]
  · refine congrArg Host.Outcome.next (if_pos ?_)
    simp [Option.isSome_iff_ne_none.mpr hdown]
  · refine ⟨congrArg Host.Outcome.next ?_, congrArg Host.Outcome.next ?_⟩
    · unfold removalRequest
      rw [hup]
    · unfold shortPress
      rw [hup]
  · have hexec := (removalRequest_of_button hbutton hasked).trans ((if_pos ⟨hlong, hdark⟩).trans (if_neg (by simp [hlow, hoff])))
    rw [startRemoval_of_none (s := { s with sec.asked := true }) hnone] at hexec
    exact ⟨_, congrArg Host.Outcome.next hexec, holds ((underWay_started _ (by decide)).of_eq rfl rfl rfl fun _ => rfl)⟩
  · exact ⟨_, congrArg Host.Outcome.next ((removalRequest_of_button hbutton hasked).trans ((if_pos ⟨hlong, hdark⟩).trans
      (if_pos (Bool.or_eq_true_iff.mpr hlost)))), (OnlyIn.refl s).putSec.mono (by decide), rfl⟩
  · exact congrArg Host.Outcome.next ((removalRequest_of_button hbutton hasked).trans (if_neg fun h => absurd h.1 (by omega)))
  · refine ⟨_, congrArg Host.Outcome.next ((shortPress_of_button hbutton hasked).trans (if_neg fun h => h.elim (by omega) (by simp [hlow]))),
      (OnlyIn.refl s).putSec.raise.bump.mono (by decide), by rw [State.bump_sec]; rfl, ?_, ?_⟩
    · rw [State.regN_bump, State.bitAt_raise_self _ _ (by decide)]
    · exact State.counter_bumpBy_self ..
  · exact ⟨_, congrArg Host.Outcome.next ((shortPress_of_button hbutton hasked).trans (if_pos (.inl hlong))),
      (OnlyIn.refl s).putSec.mono (by decide), rfl⟩

end Sys2Proof.Machine
end

section
/-! SUPPORT. The end of a removal: draining, SAFE, the latch lever and the tail write (R426, R427). -/

namespace Sys2Proof.Machine

/-! ### Draining (R426) -/

/-- Every B and U context is IDLE and nothing waits: the test of DRAINING_END. -/
def drained (s : State) : Bool :=
  (coresOf (List.range 40)).all (fun id => ((s.core id).ctx .b).mode == .idle && ((s.core id).ctx .u).mode == .idle) &&
    s.crs.hands.isEmpty && s.upd.queue.isEmpty && s.upd.slices.isEmpty

theorem drained_iff (s : State) : drained s = true ↔
    (∀ id : CoreId, ((s.core id).ctx .b).mode = .idle ∧ ((s.core id).ctx .u).mode = .idle) ∧ s.crs.hands = [] ∧ s.upd.queue = [] ∧
      s.upd.slices = [] := by
  have hall : (∀ id ∈ coresOf (List.range 40), ((s.core id).ctx .b).mode = .idle ∧ ((s.core id).ctx .u).mode = .idle) ↔
      ∀ id : CoreId, ((s.core id).ctx .b).mode = .idle ∧ ((s.core id).ctx .u).mode = .idle :=
    ⟨fun h id => h id (mem_coresOf_all id), fun h id _ => h id⟩
  simp only [drained, Bool.and_eq_true, List.all_eq_true, beq_iff_eq, List.isEmpty_iff, and_assoc, hall]

theorem drainingEnd_eq (s : State) : drainingEnd s =
    if s.sec.removal = 1 ∧ (drained s = true ∨ s.sec.removalAt + edgeLimit s ≤ s.tick) then killAll { s with sec.removal := 2 } else s := rfl

/-! ### SAFE (R426) -/

theorem onlyIn_repairMapWrite (s : State) : OnlyIn s (repairMapWrite s) [.mem] := by
  unfold repairMapWrite
  split
  · exact (OnlyIn.refl s).mono (by decide)
  · exact (OnlyIn.refl s).putMem

theorem repairMapWrite_repairSince (s : State) : (repairMapWrite s).mem.repairSince = none := by
  unfold repairMapWrite
  split
  · assumption
  · rfl

/-- The ledger and the repair maps are flushed. -/
def flushed (s : State) : State := repairMapWrite (flushLedger s)

/-- A CLOSE leaves on every OPEN context. -/
def closeAll (s : State) : State := (s.net.ctxs.filter (fun e => e.2.st == 1)).foldl (fun s e => sendClose s e.1 0 0) s

/-- The rails go. -/
def madeSafe (s : State) : State := ({ s with sec.removal := 3, power.off := true } : State).raise edgePage 4

theorem safe_of_flushing {s : State} (h : s.sec.removal = 2) (hkill : s.cont.kill = none) (hkills : s.cont.kills = []) :
    safe s = madeSafe (closeAll (flushed s)) := by
  unfold safe madeSafe closeAll flushed
  exact if_neg (by simp [h, hkill, hkills])

theorem safe_of_not_flushing {s : State} (h : s.sec.removal ≠ 2 ∨ s.cont.kill ≠ none ∨ s.cont.kills ≠ []) : safe s = s := by
  refine if_pos ?_
  rcases h with h | h | h
  · exact .inl h
  · exact .inr (.inl (Option.isSome_iff_ne_none.mpr h))
  · exact .inr (.inr (by simp [h]))

theorem talWrites_closeAll (s : State) : TalWrites s (closeAll s) := by
  unfold closeAll
  refine TalWrites.foldl ?_ s _
  intro t e
  exact talWrites_sendClose t e.1 0 0

theorem closeAll_st {s : State} {n : Nat} (h : (s.tctx n).st = 1) : ((closeAll s).tctx n).st = 2 := by
  have hmem : n ∈ (s.net.ctxs.filter (fun e => e.2.st == 1)).map Prod.fst :=
    List.mem_map.mpr ⟨(n, s.tctx n), List.mem_filter.mpr ⟨mem_ctxs_of_st (by omega), by simp [h]⟩, rfl⟩
  unfold closeAll
  rw [sendCloses_st, if_pos hmem]

/-! ### The tail write (R427) -/

theorem SMap.get_foldl_flash (recs : SMap LedgerRec) (l : List Nat) (m : SMap LedgerRec) (i : Nat) :
    SMap.get (l.foldl (fun m i => match SMap.get recs i with | some r => SMap.set m i r | none => m) m) i =
      if i ∈ l ∧ (SMap.get recs i).isSome then SMap.get recs i else SMap.get m i := by
  induction l generalizing m with
  | nil => simp
  | cons j l ih =>
    rw [List.foldl_cons, ih]
    by_cases hij : i = j
    · subst hij
      cases hrec : SMap.get recs i <;> simp
    · have hsame : SMap.get (match SMap.get recs j with | some r => SMap.set m j r | none => m) i = SMap.get m i := by
        split
        · exact SMap.get_set_ne _ _ hij
        · rfl
      simp only [hsame, List.mem_cons, hij, false_or]

/-- The state after a tail write, before it is counted. -/
def tailWritten (s : State) : State :=
  { s with
    sec.tailDue := false
    flash.alarms := s.flash.alarms ++ [(s.sec.lastAlarm.2, s.sec.lastAlarm.1, s.tick)]
    ledger := { s.ledger with
      flash := (s.ledger.dirty.take 256).foldl
        (fun m i => match SMap.get s.ledger.recs i with | some r => SMap.set m i r | none => m) s.ledger.flash
      dirty := s.ledger.dirty.drop 256, lostTail := (s.ledger.dirty.drop 256).length, flashPowered := s.poweredSeconds } }

theorem onlyIn_tailWritten (s : State) : OnlyIn s (tailWritten s) [.ledger, .flash, .sec] :=
  (((OnlyIn.refl s).putSec (v := (tailWritten s).sec)).putFlash (v := (tailWritten s).flash)).putLedger (v := (tailWritten s).ledger)

theorem tailWrite_of_due {s : State} (hdue : s.sec.tailDue = true) (hdark : s.power.dark = false) :
    tailWrite s = (tailWritten s).bump edgePage 5 := if_neg (by simp [hdue, hdark])

/-! ### The latch lever (R427) -/

/-- The state once the lever has moved. -/
def leverMoved (s : State) (opened : Bool) : State := ({ s with sec.latch := opened } : State).raise edgePage 2

/-- The alarm of a latch that opens outside SAFE. -/
def leverAlarm (s : State) : State := raiseAlarm { s with sec.tailDue := true } 5 2

theorem leverAlarm_sec (s : State) : (leverAlarm ((leverMoved s true).bump edgePage 2)).sec =
    { s.sec with latch := true, tailDue := true, alarms := s.sec.alarms ++ [(5, 2, s.tick)] } := by
  have hsec : ((leverMoved s true).bump edgePage 2).sec = { s.sec with latch := true } := State.bump_sec ..
  have htick : ((leverMoved s true).bump edgePage 2).tick = s.tick := State.bump_tick ..
  generalize (leverMoved s true).bump edgePage 2 = r at hsec htick
  unfold leverAlarm raiseAlarm
  rw [hsec, htick]

theorem latchLever_of_moved {s : State} {opened : Bool} (hlatch : s.sec.latch = !opened) (hdark : s.power.dark = false) : latchLever s opened =
    if opened then
      (if s.sec.removal = 3 then (leverMoved s true).bump edgePage 2 else leverAlarm ((leverMoved s true).bump edgePage 2))
    else leverMoved s false := by
  have hsec : ((leverMoved s true).bump edgePage 2).sec.removal = s.sec.removal := by
    rw [State.bump_sec]
    rfl
  unfold latchLever
  rw [if_neg (by cases opened <;> simp [hlatch, hdark])]
  cases opened with
  | false => rfl
  | true =>
    rw [← hsec]
    rfl

theorem removalEnds : Claims.RemovalEnds := by
  intro s quiet late
  refine ⟨fun hrem hend => ?_, fun hrem hq hl => ?_, fun hrem => ?_, fun hrem hkill hkills => ?_, fun h => ?_, fun opened hdark hlatch => ?_, ?_,
    fun hdue hdark => ?_, fun hdue => ?_⟩
  · obtain ⟨hhalt, honly⟩ := killAll_halts { s with sec.removal := 2 }
    refine ⟨_, congrArg Host.Outcome.next ((drainingEnd_eq s).trans (if_pos ⟨hrem, hend.imp_left (drained_iff s).mpr⟩)),
      ?_, hhalt, honly .mem (by decide)⟩
    rw [show (killAll { s with sec.removal := 2 }).sec = _ from honly .sec (by decide)]
  · exact congrArg Host.Outcome.next ((drainingEnd_eq s).trans (if_neg fun h => h.2.elim (fun hd => hq ((drained_iff s).mp hd)) hl))
  · exact congrArg Host.Outcome.next ((drainingEnd_eq s).trans (if_neg fun h => hrem h.1))
  · have hflush := onlyIn_flushLedger s
    have hmaps := onlyIn_repairMapWrite (flushLedger s)
    have hcloses := talWrites_closeAll (flushed s)
    refine ⟨_, congrArg Host.Outcome.next (safe_of_flushing hrem hkill hkills), rfl, rfl, ?_, ?_, ?_, State.bitAt_raise_self _ _ (by decide), fun n hn => ?_⟩
    · show (closeAll (flushed s)).ledger.flash = _
      rw [show (closeAll (flushed s)).ledger = _ from hcloses.onlyIn .ledger (by decide), show (flushed s).ledger = _ from hmaps .ledger (by decide)]
      exact (flushLedger_kept s).1
    · show (closeAll (flushed s)).ledger.dirty = _
      rw [show (closeAll (flushed s)).ledger = _ from hcloses.onlyIn .ledger (by decide), show (flushed s).ledger = _ from hmaps .ledger (by decide)]
      exact (flushLedger_kept s).2.1
    · show (closeAll (flushed s)).mem.repairSince = _
      rw [hcloses.mem]
      exact repairMapWrite_repairSince _
    · have hnet : (flushed s).net = s.net := (show (flushed s).net = _ from hmaps .net (by decide)).trans (hflush .net (by decide))
      have hctx : (flushed s).tctx n = s.tctx n := State.tctx_of_ctxs (by rw [hnet]) n
      exact closeAll_st (s := flushed s) (by rw [hctx]; exact hn)
  · exact congrArg Host.Outcome.next (safe_of_not_flushing h)
  · cases opened with
    | false =>
      exact ⟨_, congrArg Host.Outcome.next (latchLever_of_moved hlatch hdark), (OnlyIn.refl s).putSec.raise.mono (by decide), rfl,
        State.bitAt_raise_self _ _ (by decide), nofun, fun _ => rfl⟩
    | true =>
      have hraised (t : State) (ht : t.regs = (leverMoved s true).regs) : bitAt (t.regN edgePage 0x018) 2 = true := by
        rw [State.regN_congr ht]
        exact State.bitAt_raise_self _ _ (by decide)
      have hexec := latchLever_of_moved (opened := true) hlatch hdark
      by_cases hsafe : s.sec.removal = 3
      · refine ⟨_, congrArg Host.Outcome.next (hexec.trans (if_pos hsafe)), (OnlyIn.refl s).putSec.raise.bump.mono (by decide), ?_,
          hraised _ (State.bump_regs ..), fun _ h => absurd hsafe h, fun _ => State.bump_sec ..⟩
        rw [State.bump_sec]
        rfl
      · refine ⟨_, congrArg Host.Outcome.next (hexec.trans (if_neg hsafe)), (OnlyIn.refl s).putSec.raise.bump.putSec.mono (by decide), ?_,
          hraised _ (State.bump_regs ..), fun _ _ => ?_, fun h => h.elim nofun fun h => absurd h hsafe⟩
        · rw [leverAlarm_sec]
        · exact leverAlarm_sec s
  · exact congrArg Host.Outcome.next (if_pos (by simp))
  · refine ⟨_, congrArg Host.Outcome.next (tailWrite_of_due hdue hdark), (onlyIn_tailWritten s).bump.mono (by decide), ?_, ?_, ?_, ?_,
      fun i hi r hr => ?_, fun i hi => ?_⟩
    · exact State.bump_sec ..
    · exact State.bump_flash ..
    · rw [State.bump_ledger]
      rfl
    · rw [State.bump_ledger]
      exact List.length_drop
    · rw [State.bump_ledger]
      exact (SMap.get_foldl_flash ..).trans ((if_pos ⟨hi, by rw [hr]; rfl⟩).trans hr)
    · rw [State.bump_ledger]
      exact (SMap.get_foldl_flash ..).trans (if_neg fun h => hi h.1)
  · exact congrArg Host.Outcome.next (if_pos (by simp [hdue]))

/-- Settles O54: from the request to SAFE, by what one CLOSE, one halt and one kill leave as it was. -/
theorem removal : Obligations.Removal := ⟨removalStarts, removalEnds⟩

end Sys2Proof.Machine
end

section
/-! SUPPORT. Fences, partition resets and warm resets (R403, R404, R411). -/

namespace Sys2Proof.Machine

/-! ### FENCE of partitions (R404) -/

/-- The partitions of a list have been fenced: their epochs have risen by 1 and the cores of their clusters halt. -/
structure Fenced (ps : List Nat) (s t : State) : Prop where
  onlyIn : OnlyIn s t [.cores, .regs, .counters, .logs]
  reg : ∀ (p : Page) (off : Nat), off < 0x1000 → (∀ id, p.base ≠ (corePage id).base) → (∀ q ∈ ps, p.key off ≠ partPg.key (0x100 + 4 * q)) →
    t.regN p off = s.regN p off
  epoch : ∀ q ∈ ps, t.epochOf q = (s.epochOf q + 1) % 2 ^ 16
  named : ∀ (id : CoreId) x, s.clusterPart id.cluster.val ∈ ps → (t.core id).ctx x = ((s.core id).ctx x).stopped
  others : ∀ (id : CoreId) x, s.clusterPart id.cluster.val ∉ ps → (t.core id).ctx x = (s.core id).ctx x

theorem partPg_base_ne (id : CoreId) : partPg.base ≠ (corePage id).base := base_ne_corePage (by decide) id

/-- The register of a partition's epoch holds nothing else of the page. -/
theorem partKey_ne_epoch {off q : Nat} (h : off ≠ 0x100 + 4 * q) : partPg.key off ≠ partPg.key (0x100 + 4 * q) := by
  unfold Page.key
  omega

theorem Fenced.partReg {ps : List Nat} {s t : State} (h : Fenced ps s t) {off : Nat} (hoff : off < 0x1000)
    (hne : ∀ q ∈ ps, off ≠ 0x100 + 4 * q) : t.regN partPg off = s.regN partPg off :=
  h.reg partPg off hoff partPg_base_ne fun q hq => partKey_ne_epoch (hne q hq)

/-- A fence assigns no cluster. -/
theorem Fenced.clusterPart {ps : List Nat} {s t : State} (h : Fenced ps s t) (hps : ∀ q ∈ ps, q < 4) (c : Fin 40) :
    t.clusterPart c.val = s.clusterPart c.val := by
  have hc := c.isLt
  exact congrArg (field · 1 0) (h.partReg (off := 0x200 + 4 * c.val) (by omega) fun q hq => by have := hps q hq; omega)

theorem Fenced.epoch_ne {ps : List Nat} {s t : State} (h : Fenced ps s t) {q : Nat} (hq : q ∉ ps) (hlt : q < 4) : t.epochOf q = s.epochOf q := by
  rw [State.epochOf, State.epochOf, h.partReg (by omega) fun p hp => by
    have : p ≠ q := fun e => hq (e ▸ hp)
    omega]

theorem Fenced.refl (s : State) : Fenced [] s s where
  onlyIn := (OnlyIn.refl s).mono (by decide)
  reg _ _ _ _ _ := rfl
  epoch _ hq := absurd hq List.not_mem_nil
  named _ _ h := absurd h List.not_mem_nil
  others _ _ _ := rfl

theorem mem_partClusters (s : State) (p : Nat) (c : Fin 40) : c.val ∈ s.partClusters p ↔ s.clusterPart c.val = p := by
  simp [State.partClusters, List.mem_filter, c.isLt]

theorem fenced_fence (s : State) {p : Nat} (hp : p < 4) : Fenced [p] s (fence s p) := by
  have hhalts := halts_haltClusters (s.setRegN partPg (0x100 + 4 * p) (wrapSucc 16 (s.epochOf p))) (s.partClusters p)
    fun c hc => List.mem_range.mp (List.mem_filter.mp hc).1
  refine ⟨((OnlyIn.refl s).setRegN.trans hhalts.onlyIn).mono (by decide), fun q off hoff hcore hne => ?_, fun q hq => ?_, fun id x hid => ?_,
    fun id x hid => ?_⟩
  · exact (hhalts.regOutside q hoff hcore).trans (State.regN_setRegN_ne _ _ (hne p List.mem_cons_self))
  · rw [List.mem_singleton.mp hq]
    have hreg : (fence s p).regN partPg (0x100 + 4 * p) = _ := hhalts.regOutside partPg (off := 0x100 + 4 * p) (by omega) partPg_base_ne
    rw [State.epochOf, hreg, State.regN_setRegN_self, wrapSucc]
    omega
  · exact hhalts.named id x ((mem_partClusters s p id.cluster).mpr (List.mem_singleton.mp hid))
  · exact hhalts.others id x fun hmem => hid (List.mem_singleton.mpr ((mem_partClusters s p id.cluster).mp hmem))

theorem Fenced.cons {p : Nat} {ps : List Nat} {s t r : State} (h : Fenced [p] s t) (g : Fenced ps t r) (hp : p < 4) (hps : ∀ q ∈ ps, q < 4)
    (hnew : p ∉ ps) : Fenced (p :: ps) s r := by
  have hpart (id : CoreId) : t.clusterPart id.cluster.val = s.clusterPart id.cluster.val :=
    h.clusterPart (fun q hq => List.mem_singleton.mp hq ▸ hp) id.cluster
  refine ⟨(h.onlyIn.trans g.onlyIn).mono (by decide), fun q off hoff hcore hne => ?_, fun q hq => ?_, fun id x hid => ?_, fun id x hid => ?_⟩
  · exact (g.reg q off hoff hcore fun k hk => hne k (List.mem_cons_of_mem p hk)).trans
      (h.reg q off hoff hcore fun k hk => List.mem_singleton.mp hk ▸ hne p List.mem_cons_self)
  · rcases List.mem_cons.mp hq with rfl | hq
    · rw [g.epoch_ne hnew hp, h.epoch _ List.mem_cons_self]
    · rw [g.epoch q hq, h.epoch_ne (fun e => hnew (List.mem_singleton.mp e ▸ hq)) (hps q hq)]
  · rcases List.mem_cons.mp hid with he | hin
    · rw [g.others id x (by rw [hpart, he]; exact hnew), h.named id x (he ▸ List.mem_cons_self)]
    · rw [g.named id x (by rw [hpart]; exact hin),
        h.others id x fun e => hnew (List.mem_singleton.mp e ▸ hin)]
  · rw [g.others id x (by rw [hpart]; exact fun e => hid (List.mem_cons_of_mem p e)),
      h.others id x fun e => hid (List.mem_singleton.mp e ▸ List.mem_cons_self)]

theorem fenced_foldl (ps : List Nat) (s : State) (hps : ∀ q ∈ ps, q < 4) (hnodup : ps.Nodup) : Fenced ps s (ps.foldl fence s) := by
  induction ps generalizing s with
  | nil => exact .refl s
  | cons p ps ih =>
    have hp := hps p List.mem_cons_self
    have hrest : ∀ q ∈ ps, q < 4 := fun q hq => hps q (List.mem_cons_of_mem p hq)
    obtain ⟨hnew, hnodup⟩ := List.nodup_cons.mp hnodup
    exact (fenced_fence s hp).cons (ih _ hrest hnodup) hp hrest hnew

/-! ### A warm reset that starts (R411) -/

/-- The partitions that are not UNUSED. -/
def usedParts (s : State) : List Nat := (List.range 4).filter (fun p => !s.unused p)

theorem clusterPart_lt (s : State) (c : Nat) : s.clusterPart c < 4 := Nat.mod_lt _ (by decide)

theorem mem_usedParts (s : State) (c : Fin 40) : s.clusterPart c.val ∈ usedParts s := by
  refine List.mem_filter.mpr ⟨List.mem_range.mpr (clusterPart_lt s c.val), ?_⟩
  simpa [State.unused] using List.ne_nil_of_mem ((mem_partClusters s _ c).mpr rfl)

/-- The containment of a module whose warm reset begins. -/
def warmCont (s : State) (cls : Nat) : Contain :=
  { kill := none, kills := [], resets := [], warm := some ⟨s.tick, false⟩, warmClass := cls }

/-- The state of a module whose partitions are fenced. -/
def warmBegun (s : State) (cls : Nat) : State :=
  endSession { ({ s with cont := warmCont s cls } : State) with sec.verified := false }

/-- A warm reset has started. -/
structure WarmStarted (s t : State) (cls : Nat) : Prop where
  onlyIn : OnlyIn s t [.cores, .regs, .counters, .logs, .cont, .sec]
  cont : t.cont = warmCont s cls
  sec : t.sec = { s.sec with verified := false, session := none }
  reg : ∀ (p : Page) (off : Nat), off < 0x1000 → (∀ id, p.base ≠ (corePage id).base) → p.base ≠ partPg.base → p.base ≠ talPage.base →
    t.regN p off = s.regN p off
  partReg : ∀ off, off < 0x100 → t.regN partPg off = s.regN partPg off
  epoch : ∀ p, p < 4 → s.unused p = false → t.epochOf p = (s.epochOf p + 1) % 2 ^ 16
  halts : ∀ (id : CoreId) x, (t.core id).ctx x = ((s.core id).ctx x).stopped

theorem startWarm_of_none {s : State} (cls : Nat) (h : s.cont.warm = none) : startWarm s cls =
    (let t := warmBegun ((usedParts s).foldl fence s) cls
     if t.stage347 = stReady ∨ t.stage347 = stDraining then t.enterStage stMgmt else t) := by
  unfold startWarm
  rw [h]
  rfl

theorem warmStarted_of_none {s : State} (cls : Nat) (h : s.cont.warm = none) : WarmStarted s (startWarm s cls) cls := by
  have hlt : ∀ q ∈ usedParts s, q < 4 := fun q hq => List.mem_range.mp (List.mem_filter.mp hq).1
  have hfenced := fenced_foldl (usedParts s) s hlt (List.nodup_range.filter _)
  rw [startWarm_of_none cls h]
  generalize (usedParts s).foldl fence s = r at hfenced
  have htick : r.tick = s.tick := hfenced.onlyIn .tick (by decide)
  have hsec : r.sec = s.sec := hfenced.onlyIn .sec (by decide)
  have hcont : warmCont r cls = warmCont s cls := by rw [warmCont, htick, warmCont]
  have hbegun : OnlyIn r (warmBegun r cls) [.sec, .sec, .cont] :=
    (((OnlyIn.refl r).putCont (v := warmCont r cls)).putSec (v := { r.sec with verified := false })).putSec
      (v := { r.sec with verified := false, session := none })
  have hother (p : Page) (off : Nat) (hoff : off < 0x1000) (hp : p.base ≠ talPage.base) : p.key off ≠ talPage.key 0x014 :=
    Page.key_ne_of_base hp hoff (by decide)
  -- whether the stage falls to MGMT or not, only TAL.STAGE differs
  suffices hmain : ∀ t, OnlyIn (warmBegun r cls) t [.regs] → (∀ (p : Page) (off : Nat), p.key off ≠ talPage.key 0x014 →
      t.regN p off = r.regN p off) → WarmStarted s t cls by
    dsimp only
    split
    · exact hmain _ ((OnlyIn.refl _).setField.mono (by decide)) fun p off hne => State.regN_setField_ne _ _ _ _ hne
    · exact hmain _ ((OnlyIn.refl _).mono (by decide)) fun _ _ _ => rfl
  intro t honly hreg
  have hcore (id : CoreId) : t.core id = r.core id := State.core_congr (honly .cores (by decide)) id
  have hpart (off : Nat) (hoff : off < 0x1000) : t.regN partPg off = r.regN partPg off := hreg _ _ (hother _ _ hoff (by decide))
  refine ⟨((hfenced.onlyIn.trans hbegun).trans honly).mono (by decide), ?_, ?_, fun p off hoff hc hp ht => ?_, fun off hoff => ?_,
    fun p hp hused => ?_, fun id x => ?_⟩
  · exact (show t.cont = (warmBegun r cls).cont from honly .cont (by decide)).trans hcont
  · rw [show t.sec = (warmBegun r cls).sec from honly .sec (by decide)]
    show { r.sec with verified := false, session := none } = _
    rw [hsec]
  · rw [hreg p off (hother p off hoff ht), hfenced.reg p off hoff hc fun q hq =>
      Page.key_ne_of_base hp hoff (by have := hlt q hq; omega)]
  · rw [hpart off (by omega), hfenced.partReg (by omega) fun q _ => by omega]
  · have hmem : p ∈ usedParts s := List.mem_filter.mpr ⟨List.mem_range.mpr hp, by simp [hused]⟩
    rw [← hfenced.epoch p hmem, State.epochOf, hpart _ (by omega), State.epochOf]
  · rw [hcore, hfenced.named id x (mem_usedParts s id.cluster)]

end Sys2Proof.Machine
end

section
/-! SUPPORT. Alarms, the service port and Periscope (R421, R422, R428-R430). -/

namespace Sys2Proof.Machine

/-! ### Alarms (R421, R422) -/

/-- An alarm of a class, counted. -/
def alarmCounted (s : State) (cls : Nat) : State := (s.bump secPage (cls - 1)).raise secPage (cls - 1)

theorem onlyIn_alarmCounted (s : State) (cls : Nat) : OnlyIn s (alarmCounted s cls) [.regs, .logs, .counters] := (OnlyIn.refl s).bump.raise

/-- An alarm in SEC.ALARM. -/
def alarmRecorded (s : State) (source cls : Nat) : State := s.record secPage 0x104 (cls * 2 ^ 28 + source * 2 ^ 24)

/-- The tick of the first alarm that SEC.ALARM holds. -/
def alarmStamped (s : State) (first : Bool) (tick : Nat) : State :=
  if first then (s.setRegN secPage 0x108 (tick % 2 ^ 32)).setRegN secPage 0x10C (tick / 2 ^ 32 % 2 ^ 32) else s

/-- An alarm that has been counted and recorded. -/
def alarmKept (s : State) (source cls tick : Nat) : State :=
  let t := alarmCounted s cls
  { alarmStamped (alarmRecorded t source cls) (t.isFirst secPage 0x104) tick with sec.lastAlarm := (cls, source) }

theorem onlyIn_alarmStamped (s : State) (first : Bool) (tick : Nat) : OnlyIn s (alarmStamped s first tick) [.regs] :=
  (OnlyIn.ite (OnlyIn.refl s).setRegN.setRegN (OnlyIn.refl s)).mono (by decide)

theorem alarmStamped_regN (s : State) (first : Bool) (tick : Nat) {off : Nat} (h1 : secPage.key off ≠ secPage.key 0x108)
    (h2 : secPage.key off ≠ secPage.key 0x10C) : (alarmStamped s first tick).regN secPage off = s.regN secPage off := by
  unfold alarmStamped
  split
  · rw [State.regN_setRegN_ne _ _ h2, State.regN_setRegN_ne _ _ h1]
  · rfl

theorem onlyIn_alarmKept (s : State) (source cls tick : Nat) : OnlyIn s (alarmKept s source cls tick) [.regs, .logs, .counters, .sec] := by
  have h := (onlyIn_alarmCounted s cls).trans ((OnlyIn.refl (alarmCounted s cls)).record (p := secPage) (off := 0x104)
    (v := cls * 2 ^ 28 + source * 2 ^ 24))
  exact ((h.trans (onlyIn_alarmStamped _ ((alarmCounted s cls).isFirst secPage 0x104) tick)).putSec).mono (by decide)

theorem alarmKept_sec (s : State) (source cls tick : Nat) : (alarmKept s source cls tick).sec = { s.sec with lastAlarm := (cls, source) } := by
  have h := ((onlyIn_alarmCounted s cls).trans ((OnlyIn.refl (alarmCounted s cls)).record (p := secPage) (off := 0x104)
    (v := cls * 2 ^ 28 + source * 2 ^ 24))).trans (onlyIn_alarmStamped _ ((alarmCounted s cls).isFirst secPage 0x104) tick)
  unfold alarmKept
  exact congrArg (fun x : Security => { x with lastAlarm := (cls, source) }) (h .sec (by decide))

/-- The bit of its class is raised. -/
theorem alarmKept_raised (s : State) (source tick : Nat) {cls : Nat} (h : cls - 1 < 32) :
    bitAt ((alarmKept s source cls tick).regN secPage 0x018) (cls - 1) = true := by
  show bitAt ((alarmStamped _ _ _).regN secPage 0x018) (cls - 1) = true
  rw [alarmStamped_regN _ _ _ (by decide) (by decide), alarmRecorded, State.regN_record_ne _ _ (by decide), alarmCounted,
    State.bitAt_raise_self _ _ h]

/-- The first alarm's class and source stand in SEC.ALARM. -/
theorem alarmKept_recorded (s : State) (tick : Nat) {source cls : Nat} (hsource : source < 16) (hcls : cls < 4)
    (h : bitAt (s.regN secPage 0x104) 31 = false) :
    field ((alarmKept s source cls tick).regN secPage 0x104) 29 28 = cls ∧ field ((alarmKept s source cls tick).regN secPage 0x104) 27 24 = source := by
  have hbefore : (alarmCounted s cls).regN secPage 0x104 = s.regN secPage 0x104 := by
    rw [alarmCounted, State.regN_raise_ne _ _ (by decide), State.regN_bump]
  have hreg : (alarmKept s source cls tick).regN secPage 0x104 =
      (2 ^ 31 + field (s.regN secPage 0x104) 30 30 * 2 ^ 30 + (cls * 2 ^ 28 + source * 2 ^ 24)) % 2 ^ 32 := by
    show (alarmStamped _ _ _).regN secPage 0x104 = _
    rw [alarmStamped_regN _ _ _ (by decide) (by decide), alarmRecorded]
    unfold State.record
    dsimp only
    rw [hbefore, h, if_neg (by decide), State.regN_setRegN_self]
  have hbit : field (s.regN secPage 0x104) 30 30 < 2 := Nat.mod_lt _ (by decide)
  rw [hreg]
  generalize field (s.regN secPage 0x104) 30 30 = b at hbit
  unfold field
  omega

theorem takeAlarms_one {s : State} (source cls tick : Nat) (hwarm : s.cont.warm = none) :
    takeAlarms s [(source, cls, tick)] = alarmActs (alarmKept s source cls tick) cls := by
  have hcont : (alarmKept s source cls tick).cont = s.cont := onlyIn_alarmKept s source cls tick .cont (by decide)
  have heq : takeAlarms s [(source, cls, tick)] =
      if (alarmKept s source cls tick).cont.warm.isSome ∧ 0 < (alarmKept s source cls tick).cont.warmClass ∧
        cls ≤ (alarmKept s source cls tick).cont.warmClass then alarmKept s source cls tick else alarmActs (alarmKept s source cls tick) cls := by
    unfold alarmKept alarmStamped alarmRecorded alarmCounted
    rfl
  rw [heq, if_neg (by simp [hcont, hwarm])]

theorem takeAlarms_nil (s : State) : takeAlarms s [] = s := rfl

/-- The alarms of one tick that this block has raised. -/
theorem alarm_of_raised {s : State} {source cls : Nat} (hdark : s.power.dark = false) (h : s.sec.alarms = [(source, cls, s.tick)]) :
    alarm s [] = takeAlarms { s with sec.alarms := [] } [(source, cls, s.tick)] := by
  unfold alarm
  rw [if_neg (by simp [hdark]), h]
  simp

/-- A violation that the monitor sees. -/
theorem alarm_of_seen {s : State} {n : Nat} (hn : n ≠ 0) (hdark : s.power.dark = false) (h : s.sec.alarms = []) :
    alarm s [n] = takeAlarms s [(n, sourceClass n, s.tick)] := by
  unfold alarm
  rw [if_neg (by simp [hdark]), h]
  simp [Nat.one_le_iff_ne_zero.mpr hn]

/-! ### What an alarm of class 2 or 3 does (R422) -/

/-- The session ends and every frame key is gone. -/
def alarmHeld (s : State) : State := zeroiseSaks (endSession { s with sec.held := true })

/-- An alarm of class 3 clears the identity and the owner. -/
def alarmCleared (s : State) (cls : Nat) : State :=
  if cls = 3 then { s with flash.blob := none, flash.owner := none, sec.identity := none } else s

theorem alarmActs_eq {s : State} {cls : Nat} (h : 2 ≤ cls) (hdark : s.power.dark = false) : alarmActs s cls =
    if s.power.off then alarmCleared (alarmHeld s) cls else startWarm (alarmCleared (alarmHeld s) cls) cls := by
  have hpower : (alarmCleared (alarmHeld s) cls).power = s.power := by
    unfold alarmCleared
    split <;> rfl
  have heq : alarmActs s cls = if (alarmCleared (alarmHeld s) cls).power.off || (alarmCleared (alarmHeld s) cls).power.dark then
      alarmCleared (alarmHeld s) cls else startWarm (alarmCleared (alarmHeld s) cls) cls := if_neg (by omega)
  rw [heq, hpower, hdark, Bool.or_false]

/-- A port without its keys. -/
def Port.keyless (p : Port) : Port := { p with keys := [] }

theorem alarmHeld_keys (s : State) (i : Nat) : ((alarmHeld s).port i).keys = [] :=
  congrArg Port.keys (SMap.getD_map Port.keyless s.net.ports {} i)

theorem onlyIn_alarmCleared (s : State) (cls : Nat) : OnlyIn s (alarmCleared (alarmHeld s) cls) [.sec, .net, .flash] := by
  have hheld : OnlyIn s (alarmHeld s) [.net, .sec] :=
    ((OnlyIn.refl s).putSec (v := { s.sec with held := true, session := none })).putNet (v := (alarmHeld s).net)
  unfold alarmCleared
  split
  · exact ((hheld.putFlash (v := { s.flash with blob := none, owner := none })).putSec
      (v := { s.sec with held := true, session := none, identity := none })).mono (by decide)
  · exact hheld.mono (by decide)

/-- What an alarm of class 2 or 3 leaves, whether or not a warm reset follows. -/
structure AlarmActed (s t : State) (cls : Nat) : Prop where
  held : t.sec.held = true
  session : t.sec.session = none
  last : t.sec.lastAlarm = s.sec.lastAlarm
  keys : ∀ i, (t.port i).keys = []
  reg : ∀ off, off < 0x1000 → t.regN secPage off = s.regN secPage off
  cleared : cls = 3 → t.sec.identity = none ∧ t.flash = { s.flash with blob := none, owner := none }
  kept : cls ≠ 3 → t.sec.identity = s.sec.identity ∧ t.flash = s.flash

theorem alarmActed_cleared (s : State) (cls : Nat) : AlarmActed s (alarmCleared (alarmHeld s) cls) cls := by
  have hregs : (alarmCleared (alarmHeld s) cls).regs = s.regs := onlyIn_alarmCleared s cls .regs (by decide)
  have hreg (off : Nat) (_ : off < 0x1000) := State.regN_congr hregs secPage off
  by_cases h : cls = 3
  · have he : alarmCleared (alarmHeld s) cls = { alarmHeld s with flash.blob := none, flash.owner := none, sec.identity := none } := if_pos h
    rw [he] at hreg ⊢
    exact ⟨rfl, rfl, rfl, alarmHeld_keys s, hreg, fun _ => ⟨rfl, rfl⟩, fun hne => absurd h hne⟩
  · have he : alarmCleared (alarmHeld s) cls = alarmHeld s := if_neg h
    rw [he] at hreg ⊢
    exact ⟨rfl, rfl, rfl, alarmHeld_keys s, hreg, fun e => absurd e h, fun _ => ⟨rfl, rfl⟩⟩

/-- A warm reset changes nothing of that. -/
theorem AlarmActed.warm {s a t : State} {cls n : Nat} (h : AlarmActed s a cls) (hw : WarmStarted a t n) : AlarmActed s t cls := by
  have hflash : t.flash = a.flash := hw.onlyIn .flash (by decide)
  have hnet : t.net = a.net := hw.onlyIn .net (by decide)
  refine ⟨by rw [hw.sec, h.held], by rw [hw.sec], by rw [hw.sec, h.last], fun i => ?_, fun off hoff => ?_, fun hc => ?_, fun hc => ?_⟩
  · rw [State.port_of_net hnet, h.keys]
  · rw [hw.reg secPage off hoff (base_ne_corePage (by decide)) (by decide) (by decide), h.reg off hoff]
  · rw [hw.sec, hflash]
    exact h.cleared hc
  · rw [hw.sec, hflash]
    exact h.kept hc

theorem alarms : Claims.Alarms := by
  intro s
  refine ⟨fun l hdark => ?_, fun src hdark halarms hwarm => ?_, fun n hn hdark halarms hwarm => ?_⟩
  · exact congrArg Host.Outcome.next (if_pos hdark)
  · have hexec := (alarm_of_raised hdark halarms).trans (takeAlarms_one (s := { s with sec.alarms := [] }) src 1 s.tick hwarm)
    refine ⟨_, congrArg Host.Outcome.next hexec, ?_, alarmKept_sec { s with sec.alarms := [] } src 1 s.tick,
      alarmKept_raised { s with sec.alarms := [] } src s.tick (cls := 1) (by decide)⟩
    exact ((OnlyIn.refl s).putSec.trans (onlyIn_alarmKept { s with sec.alarms := [] } src 1 s.tick)).mono (by decide)
  · intro cls
    have hcls : 2 ≤ cls ∧ cls < 4 ∧ (cls = 3 ↔ n.val = 1) := by
      show 2 ≤ (if n.val = 1 then 3 else 2) ∧ (if n.val = 1 then 3 else 2) < 4 ∧ ((if n.val = 1 then 3 else 2) = 3 ↔ n.val = 1)
      split <;> simp [*]
    obtain ⟨hlow, hhigh, hthree⟩ := hcls
    have hexec := (alarm_of_seen hn hdark halarms).trans (takeAlarms_one n.val cls s.tick hwarm)
    have hkept := alarmKept_sec s n.val cls s.tick
    have honly := onlyIn_alarmKept s n.val cls s.tick
    have hraised := alarmKept_raised s n.val s.tick (cls := cls) (by omega)
    have hrecorded := alarmKept_recorded s s.tick (source := n.val) (cls := cls) (by omega) hhigh
    generalize alarmKept s n.val cls s.tick = r at hexec hkept honly hraised hrecorded
    have hpower : r.power = s.power := honly .power (by decide)
    rw [alarmActs_eq hlow (by rw [hpower]; exact hdark), hpower] at hexec
    have hacted := alarmActed_cleared r cls
    have hclear := onlyIn_alarmCleared r cls
    generalize alarmCleared (alarmHeld r) cls = a at hexec hacted hclear
    have hcont : a.cont = s.cont := (show a.cont = r.cont from hclear .cont (by decide)).trans (honly .cont (by decide))
    have htick : a.tick = s.tick := (show a.tick = r.tick from hclear .tick (by decide)).trans (honly .tick (by decide))
    have hcore (id : CoreId) : a.core id = s.core id :=
      State.core_congr ((show a.cores = r.cores from hclear .cores (by decide)).trans (honly .cores (by decide))) id
    have hflash : r.flash = s.flash := honly .flash (by decide)
    have hwarm' : WarmStarted a (startWarm a cls) cls := warmStarted_of_none cls (by rw [hcont, hwarm])
    have holds {t : State} (h : AlarmActed r t cls) : t.sec.held = true ∧ t.sec.session = none ∧ t.sec.lastAlarm = (cls, n.val) ∧
        bitAt (t.regN secPage 0x018) (cls - 1) = true ∧ (∀ i, (t.port i).keys = []) ∧
        (bitAt (s.regN secPage 0x104) 31 = false → field (t.regN secPage 0x104) 29 28 = cls ∧ field (t.regN secPage 0x104) 27 24 = n.val) ∧
        (n.val = 1 → t.sec.identity = none ∧ t.flash = { s.flash with blob := none, owner := none }) ∧
        (n.val ≠ 1 → t.sec.identity = s.sec.identity ∧ t.flash = s.flash) := by
      refine ⟨h.held, h.session, by rw [h.last, hkept], by rw [h.reg _ (by decide), hraised], h.keys, fun hfirst => ?_, fun h1 => ?_, fun h1 => ?_⟩
      · rw [h.reg _ (by decide)]
        exact hrecorded hfirst
      · rw [← hflash]
        exact h.cleared (hthree.mpr h1)
      · obtain ⟨hid, hfl⟩ := h.kept fun e => h1 (hthree.mp e)
        rw [hid, hfl, hkept, hflash]
        exact ⟨rfl, rfl⟩
    cases hoff : s.power.off with
    | true =>
      obtain ⟨h1, h2, h3, h4, h5, h6, h7, h8⟩ := holds hacted
      exact ⟨a, congrArg Host.Outcome.next (hexec.trans (if_pos hoff)), h1, h2, h3, h4, h5, h6, h7, h8, nofun, fun _ => hcont⟩
    | false =>
      obtain ⟨h1, h2, h3, h4, h5, h6, h7, h8⟩ := holds (hacted.warm hwarm')
      refine ⟨_, congrArg Host.Outcome.next (hexec.trans (if_neg (by rw [hoff]; decide))), h1, h2, h3, h4, h5, h6, h7, h8, fun _ => ⟨?_, ?_, ?_⟩, nofun⟩
      · rw [hwarm'.cont, warmCont, htick]
      · rw [hwarm'.cont]
        rfl
      · intro id x _ hrun
        rw [hwarm'.halts, hcore, Context.stopped_of_running hrun]

end Sys2Proof.Machine
end

section
/-! SUPPORT. The service port and Periscope sessions (R428-R430). -/

namespace Sys2Proof.Machine

/-! ### Frames of the service port (R428) -/

/-- An answer of at most 8,192 bytes is one frame. -/
theorem sendAnswer_one (s : State) (dst : Option Nat) (tag op status data : Nat) {len : Nat} (h : len ≤ 8192) :
    sendAnswer s dst tag op status len data = sendChunk s dst tag op status 0 0 len (sub data 0 len) := by
  have hn : max 1 ((len + 8191) / 8192) = 1 := by omega
  have hlen : min 8192 len = len := by omega
  simp [sendAnswer, hn, hlen]

theorem svcRequest_of_ready {s : State} {f : SvcFrame} (h : SvcReady s f) (act : State → State) : svcRequest s f act = act (s.bump edgePage 4) := by
  have hframe := svcFrame_of_ready h
  obtain ⟨-, -, hsvc, hchunk, hlast⟩ := h
  unfold svcRequest
  rw [hframe]
  simp [hsvc, hchunk, hlast]

theorem svcFrame_of_absent {s : State} (h : s.sec.vbus = false) : svcFrame s = none := by simp [svcFrame, h]

theorem svcRequest_of_absent {s : State} (f : SvcFrame) (act : State → State) (h : s.sec.vbus = false) : svcRequest s f act = s := by
  rw [svcRequest, svcFrame_of_absent h]

/-! ### Sessions (R429, R430) -/

/-- A key and a signature that open a session. -/
def opens (s : State) (key sig mask : Nat) : Bool :=
  Config.shake256 64 key == (match s.flash.owner with | some h => h | none => Config.rootHash) &&
    Config.slhVerify key 4 100 (Config.freeNat s.fresh % 2 ^ 256 + s.identityHash * 2 ^ 256 + mask * 2 ^ 768) sig

theorem opens_iff (s : State) (key sig mask : Nat) : opens s key sig mask = true ↔
    Config.shake256 64 key = s.flash.owner.getD Config.rootHash ∧
      Config.slhVerify key 4 100 (Config.freeNat s.fresh % 2 ^ 256 + s.identityHash * 2 ^ 256 + mask * 2 ^ 768) sig = true := by
  unfold opens
  rw [Bool.and_eq_true, beq_iff_eq]
  cases s.flash.owner <;> exact Iff.rfl

/-- The state with a session open. -/
def sessionOpened (s : State) (mask : Nat) : State :=
  (((({ s with sec.session := some ⟨mask, s.tick⟩ } : State).setField secPage 0x110 8 8 0).raise secPage 4).bump secPage 4).logReq secPage kindEvent
    .periscope true 0x018

/-- The state after a nonce has been drawn. -/
def drawn (s : State) : State := { s with fresh := s.fresh + 1 }

theorem periscopeOpen_of_free {s : State} (key sig mask : Nat) (hvbus : s.sec.vbus = true) (hdark : s.power.dark = false)
    (hlock : s.sec.lockout = none) (hsession : s.sec.session = none) : periscopeOpen s key sig mask =
    if opens s key sig mask then sessionOpened (drawn s) mask else authFail (drawn s) := by
  unfold periscopeOpen
  rw [if_neg (by simp [hvbus, hdark, hlock, hsession])]
  rfl

theorem onlyIn_sessionOpened (s : State) (mask : Nat) : OnlyIn s (sessionOpened s mask) [.logs, .counters, .regs, .sec] :=
  (((((OnlyIn.refl s).putSec (v := { s.sec with session := some ⟨mask, s.tick⟩ })).setField (p := secPage) (off := 0x110) (lo := 8) (w := 8)
    (v := 0)).raise (p := secPage) (bit := 4)).bump (p := secPage) (sel := 4)).logReq.mono (by decide)

theorem sessionOpened_regN (s : State) (mask off : Nat) : (sessionOpened s mask).regN secPage off =
    ((s.setField secPage 0x110 8 8 0).raise secPage 4).regN secPage off := by
  rw [sessionOpened, State.regN_logReq, State.regN_bump]
  rfl

theorem sessionOpened_sec (s : State) (mask : Nat) : (sessionOpened s mask).sec = { s.sec with session := some ⟨mask, s.tick⟩ } := by
  unfold sessionOpened
  exact State.bump_sec ..

/-- A failed attempt, entered in SEC.AUTH, in ISTATUS, in its counter and in the error log. -/
def failureNoted (s : State) : State :=
  let r := s.regN secPage 0x110
  let total := min (field r 7 0 + 1) 255
  let run := min (field r 15 8 + 1) 255
  let t := s.setRegN secPage 0x110 (run * 2 ^ 8 + total)
  let t := if total = 255 ∧ field r 7 0 = 254 then t.logWord secPage (0x65000000 + 0x110) else t
  ((t.raise secPage 5).bump secPage 3).logReq secPage kindEvent .periscope true 0x018

/-- The refusal after a third failure in a row. -/
def locked (s : State) (third : Prop) [Decidable third] : State := if third then raiseAlarm { s with sec.lockout := some s.tick } 6 1 else s

theorem authFail_eq (s : State) : authFail s =
    (let r := s.regN secPage 0x110
     let total := min (field r 7 0 + 1) 255
     let run := min (field r 15 8 + 1) 255
     let t := locked (failureNoted s) (run % 3 = 0)
     if total = 8 ∧ field r 7 0 = 7 then raiseAlarm t 6 2 else t) := rfl

theorem onlyIn_failureNoted (s : State) : OnlyIn s (failureNoted s) [.regs, .logs, .counters] :=
  ((OnlyIn.ite (OnlyIn.refl s).setRegN.logWord (OnlyIn.refl s).setRegN).raise.bump.logReq).mono (by decide)

theorem onlyIn_locked (s : State) (third : Prop) [Decidable third] : OnlyIn s (locked s third) [.sec] :=
  (OnlyIn.ite ((OnlyIn.refl s).putSec.putSec) (OnlyIn.refl s)).mono (by decide)

theorem onlyIn_authFail (s : State) : OnlyIn s (authFail s) [.regs, .logs, .counters, .sec] := by
  rw [authFail_eq]
  have h := (onlyIn_failureNoted s).trans (onlyIn_locked (failureNoted s) (min (field (s.regN secPage 0x110) 15 8 + 1) 255 % 3 = 0))
  exact (OnlyIn.ite h.putSec h).mono (by decide)

theorem authFail_regs (s : State) : (authFail s).regs = (failureNoted s).regs := by
  rw [authFail_eq]
  dsimp only
  unfold locked
  split <;> split <;> rfl

theorem failureNoted_regN (s : State) : bitAt ((failureNoted s).regN secPage 0x018) 5 = true ∧
    (failureNoted s).regN secPage 0x110 =
      min (field (s.regN secPage 0x110) 15 8 + 1) 255 * 2 ^ 8 + min (field (s.regN secPage 0x110) 7 0 + 1) 255 := by
  unfold failureNoted
  dsimp only
  refine ⟨?_, ?_⟩
  · rw [State.regN_logReq, State.regN_bump, State.bitAt_raise_self _ _ (by decide)]
  · rw [State.regN_logReq, State.regN_bump, State.regN_raise_ne _ _ (by decide)]
    split
    · rw [State.regN_congr (State.logWord_regs ..), State.regN_setRegN_self]
      omega
    · rw [State.regN_setRegN_self]
      omega

/-- Only a third failure in a row refuses OPEN for a time. -/
theorem authFail_sec (s : State) : (authFail s).sec.session = s.sec.session ∧ (authFail s).sec.lockout =
    if min (field (s.regN secPage 0x110) 15 8 + 1) 255 % 3 = 0 then some s.tick else s.sec.lockout := by
  have hsec : (failureNoted s).sec = s.sec := onlyIn_failureNoted s .sec (by decide)
  have htick : (failureNoted s).tick = s.tick := onlyIn_failureNoted s .tick (by decide)
  rw [authFail_eq]
  dsimp only
  generalize failureNoted s = t at hsec htick
  rw [← hsec, ← htick]
  unfold locked
  constructor
  · split <;> split <;> rfl
  · split <;> split <;> rfl

/-- The status block of R428. -/
def statusWord (s : State) : Nat :=
  let count (c : Nat) : Nat := (s.ledger.recs.filter (fun e => decide (e.2.cls = c))).length
  Config.statusBlock ([edgeStatus s, secStatus s, s.regN talPage 0x014, s.regN secPage 0x104, s.poweredSeconds] ++ (List.range 5).map count) % 2 ^ 512

theorem statusFrame_of_ready {s : State} {f : SvcFrame} (h : SvcReady s f) : statusFrame s f =
    { s.bump edgePage 4 with sec.sent := ⟨f.op % 2 ^ 8 + mgtOk * 2 ^ 8, 0, 0, 64, sub (statusWord (s.bump edgePage 4)) 0 64⟩ :: (s.bump edgePage 4).sec.sent } := by
  have heq : statusFrame s f = svcRequest s f fun r => sendAnswer r none 0 (f.op % 2 ^ 8) mgtOk 64 (statusWord r) := rfl
  rw [heq, svcRequest_of_ready h, sendAnswer_one _ _ _ _ _ _ (by decide), sendChunk]

/-- VBUS that appears. -/
theorem vbusChange_on {s : State} (h : s.sec.vbus = false) (hdark : s.power.dark = false) :
    vbusChange s true = (({ s with sec.vbus := true } : State).raise edgePage 3).bump edgePage 3 := if_neg (by simp [h, hdark])

/-- VBUS that goes. -/
theorem vbusChange_off {s : State} (h : s.sec.vbus = true) (hdark : s.power.dark = false) :
    vbusChange s false = endSession { ({ s with sec.vbus := false } : State).raise edgePage 3 with sec.svc := none } := if_neg (by simp [h, hdark])

theorem sessionTimeout_of_open {s : State} {k : Session} (h : s.sec.session = some k) :
    sessionTimeout s = if k.last + 3000000000 ≤ s.tick then endSession s else s := by
  rw [sessionTimeout, h]

theorem authLockoutExpiry_of_locked {s : State} {b : Nat} (h : s.sec.lockout = some b) :
    authLockoutExpiry s = if b + 6000000000 ≤ s.tick then { s with sec.lockout := none } else s := by
  rw [authLockoutExpiry, h]

theorem onlyIn_drawn (s : State) : OnlyIn s (drawn s) [.fresh] := by
  intro p hp
  cases p <;> trivial

theorem servicePort : Claims.ServicePort := by
  intro s
  refine ⟨fun f h => ?_, fun f h => ?_, fun hdark => ⟨fun h => ?_, fun h => ?_⟩, ?_, fun key sig mask => ?_, fun k hk => ⟨?_, fun hlate => ?_, fun hearly => ?_⟩,
    fun hnone => ⟨?_, ?_⟩, fun b hb => ⟨fun hlate => ?_, fun hearly => ?_⟩⟩
  · refine ⟨_, sub (statusWord (s.bump edgePage 4)) 0 64, congrArg Host.Outcome.next (statusFrame_of_ready h), (OnlyIn.refl s).bump.putSec.mono (by decide), ?_, State.counter_bumpBy_self ..⟩
    exact congrArg (fun x : Security => _ :: x.sent) ((s.bump_sec edgePage 4 :))
  · exact congrArg Host.Outcome.next (svcRequest_of_absent f _ h)
  · refine ⟨_, congrArg Host.Outcome.next (vbusChange_on h hdark), (OnlyIn.refl s).putSec.raise.bump.mono (by decide), by rw [State.bump_sec]; rfl, ?_,
      State.counter_bumpBy_self ..⟩
    rw [State.regN_bump, State.bitAt_raise_self _ _ (by decide)]
  · refine ⟨_, congrArg Host.Outcome.next (vbusChange_off h hdark), (OnlyIn.refl s).putSec.raise.putSec.putSec.mono (by decide), rfl,
      State.bitAt_raise_self { s with sec.vbus := false } _ (by decide)⟩
  · exact congrArg Host.Outcome.next (if_pos (by simp))
  · intro good total run
    have hopens : opens s key sig mask.val = true ↔ good := opens_iff s key sig mask.val
    refine ⟨fun h => congrArg Host.Outcome.next (if_pos ?_), fun hvbus hdark hlock hsession => ⟨fun hgood => ?_, fun hbad => ?_⟩⟩
    · rcases h with h | h | h | h
      · simp [h]
      · simp [h]
      · simp [Option.isSome_iff_ne_none.mpr h]
      · simp [Option.isSome_iff_ne_none.mpr h]
    · have hexec := (periscopeOpen_of_free key sig mask.val hvbus hdark hlock hsession).trans (if_pos (hopens.mpr hgood))
      refine ⟨_, congrArg Host.Outcome.next hexec, ((onlyIn_drawn s).trans (onlyIn_sessionOpened (drawn s) mask.val)).mono (by decide),
        sessionOpened_sec (drawn s) mask.val, ?_, ?_, ?_⟩
      · rw [sessionOpened_regN, State.bitAt_raise_self _ _ (by decide)]
      · rw [sessionOpened_regN, State.regN_raise_ne _ _ (by decide), State.regN_setField_self _ _ _ _ _ (by decide) (by decide),
          field_putField_self _ _ (by decide) (by decide), Nat.zero_mod]
      · rw [sessionOpened_regN, State.regN_raise_ne _ _ (by decide), State.regN_setField_self _ _ _ _ _ (by decide) (by decide),
          field_putField_ne _ _ (by decide) (by decide)]
        rfl
    · have hexec := (periscopeOpen_of_free key sig mask.val hvbus hdark hlock hsession).trans (if_neg fun h => hbad (hopens.mp h))
      obtain ⟨hkept, hlocked⟩ := authFail_sec (drawn s)
      obtain ⟨hraised, hcounted⟩ := failureNoted_regN (drawn s)
      have hrun : field ((drawn s).regN secPage 0x110) 15 8 = run := rfl
      have htotal : field ((drawn s).regN secPage 0x110) 7 0 = total := rfl
      rw [← State.regN_congr (authFail_regs (drawn s))] at hraised hcounted
      rw [hrun, htotal] at hcounted
      rw [hrun] at hlocked
      refine ⟨_, congrArg Host.Outcome.next hexec, ((onlyIn_drawn s).trans (onlyIn_authFail (drawn s))).mono (by decide), hkept.trans hsession, hraised,
        ?_, ?_, fun h => hlocked.trans (if_pos (by omega)), fun h => (hlocked.trans (if_neg (by omega))).trans hlock⟩
      · rw [hcounted, field]
        omega
      · rw [hcounted, field]
        omega
  · refine ⟨_, congrArg Host.Outcome.next (if_neg (by simp [hk])), (OnlyIn.refl s).putSec.logReq.mono (by decide), rfl, ?_⟩
    rw [State.logReq, State.log_logWord, if_pos rfl]
    rfl
  · exact ⟨_, congrArg Host.Outcome.next ((sessionTimeout_of_open hk).trans (if_pos hlate)), (OnlyIn.refl s).putSec.mono (by decide), rfl⟩
  · exact congrArg Host.Outcome.next ((sessionTimeout_of_open hk).trans (if_neg (by omega)))
  · exact congrArg Host.Outcome.next (if_pos (by simp [hnone]))
  · refine congrArg Host.Outcome.next ?_
    rw [sessionTimeout, hnone]
  · exact ⟨_, congrArg Host.Outcome.next ((authLockoutExpiry_of_locked hb).trans (if_pos hlate)), (OnlyIn.refl s).putSec.mono (by decide), rfl⟩
  · exact congrArg Host.Outcome.next ((authLockoutExpiry_of_locked hb).trans (if_neg (by omega)))

/-- Settles O53: by class of alarm, and by what the service port and the tool ask. -/
theorem alarmsAndService : Obligations.AlarmsAndService := ⟨alarms, servicePort⟩

end Sys2Proof.Machine
end

section
/-! SUPPORT. What a memory agent's work leaves as it was (R190-R208): everything but memory, its registers, counters and logs, the
replies that cores await, and the commits of slices. -/

namespace Sys2Proof.Machine

/-! ### Reads and writes at a tile's home -/

theorem onlyIn_sectorsRead (s : State) (stack n bad : Nat) : OnlyIn s (s.sectorsRead stack n bad) [.regs, .logs, .counters] := by
  have h : OnlyIn s (if n = 0 then s else s.bumpBy ⟨.hbc, stack⟩ 0 n) [.logs, .counters] :=
    (OnlyIn.ite (OnlyIn.refl s) (OnlyIn.refl s).bumpBy).mono (by decide)
  exact (OnlyIn.ite h h.bumpBy.raise).mono (by decide)

theorem onlyIn_readCounted (s : State) (a n : Nat) : OnlyIn s (s.readCounted a n) [.regs, .logs, .counters] := by
  unfold State.readCounted
  exact (OnlyIn.ite (OnlyIn.refl s).bumpBy (OnlyIn.foldl (fun t _ => onlyIn_sectorsRead t _ _ _) s _)).mono (by decide)

theorem onlyIn_writeCounted (s : State) (a n : Nat) : OnlyIn s (s.writeCounted a n) [.regs, .logs, .counters] := by
  unfold State.writeCounted
  have hone (t : State) (k : Nat) : OnlyIn t (if t.placeLost (32 * k) then t
      else t.sectorsRead (hbmMap (32 * k)).stack 1 (b2n (t.mem.poison.contains k))) [.regs, .logs, .counters] :=
    (OnlyIn.ite (OnlyIn.refl t) (onlyIn_sectorsRead t _ _ _)).mono (by decide)
  exact (OnlyIn.ite (OnlyIn.refl s).bumpBy (OnlyIn.foldl hone s _)).mono (by decide)

theorem onlyIn_writePart (s : State) (a n v : Nat) : OnlyIn s (s.writePart a n v) [.mem] := by
  unfold State.writePart
  exact (OnlyIn.ite (OnlyIn.refl s).putMem (.ite (OnlyIn.refl s) (OnlyIn.refl s).putMem)).mono (by decide)

theorem onlyIn_writePlace (fuel : Nat) (s : State) (a n v : Nat) : OnlyIn s (s.writePlace a n v fuel) [.mem] := by
  induction fuel generalizing s a n v with
  | zero => exact (OnlyIn.refl s).mono (by decide)
  | succ fuel ih =>
    unfold State.writePlace
    exact (OnlyIn.ite (OnlyIn.refl s) ((onlyIn_writePart s _ _ _).trans (ih _ _ _ _))).mono (by decide)

theorem onlyIn_put (s : State) (a n v : Nat) : OnlyIn s (s.put a n v) [.mem] := onlyIn_writePlace _ s a n v

/-- An operand's sums stand in memory, with the poison that it brought. -/
def atomicStored (s : State) (a : Atomic) (place : Nat) (m : List Host.Cell) : State :=
  let t := a.addr / 0x8000
  let s : State := { s with mem.dram := m }
  if a.marks.isEmpty then s else (s.poisonLine place).setEntry t (eBit (s.entry t) 60 true)

/-- An addition is counted, with the overflow marks that it made. -/
def atomicCounted (s : State) (p : Page) (k : Nat) : State :=
  let s := s.bump p 4
  if k = 0 then s else (s.raise p 2).bumpBy p 7 k

/-- The sums of an operand with what memory holds, and the overflow marks. -/
def atomicSums (s : State) (a : Atomic) : List Host.Cell × Nat :=
  addGrains a.fmt s.mem.dram a.bytes (atomicPlace s a) 0 (a.len / grainOf a.fmt)

theorem readCounted_mem (s : State) (a n : Nat) : (s.readCounted a n).mem = s.mem := onlyIn_readCounted s a n .mem (by decide)

theorem applyAtomic_eq (s : State) (a : Atomic) : applyAtomic s a =
    atomicCounted (atomicStored (s.readCounted (atomicPlace s a) a.len) a (atomicPlace s a) (atomicSums s a).1)
      (placePage (atomicPlace s a) (a.addr / 0x8000)) (atomicSums s a).2 := by
  have hsums : atomicSums s a = addGrains a.fmt (s.readCounted (atomicPlace s a) a.len).mem.dram a.bytes (atomicPlace s a) 0
      (a.len / grainOf a.fmt) := by
    rw [readCounted_mem]
    rfl
  rw [hsums]
  rfl

theorem onlyIn_atomicStored (s : State) (a : Atomic) (place : Nat) (m : List Host.Cell) : OnlyIn s (atomicStored s a place m) [.mem] :=
  (OnlyIn.ite (OnlyIn.refl s).putMem ((OnlyIn.refl s).putMem.poisonLine.setEntry)).mono (by decide)

theorem onlyIn_atomicCounted (s : State) (p : Page) (k : Nat) : OnlyIn s (atomicCounted s p k) [.regs, .logs, .counters] :=
  (OnlyIn.ite (OnlyIn.refl s).bump (OnlyIn.refl s).bump.raise.bumpBy).mono (by decide)

theorem onlyIn_applyAtomic (s : State) (a : Atomic) : OnlyIn s (applyAtomic s a) [.regs, .logs, .counters, .mem] := by
  rw [applyAtomic_eq]
  exact (((onlyIn_readCounted s _ _).trans (onlyIn_atomicStored _ a _ _)).trans (onlyIn_atomicCounted _ _ _)).mono (by decide)

theorem onlyIn_dropAtomic (s : State) (a : Atomic) : OnlyIn s (dropAtomic s a) [.regs, .logs, .counters] := (OnlyIn.refl s).raise.bump.logReq.mono (by decide)

theorem onlyIn_settle (s : State) (t : Nat) : OnlyIn s (s.settle t) [.regs, .logs, .counters, .mem] := by
  unfold State.settle
  exact ((OnlyIn.refl s).putMem.trans (OnlyIn.foldl onlyIn_applyAtomic _ _)).mono (by decide)

theorem onlyIn_beginMove (s : State) (m : Move) : OnlyIn s (s.beginMove m) [.regs, .logs, .counters, .mem] := by
  unfold State.beginMove
  exact (onlyIn_settle s m.tile).setEntry.putMem.mono (by decide)

theorem onlyIn_serveWrite (s : State) (t : Nat) (side : Bool) (off n v : Nat) (bad : Bool) :
    OnlyIn s (serveWrite s t side off n v bad) [.regs, .logs, .counters, .mem] := by
  unfold serveWrite
  extract_lets s1 a s2 s3
  have h2 : OnlyIn s s2 [.regs, .logs, .counters, .mem] :=
    (((onlyIn_settle s t).trans (onlyIn_writeCounted s1 a n)).trans (onlyIn_put _ a n v)).mono (by decide)
  exact (OnlyIn.ite h2 h2.putMem.setEntry).mono (by decide)

theorem onlyIn_serveRead (s : State) (t : Nat) (side : Bool) (off n : Nat) :
    OnlyIn s (serveRead s t side off n).1 [.regs, .logs, .counters, .mem] := by
  unfold serveRead
  extract_lets s1 a s2 s3
  have h2 : OnlyIn s s2 [.regs, .logs, .counters, .mem] := ((onlyIn_settle s t).trans (onlyIn_readCounted s1 a n)).mono (by decide)
  show OnlyIn s s3 _
  unfold s3
  split
  · exact (OnlyIn.ite h2.bump h2).mono (by decide)
  · exact h2

theorem onlyIn_putLines (s : State) (a n : Nat) (bytes : List Host.Cell) (from_ : Nat) (marks : NSet) :
    OnlyIn s (s.putLines a n bytes from_ marks) [.mem] := (OnlyIn.refl s).putMem

theorem onlyIn_readTile (s : State) (t : Nat) (side : Bool) : OnlyIn s (readTile s t side).1 [.regs, .logs, .counters, .mem] := by
  unfold readTile
  have h1 := onlyIn_settle s t
  generalize s.settle t = r at h1 ⊢
  dsimp only
  generalize (r.home t).1 = a
  generalize (r.home t).2 = b
  have hread : OnlyIn s (r.readCounted a 0x8000) [.regs, .logs, .counters, .mem] := (h1.trans (onlyIn_readCounted r a _)).mono (by decide)
  have hcounted {u : State} (h : OnlyIn s u [.regs, .logs, .counters, .mem]) (c : Nat) :
      OnlyIn s (if eTier (r.entry t) = 0 then u.bump ⟨.stk, c⟩ 6 else u) [.regs, .logs, .counters, .mem] :=
    (OnlyIn.ite h.bump h).mono (by decide)
  cases side with
  | true =>
    have hboth : OnlyIn s ((r.readCounted a 0x8000).readCounted b 0x400) [.regs, .logs, .counters, .mem] :=
      (hread.trans (onlyIn_readCounted _ b _)).mono (by decide)
    rw [if_pos rfl, if_pos rfl]
    dsimp only
    split
    · exact hcounted hboth _
    · exact hboth
  | false =>
    rw [if_neg (by decide), if_neg (by decide)]
    dsimp only
    split
    · exact hcounted hread _
    · exact hread

theorem onlyIn_writeTile (s : State) (t : Nat) (side : Bool) (bytes : List Host.Cell) (marks : NSet) :
    OnlyIn s (writeTile s t side bytes marks) [.regs, .logs, .counters, .mem] := by
  unfold writeTile
  have h1 := onlyIn_settle s t
  generalize s.settle t = r at h1 ⊢
  dsimp only
  generalize (r.home t).1 = a
  generalize (r.home t).2 = b
  have h2 : OnlyIn s ((r.writeCounted a 0x8000).putLines a 0x8000 bytes 0 marks) [.regs, .logs, .counters, .mem] :=
    ((h1.trans (onlyIn_writeCounted r a _)).trans (onlyIn_putLines _ _ _ _ _ _)).mono (by decide)
  generalize (r.writeCounted a 0x8000).putLines a 0x8000 bytes 0 marks = u at h2 ⊢
  have h3 : OnlyIn s (if side = true then (u.writeCounted b 0x400).putLines b 0x400 bytes 0x8000 (NSet.slice marks 256 8 0) else u)
      [.regs, .logs, .counters, .mem] :=
    (OnlyIn.ite ((h2.trans (onlyIn_writeCounted u b _)).trans (onlyIn_putLines _ _ _ _ _ _)) h2).mono (by decide)
  exact (OnlyIn.ite h3.setEntry (.ite h3.setEntry h3)).mono (by decide)

/-! ### Frames and Stash entries (R197-R199, R207) -/

theorem onlyIn_takeFrame (s : State) (c f t : Nat) : OnlyIn s (s.takeFrame c f t) [.mem, .logs, .counters] := (OnlyIn.refl s).bump.putMem

theorem onlyIn_freeFrame (s : State) (c f : Nat) : OnlyIn s (s.freeFrame c f) [.mem, .logs, .counters] := (OnlyIn.refl s).bump.putMem

theorem onlyIn_stashAccept (s : State) (c d : Nat) : OnlyIn s (stashAccept s c d).1 [.mem, .logs, .counters] := by
  unfold stashAccept
  dsimp only
  split
  · exact (OnlyIn.refl s).bump.mono (by decide)
  · split
    · exact (OnlyIn.refl s).mono (by decide)
    · split
      · split
        · exact (OnlyIn.refl s).mono (by decide)
        · exact (onlyIn_takeFrame s _ _ _).setEntry.bump.setStash.mono (by decide)
      · split
        · exact (OnlyIn.refl s).mono (by decide)
        · exact (OnlyIn.refl s).setEntry.bump.setStash.mono (by decide)

theorem onlyIn_stashFull (s : State) (c core : Nat) (x : Ctx) (depth : Nat) : OnlyIn s (stashFull s c core x depth) [.regs] :=
  (OnlyIn.refl s).record.raise.mono (by decide)

/-! ### Whoever made a write is told (R237, R243, R315) -/

theorem onlyIn_ringTold (s : State) (p : Page) (head flag : Nat) (sent : Option Nat) (refused : Nat) (ok : Bool) :
    OnlyIn s (ringTold s p head flag sent refused ok) [.regs, .logs, .counters] := by
  unfold ringTold
  dsimp only
  split
  · split
    · exact (OnlyIn.refl s).setRegN.bump.mono (by decide)
    · exact (OnlyIn.refl s).setRegN.mono (by decide)
  · exact (OnlyIn.refl s).setRegN.raise.bump.mono (by decide)

/-- A slice whose last piece has been told is no longer homing. -/
def homingDone (s : State) (t : Tag) (written : Bool) : State :=
  let mine (h : Homing) : Bool := decide (t = ⟨h.commit.step, h.commit.bucket, h.commit.slice⟩)
  let s : State := { s with step.homing := s.step.homing.filter (fun g => !mine g) }
  if written then { s with upd.slices := s.upd.slices.filter (fun e => !(e.2.written && decide (e.2.tag = t))) } else s

theorem onlyIn_homingDone (s : State) (t : Tag) (written : Bool) : OnlyIn s (homingDone s t written) [.step, .upd] :=
  (OnlyIn.ite (OnlyIn.refl s).putStep.putUpd (OnlyIn.refl s).putStep).mono (by decide)

theorem onlyIn_homed (s : State) (t : Tag) (ok : Bool) : OnlyIn s (homed s t ok) [.step, .upd, .crs, .logs, .counters] := by
  unfold homed
  extract_lets mine
  split
  · exact (OnlyIn.refl s).mono (by decide)
  · rename_i h _
    have hdone := onlyIn_homingDone s t h.rule.isSome
    refine OnlyIn.mono (OnlyIn.ite (ps := [.step]) (qs := [.step, .upd, .crs, .logs, .counters]) (OnlyIn.refl s).putStep ?_) (by decide)
    refine OnlyIn.mono (OnlyIn.ite (ps := [.step, .upd, .crs, .logs, .counters]) (qs := [.step, .upd, .crs, .logs, .counters]) ?_ ?_) (by decide)
    · exact (OnlyIn.ite hdone.putCrs.bump hdone.putCrs).mono (by decide)
    · show OnlyIn s (sendCommit (match h.rule with
        | none => homingDone s t h.rule.isSome
        | some r => ((homingDone s t h.rule.isSome).bump ⟨.upd, 0⟩ 0).bump ⟨.upd, 0⟩ (match r with | 3 => 2 | 4 => 3 | _ => 1)) _) _
      split
      · exact hdone.putStep.mono (by decide)
      · exact hdone.bump.bump.putStep.mono (by decide)

theorem onlyIn_told (s : State) (who : Option Origin) (addr len : Nat) (ok : Bool) :
    OnlyIn s (told s who addr len ok) [.regs, .logs, .counters, .mem, .step, .upd, .crs] := by
  unfold told
  split
  · exact (OnlyIn.refl s).putMem.mono (by decide)
  · exact (onlyIn_ringTold s _ _ _ _ _ _).mono (by decide)
  · exact (onlyIn_ringTold s _ _ _ _ _ _).mono (by decide)
  · exact (OnlyIn.refl s).mono (by decide)
  · exact (onlyIn_homed s _ _).mono (by decide)
  · exact (OnlyIn.refl s).mono (by decide)

/-! ### An agent's work on cores (R139, R149) -/

/-- What a core's replies and loads never touch: its flags and its contexts' modes. -/
def Core.resting (c : Core) : SMap FlagCell × (Ctx → CtxMode) := (c.flags, fun x => (c.ctx x).mode)

/-- Between the two states memory agents have served accesses. -/
structure Serves (s t : State) : Prop where
  onlyIn : OnlyIn s t [.regs, .logs, .counters, .mem, .cores, .step, .upd, .crs]
  resting : ∀ i, (SMap.getD t.cores {} i).resting = (SMap.getD s.cores {} i).resting

theorem Serves.of_onlyIn {s t : State} (h : OnlyIn s t [.regs, .logs, .counters, .mem, .step, .upd, .crs]) : Serves s t :=
  ⟨h.mono (by decide), fun i => by rw [show t.cores = s.cores from h .cores (by decide)]⟩

theorem Serves.refl (s : State) : Serves s s := ⟨(OnlyIn.refl s).mono (by decide), fun _ => rfl⟩

theorem Serves.trans {s t r : State} (h : Serves s t) (g : Serves t r) : Serves s r :=
  ⟨(h.onlyIn.trans g.onlyIn).mono (by decide), fun i => (g.resting i).trans (h.resting i)⟩

theorem Serves.foldl {α : Type} {f : State → α → State} (hf : ∀ s a, Serves s (f s a)) (s : State) (l : List α) : Serves s (l.foldl f s) := by
  induction l generalizing s with
  | nil => exact .refl s
  | cons a l ih => exact (hf s a).trans (ih (f s a))

theorem serves_putCore (s : State) (i : Nat) {c : Core} (h : c.resting = (SMap.getD s.cores {} i).resting) :
    Serves s { s with cores := SMap.set s.cores i c } := by
  refine ⟨(OnlyIn.refl s).putCores.mono (by decide), fun j => ?_⟩
  show (SMap.getD (SMap.set s.cores i c) {} j).resting = _
  rw [SMap.getD_set]
  split
  · rw [h, ‹j = i›]
  · rfl

theorem serves_answerTile (s : State) (core sc seq t : Nat) (r : TileReply) : Serves s (answerTile s core sc seq t r) :=
  serves_putCore s core (c := (SMap.getD s.cores {} core).setSc sc _) (by unfold Core.resting Core.setSc; rfl)

theorem serves_answerLoad (s : State) (core : Nat) (x : Ctx) (ans : LoadAns) : Serves s (answerLoad s core x ans) := by
  refine serves_putCore s core (Prod.ext (Core.modCtx_flags ..) (funext fun y => ?_))
  cases x <;> cases y <;> rfl

/-! ### An access that is served, held or waits (R192, R193, R198) -/

theorem serves_told (s : State) (who : Option Origin) (addr len : Nat) (ok : Bool) : Serves s (told s who addr len ok) :=
  .of_onlyIn ((onlyIn_told s who addr len ok).mono (by decide))

theorem serves_serveWrite (s : State) (t : Nat) (side : Bool) (off n v : Nat) (bad : Bool) : Serves s (serveWrite s t side off n v bad) :=
  .of_onlyIn ((onlyIn_serveWrite s t side off n v bad).mono (by decide))

theorem serves_beginMove (s : State) (m : Move) : Serves s (s.beginMove m) := .of_onlyIn ((onlyIn_beginMove s m).mono (by decide))

theorem serves_stashServe (s : State) (c : Nat) (r : StashReq) : Serves s (stashServe s c r).1 := by
  have haccept : Serves s (stashAccept s c r.depth).1 := .of_onlyIn ((onlyIn_stashAccept s c r.depth).mono (by decide))
  unfold stashServe
  dsimp only
  generalize stashAccept s c r.depth = a at haccept ⊢
  obtain ⟨s1, ans⟩ := a
  cases ans with
  | spill => exact .refl s
  | lend => exact .refl s
  | moving =>
    cases r.op with
    | tile core sc seq at_ side bytes marks => exact haccept.trans (serves_answerTile ..)
    | bytes who side off len v bad => exact .refl s
  | refused =>
    cases r.op with
    | tile core sc seq at_ side bytes marks => exact haccept.trans (serves_answerTile ..)
    | bytes who side off len v bad =>
      have htold := haccept.trans (serves_told s1 who (tileAddr (stashTile c r.depth) side off) len false)
      cases who with
      | none => exact htold
      | some o =>
        cases o with
        | jgSt core x => exact haccept.trans (.of_onlyIn ((onlyIn_stashFull s1 c core x r.depth).mono (by decide)))
        | _ => exact htold
  | home =>
    cases r.op with
    | tile core sc seq at_ side bytes marks =>
      exact haccept.trans ((Serves.of_onlyIn ((onlyIn_writeTile s1 _ _ _ _).mono (by decide))).trans (serves_answerTile ..))
    | bytes who side off len v bad => exact haccept.trans ((serves_serveWrite ..).trans (serves_told ..))

theorem serves_readHome (s : State) (t addr len : Nat) : Serves s (readHome s t addr len).1 := by
  unfold readHome
  split
  · split
    · exact .of_onlyIn ((onlyIn_serveRead s t _ _ len).mono (by decide))
    · exact .refl s
  · exact .refl s

theorem serves_fetchAnswer (s : State) (n : Nat) (a : Atomic) (x : LoadAns) :
    Serves s { s with mem.served := s.mem.served ++ [⟨.talel n, a.addr, a.len, x⟩] } := .of_onlyIn ((OnlyIn.refl s).putMem.mono (by decide))

theorem serves_dropAtomic (s : State) (a : Atomic) : Serves s (dropAtomic s a) := .of_onlyIn ((onlyIn_dropAtomic s a).mono (by decide))

theorem serves_performHeld (s : State) (h : Held) : Serves s (performHeld s h).1 := by
  unfold performHeld
  dsimp only
  split
  · split
    · exact serves_stashServe ..
    · exact .refl s
  · split
    · exact .refl s
    · split
      · split
        · exact (serves_serveWrite ..).trans (serves_told ..)
        · exact serves_told ..
      · exact .refl s
  · split
    · exact serves_dropAtomic ..
    · split
      · exact .refl s
      · split
        · exact serves_beginMove ..
        · exact .of_onlyIn ((OnlyIn.refl s).putMem.mono (by decide))
  · split
    · exact (serves_dropAtomic ..).trans (serves_fetchAnswer ..)
    · split
      · exact .refl s
      · split
        · exact serves_beginMove ..
        · exact .of_onlyIn ((((onlyIn_settle s _).trans (onlyIn_applyAtomic _ _)).putMem).mono (by decide))
  · split
    · exact .refl s
    · split
      · exact (serves_readHome ..).trans (serves_answerLoad ..)
      · exact .refl s
  · split
    · exact .refl s
    · exact (serves_readHome ..).trans (.of_onlyIn ((OnlyIn.refl _).putMem.mono (by decide)))
  · split
    · exact serves_answerTile ..
    · exact (Serves.of_onlyIn ((onlyIn_readTile s _ _).mono (by decide))).trans (serves_answerTile ..)

/-- A ring record that an agent is to hold has been accepted. -/
def holdTold (s : State) (h : Held) : State × Held :=
  match h.op with
  | .write addr len v bad (some o) =>
    (match o with
    | .unit _ => (s, h)
    | _ => (told s (some o) addr len true, { h with op := .write addr len v bad none }))
  | _ => (s, h)

/-- An access joins those that an agent holds, and is counted. -/
def joined (s : State) (h : Held) : State :=
  let s := { s with mem.held := s.mem.held ++ [h] }
  if h.agent < 12 then s.bump ⟨.dir, h.agent⟩ 2 else if waitsForSpill s h then s.bump (stkPage (h.agent - 12)) 4 else s

theorem hold_eq (s : State) (h : Held) : s.hold h = joined (holdTold s h).1 (holdTold s h).2 := rfl

theorem serves_holdTold (s : State) (h : Held) : Serves s (holdTold s h).1 := by
  unfold holdTold
  split
  · split
    · exact .refl s
    · exact serves_told ..
  · exact .refl s

theorem serves_joined (s : State) (h : Held) : Serves s (joined s h) :=
  .of_onlyIn ((OnlyIn.ite (OnlyIn.refl s).putMem.bump (.ite (OnlyIn.refl s).putMem.bump (OnlyIn.refl s).putMem)).mono (by decide))

theorem serves_hold (s : State) (h : Held) : Serves s (s.hold h) := by
  rw [hold_eq]
  exact (serves_holdTold s h).trans (serves_joined ..)

theorem onlyIn_accept (s : State) (t : Nat) : OnlyIn s (s.accept t) [.regs, .logs, .counters, .mem] := by
  unfold State.accept
  have h : OnlyIn s (if agentOf t < 12 then s.bump ⟨.dir, agentOf t⟩ 0 else s) [.logs, .counters] :=
    (OnlyIn.ite (OnlyIn.refl s).bump (OnlyIn.refl s)).mono (by decide)
  exact (OnlyIn.ite h.raise.trigger h).mono (by decide)

theorem serves_arrive (s : State) (h : Held) : Serves s (arrive s h) := by
  unfold arrive
  split
  · exact .of_onlyIn ((OnlyIn.refl s).putMem.mono (by decide))
  · have haccept : Serves s (s.accept h.tile) := .of_onlyIn ((onlyIn_accept s h.tile).mono (by decide))
    dsimp only
    split
    · exact haccept.trans (serves_hold ..)
    · have hperform := haccept.trans (serves_performHeld (s.accept h.tile) h)
      split
      · rename_i hdone
        rw [hdone] at hperform
        exact hperform
      · rename_i hdone
        rw [hdone] at hperform
        exact hperform.trans (serves_hold ..)

theorem serves_serveHeld (l keep : List Held) (s : State) : Serves s (serveHeld s l keep) := by
  induction l generalizing s keep with
  | nil => exact .of_onlyIn ((OnlyIn.refl s).putMem.mono (by decide))
  | cons h rest ih =>
    unfold serveHeld
    split
    · exact ih ..
    · have hperform := serves_performHeld s h
      split
      · rename_i hdone
        rw [hdone] at hperform
        exact hperform.trans (ih ..)
      · rename_i hdone
        rw [hdone] at hperform
        exact hperform.trans (ih ..)

theorem serves_wakeAgent (s : State) (g : Nat) : Serves s (wakeAgent s g) := by
  have hput {t : State} {v : Memory} : Serves t { t with mem := v } := .of_onlyIn ((OnlyIn.refl t).putMem.mono (by decide))
  unfold wakeAgent
  exact ((hput.trans (serves_serveHeld ..)).trans hput).trans (Serves.foldl serves_arrive _ _)

/-! ### Moves that are cancelled, and a Stash that is released (R201, R399) -/

/-- A tile whose move has been cancelled. -/
def moveDropped (s : State) (m : Move) : State :=
  let s := { s with mem.moves := s.mem.moves.filter (fun k => decide (k.tile ≠ m.tile)) }
  s.setEntry m.tile (eBit (s.entry m.tile) 61 false)

theorem onlyIn_moveDropped (s : State) (m : Move) : OnlyIn s (moveDropped s m) [.mem] := (OnlyIn.refl s).putMem.setEntry.mono (by decide)

theorem cancelMove_eq (s : State) (m : Move) : cancelMove s m =
    wakeAgent (if m.tier = 1 then (moveDropped s m).freeFrame m.cluster m.frame else moveDropped s m) (agentOf m.tile) := rfl

theorem serves_cancelMove (s : State) (m : Move) : Serves s (cancelMove s m) := by
  have h := onlyIn_moveDropped s m
  rw [cancelMove_eq]
  exact (Serves.of_onlyIn ((OnlyIn.ite (h.trans (onlyIn_freeFrame _ _ _)) h).mono (by decide))).trans (serves_wakeAgent ..)

/-- A released tile's move ends. -/
def releaseMove (s : State) (t : Nat) : State :=
  match s.mem.moves.find? (fun m => decide (m.tile = t)) with
  | some m =>
    let s := { s with mem.moves := s.mem.moves.filter (fun k => decide (k.tile ≠ t)) }
    if m.tier = 1 then s.freeFrame m.cluster m.frame else s
  | none => s

/-- A released tile's frame is free. -/
def releaseFrame (s : State) (t : Nat) : State := if eTier (s.entry t) = 1 then s.freeFrame (eCluster (s.entry t)) (eFrame (s.entry t)) else s

theorem releaseDepth_eq (s : State) (c d : Nat) : releaseDepth s c d =
    (((releaseFrame (releaseMove s (stashTile c d)) (stashTile c d)).setEntry (stashTile c d)
      (eBit (eBit ((releaseMove s (stashTile c d)).entry (stashTile c d)) 63 false) 61 false)).bump (stkPage c) 1) := rfl

theorem onlyIn_releaseMove (s : State) (t : Nat) : OnlyIn s (releaseMove s t) [.mem, .logs, .counters] := by
  unfold releaseMove
  split
  · exact (OnlyIn.ite ((OnlyIn.refl s).putMem.trans (onlyIn_freeFrame _ _ _)) (OnlyIn.refl s).putMem).mono (by decide)
  · exact (OnlyIn.refl s).mono (by decide)

theorem onlyIn_releaseFrame (s : State) (t : Nat) : OnlyIn s (releaseFrame s t) [.mem, .logs, .counters] :=
  (OnlyIn.ite (onlyIn_freeFrame s _ _) (OnlyIn.refl s)).mono (by decide)

theorem onlyIn_releaseDepth (s : State) (c d : Nat) : OnlyIn s (releaseDepth s c d) [.mem, .logs, .counters] := by
  rw [releaseDepth_eq]
  exact ((onlyIn_releaseMove s _).trans (onlyIn_releaseFrame _ _)).setEntry.bump.mono (by decide)

theorem serves_stashRelease (s : State) (c r : Nat) : Serves s (stashRelease s c r) := by
  unfold stashRelease
  exact ((Serves.foldl (fun t d => .of_onlyIn ((onlyIn_releaseDepth t c d).mono (by decide))) s _).trans
    (.of_onlyIn ((OnlyIn.refl _).setStash.mono (by decide)))).trans (serves_wakeAgent ..)

end Sys2Proof.Machine
end

section
/-! SUPPORT. Triggers, kills of jobs and drain limits (R399, R403, R404, R411). -/

namespace Sys2Proof.Machine

/-! ### A trigger that starts a partition reset (R403, R404) -/

/-- A trigger in PART.TRIGGER and ISTATUS. -/
def triggerNoted (s : State) (cause target cluster : Nat) : State :=
  (s.record partPg 0x124 (cause * 2 ^ 26 + (if target < 4 then target else 0) * 2 ^ 24 + cluster)).raise partPg 3

/-- A kill in the partition ends with the reset that takes it over. -/
def killOutside (s : State) (target : Nat) : Option (Nat × Nat × Nat) :=
  match s.cont.kill with
  | some (p, j, t) => if p = target then none else some (p, j, t)
  | none => none

/-- The containment with a partition's reset in progress. -/
def resetCont (s : State) (target : Nat) : Contain :=
  { s.cont with kill := killOutside s target, resets := SMap.set s.cont.resets target ⟨s.tick, false⟩ }

/-- A partition's reset has started. -/
structure ResetStarted (s t : State) (target : Nat) : Prop where
  onlyIn : OnlyIn s t [.cores, .regs, .counters, .logs, .cont]
  cont : t.cont = resetCont s target
  fenced : ∀ (id : CoreId) x, (t.core id).ctx x = if s.clusterPart id.cluster.val = target then ((s.core id).ctx x).stopped else (s.core id).ctx x
  epoch : ∀ q, q < 4 → t.epochOf q = if q = target then (s.epochOf q + 1) % 2 ^ 16 else s.epochOf q
  istatus : t.regN partPg 0x018 = (s.raise partPg 3).regN partPg 0x018
  part : ∀ c : Fin 40, t.clusterPart c.val = s.clusterPart c.val

theorem onlyIn_triggerNoted (s : State) (cause target cluster : Nat) : OnlyIn s (triggerNoted s cause target cluster) [.regs] :=
  (OnlyIn.refl s).record.raise.mono (by decide)

theorem triggerNoted_regN (s : State) (cause target cluster : Nat) {off : Nat} (h1 : off ≠ 0x124) (h2 : off ≠ 0x018) :
    (triggerNoted s cause target cluster).regN partPg off = s.regN partPg off := by
  have hne {a : Nat} (h : off ≠ a) : partPg.key off ≠ partPg.key a := by unfold Page.key; omega
  rw [triggerNoted, State.regN_raise_ne _ _ (hne h2), State.regN_record_ne _ _ (hne h1)]

theorem triggerNoted_istatus (s : State) (cause target cluster : Nat) :
    (triggerNoted s cause target cluster).regN partPg 0x018 = (s.raise partPg 3).regN partPg 0x018 := by
  have hrec : (s.record partPg 0x124 (cause * 2 ^ 26 + (if target < 4 then target else 0) * 2 ^ 24 + cluster)).reg partPg 0x018 =
      s.reg partPg 0x018 := State.reg_record_ne _ _ (by decide)
  rw [triggerNoted, State.raise, State.regN, State.reg_setReg_self, hrec, State.raise, State.regN, State.reg_setReg_self]

/-- The state in which a partition's reset begins. -/
def resetBegun (s : State) (cause target cluster : Nat) : State :=
  { (triggerNoted s cause target cluster).bump partPg 0 with cont := resetCont ((triggerNoted s cause target cluster).bump partPg 0) target }

theorem takeTrigger_of_free {s : State} (cause : Nat) {target : Nat} (cluster : Nat) (htarget : target < 4) (hwarm : s.cont.warm = none)
    (hreset : SMap.get s.cont.resets target = none) : takeTrigger s cause target cluster = fence (resetBegun s cause target cluster) target := by
  have hcont : ((triggerNoted s cause target cluster).bump partPg 0).cont = s.cont :=
    (State.bump_cont ..).trans (onlyIn_triggerNoted s cause target cluster .cont (by decide))
  have hfree : ¬ ((((triggerNoted s cause target cluster).bump partPg 0).cont.warm.isSome ||
      (SMap.get ((triggerNoted s cause target cluster).bump partPg 0).cont.resets target).isSome) = true) := by
    rw [hcont, hwarm, hreset]
    decide
  unfold takeTrigger
  rw [if_neg (by omega), if_neg (by omega)]
  exact if_neg hfree

theorem takeTrigger_of_reset {s : State} (cause : Nat) {target : Nat} (cluster : Nat) (htarget : target < 4)
    (hreset : s.cont.warm ≠ none ∨ SMap.get s.cont.resets target ≠ none) :
    takeTrigger s cause target cluster = (triggerNoted s cause target cluster).bump partPg 0 := by
  have hcont : ((triggerNoted s cause target cluster).bump partPg 0).cont = s.cont :=
    (State.bump_cont ..).trans (onlyIn_triggerNoted s cause target cluster .cont (by decide))
  unfold takeTrigger
  rw [if_neg (by omega), if_neg (by omega)]
  refine if_pos ?_
  show (((triggerNoted s cause target cluster).bump partPg 0).cont.warm.isSome ||
      (SMap.get ((triggerNoted s cause target cluster).bump partPg 0).cont.resets target).isSome) = true
  rw [hcont, Bool.or_eq_true, Option.isSome_iff_ne_none, Option.isSome_iff_ne_none]
  exact hreset

theorem takeTrigger_of_none (s : State) (cause : Nat) {target : Nat} (cluster : Nat) (htarget : 4 < target) :
    takeTrigger s cause target cluster = triggerNoted s cause target cluster := by
  unfold takeTrigger
  rw [if_neg (by omega), if_pos (by omega)]
  rfl

theorem takeTrigger_of_module (s : State) (cause cluster : Nat) :
    takeTrigger s cause 4 cluster = startWarm (triggerNoted s cause 4 cluster) 0 := by
  unfold takeTrigger
  exact if_pos rfl

theorem resetStarted_of_free {s : State} (cause : Nat) {target : Nat} (cluster : Nat) (htarget : target < 4) (hwarm : s.cont.warm = none)
    (hreset : SMap.get s.cont.resets target = none) : ResetStarted s (takeTrigger s cause target cluster) target := by
  have hnoted := onlyIn_triggerNoted s cause target cluster
  have hbegun : OnlyIn s (resetBegun s cause target cluster) [.cont, .logs, .counters, .regs] :=
    (hnoted.bump.putCont (v := resetCont ((triggerNoted s cause target cluster).bump partPg 0) target)).mono (by decide)
  have hreg (off : Nat) : (resetBegun s cause target cluster).regN partPg off = (triggerNoted s cause target cluster).regN partPg off :=
    State.regN_bump ..
  have hcont : (resetBegun s cause target cluster).cont = resetCont s target := by
    have h1 : ((triggerNoted s cause target cluster).bump partPg 0).cont = s.cont := (State.bump_cont ..).trans (hnoted .cont (by decide))
    have h2 : ((triggerNoted s cause target cluster).bump partPg 0).tick = s.tick := (State.bump_tick ..).trans (hnoted .tick (by decide))
    show resetCont ((triggerNoted s cause target cluster).bump partPg 0) target = _
    rw [resetCont, killOutside, h1, h2, resetCont, killOutside]
  rw [takeTrigger_of_free cause cluster htarget hwarm hreset]
  have hfenced := fenced_fence (resetBegun s cause target cluster) htarget
  have hcore (id : CoreId) : (resetBegun s cause target cluster).core id = s.core id := State.core_congr (hbegun .cores (by decide)) id
  have hpart (c : Fin 40) : (resetBegun s cause target cluster).clusterPart c.val = s.clusterPart c.val := by
    have h : (resetBegun s cause target cluster).regN partPg (0x200 + 4 * c.val) = s.regN partPg (0x200 + 4 * c.val) :=
      (hreg _).trans (triggerNoted_regN s cause target cluster (by omega) (by omega))
    exact congrArg (field · 1 0) h
  have hepoch (q : Nat) (hq : q < 4) : (resetBegun s cause target cluster).epochOf q = s.epochOf q := by
    rw [State.epochOf, hreg, triggerNoted_regN s cause target cluster (by omega) (by omega), State.epochOf]
  generalize resetBegun s cause target cluster = r at hbegun hreg hcont hfenced hcore hpart hepoch
  have hkept (c : Fin 40) : (fence r target).clusterPart c.val = s.clusterPart c.val :=
    (hfenced.clusterPart (fun q hq => List.mem_singleton.mp hq ▸ htarget) c).trans (hpart c)
  refine ⟨(hbegun.trans hfenced.onlyIn).mono (by decide), ?_, fun id x => ?_, fun q hq => ?_, ?_, hkept⟩
  · exact (show (fence r target).cont = r.cont from hfenced.onlyIn .cont (by decide)).trans hcont
  · rw [← hpart id.cluster, ← hcore]
    split
    · exact hfenced.named id x (List.mem_singleton.mpr ‹_›)
    · exact hfenced.others id x fun h => absurd (List.mem_singleton.mp h) ‹_›
  · split
    · rw [hfenced.epoch q (List.mem_singleton.mpr ‹_›), hepoch q hq]
    · rw [hfenced.epoch_ne (fun h => absurd (List.mem_singleton.mp h) ‹_›) hq, hepoch q hq]
  · rw [hfenced.partReg (by decide) (fun q hq => by omega), hreg, triggerNoted_istatus]

end Sys2Proof.Machine
end

section
/-! SUPPORT. Job kills and drain limits (R399, R404, R411). -/

namespace Sys2Proof.Machine

/-! ### Records of many halts -/

/-- Two cores have pages of their own. -/
theorem corePage_base_inj {a b : CoreId} (h : a ≠ b) : (corePage a).base ≠ (corePage b).base := by
  intro he
  apply h
  obtain ⟨⟨c, hc⟩, ⟨k, hk⟩⟩ := a
  obtain ⟨⟨d, hd⟩, ⟨l, hl⟩⟩ := b
  simp only [corePage, coreIdx, Page.base] at he
  simp only [CoreId.mk.injEq, Fin.mk.injEq]
  omega

/-- A context that does not run keeps its records while cores halt. -/
theorem haltAll_regN_keep (l : List CoreId) (s : State) {id : CoreId} {x : Ctx} (h : ((s.core id).ctx x).mode ≠ .running) {o : Nat} (ho : o < 0x40) :
    (l.foldl haltAllCore s).regN (corePage id) (ctxOff x o) = s.regN (corePage id) (ctxOff x o) := by
  induction l generalizing s with
  | nil => rfl
  | cons y l ih =>
    have hhalt := halts_haltCore s y none causeExternal false 0 noSlot
    rw [List.foldl_cons, ih]
    · by_cases hy : y = id
      · subst hy
        exact haltSteps_regN_keep s y none causeExternal false 0 noSlot allCtx h ho
      · exact hhalt.reg _ _ (by have := ctxOff_lt x ho; omega) fun i _ hi => hi ▸ corePage_base_inj (Ne.symm hy)
    · by_cases hy : id = y
      · rw [haltAllCore, hhalt.named id x hy]
        exact Context.stopped_mode_ne _
      · rw [haltAllCore, hhalt.others id x hy]
        exact h

/-- Each context that halts has EXTERNAL for its cause. -/
theorem haltAll_cause (l : List CoreId) (s : State) {id : CoreId} {x : Ctx} (hid : id ∈ l) (h : ((s.core id).ctx x).mode = .running) :
    (l.foldl haltAllCore s).regN (corePage id) (ctxOff x 0x0C) = causeExternal := by
  induction l generalizing s with
  | nil => cases hid
  | cons y l ih =>
    have hhalt := halts_haltCore s y none causeExternal false 0 noSlot
    rw [List.foldl_cons]
    by_cases hy : id = y
    · subst hy
      have hstopped : (((haltAllCore s id).core id).ctx x).mode ≠ .running := by
        rw [haltAllCore, hhalt.named id x rfl]
        exact Context.stopped_mode_ne _
      rw [haltAll_regN_keep l _ hstopped (by decide)]
      obtain ⟨hcause, -⟩ := haltCore_records s id none causeExternal false 0 noSlot h
      rw [if_neg nofun] at hcause
      exact hcause.trans (show (b2n false * 256 + causeExternal) % 2 ^ 32 = causeExternal by decide)
    · refine ih _ ((List.mem_cons.mp hid).resolve_left hy) ?_
      rw [haltAllCore, hhalt.others id x hy]
      exact h

/-! ### A write of PART.KILL (R399) -/

theorem jobClusters_lt (s : State) (p j : Nat) : ∀ c ∈ s.jobClusters p j, c < 40 :=
  fun _ hc => List.mem_range.mp (List.mem_filter.mp (List.mem_filter.mp hc).1).1

theorem mem_jobClusters (s : State) (p j : Nat) (c : Fin 40) :
    c.val ∈ s.jobClusters p j ↔ s.clusterPart c.val = p ∧ s.clusterJob c.val = j := by
  rw [State.jobClusters, List.mem_filter, mem_partClusters, beq_iff_eq]

theorem writeReg_kill {s s1 : State} {who : Requester} {v : Word} (h : WriteReaches s s1 partPg 0x114 who v.toNat) :
    writeReg s partPg 0x114 who v = tookOr (killWrite (seenBy s who) v.toNat) partPg who 0x114 := by
  rw [writeReg_of_reaches h (by decide) (by decide), pageWrite_block _ _ _ _ _ (by decide) rfl]
  rfl

/-- The state in which a kill begins. -/
def killBegun (s : State) (p j : Nat) : State := { s with cont.kill := some (p, j, s.tick) }

theorem killWrite_of_free {s : State} {v : Nat} (hgo : bitAt v 31 = true) (hkill : s.cont.kill = none)
    (hreset : SMap.get s.cont.resets (field v 5 4) = none) (hwarm : s.cont.warm = none) :
    killWrite s v = (haltClusters (killBegun s (field v 5 4) (field v 3 0)) (s.jobClusters (field v 5 4) (field v 3 0)), true) := by
  simp [killWrite, hgo, hkill, hreset, hwarm, killBegun]

theorem killWrite_of_busy {s : State} {v : Nat} (hgo : bitAt v 31 = true)
    (h : s.cont.kill ≠ none ∨ SMap.get s.cont.resets (field v 5 4) ≠ none ∨ s.cont.warm ≠ none) : killWrite s v = (s.raise partPg 5, false) := by
  have hbusy : (s.cont.kill.isSome || (SMap.get s.cont.resets (field v 5 4)).isSome || s.cont.warm.isSome) = true := by
    rw [Bool.or_eq_true, Bool.or_eq_true, Option.isSome_iff_ne_none, Option.isSome_iff_ne_none, Option.isSome_iff_ne_none, or_assoc]
    exact h
  simp [killWrite, hgo, hbusy]

theorem killWrite_of_clear {s : State} {v : Nat} (h : bitAt v 31 = false) : killWrite s v = (s, true) := by simp [killWrite, h]

/-! ### What a kill clears (R399) -/

/-- A row engine whose kicks are dropped. -/
def RowEngine.aborted (r : RowEngine) : RowEngine := { r with queue := [], run := none }

/-- Between the two states clusters have been cleared: the row engines that `cs` names hold nothing, and no core's flags or modes change. -/
structure Clears (cs : List Nat) (s t : State) : Prop where
  onlyIn : OnlyIn s t [.regs, .logs, .counters, .mem, .cores, .step, .upd, .crs, .rowEngines, .irq]
  resting : ∀ i, (SMap.getD t.cores {} i).resting = (SMap.getD s.cores {} i).resting
  row : ∀ c, t.row c = if c ∈ cs then (s.row c).aborted else s.row c

theorem Clears.of_serves {s t : State} (h : Serves s t) : Clears [] s t where
  onlyIn := h.onlyIn.mono (by decide)
  resting := h.resting
  row c := by
    rw [if_neg List.not_mem_nil]
    exact congrArg (fun m => SMap.getD m {} c) (h.onlyIn .rowEngines (by decide))

theorem Clears.trans {as bs : List Nat} {s t r : State} (h : Clears as s t) (g : Clears bs t r) : Clears (as ++ bs) s r where
  onlyIn := (h.onlyIn.trans g.onlyIn).mono (by decide)
  resting i := (g.resting i).trans (h.resting i)
  row c := by
    rw [g.row, h.row]
    by_cases ha : c ∈ as <;> by_cases hb : c ∈ bs <;> simp [ha, hb, RowEngine.aborted]

theorem clears_rowAbort (s : State) (c : Nat) : Clears [c] s (rowAbort s c) := by
  unfold rowAbort
  extract_lets r n
  have hrow : OnlyIn s (s.setRow c { r with queue := [], run := none }) [.rowEngines] := (OnlyIn.refl s).setRow
  have hdrop (t : State) : OnlyIn t (t.dropUnit (.row c)) [.mem] := (OnlyIn.refl t).putMem
  refine ⟨((hrow.trans (hdrop _)).bumpBy.raise).mono (by decide), fun i => ?_, fun d => ?_⟩
  · rw [show ((((s.setRow c { r with queue := [], run := none }).dropUnit (.row c)).bumpBy (rowPage c) 3 n).raise (rowPage c) 4).cores = s.cores from
      (hrow.trans (hdrop _)).bumpBy.raise .cores (by decide)]
  · have hengines : ((((s.setRow c { r with queue := [], run := none }).dropUnit (.row c)).bumpBy (rowPage c) 3 n).raise (rowPage c) 4).rowEngines =
        (s.setRow c { r with queue := [], run := none }).rowEngines := State.bumpBy_rowEngines ..
    refine (congrArg (fun m : SMap RowEngine => SMap.getD m {} d) hengines).trans ?_
    show (s.setRow c { r with queue := [], run := none }).row d = _
    rw [State.row_setRow]
    by_cases hd : d = c
    · simp [hd, RowEngine.aborted, r]
    · simp [hd]

theorem Clears.foldl {f : State → Nat → State} (hf : ∀ s c, Clears [c] s (f s c)) (s : State) (l : List Nat) : Clears l s (l.foldl f s) := by
  induction l generalizing s with
  | nil => exact .of_serves (.refl s)
  | cons c l ih => exact (hf s c).trans (ih (f s c))

/-- Clusters whose movers and interrupt controllers alone change. -/
theorem Clears.putSic {cs : List Nat} {s t : State} (h : Clears cs s t) (c : Nat) (v : Sic) : Clears cs s (t.setSic c v) where
  onlyIn := (h.onlyIn.putIrq (v := { t.irq with sics := SMap.set t.irq.sics c v })).mono (by decide)
  resting := h.resting
  row := h.row

/-- A cluster's own moves are cancelled. -/
def movesCancelled (s : State) (c : Nat) : State :=
  (s.mem.moves.filter (fun m => match m.by_ with | .mover k _ => decide (k = c) | _ => false)).foldl cancelMove s

/-- A cluster's mover holds no request. -/
def moverDropped (s : State) (c : Nat) : State := s.setMover c { s.mover c with reqs := [] }

/-- A cluster's interrupt controller holds no source. -/
def sicCleared (s : State) (c : Nat) : State := s.setSic c { s.sic c with soft := [], active := [] }

theorem clearCluster_eq (s : State) (c : Nat) : clearCluster s c =
    sicCleared (moverDropped (movesCancelled (stashRelease (rowAbort s c) c 0) c) c) c := rfl

theorem clears_clearCluster (s : State) (c : Nat) : Clears [c] s (clearCluster s c) := by
  rw [clearCluster_eq]
  have h1 : Clears [c] s (stashRelease (rowAbort s c) c 0) := (clears_rowAbort s c).trans (.of_serves (serves_stashRelease ..))
  have h2 : Clears [c] s (movesCancelled (stashRelease (rowAbort s c) c 0) c) := h1.trans (.of_serves (Serves.foldl serves_cancelMove _ _))
  generalize movesCancelled (stashRelease (rowAbort s c) c 0) c = r at h2
  have h3 : Clears [c] s (moverDropped r c) := h2.trans (.of_serves (.of_onlyIn ((OnlyIn.refl r).setMover.mono (by decide))))
  exact h3.putSic c _

/-! ### A kill that is done (R399) -/

theorem killCore_core_self (s : State) (id : CoreId) : ((killCore s id).core id).flags = [] := by
  unfold killCore
  dsimp only
  rw [State.core_modCore_self]

theorem killStep_core_ne (s : State) {id y : CoreId} (h : y ≠ id) (x : Ctx) :
    (if ((s.core id).ctx x).mode == .halted then ctxReset s id x else s.modCore id (fun c => resetScs c x)).core y = s.core y := by
  split
  · have hcore : (ctxReset s id x).core y = (clearHaltRecords (s.setCore id _) (corePage id) x).core y := rfl
    rw [hcore, State.core_of_cores (clearHaltRecords_cores ..), State.core_setCore_ne _ _ h]
  · exact State.core_modCore_ne _ _ h

theorem killCore_core_ne (s : State) {id y : CoreId} (h : y ≠ id) : (killCore s id).core y = s.core y := by
  unfold killCore
  dsimp only
  rw [State.core_modCore_ne _ _ h]
  exact foldl_keep (fun t : State => t.core y) _ (fun t x => killStep_core_ne t h x) _ s

theorem killCores_core_ne (l : List CoreId) (s : State) {id : CoreId} (h : id ∉ l) : (l.foldl killCore s).core id = s.core id := by
  induction l generalizing s with
  | nil => rfl
  | cons y l ih =>
    rw [List.foldl_cons, ih _ fun hm => h (List.mem_cons_of_mem y hm), killCore_core_ne s fun (e : id = y) => h (e ▸ List.mem_cons_self)]

/-- After the kill of its core every flag is 0, whatever is killed after it. -/
theorem killCores_flags (l : List CoreId) (s : State) {id : CoreId} (h : id ∈ l) : ((l.foldl killCore s).core id).flags = [] := by
  induction l generalizing s with
  | nil => cases h
  | cons y l ih =>
    rw [List.foldl_cons]
    by_cases hmem : id ∈ l
    · exact ih _ hmem
    · rw [killCores_core_ne l _ hmem, (List.mem_cons.mp h).resolve_right hmem, killCore_core_self]

/-- The state that a kill's last steps leave. -/
def killedState (s : State) (cs : List Nat) : State := cs.foldl clearCluster ((coresOf cs).foldl killCore s)

/-- A kill that is done is counted. -/
def killEnded (s : State) : State := (({ s with cont.kill := none } : State).raise partPg 1).bump partPg 2

theorem nextKill_of_none {s : State} (h : s.cont.kills = []) : nextKill s = s := by
  rw [nextKill, h]

theorem onlyIn_killCore (s : State) (id : CoreId) : OnlyIn s (killCore s id) [.cores, .regs] := by
  have hstep (t : State) (x : Ctx) : OnlyIn t (if ((t.core id).ctx x).mode == .halted then ctxReset t id x
      else t.modCore id (fun c => resetScs c x)) [.cores, .regs] := by
    have hreset : OnlyIn t (ctxReset t id x) [.regs, .cores] := (OnlyIn.refl t).setCore.setRegN.setRegN.setRegN.mono (by decide)
    exact (OnlyIn.ite hreset (OnlyIn.refl t).modCore).mono (by decide)
  exact (OnlyIn.foldl hstep s allCtx).modCore.mono (by decide)

theorem killedState_cont (s : State) (cs : List Nat) : (killedState s cs).cont = s.cont :=
  (show _ = ((coresOf cs).foldl killCore s).cont from (Clears.foldl clears_clearCluster _ cs).onlyIn .cont (by decide)).trans
    (OnlyIn.foldl onlyIn_killCore s _ .cont (by decide))

theorem killDone_of_quiet {s : State} {p j a : Nat} (hkill : s.cont.kill = some (p, j, a)) (hkills : s.cont.kills = [])
    (hstopped : allStopped s (coresOf (s.jobClusters p j)) = true) (hquiet : (killedState s (s.jobClusters p j)).quiet (s.jobClusters p j) = true) :
    killDone s = killEnded (killedState s (s.jobClusters p j)) := by
  have hnext : nextKill (killEnded (killedState s (s.jobClusters p j))) = killEnded (killedState s (s.jobClusters p j)) := by
    refine nextKill_of_none ?_
    rw [killEnded, State.bump_cont]
    exact (congrArg Contain.kills (killedState_cont s _)).trans hkills
  unfold killDone
  rw [hkill]
  dsimp only
  rw [if_neg (by simp [hstopped])]
  refine (if_neg ?_).trans hnext
  rw [Bool.not_eq_true', Bool.not_eq_false]
  exact hquiet

theorem killDone_of_running {s : State} {p j a : Nat} (hkill : s.cont.kill = some (p, j, a))
    (hstopped : allStopped s (coresOf (s.jobClusters p j)) = false) : killDone s = s := by
  unfold killDone
  rw [hkill]
  exact if_pos (by simp [hstopped])

/-! ### Drain limits (R399, R404, R411) -/

/-- A drain past its limit is counted. -/
def drainCounted (s : State) : State := (s.raise partPg 4).bump partPg 4

theorem drainCounted_raised (s : State) : bitAt ((drainCounted s).regN partPg 0x018) 4 = true := by
  rw [drainCounted, State.regN_bump, State.bitAt_raise_self _ _ (by decide)]

theorem onlyIn_drainCounted (s : State) : OnlyIn s (drainCounted s) [.regs, .logs, .counters] := (OnlyIn.refl s).raise.bump.mono (by decide)

theorem drainCounted_regN (s : State) {off : Nat} (h : off ≠ 0x018) : (drainCounted s).regN partPg off = s.regN partPg off := by
  rw [drainCounted, State.regN_bump, State.regN_raise_ne _ _ (by unfold Page.key; omega)]

theorem drainTimeout_kill {s : State} {p j a : Nat} (h : s.cont.kill = some (p, j, a)) : drainTimeout s 4 =
    if a + drainLimit s ≤ s.tick then nextKill (takeTrigger (drainCounted { s with cont.kill := none }) 9 p 0) else s := by
  unfold drainTimeout
  rw [if_pos rfl, h]
  simp only [decide_eq_true_eq]
  rfl

theorem drainTimeout_reset {s : State} {p : Nat} {d : Draining} (hp : p < 4) (h : SMap.get s.cont.resets p = some d) : drainTimeout s p =
    if d.since + drainLimit s ≤ s.tick then takeTrigger (drainCounted s) 9 4 0 else s := by
  unfold drainTimeout
  rw [if_neg (by omega), if_pos hp, h]
  simp only [decide_eq_true_eq]
  rfl

theorem drainTimeout_warm {s : State} {d : Draining} (h : s.cont.warm = some d) : drainTimeout s 5 =
    if d.since + drainLimit s ≤ s.tick ∧ d.expired = false then drainCounted { s with cont.warm := some { d with expired := true } } else s := by
  unfold drainTimeout
  rw [if_neg (by decide), if_neg (by decide), h]
  simp only [Bool.and_eq_true, decide_eq_true_eq, Bool.not_eq_true']
  rfl

/-- Settles O48: a kill halts what it names and clears it, and a drain past its limit turns into the next reset. -/
theorem kills : Obligations.Kills := by
  intro s s1 who v p j limit
  refine ⟨fun hreach => ⟨fun hgo hkill hreset hwarm => ?_, fun hgo hbusy => ?_, fun hclear => ?_⟩, fun q k a hkill => ?_, fun q d hq hd => ⟨?_, ?_⟩,
    fun d hd => ⟨?_, ?_⟩⟩
  · have hseen : (seenBy s who).cont = s.cont := seenBy_cont s who
    have hjobs : (seenBy s who).jobClusters p j = s.jobClusters p j := seenBy_keep s who (State.jobClusters · p j) fun _ => rfl
    have hcore (id : CoreId) : (killBegun (seenBy s who) p j).core id = s.core id := State.core_congr (seenBy_cores s who) id
    have hhalts := halts_haltClusters (killBegun (seenBy s who) p j) (s.jobClusters p j) (jobClusters_lt s p j)
    have hwrite : writeReg s partPg 0x114 who v = haltClusters (killBegun (seenBy s who) p j) (s.jobClusters p j) := by
      rw [← hjobs]
      exact (writeReg_kill hreach).trans (congrArg (tookOr · partPg who 0x114) (killWrite_of_free (s := seenBy s who) hgo
        (by rw [hseen, hkill]) (by rw [hseen]; exact hreset) (by rw [hseen, hwarm])))
    have hmine {id : CoreId} (hp : s.clusterPart id.cluster.val = p) (hj : s.clusterJob id.cluster.val = j) :
        id.cluster.val ∈ s.jobClusters p j := (mem_jobClusters s p j id.cluster).mpr ⟨hp, hj⟩
    refine ⟨_, congrArg Host.Outcome.next hwrite, ?_, ?_, fun id x hp hj hrun => ⟨?_, ?_⟩, fun id hother => ?_⟩
    · rw [show (haltClusters (killBegun (seenBy s who) p j) (s.jobClusters p j)).cont = (killBegun (seenBy s who) p j).cont from
        hhalts.onlyIn .cont (by decide), killBegun, seenBy_tick, seenBy_cont]
    · exact (show _ = (killBegun (seenBy s who) p j).mem from hhalts.onlyIn .mem (by decide)).trans (seenBy_mem s who)
    · exact hhalts.halting (hmine hp hj) (by rw [hcore]; exact hrun)
    · refine haltAll_cause (coresOf (s.jobClusters p j)) _ ((mem_coresOf id _ (jobClusters_lt s p j)).mpr (hmine hp hj)) ?_
      rw [hcore]
      exact hrun
    · rw [hhalts.apart id fun _ hid => ?_, hcore]
      have h := (mem_jobClusters s p j id.cluster).mp hid
      exact hother.elim (fun hp => hp h.1) (fun hj => hj h.2)
  · have hseen : (seenBy s who).cont = s.cont := seenBy_cont s who
    have hwrite := (writeReg_kill hreach).trans (congrArg (tookOr · partPg who 0x114) (killWrite_of_busy (s := seenBy s who) hgo (by rw [hseen]; exact hbusy)))
    refine ⟨_, congrArg Host.Outcome.next hwrite, (OnlyIn.refl s).seenBy.raise.logReq.mono (by decide), ?_⟩
    show bitAt ((((seenBy s who).raise partPg 5).logReq partPg kindIgnored who true 0x114).regN partPg 0x018) 5 = true
    rw [State.regN_logReq, State.bitAt_raise_self _ _ (by decide)]
  · have hwrite := (writeReg_kill hreach).trans (congrArg (tookOr · partPg who 0x114) (killWrite_of_clear (s := seenBy s who) hclear))
    exact ⟨_, congrArg Host.Outcome.next hwrite, (OnlyIn.refl s).seenBy.mono (by decide)⟩
  · intro cs u
    have hu : killedState s cs = u := rfl
    refine ⟨fun hstopped hquiet hkills => ?_, fun hrunning => ?_, fun hlate hkills hq hreset hwarm => ?_, fun hearly => ?_⟩
    · have hclears := Clears.foldl clears_clearCluster ((coresOf cs).foldl killCore s) cs
      refine ⟨_, congrArg Host.Outcome.next (killDone_of_quiet hkill hkills hstopped hquiet), ?_, ?_, fun c hc => ?_, fun id hid => ?_⟩
      · rw [killEnded, State.bump_cont]
        rfl
      · rw [killEnded, State.regN_bump, State.bitAt_raise_self _ _ (by decide)]
      · have hrow : (killEnded (killedState s cs)).row c = (((coresOf cs).foldl killCore s).row c).aborted := by
          refine (congrArg (fun m : SMap RowEngine => SMap.getD m {} c) (State.bump_rowEngines ..)).trans ?_
          exact (hclears.row c).trans (if_pos hc)
        rw [hrow]
        exact ⟨rfl, rfl⟩
      · have hcores : (killEnded (killedState s cs)).core id = (killedState s cs).core id := State.core_congr (State.bump_cores ..) id
        rw [hcores]
        exact (congrArg Prod.fst (hclears.resting (coreIdx id))).trans (killCores_flags _ s hid)
    · exact congrArg Host.Outcome.next (killDone_of_running hkill hrunning)
    · obtain ⟨r, hr⟩ : ∃ r, r = drainCounted { s with cont.kill := none } := ⟨_, rfl⟩
      have honly : OnlyIn s r [.cont, .regs, .logs, .counters] := by
        rw [hr]
        exact ((OnlyIn.refl s).putCont.trans (onlyIn_drainCounted _)).mono (by decide)
      have hcont : r.cont = { s.cont with kill := none } := by
        rw [hr]
        exact State.bump_cont ..
      have hstarted := resetStarted_of_free (s := r) 9 0 hq (by rw [hcont, hwarm]) (by rw [hcont]; exact hreset)
      have hnext := nextKill_of_none (s := takeTrigger r 9 q 0) (by rw [hstarted.cont, resetCont, hcont]; exact hkills)
      have hexec := (drainTimeout_kill hkill).trans (if_pos hlate)
      rw [← hr, hnext] at hexec
      refine ⟨_, congrArg Host.Outcome.next hexec, ?_, ?_, ?_, ?_⟩
      · rw [hstarted.cont, resetCont, killOutside, hcont]
      · rw [hstarted.cont, resetCont, SMap.get_set_self, honly .tick (by decide)]
      · rw [hstarted.epoch q hq, if_pos rfl, State.epochOf, hr, drainCounted_regN _ (by omega)]
        rfl
      · rw [hstarted.istatus, State.bitAt_raise_ne _ _ (by decide), hr, drainCounted_raised]
    · exact congrArg Host.Outcome.next ((drainTimeout_kill hkill).trans (if_neg (by rw [drainLimit]; exact Nat.not_le.mpr hearly)))
  · intro hlate hwarm
    have hnoted := onlyIn_triggerNoted (drainCounted s) 9 4 0
    have hcounted := onlyIn_drainCounted s
    have htick : (triggerNoted (drainCounted s) 9 4 0).tick = s.tick := (hcounted.trans hnoted) .tick (by decide)
    have hwarmed := warmStarted_of_none (s := triggerNoted (drainCounted s) 9 4 0) 0 (by
      rw [show (triggerNoted (drainCounted s) 9 4 0).cont = s.cont from (hcounted.trans hnoted) .cont (by decide), hwarm])
    have hexec := ((drainTimeout_reset hq hd).trans (if_pos hlate)).trans (takeTrigger_of_module (drainCounted s) 9 0)
    refine ⟨_, congrArg Host.Outcome.next hexec, ?_, ?_, ?_⟩
    · rw [hwarmed.cont, warmCont, htick]
    · rw [hwarmed.cont]
      rfl
    · rw [hwarmed.partReg _ (by decide), triggerNoted_istatus, State.bitAt_raise_ne _ _ (by decide), drainCounted_raised]
  · intro hearly
    exact congrArg Host.Outcome.next ((drainTimeout_reset hq hd).trans (if_neg (Nat.not_le.mpr hearly)))
  · intro hlate hexpired
    exact ⟨_, congrArg Host.Outcome.next ((drainTimeout_warm hd).trans (if_pos ⟨hlate, hexpired⟩)),
      ((OnlyIn.refl s).putCont.trans (onlyIn_drainCounted _)).mono (by decide), State.bump_cont ..⟩
  · intro hearly
    exact congrArg Host.Outcome.next ((drainTimeout_warm hd).trans (if_neg fun h => Nat.not_le.mpr hearly h.1))

end Sys2Proof.Machine
end

section
/-! SUPPORT. Partition and warm resets, their CLEAR and the assignments (R404, R405, R407, R411, R412). -/

namespace Sys2Proof.Machine

/-! ### A core reset (R405) -/

theorem abandon_cores (s : State) (id : CoreId) :
    (abandonLoupes (abandonMirror (abandonMirror s id 6) (partner id) 6) id (fun _ => true)).cores = s.cores := by
  rw [abandonLoupes_cores, abandonMirror_cores, abandonMirror_cores]

/-- The core that a reset leaves. -/
def resetCore (c : Core) : Core :=
  let fresh (x : Ctx) : Context := { queues := (c.ctx x).queues.map (fun e => (e.1, e.2.cleared)) }
  { now := c.now, istore := c.istore, ctxF := fresh .f, ctxB := fresh .b, ctxU := fresh .u, store := c.store, marks := c.marks
    portFree := c.portFree, readFree := c.readFree, halfLog := c.halfLog, lastIssue := c.now, waitCycles := c.waitCycles, faultCycles := c.faultCycles }

/-- A core's records of its contexts take their reset values. -/
def recordsReset (s : State) (id : CoreId) : State :=
  allCtx.foldl (fun s x => [0x0C, 0x10, 0x14, 0x18, 0x1C, 0x20].foldl (fun s o => s.setRegN (corePage id) (ctxOff x o) 0) s) s

theorem recordsReset_cores (s : State) (id : CoreId) : (recordsReset s id).cores = s.cores :=
  foldl_keep State.cores _ (fun t x => foldl_keep State.cores _ (fun r o => State.setRegN_cores r (corePage id) (ctxOff x o) 0) _ t) _ s

/-- The state with a core put at its reset values. -/
def corePut (s : State) (id : CoreId) : State :=
  let c := s.coreAt id (s.core id).now
  let s := s.countCycles (drnPage id) 4 (2 ^ 64 - drainAhead (s.ope id) c.now % 2 ^ 64)
  let s := s.setCore id (resetCore c)
  { s with opes := SMap.del s.opes (coreIdx id) }

theorem coreReset_eq (s : State) (id : CoreId) : coreReset s id = if id.core.val < 2
    then abandonLoupes (abandonMirror (abandonMirror (recordsReset (corePut s id) id) id 6) (partner id) 6) id (fun _ => true)
    else recordsReset (corePut s id) id := rfl

theorem coreReset_cores (s : State) (id : CoreId) :
    (coreReset s id).cores = (s.setCore id (resetCore (s.coreAt id (s.core id).now))).cores := by
  rw [coreReset_eq]
  split
  · rw [abandon_cores, recordsReset_cores]
    rfl
  · rw [recordsReset_cores]
    rfl

/-- Nothing of a core is set or runs. -/
def atRest : SMap FlagCell × (Ctx → CtxMode) := ([], fun _ => .idle)

theorem resetCore_resting (c : Core) : (resetCore c).resting = atRest :=
  Prod.ext rfl (funext fun x => by cases x <;> rfl)

theorem coreReset_resting (s : State) (id y : CoreId) :
    ((coreReset s id).core y).resting = if y = id then atRest else (s.core y).resting := by
  rw [State.core_congr (coreReset_cores s id), State.core_setCore]
  split
  · exact resetCore_resting _
  · rfl

theorem coreResets_resting (l : List CoreId) (s : State) {id : CoreId} (h : id ∈ l ∨ (s.core id).resting = atRest) :
    ((l.foldl coreReset s).core id).resting = atRest := by
  induction l generalizing s with
  | nil => exact h.resolve_left List.not_mem_nil
  | cons y l ih =>
    refine ih _ ?_
    rw [coreReset_resting]
    by_cases hy : id = y
    · exact .inr (if_pos hy)
    · rw [if_neg hy]
      exact h.imp_left fun hm => (List.mem_cons.mp hm).resolve_left hy

/-! ### CLEAR (R405) -/

theorem boxReset_cores (s : State) (k : Nat) : (boxReset s k).cores = s.cores := by
  have hstages (l : List Nat) (t : State) : (l.foldl (fun s w => s.setStage (mbxPage k) (0x200 + 4 * w) 0) t).cores = t.cores :=
    foldl_keep State.cores (fun s w => s.setStage (mbxPage k) (0x200 + 4 * w) 0) (fun _ _ => rfl) l t
  unfold boxReset
  dsimp only
  rw [State.setReg_cores, hstages]
  rfl

theorem retireUnits_cores (s : State) (mine : LedgerRec → Bool) : (retireUnits s mine).cores = s.cores := onlyIn_retireUnits s mine .cores (by decide)

theorem sparesPending_cores (s : State) : (sparesPending s).cores = s.cores := by
  unfold sparesPending
  dsimp only
  split <;> rfl

/-- The map with a reserve site in the place of a cluster's old one. -/
def siteSwapped (s : State) (c n : Nat) : State :=
  { s with
    fab.sites := SMap.set s.fab.sites c n
    fab.dead := NSet.insert s.fab.dead (s.siteOf c)
    fab.routes := tableOf (Config.firmwareRoutes (s.sitesWith c n))
    power.siteDue := s.power.siteDue.filter (fun k => decide (k ≠ c)) }

/-- A reserve site in service. -/
def sitePromoted (s : State) (c n : Nat) : State :=
  sparesPending ((retireSite (fixAttachments (siteSwapped s c n)) (s.siteOf c)).bump ⟨.pwr, 0⟩ 3)

theorem sitePromoted_cores (s : State) (c n : Nat) : (sitePromoted s c n).cores = s.cores := by
  rw [sitePromoted, sparesPending_cores, State.bump_cores, retireSite, retireUnits_cores]
  rfl

theorem promoteFrom_cons (test : Nat → Bool) (s : State) (c n : Nat) (rest : List Nat) : (promoteFrom test s c (n :: rest)).1 =
    if !test n then (promoteFrom test { s with fab.dead := NSet.insert s.fab.dead n } c rest).1
    else if !routesLegal (fun k => (s.sitesWith c n).contains k) (tableOf (Config.firmwareRoutes (s.sitesWith c n)))
      then (promoteFrom test s c rest).1
    else sitePromoted s c n := by
  rw [promoteFrom]
  dsimp only
  rw [apply_ite Prod.fst, apply_ite Prod.fst]
  rfl

theorem promoteFrom_cores (test : Nat → Bool) (c : Nat) (l : List Nat) (s : State) : (promoteFrom test s c l).1.cores = s.cores := by
  induction l generalizing s with
  | nil => rfl
  | cons n l ih =>
    rw [promoteFrom_cons]
    split
    · exact ih _
    · split
      · exact ih _
      · exact sitePromoted_cores s c n

theorem promoteDue_cores (s : State) (cs : List Nat) : (promoteDue s cs).cores = s.cores :=
  foldl_keep State.cores _ (fun t c => promoteFrom_cores _ c _ t) _ s

/-- CLEAR leaves every core of its clusters at rest. -/
theorem clearClusters_resting (s : State) (cs : List Nat) {id : CoreId} (h : id ∈ coresOf cs) :
    ((clearClusters s cs).core id).resting = atRest := by
  have hclear (t : State) (c : Nat) : ((boxReset (clearCluster t c) c).core id).resting = (t.core id).resting := by
    rw [State.core_congr (boxReset_cores _ c)]
    exact (clears_clearCluster t c).resting (coreIdx id)
  unfold clearClusters
  dsimp only
  rw [State.core_congr (promoteDue_cores _ cs)]
  exact (foldl_keep (fun t : State => (t.core id).resting) _ hclear cs _).trans (coreResets_resting _ s (.inl h))

theorem onlyIn_dropUnit (s : State) (key : UnitKey) : OnlyIn s (s.dropUnit key) [.mem] := (OnlyIn.refl s).putMem

theorem onlyIn_failCtx (s : State) (n : Nat) : OnlyIn s (failCtx s n) [.regs, .net, .mem, .logs, .counters] := by
  unfold failCtx
  exact ((OnlyIn.refl s).setTctx.trans (onlyIn_dropUnit _ _)).record.raise.bump.mono (by decide)

theorem failContexts_cores (s : State) (mine : TalCtx → Bool) : (failContexts s mine).cores = s.cores := by
  unfold failContexts
  refine foldl_keep State.cores _ (fun t e => ?_) _ s
  exact (show (failCtx t e.1).cores = t.cores from onlyIn_failCtx t e.1 .cores (by decide))

theorem clearTraining_cores (s : State) : (clearTraining s).cores = s.cores := rfl

/-- The training units of a partition that has them are cleared with it. -/
def trainingCleared (s : State) (p : Nat) : State := if s.trainPart = p then clearTraining s else s

theorem trainingCleared_cores (s : State) (p : Nat) : (trainingCleared s p).cores = s.cores := by
  unfold trainingCleared
  split <;> rfl

/-- The contexts that CLEAR of a partition fails. -/
def partFailed (s : State) (p : Nat) : State := failContexts s (fun c => c.part == p || s.portPart c.port == some p)

/-- The state after CLEAR of a partition, at RELEASE. -/
def released (s : State) (p : Nat) : State := ({ s with cont.resets := SMap.del s.cont.resets p } : State).raise partPg 0

theorem partFailed_cores (s : State) (p : Nat) : (partFailed s p).cores = s.cores := failContexts_cores s _

theorem released_cores (s : State) (p : Nat) : (released s p).cores = s.cores := by
  unfold released
  rw [State.raise_cores]

theorem clearPart_eq (s : State) (p : Nat) : clearPart s p = released (trainingCleared (partFailed (clearClusters s (s.partClusters p)) p) p) p := rfl

theorem clearPart_resting (s : State) {p : Nat} {id : CoreId} (h : s.clusterPart id.cluster.val = p) : ((clearPart s p).core id).resting = atRest := by
  have hmem : id ∈ coresOf (s.partClusters p) :=
    (mem_coresOf id _ fun c hc => List.mem_range.mp (List.mem_filter.mp hc).1).mpr ((mem_partClusters s p id.cluster).mpr h)
  have hcores : (clearPart s p).cores = (clearClusters s (s.partClusters p)).cores := by
    rw [clearPart_eq, released_cores, trainingCleared_cores, partFailed_cores]
  rw [State.core_congr hcores]
  exact clearClusters_resting s _ hmem

end Sys2Proof.Machine
end

section
/-! SUPPORT. A warm reset that ends, resets asked through PART.RESET, epochs and assignments (R404, R405, R411, R412). -/

namespace Sys2Proof.Machine

/-! ### What the end of a warm reset does to the Ringmaster (R411) -/

theorem onlyIn_settleTarget (s : State) (k : Nat) : OnlyIn s (settleTarget s k) [.irq] := by
  unfold settleTarget
  exact OnlyIn.ite (ps := []) (qs := [.irq]) (.refl s) (OnlyIn.refl s).putIrq

theorem onlyIn_settleLic (s : State) : OnlyIn s (settleLic s) [.irq] := OnlyIn.foldl onlyIn_settleTarget s _

theorem onlyIn_licEdge (s : State) (n : Nat) : OnlyIn s (licEdge s n) [.irq] :=
  ((OnlyIn.refl s).putIrq.trans (onlyIn_settleLic _)).mono (by decide)

theorem onlyIn_spyPending (s : State) : OnlyIn s (spyPending s) [.irq] := OnlyIn.foldl (fun t _ => onlyIn_licEdge t _) s _

theorem onlyIn_retune (s : State) (d : Nat) : OnlyIn s (retune s d) [.fab] := by
  unfold retune
  dsimp only
  split
  · exact (OnlyIn.refl s).mono (by decide)
  · split
    · exact (OnlyIn.refl s).putFab
    · exact (OnlyIn.refl s).putFab

/-- The mailboxes of the Ringmaster take their reset values. -/
def boxesReset (s : State) : State := (List.range 20).foldl (fun s k => boxReset s (40 + k)) s

/-- The pages and controllers of the Ringmaster take their reset values. -/
def controllersReset (s : State) : State :=
  let s := resetPages s (fun p => p.domain == 367) warmKeeps
  let s : State := { s with counters := SMap.set (SMap.set s.counters (clkPage.base * 256) s.tick) (partPg.base * 256 + 5) s.tick }
  { s with irq := { s.irq with cfg := [], edges := [], active := [], targets := [], hostTold := false, rmIdle := [] } }

/-- The clock domains that wait for a frequency take it. -/
def retuned (s : State) : State :=
  let asked := (s.fab.clocks.filter (fun e => e.2.want.isSome)).map (·.1)
  asked.foldl (fun s d => retune (s.setClock d { s.clock d with want := none }) d) s

/-- The pages, controllers and clocks of the Ringmaster at a warm reset. -/
def pagesReset (s : State) : State :=
  let s := resetPages s (fun p => p.domain == 367) warmKeeps
  let s : State := { s with counters := SMap.set (SMap.set s.counters (clkPage.base * 256) s.tick) (partPg.base * 256 + 5) s.tick }
  let s : State := { s with irq := { s.irq with cfg := [], edges := [], active := [], targets := [], hostTold := false, rmIdle := [] } }
  let asked := (s.fab.clocks.filter (fun e => e.2.want.isSome)).map (·.1)
  asked.foldl (fun s d => retune (s.setClock d { s.clock d with want := none }) d) s

/-- The Ringmaster core that had failed leaves the pool, and the Spyglass hits become pending again. -/
def spareTaken (s : State) : State :=
  let s := if s.power.rmFailed.isEmpty then s
    else
      let s := retireUnits s (fun r => decide (r.unit / 2 ^ 28 = 8) && s.power.rmFailed.contains (r.unit % 2 ^ 20))
      { s with power.rmFailed := [], flash.rmSpare := true }
  spyPending s

theorem ringmasterReset_eq (s : State) : ringmasterReset s = spareTaken (pagesReset (boxesReset s)) := by
  unfold ringmasterReset spareTaken pagesReset boxesReset
  with_reducible rfl

theorem pagesReset_eq (s : State) : pagesReset s = retuned (controllersReset s) := rfl

theorem boxesReset_cores (s : State) : (boxesReset s).cores = s.cores := by
  unfold boxesReset
  exact foldl_keep State.cores (fun s k => boxReset s (40 + k)) (fun t k => boxReset_cores t (40 + k)) _ s

theorem controllersReset_cores (s : State) : (controllersReset s).cores = s.cores := rfl

theorem retuned_cores (s : State) : (retuned s).cores = s.cores := by
  have hone (t : State) (d : Nat) : OnlyIn t (retune (t.setClock d { t.clock d with want := none }) d) [.fab, .fab] :=
    (OnlyIn.refl t).putFab.trans (onlyIn_retune _ d)
  unfold retuned
  exact OnlyIn.foldl hone s _ .cores (by decide)

theorem spareTaken_cores (s : State) : (spareTaken s).cores = s.cores := by
  unfold spareTaken
  dsimp only
  rw [show (spyPending _).cores = _ from onlyIn_spyPending _ .cores (by decide)]
  split
  · rfl
  · exact retireUnits_cores s _

theorem ringmasterReset_cores (s : State) : (ringmasterReset s).cores = s.cores := by
  rw [ringmasterReset_eq, spareTaken_cores, pagesReset_eq, retuned_cores, controllersReset_cores, boxesReset_cores]

/-! ### The end of a warm reset (R411) -/

/-- The cores, the Talel contexts and the training units of the module after CLEAR. -/
def moduleCleared (s : State) : State := clearTraining (failContexts (clearClusters s (List.range 40)) (fun _ => true))

/-- The module released from a warm reset. -/
def warmReleased (s : State) : State :=
  (({ ringmasterReset (moduleCleared s) with cont.warm := none, cont.warmClass := 0 } : State).raise partPg 2).bump partPg 1

theorem warmReleased_cores (s : State) : (warmReleased s).cores = (clearClusters s (List.range 40)).cores := by
  rw [warmReleased, State.bump_cores, State.raise_cores]
  show (ringmasterReset (moduleCleared s)).cores = _
  rw [ringmasterReset_cores, moduleCleared, clearTraining_cores, failContexts_cores]

theorem onlyIn_warmStage (s : State) : OnlyIn s (warmStage s) [.regs] := by
  unfold warmStage
  split
  · exact (OnlyIn.refl s).mono (by decide)
  · split
    · exact (OnlyIn.refl s).setField
    · exact (OnlyIn.refl s).setField

theorem warmStage_partReg (s : State) {off : Nat} (hoff : off < 0x1000) : (warmStage s).regN partPg off = s.regN partPg off := by
  have hne : partPg.key off ≠ talPage.key 0x014 := Page.key_ne_of_base (by decide) hoff (by decide)
  unfold warmStage
  split
  · rfl
  · split
    · exact State.regN_setField_ne _ _ _ _ hne
    · exact State.regN_setField_ne _ _ _ _ hne

theorem targetsAcknowledged_expired {s : State} {d : Draining} (hwarm : s.cont.warm = some d) (hexpired : d.expired = true)
    (hverified : s.sec.verified = true) : targetsAcknowledged s 4 = warmStage (warmReleased s) := by
  unfold targetsAcknowledged
  dsimp only
  rw [if_neg (by decide), hwarm]
  dsimp only
  rw [if_pos (by rw [hexpired, hverified]; rfl)]
  rfl

theorem mode_of_resting {c : Core} (h : c.resting = atRest) (x : Ctx) : (c.ctx x).mode = .idle := congrFun (congrArg Prod.snd h) x

theorem flags_of_resting {c : Core} (h : c.resting = atRest) : c.flags = [] := congrArg Prod.fst h

theorem warm_ends {s : State} {d : Draining} (hwarm : s.cont.warm = some d) (hexpired : d.expired = true) (hverified : s.sec.verified = true) :
    ∃ t, exec (.targetsAcknowledged 4) s = .next t ∧ t.cont.warm = none ∧ bitAt (t.regN partPg 0x018) 2 = true ∧
      ∀ (id : CoreId) x, ((t.core id).ctx x).mode = .idle := by
  refine ⟨_, congrArg Host.Outcome.next (targetsAcknowledged_expired hwarm hexpired hverified), ?_, ?_, fun id x => ?_⟩
  · rw [show (warmStage _).cont = _ from onlyIn_warmStage _ .cont (by decide), warmReleased, State.bump_cont, State.raise_cont]
  · rw [warmStage_partReg _ (by decide), warmReleased, State.regN_bump]
    exact State.bitAt_raise_self _ _ (by decide)
  · refine mode_of_resting (?_ : ((warmStage (warmReleased s)).core id).resting = atRest) x
    rw [State.core_congr (onlyIn_warmStage _ .cores (by decide)), State.core_congr (warmReleased_cores s)]
    exact clearClusters_resting s _ (mem_coresOf_all id)

/-! ### The end of a partition's reset (R404, R405) -/

theorem targetsAcknowledged_part {s : State} {p : Nat} (hp : p < 4) : targetsAcknowledged s p =
    if (SMap.get s.cont.resets p).isSome && (allAdopted s p && s.quiet (s.partClusters p)) then clearPart s p else s := by
  unfold targetsAcknowledged
  exact if_pos hp

theorem clearPart_resets (s : State) (p : Nat) : SMap.get (clearPart s p).cont.resets p = none := by
  rw [clearPart_eq, released, State.raise_cont]
  exact SMap.get_del_self _ p

theorem clearPart_istatus (s : State) (p : Nat) : bitAt ((clearPart s p).regN partPg 0x018) 0 = true := by
  rw [clearPart_eq, released]
  exact State.bitAt_raise_self _ _ (by decide)

/-! ### Resets asked of several partitions (R404) -/

/-- Resets of the partitions of a list have been asked for. -/
structure ResetsAsked (ps : List Nat) (s t : State) : Prop where
  kept : t.mem = s.mem ∧ t.tick = s.tick ∧ t.cont.warm = s.cont.warm
  part : ∀ c : Fin 40, t.clusterPart c.val = s.clusterPart c.val
  others : ∀ q, q < 4 → q ∉ ps → SMap.get t.cont.resets q = SMap.get s.cont.resets q ∧ t.epochOf q = s.epochOf q
  apart : ∀ (id : CoreId) x, s.clusterPart id.cluster.val ∉ ps → (t.core id).ctx x = (s.core id).ctx x
  started : ∀ q ∈ ps, SMap.get s.cont.resets q = none → SMap.get t.cont.resets q = some ⟨s.tick, false⟩ ∧
    t.epochOf q = (s.epochOf q + 1) % 2 ^ 16 ∧
    ∀ (id : CoreId) x, s.clusterPart id.cluster.val = q → (t.core id).ctx x = ((s.core id).ctx x).stopped

theorem resetsAsked_takeTrigger (s : State) (cause : Nat) {p : Nat} (cluster : Nat) (hp : p < 4) (hwarm : s.cont.warm = none) :
    ResetsAsked [p] s (takeTrigger s cause p cluster) := by
  by_cases hfree : SMap.get s.cont.resets p = none
  · have hstart := resetStarted_of_free cause cluster hp hwarm hfree
    have hcont : (takeTrigger s cause p cluster).cont = resetCont s p := hstart.cont
    refine ⟨⟨hstart.onlyIn .mem (by decide), hstart.onlyIn .tick (by decide), by rw [hcont]; rfl⟩, hstart.part, fun q hq hne => ?_,
      fun id x hne => ?_, fun q hq _ => ?_⟩
    · have hne := List.mem_singleton.not.mp hne
      exact ⟨by rw [hcont]; exact SMap.get_set_ne _ _ hne, by rw [hstart.epoch q hq, if_neg hne]⟩
    · rw [hstart.fenced, if_neg (List.mem_singleton.not.mp hne)]
    · obtain rfl := List.mem_singleton.mp hq
      exact ⟨by rw [hcont]; exact SMap.get_set_self _ _ _, by rw [hstart.epoch q hp, if_pos rfl], fun id x hid => by
        rw [hstart.fenced, if_pos hid]⟩
  · have hreg (off : Nat) (h1 : off ≠ 0x124) (h2 : off ≠ 0x018) :
        ((triggerNoted s cause p cluster).bump partPg 0).regN partPg off = s.regN partPg off := by
      rw [State.regN_bump, triggerNoted_regN s cause p cluster h1 h2]
    rw [takeTrigger_of_reset cause cluster hp (.inr hfree)]
    have honly : OnlyIn s ((triggerNoted s cause p cluster).bump partPg 0) [.logs, .counters, .regs] := (onlyIn_triggerNoted s cause p cluster).bump
    have hcont : ((triggerNoted s cause p cluster).bump partPg 0).cont = s.cont := honly .cont (by decide)
    generalize (triggerNoted s cause p cluster).bump partPg 0 = t at hreg honly hcont
    refine ⟨⟨honly .mem (by decide), honly .tick (by decide), by rw [hcont]⟩, fun c => ?_, fun q hq _ => ⟨by rw [hcont], ?_⟩,
      fun id x _ => by rw [State.core_congr (honly .cores (by decide))], fun q hq hnone => ?_⟩
    · exact congrArg (field · 1 0) (hreg (0x200 + 4 * c.val) (by omega) (by omega))
    · rw [State.epochOf, hreg _ (by omega) (by omega), State.epochOf]
    · exact absurd (List.mem_singleton.mp hq ▸ hnone) hfree

theorem ResetsAsked.cons {p : Nat} {ps : List Nat} {s t r : State} (h : ResetsAsked [p] s t) (g : ResetsAsked ps t r) (hp : p < 4)
    (hps : ∀ q ∈ ps, q < 4) (hnew : p ∉ ps) : ResetsAsked (p :: ps) s r := by
  obtain ⟨hmem, htick, hwarm⟩ := h.kept
  obtain ⟨gmem, gtick, gwarm⟩ := g.kept
  refine ⟨⟨gmem.trans hmem, gtick.trans htick, gwarm.trans hwarm⟩, fun c => (g.part c).trans (h.part c), fun q hq hnot => ?_,
    fun id x hnot => ?_, fun q hq hnone => ?_⟩
  · obtain ⟨hfirst, hrest⟩ := not_or.mp (List.mem_cons.not.mp hnot)
    obtain ⟨ha, hb⟩ := h.others q hq (List.mem_singleton.not.mpr hfirst)
    obtain ⟨ga, gb⟩ := g.others q hq hrest
    exact ⟨ga.trans ha, gb.trans hb⟩
  · obtain ⟨hfirst, hrest⟩ := not_or.mp (List.mem_cons.not.mp hnot)
    rw [g.apart id x (by rw [h.part]; exact hrest), h.apart id x (List.mem_singleton.not.mpr hfirst)]
  · rcases List.mem_cons.mp hq with rfl | hin
    · obtain ⟨ha, hb, hc⟩ := h.started q List.mem_cons_self hnone
      obtain ⟨ga, gb⟩ := g.others q hp hnew
      refine ⟨ga.trans ha, gb.trans hb, fun id x hid => ?_⟩
      rw [g.apart id x (by rw [h.part, hid]; exact hnew), hc id x hid]
    · have hne : q ∉ [p] := fun e => hnew (List.mem_singleton.mp e ▸ hin)
      obtain ⟨ha, hb⟩ := h.others q (hps q hin) hne
      obtain ⟨ga, gb, gc⟩ := g.started q hin (ha.trans hnone)
      refine ⟨by rw [ga, htick], by rw [gb, hb], fun id x hid => ?_⟩
      rw [gc id x ((h.part id.cluster).trans hid), h.apart id x (hid ▸ hne)]

theorem resetsAsked_foldl (cause : Nat) (ps : List Nat) (s : State) (hps : ∀ q ∈ ps, q < 4) (hnodup : ps.Nodup) (hwarm : s.cont.warm = none) :
    ResetsAsked ps s (ps.foldl (fun s p => takeTrigger s cause p 0) s) := by
  induction ps generalizing s with
  | nil => exact ⟨⟨rfl, rfl, rfl⟩, fun _ => rfl, fun _ _ _ => ⟨rfl, rfl⟩, fun _ _ _ => rfl, fun _ hq => absurd hq List.not_mem_nil⟩
  | cons p ps ih =>
    have hp := hps p List.mem_cons_self
    have hrest : ∀ q ∈ ps, q < 4 := fun q hq => hps q (List.mem_cons_of_mem p hq)
    obtain ⟨hnew, hnodup⟩ := List.nodup_cons.mp hnodup
    have hfirst := resetsAsked_takeTrigger s cause 0 hp hwarm
    exact hfirst.cons (ih _ hrest hnodup (hfirst.kept.2.2.trans hwarm)) hp hrest hnew

theorem resetsAsked_partResetWrite (s : State) (v : Nat) (hwarm : s.cont.warm = none) :
    ResetsAsked ((List.range 4).filter (fun p => bitAt v p)) s (partResetWrite s v) :=
  resetsAsked_foldl 0xA _ s (fun _ hq => List.mem_range.mp (List.mem_filter.mp hq).1) (List.nodup_range.filter _) hwarm

/-! ### Epochs that targets adopt (R404) -/

theorem epochAdopt_newer {s : State} {d p e : Nat} (hnew : modDist 16 (s.epochOf p) e < 2 ^ 15) (hahead : 0 < modDist 16 e (s.epochCopy d p))
    (hbehind : modDist 16 e (s.epochCopy d p) < 2 ^ 15) (hfree : targetBusy s d p = false) :
    epochAdopt s d p e = { s with fab.epochs := SMap.set s.fab.epochs (4 * d + p) e } := by
  unfold epochAdopt takeEpoch
  dsimp only
  rw [if_neg (by omega), if_neg (by omega), if_pos hbehind, hfree]
  rfl

/-! ### Assignments (R412) -/

/-- A write of a guarded register that reaches it, at an offset beyond the common ones. -/
theorem exec_partConfigWrite_of_reaches {s s1 : State} {w : Fin 1024} {who : Requester} {v : Word} (hguard : partGuarded (4 * w.val) = true)
    (hreach : WriteReaches s s1 partPg (4 * w.val) who v.toNat) :
    exec (.partConfigWrite w who v) s = .next (partWrite (seenBy s who) partPg who (4 * w.val) v.toNat) := by
  have hoff : 0x100 ≤ 4 * w.val := by
    simp only [partGuarded, Bool.or_eq_true, Bool.and_eq_true, beq_iff_eq, decide_eq_true_eq] at hguard
    omega
  have hwrite := writeReg_of_reaches hreach (by omega) (by omega)
  rw [pageWrite_block _ _ _ _ _ hoff rfl] at hwrite
  exact congrArg Host.Outcome.next ((if_pos hguard).trans hwrite)

theorem partWrite_guarded {s : State} {p : Page} {who : Requester} {off v : Nat} {r : RegSpec} (hguard : partGuarded off = true)
    (hspec : Block.spec .part off = some r) : partWrite s p who off v = tookOr (partConfigWrite s off v) p who off := by
  have hne : off ≠ 0x010 ∧ off ≠ 0x110 ∧ off ≠ 0x114 := by
    simp only [partGuarded, Bool.or_eq_true, Bool.and_eq_true, beq_iff_eq, decide_eq_true_eq] at hguard
    omega
  obtain ⟨h1, h2, h3⟩ := hne
  unfold partWrite
  rw [if_neg h1, if_neg h2, if_neg h3, hguard, hspec]
  rfl

/-- Every context of the cores of the partitions concerned is IDLE. -/
theorem configIdle_iff (s : State) (off v : Nat) : (configParts s off v).all (fun p => allIdle s (coresOf (s.partClusters p))) = true ↔
    ∀ q ∈ configParts s off v, ∀ (id : CoreId) x, s.clusterPart id.cluster.val = q → ((s.core id).ctx x).mode = .idle := by
  have hmem (q : Nat) (id : CoreId) : id ∈ coresOf (s.partClusters q) ↔ s.clusterPart id.cluster.val = q :=
    (mem_coresOf id _ fun c hc => List.mem_range.mp (List.mem_filter.mp hc).1).trans (mem_partClusters s q id.cluster)
  simp only [List.all_eq_true, allIdle, beq_iff_eq, hmem]
  exact ⟨fun h q hq id x hid => h q hq id hid x (mem_allCtx x), fun h q hq id hid x _ => h q hq id x hid⟩

theorem partConfigWrite_of_idle {s : State} {off v : Nat} {r : RegSpec} (hspec : Block.spec .part off = some r)
    (hidle : ∀ q ∈ configParts s off v, ∀ (id : CoreId) x, s.clusterPart id.cluster.val = q → ((s.core id).ctx x).mode = .idle) :
    partConfigWrite s off v = (s.setRegN partPg off (BitVec.ofNat 32 v &&& BitVec.ofNat 32 r.rw).toNat, true) := by
  unfold partConfigWrite
  rw [hspec]
  exact if_pos ((configIdle_iff s off v).mpr hidle)

theorem partConfigWrite_of_busy {s : State} {off v : Nat}
    (hbusy : ¬ ∀ q ∈ configParts s off v, ∀ (id : CoreId) x, s.clusterPart id.cluster.val = q → ((s.core id).ctx x).mode = .idle) :
    partConfigWrite s off v = (s, false) := by
  unfold partConfigWrite
  exact if_neg ((configIdle_iff s off v).not.mpr hbusy)

end Sys2Proof.Machine
end

section
/-! OBLIGATIONS. Partition and warm resets (R403-R405, R407, R411, R412). -/

namespace Sys2Proof.Machine

/-! ### Triggers from the shared agents (R403) -/

theorem sharedTrigger_of_cons {s : State} {x : SharedTrig} {rest : List SharedTrig} (h : s.mem.shared = x :: rest) :
    sharedTrigger s = takeTrigger { s with mem.shared := rest } x.cause x.target x.cluster := by
  unfold sharedTrigger
  rw [h]

theorem sharedTrigger_starts {s : State} {x : SharedTrig} {rest : List SharedTrig} (h : s.mem.shared = x :: rest) (hwarm : s.cont.warm = none)
    (htarget : x.target < 4) (hreset : SMap.get s.cont.resets x.target = none) :
    ResetStarted { s with mem.shared := rest } (sharedTrigger s) x.target := by
  rw [sharedTrigger_of_cons h]
  exact resetStarted_of_free x.cause x.cluster htarget hwarm hreset

theorem sharedTrigger_noted {s : State} {x : SharedTrig} {rest : List SharedTrig} (h : s.mem.shared = x :: rest) (htarget : x.target < 4)
    (hreset : SMap.get s.cont.resets x.target ≠ none) : (sharedTrigger s).cont = s.cont ∧ (sharedTrigger s).cores = s.cores := by
  rw [sharedTrigger_of_cons h, takeTrigger_of_reset (s := { s with mem.shared := rest }) x.cause x.cluster htarget (.inr hreset)]
  have honly := (onlyIn_triggerNoted { s with mem.shared := rest } x.cause x.target x.cluster).bump (p := partPg) (sel := 0)
  exact ⟨honly .cont (by decide), honly .cores (by decide)⟩

theorem sharedTrigger_warm {s : State} {x : SharedTrig} {rest : List SharedTrig} (h : s.mem.shared = x :: rest) (hwarm : s.cont.warm = none)
    (htarget : x.target = 4) : (sharedTrigger s).cont.warm = some ⟨s.tick, false⟩ := by
  have honly := onlyIn_triggerNoted { s with mem.shared := rest } x.cause 4 x.cluster
  have hcont : (triggerNoted { s with mem.shared := rest } x.cause 4 x.cluster).cont = s.cont := honly .cont (by decide)
  have htick : (triggerNoted { s with mem.shared := rest } x.cause 4 x.cluster).tick = s.tick := honly .tick (by decide)
  rw [sharedTrigger_of_cons h, htarget, takeTrigger_of_module, (warmStarted_of_none 0 (by rw [hcont, hwarm])).cont, warmCont, htick]

theorem sharedTrigger_unknown {s : State} {x : SharedTrig} {rest : List SharedTrig} (h : s.mem.shared = x :: rest) (htarget : 4 < x.target) :
    (sharedTrigger s).cont = s.cont ∧ bitAt ((sharedTrigger s).regN partPg 0x018) 3 = true := by
  rw [sharedTrigger_of_cons h, takeTrigger_of_none _ x.cause x.cluster htarget]
  refine ⟨onlyIn_triggerNoted { s with mem.shared := rest } x.cause x.target x.cluster .cont (by decide), ?_⟩
  rw [triggerNoted_istatus]
  exact State.bitAt_raise_self _ _ (by decide)

/-! ### Writes that ask for resets (R404, R411) -/

theorem writeReg_partReset {s s1 : State} {who : Requester} {v : Word} (h : WriteReaches s s1 partPg 0x110 who v.toNat) :
    writeReg s partPg 0x110 who v = partResetWrite (seenBy s who) v.toNat := by
  rw [writeReg_of_reaches h (by decide) (by decide), pageWrite_block _ _ _ _ _ (by decide) rfl]
  rfl

theorem writeReg_warm {s s1 : State} {who : Requester} {v : Word} (h : WriteReaches s s1 partPg 0x010 who v.toNat) :
    writeReg s partPg 0x010 who v = if bitAt v.toNat 0 then startWarm (seenBy s who) 0 else seenBy s who := by
  rw [writeReg_of_reaches h (by decide) (by decide), pageWrite_ctrl _ _ _ _ _ rfl rfl]
  rfl

theorem partReset_asked {s s1 : State} {who : Requester} {v : Word} (h : WriteReaches s s1 partPg 0x110 who v.toNat) (hwarm : s.cont.warm = none) :
    ResetsAsked ((List.range 4).filter (fun p => bitAt v.toNat p)) s (writeReg s partPg 0x110 who v) := by
  have hasked := resetsAsked_partResetWrite (seenBy s who) v.toNat (by rw [seenBy_cont]; exact hwarm)
  rw [← writeReg_partReset h] at hasked
  have hcore (id : CoreId) : (seenBy s who).core id = s.core id := State.core_congr (seenBy_cores s who) id
  have hpart (c : Nat) : (seenBy s who).clusterPart c = s.clusterPart c := seenBy_keep s who (State.clusterPart · c) fun _ => rfl
  have hepoch (q : Nat) : (seenBy s who).epochOf q = s.epochOf q := seenBy_keep s who (State.epochOf · q) fun _ => rfl
  obtain ⟨kept, part, others, apart, started⟩ := hasked
  simp only [seenBy_cont, seenBy_tick, seenBy_mem, hcore, hpart, hepoch] at kept part others apart started
  exact ⟨kept, part, others, apart, started⟩

/-! ### Assignments (R412) -/

theorem configParts_seenBy (s : State) (who : Requester) (off v : Nat) : configParts (seenBy s who) off v = configParts s off v :=
  seenBy_keep s who (configParts · off v) fun _ => rfl

/-- The condition of an assignment, before and after the checks of the access. -/
theorem configIdle_seenBy (s : State) (who : Requester) (off v : Nat) :
    (∀ q ∈ configParts (seenBy s who) off v, ∀ (id : CoreId) x, (seenBy s who).clusterPart id.cluster.val = q →
      (((seenBy s who).core id).ctx x).mode = .idle) ↔
    ∀ q ∈ configParts s off v, ∀ (id : CoreId) x, s.clusterPart id.cluster.val = q → ((s.core id).ctx x).mode = .idle := by
  have hcore (id : CoreId) : (seenBy s who).core id = s.core id := State.core_congr (seenBy_cores s who) id
  have hpart (c : Nat) : (seenBy s who).clusterPart c = s.clusterPart c := seenBy_keep s who (State.clusterPart · c) fun _ => rfl
  simp only [configParts_seenBy, hcore, hpart]

theorem partConfigWrite_takes {s s1 : State} {w : Fin 1024} {who : Requester} {v : Word} {r : RegSpec} (hguard : partGuarded (4 * w.val) = true)
    (hspec : Block.spec .part (4 * w.val) = some r) (hreach : WriteReaches s s1 partPg (4 * w.val) who v.toNat)
    (hidle : ∀ q ∈ configParts s (4 * w.val) v.toNat, ∀ (id : CoreId) x, s.clusterPart id.cluster.val = q → ((s.core id).ctx x).mode = .idle) :
    exec (.partConfigWrite w who v) s =
      .next ((seenBy s who).setRegN partPg (4 * w.val) (BitVec.ofNat 32 v.toNat &&& BitVec.ofNat 32 r.rw).toNat) := by
  rw [exec_partConfigWrite_of_reaches hguard hreach, partWrite_guarded hguard hspec,
    partConfigWrite_of_idle hspec ((configIdle_seenBy s who _ _).mpr hidle), tookOr_taken]

theorem partConfigWrite_refuses {s s1 : State} {w : Fin 1024} {who : Requester} {v : Word} {r : RegSpec} (hguard : partGuarded (4 * w.val) = true)
    (hspec : Block.spec .part (4 * w.val) = some r) (hreach : WriteReaches s s1 partPg (4 * w.val) who v.toNat)
    (hbusy : ¬ ∀ q ∈ configParts s (4 * w.val) v.toNat, ∀ (id : CoreId) x, s.clusterPart id.cluster.val = q → ((s.core id).ctx x).mode = .idle) :
    exec (.partConfigWrite w who v) s = .next ((seenBy s who).logReq partPg kindIgnored who true (4 * w.val)) := by
  rw [exec_partConfigWrite_of_reaches hguard hreach, partWrite_guarded hguard hspec,
    partConfigWrite_of_busy ((configIdle_seenBy s who _ _).not.mpr hbusy)]
  rfl

/-! ### The obligation -/

/-- Settles O49: a trigger or a write that asks fences the partition and starts its reset, a newer epoch is taken, CLEAR leaves the cores
at rest, and assignments change only while every context of the partitions concerned is IDLE. -/
theorem partitionResets : Obligations.PartitionResets := by
  intro s s1 who v halted started
  refine ⟨fun x rest hx hwarm => ⟨fun htarget hreset => ?_, fun htarget hreset => ⟨_, rfl, sharedTrigger_noted hx htarget hreset⟩,
    fun htarget => ⟨_, rfl, sharedTrigger_warm hx hwarm htarget⟩, fun htarget => ⟨_, rfl, sharedTrigger_unknown hx htarget⟩⟩,
    fun hreach hwarm p hp => ?_, fun hreach => ⟨fun hgo hwarm => ?_, fun hclear => ?_⟩, fun d p e => ⟨fun hold => ?_, fun hnew hahead hbehind hfree => ?_⟩,
    fun p hp => ⟨fun hreset hadopted hquiet => ?_, fun hwaiting => ?_⟩, fun d hd hexpired hverified => warm_ends hd hexpired hverified,
    fun w r hguard hspec hreach => ⟨fun hidle => ?_, fun q hq id x hid hmode => ?_⟩, fun w hguard => ?_⟩
  · have hstart := sharedTrigger_starts hx hwarm htarget hreset
    refine ⟨_, rfl, ⟨?_, ?_, fun id y hid hrun => ?_⟩, hstart.onlyIn .mem (by decide), ?_, fun q hq hne => ⟨?_, ?_⟩⟩
    · rw [hstart.cont]
      exact SMap.get_set_self _ _ _
    · rw [hstart.epoch _ htarget, if_pos rfl]
      rfl
    · rw [(hstart.fenced id y).trans (if_pos hid)]
      exact congrArg Context.mode (Context.stopped_of_running hrun)
    · rw [hstart.istatus]
      exact State.bitAt_raise_self _ _ (by decide)
    · rw [hstart.cont]
      exact SMap.get_set_ne _ _ hne
    · rw [hstart.epoch q hq, if_neg hne]
      rfl
  · have hasked := partReset_asked hreach hwarm
    refine ⟨_, rfl, hasked.kept.1, fun hbit hfree => ?_, fun hbit => hasked.others p hp fun hmem => ?_⟩
    · obtain ⟨hset, hepoch, hstop⟩ := hasked.started p (List.mem_filter.mpr ⟨List.mem_range.mpr hp, hbit⟩) hfree
      refine ⟨hset, hepoch, fun id x hid hrun => ?_⟩
      rw [hstop id x hid, Context.stopped_of_running hrun]
    · exact Bool.false_ne_true (hbit.symm.trans (List.mem_filter.mp hmem).2)
  · have hwarmed := warmStarted_of_none (s := seenBy s who) 0 (by rw [seenBy_cont]; exact hwarm)
    have hcont : (startWarm (seenBy s who) 0).cont = warmCont s 0 := by
      rw [hwarmed.cont, warmCont, seenBy_tick, warmCont]
    refine ⟨_, congrArg Host.Outcome.next ((writeReg_warm hreach).trans (if_pos hgo)), by rw [hcont]; rfl, by rw [hcont]; rfl, by rw [hcont]; rfl,
      by rw [hwarmed.sec], by rw [hwarmed.sec], (hwarmed.onlyIn .mem (by decide)).trans (seenBy_mem s who), fun p hp hused => ⟨?_, fun id x _ hrun => ?_⟩⟩
    · rw [hwarmed.epoch p hp ((seenBy_keep s who (State.unused · p) fun _ => rfl).trans hused)]
      exact congrArg (fun e => (e + 1) % 2 ^ 16) (seenBy_keep s who (State.epochOf · p) fun _ => rfl)
    · rw [hwarmed.halts, State.core_congr (seenBy_cores s who), Context.stopped_of_running hrun]
  · refine ⟨_, congrArg Host.Outcome.next ((writeReg_warm hreach).trans (if_neg (by rw [hclear]; exact Bool.false_ne_true))), ?_⟩
    exact (OnlyIn.refl s).seenBy.mono (by decide)
  · exact congrArg Host.Outcome.next (if_pos hold)
  · exact ⟨_, congrArg Host.Outcome.next (epochAdopt_newer hnew hahead hbehind hfree), (OnlyIn.refl s).putFab.mono (by decide),
      SMap.getD_set_self _ _ _ _, rfl⟩
  · have htaken : targetsAcknowledged s p.val = clearPart s p.val := by
      rw [targetsAcknowledged_part hp, hadopted, hquiet, Option.isSome_iff_ne_none.mpr hreset]
      rfl
    refine ⟨_, congrArg Host.Outcome.next htaken, clearPart_resets s _, clearPart_istatus s _, fun id x hid => ?_⟩
    have hrest := clearPart_resting s hid
    exact ⟨mode_of_resting hrest x, flags_of_resting hrest⟩
  · refine congrArg Host.Outcome.next ((targetsAcknowledged_part hp).trans (if_neg ?_))
    rw [hwaiting, Bool.false_and, Bool.and_false]
    exact Bool.false_ne_true
  · refine ⟨_, partConfigWrite_takes hguard hspec hreach hidle, (OnlyIn.refl s).seenBy.setRegN.mono (by decide), ?_⟩
    rw [State.setRegN, State.reg_setReg_self, BitVec.ofNat_toNat, BitVec.ofNat_toNat, BitVec.setWidth_eq, BitVec.setWidth_eq]
  · refine ⟨_, partConfigWrite_refuses hguard hspec hreach fun hidle => hmode (hidle q hq id x hid), ?_⟩
    exact (OnlyIn.refl s).seenBy.logReq.mono (by decide)
  · exact congrArg Host.Outcome.next (if_neg (by rw [hguard]; exact Bool.false_ne_true))

end Sys2Proof.Machine
end

section
/-! OBLIGATIONS. Source lines and the small interrupt controllers (R360-R363). -/

namespace Sys2Proof.Machine

/-! ### Counting the sources that have become eligible (R370) -/

/-- Only what the targets of the LIC hold has changed. -/
structure Settles (s t : State) : Prop where
  onlyIn : OnlyIn s t [.irq]
  irq : t.irq = { s.irq with targets := t.irq.targets }
  stack : ∀ k, (t.licTarget k).stack = (s.licTarget k).stack

theorem Settles.refl (s : State) : Settles s s := ⟨(OnlyIn.refl s).mono (by decide), rfl, fun _ => rfl⟩

theorem Settles.trans {s t r : State} (h : Settles s t) (g : Settles t r) : Settles s r :=
  ⟨(h.onlyIn.trans g.onlyIn).mono (by decide), by rw [g.irq, h.irq], fun k => (g.stack k).trans (h.stack k)⟩

theorem settles_settleTarget (s : State) (k : Nat) : Settles s (settleTarget s k) := by
  unfold settleTarget
  dsimp only
  split
  · exact .refl s
  · refine ⟨(OnlyIn.refl s).putIrq, rfl, fun j => ?_⟩
    rw [State.licTarget_setLicTarget]
    split
    · rename_i hj
      rw [hj]
    · rfl

theorem settles_settleLic (s : State) : Settles s (settleLic s) := by
  unfold settleLic
  induction List.range 5 generalizing s with
  | nil => exact .refl s
  | cons k l ih => exact (settles_settleTarget s k).trans (ih _)

/-! ### Source lines (R360) -/

/-- The level of a page's line reaches its controller. -/
def lineSet (s : State) (p : Page) (level : Bool) : State :=
  if level == s.lineSeen p then s
  else settleLic { s with irq.lines := if level then NSet.insert s.irq.lines p.base else NSet.erase s.irq.lines p.base }

theorem sourceLineChange_of_page {s : State} {n : Nat} {p : Page} (hpage : pageAt (0x1000 * n) = some p) (hgated : s.domainState p.domain ≠ 2)
    (hctl : s.domainState (if n < 0xA00 then 8 * (n / 0x40) + 7 else 367) = 0) :
    sourceLineChange s n = lineSet s p (s.domainState p.domain != 3 && lineLevel s p) := by
  unfold sourceLineChange
  rw [hpage]
  exact if_neg (fun h => h.elim hgated (fun h => h hctl))

theorem onlyIn_lineSet (s : State) (p : Page) (level : Bool) : OnlyIn s (lineSet s p level) [.irq] := by
  unfold lineSet
  exact OnlyIn.ite (ps := []) (qs := [.irq]) (.refl s) (((OnlyIn.refl s).putIrq.trans (settles_settleLic _).onlyIn).mono (by decide))

theorem lineSet_contains (s : State) (p : Page) (level : Bool) (b : Nat) :
    (lineSet s p level).irq.lines.contains b = if b = p.base then level else s.irq.lines.contains b := by
  unfold lineSet
  split
  · rename_i hsame
    split
    · rename_i hb
      rw [hb]
      exact (beq_iff_eq.mp hsame).symm
    · rfl
  · rw [(settles_settleLic _).irq]
    show (if level then NSet.insert s.irq.lines p.base else NSet.erase s.irq.lines p.base).contains b = _
    cases level
    · rw [if_neg Bool.false_ne_true, NSet.contains_erase]
      by_cases hb : b = p.base <;> simp [hb]
    · rw [if_pos rfl, NSet.contains_insert]
      by_cases hb : b = p.base <;> simp [hb]

theorem lineSet_lineSeen (s : State) (p : Page) (level : Bool) : (lineSet s p level).lineSeen p = level :=
  (lineSet_contains s p level p.base).trans (if_pos rfl)

theorem lineLevel_of_ne_mbx (s : State) {p : Page} (h : p.block ≠ .mbx) : lineLevel s p = decide (s.reg p 0x018 &&& s.reg p 0x01C ≠ 0) := by
  have hzero : s.regN p 0x018 &&& s.regN p 0x01C = 0 ↔ s.reg p 0x018 &&& s.reg p 0x01C = 0 := by
    rw [State.regN, State.regN, ← BitVec.toNat_and]
    exact ⟨fun h => BitVec.eq_of_toNat_eq h, fun h => congrArg BitVec.toNat h⟩
  unfold lineLevel
  split
  · exact absurd ‹_› h
  · rw [Bool.eq_iff_iff]
    simp [hzero]

/-! ### The choice of a small interrupt controller (R362) -/

/-- Is a source to be taken in the place of the best found before it? -/
def sicTakes (s : State) (c n : Nat) (best : Option Nat) : Bool :=
  sicPending s c n && (match best with | some m => decide (sicPrio s c m < sicPrio s c n) | none => true)

theorem sicBest_succ (s : State) (c fuel n : Nat) (best : Option Nat) :
    sicBest s c (fuel + 1) n best = sicBest s c fuel (n + 1) (if sicTakes s c n best then some n else best) := rfl

theorem sicBest_keeps (s : State) (c n : Nat) (fuel i : Nat)
    (h : ∀ j, i ≤ j → j < i + fuel → sicPending s c j = true → sicPrio s c j ≤ sicPrio s c n) : sicBest s c fuel i (some n) = some n := by
  induction fuel generalizing i with
  | zero => rfl
  | succ fuel ih =>
    have hnot : sicTakes s c i (some n) = false := by
      unfold sicTakes
      cases hp : sicPending s c i with
      | false => rfl
      | true => simpa using h i (Nat.le_refl i) (by omega) hp
    rw [sicBest_succ, hnot, if_neg Bool.false_ne_true]
    exact ih (i + 1) fun j h1 h2 => h j (by omega) (by omega)

theorem sicBest_none (s : State) (c fuel i : Nat) (h : ∀ j, i ≤ j → j < i + fuel → sicPending s c j = false) :
    sicBest s c fuel i none = none := by
  induction fuel generalizing i with
  | zero => rfl
  | succ fuel ih =>
    have hnot : sicTakes s c i none = false := by rw [sicTakes, h i (Nat.le_refl i) (by omega), Bool.false_and]
    rw [sicBest_succ, hnot, if_neg Bool.false_ne_true]
    exact ih (i + 1) fun j h1 h2 => h j (by omega) (by omega)

/-- The first source of highest PRIO is found, whatever weaker one was found before it. -/
theorem sicBest_finds (s : State) (c n : Nat) (fuel i : Nat) (best : Option Nat) (hi : i ≤ n) (hn : n < i + fuel)
    (hpending : sicPending s c n = true) (hbest : ∀ m, best = some m → sicPrio s c m < sicPrio s c n)
    (h : ∀ j, i ≤ j → j < i + fuel → sicPending s c j = true →
      sicPrio s c j < sicPrio s c n ∨ (sicPrio s c j = sicPrio s c n ∧ n ≤ j)) : sicBest s c fuel i best = some n := by
  induction fuel generalizing i best with
  | zero => omega
  | succ fuel ih =>
    by_cases heq : i = n
    · have htake : sicTakes s c i best = true := by
        unfold sicTakes
        rw [heq, hpending]
        cases best with
        | none => rfl
        | some m => simpa using hbest m rfl
      rw [sicBest_succ, htake, if_pos rfl, heq]
      exact sicBest_keeps s c n fuel (n + 1) fun j h1 h2 hj => by
        have := h j (by omega) (by omega) hj
        omega
    · rw [sicBest_succ]
      refine ih (i + 1) _ (by omega) (by omega) (fun m hm => ?_) fun j h1 h2 => h j (by omega) (by omega)
      split at hm
      · rename_i htake
        obtain rfl := Option.some.inj hm
        have hlower := h i (Nat.le_refl i) (by omega) (Bool.and_eq_true_iff.mp htake).1
        omega
      · exact hbest m hm

/-! ### SIC_DELIVER (R362) -/

theorem coreIdx_scalarCore (c : Fin 40) : coreIdx (scalarCore c.val) = 7 * c.val + 6 := by
  have hc := c.isLt
  simp only [coreIdx, scalarCore, coreOfIdx]
  omega

theorem coreDomain_scalarCore (c : Fin 40) : coreDomain (scalarCore c.val) = 8 * c.val + 6 := by
  have hc := c.isLt
  simp only [coreDomain, scalarCore, coreOfIdx]
  omega

/-- The state after the push of a source to the scalar core. -/
def sicPushed (s : State) (c n : Nat) (x : Ctx) (q : Nat) : State :=
  let k := s.sic c
  let s := unitPush s (7 * c + 6) x q (srcSic c) (n + sicPrio s c n * 2 ^ 8 + k.seq * 2 ^ 32)
  (s.setSic c { soft := NSet.erase k.soft n, active := NSet.insert k.active n, seq := wrapSucc 32 k.seq }).bump (sicPage c) 0

section
variable {s : State} {c : Fin 40} {n : Nat}

theorem sicDeliver_of_none (h : sicBest s c.val 128 0 none = none) : sicDeliver s c.val = s := by
  unfold sicDeliver
  rw [h]

theorem sicDeliver_of_some (h : sicBest s c.val 128 0 none = some n) : sicDeliver s c.val =
    if field (s.regN (sicPage c.val) 0x100) 3 2 = 3 ∨
        (((SMap.getD s.cores {} (7 * c.val + 6)).ctx (Ctx.ofIdx (field (s.regN (sicPage c.val) 0x100) 3 2))).queue
          (field (s.regN (sicPage c.val) 0x100) 1 0)).credits = 0 ∨
        !s.domainUp (8 * c.val + 6) ∨ s.domainState (8 * c.val + 7) ≠ 0 then s
    else sicPushed s c.val n (Ctx.ofIdx (field (s.regN (sicPage c.val) 0x100) 3 2)) (field (s.regN (sicPage c.val) 0x100) 1 0) := by
  unfold sicDeliver
  rw [h]
  dsimp only
  rw [coreDomain_scalarCore, State.core, coreIdx_scalarCore]
  rfl

end

theorem sicPushed_sic (s : State) (c n : Nat) (x : Ctx) (q : Nat) : (sicPushed s c n x q).sic c =
    { soft := NSet.erase (s.sic c).soft n, active := NSet.insert (s.sic c).active n, seq := wrapSucc 32 (s.sic c).seq } := by
  refine (congrArg (fun i : Irq => SMap.getD i.sics {} c) (State.bump_irq ..)).trans ?_
  exact SMap.getD_set_self _ _ _ _

theorem sicPushed_core (s : State) (c n : Nat) (x : Ctx) (q : Nat) : SMap.getD (sicPushed s c n x q).cores {} (7 * c + 6) =
    (let core := (SMap.getD s.cores {} (7 * c + 6)).modCtx x (fun k => k.setQueue q { k.queue q with credits := (k.queue q).credits - 1 })
     { core with pushIn := core.pushIn ++ [⟨x, q, srcSic c, BitVec.ofNat 512 (n + sicPrio s c n * 2 ^ 8 + (s.sic c).seq * 2 ^ 32)⟩] }) := by
  refine (congrArg (fun m : SMap Core => SMap.getD m {} (7 * c + 6)) (State.bump_cores ..)).trans ?_
  exact SMap.getD_set_self _ _ _ _

theorem sicPushed_credits (s : State) (c n : Nat) (x : Ctx) (q : Nat) :
    (((SMap.getD (sicPushed s c n x q).cores {} (7 * c + 6)).ctx x).queue q).credits = (((SMap.getD s.cores {} (7 * c + 6)).ctx x).queue q).credits - 1 := by
  rw [sicPushed_core]
  show (((Core.modCtx _ x _).ctx x).queue q).credits = _
  rw [Core.ctx_modCtx_self, Context.queue_setQueue, if_pos rfl]

theorem sicPushed_pushIn (s : State) (c n : Nat) (x : Ctx) (q : Nat) : (SMap.getD (sicPushed s c n x q).cores {} (7 * c + 6)).pushIn =
    (SMap.getD s.cores {} (7 * c + 6)).pushIn ++ [⟨x, q, 281 + c, BitVec.ofNat 512 (n + sicPrio s c n * 2 ^ 8 + (s.sic c).seq * 2 ^ 32)⟩] := by
  rw [sicPushed_core]
  cases x <;> rfl

theorem onlyIn_sicPushed (s : State) (c n : Nat) (x : Ctx) (q : Nat) : OnlyIn s (sicPushed s c n x q) [.irq, .cores, .counters, .logs] :=
  ((OnlyIn.refl s).putCores.putIrq).bump.mono (by decide)

theorem onlyIn_bumpReg (s : State) (p : Page) (off : Nat) : OnlyIn s (s.bumpReg p off) [.logs, .regs] := by
  unfold State.bumpReg
  dsimp only
  split
  · exact (OnlyIn.refl s).mono (by decide)
  · split
    · exact (OnlyIn.refl s).setRegN.logWord
    · exact (OnlyIn.refl s).setRegN.mono (by decide)

/-! ### Writes of SIC.COMPLETE and SIC.SWSET (R362, R363) -/

theorem writeReg_sicComplete {s s1 : State} {c : Nat} {who : Requester} {v : Word} (h : WriteReaches s s1 (sicPage c) 0x108 who v.toNat) :
    writeReg s (sicPage c) 0x108 who v = sicComplete (seenBy s who) c v.toNat := by
  rw [writeReg_of_reaches h (by decide) (by decide), pageWrite_block _ _ _ _ _ (by decide) rfl]
  rfl

theorem writeReg_sicSwset {s s1 : State} {c : Nat} {who : Requester} {v : Word} (h : WriteReaches s s1 (sicPage c) 0x104 who v.toNat) :
    writeReg s (sicPage c) 0x104 who v = tookOr (sicSwset (seenBy s who) c v.toNat) (sicPage c) who 0x104 := by
  rw [writeReg_of_reaches h (by decide) (by decide), pageWrite_block _ _ _ _ _ (by decide) rfl]
  rfl

theorem seenBy_sic (s : State) (who : Requester) (c : Nat) : (seenBy s who).sic c = s.sic c := seenBy_keep s who (State.sic · c) fun _ => rfl

theorem sicComplete_of_active {s : State} {c v : Nat} (h : (s.sic c).active.contains (v % 128) = true) :
    sicComplete s c v = s.setSic c { s.sic c with active := NSet.erase (s.sic c).active (v % 128) } := by
  unfold sicComplete
  exact if_pos h

theorem sicComplete_of_stray {s : State} {c v : Nat} (h : (s.sic c).active.contains (v % 128) = false) :
    sicComplete s c v = ((s.bumpReg (sicPage c) 0x10C).raise (sicPage c) 0).bump (sicPage c) 1 := by
  unfold sicComplete
  exact if_neg (by rw [h]; exact Bool.false_ne_true)

theorem sicSwset_of_soft (s : State) (c : Nat) {v : Nat} (h : 64 ≤ v % 128) :
    sicSwset s c v = (s.setSic c { s.sic c with soft := NSet.insert (s.sic c).soft (v % 128) }, true) := by
  unfold sicSwset
  exact if_neg (by omega)

theorem sicSwset_of_line (s : State) (c : Nat) {v : Nat} (h : v % 128 < 64) : sicSwset s c v = (s, false) := by
  unfold sicSwset
  exact if_pos h

theorem clusterInterrupts : Sys2Proof.Claims.ClusterInterrupts := by
  intro s s1 c who v k p
  refine ⟨fun n q hpage hctl => ⟨fun hup => ?_, fun hdown => ?_, fun hgated => ?_⟩, ⟨fun n hn hpending hbest hcfg hcredit hup hsic => ?_,
    fun hnone => ?_, fun hcredit => ?_⟩, fun hreach => ⟨fun hactive => ?_, fun hstray => ?_⟩, fun hreach => ⟨fun hsoft => ?_, fun hline => ?_⟩⟩
  · have hset := sourceLineChange_of_page hpage (by omega) hctl
    have hlevel : (s.domainState q.domain != 3 && lineLevel s q) = lineLevel s q := by rw [hup]; rfl
    rw [hlevel] at hset
    refine ⟨_, congrArg Host.Outcome.next hset, onlyIn_lineSet _ _ _, lineSet_lineSeen _ _ _, fun hmbx => ?_, fun b hb => ?_⟩
    · rw [lineSet_lineSeen, lineLevel_of_ne_mbx s hmbx]
    · rw [lineSet_contains, if_neg hb]
  · have hset := sourceLineChange_of_page hpage (by omega) hctl
    have hlevel : (s.domainState q.domain != 3 && lineLevel s q) = false := by rw [hdown]; rfl
    rw [hlevel] at hset
    exact ⟨_, congrArg Host.Outcome.next hset, onlyIn_lineSet _ _ _, lineSet_lineSeen _ _ _⟩
  · refine congrArg Host.Outcome.next (?_ : sourceLineChange s n = s)
    unfold sourceLineChange
    rw [hpage]
    exact if_pos (.inl hgated)
  · have hfound := sicBest_finds s c.val n 128 0 none (Nat.zero_le n) (by omega) hpending nofun fun j _ hj => hbest j (by omega)
    have hfree : ¬ (field (s.regN p 0x100) 3 2 = 3 ∨ (((SMap.getD s.cores {} (7 * c.val + 6)).ctx (Ctx.ofIdx (field (s.regN p 0x100) 3 2))).queue
        (field (s.regN p 0x100) 1 0)).credits = 0 ∨ (!s.domainUp (8 * c.val + 6)) = true ∨ s.domainState (8 * c.val + 7) ≠ 0) := by
      rw [hup]
      rintro (h | h | h | h)
      · exact hcfg h
      · exact hcredit h
      · exact Bool.false_ne_true h
      · exact h hsic
    refine ⟨_, congrArg Host.Outcome.next ((sicDeliver_of_some hfound).trans (if_neg hfree)), onlyIn_sicPushed _ _ _ _ _, ?_, ?_, ?_, ?_, ?_⟩
    · rw [sicPushed_sic, NSet.contains_insert, decide_eq_true rfl, Bool.true_or]
    · rw [sicPushed_sic, NSet.contains_erase, decide_eq_false (by simp), Bool.false_and]
    · rw [sicPushed_sic]
      rfl
    · exact sicPushed_credits _ _ _ _ _
    · exact sicPushed_pushIn _ _ _ _ _
  · exact congrArg Host.Outcome.next (sicDeliver_of_none (sicBest_none s c.val 128 0 fun j _ hj => hnone j (by omega)))
  · refine congrArg Host.Outcome.next (?_ : sicDeliver s c.val = s)
    cases hbest : sicBest s c.val 128 0 none with
    | none => exact sicDeliver_of_none hbest
    | some n => exact (sicDeliver_of_some hbest).trans (if_pos (.inr (.inl hcredit)))
  · have hwrite := (writeReg_sicComplete hreach).trans (sicComplete_of_active (by rw [seenBy_sic]; exact hactive))
    refine ⟨_, congrArg Host.Outcome.next hwrite, (OnlyIn.refl s).seenBy.putIrq.mono (by decide), ?_⟩
    rw [seenBy_sic]
    exact SMap.getD_set_self _ _ _ _
  · have hwrite := (writeReg_sicComplete hreach).trans (sicComplete_of_stray (by rw [seenBy_sic]; exact hstray))
    refine ⟨_, congrArg Host.Outcome.next hwrite, ((OnlyIn.refl s).seenBy.trans (onlyIn_bumpReg _ _ _)).raise.bump.mono (by decide), ?_⟩
    rw [State.regN_bump]
    exact State.bitAt_raise_self _ _ (by decide)
  · have hwrite := (writeReg_sicSwset hreach).trans (congrArg (tookOr · (sicPage c.val) who 0x104) (sicSwset_of_soft (seenBy s who) c.val hsoft))
    have hsic : (tookOr ((seenBy s who).setSic c.val { (seenBy s who).sic c.val with
        soft := NSet.insert ((seenBy s who).sic c.val).soft (v.toNat % 128) }, true) (sicPage c.val) who 0x104).sic c.val =
        { k with soft := NSet.insert k.soft (v.toNat % 128) } := by
      rw [tookOr_taken, seenBy_sic]
      exact SMap.getD_set_self _ _ _ _
    refine ⟨_, congrArg Host.Outcome.next hwrite, (OnlyIn.refl s).seenBy.putIrq.mono (by decide), ?_, ?_⟩
    · rw [hsic, NSet.contains_insert, decide_eq_true rfl, Bool.true_or]
    · rw [hsic]
  · have hwrite := (writeReg_sicSwset hreach).trans (congrArg (tookOr · (sicPage c.val) who 0x104) (sicSwset_of_line (seenBy s who) c.val hline))
    exact ⟨_, congrArg Host.Outcome.next hwrite, (OnlyIn.refl s).seenBy.logReq.mono (by decide)⟩

end Sys2Proof.Machine
end

section
/-! OBLIGATIONS. Claims, completions and configuration of the large interrupt controller (R364-R368). -/

namespace Sys2Proof.Machine

/-! ### The choice of a target (R366) -/

/-- A source is no better than another: PRIO is lower, or equal with a number that is not lower. -/
def licBehind (s : State) (i n : Nat) : Prop := licCfg s i % 256 < licCfg s n % 256 ∨ (licCfg s i % 256 = licCfg s n % 256 ∧ n ≤ i)

/-- The better of the best source so far and the next. -/
def licPick (s : State) (best : Option Nat) (n : Nat) : Option Nat :=
  match best with
  | none => some n
  | some m =>
    let a := licCfg s n % 256
    let b := licCfg s m % 256
    if b < a ∨ (a = b ∧ n < m) then some n else some m

theorem licBest_eq (s : State) (t : Nat) : licBest s t = (licEligible s t).foldl (licPick s) none := rfl

theorem licPick_some (s : State) (m n : Nat) : licPick s (some m) n = some n ∨ licPick s (some m) n = some m := by
  unfold licPick
  dsimp only
  split
  · exact .inl rfl
  · exact .inr rfl

theorem licPick_of_behind (s : State) {i n : Nat} (h : licBehind s i n) : licPick s (some n) i = some n := by
  unfold licBehind at h
  unfold licPick
  exact if_neg (by omega)

theorem licPick_takes (s : State) {best : Option Nat} {n : Nat} (h : ∀ m, best = some m → licBehind s m n) : licPick s best n = some n := by
  cases best with
  | none => rfl
  | some m =>
    have hm := h m rfl
    unfold licBehind at hm
    unfold licPick
    dsimp only
    split
    · rfl
    · congr 1
      omega

theorem foldl_licPick_keeps (s : State) {n : Nat} (l : List Nat) (h : ∀ i ∈ l, licBehind s i n) : l.foldl (licPick s) (some n) = some n := by
  induction l with
  | nil => rfl
  | cons i l ih =>
    rw [List.foldl_cons, licPick_of_behind s (h i List.mem_cons_self)]
    exact ih fun j hj => h j (List.mem_cons_of_mem i hj)

theorem foldl_licPick_finds (s : State) {n : Nat} (l : List Nat) (best : Option Nat) (hn : n ∈ l) (hbest : ∀ m, best = some m → licBehind s m n)
    (h : ∀ i ∈ l, licBehind s i n) : l.foldl (licPick s) best = some n := by
  induction l generalizing best with
  | nil => exact absurd hn List.not_mem_nil
  | cons i l ih =>
    have hrest : ∀ j ∈ l, licBehind s j n := fun j hj => h j (List.mem_cons_of_mem i hj)
    rw [List.foldl_cons]
    by_cases hi : i = n
    · rw [hi, licPick_takes s hbest]
      exact foldl_licPick_keeps s l hrest
    · refine ih _ ((List.mem_cons.mp hn).resolve_left (Ne.symm hi)) (fun m hm => ?_) hrest
      cases best with
      | none => exact Option.some.inj hm ▸ h i List.mem_cons_self
      | some b =>
        rcases licPick_some s b i with hp | hp
        · exact Option.some.inj (hp.symm.trans hm) ▸ h i List.mem_cons_self
        · exact Option.some.inj (hp.symm.trans hm) ▸ hbest b rfl

theorem licBest_of_first {s : State} {t n : Nat} (hn : n ∈ licEligible s t) (h : ∀ i ∈ licEligible s t, licBehind s i n) : licBest s t = some n :=
  foldl_licPick_finds s _ none hn nofun h

theorem licBest_isSome {s : State} {t : Nat} (h : licEligible s t ≠ []) : (licBest s t).isSome = true := by
  have hkeep (l : List Nat) (b : Nat) : (l.foldl (licPick s) (some b)).isSome = true := by
    induction l generalizing b with
    | nil => rfl
    | cons i l ih =>
      rw [List.foldl_cons]
      rcases licPick_some s b i with hp | hp <;> rw [hp] <;> exact ih _
  rw [licBest_eq]
  obtain ⟨i, l, hl⟩ := List.exists_cons_of_ne_nil h
  rw [hl, List.foldl_cons]
  exact hkeep l i

/-! ### CLAIM (R366) -/

/-- The host's claim readies its doorbell. -/
def claimTold (s : State) (t : Nat) : State := if t = 4 then { s with irq.hostTold := false } else s

/-- The irq block with a source claimed and stacked. -/
def claimStacked (s : State) (t n : Nat) : State :=
  let k := (claimTold s t).licTarget t
  let s := (claimTold s t).setLicTarget t { k with stack := (n, licCfg (claimTold s t) n % 256) :: k.stack }
  { s with irq.active := SMap.set s.irq.active n t, irq.edges := NSet.erase s.irq.edges n }

section
variable (s : State) (t : Nat)

theorem claimTold_keep {β : Type} (g : State → β) (h : ∀ b, g { s with irq.hostTold := b } = g s) : g (claimTold s t) = g s := by
  unfold claimTold
  split
  · exact h _
  · rfl

theorem onlyIn_claimTold : OnlyIn s (claimTold s t) [.irq] := OnlyIn.ite (ps := [.irq]) (qs := []) (OnlyIn.refl s).putIrq (.refl s)

theorem claimTold_licTarget : (claimTold s t).licTarget t = s.licTarget t := claimTold_keep s t (State.licTarget · t) fun _ => rfl

theorem claimTold_licBest : licBest (claimTold s t) t = licBest s t := claimTold_keep s t (licBest · t) fun _ => rfl

theorem claimTold_licCfg (n : Nat) : licCfg (claimTold s t) n = licCfg s n := claimTold_keep s t (licCfg · n) fun _ => rfl

end

section
variable {s : State} {t : Nat}

theorem licClaim_of_best {n : Nat} (hroom : (s.licTarget t).stack.length < 32) (h : licBest s t = some n) :
    licClaim s t = ((settleLic (claimStacked s t n)).bump licPg 0, 2 ^ 31 + licCfg s n % 256 * 2 ^ 16 + n) := by
  unfold licClaim
  change (if 32 ≤ ((claimTold s t).licTarget t).stack.length then (((claimTold s t).raise licPg 2).bump licPg 1, 0)
    else match licBest (claimTold s t) t with
      | none => ((claimTold s t).bump licPg 1, 0)
      | some n => ((settleLic (claimStacked s t n)).bump licPg 0, 2 ^ 31 + licCfg (claimTold s t) n % 256 * 2 ^ 16 + n)) = _
  rw [claimTold_licTarget, if_neg (by omega), claimTold_licBest, h]
  dsimp only
  rw [claimTold_licCfg]

theorem licClaim_of_none (hroom : (s.licTarget t).stack.length < 32) (h : licBest s t = none) :
    licClaim s t = ((claimTold s t).bump licPg 1, 0) := by
  unfold licClaim
  change (if 32 ≤ ((claimTold s t).licTarget t).stack.length then (((claimTold s t).raise licPg 2).bump licPg 1, 0)
    else match licBest (claimTold s t) t with
      | none => ((claimTold s t).bump licPg 1, 0)
      | some n => ((settleLic (claimStacked s t n)).bump licPg 0, 2 ^ 31 + licCfg (claimTold s t) n % 256 * 2 ^ 16 + n)) = _
  rw [claimTold_licTarget, if_neg (by omega), claimTold_licBest, h]

theorem licClaim_of_full (h : 32 ≤ (s.licTarget t).stack.length) : licClaim s t = (((claimTold s t).raise licPg 2).bump licPg 1, 0) := by
  unfold licClaim
  exact if_pos (show 32 ≤ ((claimTold s t).licTarget t).stack.length by rw [claimTold_licTarget]; exact h)

end

/-- What a claim leaves of the block. -/
theorem claimStacked_settled (s : State) (t n : Nat) :
    ((settleLic (claimStacked s t n)).licTarget t).stack = (n, licCfg s n % 256) :: (s.licTarget t).stack ∧
      (settleLic (claimStacked s t n)).irq.active = SMap.set s.irq.active n t ∧
      (settleLic (claimStacked s t n)).irq.edges = NSet.erase s.irq.edges n ∧ (settleLic (claimStacked s t n)).irq.cfg = s.irq.cfg := by
  have hsettled := settles_settleLic (claimStacked s t n)
  have hown : (claimStacked s t n).licTarget t = { s.licTarget t with stack := (n, licCfg s n % 256) :: (s.licTarget t).stack } := by
    refine (SMap.getD_set_self _ _ _ _).trans ?_
    rw [claimTold_licTarget, claimTold_licCfg]
  refine ⟨?_, ?_, ?_, ?_⟩
  · rw [hsettled.stack, hown]
  · rw [hsettled.irq]
    exact congrArg (SMap.set · n t) (claimTold_keep s t (fun r => r.irq.active) fun _ => rfl)
  · rw [hsettled.irq]
    exact congrArg (NSet.erase · n) (claimTold_keep s t (fun r => r.irq.edges) fun _ => rfl)
  · rw [hsettled.irq]
    exact claimTold_keep s t (fun r => r.irq.cfg) fun _ => rfl

theorem onlyIn_claimStacked (s : State) (t n : Nat) : OnlyIn s (settleLic (claimStacked s t n)) [.irq] :=
  (((onlyIn_claimTold s t).putIrq.putIrq).trans (settles_settleLic _).onlyIn).mono (by decide)

theorem busRead_claim {s s1 : State} {tg : Fin 5} {who : Requester} (h : ReadReaches s s1 licPg (0x200 + 0x20 * tg.val) who) :
    busRead s (licPg.key (0x200 + 0x20 * tg.val)) who = ((licClaim (seenBy s who) tg.val).1, .value (licClaim (seenBy s who) tg.val).2) := by
  have htg := tg.isLt
  have hoff : (0x200 + 0x20 * tg.val) / 4 * 4 = 0x200 + 0x20 * tg.val := by omega
  have hidx : (0x200 + 0x20 * tg.val - 0x200) / 0x20 = tg.val := by omega
  rw [busRead_of_reaches h, h.eq_seenBy, licPg.key_mod (by omega), hoff]
  unfold pageRead
  rw [if_neg (by simp [isDebug, licPg]), if_neg (by omega), if_neg (by omega)]
  refine (if_pos (by omega)).trans ?_
  rw [hidx]

/-- A read that claims leaves the state and answers the value of the claim. -/
theorem exec_claim {s s1 t : State} {tg : Fin 5} {who : Requester} {a : Nat} (h : ReadReaches s s1 licPg (0x200 + 0x20 * tg.val) who)
    (hclaim : licClaim (seenBy s who) tg.val = (t, a)) :
    exec (.claim tg who) s = .next t ∧ (busRead s (licPg.key (0x200 + 0x20 * tg.val)) who).2 = .value a := by
  have hread := busRead_claim h
  rw [hclaim] at hread
  refine ⟨?_, by rw [hread]⟩
  show Host.Outcome.next (busRead s (licPg.key (0x200 + 0x20 * tg.val)) who).1 = _
  rw [hread]

/-! ### COMPLETE (R367) -/

theorem writeReg_licComplete {s s1 : State} {tg : Fin 5} {who : Requester} {v : Word}
    (h : WriteReaches s s1 licPg (0x204 + 0x20 * tg.val) who v.toNat) :
    writeReg s licPg (0x204 + 0x20 * tg.val) who v = licComplete (seenBy s who) tg.val v.toNat := by
  have htg := tg.isLt
  have hidx : (0x204 + 0x20 * tg.val - 0x200) / 0x20 = tg.val := by omega
  rw [writeReg_of_reaches h (by omega) (by omega), pageWrite_block _ _ _ _ _ (by omega) (by simp [isDebug, licPg])]
  show licWrite _ _ _ _ _ = _
  unfold licWrite
  rw [if_neg (by omega), if_neg (by omega), if_neg (by omega), if_pos (by omega), hidx]

/-- The top of a target's stack popped. -/
def licPopped (s : State) (t n : Nat) (rest : List (Nat × Nat)) : State :=
  let s := s.setLicTarget t { s.licTarget t with stack := rest }
  { s with irq.active := SMap.del s.irq.active n }

section
variable {s : State} {t v : Nat}

theorem licComplete_top {pr : Nat} {rest : List (Nat × Nat)} (h : (s.licTarget t).stack = (v % 4096, pr) :: rest) : licComplete s t v =
    settleLic (licPopped s t (v % 4096) rest) := by
  unfold licComplete
  dsimp only
  rw [h]
  exact if_pos rfl

theorem licComplete_order {top pr : Nat} {rest : List (Nat × Nat)} (h : (s.licTarget t).stack = (top, pr) :: rest) (hne : top ≠ v % 4096)
    (hactive : SMap.get s.irq.active (v % 4096) = some t) : licComplete s t v =
    ((s.record licPg 0x114 (t * 2 ^ 24 + top * 2 ^ 12 + v % 4096)).raise licPg 0).bump licPg 2 := by
  unfold licComplete
  dsimp only
  rw [h]
  exact (if_neg hne).trans (if_pos hactive)

theorem licComplete_stray (h : (s.licTarget t).stack = []) : licComplete s t v = (s.raise licPg 1).bump licPg 3 := by
  unfold licComplete
  dsimp only
  rw [h]

end

/-! ### SCFG and SWSET (R364, R368) -/

/-- A source configured. -/
def scfgTaken (s : State) (n v : Nat) : State :=
  let s : State := { s with irq.cfg := SMap.set s.irq.cfg n (v % 2 ^ 11) }
  if v % 256 = 0 then { s with irq.edges := NSet.erase s.irq.edges n } else s

section
variable (s : State) (n v : Nat)

theorem onlyIn_scfgTaken : OnlyIn s (scfgTaken s n v) [.irq] := by
  unfold scfgTaken
  exact (OnlyIn.ite (OnlyIn.refl s).putIrq.putIrq (OnlyIn.refl s).putIrq).mono (by decide)

theorem scfgTaken_cfg : (scfgTaken s n v).irq.cfg = SMap.set s.irq.cfg n (v % 2 ^ 11) := by
  unfold scfgTaken
  dsimp only
  split <;> rfl

theorem scfgTaken_edges (h : v % 256 = 0) : (scfgTaken s n v).irq.edges.contains n = false := by
  unfold scfgTaken
  dsimp only
  rw [if_pos h]
  show (NSet.erase s.irq.edges n).contains n = false
  rw [NSet.contains_erase, decide_eq_false (by simp), Bool.false_and]

end

theorem licScfgWrite_of_free {s : State} {v : Nat} (hfree : SMap.get s.irq.active (field (s.regN licPg 0x100) 11 0) = none)
    (hv : field v 10 8 ≤ 4) : licScfgWrite s v = (settleLic (scfgTaken s (field (s.regN licPg 0x100) 11 0) v), 0) := by
  unfold licScfgWrite
  dsimp only
  rw [hfree]
  refine (if_neg Bool.false_ne_true).trans ((if_neg (by omega)).trans ?_)
  rfl

theorem licScfgWrite_refused {s : State} {v : Nat}
    (h : SMap.get s.irq.active (field (s.regN licPg 0x100) 11 0) ≠ none ∨ 4 < field v 10 8) :
    licScfgWrite s v = (s, 1) ∨ licScfgWrite s v = (s, 2) := by
  unfold licScfgWrite
  dsimp only
  split
  · exact .inl rfl
  · rename_i hfree
    have hnone : SMap.get s.irq.active (field (s.regN licPg 0x100) 11 0) = none := by simpa using hfree
    exact .inr (if_pos (h.resolve_left fun hne => hne hnone))

theorem writeReg_scfg {s s1 : State} {who : Requester} {v : Word} (h : WriteReaches s s1 licPg 0x104 who v.toNat) :
    writeReg s licPg 0x104 who v = tookCode (licScfgWrite (seenBy s who) v.toNat) licPg who 0x104 := by
  rw [writeReg_of_reaches h (by decide) (by decide), pageWrite_block _ _ _ _ _ (by decide) rfl]
  rfl

theorem writeReg_licSwset {s s1 : State} {who : Requester} {v : Word} (h : WriteReaches s s1 licPg 0x108 who v.toNat) :
    writeReg s licPg 0x108 who v = tookOr (licSwset (seenBy s who) v.toNat) licPg who 0x108 := by
  rw [writeReg_of_reaches h (by decide) (by decide), pageWrite_block _ _ _ _ _ (by decide) rfl]
  rfl

theorem licEdge_edges (s : State) (n : Nat) : (licEdge s n).irq.edges = NSet.insert s.irq.edges n := by
  unfold licEdge
  rw [(settles_settleLic _).irq]

theorem seenBy_licTarget (s : State) (who : Requester) (t : Nat) : (seenBy s who).licTarget t = s.licTarget t :=
  seenBy_keep s who (State.licTarget · t) fun _ => rfl

theorem seenBy_licEligible (s : State) (who : Requester) (t : Nat) : licEligible (seenBy s who) t = licEligible s t :=
  seenBy_keep s who (licEligible · t) fun _ => rfl

theorem seenBy_licCfg (s : State) (who : Requester) (n : Nat) : licCfg (seenBy s who) n = licCfg s n := seenBy_keep s who (licCfg · n) fun _ => rfl

/-- What a source's configuration leaves of the block. -/
theorem scfgTaken_settled (s : State) (n v : Nat) : OnlyIn s (settleLic (scfgTaken s n v)) [.irq] ∧
    licCfg (settleLic (scfgTaken s n v)) n = v % 2 ^ 11 ∧ (∀ i, i ≠ n → licCfg (settleLic (scfgTaken s n v)) i = licCfg s i) ∧
    (v % 256 = 0 → (settleLic (scfgTaken s n v)).irq.edges.contains n = false) := by
  have hsettled := settles_settleLic (scfgTaken s n v)
  have hcfg : (settleLic (scfgTaken s n v)).irq.cfg = SMap.set s.irq.cfg n (v % 2 ^ 11) := by
    rw [hsettled.irq]
    exact scfgTaken_cfg s n v
  have hedges : (settleLic (scfgTaken s n v)).irq.edges = (scfgTaken s n v).irq.edges := by rw [hsettled.irq]
  refine ⟨((onlyIn_scfgTaken s n v).trans hsettled.onlyIn).mono (by decide), ?_, fun i hi => ?_, fun hzero => ?_⟩
  · rw [licCfg, hcfg, SMap.getD_set_self]
  · rw [licCfg, hcfg, SMap.getD_set_ne _ _ _ hi, licCfg]
  · rw [hedges]
    exact scfgTaken_edges s n v hzero

theorem tookCode_taken (s : State) (p : Page) (who : Requester) (off : Nat) : tookCode (s, 0) p who off = s := rfl

theorem scfg_takes {s s1 : State} {who : Requester} {v : Word} (hreach : WriteReaches s s1 licPg 0x104 who v.toNat)
    (hfree : SMap.get s.irq.active (field (s.regN licPg 0x100) 11 0) = none) (hv : field v.toNat 10 8 ≤ 4) :
    writeReg s licPg 0x104 who v = settleLic (scfgTaken (seenBy s who) (field (s.regN licPg 0x100) 11 0) v.toNat) := by
  have hcode := licScfgWrite_of_free (s := seenBy s who) (v := v.toNat) (by rw [seenBy_irq, seenBy_regN]; exact hfree) hv
  rw [seenBy_regN] at hcode
  rw [writeReg_scfg hreach, hcode, tookCode_taken]

theorem scfg_refuses {s s1 : State} {who : Requester} {v : Word} (hreach : WriteReaches s s1 licPg 0x104 who v.toNat)
    (h : SMap.get s.irq.active (field (s.regN licPg 0x100) 11 0) ≠ none ∨ 4 < field v.toNat 10 8) :
    ∃ kind, writeReg s licPg 0x104 who v = (seenBy s who).logReq licPg kind who true 0x104 := by
  have hcode := licScfgWrite_refused (s := seenBy s who) (v := v.toNat) (by rw [seenBy_irq, seenBy_regN]; exact h)
  rw [writeReg_scfg hreach]
  rcases hcode with hcode | hcode
  · exact ⟨kindIgnored, by rw [hcode]; rfl⟩
  · exact ⟨kindReserved, by rw [hcode]; rfl⟩

theorem licSwset_takes {s s1 : State} {who : Requester} {v : Word} (hreach : WriteReaches s s1 licPg 0x108 who v.toNat)
    (h : 3072 ≤ v.toNat % 4096) : writeReg s licPg 0x108 who v = licEdge (seenBy s who) (v.toNat % 4096) := by
  have hcode : licSwset (seenBy s who) v.toNat = (licEdge (seenBy s who) (v.toNat % 4096), true) := if_neg (by omega)
  rw [writeReg_licSwset hreach, hcode, tookOr_taken]

theorem licSwset_refuses {s s1 : State} {who : Requester} {v : Word} (hreach : WriteReaches s s1 licPg 0x108 who v.toNat)
    (h : v.toNat % 4096 < 3072) : writeReg s licPg 0x108 who v = (seenBy s who).logReq licPg kindIgnored who true 0x108 := by
  have hcode : licSwset (seenBy s who) v.toNat = (seenBy s who, false) := if_pos h
  rw [writeReg_licSwset hreach, hcode]
  rfl

theorem licSources : Sys2Proof.Claims.LicSources := by
  intro s s1 tg who v k prio
  refine ⟨fun hreach => ⟨fun hroom => ⟨fun n hn hfirst => ?_, fun hnone => ?_⟩, fun hfull => ?_⟩, fun hreach => ⟨fun rest pr hstack => ?_,
    fun top pr rest hstack hne hactive => ?_, fun hstack => ?_⟩, fun hreach => ⟨fun hfree hv => ?_, fun hrefused => ?_⟩,
    fun hreach => ⟨fun hsoft => ?_, fun hline => ?_⟩⟩
  · have hroom' : ((seenBy s who).licTarget tg.val).stack.length < 32 := by rw [seenBy_licTarget]; exact hroom
    have hbest : licBest (seenBy s who) tg.val = some n :=
      (seenBy_keep s who (licBest · tg.val) fun _ => rfl).trans (licBest_of_first hn hfirst)
    obtain ⟨hexec, hans⟩ := exec_claim hreach (licClaim_of_best hroom' hbest)
    obtain ⟨hstack, hactive, hedges, hcfg⟩ := claimStacked_settled (seenBy s who) tg.val n
    have hirq : ((settleLic (claimStacked (seenBy s who) tg.val n)).bump licPg 0).irq = (settleLic (claimStacked (seenBy s who) tg.val n)).irq :=
      State.bump_irq ..
    rw [seenBy_licCfg] at hans
    refine ⟨_, hexec, (((OnlyIn.refl s).seenBy.trans (onlyIn_claimStacked _ _ _)).bump).mono (by decide), hans, ?_, ?_, ?_, ?_⟩
    · rw [seenBy_licTarget, seenBy_licCfg] at hstack
      exact (congrArg (fun i : Irq => (SMap.getD i.targets {} tg.val).stack) hirq).trans hstack
    · rw [hirq, hactive]
      exact SMap.get_set_self _ _ _
    · rw [hirq, hedges, NSet.contains_erase, decide_eq_false (by simp), Bool.false_and]
    · rw [hirq, hcfg, seenBy_irq]
  · have hroom' : ((seenBy s who).licTarget tg.val).stack.length < 32 := by rw [seenBy_licTarget]; exact hroom
    have hbest : licBest (seenBy s who) tg.val = none := by
      rw [licBest_eq, seenBy_licEligible, hnone]
      rfl
    obtain ⟨hexec, hans⟩ := exec_claim hreach (licClaim_of_none hroom' hbest)
    refine ⟨_, hexec, (((OnlyIn.refl s).seenBy.trans (onlyIn_claimTold _ _)).bump).mono (by decide), hans, ?_, ?_⟩
    · rw [State.bump_irq]
      exact (claimTold_keep _ _ (fun r => r.irq.active) fun _ => rfl).trans (congrArg Irq.active (seenBy_irq s who))
    · rw [State.bump_irq]
      exact (claimTold_keep _ _ (fun r => r.irq.targets) fun _ => rfl).trans (congrArg Irq.targets (seenBy_irq s who))
  · obtain ⟨hexec, hans⟩ := exec_claim hreach (licClaim_of_full (s := seenBy s who) (by rw [seenBy_licTarget]; exact hfull))
    refine ⟨_, hexec, hans, ?_, ?_⟩
    · rw [State.regN_bump]
      exact State.bitAt_raise_self _ _ (by decide)
    · rw [State.bump_irq, State.raise_irq]
      exact (claimTold_keep _ _ (fun r => r.irq.targets) fun _ => rfl).trans (congrArg Irq.targets (seenBy_irq s who))
  · have hwrite := (writeReg_licComplete hreach).trans (licComplete_top (by rw [seenBy_licTarget]; exact hstack))
    have hsettled := settles_settleLic (licPopped (seenBy s who) tg.val (v.toNat % 4096) rest)
    refine ⟨_, congrArg Host.Outcome.next hwrite, ((OnlyIn.refl s).seenBy.putIrq.putIrq.trans hsettled.onlyIn).mono (by decide), ?_, ?_⟩
    · rw [hsettled.stack]
      exact congrArg LicTarget.stack (SMap.getD_set_self _ _ _ _)
    · rw [hsettled.irq]
      exact SMap.get_del_self _ _
  · have hwrite := (writeReg_licComplete hreach).trans (licComplete_order (by rw [seenBy_licTarget]; exact hstack) hne (by rw [seenBy_irq]; exact hactive))
    refine ⟨_, congrArg Host.Outcome.next hwrite, (OnlyIn.refl s).seenBy.record.raise.bump.mono (by decide), ?_⟩
    rw [State.regN_bump]
    exact State.bitAt_raise_self _ _ (by decide)
  · have hwrite := (writeReg_licComplete hreach).trans (licComplete_stray (by rw [seenBy_licTarget]; exact hstack))
    refine ⟨_, congrArg Host.Outcome.next hwrite, (OnlyIn.refl s).seenBy.raise.bump.mono (by decide), ?_⟩
    rw [State.regN_bump]
    exact State.bitAt_raise_self _ _ (by decide)
  · obtain ⟨honly, hown, hothers, hedges⟩ := scfgTaken_settled (seenBy s who) (field (s.regN licPg 0x100) 11 0) v.toNat
    refine ⟨_, congrArg Host.Outcome.next (scfg_takes hreach hfree hv), ((OnlyIn.refl s).seenBy.trans honly).mono (by decide), hown,
      fun i hi => (hothers i hi).trans (seenBy_licCfg s who i), hedges⟩
  · obtain ⟨kind, hwrite⟩ := scfg_refuses hreach hrefused
    exact ⟨_, congrArg Host.Outcome.next hwrite, (OnlyIn.refl s).seenBy.logReq.mono (by decide)⟩
  · refine ⟨_, congrArg Host.Outcome.next (licSwset_takes hreach hsoft), ((OnlyIn.refl s).seenBy.trans (onlyIn_licEdge _ _)).mono (by decide), ?_⟩
    rw [licEdge_edges, NSet.contains_insert, decide_eq_true rfl, Bool.true_or]
  · exact ⟨_, congrArg Host.Outcome.next (licSwset_refuses hreach hline), (OnlyIn.refl s).seenBy.logReq.mono (by decide)⟩

end Sys2Proof.Machine
end

section
/-! OBLIGATIONS. Deliveries of the large interrupt controller, moderation and Spyglass (R369-R371). -/

namespace Sys2Proof.Machine

/-! ### DELIVERY (R369, R370) -/

/-- Whether a Ringmaster core waits for an interrupt is noted. -/
def rmNoted (s : State) (t : Nat) (waiting : Bool) : State :=
  if t = 4 then s else { s with irq.rmIdle := if waiting then NSet.insert s.irq.rmIdle t else NSet.erase s.irq.rmIdle t }

/-- A delivery to a target is due. -/
def licDue (s : State) (t : Nat) : Bool :=
  licIdle s t || decide (max (field (s.regN licPg (0x208 + 0x20 * t)) 31 24) 1 ≤ (s.licTarget t).held) || (s.licTarget t).expired

/-- What a target held is cleared, and the delivery is counted. -/
def heldCleared (s : State) (t : Nat) : State :=
  (s.setLicTarget t { s.licTarget t with held := 0, expired := false }).bump licPg (if licIdle s t then 4 else 5)

/-- A delivery has been made for a source. -/
def deliveryMade (s : State) (t n : Nat) : State :=
  if t = 4 then hostDoorbell ((heldCleared s t).setField licPg 0x110 4 1 0) n (licCfg s n % 256)
  else { heldCleared s t with irq.rmIdle := NSet.erase (heldCleared s t).irq.rmIdle t }

theorem licDeliver_eq (s : State) (t : Nat) (waiting : Bool) : licDeliver s t waiting = match licBest (rmNoted s t waiting) t with
    | none => rmNoted s t waiting
    | some n => if !licDue (rmNoted s t waiting) t || (t == 4 && (rmNoted s t waiting).irq.hostTold) || (rmNoted s t waiting).domainState 367 != 0
      then rmNoted s t waiting else deliveryMade (rmNoted s t waiting) t n := rfl

section
variable (s : State) (t : Nat) (waiting : Bool)

theorem rmNoted_keep {β : Type} (g : State → β) (h : ∀ l, g { s with irq.rmIdle := l } = g s) : g (rmNoted s t waiting) = g s := by
  unfold rmNoted
  split
  · rfl
  · exact h _

theorem onlyIn_rmNoted : OnlyIn s (rmNoted s t waiting) [.irq] := OnlyIn.ite (ps := []) (qs := [.irq]) (.refl s) (OnlyIn.refl s).putIrq

theorem rmNoted_licIdle (ht : t < 4) : licIdle (rmNoted s t waiting) t = waiting := by
  unfold licIdle rmNoted
  rw [if_neg (by omega), if_neg (by omega)]
  cases waiting
  · show (NSet.erase s.irq.rmIdle t).contains t = false
    rw [NSet.contains_erase, decide_eq_false (by simp), Bool.false_and]
  · show (NSet.insert s.irq.rmIdle t).contains t = true
    rw [NSet.contains_insert, decide_eq_true rfl, Bool.true_or]

theorem rmNoted_licTarget : (rmNoted s t waiting).licTarget t = s.licTarget t := rmNoted_keep s t waiting (State.licTarget · t) fun _ => rfl

theorem licDue_rmNoted (ht : t < 4) : licDue (rmNoted s t waiting) t =
    (waiting || decide (max (field (s.regN licPg (0x208 + 0x20 * t)) 31 24) 1 ≤ (s.licTarget t).held) || (s.licTarget t).expired) := by
  rw [licDue, rmNoted_licIdle s t waiting ht, rmNoted_licTarget,
    rmNoted_keep s t waiting (State.regN · licPg (0x208 + 0x20 * t)) fun _ => rfl]

theorem onlyIn_heldCleared : OnlyIn s (heldCleared s t) [.logs, .counters, .irq] := (OnlyIn.refl s).putIrq.bump

theorem heldCleared_licTarget : (heldCleared s t).licTarget t = { s.licTarget t with held := 0, expired := false } := by
  have hirq : (heldCleared s t).irq = _ := State.bump_irq ..
  exact (congrArg (fun i : Irq => SMap.getD i.targets {} t) hirq).trans (SMap.getD_set_self _ _ _ _)

theorem heldCleared_regN (p : Page) (off : Nat) : (heldCleared s t).regN p off = s.regN p off := State.regN_bump ..

end

section
variable {s : State} {t n : Nat} {waiting : Bool}

theorem licDeliver_made (hbest : licBest s t = some n) (hdomain : s.domainState 367 = 0) (hdue : licDue (rmNoted s t waiting) t = true)
    (htold : t = 4 → s.irq.hostTold = false) : licDeliver s t waiting = deliveryMade (rmNoted s t waiting) t n := by
  have hbest' : licBest (rmNoted s t waiting) t = some n := (rmNoted_keep s t waiting (licBest · t) fun _ => rfl).trans hbest
  have hdomain' : (rmNoted s t waiting).domainState 367 = 0 := (rmNoted_keep s t waiting (State.domainState · 367) fun _ => rfl).trans hdomain
  have htold' : (t == 4 && (rmNoted s t waiting).irq.hostTold) = false := by
    rw [rmNoted_keep s t waiting (fun r => r.irq.hostTold) fun _ => rfl]
    by_cases h : t = 4
    · rw [htold h, Bool.and_false]
    · rw [beq_false_of_ne h, Bool.false_and]
  rw [licDeliver_eq, hbest']
  dsimp only
  rw [hdue, htold', hdomain']
  exact if_neg (by decide)

theorem licDeliver_waits (hbest : licBest s t = some n) (h : licDue (rmNoted s t waiting) t = false ∨ (t = 4 ∧ s.irq.hostTold = true)) :
    licDeliver s t waiting = rmNoted s t waiting := by
  have hbest' : licBest (rmNoted s t waiting) t = some n := (rmNoted_keep s t waiting (licBest · t) fun _ => rfl).trans hbest
  rw [licDeliver_eq, hbest']
  refine if_pos ?_
  rw [rmNoted_keep s t waiting (fun r => r.irq.hostTold) fun _ => rfl]
  rcases h with h | ⟨h4, htold⟩
  · rw [h]
    rfl
  · rw [htold, h4]
    simp

end

/-- A delivery to a Ringmaster core clears what its target held and wakes it. -/
theorem deliveryMade_core (s : State) {t : Nat} (n : Nat) (ht : t < 4) : OnlyIn s (deliveryMade s t n) [.irq, .counters, .logs] ∧
    (deliveryMade s t n).licTarget t = { s.licTarget t with held := 0, expired := false } ∧
    (deliveryMade s t n).irq.rmIdle.contains t = false := by
  unfold deliveryMade
  rw [if_neg (by omega)]
  refine ⟨(onlyIn_heldCleared s t).putIrq.mono (by decide), heldCleared_licTarget s t, ?_⟩
  show (NSet.erase (heldCleared s t).irq.rmIdle t).contains t = false
  rw [NSet.contains_erase, decide_eq_false (by simp), Bool.false_and]

/-! ### The host's doorbell (R369) -/

/-- The doorbell of a source. -/
def doorbellMsg (n prio : Nat) : Msg := { cls := 3, tc := tcOf 3, len := 16, data := 0xFF00 + (prio * 2 ^ 16 + n) * 2 ^ 96 }

theorem hostDoorbell_of_open {s : State} (n prio : Nat) (h : (s.tctx (field (s.regN licPg 0x10C) 13 0)).st = 1) :
    hostDoorbell s n prio = { sendMsg (s.bump licPg 6) (field (s.regN licPg 0x10C) 13 0) (doorbellMsg n prio) with irq.hostTold := true } := by
  have hctx : (s.bump licPg 6).tctx (field (s.regN licPg 0x10C) 13 0) = s.tctx (field (s.regN licPg 0x10C) 13 0) :=
    State.tctx_of_ctxs (congrArg (·.ctxs) (State.bump_net ..)) _
  unfold hostDoorbell
  exact if_pos (by rw [hctx]; exact h)

/-- A delivery to the host sends one doorbell (R369). -/
theorem deliveryMade_host {s : State} (n : Nat) (hopen : (s.tctx (field (s.regN licPg 0x10C) 13 0)).st = 1)
    (hqueue : (s.tctx (field (s.regN licPg 0x10C) 13 0)).queue = [])
    (hroom : (s.tctx (field (s.regN licPg 0x10C) 13 0)).unacked.length <
      min (s.tctx (field (s.regN licPg 0x10C) 13 0)).cwnd s.cwndMax) :
    OnlyIn s (deliveryMade s 4 n) [.irq, .net, .regs, .counters, .logs] ∧ (deliveryMade s 4 n).irq.hostTold = true ∧
      ((deliveryMade s 4 n).licTarget 4).held = 0 ∧ ∃ e : Unacked,
        ((deliveryMade s 4 n).tctx (field (s.regN licPg 0x10C) 13 0)).unacked = (s.tctx (field (s.regN licPg 0x10C) 13 0)).unacked ++ [e] ∧
        e.msg.cls = 3 ∧ e.msg.data = 0xFF00 + (licCfg s n % 256 * 2 ^ 16 + n) * 2 ^ 96 := by
  generalize hctx : field (s.regN licPg 0x10C) 13 0 = ctx at hopen hqueue hroom
  obtain ⟨r, hr⟩ : ∃ r, r = (heldCleared s 4).setField licPg 0x110 4 1 0 := ⟨_, rfl⟩
  have honly : OnlyIn s r [.regs, .logs, .counters, .irq] := by
    rw [hr]
    exact (onlyIn_heldCleared s 4).setField
  have hreg (p : Page) (off : Nat) (h : p.key off ≠ licPg.key 0x110) : (r.bump licPg 6).regN p off = s.regN p off := by
    rw [State.regN_bump, hr, State.regN_setField_ne _ _ _ _ h, heldCleared_regN]
  have hown : (r.bump licPg 6).tctx ctx = s.tctx ctx :=
    State.tctx_of_ctxs (congrArg (·.ctxs) ((State.bump_net ..).trans (honly .net (by decide)))) ctx
  have hmax : (r.bump licPg 6).cwndMax = s.cwndMax := State.cwndMax_of_regN (hreg _ _ (by decide))
  have hctx' : field (r.regN licPg 0x10C) 13 0 = ctx := by
    rw [← hctx, ← hreg licPg 0x10C (by decide), State.regN_bump]
  have hbell := hostDoorbell_of_open (s := r) n (licCfg s n % 256)
    (by rw [hctx', ← State.tctx_of_ctxs (congrArg (·.ctxs) (State.bump_net r licPg 6)), hown]; exact hopen)
  rw [hctx'] at hbell
  have hmade : deliveryMade s 4 n = { sendMsg (r.bump licPg 6) ctx (doorbellMsg n (licCfg s n % 256)) with irq.hostTold := true } := by
    unfold deliveryMade
    rw [if_pos rfl, ← hr, hbell]
  have hsends := talSends_sendMsg (r.bump licPg 6) ctx (doorbellMsg n (licCfg s n % 256))
  obtain ⟨e, hunacked, hcls, -, -, -, hdata, -⟩ := sendMsg_of_room (s := r.bump licPg 6) (n := ctx) (doorbellMsg n (licCfg s n % 256))
    (by rw [hown]; exact hqueue) (by rw [hown, hmax]; exact hroom)
  rw [hown] at hunacked
  rw [hmade]
  refine ⟨((honly.bump.trans hsends.writes.onlyIn).putIrq).mono (by decide), rfl, ?_, e, hunacked, hcls, hdata⟩
  have hirq : (sendMsg (r.bump licPg 6) ctx (doorbellMsg n (licCfg s n % 256))).irq = (heldCleared s 4).irq := by
    rw [hsends.writes.onlyIn .irq (by decide), State.bump_irq, hr]
    rfl
  have htarget := heldCleared_licTarget s 4
  refine (congrArg (fun i : Irq => (SMap.getD i.targets {} 4).held) hirq).trans ?_
  exact congrArg LicTarget.held htarget

/-! ### SPYGLASS_HIT (R371) -/

/-- Where the HIT bit of a SEL stands. -/
def hitOff (n : Nat) : Nat := if n < 32 then 0x104 else 0x108

/-- A watched line has set its HIT bit. -/
def spySet (s : State) (n : Nat) : State := ((s.setField spyPage (hitOff n) (n % 32) 1 1).raise spyPage 0).bump spyPage 0

/-- A sleeping group is asked to wake. -/
def wakeAsked (s : State) (g : Nat) : State := ({ s with power.waking := SMap.set s.power.waking g s.tick } : State).bump spyPage 1

/-- The sleeping groups that Spyglass wakes. -/
def spyGroups (s : State) : List Nat := (List.range 3).filter (fun g =>
  bitAt (s.regN spyPage 0x100) g && s.power.asleep.contains g && (SMap.get s.power.waking g).isNone)

/-- All of them are asked to wake. -/
def groupsAsked (s : State) : State := (spyGroups s).foldl wakeAsked s

/-- Is the line that a SEL watches asserted? -/
def spyLevel (s : State) (src : Nat) (p : Page) : Bool := s.domainState p.domain == 0 && lineLevel s p &&
  (decide (2560 ≤ src) || (sicRoute s (src / 64) (src % 64) && sicPrio s (src / 64) (src % 64) != 0))

theorem spyglassHit_of_source {s : State} {n : Nat} {p : Page} (h : licSource (spySel s n) = some p) : spyglassHit s n =
    if !bitAt (s.regN spyPage 0x010) 0 || !bitAt (s.regN spyPage (0x200 + 4 * n)) 31 || !spyLevel s (spySel s n) p ||
      bitAt (s.regN spyPage (hitOff n)) (n % 32) then s
    else if (groupsAsked (spySet s n)).domainState 367 = 0 then licEdge (groupsAsked (spySet s n)) (spySel s n) else groupsAsked (spySet s n) := by
  unfold spyglassHit
  dsimp only
  rw [h]
  rfl

theorem onlyIn_wakeAsked (s : State) (g : Nat) : OnlyIn s (wakeAsked s g) [.logs, .counters, .power] := (OnlyIn.refl s).putPower.bump

theorem onlyIn_groupsAsked (s : State) : OnlyIn s (groupsAsked s) [.logs, .counters, .power] := OnlyIn.foldl onlyIn_wakeAsked s _

theorem onlyIn_spySet (s : State) (n : Nat) : OnlyIn s (spySet s n) [.logs, .counters, .regs] :=
  ((OnlyIn.refl s).setField.raise.bump).mono (by decide)

theorem wakeAsked_power (s : State) (g : Nat) : (wakeAsked s g).power = { s.power with waking := SMap.set s.power.waking g s.tick } := State.bump_power ..

theorem wakeAsked_domainState (s : State) (g d : Nat) : (wakeAsked s g).domainState d = s.domainState d := by
  unfold State.domainState State.clock
  rw [wakeAsked_power, onlyIn_wakeAsked s g .fab (by decide)]

theorem groupsAsked_domainState (s : State) (d : Nat) : (groupsAsked s).domainState d = s.domainState d :=
  foldl_keep (State.domainState · d) wakeAsked (fun t g => wakeAsked_domainState t g d) _ s

theorem spySet_domainState (s : State) (n d : Nat) : (spySet s n).domainState d = s.domainState d := by
  unfold State.domainState State.clock
  rw [onlyIn_spySet s n .fab (by decide), onlyIn_spySet s n .power (by decide)]

theorem groupsAsked_regN (s : State) (p : Page) (off : Nat) : (groupsAsked s).regN p off = s.regN p off :=
  State.regN_congr (onlyIn_groupsAsked s .regs (by decide)) p off

theorem foldl_wakeAsked (l : List Nat) (s : State) {g : Nat} (h : g ∈ l ∨ SMap.get s.power.waking g = some s.tick) :
    SMap.get (l.foldl wakeAsked s).power.waking g = some s.tick := by
  induction l generalizing s with
  | nil => exact h.resolve_left List.not_mem_nil
  | cons k l ih =>
    have htick : (wakeAsked s k).tick = s.tick := onlyIn_wakeAsked s k .tick (by decide)
    rw [List.foldl_cons, ← htick]
    refine ih _ ?_
    rw [wakeAsked_power, htick]
    by_cases hk : g = k
    · rw [hk]
      exact .inr (SMap.get_set_self _ _ _)
    · exact h.imp (fun hm => (List.mem_cons.mp hm).resolve_left hk) fun hs => (SMap.get_set_ne _ _ hk).trans hs

theorem spySet_regN (s : State) (n : Nat) {p : Page} {off : Nat} (h1 : p.key off ≠ spyPage.key (hitOff n)) (h2 : p.key off ≠ spyPage.key 0x018) :
    (spySet s n).regN p off = s.regN p off := by
  rw [spySet, State.regN_bump, State.regN_raise_ne _ _ h2, State.regN_setField_ne _ _ _ _ h1]

theorem spySet_hit (s : State) {n : Nat} : bitAt ((spySet s n).regN spyPage (hitOff n)) (n % 32) = true := by
  have hmod : n % 32 < 32 := Nat.mod_lt _ (by decide)
  have hne : spyPage.key (hitOff n) ≠ spyPage.key 0x018 := by
    unfold hitOff Page.key
    split <;> decide
  rw [spySet, State.regN_bump, State.regN_raise_ne _ _ hne, State.bitAt_setField _ _ _ _ _ (by decide) (by omega), if_pos (by omega), Nat.sub_self]
  rfl

theorem spySet_istatus (s : State) (n : Nat) : bitAt ((spySet s n).regN spyPage 0x018) 0 = true := by
  rw [spySet, State.regN_bump]
  exact State.bitAt_raise_self _ _ (by decide)

/-- What a hit leaves, with its source pending in the LIC or not. -/
theorem spyHit_leaves {s t : State} {n : Nat} (h : OnlyIn (groupsAsked (spySet s n)) t [.irq]) :
    OnlyIn s t [.irq, .power, .regs, .counters, .logs] ∧ bitAt (t.regN spyPage (hitOff n)) (n % 32) = true ∧ bitAt (t.regN spyPage 0x018) 0 = true ∧
      ∀ g, g < 3 → bitAt (s.regN spyPage 0x100) g = true → s.power.asleep.contains g = true → SMap.get s.power.waking g = none →
        SMap.get t.power.waking g = some s.tick := by
  have hreg (off : Nat) : t.regN spyPage off = (spySet s n).regN spyPage off := (State.regN_congr (h .regs (by decide)) _ _).trans (groupsAsked_regN _ _ _)
  have hpower : (spySet s n).power = s.power := onlyIn_spySet s n .power (by decide)
  have htick : (spySet s n).tick = s.tick := onlyIn_spySet s n .tick (by decide)
  refine ⟨(((onlyIn_spySet s n).trans (onlyIn_groupsAsked _)).trans h).mono (by decide), by rw [hreg]; exact spySet_hit s,
    by rw [hreg]; exact spySet_istatus s n, fun g hg hmask hasleep hwaking => ?_⟩
  have hkeys : spyPage.key 0x100 ≠ spyPage.key (hitOff n) := by
    unfold hitOff Page.key
    split <;> decide
  have hmem : g ∈ spyGroups (spySet s n) := by
    refine List.mem_filter.mpr ⟨List.mem_range.mpr hg, ?_⟩
    rw [spySet_regN s n hkeys (by decide), hpower, hmask, hasleep, hwaking]
    rfl
  rw [show t.power = (groupsAsked (spySet s n)).power from h .power (by decide), ← htick]
  exact foldl_wakeAsked _ _ (.inl hmem)

theorem spyglassHit_leaves {s : State} {n : Nat} {p : Page} (h : licSource (spySel s n) = some p) (hon : bitAt (s.regN spyPage 0x010) 0 = true)
    (hsel : bitAt (s.regN spyPage (0x200 + 4 * n)) 31 = true) (hlevel : spyLevel s (spySel s n) p = true)
    (hnew : bitAt (s.regN spyPage (hitOff n)) (n % 32) = false) : OnlyIn (groupsAsked (spySet s n)) (spyglassHit s n) [.irq] ∧
      (s.domainState 367 = 0 → (spyglassHit s n).irq.edges.contains (spySel s n) = true) := by
  rw [spyglassHit_of_source h, hon, hsel, hlevel, hnew, if_neg (by decide)]
  refine ⟨(OnlyIn.ite (onlyIn_licEdge _ _) (OnlyIn.refl _)).mono (by decide), fun hdomain => ?_⟩
  rw [if_pos (by rw [groupsAsked_domainState, spySet_domainState, hdomain]), licEdge_edges, NSet.contains_insert,
    decide_eq_true rfl, Bool.true_or]

/-! ### IDLE.HOST (R369, R370) -/

theorem writeReg_idleHost {s s1 : State} {who : Requester} {v : Word} (h : WriteReaches s s1 licPg 0x110 who v.toNat) :
    writeReg s licPg 0x110 who v = idleHostWrite (seenBy s who) v.toNat := by
  rw [writeReg_of_reaches h (by decide) (by decide), pageWrite_block _ _ _ _ _ (by decide) rfl]
  rfl

theorem licIdle_host (s : State) : licIdle s 4 = bitAt (s.regN licPg 0x110) 4 := rfl

theorem licDeliveries : Sys2Proof.Claims.LicDeliveries := by
  intro s s1 tg waiting who v k m held ctx c
  have htg := tg.isLt
  refine ⟨fun n hbest hdomain => ⟨fun hm hdue => ?_, fun hm hidle hfew hearly => ?_, fun hm htold hdue hopen hqueue hroom => ?_, fun hm htold => ?_⟩,
    ⟨fun hticks hheld hlate hsome => ?_, fun hnot => ?_⟩, fun hreach => ⟨fun hset => ?_, fun hclear => ?_⟩, fun n q hsrc =>
    ⟨fun hon hsel hlevel hnew => ?_, fun hoff => ?_⟩⟩
  · have hdue' : licDue (rmNoted s m waiting) m = true := by
      rw [licDue_rmNoted s m waiting hm, Bool.or_eq_true, Bool.or_eq_true, decide_eq_true_eq, or_assoc]
      exact hdue
    have hmade := licDeliver_made (waiting := waiting) hbest hdomain hdue' (fun h => absurd h (by omega))
    obtain ⟨honly, htarget, hawake⟩ := deliveryMade_core (rmNoted s m waiting) n hm
    rw [rmNoted_licTarget] at htarget
    refine ⟨_, congrArg Host.Outcome.next hmade, ((onlyIn_rmNoted s m waiting).trans honly).mono (by decide), ?_, ?_, ?_, hawake⟩
    · rw [htarget]
    · rw [htarget]
    · rw [htarget]
  · have hdue' : licDue (rmNoted s m waiting) m = false := by
      rw [licDue_rmNoted s m waiting hm, hidle, show ((s.licTarget m).expired) = false from hearly, decide_eq_false (Nat.not_le.mpr hfew)]
      rfl
    exact ⟨_, congrArg Host.Outcome.next (licDeliver_waits hbest (.inl hdue')), onlyIn_rmNoted s m waiting,
      rmNoted_keep s m waiting (fun r => r.irq.targets) fun _ => rfl⟩
  · have hnoted : rmNoted s m waiting = s := if_pos hm
    have hdue' : licDue (rmNoted s m waiting) m = true := by
      rw [hnoted, licDue, Bool.or_eq_true, Bool.or_eq_true, decide_eq_true_eq, hm, licIdle_host]
      rcases hdue with h | h | h
      · exact .inl (.inr (hm ▸ h))
      · exact .inr (hm ▸ h)
      · exact .inl (.inl h)
    have hmade := licDeliver_made (waiting := waiting) hbest hdomain hdue' (fun _ => htold)
    rw [hnoted, hm] at hmade
    obtain ⟨honly, hbell, hheld, e, hsent, hcls, hdata⟩ := deliveryMade_host n hopen hqueue hroom
    refine ⟨_, e, ?_, honly, hbell, hheld, hsent, hcls, hdata⟩
    show Host.Outcome.next (licDeliver s m waiting) = _
    rw [hm, hmade]
  · exact congrArg Host.Outcome.next ((licDeliver_waits hbest (.inr ⟨hm, htold⟩)).trans (if_pos hm))
  · refine ⟨_, congrArg Host.Outcome.next (if_pos ⟨hticks, hheld, hlate, licBest_isSome hsome⟩), (OnlyIn.refl s).putIrq, ?_⟩
    exact SMap.getD_set_self _ _ _ _
  · refine congrArg Host.Outcome.next (if_neg fun h => ?_)
    obtain ⟨h1, h2, h3, -⟩ := h
    rcases hnot with h | h | h
    · exact h1 h
    · exact h2 h
    · exact absurd h (Nat.not_lt.mpr h3)
  · refine ⟨_, congrArg Host.Outcome.next ((writeReg_idleHost hreach).trans (if_pos hset)), ((OnlyIn.refl s).seenBy.setField.putIrq).mono (by decide),
      ?_, rfl⟩
    show bitAt (((seenBy s who).setField licPg 0x110 4 1 1).regN licPg 0x110) 4 = true
    rw [State.bitAt_setField _ _ _ _ _ (by decide) (by decide)]
    rfl
  · refine ⟨_, congrArg Host.Outcome.next ((writeReg_idleHost hreach).trans (if_neg (by rw [hclear]; exact Bool.false_ne_true))), ?_⟩
    exact (OnlyIn.refl s).seenBy
  · obtain ⟨honly, hedge⟩ := spyglassHit_leaves hsrc hon hsel hlevel hnew
    obtain ⟨hall, hhit, hist, hwake⟩ := spyHit_leaves honly
    exact ⟨_, rfl, hall, hhit, hist, hwake, hedge⟩
  · refine congrArg Host.Outcome.next ((spyglassHit_of_source hsrc).trans (if_pos ?_))
    rcases hoff with h | h
    · rw [h]
      rfl
    · rw [show spyLevel s (spySel s n) q = false from h]
      simp

/-- Settles O45: lines, sources, claims and deliveries, each by the case of the controller's state. -/
theorem interrupts : Obligations.Interrupts := ⟨clusterInterrupts, licSources, licDeliveries⟩

end Sys2Proof.Machine
end

section
/-! OBLIGATIONS. The common registers of a page, registers without a behaviour of their own, and accesses that do not reach them
(R378, R383-R394). -/

namespace Sys2Proof.Machine

/-! ### Accesses that pass the checks -/

theorem busCheck_ok_seenBy {s s1 : State} {off v : Nat} {who : Requester} {w : Bool} {p : Page} (h : busCheck s off who w v = (s1, .ok p)) :
    s1 = seenBy s who := by
  obtain ⟨-, hr, -⟩ | ⟨q, -, ⟨-, hr, -⟩ | ⟨-, hr⟩ | ⟨ht, -⟩⟩ := busCheck_cases s h
  · cases hr
  · cases hr
  · cases hr
  · exact ht

theorem busWrite_of_ok {s s1 : State} {off : Nat} {who : Requester} {v : Word} {p : Page} (h : busCheck s off who true v.toNat = (s1, .ok p)) :
    busWrite s off who v.toNat = (pageWrite (seenBy s who) p who (off % 0x1000 / 4 * 4) v.toNat (cycleAt s off), .value 0) := by
  unfold busWrite busWriteAt
  rw [h, ← busCheck_ok_seenBy h, Nat.mod_eq_of_lt v.isLt]

theorem busRead_of_ok {s s1 : State} {off : Nat} {who : Requester} {p : Page} (h : busCheck s off who false 0 = (s1, .ok p)) :
    busRead s off who = pageRead (seenBy s who) p who (off % 0x1000 / 4 * 4) := by
  unfold busRead
  rw [h, ← busCheck_ok_seenBy h]

theorem pageOff (n k : Nat) (h : k < 0x1000) (h4 : k % 4 = 0) : (0x1000 * n + k) % 0x1000 / 4 * 4 = k := by omega

/-- A write by a command to a common register of a page. -/
theorem busWrite_common {s s1 : State} {n k : Nat} {who : Requester} {v : Word} {p : Page} (hk : k < 0x1000) (h4 : k % 4 = 0)
    (h : busCheck s (0x1000 * n + k) who true v.toNat = (s1, .ok p)) :
    ∃ t, (busWrite s (0x1000 * n + k) who v.toNat).1 = pageWrite (seenBy s who) p who k v.toNat t := by
  refine ⟨cycleAt s (0x1000 * n + k), ?_⟩
  rw [busWrite_of_ok h, pageOff n k hk h4]

/-! ### ISTATUS set by software (R383) -/

theorem istBits_le (b : Block) : b.istBits ≤ 32 := by cases b <;> decide

theorem and_ones_toNat (v : Word) {k : Nat} (h : k ≤ 32) : (v &&& BitVec.ofNat 32 (2 ^ k - 1)).toNat = v.toNat % 2 ^ k := by
  have hlt : 2 ^ k - 1 < 2 ^ 32 := Nat.lt_of_lt_of_le (Nat.sub_lt (Nat.two_pow_pos k) (by decide)) (Nat.pow_le_pow_right (by decide) h)
  rw [BitVec.toNat_and, BitVec.toNat_ofNat, Nat.mod_eq_of_lt hlt, Nat.and_two_pow_sub_one_eq_mod]

theorem pageWrite_iset (s : State) (p : Page) (who : Requester) (v t : Nat) : pageWrite s p who 0x020 v t =
    s.setReg p 0x018 (s.reg p 0x018 ||| (BitVec.ofNat 32 v &&& BitVec.ofNat 32 (2 ^ p.block.istBits - 1))) := rfl

theorem iset_sets {s s1 : State} {n : Fin 5120} {who : Requester} {v : Word} {p : Page}
    (h : busCheck s (0x1000 * n.val + 0x020) who true v.toNat = (s1, .ok p)) : ∃ t, exec (.isetWrite n who v) s = .next t ∧
      OnlyIn s t [.regs, .sec] ∧ t.regN p 0x018 = s.regN p 0x018 ||| v.toNat % 2 ^ p.block.istBits := by
  obtain ⟨t, ht⟩ := busWrite_common (by decide) (by decide) h
  refine ⟨_, congrArg Host.Outcome.next (ht.trans (pageWrite_iset _ _ _ _ _)), (OnlyIn.refl s).seenBy.setReg.mono (by decide), ?_⟩
  rw [State.regN, State.reg_setReg_self, BitVec.toNat_or, BitVec.ofNat_toNat, BitVec.setWidth_eq, and_ones_toNat v (istBits_le p.block), seenBy_reg,
    State.regN]

/-! ### CNT_SEL (R387) -/

theorem pageWrite_cntSel (s : State) (p : Page) (who : Requester) (v t : Nat) : pageWrite s p who 0x030 v t = cntSelWrite s p who v := rfl

theorem field_low8 (v : Nat) : field v 7 0 = v % 256 := by
  rw [field, Nat.pow_zero, Nat.div_one]
  rfl

/-- SEL is written. -/
theorem cntSelWrite_sel (s : State) (p : Page) (who : Requester) {v : Nat} (h : bitAt v 30 = false) :
    cntSelWrite s p who v = s.setRegN p 0x030 (v % 256) := by
  rw [← field_low8 v]
  unfold cntSelWrite
  exact if_pos (by rw [h]; rfl)

theorem cntSelWrite_clear (s : State) (p : Page) (who : Requester) {v : Nat} (h : bitAt v 30 = true) (hk : p.block.counters[v % 256]? = some false) :
    cntSelWrite s p who v = clearCounter (s.setRegN p 0x030 (v % 256)) p (v % 256) := by
  unfold cntSelWrite
  dsimp only
  rw [field_low8, if_neg (by rw [h]; decide), hk]

theorem cntSelWrite_cycles (s : State) (p : Page) (who : Requester) {v : Nat} (h : bitAt v 30 = true) (hk : p.block.counters[v % 256]? = some true) :
    cntSelWrite s p who v = (s.setRegN p 0x030 (v % 256)).logReq p kindIgnored who true 0x030 := by
  unfold cntSelWrite
  dsimp only
  rw [field_low8, if_neg (by rw [h]; decide), hk]

/-- A counter deleted. -/
def counterGone (s : State) (p : Page) (sel : Nat) : State := { s with counters := SMap.del s.counters (p.base * 256 + sel) }

theorem counterGone_counter (s : State) (p : Page) (sel : Nat) : (counterGone s p sel).counter p sel = 0 := by
  unfold State.counter SMap.getD
  rw [show SMap.get (counterGone s p sel).counters (p.base * 256 + sel) = none from SMap.get_del_self _ _]
  rfl

theorem clearCounter_rank (s : State) {p : Page} (h : p.block = .ope) : clearCounter s p 0 =
    (counterGone s p 0).setOpe p.coreId { s.ope p.coreId with cleared := issuedAhead (s.ope p.coreId) (s.core p.coreId).now } := by
  unfold clearCounter
  rw [h]
  rfl

theorem clearCounter_send (s : State) {p : Page} (h : p.block = .jgl) : clearCounter s p 1 =
    if (s.core p.coreId).sendAhead (s.core p.coreId).now = 0 then counterGone s p 1
    else (counterGone s p 1).bumpBy p 1 ((s.core p.coreId).sendAhead (s.core p.coreId).now) := by
  unfold clearCounter
  rw [h]
  rfl

theorem clearCounter_other (s : State) {p : Page} {sel : Nat} (hsend : ¬ (p.block = .jgl ∧ sel = 1)) (hrank : ¬ (p.block = .ope ∧ sel = 0)) :
    clearCounter s p sel = counterGone s p sel := by
  unfold clearCounter
  dsimp only
  split
  · rename_i h
    exact absurd ⟨h, rfl⟩ hrank
  · rename_i h
    exact absurd ⟨h, rfl⟩ hsend
  · rfl

theorem clearCounter_send_counter (s : State) {p : Page} (h : p.block = .jgl) :
    (clearCounter s p 1).counter p 1 = min ((s.core p.coreId).sendAhead (s.core p.coreId).now) counterMax ∧
      OnlyIn s (clearCounter s p 1) [.counters, .logs] := by
  have hgone : OnlyIn s (counterGone s p 1) [.counters] := (OnlyIn.refl s).putCounters
  rw [clearCounter_send s h]
  split
  · rename_i hzero
    rw [hzero, counterGone_counter]
    exact ⟨rfl, hgone.mono (by decide)⟩
  · rw [State.counter_bumpBy_self, counterGone_counter, Nat.zero_add]
    exact ⟨rfl, hgone.bumpBy.mono (by decide)⟩

/-! ### CNT_LO (R388) -/

theorem pageRead_cntLo (s : State) (p : Page) (who : Requester) : pageRead s p who 0x034 = ((cntLoRead s p who).1, .value (cntLoRead s p who).2) := by
  unfold pageRead
  rw [if_neg (by simp [isDebug]), if_neg (by decide), if_pos rfl]

/-- The state with another Periscope session. -/
def sessionSet (s : State) (k : Option Session) : State := { s with sec.session := k }

theorem poisonIn_sessionSet (s : State) (k : Option Session) (id : CoreId) (a n : Nat) : poisonIn (sessionSet s k) id a n = poisonIn s id a n := by
  induction n generalizing a with
  | zero => rfl
  | succ n ih =>
    rw [poisonIn, poisonIn, ih]
    rfl

theorem dueBefore_sessionSet (s : State) (k : Option Session) (id : CoreId) (t : Nat) : dueBefore (sessionSet s k) id t = dueBefore s id t := by
  unfold dueBefore
  rw [poisonIn_sessionSet]
  rfl

theorem waitNow_sessionSet (s : State) (k : Option Session) (id : CoreId) : (sessionSet s k).waitNow id = s.waitNow id := by
  unfold State.waitNow
  rw [dueBefore_sessionSet]
  rfl

theorem seenBy_counterNow (s : State) (who : Requester) (p : Page) (sel : Nat) : (seenBy s who).counterNow p sel = s.counterNow p sel := by
  refine seenBy_keep s who (State.counterNow · p sel) fun k => ?_
  show (sessionSet s k).counterNow p sel = s.counterNow p sel
  unfold State.counterNow
  rw [waitNow_sessionSet]
  rfl

theorem counterNow_of_event (s : State) {p : Page} {sel : Nat} (hk : p.block.counters[sel]? = some false) (hrank : ¬ (p.block = .ope ∧ sel = 0))
    (hsend : ¬ (p.block = .jgl ∧ sel = 1)) : s.counterNow p sel = s.counter p sel := by
  unfold State.counterNow
  rw [hk]
  dsimp only
  split
  · rename_i h
    exact absurd ⟨h, rfl⟩ hrank
  · rename_i h
    exact absurd ⟨h, rfl⟩ hsend
  · rfl

/-! ### ERRLOG_DATA (R391) -/

theorem pageRead_errlog (s : State) (p : Page) (who : Requester) : pageRead s p who 0x028 = ((errlogRead s p).1, .value (errlogRead s p).2) := by
  unfold pageRead
  rw [if_neg (by simp [isDebug]), if_pos rfl]

/-- The error log of a page with the reader's place moved on. -/
def errlogMoved (s : State) (p : Page) (r : Nat) : State :=
  { s with logs := SMap.set s.logs p.base { s.log p with readSeq := wrapSucc 16 r } }

theorem errlogMoved_log (s : State) (p : Page) (r : Nat) : (errlogMoved s p r).log p = { s.log p with readSeq := wrapSucc 16 r } :=
  SMap.getD_set_self _ _ _ _

section
variable (s : State) (p : Page)

theorem errlogRead_empty (h : modDist 16 (s.log p).writeSeq (s.log p).readSeq = 0) : errlogRead s p = (s, 0) := by
  unfold errlogRead
  exact if_pos h

theorem errlogRead_held (h1 : 1 ≤ modDist 16 (s.log p).writeSeq (s.log p).readSeq) (h16 : modDist 16 (s.log p).writeSeq (s.log p).readSeq ≤ 16) :
    errlogRead s p = (errlogMoved s p (s.log p).readSeq, (SMap.getD (s.log p).ring 0 ((s.log p).readSeq % 16)).toNat) := by
  unfold errlogRead
  dsimp only
  rw [if_neg (by omega), if_pos h16, if_pos h16]
  rfl

theorem errlogRead_lost (h : 16 < modDist 16 (s.log p).writeSeq (s.log p).readSeq) :
    errlogRead s p = (errlogMoved s p (((s.log p).writeSeq + 2 ^ 16 - 16) % 2 ^ 16),
      putField (SMap.getD (s.log p).ring 0 (((s.log p).writeSeq + 2 ^ 16 - 16) % 2 ^ 16 % 16)).toNat 13 1 1) := by
  unfold errlogRead
  dsimp only
  rw [if_neg (by omega), if_neg (by omega), if_neg (by omega)]
  rfl

end

/-- A read of ERRLOG_DATA by a command leaves the state and answers the word of the log. -/
theorem exec_errlogDataRead {s s1 t : State} {n : Fin 5120} {who : Requester} {p : Page} {e : Nat}
    (h : busCheck s (0x1000 * n.val + 0x028) who false 0 = (s1, .ok p)) (hread : errlogRead (seenBy s who) p = (t, e)) :
    exec (.errlogDataRead n who) s = .next t ∧ (busRead s (0x1000 * n.val + 0x028) who).2 = .value e := by
  have hbus : busRead s (0x1000 * n.val + 0x028) who = (t, .value e) := by
    rw [busRead_of_ok h, pageOff n.val 0x028 (by decide) (by decide), pageRead_errlog, hread]
  refine ⟨?_, by rw [hbus]⟩
  show Host.Outcome.next (busRead s (0x1000 * n.val + 0x028) who).1 = _
  rw [hbus]

/-! ### OWNER (R393) -/

theorem pageWrite_owner (s : State) (p : Page) (who : Requester) (v t : Nat) : pageWrite s p who 0x040 v t = ownerTake s p who v := rfl

theorem log_logReq_writeSeq (s : State) (p : Page) (kind : Nat) (who : Requester) (w : Bool) (off : Nat) :
    ((s.logReq p kind who w off).log p).writeSeq = wrapSucc 16 (s.log p).writeSeq := congrArg ErrLog.writeSeq (SMap.getD_set_self _ _ _ _)

/-- An access refused at a page that is there and whose domain is up. -/
theorem busCheck_denied {s : State} {off v : Nat} {who : Requester} {w : Bool} {p : Page} (hpage : pageAt off = some p) (hwho : who ≠ .periscope)
    (hup : s.domainUp p.domain = true) (h : s.admits p who = false ∨ (w = true ∧ off % 0x1000 = 0x040 ∧ secure who = false)) :
    busCheck s off who w v = (s.logReq p kindOwnership who w (off % 0x1000), .error .denied) := by
  have hper : (who == Requester.periscope) = false := beq_false_of_ne hwho
  unfold busCheck
  rw [hpage]
  dsimp only
  rw [hper, Bool.false_and, Bool.false_and, if_neg Bool.false_ne_true, if_neg Bool.false_ne_true, hup, if_neg (by decide)]
  refine if_pos ?_
  rcases h with h | ⟨hw, hoff, hsec⟩
  · rw [h]
    rfl
  · rw [hw, hoff, hsec]
    simp

theorem busWrite_of_error {s t : State} {off v : Nat} {who : Requester} {a : BusAns} (h : busCheck s off who true v = (t, .error a)) :
    busWrite s off who v = (t, a) := by
  unfold busWrite busWriteAt
  rw [h]

theorem busRead_of_error {s t : State} {off : Nat} {who : Requester} {a : BusAns} (h : busCheck s off who false 0 = (t, .error a)) :
    busRead s off who = (t, a) := by
  unfold busRead
  rw [h]

theorem exec_registerWrite (s : State) (word : Fin 5242880) (who : Requester) (v : Word) :
    exec (.registerWrite word who v) s = .next (busWrite s (4 * word.val) who v.toNat).1 := rfl

/-! ### Registers without a behaviour of their own (R9, R385) -/

theorem onlyIn_keepSeed (s : State) (id : CoreId) (t : Nat) : OnlyIn s (s.keepSeed id t) [.opes] := by
  unfold State.keepSeed
  dsimp only
  split
  · split
    · exact (OnlyIn.refl s).mono (by decide)
    · exact (OnlyIn.refl s).putOpes
  · exact (OnlyIn.refl s).putOpes

/-- The blocks whose registers have no behaviour beyond the table. -/
def plainBlocks : List Block := [.ope, .drn, .tst, .vec, .scl, .pool, .dir, .mov, .hbc, .hbp, .mesh, .mck, .crsUnit, .spy]

/-- What an OPE page keeps of its seed before the write of one of its halves. -/
def seedKept (s : State) (p : Page) (off t : Nat) : State :=
  if p.block = .ope ∧ (off = 0x110 ∨ off = 0x114) then s.keepSeed p.coreId t else s

theorem onlyIn_seedKept (s : State) (p : Page) (off t : Nat) :
    OnlyIn s (seedKept s p off t) (if p.block = .ope ∧ (off = 0x110 ∨ off = 0x114) then [.opes] else []) := by
  unfold seedKept
  split
  · exact onlyIn_keepSeed s p.coreId t
  · exact .refl s

theorem seedKept_of_ne (s : State) {p : Page} (off t : Nat) (h : p.block ≠ .ope) : seedKept s p off t = s := if_neg fun hand => h hand.1

theorem blockWrite_plain (s : State) {p : Page} (who : Requester) (off v t : Nat) (h : p.block ∈ plainBlocks) :
    blockWrite s p who off v t = tableWrite (seedKept s p off t) p who off v := by
  by_cases hope : p.block = .ope
  · unfold blockWrite seedKept
    rw [hope]
    simp
  · rw [seedKept_of_ne s off t hope]
    unfold blockWrite
    generalize p.block = b at h hope
    simp only [plainBlocks, List.mem_cons, hope, false_or, List.not_mem_nil, or_false] at h
    rcases h with rfl | rfl | rfl | rfl | rfl | rfl | rfl | rfl | rfl | rfl | rfl | rfl | rfl <;> rfl

theorem tableWrite_listed (s : State) {p : Page} (who : Requester) {off v : Nat} {r : RegSpec} (hspec : p.block.spec off = some r) (hwo : r.wo = 0)
    (hany : r.rw ≠ 0 ∨ r.w1c ≠ 0 ∨ r.w1s ≠ 0) : tableWrite s p who off v =
      s.setReg p off ((((s.reg p off &&& ~~~(BitVec.ofNat 32 r.rw)) ||| (BitVec.ofNat 32 v &&& BitVec.ofNat 32 r.rw)) &&&
        ~~~(BitVec.ofNat 32 v &&& BitVec.ofNat 32 r.w1c)) ||| (BitVec.ofNat 32 v &&& BitVec.ofNat 32 r.w1s)) := by
  unfold tableWrite
  rw [hspec]
  unfold plainWrite
  dsimp only
  rw [if_neg (not_not.mpr hwo), if_neg (by omega)]

theorem tableWrite_reserved (s : State) {p : Page} (who : Requester) {off : Nat} (v : Nat) (hspec : p.block.spec off = none) :
    tableWrite s p who off v = s.logReq p kindReserved who true off := by
  unfold tableWrite
  rw [hspec]

/-- A reserved offset is none of the halves of the seed. -/
theorem seedKept_reserved (s : State) {p : Page} {off : Nat} (t : Nat) (hspec : p.block.spec off = none) : seedKept s p off t = s := by
  refine if_neg ?_
  rintro ⟨hope, hoff⟩
  rw [hope] at hspec
  rcases hoff with rfl | rfl
  · exact absurd hspec (by decide)
  · exact absurd hspec (by decide)

/-- A write by a command to a register without a behaviour of its own. -/
theorem exec_registerWrite_plain {s s1 : State} {word : Fin 5242880} {who : Requester} {v : Word} {p : Page}
    (h : busCheck s (4 * word.val) who true v.toNat = (s1, .ok p)) (hoff : 0x100 ≤ 4 * word.val % 0x1000)
    (hdebug : isDebug p (4 * word.val % 0x1000) = false) (hblock : p.block ∈ plainBlocks) : ∃ t, exec (.registerWrite word who v) s =
      .next (tableWrite (seedKept (seenBy s who) p (4 * word.val % 0x1000) t) p who (4 * word.val % 0x1000) v.toNat) := by
  refine ⟨cycleAt s (4 * word.val), ?_⟩
  have h4 : 4 * word.val % 0x1000 / 4 * 4 = 4 * word.val % 0x1000 := by omega
  rw [exec_registerWrite, busWrite_of_ok h, h4, pageWrite_block _ _ _ _ _ hoff hdebug, blockWrite_plain _ _ _ _ _ hblock]

theorem pageRegisters : Sys2Proof.Claims.PageRegisters := by
  intro s s1 n who v p at_ sel
  refine ⟨fun h => iset_sets h, fun h => ?_, fun h => ?_, fun h => ?_, fun h => ⟨fun hfree => ?_, fun hlocked => ?_⟩, fun hpage hup hsec => ?_,
    fun word h hoff hdebug hblock => ⟨fun r hspec hwo hany => ?_, fun hspec => ?_⟩⟩
  · obtain ⟨t, ht⟩ := busWrite_common (by decide) (by decide) h
    rw [pageWrite_cntSel] at ht
    refine ⟨fun hbit => ?_, fun hbit hk => ⟨fun hsend hrank => ?_, ?_, ?_⟩, fun hbit hk => ?_⟩
    · refine ⟨_, congrArg Host.Outcome.next (ht.trans (cntSelWrite_sel _ _ _ hbit)), (OnlyIn.refl s).seenBy.setRegN.mono (by decide), ?_⟩
      rw [State.regN_setRegN_self]
      omega
    · have hclear := (cntSelWrite_clear (seenBy s who) p who hbit hk).trans (clearCounter_other _ hsend hrank)
      exact ⟨_, congrArg Host.Outcome.next (ht.trans hclear), (OnlyIn.refl s).seenBy.setRegN.putCounters.mono (by decide), counterGone_counter _ _ _⟩
    · rintro ⟨hope, hzero⟩
      have hclear := cntSelWrite_clear (seenBy s who) p who hbit hk
      rw [hzero, clearCounter_rank _ hope] at hclear
      refine ⟨_, congrArg Host.Outcome.next (ht.trans hclear), (OnlyIn.refl s).seenBy.setRegN.putCounters.putOpes.mono (by decide), ?_, ?_⟩
      · exact counterGone_counter _ _ _
      · rw [State.ope_setOpe, if_pos rfl]
        show issuedAhead (((seenBy s who).setRegN p 0x030 0).ope p.coreId) (((seenBy s who).setRegN p 0x030 0).core p.coreId).now = _
        exact seenBy_keep s who (fun r : State => issuedAhead (r.ope p.coreId) (r.core p.coreId).now) fun _ => rfl
    · rintro ⟨hjgl, hone⟩
      have hclear := cntSelWrite_clear (seenBy s who) p who hbit hk
      rw [hone] at hclear
      obtain ⟨hcount, honly⟩ := clearCounter_send_counter ((seenBy s who).setRegN p 0x030 1) hjgl
      refine ⟨_, congrArg Host.Outcome.next (ht.trans hclear), (((OnlyIn.refl s).seenBy.setRegN).trans honly).mono (by decide), ?_⟩
      refine hcount.trans (congrArg (min · counterMax) ?_)
      exact seenBy_keep s who (fun r : State => (r.core p.coreId).sendAhead (r.core p.coreId).now) fun _ => rfl
    · have hlog := cntSelWrite_cycles (seenBy s who) p who hbit hk
      refine ⟨_, congrArg Host.Outcome.next (ht.trans hlog), (OnlyIn.refl s).seenBy.setRegN.logReq.mono (by decide), ?_⟩
      rw [log_logReq_writeSeq]
      exact congrArg (fun l : ErrLog => wrapSucc 16 l.writeSeq) (seenBy_log s who p)
  · have hbus : busRead s (at_ 0x034) who = ((cntLoRead (seenBy s who) p who).1, .value (cntLoRead (seenBy s who) p who).2) := by
      rw [busRead_of_ok h, pageOff n.val 0x034 (by decide) (by decide), pageRead_cntLo]
    have hnow : (seenBy s who).counterNow p (field ((seenBy s who).regN p 0x030) 7 0) = s.counterNow p sel := by
      rw [seenBy_regN, seenBy_counterNow]
    refine ⟨_, congrArg Host.Outcome.next (congrArg Prod.fst hbus), (OnlyIn.refl s).seenBy.putSnaps.mono (by decide), ?_, ?_, counterNow_of_event s⟩
    · rw [hbus, cntLoRead, hnow]
    · rw [cntLoRead, hnow]
      exact SMap.getD_set_self _ _ _ _
  · have hlog : (seenBy s who).log p = s.log p := seenBy_log s who p
    refine ⟨fun hd => ?_, fun h1 h16 => ?_, fun hd => ?_⟩
    · obtain ⟨hexec, hans⟩ := exec_errlogDataRead h (errlogRead_empty (seenBy s who) p (by rw [hlog]; exact hd))
      exact ⟨_, hexec, (OnlyIn.refl s).seenBy, hans⟩
    · obtain ⟨hexec, hans⟩ := exec_errlogDataRead h (errlogRead_held (seenBy s who) p (by rw [hlog]; exact h1) (by rw [hlog]; exact h16))
      rw [hlog] at hans
      have hmoved := errlogMoved_log (seenBy s who) p ((seenBy s who).log p).readSeq
      rw [hlog] at hmoved hexec
      exact ⟨_, hexec, (OnlyIn.refl s).seenBy.putLogs.mono (by decide), hans, by rw [hmoved]; rfl, by rw [hmoved], by rw [hmoved]⟩
    · obtain ⟨hexec, hans⟩ := exec_errlogDataRead h (errlogRead_lost (seenBy s who) p (by rw [hlog]; exact hd))
      have hmoved := errlogMoved_log (seenBy s who) p ((((seenBy s who).log p).writeSeq + 2 ^ 16 - 16) % 2 ^ 16)
      rw [hlog] at hmoved hexec
      refine ⟨_, _, hexec, (OnlyIn.refl s).seenBy.putLogs.mono (by decide), hans, ?_, by rw [hmoved]; rfl⟩
      rw [bitAt_putField _ _ _ (by decide), if_pos (by decide)]
      rfl
  · obtain ⟨t, ht⟩ := busWrite_common (by decide) (by decide) h
    have htake : ownerTake (seenBy s who) p who v.toNat = (seenBy s who).setRegN p 0x040 (field v.toNat 31 30 * 2 ^ 30 + field v.toNat 3 0) :=
      if_neg (by rw [seenBy_keep s who (State.owner · p) fun _ => rfl, hfree]; exact Bool.false_ne_true)
    refine ⟨_, congrArg Host.Outcome.next (ht.trans htake), (OnlyIn.refl s).seenBy.setRegN.mono (by decide), ?_⟩
    rw [State.regN_setRegN_self, field, field]
    omega
  · obtain ⟨t, ht⟩ := busWrite_common (by decide) (by decide) h
    have htake : ownerTake (seenBy s who) p who v.toNat = (seenBy s who).logReq p kindOwnership who true 0x040 :=
      if_pos (by rw [seenBy_keep s who (State.owner · p) fun _ => rfl, hlocked])
    exact ⟨_, congrArg Host.Outcome.next (ht.trans htake), (OnlyIn.refl s).seenBy.logReq.mono (by decide)⟩
  · have hwho : who ≠ .periscope := fun h => by rw [h] at hsec; exact absurd hsec (by decide)
    have hdenied := busCheck_denied (v := v.toNat) (w := true) hpage hwho hup (.inr ⟨rfl, by show (0x1000 * n.val + 0x040) % 0x1000 = _; omega, hsec⟩)
    refine ⟨_, congrArg Host.Outcome.next (congrArg Prod.fst (busWrite_of_error hdenied)), (OnlyIn.refl s).logReq.mono (by decide), ?_⟩
    exact log_logReq_writeSeq _ _ _ _ _ _
  · obtain ⟨t, ht⟩ := exec_registerWrite_plain h hoff hdebug hblock
    rw [tableWrite_listed _ who hspec hwo hany, BitVec.ofNat_toNat, BitVec.setWidth_eq] at ht
    have hkept := onlyIn_seedKept (seenBy s who) p (4 * word.val % 0x1000) t
    have hregs : (seedKept (seenBy s who) p (4 * word.val % 0x1000) t).regs = (seenBy s who).regs := hkept .regs (by split <;> decide)
    have hreg : (seedKept (seenBy s who) p (4 * word.val % 0x1000) t).reg p (4 * word.val % 0x1000) = s.reg p (4 * word.val % 0x1000) := by
      rw [State.reg_congr hregs, seenBy_reg]
    refine ⟨_, ht, ?_, ?_⟩
    · refine (((OnlyIn.refl s).seenBy.trans hkept).setReg).mono fun q hq => ?_
      revert hq
      split
      · revert q; decide
      · revert q; decide
    · rw [State.reg_setReg_self, hreg]
  · obtain ⟨t, ht⟩ := exec_registerWrite_plain h hoff hdebug hblock
    rw [tableWrite_reserved _ who _ hspec, seedKept_reserved _ _ hspec] at ht
    refine ⟨_, ht, (OnlyIn.refl s).seenBy.logReq.mono (by decide), ?_⟩
    rw [log_logReq_writeSeq, seenBy_log]

theorem busCheck_absent {s : State} {off v : Nat} {who : Requester} {w : Bool} (h : pageAt off = none ∨ (who = .periscope ∧ s.sec.session = none)) :
    busCheck s off who w v = (s, .error .absent) := by
  unfold busCheck
  dsimp only
  split
  · rfl
  · rename_i p hp
    obtain ⟨hwho, hnone⟩ := h.resolve_left fun hn => nomatch hp.symm.trans hn
    rw [hwho, hnone]
    rfl

theorem busCheck_down {s : State} {off v : Nat} {who : Requester} {w : Bool} {p : Page} (hpage : pageAt off = some p) (hwho : who ≠ .periscope)
    (hdown : s.domainUp p.domain = false) : busCheck s off who w v = (s.bump clkPage 3, .error .down) := by
  have hper : (who == Requester.periscope) = false := beq_false_of_ne hwho
  unfold busCheck
  rw [hpage]
  dsimp only
  rw [hper, Bool.false_and, if_neg Bool.false_ne_true, if_neg Bool.false_ne_true, hdown]
  rfl

theorem log_logReq_entry (s : State) (p : Page) (kind : Nat) {who : Requester} (off : Nat) (hsec : secure who = false) :
    SMap.getD ((s.logReq p kind who true off).log p).ring 0 ((s.log p).writeSeq % 16) = BitVec.ofNat 32 (kind * 2 ^ 28 + sourceCode who * 2 ^ 24 +
      s.reqPart who * 2 ^ 22 + reqCluster who * 2 ^ 16 + 2 ^ 12 + off % 0x1000) := by
  have hlog : (s.logReq p kind who true off).log p = _ := SMap.getD_set_self _ _ _ _
  rw [hlog, hsec]
  exact (SMap.getD_set_self _ _ _ _).trans (by rw [if_neg Bool.false_ne_true, b2n, if_pos rfl, Nat.one_mul])

theorem refusedAccesses : Sys2Proof.Claims.RefusedAccesses := by
  intro s word who v off
  have hnone (h : pageAt off = none ∨ (who = .periscope ∧ s.sec.session = none)) : exec (.registerWrite word who v) s = .next s ∧
      (busWrite s off who v.toNat).2 = .absent ∧ busRead s off who = (s, .absent) := by
    have hwrite := busWrite_of_error (busCheck_absent (v := v.toNat) (w := true) h)
    refine ⟨?_, by rw [hwrite], busRead_of_error (busCheck_absent h)⟩
    rw [exec_registerWrite, hwrite]
  refine ⟨fun h => hnone (.inl h), fun hwho hsession => hnone (.inr ⟨hwho, hsession⟩), fun p hpage hwho => ⟨fun hdown => ?_, fun hup hadmits => ?_⟩⟩
  · have hwrite := busWrite_of_error (busCheck_down (v := v.toNat) (w := true) hpage hwho hdown)
    refine ⟨?_, by rw [hwrite], busRead_of_error (busCheck_down hpage hwho hdown)⟩
    rw [exec_registerWrite, hwrite]
  · have hsec : secure who = false := by
      unfold State.admits at hadmits
      exact (Bool.or_eq_false_iff.mp hadmits).1
    have hwrite := busWrite_of_error (busCheck_denied (v := v.toNat) (w := true) hpage hwho hup (.inl hadmits))
    refine ⟨_, by rw [exec_registerWrite, hwrite], (OnlyIn.refl s).logReq, by rw [hwrite], log_logReq_writeSeq _ _ _ _ _ _, ?_, fun q hq => ?_⟩
    · rw [log_logReq_entry _ _ _ _ hsec, Nat.mod_mod]
    · exact SMap.getD_set_ne _ _ _ hq

/-- Settles O46: the common registers by their offset, the plain ones through the table, and the answers of the checks. -/
theorem pages : Obligations.Pages := ⟨pageRegisters, refusedAccesses⟩

end Sys2Proof.Machine
end

section
/-! SUPPORT. Reads and writes of device memory by units (R193, R198): what they can touch. -/

namespace Sys2Proof.Machine

/-- What an access of memory can touch. -/
def memParts : List Part := [.regs, .logs, .counters, .mem]

/-- An access that tells no one of its outcome but the unit that reads. -/
def HeldOp.plain : HeldOp → Prop
  | .read _ _ _ => True
  | .write _ _ _ _ who => who = none
  | .store r => ∃ side off len v bad, r.op = .bytes none side off len v bad
  | _ => False

section
variable (s : State)

theorem mems_refl : OnlyIn s s memParts := (OnlyIn.refl s).mono (by decide)

theorem mems_trans {s t r : State} (h : OnlyIn s t memParts) (g : OnlyIn t r memParts) : OnlyIn s r memParts := (h.trans g).mono (by decide)

theorem mems_stashServe (c : Nat) {r : StashReq} (h : HeldOp.plain (.store r)) : OnlyIn s (stashServe s c r).1 memParts := by
  obtain ⟨side, off, len, v, bad, hop⟩ := h
  have haccept := onlyIn_stashAccept s c r.depth
  unfold stashServe
  dsimp only
  generalize stashAccept s c r.depth = a at haccept ⊢
  obtain ⟨s1, ans⟩ := a
  rw [hop]
  cases ans with
  | spill => exact mems_refl s
  | lend => exact mems_refl s
  | moving => exact mems_refl s
  | refused => exact OnlyIn.mono haccept (by decide)
  | home => exact (haccept.trans (onlyIn_serveWrite s1 _ _ _ _ _ _)).mono (by decide)

theorem mems_readHome (t addr len : Nat) : OnlyIn s (readHome s t addr len).1 memParts := by
  unfold readHome
  split
  · split
    · exact (onlyIn_serveRead s t _ _ len).mono (by decide)
    · exact mems_refl s
  · exact mems_refl s

theorem mems_performHeld {h : Held} (hop : h.op.plain) : OnlyIn s (performHeld s h).1 memParts := by
  obtain ⟨agent, tile, op⟩ := h
  unfold performHeld
  cases op with
  | store r =>
    dsimp only
    split
    · exact mems_stashServe s _ hop
    · exact mems_refl s
  | write addr len v bad who =>
    obtain rfl : who = none := hop
    dsimp only
    split
    · exact mems_refl s
    · split
      · split
        · exact (onlyIn_serveWrite s _ _ _ _ _ _).mono (by decide)
        · exact mems_refl s
      · exact mems_refl s
  | read key addr len =>
    dsimp only
    split
    · exact mems_refl s
    · exact (OnlyIn.putMem (mems_readHome s tile addr len)).mono (by decide)
  | atomic a => exact hop.elim
  | fetchAdd n a => exact hop.elim
  | load core x => exact hop.elim
  | fetch core sc seq at_ side => exact hop.elim

theorem mems_joined (h : Held) : OnlyIn s (joined s h) memParts :=
  (OnlyIn.ite (OnlyIn.refl s).putMem.bump (.ite (OnlyIn.refl s).putMem.bump (OnlyIn.refl s).putMem)).mono (by decide)

theorem mems_hold {h : Held} (hop : h.op.plain) : OnlyIn s (s.hold h) memParts := by
  have htold : holdTold s h = (s, h) := by
    obtain ⟨agent, tile, op⟩ := h
    unfold holdTold
    cases op with
    | write addr len v bad who =>
      obtain rfl : who = none := hop
      rfl
    | store r => rfl
    | read key addr len => rfl
    | atomic a => rfl
    | fetchAdd n a => rfl
    | load core x => rfl
    | fetch core sc seq at_ side => rfl
  rw [hold_eq, htold]
  exact mems_joined s h

theorem mems_arrive {h : Held} (hop : h.op.plain) : OnlyIn s (arrive s h) memParts := by
  unfold arrive
  split
  · exact (OnlyIn.refl s).putMem.mono (by decide)
  · have haccept : OnlyIn s (s.accept h.tile) memParts := (onlyIn_accept s h.tile).mono (by decide)
    dsimp only
    split
    · exact mems_trans haccept (mems_hold _ hop)
    · have hperform := mems_performHeld (s.accept h.tile) hop
      generalize performHeld (s.accept h.tile) h = a at hperform ⊢
      obtain ⟨t, done⟩ := a
      cases done with
      | true => exact mems_trans haccept hperform
      | false => exact mems_trans haccept (mems_trans hperform (mems_hold t hop))

theorem mems_submit (key : UnitKey) (a n : Nat) {op : HeldOp} (hop : op.plain) : OnlyIn s (submit s key a n op) memParts := by
  unfold submit
  split
  · split
    · exact mems_refl s
    · split
      · obtain rfl := hop
        exact mems_arrive s ⟨_, _, _, _, _, rfl⟩
      · exact mems_arrive s hop
  · exact mems_refl s

theorem mems_askFor (key : UnitKey) (part : Option Nat) (a n : Nat) : OnlyIn s (s.askFor key part a n) memParts := by
  unfold State.askFor
  split
  · exact mems_refl s
  · exact OnlyIn.foldl (fun t (p : Nat × Nat × Nat) => mems_submit t key p.1 p.2.1 (op := .read key p.1 p.2.1) trivial) s _

theorem mems_logUnreached (key : UnitKey) (part : Option Nat) (write : Bool) (a n : Nat) : OnlyIn s (logUnreached s key part write a n) memParts := by
  have hlog (c : Nat) : OnlyIn s (match (accessPieces a n).find? (fun p => match spotOf p.1 with | .system _ => true | _ => false) with
      | some p => logSystemUnit s part c write p.1
      | none => s) memParts := by
    split
    · exact (OnlyIn.refl s).logWord.mono (by decide)
    · exact mems_refl s
  unfold logUnreached
  cases key with
  | talel n => exact mems_refl s
  | row c => exact hlog c
  | train => exact hlog 0

theorem mems_unitRead (key : UnitKey) (part : Option Nat) (a n : Nat) : OnlyIn s (unitRead s key part a n).1 memParts := by
  unfold unitRead
  split
  · exact mems_logUnreached s key part false a n
  · have hask := mems_askFor s key part a n
    dsimp only
    generalize s.askFor key part a n = t at hask
    unfold takeOutcome
    dsimp only
    split
    · rename_i hsome
      split at hsome
      · obtain ⟨rfl, -⟩ := Prod.mk.inj (Option.some.inj hsome)
        exact OnlyIn.mono (OnlyIn.putMem hask) (by decide)
      · cases hsome
    · exact hask

theorem mems_takeRead {key : UnitKey} {part : Option Nat} {a n v : Nat} {bad : Bool} {t : State}
    (h : takeRead s key part a n = some (t, v, bad)) : OnlyIn s t memParts := by
  have hread := mems_unitRead s key part a n
  unfold takeRead at h
  generalize unitRead s key part a n = r at hread h
  obtain ⟨s', x⟩ := r
  cases x with
  | none => cases h
  | some x =>
    obtain ⟨rfl, -⟩ := Prod.mk.inj (Option.some.inj h)
    exact hread

theorem mems_unitPost (key : UnitKey) (part : Option Nat) (a n v : Nat) (bad : Bool) : OnlyIn s (unitPost s key part a n v bad none) memParts := by
  unfold unitPost
  dsimp only
  have hlogged : OnlyIn s (if reachesAll s part a n then s else logUnreached s key part true a n) memParts :=
    (OnlyIn.ite (mems_refl s) (mems_logUnreached s key part true a n)).mono (by decide)
  refine mems_trans hlogged (OnlyIn.foldl (fun t p => ?_) _ _)
  split
  · split
    · exact mems_refl t
    · split
      · exact mems_arrive t ⟨_, _, _, _, _, rfl⟩
      · exact mems_arrive t rfl
  · exact mems_refl t

theorem mems_trainWrite (a n v : Nat) : OnlyIn s (trainWrite s a n v) memParts := mems_unitPost s .train _ a n v false

theorem mems_trainAsk (a n : Nat) : OnlyIn s (trainAsk s a n) memParts := mems_askFor s .train _ a n

end

/-! ### Readings -/

/-- A reading that leaves all but what an access of memory can touch. -/
def Quiet {α : Type} (m : Reading α) : Prop := ∀ s v t, m s = .ok (v, t) → OnlyIn s t memParts

theorem quiet_pure {α : Type} (v : α) : Quiet (pure v : Reading α) := by
  intro s w t h
  obtain ⟨-, rfl⟩ := Prod.mk.inj (Except.ok.inj h)
  exact mems_refl s

theorem quiet_get : Quiet (get : Reading State) := by
  intro s w t h
  obtain ⟨-, rfl⟩ := Prod.mk.inj (Except.ok.inj h)
  exact mems_refl s

/-- What a reading that succeeds has read and what it went on with. -/
theorem reading_bind_ok {α β : Type} {m : Reading α} {f : α → Reading β} {s t : State} {w : β} (h : (m >>= f) s = .ok (w, t)) :
    ∃ v r, m s = .ok (v, r) ∧ f v r = .ok (w, t) := by
  cases hm : m s with
  | error e =>
    rw [show (m >>= f) s = .error e by show (m s >>= _) = _; rw [hm]; rfl] at h
    cases h
  | ok p =>
    refine ⟨p.1, p.2, rfl, ?_⟩
    rw [show (m >>= f) s = f p.1 p.2 by show (m s >>= _) = _; rw [hm]; rfl] at h
    exact h

theorem quiet_bind {α β : Type} {m : Reading α} {f : α → Reading β} (hm : Quiet m) (hf : ∀ v, Quiet (f v)) : Quiet (m >>= f) := by
  intro s w t h
  obtain ⟨v, r, h1, h2⟩ := reading_bind_ok h
  exact mems_trans (hm s v r h1) (hf v r w t h2)

theorem quiet_ite {α : Type} {c : Prop} [Decidable c] {a b : Reading α} (ha : Quiet a) (hb : Quiet b) : Quiet (if c then a else b) := by
  split
  · exact ha
  · exact hb

theorem quiet_trainRead (a n : Nat) : Quiet (trainRead a n) := by
  intro s v t h
  unfold trainRead at h
  split at h
  · cases h
  · rename_i hread
    obtain ⟨-, rfl⟩ := Prod.mk.inj (Except.ok.inj h)
    exact mems_takeRead s hread

theorem quiet_tableRead (a n : Nat) : Quiet (tableRead a n) := by
  intro s v t h
  unfold tableRead at h
  split at h
  · cases h
  · rename_i hread
    obtain ⟨-, rfl⟩ := Prod.mk.inj (Except.ok.inj h)
    have hmems := mems_takeRead s hread
    exact (OnlyIn.ite hmems.trigger hmems).mono (by decide)

end Sys2Proof.Machine
end

section
/-! OBLIGATIONS. Update batches and the update unit's registers (R291, R295-R298, R300). -/

namespace Sys2Proof.Machine

/-! ### What a batch reads (R295) -/

theorem quiet_readVals (a n : Nat) : Quiet (readVals a n) := quiet_bind (quiet_trainRead a (4 * n)) fun v => quiet_pure (unpackElems 0 v n)

theorem quiet_gatherBlocks {α : Type} {f : Nat → Reading (List α)} (hf : ∀ b, Quiet (f b)) (n b : Nat) : Quiet (gatherBlocks f n b) := by
  induction n generalizing b with
  | zero => exact quiet_pure []
  | succ n ih => exact quiet_bind (hf b) fun x => quiet_bind (ih (b + 1)) fun r => quiet_pure (x ++ r)

theorem quiet_gradBlock (x : UpdSlice) (i b : Nat) : Quiet (gradBlock x i b) := by
  unfold gradBlock
  refine quiet_bind quiet_get fun s => ?_
  dsimp only
  split
  · exact quiet_pure _
  · exact quiet_bind (quiet_trainRead _ _) fun e => quiet_bind (quiet_trainRead _ _) fun c => quiet_bind (quiet_trainRead _ _) fun v => quiet_pure _
  · exact quiet_bind (quiet_trainRead _ _) fun v => quiet_pure _

theorem quiet_lagValid (w : List Nat) (n0 step : Nat) : Quiet (lagValid w n0 step) :=
  quiet_bind (quiet_tableRead _ _) fun _ => quiet_bind (quiet_tableRead _ _) fun _ => quiet_pure _

theorem quiet_lagBlock (x : UpdSlice) (n0 i b : Nat) (lag : Bool) : Quiet (lagBlock x n0 i b lag) :=
  quiet_ite (quiet_bind (quiet_tableRead _ _) fun _ => quiet_bind (quiet_tableRead _ _) fun _ => quiet_bind (quiet_tableRead _ _) fun _ => quiet_pure _)
    (quiet_pure _)

theorem quiet_batchRead (x : UpdSlice) (i h : Nat) : Quiet (batchRead x i h) := by
  unfold batchRead
  refine quiet_bind quiet_get fun s => ?_
  refine quiet_bind (quiet_gatherBlocks (fun b => quiet_bind (quiet_gradBlock x i b) fun g => quiet_pure g.1) _ _) fun gs => ?_
  refine quiet_bind (quiet_gatherBlocks (fun b => quiet_readVals _ _) _ _) fun ws => ?_
  refine quiet_bind (quiet_ite (quiet_gatherBlocks (fun b => quiet_readVals _ _) _ _) (quiet_pure _)) fun s1 => ?_
  refine quiet_bind (quiet_ite (quiet_gatherBlocks (fun b => quiet_readVals _ _) _ _) (quiet_pure _)) fun s2 => ?_
  refine quiet_bind (quiet_lagValid _ _ _) fun lag => ?_
  exact quiet_bind (quiet_gatherBlocks (fun b => quiet_lagBlock _ _ _ _ _) _ _) fun vs => quiet_pure _

/-! ### BATCH_PUSH (R295) -/

theorem unitPush_pushIn (s : State) (core : Nat) (x : Ctx) (q src data : Nat) : (SMap.getD (unitPush s core x q src data).cores {} core).pushIn =
    (SMap.getD s.cores {} core).pushIn ++ [⟨x, q, src, BitVec.ofNat 512 data⟩] := by
  rw [show SMap.getD (unitPush s core x q src data).cores {} core = _ from SMap.getD_set_self _ _ _ _]
  cases x <;> rfl

/-- The entry of a batch (R295). -/
def batchEntry (tok : Nat) (x : UpdSlice) (i h slot : Nat) (lag : Bool) : Nat :=
  tok + 2 ^ 32 * slot + 2 ^ 40 * b2n lag + 2 ^ 48 * x.layer + 2 ^ 64 * x.tag.step + 2 ^ 80 * x.tag.bucket +
    2 ^ 96 * x.tag.slice + 2 ^ 112 * i + 2 ^ 128 * (512 * h) + 2 ^ 144 * batchCols x.words h + 2 ^ 160 * slotBase slot

/-- The batch that is outstanding. -/
def batchOut (tok tick i h core slot : Nat) (d : BatchData) : Batch :=
  ⟨tok, core, slot, i, h, tick, d.gs.map (·.isSome), d.ws.zip (d.s1.zip d.s2), false⟩

/-- The core whose slot a batch has filled. -/
def slotFilled (s : State) (x : UpdSlice) (core slot : Nat) (d : BatchData) : Core :=
  let c := SMap.getD s.cores {} core
  let areas := [d.gs.map (·.getD 0), d.ws, d.s1, d.s2, d.vs, List.replicate 512 x.eta]
  let store := areas.zipIdx.foldl (fun m a => Mem.write m (slotBase slot + 2048 * a.2) 2048 (packVals a.1)) c.store
  { c with store := store, marks := NSet.eraseRange c.marks (slotBase slot / 128) 96 }

theorem batchSend_eq (s : State) (n : Nat) (x : UpdSlice) (i h core slot : Nat) (d : BatchData) : batchSend s n x i h core slot d =
    (let r : State := { s with cores := SMap.set s.cores core (slotFilled s x core slot d) }
     let tok := r.upd.token
     let r := unitPush r core .u 0 srcUpdate (batchEntry tok x i h slot d.lag)
     let r := r.setSlice n { x with batch := x.batch + 1 }
     { r with upd := { r.upd with
        batches := r.upd.batches ++ [(n, batchOut tok r.tick i h core slot d)]
        token := (tok + 1) % 2 ^ 32
        turns := SMap.set r.upd.turns (lCluster x.words) ((core % 7 - 2 + 1) % 4) } }) := by
  unfold batchSend slotFilled batchEntry batchOut
  with_reducible rfl

theorem batchSend_pushIn (s : State) (n : Nat) (x : UpdSlice) (i h core slot : Nat) (d : BatchData) :
    (SMap.getD (batchSend s n x i h core slot d).cores {} core).pushIn =
      (SMap.getD s.cores {} core).pushIn ++ [⟨.u, 0, 280, BitVec.ofNat 512 (batchEntry s.upd.token x i h slot d.lag)⟩] := by
  have hkept : (SMap.getD (SMap.set s.cores core (slotFilled s x core slot d)) {} core).pushIn = (SMap.getD s.cores {} core).pushIn := by
    rw [SMap.getD_set_self, slotFilled]
  rw [batchSend_eq]
  refine (unitPush_pushIn { s with cores := SMap.set s.cores core (slotFilled s x core slot d) } core .u 0 srcUpdate _).trans ?_
  exact congrArg (· ++ _) hkept

/-- The update unit after the push. -/
def batchNoted (u : Update) (n : Nat) (x : UpdSlice) (b : Batch) (core : Nat) : Update :=
  { u with
    slices := SMap.set u.slices n { x with batch := x.batch + 1 }
    batches := u.batches ++ [(n, b)]
    token := (u.token + 1) % 2 ^ 32
    turns := SMap.set u.turns (lCluster x.words) ((core % 7 - 2 + 1) % 4) }

theorem batchSend_upd (s : State) (n : Nat) (x : UpdSlice) (i h core slot : Nat) (d : BatchData) :
    (batchSend s n x i h core slot d).upd = batchNoted s.upd n x (batchOut s.upd.token s.tick i h core slot d) core := by
  rw [batchSend_eq]
  rfl

theorem onlyIn_batchSend (s : State) (n : Nat) (x : UpdSlice) (i h core slot : Nat) (d : BatchData) :
    OnlyIn s (batchSend s n x i h core slot d) [.upd, .cores] := by
  have hslot {c : Core} : OnlyIn s (unitPush { s with cores := SMap.set s.cores core c } core .u 0 srcUpdate (batchEntry s.upd.token x i h slot d.lag)) [.cores] :=
    (OnlyIn.refl s).putCores.putCores.mono (by decide)
  exact (OnlyIn.putUpd (OnlyIn.putUpd hslot)).mono (by decide)

theorem batchPush_of_ready {s s2 : State} {n : Nat} {x : UpdSlice} {core slot : Nat} {d : BatchData} (hx : SMap.get s.upd.slices n = some x)
    (hadmitted : x.admitted = true) (hrule : x.rule = 4) (hbatch : x.batch < batchesOf x.words)
    (hlines : x.batch + 1 = batchesOf x.words → 256 * blocks x.words ≤ x.line) (hroom : s.upd.batches.length < 128)
    (hpick : pickCore s x.words = some (core, slot)) (hread : batchRead x (x.batch / halves x.words) (x.batch % halves x.words) s = .ok (d, s2)) :
    batchPush s n = batchSend s2 n x (x.batch / halves x.words) (x.batch % halves x.words) core slot d := by
  have hgo : ¬ ((!x.admitted || x.rule != 4 || decide (batchesOf x.words ≤ x.batch) ||
      (decide (x.batch + 1 = batchesOf x.words) && decide (x.line < 256 * blocks x.words)) || decide (128 ≤ s.upd.batches.length)) = true) := by
    have hlines' := Decidable.not_or_of_imp hlines
    simp only [hadmitted, hrule, Bool.or_eq_true, Bool.and_eq_true, decide_eq_true_eq, Bool.not_true, Bool.false_eq_true, bne_self_eq_false, false_or]
    omega
  unfold batchPush
  rw [hx]
  dsimp only
  rw [if_neg hgo, hpick]
  dsimp only
  unfold whenRead
  rw [hread]

/-! ### The end of a batch (R297, R298) -/

theorem onlyIn_nonFiniteMade (s : State) (n : Nat) : OnlyIn s (nonFiniteMade s n) [.regs, .logs, .counters] := by
  unfold nonFiniteMade
  exact (OnlyIn.ite (OnlyIn.refl s) (OnlyIn.refl s).raise.bumpBy).mono (by decide)

/-- The results of a batch, and how many were not finite. -/
def batchKept (k : Batch) (new : Option (List (Nat × Nat × Nat))) : List (Nat × Nat × Nat) × Nat :=
  match new with
  | some v => batchResult k.present k.old v
  | none => (k.old, 0)

/-- A tensor of a batch put in the state block, if the layer keeps it. -/
def tensorPut (s : State) (x : UpdSlice) (k : Batch) (n0 t : Nat) (ok : Prop) [Decidable ok] (vs : List Nat) : State :=
  if ok then trainWrite s (tensorAddr x n0 t k.row (16 * k.half)) (4 * batchCols x.words k.half) (packVals vs) else s

/-- A slice's output buffer with a batch's results. -/
def batchStored (x : UpdSlice) (k : Batch) (rs : List (Nat × Nat × Nat)) : SMap Nat :=
  (List.range ((batchCols x.words k.half + 31) / 32)).foldl (fun o b =>
    SMap.set o (32 * k.row + 16 * k.half + b) (packVals (((rs.map (·.1)).drop (32 * b)).take 32))) x.out

theorem finishBatch_eq (s : State) (n : Nat) (x : UpdSlice) (k : Batch) (new : Option (List (Nat × Nat × Nat))) : finishBatch s n x k new =
    (let n0 := (s.bucket x.tag.step x.tag.bucket).sliceBase
     let rs := (batchKept k new).1
     let s := nonFiniteMade s (batchKept k new).2
     let s := tensorPut s x k n0 0 (lBf16 x.words = true ∧ new.isSome = true) (rs.map (·.1))
     let s := tensorPut s x k n0 1 (lS1 x.words = true ∧ new.isSome = true) (rs.map (fun r => r.2.1))
     let s := tensorPut s x k n0 2 (lS2 x.words = true ∧ new.isSome = true) (rs.map (fun r => r.2.2))
     s.setSlice n { x with out := batchStored x k rs, finished := x.finished + 1 }) := rfl

theorem mems_tensorPut (s : State) (x : UpdSlice) (k : Batch) (n0 t : Nat) (ok : Prop) [Decidable ok] (vs : List Nat) :
    OnlyIn s (tensorPut s x k n0 t ok vs) memParts := (OnlyIn.ite (mems_trainWrite s _ _ _) (mems_refl s)).mono (by decide)

/-- A batch that ends changes its slice, and what a write of memory can touch. -/
theorem finishBatch_slice (s : State) (n : Nat) (x : UpdSlice) (k : Batch) (new : Option (List (Nat × Nat × Nat))) :
    ∃ t, OnlyIn s t memParts ∧ finishBatch s n x k new =
      t.setSlice n { x with out := batchStored x k (batchKept k new).1, finished := x.finished + 1 } := by
  rw [finishBatch_eq]
  refine ⟨_, mems_trans (mems_trans (mems_trans ?_ (mems_tensorPut _ x k _ 0 _ _)) (mems_tensorPut _ x k _ 1 _ _)) (mems_tensorPut _ x k _ 2 _ _), rfl⟩
  exact (onlyIn_nonFiniteMade s _).mono (by decide)

/-- A batch that is given HOLD changes no memory. -/
theorem finishBatch_hold (s : State) (n : Nat) (x : UpdSlice) (k : Batch) :
    finishBatch s n x k none = s.setSlice n { x with out := batchStored x k k.old, finished := x.finished + 1 } := by
  have hnone (t : State) (n0 j : Nat) (ok : Prop) [Decidable ok] (vs : List Nat) :
      tensorPut t x k n0 j (ok ∧ (none : Option (List (Nat × Nat × Nat))).isSome = true) vs = t := if_neg fun h => nomatch h.2
  rw [finishBatch_eq]
  dsimp only
  rw [hnone, hnone, hnone]
  rfl

theorem dropBatch_upd (s : State) (tok : Nat) : (dropBatch s tok).upd = { s.upd with batches := s.upd.batches.filter (fun e => e.2.token != tok) } := rfl

section
variable {s : State} {tok n : Nat} {k : Batch}

theorem bdone_of_unknown (h : s.upd.batches.any (fun e => e.2.token == tok) = false) : bdone s tok = s.bump updPage 5 := by
  have hnone : s.upd.batches.find? (fun e => e.2.token == tok) = none := by
    rw [List.find?_eq_none]
    intro e he
    exact List.any_eq_false.mp h e he
  unfold bdone
  rw [hnone]

theorem bdone_of_late (h : s.upd.batches.find? (fun e => e.2.token == tok) = some (n, k)) (hlate : k.late = true) : bdone s tok = dropBatch s tok := by
  unfold bdone
  rw [h]
  exact if_pos hlate

/-- The results that a core has left in a batch's slot (R297). -/
def batchMade (s : State) (k : Batch) (cols : Nat) : List (Nat × Nat × Nat) :=
  let store := (SMap.getD s.cores {} k.core).store
  let area (j : Nat) : List Nat := unpackElems 0 (Mem.read store (slotBase k.slot + 2048 * j) (4 * cols)) cols
  (area 1).zip ((area 2).zip (area 3))

theorem bdone_of_batch {x : UpdSlice} (h : s.upd.batches.find? (fun e => e.2.token == tok) = some (n, k)) (hlate : k.late = false)
    (hx : SMap.get s.upd.slices n = some x) :
    bdone s tok = (dropBatch (finishBatch s n x k (some (batchMade s k (batchCols x.words k.half)))) tok).bump updPage 4 := by
  unfold bdone
  rw [h]
  refine (if_neg (by rw [hlate]; exact Bool.false_ne_true)).trans ?_
  rw [hx]
  rfl

/-- What the end of a batch leaves of the update unit. -/
theorem finishBatch_upd (s : State) (n : Nat) (x : UpdSlice) (k : Batch) (new : Option (List (Nat × Nat × Nat))) :
    (finishBatch s n x k new).upd.batches = s.upd.batches ∧ (SMap.get (finishBatch s n x k new).upd.slices n).map (·.finished) = some (x.finished + 1) := by
  obtain ⟨t, honly, heq⟩ := finishBatch_slice s n x k new
  rw [heq]
  have hupd : t.upd = s.upd := honly .upd (by decide)
  refine ⟨(congrArg Update.batches hupd :), ?_⟩
  rw [show SMap.get (t.setSlice n _).upd.slices n = _ from SMap.get_set_self _ _ _]
  rfl

theorem onlyIn_updError (s : State) (kind : Nat) (t : Tag) (layer : Nat) : OnlyIn s (updError s kind t layer) [.regs] :=
  (OnlyIn.ite (OnlyIn.refl s).record.setRegN (OnlyIn.refl s).record).mono (by decide)

/-- The state after a batch is given HOLD. -/
def batchHeld (s : State) (n : Nat) (x : UpdSlice) (k : Batch) : State :=
  let s := ((updError (s.setSlice n { x with out := batchStored x k k.old, finished := x.finished + 1 }) 3 x.tag x.layer).raise updPage 1).bump updPage 5
  { s with upd.batches := s.upd.batches.map (fun e => if e.2.token = k.token then (e.1, { e.2 with late := true }) else e) }

theorem batchTimeout_of_due {x : UpdSlice}
    (h : s.upd.batches.find? (fun e => !e.2.late && decide (e.2.since + max 1024 (s.regN updPage 0x118) ≤ s.tick)) = some (n, k))
    (hx : SMap.get s.upd.slices n = some x) : batchTimeout s = batchHeld s n x k := by
  unfold batchTimeout
  dsimp only
  rw [h]
  dsimp only
  rw [hx]
  dsimp only
  rw [finishBatch_hold]
  rfl

theorem batchTimeout_of_none (h : s.upd.batches = []) : batchTimeout s = s := by
  unfold batchTimeout
  rw [h]
  rfl

end

theorem batchHeld_facts (s : State) (n : Nat) (x : UpdSlice) (k : Batch) :
    (batchHeld s n x k).upd.batches = s.upd.batches.map (fun e => if e.2.token = k.token then (e.1, { e.2 with late := true }) else e) ∧
      (SMap.get (batchHeld s n x k).upd.slices n).map (·.finished) = some (x.finished + 1) ∧
      bitAt ((batchHeld s n x k).regN updPage 0x018) 1 = true ∧ (batchHeld s n x k).mem = s.mem := by
  obtain ⟨r, hr⟩ : ∃ r, r = s.setSlice n { x with out := batchStored x k k.old, finished := x.finished + 1 } := ⟨_, rfl⟩
  have hupd : (((updError r 3 x.tag x.layer).raise updPage 1).bump updPage 5).upd = r.upd := by
    rw [State.bump_upd, State.raise_upd]
    exact onlyIn_updError r 3 x.tag x.layer .upd (by decide)
  have hmem : (((updError r 3 x.tag x.layer).raise updPage 1).bump updPage 5).mem = r.mem := by
    rw [State.bump_mem, State.raise_mem]
    exact onlyIn_updError r 3 x.tag x.layer .mem (by decide)
  unfold batchHeld
  rw [← hr]
  refine ⟨?_, ?_, ?_, ?_⟩
  · refine (congrArg (fun u : Update => u.batches.map _) hupd).trans ?_
    rw [hr]
    rfl
  · refine (congrArg (fun u : Update => (SMap.get u.slices n).map (·.finished)) hupd).trans ?_
    rw [hr, show SMap.get (s.setSlice n _).upd.slices n = _ from SMap.get_set_self _ _ _]
    rfl
  · show bitAt ((((updError r 3 x.tag x.layer).raise updPage 1).bump updPage 5).regN updPage 0x018) 1 = true
    rw [State.regN_bump]
    exact State.bitAt_raise_self _ _ (by decide)
  · exact hmem.trans (by rw [hr]; rfl)

/-! ### The update unit's registers (R291, R300) -/

section
variable {s s1 : State} {who : Requester} {v : Word}

theorem writeReg_bdone (h : WriteReaches s s1 updPage 0x114 who v.toNat) : writeReg s updPage 0x114 who v = bdone s1 v.toNat := by
  rw [writeReg_of_reaches h (by decide) (by decide), pageWrite_block _ _ _ _ _ (by decide) rfl, ← h.eq_seenBy]
  rfl

theorem writeReg_etaNext (h : WriteReaches s s1 updPage 0x108 who v.toNat) : writeReg s updPage 0x108 who v = etaNextWrite (seenBy s who) v.toNat := by
  rw [writeReg_of_reaches h (by decide) (by decide), pageWrite_block _ _ _ _ _ (by decide) rfl]
  rfl

theorem writeReg_updEnable (h : WriteReaches s s1 updPage 0x010 who v.toNat) : writeReg s updPage 0x010 who v = updEnableWrite (seenBy s who) v.toNat := by
  rw [writeReg_of_reaches h (by decide) (by decide), pageWrite_ctrl _ _ _ _ _ rfl rfl]
  rfl

theorem writeReg_updLdata (h : WriteReaches s s1 updPage 0x124 who v.toNat) :
    writeReg s updPage 0x124 who v = tookCode (updLdataWrite (seenBy s who) v.toNat) updPage who 0x124 := by
  rw [writeReg_of_reaches h (by decide) (by decide), pageWrite_block _ _ _ _ _ (by decide) rfl]
  rfl

theorem busRead_updLdata (h : ReadReaches s s1 updPage 0x120 who) :
    busRead s (updPage.key 0x120) who = ((updLdataRead (seenBy s who)).1, .value (updLdataRead (seenBy s who)).2) := by
  rw [busRead_of_reaches h, h.eq_seenBy, updPage.key_mod (by decide)]
  rfl

end

/-- A word of the layer table taken. -/
def ldataTaken (s : State) (v : Nat) : State :=
  let key := 8 * field (s.regN updPage 0x11C) 9 0 + field (s.regN updPage 0x11C) 18 16
  { s.setRegN updPage 0x124 v with upd.table := SMap.set s.upd.table key (BitVec.ofNat 64 (v * 2 ^ 32 + s.regN updPage 0x120)) }

theorem ldataTaken_upd (s : State) (v : Nat) : (ldataTaken s v).upd = { s.upd with table := (ldataTaken s v).upd.table } := rfl

theorem updLdataWrite_taken {s : State} {v : Nat} (hoff : bitAt (s.regN updPage 0x010) 0 = false) (hsel : field (s.regN updPage 0x11C) 18 16 ≤ 5) :
    updLdataWrite s v = (ldataTaken s v, 0) := by
  unfold updLdataWrite
  dsimp only
  rw [if_neg (by rw [hoff]; exact Bool.false_ne_true), if_neg (by omega)]
  rfl

theorem updLdataWrite_refused {s : State} {v : Nat} (h : bitAt (s.regN updPage 0x010) 0 = true ∨ 5 < field (s.regN updPage 0x11C) 18 16) :
    updLdataWrite s v = (s, 1) ∨ updLdataWrite s v = (s, 2) := by
  unfold updLdataWrite
  dsimp only
  split
  · exact .inl rfl
  · exact .inr (if_pos (h.resolve_left ‹_›))

theorem updLdata_refuses {s s1 : State} {who : Requester} {v : Word} (hreach : WriteReaches s s1 updPage 0x124 who v.toNat)
    (h : bitAt (s.regN updPage 0x010) 0 = true ∨ 5 < field (s.regN updPage 0x11C) 18 16) :
    ∃ kind, writeReg s updPage 0x124 who v = (seenBy s who).logReq updPage kind who true 0x124 := by
  have hcode := updLdataWrite_refused (s := seenBy s who) (v := v.toNat) (by rw [seenBy_regN, seenBy_regN]; exact h)
  rw [writeReg_updLdata hreach]
  rcases hcode with hcode | hcode
  · exact ⟨kindIgnored, by rw [hcode]; rfl⟩
  · exact ⟨kindReserved, by rw [hcode]; rfl⟩

/-- Settles O42: a batch by the slice and the core that take it, its end by its token, and the registers by their writes. -/
theorem updateBatches : Obligations.UpdateBatches := by
  intro s s1 who v
  refine ⟨fun n x core slot d s2 hx hadmitted hrule hbatch hlines hroom hpick hread => ?_, fun hreach => ⟨fun hnone => ?_,
    fun n k hfind => ⟨fun hlate => ?_, fun x hlate hx => ?_⟩⟩, fun n k x hfind hx => ?_, fun hnone => congrArg Host.Outcome.next (batchTimeout_of_none hnone),
    fun hreach => ?_, fun hreach => ?_, fun hreach => ⟨fun hoff hsel => ?_, fun hrefused => ?_⟩, fun hreach => ?_⟩
  · have hquiet := quiet_batchRead _ _ _ s d s2 hread
    have hupd := batchSend_upd s2 n.val x (x.batch / halves x.words) (x.batch % halves x.words) core slot d
    have hpush := batchSend_pushIn s2 n.val x (x.batch / halves x.words) (x.batch % halves x.words) core slot d
    rw [show s2.upd = s.upd from hquiet .upd (by decide), show s2.tick = s.tick from hquiet .tick (by decide)] at hupd
    rw [show s2.upd = s.upd from hquiet .upd (by decide), show s2.cores = s.cores from hquiet .cores (by decide)] at hpush
    refine ⟨_, congrArg Host.Outcome.next (batchPush_of_ready hx hadmitted hrule hbatch hlines hroom hpick hread),
      (hquiet.trans (onlyIn_batchSend s2 n.val x _ _ core slot d)).mono (by decide), ?_, ?_, ?_, hpush⟩
    · rw [hupd]
      exact SMap.get_set_self _ _ _
    · rw [hupd]
      rfl
    · rw [hupd, batchNoted]
  · have hwrite := (writeReg_bdone hreach).trans (bdone_of_unknown (tok := v.toNat) (by rw [hreach.eq_seenBy, seenBy_upd]; exact hnone))
    rw [hreach.eq_seenBy] at hwrite
    exact ⟨_, congrArg Host.Outcome.next hwrite, (OnlyIn.refl s).seenBy.bump.mono (by decide)⟩
  · have hwrite := (writeReg_bdone hreach).trans (bdone_of_late (tok := v.toNat) (by rw [hreach.eq_seenBy, seenBy_upd]; exact hfind) hlate)
    rw [hreach.eq_seenBy] at hwrite
    refine ⟨_, congrArg Host.Outcome.next hwrite, ?_, ?_⟩
    · rw [dropBatch_upd, seenBy_upd]
    · exact seenBy_mem s who
  · have hwrite := (writeReg_bdone hreach).trans (bdone_of_batch (tok := v.toNat) (by rw [hreach.eq_seenBy, seenBy_upd]; exact hfind) hlate
      (by rw [hreach.eq_seenBy, seenBy_upd]; exact hx))
    have hcores : s1.cores = s.cores := by rw [hreach.eq_seenBy, seenBy_cores]
    have hmade : batchMade s1 k (batchCols x.words k.half) = batchMade s k (batchCols x.words k.half) := by rw [batchMade, hcores, batchMade]
    rw [hmade] at hwrite
    obtain ⟨hbatches, hfinished⟩ := finishBatch_upd s1 n x k (some (batchMade s k (batchCols x.words k.half)))
    refine ⟨_, congrArg Host.Outcome.next hwrite, ?_, ?_, ?_⟩
    · rw [State.bump_upd, dropBatch_upd, hbatches, hreach.eq_seenBy, seenBy_upd]
    · rw [State.bump_upd, dropBatch_upd]
      exact hfinished
    · rw [State.bump_mem]
      rfl
  · exact ⟨_, congrArg Host.Outcome.next (batchTimeout_of_due hfind hx), batchHeld_facts s n x k⟩
  · refine ⟨_, congrArg Host.Outcome.next (writeReg_etaNext hreach), (OnlyIn.refl s).seenBy.setRegN.setField.mono (by decide), ?_, ?_, ?_⟩
    · rw [etaNextWrite, State.setField, State.setRegN, State.reg_setReg_ne _ _ (by decide), State.setRegN, State.reg_setReg_self, BitVec.ofNat_toNat,
        BitVec.setWidth_eq]
    · rw [etaNextWrite, State.regN_setField_self _ _ _ _ _ (by decide) (by decide), State.regN_setRegN_ne _ _ (by decide), seenBy_regN]
    · rw [etaNextWrite, State.setField, State.setRegN, State.reg_setReg_ne _ _ (by decide), State.setRegN, State.reg_setReg_ne _ _ (by decide), seenBy_reg]
  · refine ⟨_, congrArg Host.Outcome.next (writeReg_updEnable hreach), (OnlyIn.refl s).seenBy.setRegN.mono (by decide), ?_, ?_, ?_, ?_⟩
    · rw [updEnableWrite, State.regN_setRegN_self]
      omega
    · rw [updEnableWrite, State.setRegN, State.reg_setReg_ne _ _ (by decide), seenBy_reg]
    · rw [updEnableWrite, State.setRegN, State.reg_setReg_ne _ _ (by decide), seenBy_reg]
    · rw [updEnableWrite, State.setRegN, State.reg_setReg_ne _ _ (by decide), seenBy_reg]
  · have hcode := updLdataWrite_taken (s := seenBy s who) (v := v.toNat) (by rw [seenBy_regN]; exact hoff) (by rw [seenBy_regN]; exact hsel)
    have hwrite := writeReg_updLdata hreach
    rw [hcode, tookCode_taken] at hwrite
    refine ⟨_, congrArg Host.Outcome.next hwrite, (OnlyIn.refl s).seenBy.setRegN.putUpd.mono (by decide), ?_, ?_⟩
    · refine (ldataTaken_upd _ _).trans ?_
      rw [seenBy_upd]
    · have hlt := s.regN_lt updPage 0x120
      have hv := v.isLt
      refine (congrArg BitVec.toNat (?_ : SMap.getD (ldataTaken (seenBy s who) v.toNat).upd.table 0 _ = BitVec.ofNat 64 (v.toNat * 2 ^ 32 + s.regN updPage 0x120))).trans ?_
      · rw [ldataTaken, seenBy_regN, seenBy_regN]
        exact SMap.getD_set_self _ _ _ _
      · rw [BitVec.toNat_ofNat]
        omega
  · obtain ⟨kind, hwrite⟩ := updLdata_refuses hreach hrefused
    refine ⟨_, congrArg Host.Outcome.next hwrite, (OnlyIn.refl s).seenBy.logReq.mono (by decide), ?_⟩
    rw [log_logReq_writeSeq, seenBy_log]
  · have hread := busRead_updLdata hreach
    refine ⟨_, congrArg Host.Outcome.next (congrArg Prod.fst hread), (OnlyIn.refl s).seenBy.putSnaps.mono (by decide), ?_, ?_⟩
    · rw [hread, updLdataRead, seenBy_regN, seenBy_upd]
    · rw [updLdataRead, seenBy_regN, seenBy_upd]
      exact SMap.getD_set_self _ _ _ _

end Sys2Proof.Machine
end

section
/-! SUPPORT. A slice in progress that names another layer than its bucket's descriptor. -/

namespace Sys2Proof.Machine

/-- A finished slice of layer 1, of a tag whose bucket is of layer 0. -/
def strayedSlice : UpdSlice := { tag := ⟨0, 0, 0⟩, src := .empty, layer := 1, words := [], eta := 0, rule := 3, admitted := true, line := 256 }

/-- The module with the slice in progress and a directory whose tiles all have their homes in HBM. -/
def strayedState : State :=
  { State.reset with mem.dirInit := true, upd.slices := [(0, strayedSlice)] }

/-- What the unit's read of the slice's scale leaves. -/
def scaleRead : State :=
  match tableRead (strayedState.scaleAddr 0 0) 1 strayedState with
  | .ok p => p.2
  | .error _ => strayedState

theorem tableRead_of_strayed : tableRead (strayedState.scaleAddr 0 0) 1 strayedState = .ok (0, scaleRead) := by
  have hok : (match tableRead (strayedState.scaleAddr 0 0) 1 strayedState with | .ok p => p.1 == 0 | .error _ => false) = true := by decide +kernel
  unfold scaleRead
  revert hok
  cases tableRead (strayedState.scaleAddr 0 0) 1 strayedState with
  | error e => exact nofun
  | ok p => exact fun h => congrArg Except.ok (Prod.ext (beq_iff_eq.mp h) rfl)

/-- The one piece of the slice's parameters lies in tile 0. -/
theorem strayed_accepts : AcceptsNow scaleRead strayedState.trainPart ((strayedState.bucket 0 0).paramAddr ⟨0, 0, 0⟩)
    (128 * (strayedState.bucket 0 0).plines) := by
  have hpieces : accessPieces ((strayedState.bucket 0 0).paramAddr ⟨0, 0, 0⟩) (128 * (strayedState.bucket 0 0).plines) = [(0, 128, 0)] := by
    decide +kernel
  have hplain : PlainTile scaleRead strayedState.trainPart 0 := by
    unfold PlainTile
    decide +kernel
  intro p hp
  rw [hpieces, List.mem_singleton] at hp
  exact ⟨0, false, 0, by rw [hp]; decide, hplain⟩

/-- The commit is of the layer of the bucket's descriptor. -/
theorem commits_of_strayed : (paramWrite strayedState 0).step.commits = [⟨0, 0, 0, 0⟩] := by decide +kernel

/-- Refutes O41: the commit of a finished slice names the layer of its bucket's descriptor, whatever layer the slice itself holds; here the
slice holds layer 1 and the descriptor layer 0. -/
theorem not_updates : ¬ Obligations.Updates := by
  unfold Obligations.Updates
  intro h
  obtain ⟨-, -, -, -, hparam⟩ := h strayedState scaleRead scaleRead
  obtain ⟨t, hexec, -, -, -, hstep⟩ := hparam 0 strayedSlice 0 rfl rfl rfl (by decide) (by decide) (by decide +kernel) tableRead_of_strayed strayed_accepts rfl
  have ht : paramWrite strayedState 0 = t := Host.Outcome.next.inj hexec
  rw [← ht] at hstep
  have hcommits := congrArg (·.commits) hstep
  rw [commits_of_strayed] at hcommits
  exact absurd hcommits (by decide)

end Sys2Proof.Machine
end

section
/-! SUPPORT. Memory agents: what leaves every tile's home where it is, and what one access of a tile at rest does to memory (R190-R193). -/

namespace Sys2Proof.Machine

/-! ### Homes -/

/-- Between two states no entry changes and no register but an ISTATUS: every tile has its home where it had it. -/
structure SameHomes (s t : State) : Prop where
  dir : t.mem.dir = s.mem.dir
  init : t.mem.dirInit = s.mem.dirInit
  ctl : ∀ p off, off < 0x1000 → off ≠ 0x018 → t.reg p off = s.reg p off

theorem SameHomes.refl (s : State) : SameHomes s s := ⟨rfl, rfl, fun _ _ _ _ => rfl⟩

theorem SameHomes.trans {s t r : State} (h : SameHomes s t) (g : SameHomes t r) : SameHomes s r :=
  ⟨g.dir.trans h.dir, g.init.trans h.init, fun p off h1 h2 => (g.ctl p off h1 h2).trans (h.ctl p off h1 h2)⟩

theorem SameHomes.of_mem {s t : State} (hdir : t.mem.dir = s.mem.dir) (hinit : t.mem.dirInit = s.mem.dirInit) (hregs : t.regs = s.regs) :
    SameHomes s t := ⟨hdir, hinit, fun p off _ _ => State.reg_congr hregs p off⟩

theorem sameHomes_bumpBy (s : State) (p : Page) (sel n : Nat) : SameHomes s (s.bumpBy p sel n) :=
  .of_mem (by rw [State.bumpBy_mem]) (by rw [State.bumpBy_mem]) (State.bumpBy_regs ..)

theorem sameHomes_bump (s : State) (p : Page) (sel : Nat) : SameHomes s (s.bump p sel) := sameHomes_bumpBy s p sel 1

theorem SameHomes.ite {s t r : State} {c : Prop} [Decidable c] (h : SameHomes s t) (g : SameHomes s r) : SameHomes s (if c then t else r) := by
  split
  · exact h
  · exact g

theorem SameHomes.raise {s t : State} (h : SameHomes s t) (p : Page) (bit : Nat) : SameHomes s (t.raise p bit) :=
  ⟨h.dir, h.init, fun q off hlt hne => (State.reg_raise_ne t bit (fun e => hne (by
    have := congrArg (· % 0x1000) e
    simpa only [Page.key_mod _ hlt, Page.key_mod _ (show 0x018 < 0x1000 by decide)] using this))).trans (h.ctl q off hlt hne)⟩

theorem SameHomes.foldl {α : Type} {f : State → α → State} (hf : ∀ s x, SameHomes s (f s x)) (s : State) (l : List α) :
    SameHomes s (l.foldl f s) := by
  induction l generalizing s with
  | nil => exact .refl s
  | cons x l ih => exact (hf s x).trans (ih _)

section
variable {s t : State} (h : SameHomes s t)
include h

theorem SameHomes.regN (p : Page) {off : Nat} (hlt : off < 0x1000) (hne : off ≠ 0x018) : t.regN p off = s.regN p off :=
  congrArg BitVec.toNat (h.ctl p off hlt hne)

theorem SameHomes.entry (n : Nat) : t.entry n = s.entry n := by rw [State.entry, State.entry, h.dir, h.init]

theorem SameHomes.hasHome (n : Nat) : t.hasHome n = s.hasHome n := by rw [State.hasHome, State.hasHome, h.entry]

theorem SameHomes.lender (c d : Nat) : t.lender c d = s.lender c d := by
  rw [State.lender, State.lender, h.regN _ (by decide) (by decide)]

theorem SameHomes.hbmFrame (n : Nat) : t.hbmFrame n = s.hbmFrame n := by unfold State.hbmFrame; rw [h.entry]

theorem SameHomes.hbmHome (n : Nat) : t.hbmHome n = s.hbmHome n := by
  unfold State.hbmHome
  split
  · rw [h.lender, h.hbmFrame]
  · exact h.hbmFrame n

theorem SameHomes.home (n : Nat) : t.home n = s.home n := by
  unfold State.home
  rw [h.entry, h.hbmHome]

theorem SameHomes.tilePlace (n : Nat) (side : Bool) (off : Nat) : t.tilePlace n side off = s.tilePlace n side off := by
  unfold State.tilePlace
  rw [h.home]

theorem SameHomes.stkP (c : Nat) : t.stkP c = s.stkP c := by rw [State.stkP, State.stkP, h.regN _ (by decide) (by decide)]

theorem SameHomes.stkH (c : Nat) : t.stkH c = s.stkH c := by rw [State.stkH, State.stkH, h.regN _ (by decide) (by decide)]

end

/-! ### Entries that are written -/

theorem State.entry_lt (s : State) (n : Nat) : s.entry n < 2 ^ 64 := BitVec.isLt _

theorem State.entry_congr {s t : State} (hdir : t.mem.dir = s.mem.dir) (hinit : t.mem.dirInit = s.mem.dirInit) (n : Nat) :
    t.entry n = s.entry n := by rw [State.entry, State.entry, hdir, hinit]

theorem State.entry_setEntry_self (s : State) (n : Nat) {e : Nat} (h : e < 2 ^ 64) : (s.setEntry n e).entry n = e := by
  rw [State.entry, State.setEntry, SMap.getD_set_self, BitVec.toNat_ofNat, Nat.mod_eq_of_lt h]

theorem State.entry_setEntry_ne (s : State) {n k : Nat} (e : Nat) (h : entryIdx k ≠ entryIdx n) : (s.setEntry n e).entry k = s.entry k := by
  rw [State.entry, State.entry, State.setEntry, SMap.getD_set_ne _ _ _ h]

theorem eBit_lt {e i : Nat} (h : e < 2 ^ 64) (hi : i < 64) (b : Bool) : eBit e i b < 2 ^ 64 := putField_lt (by decide) h (by omega)

theorem bitAt_eBit (e i : Nat) (b : Bool) (j : Nat) : bitAt (eBit e i b) j = if j = i then b else bitAt e j := by
  rw [eBit, bitAt_putField _ _ _ (by decide)]
  by_cases h : j = i
  · rw [if_pos (by omega), if_pos h, h, Nat.sub_self]
    cases b <;> rfl
  · rw [if_neg (by omega), if_neg h]

theorem field_eBit_ne (e : Nat) {i hi lo : Nat} (b : Bool) (h : hi < i ∨ i < lo) : field (eBit e i b) hi lo = field e hi lo :=
  field_putField_ne e _ (by decide) (by omega)

theorem field_eBit_self (e i : Nat) (b : Bool) : field (eBit e i b) i i = b2n b := by
  rw [eBit, field_putField_self _ _ (by decide) rfl]
  cases b <;> rfl

/-! ### Counted reads and writes, and acceptance -/

theorem sameHomes_sectorsRead (s : State) (stack n bad : Nat) : SameHomes s (s.sectorsRead stack n bad) := by
  have hn : SameHomes s (if n = 0 then s else s.bumpBy ⟨.hbc, stack⟩ 0 n) := .ite (.refl s) (sameHomes_bumpBy ..)
  unfold State.sectorsRead
  dsimp only
  split
  · exact hn
  · exact (hn.trans (sameHomes_bumpBy ..)).raise _ _

theorem sameHomes_readCounted (s : State) (a n : Nat) : SameHomes s (s.readCounted a n) := by
  unfold State.readCounted
  split
  · exact sameHomes_bumpBy ..
  · exact .foldl (fun t _ => sameHomes_sectorsRead t _ _ _) s _

theorem sameHomes_writeCounted (s : State) (a n : Nat) : SameHomes s (s.writeCounted a n) := by
  unfold State.writeCounted
  split
  · exact sameHomes_bumpBy ..
  · exact .foldl (fun t _ => .ite (.refl t) (sameHomes_sectorsRead t _ _ _)) s _

theorem writeCounted_mem (s : State) (a n : Nat) : (s.writeCounted a n).mem = s.mem := onlyIn_writeCounted s a n .mem (by decide)

/-- An agent that accepts an access may find its entry poisoned: a trigger and an ISTATUS, and nothing else of memory (R193, R403). -/
theorem accept_mem (s : State) (n : Nat) : (s.accept n).mem = { s.mem with shared := (s.accept n).mem.shared } := by
  have hbump : (if agentOf n < 12 then s.bump ⟨.dir, agentOf n⟩ 0 else s).mem = s.mem := by
    split
    · exact State.bump_mem ..
    · rfl
  unfold State.accept
  dsimp only
  generalize (if agentOf n < 12 then s.bump ⟨.dir, agentOf n⟩ 0 else s) = r at hbump ⊢
  rw [← hbump]
  split <;> rfl

theorem sameHomes_accept (s : State) (n : Nat) : SameHomes s (s.accept n) := by
  refine ⟨by rw [accept_mem], by rw [accept_mem], ?_⟩
  have hbump : SameHomes s (if agentOf n < 12 then s.bump ⟨.dir, agentOf n⟩ 0 else s) := .ite (sameHomes_bump ..) (.refl s)
  unfold State.accept
  dsimp only
  generalize (if agentOf n < 12 then s.bump ⟨.dir, agentOf n⟩ 0 else s) = r at hbump ⊢
  split
  · exact (hbump.raise _ _).ctl
  · exact hbump.ctl

theorem settle_of_none {s : State} {n : Nat} (h : s.mem.atomics.all (fun k => decide (k.addr / 0x8000 ≠ n)) = true) : s.settle n = s := by
  have hnone : s.mem.atomics.filter (fun a => decide (a.addr / 0x8000 = n)) = [] := by
    rw [List.filter_eq_nil_iff]
    intro a ha
    simpa using List.all_eq_true.mp h a ha
  have hall : s.mem.atomics.filter (fun a => decide (a.addr / 0x8000 ≠ n)) = s.mem.atomics :=
    List.filter_eq_self.mpr fun a ha => List.all_eq_true.mp h a ha
  unfold State.settle
  dsimp only
  rw [hnone, hall]
  rfl

/-! ### Bytes put in place -/

theorem writePart_mem (s : State) (a n v : Nat) : (s.writePart a n v).mem =
    { s.mem with dram := (s.writePart a n v).mem.dram, poison := (s.writePart a n v).mem.poison } := by
  unfold State.writePart
  split
  · rfl
  · split <;> rfl

theorem writePlace_mem (fuel : Nat) (s : State) (a n v : Nat) : (s.writePlace a n v fuel).mem =
    { s.mem with dram := (s.writePlace a n v fuel).mem.dram, poison := (s.writePlace a n v fuel).mem.poison } := by
  induction fuel generalizing s a n v with
  | zero => rfl
  | succ fuel ih =>
    unfold State.writePlace
    split
    · rfl
    · dsimp only
      rw [ih, writePart_mem]

theorem put_mem (s : State) (a n v : Nat) : (s.put a n v).mem =
    { s.mem with dram := (s.put a n v).mem.dram, poison := (s.put a n v).mem.poison } := writePlace_mem _ s a n v

theorem writePart_congr {s t : State} (hd : t.mem.dram = s.mem.dram) (hp : t.mem.poison = s.mem.poison) (a n v : Nat) :
    (t.writePart a n v).mem.dram = (s.writePart a n v).mem.dram ∧ (t.writePart a n v).mem.poison = (s.writePart a n v).mem.poison := by
  unfold State.writePart
  rw [hp, hd]
  split
  · exact ⟨rfl, rfl⟩
  · split
    · exact ⟨hd, hp⟩
    · exact ⟨rfl, hp⟩

theorem writePlace_congr (fuel : Nat) {s t : State} (hd : t.mem.dram = s.mem.dram) (hp : t.mem.poison = s.mem.poison) (a n v : Nat) :
    (t.writePlace a n v fuel).mem.dram = (s.writePlace a n v fuel).mem.dram ∧
      (t.writePlace a n v fuel).mem.poison = (s.writePlace a n v fuel).mem.poison := by
  induction fuel generalizing s t a n v with
  | zero => exact ⟨hd, hp⟩
  | succ fuel ih =>
    unfold State.writePlace
    split
    · exact ⟨hd, hp⟩
    · obtain ⟨hd', hp'⟩ := writePart_congr hd hp a (min n (32 - a % 32)) (v % 256 ^ min n (32 - a % 32))
      exact ih hd' hp' _ _ _

/-- What a write leaves of the bytes depends on the bytes and the poison alone. -/
theorem put_congr {s t : State} (hd : t.mem.dram = s.mem.dram) (hp : t.mem.poison = s.mem.poison) (a n v : Nat) :
    (t.put a n v).mem.dram = (s.put a n v).mem.dram ∧ (t.put a n v).mem.poison = (s.put a n v).mem.poison := writePlace_congr _ hd hp a n v

/-! ### One access of a tile at rest -/

section
variable {s : State} {n : Nat} (hrest : s.mem.atomics.all (fun k => decide (k.addr / 0x8000 ≠ n)) = true)
include hrest

theorem serveWrite_of_rest (side : Bool) (off len v : Nat) : serveWrite s n side off len v false =
    (s.writeCounted (s.tilePlace n side off) len).put (s.tilePlace n side off) len v := by
  unfold serveWrite
  rw [settle_of_none hrest]
  rfl

theorem serveWrite_mem (side : Bool) (off len v : Nat) : (serveWrite s n side off len v false).mem =
    { s.mem with dram := (s.put (s.tilePlace n side off) len v).mem.dram, poison := (s.put (s.tilePlace n side off) len v).mem.poison } := by
  have hm := writeCounted_mem s (s.tilePlace n side off) len
  obtain ⟨hd, hp⟩ := put_congr (congrArg Memory.dram hm) (congrArg Memory.poison hm) (s.tilePlace n side off) len v
  rw [serveWrite_of_rest hrest, put_mem, hd, hp, hm]

theorem serveRead_mem (side : Bool) (off len : Nat) : (serveRead s n side off len).1.mem = s.mem := by
  unfold serveRead
  rw [settle_of_none hrest]
  dsimp only
  split
  · split
    · exact (State.bump_mem ..).trans (readCounted_mem ..)
    · exact readCounted_mem ..
  · exact readCounted_mem ..

theorem serveRead_of_clean {side : Bool} {off len : Nat} (hclean : s.meetsPoison (s.tilePlace n side off) len = false) :
    (serveRead s n side off len).2 = .data (Mem.read s.mem.dram (s.tilePlace n side off) len) := by
  unfold serveRead
  rw [settle_of_none hrest]
  dsimp only
  rw [if_neg (by rw [hclean]; decide)]

end

end Sys2Proof.Machine
end

section
/-! OBLIGATIONS. Stores to a Stash, atomic additions and peeks (R190, R192, R198, R199, R204, R205). -/

namespace Sys2Proof.Machine

/-! ### Stash tiles -/

theorem stashOf_stashTile {c d : Nat} (hc : c < 40) (hd : d < 0x20000) : stashOf (stashTile c d) = some (c, d) := by
  unfold stashOf stashTile stashTile0
  rw [if_pos (by omega)]
  congr 2 <;> omega

theorem State.stash_of_stashes {s t : State} (h : t.mem.stashes = s.mem.stashes) (c : Nat) : t.stash c = s.stash c := by
  rw [State.stash, State.stash, h]

theorem State.frameAt_of_frames {s t : State} (h : t.mem.frames = s.mem.frames) (c f : Nat) : t.frameAt c f = s.frameAt c f := by
  rw [State.frameAt, State.frameAt, h]

section
variable {s : State} {c d : Nat}

/-- The Stash has a place for no such depth (R198, R199). -/
theorem stashAccept_of_beyond (h : s.stkP c = 0 ∨ s.stkP c + s.stkH c ≤ d) : stashAccept s c d = (s.bump (stkPage c) 5, .refused) := by
  unfold stashAccept
  exact if_pos h

theorem stashAccept_of_home (hin : ¬ (s.stkP c = 0 ∨ s.stkP c + s.stkH c ≤ d)) (hvalid : eValid (s.entry (stashTile c d)) = true)
    (hmoving : eMoving (s.entry (stashTile c d)) = false) : stashAccept s c d = (s, .home) := by
  unfold stashAccept
  dsimp only
  rw [if_neg hin, if_pos hvalid, if_neg (by rw [hmoving]; decide)]

/-- A Stash tile's entry once its home is a frame of the ring. -/
def ringEntry (e c f : Nat) : Nat := eBit (putField (putField (eBit (eBit e 63 true) 61 false) 25 9 f) 34 6 c) 62 true

theorem ringEntry_lt {e : Nat} (h : e < 2 ^ 64) (c f : Nat) : ringEntry e c f < 2 ^ 64 :=
  eBit_lt (putField_lt (by decide) (putField_lt (by decide) (eBit_lt (eBit_lt h (by decide) _) (by decide) _) (by decide)) (by decide)) (by decide) _

theorem ringEntry_fields (e : Nat) {c f : Nat} (hc : c < 40) (hf : f < 512) : eValid (ringEntry e c f) = true ∧
    eTier (ringEntry e c f) = 1 ∧ eFrame (ringEntry e c f) = f ∧ eCluster (ringEntry e c f) = c := by
  have hvalid : bitAt (ringEntry e c f) 63 = true := by
    rw [ringEntry, bitAt_eBit, if_neg (by decide), bitAt_putField _ _ _ (by decide), if_neg (by decide), bitAt_putField _ _ _ (by decide),
      if_neg (by decide), bitAt_eBit, if_neg (by decide), bitAt_eBit, if_pos rfl]
  have hframe : field (ringEntry e c f) 33 25 = f := by
    rw [ringEntry, field_eBit_ne _ _ (by decide), field_putField_ne _ _ (by decide) (by decide), field_putField_self (w := 9) _ _ (by decide) rfl,
      Nat.mod_eq_of_lt (by omega)]
  have hcluster : field (ringEntry e c f) 39 34 = c := by
    rw [ringEntry, field_eBit_ne _ _ (by decide), field_putField_self (w := 6) _ _ (by decide) rfl, Nat.mod_eq_of_lt (by omega)]
  exact ⟨hvalid, field_eBit_self _ _ _, hframe, hcluster⟩

/-- A depth has been given a frame of the ring (R198). -/
def ringTaken (s : State) (c d : Nat) : State :=
  ((s.takeFrame c (d % s.stkP c) (stashTile c d)).setEntry (stashTile c d) (ringEntry (s.entry (stashTile c d)) c (d % s.stkP c))).bump
    (stkPage c) 0

/-- The same, TOP risen above it. -/
def ringRaised (s : State) (c d : Nat) : State :=
  let st := s.stash c
  let top := max st.top (d + 1)
  (ringTaken s c d).setStash c { (ringTaken s c d).stash c with top := top, pop := if st.top < top then false else st.pop }

theorem stashAccept_of_ring (hin : ¬ (s.stkP c = 0 ∨ s.stkP c + s.stkH c ≤ d)) (hvalid : eValid (s.entry (stashTile c d)) = false)
    (hring : max (s.stash c).top (d + 1) ≤ d + s.stkP c) (hfree : s.frameAt c (d % s.stkP c) = none) :
    stashAccept s c d = (ringRaised s c d, .home) := by
  unfold stashAccept
  dsimp only
  rw [if_neg hin, if_neg (by rw [hvalid]; decide), if_pos (decide_eq_true hring), if_neg (by rw [hfree]; decide)]
  simp only [decide_eq_true hring, if_true]
  rfl

theorem ringTaken_mem (s : State) (c d : Nat) : (ringTaken s c d).mem =
    { s.mem with
      frames := SMap.set s.mem.frames (512 * c + d % s.stkP c) (stashTile c d)
      dir := SMap.set s.mem.dir (entryIdx (stashTile c d)) (BitVec.ofNat 64 (ringEntry (s.entry (stashTile c d)) c (d % s.stkP c))) } := by
  rw [ringTaken, State.bump_mem, State.setEntry, State.takeFrame]
  simp only [State.bump_mem]

/-- The Stash with TOP risen above a depth: a push (R201). -/
def Stash.risen (st : Stash) (d : Nat) : Stash :=
  { st with top := max st.top (d + 1), pop := if st.top < max st.top (d + 1) then false else st.pop }

theorem ringRaised_mem (s : State) (c d : Nat) : (ringRaised s c d).mem =
    { (ringTaken s c d).mem with stashes := SMap.set s.mem.stashes c ((s.stash c).risen d) } := by
  have hstashes : (ringTaken s c d).mem.stashes = s.mem.stashes := by rw [ringTaken_mem]
  have hstash : (ringTaken s c d).stash c = s.stash c := State.stash_of_stashes hstashes c
  unfold ringRaised State.setStash
  dsimp only
  rw [hstash, hstashes]
  rfl

theorem entry_ringRaised (s : State) (c d : Nat) :
    (ringRaised s c d).entry (stashTile c d) = ringEntry (s.entry (stashTile c d)) c (d % s.stkP c) := by
  have hdir : (ringRaised s c d).mem.dir = (s.setEntry (stashTile c d) (ringEntry (s.entry (stashTile c d)) c (d % s.stkP c))).mem.dir := by
    rw [ringRaised_mem, ringTaken_mem]
    rfl
  have hinit : (ringRaised s c d).mem.dirInit = s.mem.dirInit := by rw [ringRaised_mem, ringTaken_mem]
  rw [State.entry_congr hdir hinit, State.entry_setEntry_self _ _ (ringEntry_lt (s.entry_lt _) ..)]

end

/-! ### STASH_STORE -/

/-- The next store to a Stash has left its inbox. -/
def stashPopped (s : State) (c : Nat) (rest : List StashReq) : State := s.setStash c { s.stash c with inbox := rest }

/-- The next store to a Stash has reached its unit, which accepts it (R193, R198). -/
def stashTakes (s : State) (c d : Nat) (rest : List StashReq) : State :=
  (stashPopped s c rest).accept (stashTile c d)

section
variable {s : State} {c d : Nat} (rest : List StashReq)

theorem stashTakes_mem : (stashTakes s c d rest).mem = { s.mem with
    stashes := SMap.set s.mem.stashes c { s.stash c with inbox := rest }, shared := (stashTakes s c d rest).mem.shared } := accept_mem _ _

theorem sameHomes_stashTakes : SameHomes s (stashTakes s c d rest) :=
  (SameHomes.of_mem rfl rfl rfl : SameHomes s (stashPopped s c rest)).trans (sameHomes_accept _ (stashTile c d))

theorem stash_stashTakes : (stashTakes s c d rest).stash c = { s.stash c with inbox := rest } := by
  rw [State.stash, stashTakes_mem]
  exact SMap.getD_set_self ..

variable {rest} {op : StashOp} (hinbox : (s.stash c).inbox = ⟨d, op⟩ :: rest) (hc : c < 40) (hd : d < 0x20000)
  (hsat : s.saturated (12 + c) = false) (hholds : s.holdsFor (stashTile c d) = false)
include hinbox hc hd hsat hholds

theorem stashStore_of_served {t : State} (hserve : stashServe (stashTakes s c d rest) c ⟨d, op⟩ = (t, true)) : stashStore s c = t := by
  unfold stashStore
  dsimp only
  rw [hinbox]
  dsimp only
  rw [if_neg (by rw [hsat]; decide)]
  rw [show s.setStash c { s.stash c with inbox := rest } = stashPopped s c rest from rfl]
  unfold arrive
  rw [if_neg (by rw [show (stashPopped s c rest).saturated (12 + c) = s.saturated (12 + c) from rfl, hsat]; decide)]
  have hnone : (stashTakes s c d rest).holdsFor (stashTile c d) = false := by
    rw [State.holdsFor, stashTakes_mem]
    exact hholds
  dsimp only
  rw [show (stashPopped s c rest).accept (stashTile c d) = stashTakes s c d rest from rfl,
    if_neg (by rw [hnone]; decide)]
  unfold performHeld
  dsimp only
  rw [stashOf_stashTile hc hd]
  dsimp only
  rw [hserve]

end

section
variable {s : State} {c d core : Nat} {x : Ctx} {side : Bool} {off v : Nat} {rest : List StashReq}
  (hinbox : (s.stash c).inbox = ⟨d, .bytes (some (.jgSt core x)) side off 4 v false⟩ :: rest) (hc : c < 40) (hd : d < 0x20000)
  (hsat : s.saturated (12 + c) = false) (hholds : s.holdsFor (stashTile c d) = false)
  (hrest : s.mem.atomics.all (fun k => decide (k.addr / 0x8000 ≠ stashTile c d)) = true)
include hinbox hc hd hsat hholds

/-- A store at a depth beyond the ring and the lent tiles is refused and recorded. -/
theorem stashStore_of_beyond (hbeyond : s.stkP c = 0 ∨ s.stkP c + s.stkH c ≤ d) : ((stashStore s c).stash c).inbox = rest ∧
    (stashStore s c).mem.dram = s.mem.dram ∧ (stashStore s c).mem.dir = s.mem.dir ∧
    bitAt ((stashStore s c).regN (stkPage c) 0x110) 31 = true ∧ bitAt ((stashStore s c).regN (stkPage c) 0x018) 0 = true := by
  have hhomes := sameHomes_stashTakes (s := s) (c := c) (d := d) rest
  have haccept := stashAccept_of_beyond (s := stashTakes s c d rest) (c := c) (d := d) (by rwa [hhomes.stkP, hhomes.stkH])
  have hstore := stashStore_of_served (t := stashFull ((stashTakes s c d rest).bump (stkPage c) 5) c core x d) hinbox hc hd hsat hholds (by
    unfold stashServe
    dsimp only
    rw [haccept])
  have hmem : (stashStore s c).mem = (stashTakes s c d rest).mem := by
    rw [hstore, onlyIn_stashFull _ c core x d .mem (by decide)]
    exact State.bump_mem ..
  have hrecord : (core % 7) * 2 ^ 27 + x.idx * 2 ^ 25 + d < 2 ^ 30 := by
    have := Ctx.idx_lt x
    omega
  refine ⟨?_, ?_, ?_, ?_, ?_⟩
  · rw [State.stash_of_stashes (congrArg Memory.stashes hmem), stash_stashTakes]
  · rw [hmem, stashTakes_mem]
  · rw [hmem, stashTakes_mem]
  · rw [hstore, stashFull, State.regN_raise_ne _ _ (Page.key_ne _ (by decide)), State.bitAt_record _ _ _ hrecord]
  · rw [hstore]
    exact State.bitAt_raise_self _ _ (by decide)

include hrest

/-- A store at a depth that has its home is written there. -/
theorem stashStore_of_home (hin : ¬ (s.stkP c = 0 ∨ s.stkP c + s.stkH c ≤ d)) (hvalid : eValid (s.entry (stashTile c d)) = true)
    (hmoving : eMoving (s.entry (stashTile c d)) = false) : ((stashStore s c).stash c).inbox = rest ∧
    ((stashStore s c).stash c).top = (s.stash c).top ∧
    (stashStore s c).mem.dram = (s.put (s.tilePlace (stashTile c d) side off) 4 v).mem.dram ∧ (stashStore s c).mem.dir = s.mem.dir := by
  have hhomes := sameHomes_stashTakes (s := s) (c := c) (d := d) rest
  have hm := stashTakes_mem (s := s) (c := c) (d := d) rest
  have hst := stash_stashTakes (s := s) (c := c) (d := d) rest
  generalize htakes : stashTakes s c d rest = a at hhomes hm hst
  have haccept := stashAccept_of_home (s := a) (c := c) (d := d) (by rwa [hhomes.stkP, hhomes.stkH]) (by rwa [hhomes.entry]) (by rwa [hhomes.entry])
  have hstore := stashStore_of_served (t := serveWrite a (stashTile c d) side off 4 v false) hinbox hc hd hsat hholds (by
    unfold stashServe
    dsimp only
    rw [htakes, haccept]
    rfl)
  have hmem := serveWrite_mem (s := a) (n := stashTile c d) (by rw [hm]; exact hrest) side off 4 v
  rw [← hstore] at hmem
  have hstash : (stashStore s c).stash c = { s.stash c with inbox := rest } := by
    rw [State.stash_of_stashes (s := a) (by rw [hmem]), hst]
  refine ⟨by rw [hstash], by rw [hstash], ?_, ?_⟩
  · rw [hmem, hhomes.tilePlace]
    exact (put_congr (by rw [hm]) (by rw [hm]) _ _ _).1
  · rw [hmem, hm]

/-- A store at a depth of the ring that has no home takes the frame of its depth (R198). -/
theorem stashStore_of_ring (hin : ¬ (s.stkP c = 0 ∨ s.stkP c + s.stkH c ≤ d)) (hvalid : eValid (s.entry (stashTile c d)) = false)
    (hring : max (s.stash c).top (d + 1) ≤ d + s.stkP c) (hfree : s.frameAt c (d % s.stkP c) = none) :
    ((stashStore s c).stash c).inbox = rest ∧ ((stashStore s c).stash c).top = max (s.stash c).top (d + 1) ∧
    (stashStore s c).frameAt c (d % s.stkP c) = some (stashTile c d) ∧
    (stashStore s c).entry (stashTile c d) = ringEntry (s.entry (stashTile c d)) c (d % s.stkP c) ∧
    (stashStore s c).mem.dram = (s.put (poolPlace c (d % s.stkP c) + (if side then 0x8000 else 0) + off) 4 v).mem.dram := by
  have hhomes := sameHomes_stashTakes (s := s) (c := c) (d := d) rest
  have hm := stashTakes_mem (s := s) (c := c) (d := d) rest
  have hst := stash_stashTakes (s := s) (c := c) (d := d) rest
  generalize htakes : stashTakes s c d rest = a at hhomes hm hst
  have haccept := stashAccept_of_ring (s := a) (c := c) (d := d) (by rwa [hhomes.stkP, hhomes.stkH]) (by rwa [hhomes.entry])
    (by rw [hst, hhomes.stkP]; exact hring) (by rw [hhomes.stkP, State.frameAt_of_frames (s := s) (by rw [hm])]; exact hfree)
  have hstore := stashStore_of_served (t := serveWrite (ringRaised a c d) (stashTile c d) side off 4 v false) hinbox hc hd hsat hholds (by
    unfold stashServe
    dsimp only
    rw [htakes, haccept]
    rfl)
  have hm' := ringRaised_mem a c d
  rw [ringTaken_mem] at hm'
  have hentry : (ringRaised a c d).entry (stashTile c d) = ringEntry (s.entry (stashTile c d)) c (d % s.stkP c) := by
    rw [entry_ringRaised, hhomes.entry, hhomes.stkP]
  have hlt : d % s.stkP c < 512 := (Nat.mod_lt _ (Nat.pos_of_ne_zero fun h => hin (.inl h))).trans (field_lt ..)
  obtain ⟨-, htier, hframe, hcluster⟩ := ringEntry_fields (s.entry (stashTile c d)) hc hlt
  have hplace : (ringRaised a c d).tilePlace (stashTile c d) side off = poolPlace c (d % s.stkP c) + (if side then 0x8000 else 0) + off := by
    rw [State.tilePlace, State.home, hentry, if_pos htier, hframe, hcluster]
    cases side <;> rfl
  have hmem := serveWrite_mem (s := ringRaised a c d) (n := stashTile c d) (by rw [hm', hm]; exact hrest) side off 4 v
  rw [← hstore] at hmem
  have hstash : (stashStore s c).stash c = (a.stash c).risen d := by
    rw [State.stash_of_stashes (s := ringRaised a c d) (by rw [hmem]), State.stash, hm']
    exact SMap.getD_set_self ..
  have hlast : (stashStore s c).entry (stashTile c d) = ringEntry (s.entry (stashTile c d)) c (d % s.stkP c) := by
    rw [State.entry_congr (s := ringRaised a c d) (by rw [hmem]) (by rw [hmem]), hentry]
  refine ⟨?_, ?_, ?_, hlast, ?_⟩
  · rw [hstash, hst]
    rfl
  · rw [hstash, hst]
    rfl
  · rw [State.frameAt_of_frames (s := ringRaised a c d) (by rw [hmem]), State.frameAt, hm', hhomes.stkP]
    exact SMap.get_set_self ..
  · rw [hmem, hplace]
    exact (put_congr (by rw [hm', hm]) (by rw [hm', hm]) _ _ _).1

end

theorem stashStores : Claims.StashStores := by
  intro s c d core x side off v rest hinbox hd hsat hholds tile P top hrest
  refine ⟨fun hbeyond => ⟨_, rfl, stashStore_of_beyond hinbox c.isLt hd hsat hholds hbeyond⟩,
    fun hP hlt hvalid hmoving => ⟨_, rfl, stashStore_of_home hinbox c.isLt hd hsat hholds hrest (by omega) hvalid hmoving⟩,
    fun hP hlt hvalid hring hfree => ⟨_, rfl, ?_⟩⟩
  obtain ⟨hrests, htop, hframe, hentry, hdram⟩ := stashStore_of_ring hinbox c.isLt hd hsat hholds hrest (by omega) hvalid hring hfree
  have hf : d % s.stkP c.val < 512 := (Nat.mod_lt _ (Nat.pos_of_ne_zero hP)).trans (field_lt ..)
  obtain ⟨hv, ht, hfr, -⟩ := ringEntry_fields (s.entry tile) c.isLt hf
  exact ⟨hrests, htop, hframe, by rw [hentry, hv], by rw [hentry, ht], by rw [hentry, hfr], hdram⟩

/-! ### Atomic additions -/

theorem grainOf_pos (fmt : Nat) : 0 < grainOf fmt := by
  unfold grainOf
  split <;> decide

/-- The only part of an operand that lies within one tile. -/
def Atomic.sole (a : Atomic) : Atomic :=
  { a with bytes := Mem.slice a.bytes 0 a.len 0, marks := NSet.slice a.marks 0 ((a.len + 31) / 32) 0 }

theorem splitAtomic_of_fit {a : Atomic} {size : Nat} (hlen : 0 < a.len) (hfit : a.addr % size + a.len ≤ size) (fuel : Nat) :
    splitAtomic size a (fuel + 2) = [a.sole] := by
  have hmin : min a.len (size - a.addr % size) = a.len := by omega
  unfold splitAtomic
  dsimp only
  rw [if_neg (by omega), hmin]
  unfold splitAtomic
  dsimp only
  rw [if_pos (by omega)]
  rfl

/-- An operand within one tile that rests in HBM waits line by line (R204). -/
theorem atomicStore_of_aligned {s : State} {a : Atomic} {rest : List Atomic} (hin : s.mem.atomicsIn = a :: rest) (hlen : 0 < a.len)
    (haddr : a.addr % grainOf a.fmt = 0) (hgrains : a.len % grainOf a.fmt = 0) (hfit : a.addr % 0x8000 + a.len ≤ 0x8000)
    (hsat : s.saturated (agentOf (a.addr / 0x8000)) = false) (hholds : s.holdsFor (a.addr / 0x8000) = false)
    (hhome : s.hasHome (a.addr / 0x8000) = true) (hmoving : eMoving (s.entry (a.addr / 0x8000)) = false)
    (htier : eTier (s.entry (a.addr / 0x8000)) = 0) :
    atomicStore s = acceptAtomic (({ s with mem.atomicsIn := rest } : State).accept (a.addr / 0x8000)) a.sole := by
  have hpopped : SameHomes s { s with mem.atomicsIn := rest } := .of_mem rfl rfl rfl
  have hhomes := hpopped.trans (sameHomes_accept { s with mem.atomicsIn := rest } (a.addr / 0x8000))
  have hholds' : (({ s with mem.atomicsIn := rest } : State).accept (a.addr / 0x8000)).holdsFor (a.addr / 0x8000) = false := by
    rw [State.holdsFor, accept_mem]
    exact hholds
  unfold atomicStore
  rw [hin]
  dsimp only
  unfold storeAtomic
  rw [if_neg (by omega), splitAtomic_of_fit hlen hfit]
  show takeAtomic { s with mem.atomicsIn := rest } a.sole = _
  unfold takeAtomic arrive
  rw [show a.sole.addr = a.addr from rfl, if_neg (by exact ne_true_of_eq_false hsat), if_neg (by rw [hholds']; decide)]
  generalize ({ s with mem.atomicsIn := rest } : State).accept (a.addr / 0x8000) = r at hhomes
  unfold performHeld
  dsimp only
  rw [hhomes.hasHome, hhome, hhomes.entry, hmoving, if_neg (by decide), if_neg (by decide), if_neg (by rw [htier]; decide)]

/-- An operand at a misaligned address is discarded (R204). -/
theorem atomicStore_of_misaligned {s : State} {a : Atomic} {rest : List Atomic} (hin : s.mem.atomicsIn = a :: rest)
    (haddr : a.addr % grainOf a.fmt ≠ 0) : atomicStore s = dropAtomic { s with mem.atomicsIn := rest } a := by
  unfold atomicStore
  rw [hin]
  dsimp only
  unfold storeAtomic
  rw [if_pos (by omega)]

theorem addGrains_one (fmt : Nat) (m op : List Host.Cell) (place : Nat) : (addGrains fmt m op place 0 1).1 =
    Mem.write m place (grainOf fmt) (grainAdd fmt (Mem.read m place (grainOf fmt)) (Mem.read op 0 (grainOf fmt))).1 := rfl

/-- HBM once the one grain of an operand is added in its place. -/
def grainAdded (s : State) (a : Atomic) : List Host.Cell := Mem.write s.mem.dram (atomicPlace s a) (grainOf a.fmt)
  (grainAdd a.fmt (Mem.read s.mem.dram (atomicPlace s a) (grainOf a.fmt)) (Mem.read a.bytes 0 (grainOf a.fmt))).1

/-- The oldest operand of a controller, one grain without a mark, is added to memory. -/
theorem atomicApply_of_first {s : State} {a : Atomic} {rest : List Atomic} {stack : Nat} (hqueue : s.mem.atomics = a :: rest)
    (hstack : (hbmMap (atomicPlace s a)).stack = stack) (hlen : a.len = grainOf a.fmt) (hmarks : a.marks = []) :
    (atomicApply s stack).mem = { s.mem with atomics := rest, dram := grainAdded s a } := by
  have hsums : (atomicSums s a).1 = grainAdded s a := by
    rw [atomicSums, hlen, Nat.div_self (grainOf_pos _), addGrains_one]
    rfl
  have hcounted (r : State) (p : Page) (k : Nat) : (atomicCounted r p k).mem = r.mem := onlyIn_atomicCounted r p k .mem (by decide)
  unfold atomicApply
  dsimp only
  rw [hqueue, List.find?_cons_of_pos (by exact beq_iff_eq.mpr hstack), dropFirst, if_pos (by exact beq_iff_eq.mpr hstack)]
  dsimp only
  rw [applyAtomic_eq, hcounted, atomicStored, if_pos (by rw [hmarks]; rfl), ← hsums, readCounted_mem]
  rfl

/-! ### Peeks at an agent's directory (R190) -/

theorem dirPeek_of_own {s : State} {k tile : Nat} (htile : field (s.regN ⟨.dir, k⟩ 0x104) 0 0 * 2 ^ 32 + s.regN ⟨.dir, k⟩ 0x100 = tile)
    (hdata : isDataTile tile = true) (hown : agentOf tile = k) : dirPeek s k =
    ((s.setRegN ⟨.dir, k⟩ 0x108 (s.entry tile % 2 ^ 32)).setRegN ⟨.dir, k⟩ 0x10C (s.entry tile / 2 ^ 32), s.entry tile % 2 ^ 32, true) := by
  unfold dirPeek
  dsimp only
  rw [htile, hdata, if_pos (by rw [Bool.true_or, Bool.true_and]; exact beq_iff_eq.mpr hown)]

theorem dirPeek_of_other {s : State} {k : Nat}
    (hother : agentOf (field (s.regN ⟨.dir, k⟩ 0x104) 0 0 * 2 ^ 32 + s.regN ⟨.dir, k⟩ 0x100) ≠ k) :
    dirPeek s k = ((s.setRegN ⟨.dir, k⟩ 0x108 0).setRegN ⟨.dir, k⟩ 0x10C 0, 0, false) := by
  unfold dirPeek
  dsimp only
  rw [if_neg (by rw [Bool.and_eq_true, beq_iff_eq]; exact fun h => hother h.2)]

/-- What a read of PEEK_LO leaves and answers, from the peek that it makes. -/
def peekAnswered (p : Page) (who : Requester) : State × Nat × Bool → State × BusAns
  | (t, v, true) => (t, .value v)
  | (t, v, false) => (t.logReq p kindEvent who false 0x108, .value v)

theorem pageRead_dirPeek (s : State) {p : Page} (who : Requester) (hp : isDebug p 0x108 = false) (hb : p.block = .dir) :
    pageRead s p who 0x108 = peekAnswered p who (dirPeek s p.inst) := by
  unfold pageRead
  rw [if_neg (by rw [hp]; decide), if_neg (by decide), if_neg (by decide), hb]
  refine (if_pos rfl).trans ?_
  generalize dirPeek s p.inst = r
  rcases r with ⟨t, v, _ | _⟩
  · rfl
  · rfl

theorem exec_dirPeek {s s1 : State} {k : Fin 12} {who : Requester} (h : ReadReaches s s1 ⟨.dir, k.val⟩ 0x108 who) :
    exec (.dirPeek k who) s = .next (peekAnswered ⟨.dir, k.val⟩ who (dirPeek (seenBy s who) k.val)).1 := by
  show Host.Outcome.next (busRead s ((⟨.dir, k.val⟩ : Page).key 0x108) who).1 = _
  rw [busRead_of_reaches h, h.eq_seenBy, Page.key_mod _ (by decide), pageRead_dirPeek _ _ (by simp [isDebug]) rfl]

theorem atomicsAndPeeks : Claims.AtomicsAndPeeks := by
  refine ⟨fun s a rest hin => ⟨fun hlen haddr hgrains hfit hsat hholds hhome hmoving htier => ⟨_, rfl, ?_⟩,
      fun haddr => ⟨_, rfl, ?_⟩⟩,
    fun s a rest stack hqueue hup hstack hlen _ hmarks =>
      ⟨_, congrArg Host.Outcome.next (whileRunning_of_running (s := s) _ hup), ?_⟩,
    fun s s1 stack who hreach => ⟨fun hdata hown => ⟨_, exec_dirPeek hreach, ?_⟩, fun hother => ⟨_, exec_dirPeek hreach, ?_⟩⟩⟩
  · have hmem : (atomicStore s).mem = { s.mem with
        atomicsIn := rest, shared := (({ s with mem.atomicsIn := rest } : State).accept (a.addr / 0x8000)).mem.shared
        atomics := s.mem.atomics ++ splitAtomic 128 a.sole (a.len / 128 + 2) } := by
      rw [atomicStore_of_aligned hin hlen haddr hgrains hfit hsat hholds hhome hmoving htier, acceptAtomic]
      dsimp only
      rw [accept_mem]
      rfl
    exact ⟨by rw [hmem]; rfl, by rw [hmem], by rw [hmem], by rw [hmem]⟩
  · rw [atomicStore_of_misaligned hin haddr, dropAtomic]
    have hmem (r : State) (p : Page) (w : Requester) : (((r.raise p 1).bump p 5).logReq p kindEvent w true 0x018).mem = r.mem :=
      (State.bump_mem ..).trans rfl
    refine ⟨?_, ?_, ?_, ?_⟩
    · rw [hmem]
    · rw [hmem]
    · rw [hmem]
    · rw [State.regN_logReq, State.regN_bump]
      exact State.bitAt_raise_self _ _ (by decide)
  · have hmem := atomicApply_of_first hqueue hstack hlen hmarks
    exact ⟨by rw [hmem], by rw [hmem], by rw [hmem]; rfl⟩
  · have hlt := s.entry_lt (field (s.regN ⟨.dir, stack.val⟩ 0x104) 0 0 * 2 ^ 32 + s.regN ⟨.dir, stack.val⟩ 0x100)
    have hentry (n : Nat) : (seenBy s who).entry n = s.entry n := seenBy_keep s who (State.entry · n) fun _ => rfl
    rw [dirPeek_of_own (s := seenBy s who) (by rw [seenBy_regN, seenBy_regN]) hdata hown, hentry]
    generalize s.entry _ = e at hlt
    refine ⟨seenBy_keep s who State.mem fun _ => rfl, ?_, ?_⟩
    · show State.regN (State.setRegN (State.setRegN _ _ _ _) _ _ _) _ _ = _
      rw [State.regN_setRegN_ne _ _ (Page.key_ne _ (by decide)), State.regN_setRegN_self, Nat.mod_mod]
    · show State.regN (State.setRegN (State.setRegN _ _ _ _) _ _ _) _ _ = _
      rw [State.regN_setRegN_self, Nat.mod_eq_of_lt (by omega)]
  · rw [dirPeek_of_other (s := seenBy s who) (by rw [seenBy_regN, seenBy_regN]; exact hother)]
    refine ⟨seenBy_keep s who State.mem fun _ => rfl, ?_, ?_, ?_⟩
    · show State.regN (State.logReq (State.setRegN (State.setRegN _ _ _ _) _ _ _) _ _ _ _ _) _ _ = _
      rw [State.regN_logReq, State.regN_setRegN_ne _ _ (Page.key_ne _ (by decide)), State.regN_setRegN_self, Nat.zero_mod]
    · show State.regN (State.logReq (State.setRegN (State.setRegN _ _ _ _) _ _ _) _ _ _ _ _) _ _ = _
      rw [State.regN_logReq, State.regN_setRegN_self, Nat.zero_mod]
    · refine (log_logReq_writeSeq ..).trans ?_
      exact congrArg (fun l : ErrLog => wrapSucc 16 l.writeSeq) (seenBy_log s who _)

/-- Settles O28: a Stash store by the depth it names, an alias-window store and its lines, and a peek, each through what its agent's
acceptance leaves unchanged. -/
theorem stashAndAtomics : Obligations.StashAndAtomics := ⟨stashStores, atomicsAndPeeks⟩

end Sys2Proof.Machine
end

section
/-! SUPPORT. The memory code on sectors without an error and with one symbol in error (R211-R213): the powers of α multiply as their
exponents add, so the syndromes of one symbol name its position and its bits. -/

namespace Sys2Proof.Machine

/-! ### Powers of α -/

theorem gfTwice_lt : ∀ a, a < 256 → gfTwice a < 256 := by decide +kernel

theorem gfTwice_pos : ∀ a, a < 256 → 0 < a → 0 < gfTwice a := by decide +kernel

theorem gfMul_two : ∀ a, a < 256 → gfMul 2 a = gfTwice a := by decide +kernel

theorem gfMul_one : ∀ a, a < 256 → gfMul 1 a = a := by decide +kernel

theorem gfTwice_eq : ∀ a, a < 256 → gfTwice a = (a <<< 1) ^^^ (if a.testBit 7 then 0x11D else 0) := by decide +kernel

/-- Doubling is linear. -/
theorem gfTwice_xor {a b : Nat} (ha : a < 256) (hb : b < 256) : gfTwice (a ^^^ b) = gfTwice a ^^^ gfTwice b := by
  have hab : a ^^^ b < 2 ^ 8 := Nat.xor_lt_two_pow ha hb
  rw [gfTwice_eq _ hab, gfTwice_eq _ ha, gfTwice_eq _ hb, Nat.shiftLeft_xor_distrib, Nat.testBit_xor]
  cases a.testBit 7 <;> cases b.testBit 7 <;> simp [Nat.xor_assoc, Nat.xor_left_comm, Nat.xor_comm]

theorem gfMulBits_lt (n : Nat) : ∀ a b, a < 256 → gfMulBits n a b < 256 := by
  induction n with
  | zero => exact fun a b _ => (by decide : 0 < 256)
  | succ n ih =>
    intro a b ha
    have hlow : (if b % 2 = 1 then a else 0) < 2 ^ 8 := by split <;> omega
    exact Nat.xor_lt_two_pow hlow (ih _ _ (gfTwice_lt a ha))

/-- Twice a factor is twice the product. -/
theorem gfMulBits_gfTwice (n : Nat) : ∀ a b, a < 256 → gfMulBits n (gfTwice a) b = gfTwice (gfMulBits n a b) := by
  induction n with
  | zero => exact fun a b _ => rfl
  | succ n ih =>
    intro a b ha
    have hlow : (if b % 2 = 1 then a else 0) < 256 := by split <;> omega
    rw [gfMulBits, gfMulBits, gfTwice_xor hlow (gfMulBits_lt n _ _ (gfTwice_lt a ha)), ih _ _ (gfTwice_lt a ha)]
    split <;> rfl

theorem alphaPow_succ_lt (n : Nat) : alphaPow n < 256 ∧ 0 < alphaPow n ∧ alphaPow (n + 1) = gfTwice (alphaPow n) := by
  have hstep (k : Nat) (h : alphaPow k < 256) : alphaPow (k + 1) = gfTwice (alphaPow k) := gfMul_two _ h
  induction n with
  | zero => exact ⟨by decide, by decide, by decide⟩
  | succ n ih =>
    obtain ⟨hlt, hpos, hnext⟩ := ih
    have hlt' : alphaPow (n + 1) < 256 := hnext ▸ gfTwice_lt _ hlt
    exact ⟨hlt', hnext ▸ gfTwice_pos _ hlt hpos, hstep _ hlt'⟩

theorem alphaPow_lt (n : Nat) : alphaPow n < 256 := (alphaPow_succ_lt n).1

theorem alphaPow_ne_zero (n : Nat) : alphaPow n ≠ 0 := (alphaPow_succ_lt n).2.1.ne'

theorem alphaPow_succ (n : Nat) : alphaPow (n + 1) = gfTwice (alphaPow n) := (alphaPow_succ_lt n).2.2

/-- Exponents add. -/
theorem gfMul_alphaPow (m n : Nat) : gfMul (alphaPow m) (alphaPow n) = alphaPow (m + n) := by
  induction m with
  | zero => rw [Nat.zero_add]; exact gfMul_one _ (alphaPow_lt n)
  | succ m ih => rw [Nat.add_right_comm, alphaPow_succ, alphaPow_succ, ← ih]; exact gfMulBits_gfTwice 8 _ _ (alphaPow_lt m)

theorem alphaPow_period (n k : Nat) : alphaPow (n + 255 * k) = alphaPow n := by
  have hone : alphaPow 255 = alphaPow 0 := by decide +kernel
  induction k with
  | zero => rfl
  | succ k ih => rw [Nat.mul_succ, ← Nat.add_assoc, ← gfMul_alphaPow, hone, gfMul_alphaPow, Nat.add_zero, ih]

theorem alphaPow_mod (n : Nat) : alphaPow (n % 255) = alphaPow n := by
  rw [← alphaPow_period (n % 255) (n / 255), Nat.mod_add_div]

theorem alphaPow_congr {m n : Nat} (h : m % 255 = n % 255) : alphaPow m = alphaPow n := by rw [← alphaPow_mod m, h, alphaPow_mod]

theorem gfInv_alphaPow (n : Nat) : gfInv (alphaPow n) = alphaPow (254 * n) := by
  unfold gfInv
  simp only [gfMul_alphaPow]
  congr 1
  omega

theorem gfPow_alphaPow (n k : Nat) : gfPow (alphaPow n) k = alphaPow (n * k) := by
  induction k with
  | zero => rfl
  | succ k ih => rw [gfPow, ih, gfMul_alphaPow, Nat.mul_succ, Nat.add_comm]

/-! ### Decoding (R213) -/

theorem decodeSector_none (b : Bool) : decodeSector b [] = if b then .poison false else .clean := by
  cases b
  · decide +kernel
  · decide +kernel

/-- The low powers of α differ. -/
theorem find_alphaPow : ∀ pos, pos < 72 → (List.range 72).find? (fun i => alphaPow i == alphaPow pos) = some pos := by decide +kernel

/-- The symbols' elements are the powers of α^17, and differ. -/
theorem symElem_alphaPow : ∀ v, v < 16 → 0 < v → (∃ j, j < 15 ∧ symElem v = alphaPow (17 * j)) ∧
    (List.range 16).find? (fun b => symElem b == symElem v) = some v := by decide +kernel

/-- The syndromes of one symbol in error name it. -/
theorem singleErr_alphaPow {pos v j : Nat} (hpos : pos < 72) (hj : symElem v = alphaPow (17 * j))
    (hv : (List.range 16).find? (fun b => symElem b == symElem v) = some v) :
    singleErr (alphaPow (17 * j + pos)) (alphaPow (17 * j + 2 * pos)) (alphaPow (17 * j + 3 * pos)) (alphaPow (17 * j + 4 * pos)) =
      some (pos, v) := by
  have hx : gfMul (alphaPow (17 * j + 2 * pos)) (gfInv (alphaPow (17 * j + pos))) = alphaPow pos := by
    rw [gfInv_alphaPow, gfMul_alphaPow]
    exact alphaPow_congr (by omega)
  have he : gfMul (alphaPow (17 * j + pos)) (gfInv (alphaPow pos)) = symElem v := by
    rw [gfInv_alphaPow, gfMul_alphaPow, hj]
    exact alphaPow_congr (by omega)
  have h3 : alphaPow (17 * j + 3 * pos) = gfMul (alphaPow (17 * j + 2 * pos)) (alphaPow pos) := by
    rw [gfMul_alphaPow]
    exact alphaPow_congr (by omega)
  have h4 : alphaPow (17 * j + 4 * pos) = gfMul (alphaPow (17 * j + 3 * pos)) (alphaPow pos) := by
    rw [gfMul_alphaPow]
    exact alphaPow_congr (by omega)
  have hroot : gfPow (symElem v) 15 = 1 := by
    rw [hj, gfPow_alphaPow]
    exact alphaPow_congr (n := 0) (by omega)
  unfold singleErr
  dsimp only
  rw [if_neg (alphaPow_ne_zero _), hx, find_alphaPow pos hpos]
  dsimp only
  rw [he, if_pos ⟨h3, h4, hroot⟩, hv]
  rfl

/-- Whatever bits of a symbol are wrong, the code names the symbol and those bits (R212, R213). -/
theorem decodeSector_one {pos v : Nat} (hpos : pos < 72) (hlt : v < 16) (hv : 0 < v) : decodeSector false [(pos, v)] = .ce pos v := by
  obtain ⟨⟨j, -, hj⟩, hfind⟩ := symElem_alphaPow v hlt hv
  have hsyndrome (k : Nat) : syndrome k [(pos, v)] = alphaPow (17 * j + k * pos) := by
    rw [syndrome, List.foldl_cons, List.foldl_nil, Nat.zero_xor, hj, gfMul_alphaPow]
    exact alphaPow_congr (show (17 * j + k * pos % 255) % 255 = (17 * j + k * pos) % 255 by omega)
  unfold decodeSector decodeSyndromes
  rw [hsyndrome, hsyndrome, hsyndrome, hsyndrome, Nat.one_mul, show b2n false = 0 from rfl, Nat.xor_zero,
    if_neg fun h => alphaPow_ne_zero _ h.1, if_neg fun h => alphaPow_ne_zero _ h.1, singleErr_alphaPow hpos hj hfind]

theorem get_flipTwice (m : List Host.Cell) (a pos v b : Nat) : Mem.get (flipSector m a [(pos, v), (pos, v)]) b = Mem.get m b := by
  unfold flipSector
  rw [List.foldl_cons, List.foldl_cons, List.foldl_nil]
  dsimp only
  split
  · rw [Mem.get_set, Mem.get_set_self, Mem.get_set, BitVec.xor_assoc, BitVec.xor_self, BitVec.xor_zero]
    split
    · rename_i hb
      rw [hb]
    · rfl
  · rfl

end Sys2Proof.Machine
end

section
/-! SUPPORT. Sectors of HBM as a controller reads and writes them: what each decoded outcome changes (R213-R216). -/

namespace Sys2Proof.Machine

/-! ### What a read of sectors can change of memory -/

/-- Memory is the same but for the bytes, the poison, the controllers' records and the messages that a decoded sector sends. -/
def ReadFrame (s t : State) : Prop := t.mem = { s.mem with
  dram := t.mem.dram, poison := t.mem.poison, hbm := t.mem.hbm, shared := t.mem.shared, poisonNotices := t.mem.poisonNotices
  ledgerIn := t.mem.ledgerIn }

theorem ReadFrame.of_mem {s t : State} (h : t.mem = s.mem) : ReadFrame s t := by rw [ReadFrame, h]

theorem ReadFrame.trans {s t r : State} (h : ReadFrame s t) (g : ReadFrame t r) : ReadFrame s r := by
  rw [ReadFrame] at h g ⊢
  rw [g, h]

theorem ReadFrame.foldl {α : Type} {f : State → α → State} (hf : ∀ s x, ReadFrame s (f s x)) (s : State) (l : List α) :
    ReadFrame s (l.foldl f s) := by
  induction l generalizing s with
  | nil => exact .of_mem rfl
  | cons x l ih => exact (hf s x).trans (ih _)

theorem ReadFrame.ite {s t r : State} {c : Prop} [Decidable c] (h : ReadFrame s t) (g : ReadFrame s r) : ReadFrame s (if c then t else r) := by
  split
  · exact h
  · exact g

/-- Only the controllers' records differ, and what counts what has gone. -/
structure Watched (s t : State) : Prop where
  mem : t.mem = { s.mem with hbm := t.mem.hbm }
  regs : t.regs = s.regs

theorem Watched.refl (s : State) : Watched s s := ⟨rfl, rfl⟩

theorem Watched.trans {s t r : State} (h : Watched s t) (g : Watched t r) : Watched s r :=
  ⟨by rw [g.mem, h.mem], g.regs.trans h.regs⟩

theorem Watched.setStack {s t : State} (h : Watched s t) (n : Nat) (k : Stack) : Watched s (t.setStack n k) :=
  h.trans ⟨rfl, rfl⟩

theorem Watched.ite {s t r : State} {c : Prop} [Decidable c] (h : Watched s t) (g : Watched s r) : Watched s (if c then t else r) := by
  split
  · exact h
  · exact g

theorem Watched.bump {s t : State} (h : Watched s t) (p : Page) (sel : Nat) : Watched s (t.bump p sel) :=
  h.trans ⟨by rw [State.bump_mem], State.bump_regs ..⟩

theorem Watched.readFrame {s t : State} (h : Watched s t) : ReadFrame s t := by
  rw [ReadFrame, h.mem]

theorem watched_dueRemap (s : State) (n key : Nat) : Watched s (dueRemap s n key) :=
  .ite (.refl s) ((Watched.refl s).setStack _ _)

theorem watched_watchRow (s : State) (n key : Nat) : Watched s (watchRow s n key) := by
  unfold watchRow
  dsimp only
  have hset (k : Stack) := (Watched.refl s).setStack n k
  exact .ite ((Watched.ite ((hset _).bump _ _) (hset _)).trans (watched_dueRemap ..)) (.ite ((hset _).bump _ _) (hset _))

theorem watched_watchLane (s : State) (h : HbmSpot) (errs : List SymErr) : Watched s (watchLane s h errs) := by
  unfold watchLane
  split
  · exact .refl s
  · exact .ite ((Watched.refl s).setStack _ _) (.refl s)

theorem readFrame_poisonArises (s : State) (a : Nat) : ReadFrame s (poisonArises s a) := by
  have htrigger (s : State) (x y z : Nat) : ReadFrame s (s.trigger x y z) := rfl
  unfold poisonArises
  dsimp only
  split
  · rfl
  · split
    · exact .foldl (fun s k => .ite (htrigger ..) (.of_mem rfl)) s _
    · split
      · split
        · rfl
        · exact .of_mem rfl
      · exact .ite (htrigger ..) (htrigger ..)
  · exact .of_mem rfl

/-! ### A decoded sector -/

/-- The HBC page of a line's stack. -/
def linePage (line : Nat) : Page := hbcPage (hbmMap (128 * line)).stack

/-- A CE outcome is counted, raised, and told to the ledger and the watches (R217, R221). -/
def ceSeen (s : State) (h : HbmSpot) (errs : List SymErr) : State :=
  watchLane (watchRow (((s.bump (hbcPage h.stack) 1).raise (hbcPage h.stack) 0).toLedger (bankUnit h) 2 h.row) h.stack h.rowKey) h errs

/-- A sector that reads poison is poison, counted and raised. -/
def poisonSeen (s : State) (p : Page) (i : Nat) : State :=
  (({ s with mem.poison := NSet.insert s.mem.poison i } : State).bump p 3).raise p 2

/-- A sector that reads UE is poison, counted and raised. -/
def ueRaised (s : State) (a : Nat) : State :=
  (({ s with mem.poison := NSet.insert s.mem.poison (a / 32) } : State).bump (hbcPage (hbmMap a).stack) 2).raise (hbcPage (hbmMap a).stack) 1

/-- The first UE of a stack is recorded with its place (R214). -/
def ueRecorded (s : State) (a sector : Nat) (scrub : Bool) : State :=
  let h := hbmMap a
  let t := (ueRaised s a).record (hbcPage h.stack) 0x108 (b2n scrub * 2 ^ 29 + rowDepth (ueRaised s a) h.stack h.rowKey * 2 ^ 27 +
    h.row * 2 ^ 13 + h.bank * 2 ^ 7 + h.pseudo * 2 ^ 6 + h.channel * 2)
  if s.isFirst (hbcPage h.stack) 0x108 then t.setRegN (hbcPage h.stack) 0x10C (h.column * 4 + sector) else t

/-- A UE outcome. -/
def ueSeen (s : State) (a sector : Nat) (errs : List SymErr) (scrub : Bool) : State :=
  let h := hbmMap a
  dueRemap (watchLane (poisonArises ((ueRecorded s a sector scrub).toLedger (bankUnit h) 3 h.row) a) h errs) h.stack h.rowKey

/-- What the outcome of a sector's decoding does. -/
def sectorActed (s : State) (a sector : Nat) (errs : List SymErr) (scrub : Bool) : Decoded → State
  | .clean => { s with mem.dram := flipSector s.mem.dram a errs }
  | .ce i v => ceSeen { s with mem.dram := flipSector s.mem.dram a (errs ++ [(i, v)]) } (hbmMap a) errs
  | .poison ce =>
    if ce then ceSeen (poisonSeen s (hbcPage (hbmMap a).stack) (a / 32)) (hbmMap a) errs
    else poisonSeen s (hbcPage (hbmMap a).stack) (a / 32)
  | .ue => ueSeen s a sector errs scrub

theorem readSector_eq (s : State) (line sector : Nat) (errs : List SymErr) (scrub : Bool) : readSector s line sector errs scrub =
    sectorActed (s.bump (hbcPage (hbmMap (128 * line + 32 * sector)).stack) 0) (128 * line + 32 * sector) sector errs scrub
      (decodeSector (s.mem.poison.contains ((128 * line + 32 * sector) / 32)) errs) := by
  unfold readSector
  dsimp only
  cases decodeSector (s.mem.poison.contains ((128 * line + 32 * sector) / 32)) errs <;> rfl

theorem watched_ceSeen (s : State) (h : HbmSpot) (errs : List SymErr) :
    Watched (((s.bump (hbcPage h.stack) 1).raise (hbcPage h.stack) 0).toLedger (bankUnit h) 2 h.row) (ceSeen s h errs) :=
  (watched_watchRow ..).trans (watched_watchLane ..)

theorem ceSeen_mem (s : State) (h : HbmSpot) (errs : List SymErr) : (ceSeen s h errs).mem =
    { s.mem with hbm := (ceSeen s h errs).mem.hbm, ledgerIn := (ceSeen s h errs).mem.ledgerIn } := by
  have hbump := s.bump_mem (hbcPage h.stack) 1
  obtain ⟨hmem, -⟩ := watched_ceSeen s h errs
  generalize s.bump (hbcPage h.stack) 1 = r at hbump hmem
  rw [hmem]
  show ({ r.mem with hbm := _, ledgerIn := _ } : Memory) = _
  rw [hbump]

theorem ceSeen_raises (s : State) (h : HbmSpot) (errs : List SymErr) :
    bitAt ((ceSeen s h errs).regN (hbcPage h.stack) 0x018) 0 = true := by
  rw [State.regN_congr (watched_ceSeen s h errs).regs]
  exact State.bitAt_raise_self _ _ (by decide)

theorem readFrame_ceSeen (s : State) (h : HbmSpot) (errs : List SymErr) : ReadFrame s (ceSeen s h errs) := by
  rw [ReadFrame, ceSeen_mem]

theorem readFrame_poisonSeen (s : State) (p : Page) (i : Nat) : ReadFrame s (poisonSeen s p i) :=
  ReadFrame.trans (t := { s with mem.poison := NSet.insert s.mem.poison i }) rfl (.of_mem (State.bump_mem ..))

theorem readFrame_ueRecorded (s : State) (a sector : Nat) (scrub : Bool) : ReadFrame s (ueRecorded s a sector scrub) := by
  have hraised : ReadFrame s (ueRaised s a) :=
    ReadFrame.trans (t := { s with mem.poison := NSet.insert s.mem.poison (a / 32) }) rfl (.of_mem (State.bump_mem ..))
  unfold ueRecorded
  dsimp only
  generalize ueRaised s a = r at hraised ⊢
  exact hraised.trans (.ite (.of_mem (State.record_mem ..)) (.of_mem (State.record_mem ..)))

theorem readFrame_ueSeen (s : State) (a sector : Nat) (errs : List SymErr) (scrub : Bool) : ReadFrame s (ueSeen s a sector errs scrub) := by
  unfold ueSeen
  refine (readFrame_ueRecorded s a sector scrub).trans ?_
  generalize ueRecorded s a sector scrub = r
  refine ReadFrame.trans (t := r.toLedger (bankUnit (hbmMap a)) 3 (hbmMap a).row) rfl ?_
  exact (readFrame_poisonArises ..).trans ((watched_watchLane ..).trans (watched_dueRemap ..)).readFrame

theorem readFrame_readSector (s : State) (line sector : Nat) (errs : List SymErr) (scrub : Bool) :
    ReadFrame s (readSector s line sector errs scrub) := by
  rw [readSector_eq]
  have hbump : ReadFrame s (s.bump (hbcPage (hbmMap (128 * line + 32 * sector)).stack) 0) := .of_mem (State.bump_mem ..)
  refine hbump.trans ?_
  generalize s.bump (hbcPage (hbmMap (128 * line + 32 * sector)).stack) 0 = r
  cases decodeSector _ errs with
  | clean => rfl
  | ce i v => exact .trans (t := { r with mem.dram := flipSector r.mem.dram _ (errs ++ [(i, v)]) }) rfl (readFrame_ceSeen ..)
  | poison ce => exact .ite ((readFrame_poisonSeen ..).trans (readFrame_ceSeen ..)) (readFrame_poisonSeen ..)
  | ue => exact readFrame_ueSeen ..

theorem readFrame_hbmRead (s : State) (line : Nat) (errs : List (Nat × SymErr)) (scrub : Bool) : ReadFrame s (hbmRead s line errs scrub) :=
  .ite (.of_mem rfl) (.foldl (fun _ _ => readFrame_readSector ..) s _)

/-! ### The parts that a read of sectors can change -/

/-- The parts of the state that a decoded sector can change. -/
def readParts : List Part := [.regs, .logs, .counters, .mem]

theorem onlyIn_dueRemap (s : State) (n key : Nat) : OnlyIn s (dueRemap s n key) [.mem] := .ite (OnlyIn.refl s) (OnlyIn.refl s).setStack

theorem onlyIn_watchRow (s : State) (n key : Nat) : OnlyIn s (watchRow s n key) [.logs, .counters, .mem] := by
  unfold watchRow
  dsimp only
  have hset (k : Stack) : OnlyIn s (s.setStack n k) [.mem] := (OnlyIn.refl s).setStack
  have hcounted (k : Stack) (c : Prop) [Decidable c] : OnlyIn s (if c then (s.setStack n k).bump (hbcPage n) 9 else s.setStack n k)
      [.logs, .counters, .mem] := (OnlyIn.ite (hset k).bump (hset k)).mono (by decide)
  exact (OnlyIn.ite ((hcounted _ _).trans (onlyIn_dueRemap _ _ _)) (hcounted _ _)).mono (by decide)

theorem onlyIn_watchLane (s : State) (h : HbmSpot) (errs : List SymErr) : OnlyIn s (watchLane s h errs) [.mem] := by
  unfold watchLane
  split
  · exact (OnlyIn.refl s).mono (by decide)
  · exact .ite (OnlyIn.refl s).setStack (OnlyIn.refl s)

theorem onlyIn_poisonArises (s : State) (a : Nat) : OnlyIn s (poisonArises s a) [.mem] := by
  have hrefl (s : State) : OnlyIn s s [.mem] := (OnlyIn.refl s).mono (by decide)
  unfold poisonArises
  dsimp only
  split
  · exact (OnlyIn.refl s).putMem
  · split
    · exact .foldl (fun s k => .ite (OnlyIn.refl s).trigger (OnlyIn.refl s)) s _
    · split
      · split
        · exact (OnlyIn.refl s).putMem
        · exact hrefl s
      · exact (OnlyIn.ite (OnlyIn.refl s).trigger (OnlyIn.refl s).trigger).mono (by decide)
  · exact hrefl s

theorem onlyIn_ceSeen (s : State) (h : HbmSpot) (errs : List SymErr) : OnlyIn s (ceSeen s h errs) readParts :=
  (((OnlyIn.refl s).bump.raise.toLedger.trans (onlyIn_watchRow _ _ _)).trans (onlyIn_watchLane _ _ _)).mono (by decide)

theorem onlyIn_poisonSeen (s : State) (p : Page) (i : Nat) : OnlyIn s (poisonSeen s p i) readParts :=
  (OnlyIn.refl s).putMem.bump.raise.mono (by decide)

theorem onlyIn_ueSeen (s : State) (a sector : Nat) (errs : List SymErr) (scrub : Bool) : OnlyIn s (ueSeen s a sector errs scrub) readParts := by
  have hraised : OnlyIn s (ueRaised s a) readParts := (OnlyIn.refl s).putMem.bump.raise.mono (by decide)
  have hrecorded : OnlyIn s (ueRecorded s a sector scrub) readParts := by
    unfold ueRecorded
    dsimp only
    generalize ueRaised s a = r at hraised ⊢
    exact (OnlyIn.ite hraised.record.setRegN hraised.record).mono (by decide)
  unfold ueSeen
  generalize ueRecorded s a sector scrub = r at hrecorded ⊢
  exact (((hrecorded.toLedger.trans (onlyIn_poisonArises _ _)).trans (onlyIn_watchLane _ _ _)).trans (onlyIn_dueRemap _ _ _)).mono (by decide)

theorem onlyIn_readSector (s : State) (line sector : Nat) (errs : List SymErr) (scrub : Bool) :
    OnlyIn s (readSector s line sector errs scrub) readParts := by
  rw [readSector_eq]
  have hbump : OnlyIn s (s.bump (hbcPage (hbmMap (128 * line + 32 * sector)).stack) 0) readParts := (OnlyIn.refl s).bump.mono (by decide)
  generalize s.bump (hbcPage (hbmMap (128 * line + 32 * sector)).stack) 0 = r at hbump ⊢
  refine (hbump.trans (qs := readParts) ?_).mono (by decide)
  cases decodeSector _ errs with
  | clean => exact (OnlyIn.refl r).putMem.mono (by decide)
  | ce i v => exact ((OnlyIn.refl r).putMem.trans (onlyIn_ceSeen _ _ _)).mono (by decide)
  | poison ce =>
    exact (OnlyIn.ite ((onlyIn_poisonSeen _ _ _).trans (onlyIn_ceSeen _ _ _)) (onlyIn_poisonSeen _ _ _)).mono (by decide)
  | ue => exact onlyIn_ueSeen _ _ _ _ _

theorem onlyIn_hbmRead (s : State) (line : Nat) (errs : List (Nat × SymErr)) (scrub : Bool) : OnlyIn s (hbmRead s line errs scrub) readParts :=
  .ite (OnlyIn.refl s) (.foldl (fun _ _ => onlyIn_readSector _ _ _ _ _) s _)

/-! ### Sectors without an error, and with one symbol in error (R213) -/

theorem hbmMap_sector {line k : Nat} (hk : k < 4) : hbmMap (128 * line + 32 * k) = hbmMap (128 * line) := by
  have hline : (128 * line + 32 * k) / 128 = 128 * line / 128 := by omega
  unfold hbmMap
  rw [hline]

theorem sector_div {line k : Nat} : (128 * line + 32 * k) / 32 = 4 * line + k := by omega

theorem readSector_of_clean {s : State} {line k : Nat} (hk : k < 4) (h : s.mem.poison.contains (4 * line + k) = false) (scrub : Bool) :
    readSector s line k [] scrub = s.bump (linePage line) 0 := by
  rw [readSector_eq, sector_div, h, decodeSector_none, hbmMap_sector hk]
  rfl

/-- A sector that is poison stays so. -/
theorem readSector_of_poison {s : State} {line k : Nat} (hk : k < 4) (h : s.mem.poison.contains (4 * line + k) = true) (scrub : Bool) :
    readSector s line k [] scrub = poisonSeen (s.bump (linePage line) 0) (linePage line) (4 * line + k) := by
  rw [readSector_eq, sector_div, h, decodeSector_none, hbmMap_sector hk, if_pos rfl, sectorActed,
    if_neg Bool.false_ne_true, sector_div, hbmMap_sector hk]
  rfl

/-- The same bytes, poison and directory. -/
structure SameContents (s t : State) : Prop where
  bytes : ∀ a, Mem.get t.mem.dram a = Mem.get s.mem.dram a
  poison : t.mem.poison = s.mem.poison
  dir : t.mem.dir = s.mem.dir

theorem SameContents.of_mem {s t : State} (h : t.mem = s.mem) : SameContents s t := ⟨fun a => by rw [h], by rw [h], by rw [h]⟩

theorem SameContents.trans {s t r : State} (h : SameContents s t) (g : SameContents t r) : SameContents s r :=
  ⟨fun a => (g.bytes a).trans (h.bytes a), g.poison.trans h.poison, g.dir.trans h.dir⟩

theorem sameContents_ceSeen (s : State) (h : HbmSpot) (errs : List SymErr) : SameContents s (ceSeen s h errs) :=
  ⟨fun b => by rw [ceSeen_mem], by rw [ceSeen_mem], by rw [ceSeen_mem]⟩

/-- One symbol in error is corrected, and raises CE. -/
theorem readSector_of_one {s : State} {line k pos v : Nat} (hk : k < 4) (h : s.mem.poison.contains (4 * line + k) = false) (hpos : pos < 72)
    (hv : 0 < v) (hlt : v < 16) (scrub : Bool) : SameContents s (readSector s line k [(pos, v)] scrub) ∧
      bitAt ((readSector s line k [(pos, v)] scrub).regN (linePage line) 0x018) 0 = true := by
  rw [readSector_eq, sector_div, h, decodeSector_one hpos hlt hv, hbmMap_sector hk, sectorActed, hbmMap_sector hk]
  have hbump : (s.bump (hbcPage (hbmMap (128 * line)).stack) 0).mem = s.mem := State.bump_mem ..
  generalize s.bump (hbcPage (hbmMap (128 * line)).stack) 0 = r at hbump
  refine ⟨SameContents.trans (.of_mem hbump) ?_, ceSeen_raises _ (hbmMap (128 * line)) _⟩
  exact .trans (t := { r with mem.dram := flipSector r.mem.dram (128 * line + 32 * k) ([(pos, v)] ++ [(pos, v)]) })
    ⟨fun b => get_flipTwice .., rfl, rfl⟩ (sameContents_ceSeen ..)

end Sys2Proof.Machine
end

section
/-! SUPPORT. Lines of HBM read, written and scrubbed (R213-R216). -/

namespace Sys2Proof.Machine

/-! ### Reads of a line -/

/-- The errors of one sector among those of a line. -/
def sectorErrs (errs : List (Nat × SymErr)) (k : Nat) : List SymErr := (errs.filter (fun e => decide (e.1 = k))).map (·.2)

theorem hbmRead_of_held {s : State} {line : Nat} (hline : line < 3 * 2 ^ 31) (hlost : s.placeLost (128 * line) = false)
    (errs : List (Nat × SymErr)) (scrub : Bool) : hbmRead s line errs scrub =
    (List.range 4).foldl (fun s k => readSector s line k (sectorErrs errs k) scrub) s :=
  if_neg (not_or.mpr ⟨by omega, by rw [hlost]; decide⟩)

/-- A line without poison. -/
def LineClean (s : State) (line : Nat) : Prop := ∀ k, k < 4 → s.mem.poison.contains (4 * line + k) = false

theorem onlyIn_readSectors_clean {line : Nat} : ∀ (l : List Nat) (s : State), (∀ k ∈ l, k < 4) → LineClean s line →
    OnlyIn s (l.foldl (fun s k => readSector s line k (sectorErrs [] k) false) s) [.counters, .logs]
  | [], s, _, _ => (OnlyIn.refl s).mono (by decide)
  | k :: l, s, hl, hclean => by
    have hk := hl k List.mem_cons_self
    have hstep : readSector s line k (sectorErrs [] k) false = s.bump (linePage line) 0 := readSector_of_clean hk (hclean k hk) false
    have hclean' : LineClean (s.bump (linePage line) 0) line := by
      intro j hj
      rw [State.bump_mem]
      exact hclean j hj
    rw [List.foldl_cons, hstep]
    exact ((OnlyIn.refl s).bump.trans (onlyIn_readSectors_clean l _ (fun j hj => hl j (List.mem_cons_of_mem _ hj)) hclean')).mono (by decide)

/-- One symbol in error on a line is corrected, and raises CE. -/
theorem readSectors_one {line k pos v : Nat} (hpos : pos < 72) (hv : 0 < v) (hlt : v < 16) : ∀ (l : List Nat) (s : State), (∀ j ∈ l, j < 4) →
    LineClean s line → SameContents s (l.foldl (fun s j => readSector s line j (sectorErrs [(k, pos, v)] j) false) s) ∧
      (bitAt (s.regN (linePage line) 0x018) 0 = true ∨ k ∈ l →
        bitAt ((l.foldl (fun s j => readSector s line j (sectorErrs [(k, pos, v)] j) false) s).regN (linePage line) 0x018) 0 = true)
  | [], s, _, _ => ⟨.of_mem rfl, fun h => h.resolve_right List.not_mem_nil⟩
  | j :: l, s, hl, hclean => by
    have hj := hl j List.mem_cons_self
    have hstep : SameContents s (readSector s line j (sectorErrs [(k, pos, v)] j) false) ∧
        (bitAt (s.regN (linePage line) 0x018) 0 = true ∨ k = j →
          bitAt ((readSector s line j (sectorErrs [(k, pos, v)] j) false).regN (linePage line) 0x018) 0 = true) := by
      by_cases hkj : k = j
      · have herrs : sectorErrs [(k, pos, v)] j = [(pos, v)] := by simp [sectorErrs, hkj]
        obtain ⟨hsame, hbit⟩ := readSector_of_one hj (hclean j hj) hpos hv hlt false
        rw [herrs]
        exact ⟨hsame, fun _ => hbit⟩
      · have herrs : sectorErrs [(k, pos, v)] j = [] := by simp [sectorErrs, hkj]
        rw [herrs, readSector_of_clean hj (hclean j hj) false, State.regN_bump]
        exact ⟨.of_mem (State.bump_mem ..), fun h => h.resolve_right hkj⟩
    obtain ⟨hsame, hbit⟩ := hstep
    have hclean' : LineClean (readSector s line j (sectorErrs [(k, pos, v)] j) false) line := by
      intro i hi
      rw [hsame.poison]
      exact hclean i hi
    obtain ⟨hsame', hbit'⟩ := readSectors_one hpos hv hlt l _ (fun i hi => hl i (List.mem_cons_of_mem _ hi)) hclean'
    refine ⟨hsame.trans hsame', fun h => hbit' ?_⟩
    rcases h with h | h
    · exact .inl (hbit (.inl h))
    · exact (List.mem_cons.mp h).imp (fun e => hbit (.inr e)) id

theorem poisonNotice_of_head {s : State} {tile : Nat} {rest : List Nat} (h : s.mem.poisonNotices = tile :: rest)
    (hsat : s.saturated (agentOf tile) = false) : (poisonNotice s).mem = { s.mem with
      poisonNotices := rest, shared := (poisonNotice s).mem.shared
      dir := SMap.set s.mem.dir (entryIdx tile) (BitVec.ofNat 64 (eBit (s.entry tile) 60 true)) } := by
  have hhomes := sameHomes_accept { s with mem.poisonNotices := rest } tile
  have hmem := accept_mem { s with mem.poisonNotices := rest } tile
  have hentry : (({ s with mem.poisonNotices := rest } : State).accept tile).entry tile = s.entry tile := hhomes.entry tile
  unfold poisonNotice
  rw [h]
  dsimp only
  rw [if_neg (by rw [hsat]; decide), hentry]
  generalize ({ s with mem.poisonNotices := rest } : State).accept tile = r at hmem
  have hset (e : Nat) : (r.setEntry tile e).mem = { r.mem with dir := SMap.set r.mem.dir (entryIdx tile) (BitVec.ofNat 64 e) } := rfl
  rw [hset, hmem]

theorem hbmReads : Claims.HbmReads := by
  refine ⟨fun s line hline hup hlost hclean => ⟨?_, fun k pos v hk hpos hv hlt => ?_⟩, fun s tile rest hnotices hsat => ⟨_, rfl, ?_⟩⟩
  · refine ⟨_, congrArg Host.Outcome.next (whileRunning_of_running (s := s) _ hup), ?_⟩
    rw [hbmRead_of_held hline hlost]
    exact onlyIn_readSectors_clean _ s (fun k => List.mem_range.mp) hclean
  · refine ⟨_, congrArg Host.Outcome.next (whileRunning_of_running (s := s) _ hup), ?_⟩
    rw [hbmRead_of_held hline hlost]
    obtain ⟨⟨hbytes, hpoison, hdir⟩, hbit⟩ := readSectors_one (k := k) hpos hv hlt (List.range 4) s (fun k => List.mem_range.mp) hclean
    exact ⟨hbytes, hpoison, hdir, hbit (.inr (List.mem_range.mpr hk))⟩
  · have hmem := poisonNotice_of_head hnotices hsat
    have hentry : (poisonNotice s).entry tile = eBit (s.entry tile) 60 true :=
      (State.entry_congr (s := s.setEntry tile (eBit (s.entry tile) 60 true)) (by rw [hmem]; rfl) (by rw [hmem]; rfl) tile).trans
        (State.entry_setEntry_self s tile (eBit_lt (s.entry_lt tile) (by decide) _))
    refine ⟨?_, ?_, by rw [hmem], by rw [hmem]⟩
    · rw [hentry, ePoison, bitAt_eBit, if_pos rfl]
    · rw [hentry, eValid, eValid, bitAt_eBit, if_neg (by decide)]

/-! ### Whole-line writes (R215) -/

theorem writePart_whole (s : State) (a v : Nat) : s.writePart a 32 v =
    { s with mem.dram := Mem.write s.mem.dram a 32 v, mem.poison := NSet.erase s.mem.poison (a / 32) } := if_pos rfl

/-- A write of whole sectors ends their poison and no other. -/
theorem contains_poison_writePlace (m : Nat) : ∀ (s : State) (i v fuel : Nat), m < fuel → ∀ j,
    (s.writePlace (32 * i) (32 * m) v fuel).mem.poison.contains j = (decide (j < i ∨ i + m ≤ j) && s.mem.poison.contains j) := by
  induction m with
  | zero =>
    intro s i v fuel hfuel j
    obtain ⟨fuel, rfl⟩ := Nat.exists_eq_succ_of_ne_zero (Nat.ne_zero_of_lt hfuel)
    rw [State.writePlace, if_pos rfl, decide_eq_true (by omega), Bool.true_and]
  | succ m ih =>
    intro s i v fuel hfuel j
    obtain ⟨fuel, rfl⟩ := Nat.exists_eq_succ_of_ne_zero (Nat.ne_zero_of_lt hfuel)
    have hpart : min (32 * (m + 1)) (32 - 32 * i % 32) = 32 := by omega
    rw [State.writePlace, if_neg (by omega)]
    dsimp only
    rw [hpart, show 32 * i + 32 = 32 * (i + 1) by omega, show 32 * (m + 1) - 32 = 32 * m by omega, ih _ _ _ _ (by omega), writePart_whole]
    refine (congrArg (_ && ·) (NSet.contains_erase s.mem.poison (32 * i / 32) j)).trans ?_
    rw [show 32 * i / 32 = i by omega, ← Bool.and_assoc, ← Bool.decide_and]
    congr 2
    exact propext (by omega)

theorem contains_insertRange (p : NSet) (a n j : Nat) : (NSet.insertRange p a n).contains j = (decide (a ≤ j ∧ j < a + n) || p.contains j) := by
  rw [Bool.eq_iff_iff]
  simp only [NSet.insertRange, List.contains_eq_mem, List.mem_append, List.mem_filter, List.mem_map, List.mem_range, decide_eq_true_eq,
    Bool.or_eq_true]
  constructor
  · rintro (⟨hmem, -⟩ | ⟨i, hi, rfl⟩)
    · exact .inr hmem
    · exact .inl ⟨by omega, by omega⟩
  · rintro (⟨hle, hlt⟩ | hmem)
    · exact .inr ⟨j - a, by omega, by omega⟩
    · by_cases h : j < a ∨ a + n ≤ j
      · exact .inl ⟨hmem, h⟩
      · exact .inr ⟨j - a, by omega, by omega⟩

theorem foldl_never {α β : Type} {c : α → Bool} (f : β → α → β) (x : β) {l : List α} (h : ∀ k ∈ l, c k = false) :
    l.foldl (fun x k => if c k then f x k else x) x = x := by
  induction l with
  | nil => rfl
  | cons k l ih =>
    rw [List.foldl_cons, if_neg (by rw [h k List.mem_cons_self]; decide)]
    exact ih fun j hj => h j (List.mem_cons_of_mem _ hj)

/-- A whole line is put in place, with its poison mark if it has one. -/
theorem hbmWrite_of_held {s : State} {line : Nat} (hline : line < 3 * 2 ^ 31) (hlost : s.placeLost (128 * line) = false) (data : Line)
    (mark : Bool) (errs : List (Nat × SymErr)) : hbmWrite s line 0 128 data mark errs =
    if mark then
      match tileOfHbm ((s.put (128 * line) 128 data.toNat).poisonLine (128 * line)) (128 * line) with
      | some t => ((s.put (128 * line) 128 data.toNat).poisonLine (128 * line)).setEntry t
          (eBit (((s.put (128 * line) 128 data.toNat).poisonLine (128 * line)).entry t) 60 true)
      | none => (s.put (128 * line) 128 data.toNat).poisonLine (128 * line)
    else s.put (128 * line) 128 data.toNat := by
  have hdata : data.toNat % 256 ^ 128 = data.toNat := Nat.mod_eq_of_lt (lt_of_lt_of_eq data.isLt (Nat.pow_mul 2 8 128))
  have hnone := foldl_never (c := fun k => decide (0 < 32 * k + 32 ∧ 32 * k < 0 + 128) && !decide (0 ≤ 32 * k ∧ 32 * k + 32 ≤ 0 + 128))
    (fun s k => readSector s line k (sectorErrs errs k) false) s (l := List.range 4) (by decide)
  unfold hbmWrite
  dsimp only
  rw [if_neg (not_or.mpr ⟨by omega, not_or.mpr ⟨by decide, by rw [hlost]; decide⟩⟩), show min 128 (128 - 0) = 128 by decide, hdata,
    Nat.add_zero]
  unfold sectorErrs at hnone
  rw [hnone]
  rfl

theorem frameTile_congr {s t : State} (h : SameHomes s t) (hstash : t.mem.stashes = s.mem.stashes) (n : Nat) : frameTile t n = frameTile s n := by
  unfold frameTile lentDepth
  simp only [h.entry, h.lender, State.stash_of_stashes hstash]


/-- The poison mark of a line reaches the entry of the tile with its home there. -/
theorem hbmWrite_marked {s : State} {line tile off : Nat} {side : Bool} (hline : line < 3 * 2 ^ 31) (hlost : s.placeLost (128 * line) = false)
    (hspot : spotOf (128 * line) = .tile tile side off) (data : Line) (errs : List (Nat × SymErr)) : hbmWrite s line 0 128 data true errs =
    ((s.put (128 * line) 128 data.toNat).poisonLine (128 * line)).setEntry (frameTile s tile) (eBit (s.entry (frameTile s tile)) 60 true) := by
  have hregs : (s.put (128 * line) 128 data.toNat).regs = s.regs := onlyIn_put s _ _ _ .regs (by decide)
  have hmem := put_mem s (128 * line) 128 data.toNat
  have hhomes : SameHomes s ((s.put (128 * line) 128 data.toNat).poisonLine (128 * line)) :=
    .trans (t := s.put (128 * line) 128 data.toNat) (.of_mem (by rw [hmem]) (by rw [hmem]) hregs) (.of_mem rfl rfl rfl)
  have hstashes : (s.put (128 * line) 128 data.toNat).mem.stashes = s.mem.stashes := by rw [hmem]
  have htile : frameTile ((s.put (128 * line) 128 data.toNat).poisonLine (128 * line)) tile = frameTile s tile :=
    frameTile_congr hhomes hstashes tile
  rw [hbmWrite_of_held hline hlost, if_pos rfl, tileOfHbm, hspot]
  dsimp only
  rw [htile, hhomes.entry]

/-! ### Scrubbing (R216) -/

theorem scrubNext_of_none_retired {s : State} (h : s.mem.retired = []) (stack fuel pos : Nat) :
    scrubNext s stack (fuel + 1) pos false = if 2 ^ 29 ≤ pos then (0, true) else (pos, false) := by
  have hline (l : Nat) : lineRetired s l = false := by
    unfold lineRetired
    rw [h]
    split
    · rfl
    · exact Bool.and_false _
    · rfl
  unfold scrubNext
  dsimp only
  split
  · exact if_neg (by rw [hline]; decide)
  · exact if_neg (by rw [hline]; decide)

/-- A controller's record after a scrub read: the position moves on, and a pass that ended clears its watches. -/
def Stack.scrubbed (k : Stack) (pos tick : Nat) : Stack :=
  if 2 ^ 29 ≤ pos + 1 then { k with scrub := 0, scrubTick := tick, passes := wrapSucc 16 k.passes, watch := [], laneHits := [] }
  else { k with scrub := pos + 1, scrubTick := tick }

theorem scrubRead_of_due {s : State} {n : Nat} (hon : bitAt (s.regN (hbcPage n) 0x100) 31 = true)
    (hdue : (s.stack n).scrubTick + s.scrubInterval n ≤ s.tick) (hlost : (s.stack n).lost = false) (hretired : s.mem.retired = [])
    (hlt : (s.stack n).scrub < 2 ^ 29) (errs : List (Nat × SymErr)) : ∃ r, ReadFrame s r ∧
      scrubRead s n errs = r.setStack n ((r.stack n).scrubbed (s.stack n).scrub s.tick) := by
  have hframe : ReadFrame s ((hbmRead s (scrubLine n (s.stack n).scrub) errs true).bump (hbcPage n) 4) :=
    (readFrame_hbmRead ..).trans (.of_mem (State.bump_mem ..))
  have htick : ((hbmRead s (scrubLine n (s.stack n).scrub) errs true).bump (hbcPage n) 4).tick = s.tick :=
    (State.bump_tick ..).trans (onlyIn_hbmRead s _ errs true .tick (by decide))
  refine ⟨_, hframe, ?_⟩
  have hretired' : ((hbmRead s (scrubLine n (s.stack n).scrub) errs true).bump (hbcPage n) 4).mem.retired = [] := by rw [hframe, hretired]
  unfold scrubRead
  dsimp only
  rw [hon, decide_eq_true hdue, hlost, if_pos (by decide), hretired]
  rw [show 256 * (([] : List Nat).length + 1) = 255 + 1 from rfl, scrubNext_of_none_retired hretired, if_neg (by omega)]
  dsimp only
  generalize (hbmRead s (scrubLine n (s.stack n).scrub) errs true).bump (hbcPage n) 4 = r at hretired' htick ⊢
  rw [hretired', show 256 * (([] : List Nat).length + 1) = 255 + 1 from rfl, scrubNext_of_none_retired hretired', Stack.scrubbed, htick]
  split
  · rfl
  · rfl

theorem scrubRead_of_early {s : State} {n : Nat} (h : s.tick < (s.stack n).scrubTick + s.scrubInterval n) (errs : List (Nat × SymErr)) :
    scrubRead s n errs = s := by
  unfold scrubRead
  dsimp only
  rw [decide_eq_false (by omega), Bool.and_false, Bool.false_and]
  rfl

theorem Stack.scrubbed_scrub {k : Stack} {pos tick : Nat} (h : pos < 2 ^ 29) : (k.scrubbed pos tick).scrub = (pos + 1) % 2 ^ 29 ∧
    (k.scrubbed pos tick).scrubTick = tick := by
  unfold Stack.scrubbed
  split
  · exact ⟨by show 0 = _; omega, rfl⟩
  · exact ⟨by show pos + 1 = _; omega, rfl⟩

theorem hbmWrites : Claims.HbmWrites := by
  refine ⟨fun s line data hline hup hlost => ⟨?_, fun tile side off hspot => ?_⟩, fun s stack errs hretired hlt hup =>
    ⟨fun hon hdue hkept => ?_, fun hearly => ?_⟩⟩
  · refine ⟨_, congrArg Host.Outcome.next (whileRunning_of_running (s := s) _ hup), ?_⟩
    show OnlyIn s (hbmWrite s line 0 128 data false []) _ ∧ (hbmWrite s line 0 128 data false []).mem.dram = _ ∧
      (∀ k, k < 4 → (hbmWrite s line 0 128 data false []).mem.poison.contains _ = _) ∧ (hbmWrite s line 0 128 data false []).mem.dir = _
    rw [hbmWrite_of_held hline hlost, if_neg Bool.false_ne_true]
    refine ⟨onlyIn_put _ _ _ _, rfl, fun k hk => ?_, by rw [put_mem]⟩
    have hpoison := contains_poison_writePlace 4 s (4 * line) data.toNat 6 (by decide) (4 * line + k)
    rw [show 32 * (4 * line) = 128 * line by omega, decide_eq_false (by omega), Bool.false_and] at hpoison
    exact hpoison
  · refine ⟨_, congrArg Host.Outcome.next (whileRunning_of_running (s := s) _ hup), ?_⟩
    show OnlyIn s (hbmWrite s line 0 128 data true []) _ ∧
      (∀ k, k < 4 → (hbmWrite s line 0 128 data true []).mem.poison.contains _ = _) ∧ ePoison ((hbmWrite s line 0 128 data true []).entry _) = _
    rw [hbmWrite_marked hline hlost hspot]
    refine ⟨((onlyIn_put _ _ _ _).putMem.setEntry).mono (by decide), fun k hk => ?_, ?_⟩
    · refine (contains_insertRange _ _ _ _).trans ?_
      rw [decide_eq_true (by omega), Bool.true_or]
    · rw [State.entry_setEntry_self _ _ (eBit_lt (s.entry_lt _) (by decide) _), ePoison, bitAt_eBit, if_pos rfl]
  · obtain ⟨r, hframe, hread⟩ := scrubRead_of_due hon hdue hkept hretired hlt errs
    obtain ⟨hpos, htick⟩ := Stack.scrubbed_scrub (k := r.stack stack.val) (tick := s.tick) hlt
    refine ⟨_, congrArg Host.Outcome.next ((whileRunning_of_running (s := s) _ hup).trans hread), ?_, ?_, ?_⟩
    · rw [State.stack_setStack, if_pos rfl, hpos]
    · rw [State.stack_setStack, if_pos rfl, htick]
    · show r.mem.dir = _
      rw [hframe]
  · exact congrArg Host.Outcome.next ((whileRunning_of_running (s := s) _ hup).trans (scrubRead_of_early hearly errs))

end Sys2Proof.Machine
end

section
/-! OBLIGATIONS. Reads, writes, scrubbing and repairs of HBM (R213-R222). -/

namespace Sys2Proof.Machine

/-! ### A row read for its copy (R218) -/

/-- A read without a new error leaves memory as it is. -/
structure ReadClean (s t : State) : Prop where
  mem : t.mem = { s.mem with poison := t.mem.poison }
  poison : ∀ i, t.mem.poison.contains i = s.mem.poison.contains i

theorem ReadClean.trans {s t r : State} (h : ReadClean s t) (g : ReadClean t r) : ReadClean s r :=
  ⟨by rw [g.mem, h.mem], fun i => (g.poison i).trans (h.poison i)⟩

theorem ReadClean.of_mem {s t : State} (h : t.mem = s.mem) : ReadClean s t := ⟨by rw [h], fun i => by rw [h]⟩

theorem readClean_poisonSeen {s : State} (p : Page) {i : Nat} (h : s.mem.poison.contains i = true) : ReadClean s (poisonSeen s p i) := by
  have hinsert : NSet.insert s.mem.poison i = s.mem.poison := if_pos h
  unfold poisonSeen
  rw [hinsert]
  exact .of_mem (State.bump_mem ..)

theorem readClean_readSector (s : State) (line : Nat) {k : Nat} (hk : k < 4) (scrub : Bool) : ReadClean s (readSector s line k [] scrub) := by
  have hbump : (s.bump (linePage line) 0).mem = s.mem := State.bump_mem ..
  by_cases h : s.mem.poison.contains (4 * line + k) = true
  · rw [readSector_of_poison hk h]
    exact .trans (.of_mem hbump) (readClean_poisonSeen _ (by rw [hbump]; exact h))
  · rw [readSector_of_clean hk (Bool.eq_false_iff.mpr h)]
    exact .of_mem hbump

theorem readClean_readRowSectors (s : State) (n key : Nat) : ReadClean s (readRowSectors s n key []) := by
  have hfold (l : List Nat) : ∀ s, ReadClean s (l.foldl (fun s i => readSector s (hbmUnmap (rowSpot n key (i / 4)) / 128) (i % 4) [] false) s) := by
    induction l with
    | nil => exact fun s => .of_mem rfl
    | cons i l ih => exact fun s => (readClean_readSector s _ (Nat.mod_lt _ (by decide)) false).trans (ih _)
  exact hfold _ s

theorem State.stack_of_hbm {s t : State} (h : t.mem.hbm = s.mem.hbm) (n : Nat) : t.stack n = s.stack n := by rw [State.stack, State.stack, h]

theorem Page.resetAt_istatus (p : Page) : p.resetAt 0x018 = 0 := by
  obtain ⟨b, i⟩ := p
  cases b <;> rfl

/-- An ISTATUS bit that is set stays set while bits are raised. -/
theorem State.bitAt_raise_of_set {s : State} {p : Page} {i : Nat} (q : Page) (j : Nat) (h : bitAt (s.regN p 0x018) i = true) :
    bitAt ((s.raise q j).regN p 0x018) i = true := by
  by_cases hkey : p.key 0x018 = q.key 0x018
  · have hreg (r : State) : r.regN p 0x018 = r.regN q 0x018 := by
      rw [State.regN, State.regN, State.reg, State.reg, hkey, p.resetAt_istatus, q.resetAt_istatus]
    rw [hreg] at h ⊢
    rw [State.regN, bitAt_toNat] at h ⊢
    rw [State.reg_raise_self, BitVec.getLsbD_or, h, Bool.true_or]
  · rwa [State.regN, State.reg_raise_ne _ _ hkey]

/-- A controller's record once a row has been copied into spare row `n` (R218). -/
def Stack.remapped (k : Stack) (key n : Nat) (used : List Nat) : Stack :=
  { k with
    remaps := k.remaps.filter (fun r => decide (r ≠ key)), rows := SMap.set k.rows key (used ++ [n])
    spares := SMap.set k.spares (key / 16384) (n + 1), watch := k.watch.filter (fun e => decide (e.1 ≠ key)) }

/-- The state once a row has been copied into spare row `n`, from the state after the row was read. -/
def rowRemapped (s : State) (h key n : Nat) (used : List Nat) : State :=
  let s := ((s.setStack h ((s.stack h).remapped key n used)).bump (hbcPage h) (5 + used.length)).raise (hbcPage h) 3
  mapChanged (if n + 1 = 16 then s.raise (hbcPage h) 6 else s)

theorem rowRemapped_mem (s : State) (h key n : Nat) (used : List Nat) : (rowRemapped s h key n used).mem =
    { s.mem with
      hbm := SMap.set s.mem.hbm h ((s.stack h).remapped key n used), repairSince := (rowRemapped s h key n used).mem.repairSince } := by
  have hbump := (s.setStack h ((s.stack h).remapped key n used)).bump_mem (hbcPage h) (5 + used.length)
  unfold rowRemapped mapChanged
  dsimp only
  generalize (s.setStack h ((s.stack h).remapped key n used)).bump (hbcPage h) (5 + used.length) = r at hbump
  have hraised : (if n + 1 = 16 then (r.raise (hbcPage h) 3).raise (hbcPage h) 6 else r.raise (hbcPage h) 3).mem = r.mem := by
    split <;> rfl
  rw [hraised, hbump]
  rfl

section
variable {s : State} {h key : Nat} {rest : List Nat} (hremaps : (s.stack h).remaps = key :: rest)
include hremaps

/-- The first row due is copied into the next spare row of its bank. -/
theorem rowRemap_of_spare {n : Nat} (hn : n = SMap.getD (s.stack h).spares 0 (key / 16384)) (hlt : n < 16)
    (hdepth : (SMap.getD (s.stack h).rows [] key).length < 2) :
    rowRemap s h [] = rowRemapped (readRowSectors s h key []) h key n (SMap.getD (s.stack h).rows [] key) := by
  unfold rowRemap
  dsimp only
  rw [hremaps]
  dsimp only
  rw [← hn, if_neg (by omega)]
  rfl

/-- A row at depth 2 is retired instead. -/
theorem rowRemap_of_deep (hdepth : 2 ≤ (SMap.getD (s.stack h).rows [] key).length) (errs : List (Nat × SymErr)) : rowRemap s h errs =
    s.setStack h { s.stack h with remaps := rest, retires := (s.stack h).retires ++ [key] } := by
  unfold rowRemap
  dsimp only
  rw [hremaps]
  exact if_pos (.inl hdepth)

end

theorem rowRemapped_raises (s : State) (h key n : Nat) (used : List Nat) :
    bitAt ((rowRemapped s h key n used).regN (hbcPage h) 0x018) 3 = true := by
  have hraised (r : State) : bitAt ((r.raise (hbcPage h) 3).regN (hbcPage h) 0x018) 3 = true := State.bitAt_raise_self _ _ (by decide)
  unfold rowRemapped
  generalize (s.setStack h ((s.stack h).remapped key n used)).bump (hbcPage h) (5 + used.length) = r
  show bitAt ((if n + 1 = 16 then (r.raise (hbcPage h) 3).raise (hbcPage h) 6 else r.raise (hbcPage h) 3).regN (hbcPage h) 0x018) 3 = true
  split
  · exact State.bitAt_raise_of_set _ _ (hraised r)
  · exact hraised r

/-! ### A retired row (R219) -/

/-- No due retirement, no byte and no raised bit is lost. -/
structure Retires (s t : State) : Prop where
  due : ∀ n, (t.stack n).retires = (s.stack n).retires
  dram : t.mem.dram = s.mem.dram
  raised : ∀ p i, bitAt (s.regN p 0x018) i = true → bitAt (t.regN p 0x018) i = true

theorem Retires.refl (s : State) : Retires s s := ⟨fun _ => rfl, rfl, fun _ _ => id⟩

theorem Retires.trans {s t r : State} (h : Retires s t) (g : Retires t r) : Retires s r :=
  ⟨fun n => (g.due n).trans (h.due n), g.dram.trans h.dram, fun p i hb => g.raised p i (h.raised p i hb)⟩

theorem Retires.ite {s t r : State} {c : Prop} [Decidable c] (h : Retires s t) (g : Retires s r) : Retires s (if c then t else r) := by
  split
  · exact h
  · exact g

theorem Retires.foldl {α : Type} {f : State → α → State} (hf : ∀ s x, Retires s (f s x)) (s : State) (l : List α) : Retires s (l.foldl f s) := by
  induction l generalizing s with
  | nil => exact .refl s
  | cons x l ih => exact (hf s x).trans (ih _)

theorem retires_raise (s : State) (p : Page) (i : Nat) : Retires s (s.raise p i) :=
  ⟨fun _ => rfl, rfl, fun _ _ hb => State.bitAt_raise_of_set _ _ hb⟩

theorem retires_bump (s : State) (p : Page) (sel : Nat) : Retires s (s.bump p sel) :=
  ⟨fun n => congrArg Stack.retires (State.stack_of_hbm (s := s) (by rw [State.bump_mem]) n), by rw [State.bump_mem], fun q i hb => by rwa [State.regN_bump]⟩

theorem retires_marked (s : State) (p : Page) (fr : Nat) : Retires s
    (if s.mem.retired.contains fr then s else ({ s with mem.retired := fr :: s.mem.retired } : State).bump p 7) :=
  .ite (.refl s) (Retires.trans (t := { s with mem.retired := fr :: s.mem.retired }) ⟨fun _ => rfl, rfl, fun _ _ => id⟩ (retires_bump ..))

theorem retires_noticed (s : State) (g : Nat) (n : Nat × Nat) : Retires s
    (if g < 12 then s.setStack g { s.stack g with notices := (s.stack g).notices ++ [n] } else s) := by
  refine .ite ⟨fun m => ?_, rfl, fun _ _ => id⟩ (.refl s)
  rw [State.stack_setStack]
  split
  · rename_i h
    rw [h]
  · rfl

theorem retires_useSpare (s : State) (k : Nat) : Retires s (useSpare s k) := by
  have hused : Retires s { s with mem.spareUsed := NSet.insert s.mem.spareUsed k } := ⟨fun _ => rfl, rfl, fun _ _ => id⟩
  exact .ite (hused.trans (retires_raise ..)) hused

theorem retires_retireLine (s : State) (n a : Nat) : Retires s (retireLine s n a) := by
  unfold retireLine
  dsimp only
  split
  · exact (retires_marked ..).trans (retires_noticed ..)
  · split
    · split
      · exact (retires_marked ..).trans (retires_noticed ..)
      · exact (retires_useSpare ..).trans (retires_marked ..)
    · exact retires_raise ..
  · exact .refl s

theorem rowRetire_of_due {s : State} {n key : Nat} {rest : List Nat} (h : (s.stack n).retires = key :: rest) :
    ((rowRetire s n).stack n).retires = rest ∧ bitAt ((rowRetire s n).regN (hbcPage n) 0x018) 4 = true ∧
      (rowRetire s n).mem.dram = s.mem.dram := by
  have hfold := Retires.foldl (fun s c => retires_retireLine s n (hbmUnmap (rowSpot n key c)))
    ((s.setStack n { s.stack n with retires := rest }).raise (hbcPage n) 4) (List.range 8)
  unfold rowRetire
  dsimp only
  rw [h]
  dsimp only
  generalize (List.range 8).foldl (fun s c => retireLine s n (hbmUnmap (rowSpot n key c)))
    ((s.setStack n { s.stack n with retires := rest }).raise (hbcPage n) 4) = r at hfold ⊢
  obtain ⟨hdue, hdram, hraised⟩ := hfold
  refine ⟨(hdue n).trans ?_, hraised _ _ (State.bitAt_raise_self _ _ (by decide)), hdram⟩
  exact congrArg Stack.retires ((State.stack_setStack ..).trans (if_pos rfl))

/-! ### A notice that reaches its tile's agent (R220) -/

theorem lentDepth_of_home {s : State} {n : Nat} (h : s.hasHome n = true) : lentDepth s n = none := by
  have hres : eStashRes (s.entry n) = false := by
    rw [State.hasHome, Bool.and_eq_true, Bool.not_eq_true'] at h
    exact h.2
  exact if_pos (by rw [hres]; rfl)

theorem freeSpare_congr {s t : State} (h : t.mem.spareUsed = s.mem.spareUsed) (n fuel k : Nat) : freeSpare t n fuel k = freeSpare s n fuel k := by
  induction fuel generalizing k with
  | zero => rfl
  | succ fuel ih =>
    unfold freeSpare
    rw [h, ih]

theorem State.frameOf_congr {s t : State} {n : Nat} (h : t.entry n = s.entry n) : t.frameOf n = s.frameOf n := by
  rw [State.frameOf, State.frameOf, h]

theorem useSpare_mem (s : State) (k : Nat) : (useSpare s k).mem = { s.mem with spareUsed := NSet.insert s.mem.spareUsed k } := by
  unfold useSpare
  dsimp only
  split <;> rfl

/-- A tile at rest at home in HBM begins its move to a spare frame. -/
theorem startReloc_of_home {s : State} {n tile fr sp fuel : Nat} (hrelocs : (s.stack n).relocs = [(tile, fr)]) (hhome : s.hasHome tile = true)
    (htier : eTier (s.entry tile) = 0) (hmoving : eMoving (s.entry tile) = false) (hframe : s.frameOf tile = fr) (hmoves : s.mem.moves = [])
    (hspare : freeSpare s n 10923 n = some sp) : startReloc s n (fuel + 1) =
    (useSpare (s.setStack n { s.stack n with relocs := [] }) sp).beginMove ⟨tile, .reloc n sp, 0, 0, 0, false⟩ := by
  have hlent : lentMoving s tile = false := by rw [lentMoving, hmoves]; rfl
  unfold startReloc
  dsimp only
  rw [hrelocs]
  dsimp only
  rw [hmoves, hlent, hmoving, lentDepth_of_home hhome, hhome, htier, hframe, hspare, if_neg (by simp), if_neg (by simp)]
  exact if_pos rfl

theorem beginMove_mem {s : State} {m : Move} (h : s.mem.atomics.all (fun k => decide (k.addr / 0x8000 ≠ m.tile)) = true) : (s.beginMove m).mem = { s.mem with
    dir := SMap.set s.mem.dir (entryIdx m.tile) (BitVec.ofNat 64 (eBit (s.entry m.tile) 61 true)), moves := s.mem.moves ++ [m] } := by
  unfold State.beginMove
  rw [settle_of_none h]
  rfl

theorem retireNotice_of_head {s : State} {h tile sp : Nat} (hnotices : (s.stack h).notices = [(tile, s.frameOf tile)])
    (hrelocs : (s.stack h).relocs = []) (hsat : s.saturated h = false) (hhome : s.hasHome tile = true) (htier : eTier (s.entry tile) = 0)
    (hmoving : eMoving (s.entry tile) = false) (hmoves : s.mem.moves = []) (hatomics : s.mem.atomics = [])
    (hspare : freeSpare s h 10923 h = some sp) : (retireNotice s h).mem = { s.mem with
      shared := (retireNotice s h).mem.shared, hbm := (retireNotice s h).mem.hbm, spareUsed := NSet.insert s.mem.spareUsed sp
      moves := [⟨tile, .reloc h sp, 0, 0, 0, false⟩], dir := SMap.set s.mem.dir (entryIdx tile) (BitVec.ofNat 64 (eBit (s.entry tile) 61 true)) } ∧
    ((retireNotice s h).stack h).notices = [] := by
  have hpopped : SameHomes s (s.setStack h { s.stack h with notices := [], relocs := [(tile, s.frameOf tile)] }) := .of_mem rfl rfl rfl
  have hhomes := hpopped.trans (sameHomes_accept (s.setStack h { s.stack h with notices := [], relocs := [(tile, s.frameOf tile)] }) tile)
  have hmem := accept_mem (s.setStack h { s.stack h with notices := [], relocs := [(tile, s.frameOf tile)] }) tile
  have hnotice : retireNotice s h = relocate ((s.setStack h { s.stack h with notices := [], relocs := [(tile, s.frameOf tile)] }).accept tile) h := by
    unfold retireNotice
    dsimp only
    rw [hnotices]
    dsimp only
    rw [if_neg (by rw [hsat]; decide), hrelocs]
    rfl
  rw [hnotice]
  generalize (s.setStack h { s.stack h with notices := [], relocs := [(tile, s.frameOf tile)] }).accept tile = r at hhomes hmem
  have hstack : r.stack h = { s.stack h with notices := [], relocs := [(tile, s.frameOf tile)] } :=
    (State.stack_of_hbm (s := s.setStack h { s.stack h with notices := [], relocs := [(tile, s.frameOf tile)] }) (by rw [hmem]) h).trans
      ((State.stack_setStack ..).trans (if_pos rfl))
  have hstart := startReloc_of_home (s := r) (n := h) (fuel := (r.stack h).relocs.length) (by rw [hstack]) (by rw [hhomes.hasHome, hhome])
    (by rw [hhomes.entry, htier]) (by rw [hhomes.entry, hmoving]) (State.frameOf_congr (hhomes.entry tile))
    (by rw [hmem]; exact hmoves) (by rw [freeSpare_congr (s := s) (by rw [hmem]; rfl), hspare])
  rw [relocate, hstart]
  have hused : (useSpare (r.setStack h { r.stack h with relocs := [] }) sp).mem = { s.mem with
      shared := r.mem.shared, hbm := SMap.set r.mem.hbm h { r.stack h with relocs := [] }, spareUsed := NSet.insert s.mem.spareUsed sp } := by
    have hset (k : Stack) : (r.setStack h k).mem = { r.mem with hbm := SMap.set r.mem.hbm h k } := rfl
    rw [useSpare_mem, hset]
    generalize SMap.set r.mem.hbm h _ = hbm
    rw [hmem]
    rfl
  generalize useSpare (r.setStack h { r.stack h with relocs := [] }) sp = u at hused
  have hbegun := beginMove_mem (s := u) (m := ⟨tile, .reloc h sp, 0, 0, 0, false⟩) (by rw [hused]; show s.mem.atomics.all _ = true; rw [hatomics]; rfl)
  have hentry : u.entry tile = s.entry tile := State.entry_congr (by rw [hused]) (by rw [hused]) tile
  refine ⟨?_, ?_⟩
  · rw [hbegun, hentry, hused, hmoves]
    rfl
  · have hstack' : u.stack h = { r.stack h with relocs := [] } := by
      rw [State.stack, hused]
      exact SMap.getD_set_self ..
    rw [State.stack_of_hbm (s := u) (by rw [hbegun]), hstack', hstack]

/-! ### Lanes, stack loss and the maps in flash (R218, R221, R222) -/

theorem State.stack_bump (s : State) (p : Page) (sel n : Nat) : (s.bump p sel).stack n = s.stack n := State.stack_of_hbm (by rw [State.bump_mem]) n

theorem stack_steered (s : State) (p : Page) (n : Nat) : (mapChanged ((s.bump p 0).raise p 0)).stack n = s.stack n := s.stack_bump p 0 n

section
variable {s : State} {h ch lane : Nat} {rest : List (Nat × Nat)} (hfails : (s.stack h).laneFails = (ch, lane) :: rest) (hlane : lane < 72)
include hfails hlane

/-- A lane of a channel that has a spare is steered onto it. -/
theorem laneRepair_of_spare (hspare : ((s.stack h).channel ch).failed.length < 2) : ((laneRepair s h).stack h).laneFails = rest ∧
    (((laneRepair s h).stack h).channel ch).failed = ((s.stack h).channel ch).failed ++ [lane] ∧
    bitAt ((laneRepair s h).regN (hbpPage h) 0x018) 0 = true := by
  have hlane' : ¬ lane = 72 := by omega
  unfold laneRepair
  dsimp only
  rw [hfails]
  dsimp only
  rw [if_neg hlane', if_neg hlane', decide_eq_true hspare, if_pos rfl]
  refine ⟨?_, ?_, State.bitAt_raise_self (State.bump ..) _ (by decide)⟩
  · rw [stack_steered, State.stack_setStack, if_pos rfl]
  · rw [stack_steered, State.stack_setStack, if_pos rfl]
    exact congrArg Channel.failed (SMap.getD_set_self ..)

/-- A channel beyond its spares is lost. -/
theorem laneRepair_of_beyond (hbeyond : 2 ≤ ((s.stack h).channel ch).failed.length) :
    ((laneRepair s h).stack h).lostChans = (s.stack h).lostChans ++ [ch] := by
  have hlane' : ¬ lane = 72 := by omega
  unfold laneRepair
  dsimp only
  rw [hfails]
  dsimp only
  rw [if_neg hlane', decide_eq_false (by omega), if_neg Bool.false_ne_true, State.stack_setStack, if_pos rfl]

end

theorem stackLost_of_channel {s : State} {h : Nat} (hlost : (s.stack h).lostChans ≠ []) : ((stackLost s h).stack h).lost = true ∧
    ((stackLost s h).stack h).lostChans = [] ∧ bitAt ((stackLost s h).regN (hbcPage h) 0x018) 7 = true ∧
    bitAt ((stackLost s h).regN (hbpPage h) 0x018) 1 = true ∧ (stackLost s h).retireDue = s.retireDue ++ [1] ∧
    (stackLost s h).mem.dram = s.mem.dram := by
  unfold stackLost
  dsimp only
  split
  · rename_i hnone
    exact absurd hnone hlost
  · refine ⟨?_, ?_, State.bitAt_raise_of_set (hbpPage h) 1 (State.bitAt_raise_self _ _ (by decide)), State.bitAt_raise_self _ _ (by decide), rfl, rfl⟩
    · exact congrArg Stack.lost ((State.stack_setStack ..).trans (if_pos rfl))
    · exact congrArg Stack.lostChans ((State.stack_setStack ..).trans (if_pos rfl))

theorem periodicRetrain_of_held {s : State} {h : Nat} (hheld : (s.stack h).lost = false) (ch : Nat) (lanes : List Nat) (command trained : Bool) :
    periodicRetrain s h ch lanes command trained = trainChannel (s.bump (hbpPage h) 1) h ch lanes command trained :=
  if_neg (by rw [hheld]; decide)

/-- A lane below its PHY's limit is declared failed. -/
theorem trainChannel_lane {s : State} {h lane : Nat} (hlane : lane < 72) (hfails : (s.stack h).laneFails = []) (ch : Nat) :
    trainChannel s h ch [lane] false true = s.setStack h { s.stack h with laneFails := [(ch, lane)] } := by
  unfold trainChannel
  dsimp only
  have hkept : [lane].filter (fun l => decide (l < 72)) = [lane] := List.filter_cons_of_pos (decide_eq_true hlane)
  rw [hfails, hkept]
  rfl

/-- A channel that does not train is lost. -/
theorem trainChannel_dead (s : State) (h ch : Nat) : trainChannel s h ch [] false false =
    ((s.setStack h { s.stack h with laneFails := (s.stack h).laneFails ++ [], lostChans := (s.stack h).lostChans ++ [ch] }).bump (hbpPage h) 2).raise
      (hbpPage h) 2 := rfl

theorem repairMapWrite_of_due {s : State} (h : s.mem.repairSince ≠ none) : OnlyIn s (repairMapWrite s) [.mem] ∧
    (repairMapWrite s).mem.repairSince = none ∧ (repairMapWrite s).mem.repairFlash.retired = s.mem.retired ∧
    (repairMapWrite s).mem.repairFlash.spareUsed = s.mem.spareUsed ∧ (repairMapWrite s).mem.dram = s.mem.dram := by
  unfold repairMapWrite
  split
  · rename_i hnone
    exact absurd hnone h
  · exact ⟨(OnlyIn.refl s).putMem, rfl, rfl, rfl, rfl⟩

theorem hbmRepairs : Claims.HbmRepairs := by
  intro s h k
  refine ⟨fun key rest hremaps n hn hlt hdepth => ?_, fun key rest hremaps hdepth => ?_, fun key rest hretires => ⟨_, rfl, rowRetire_of_due hretires⟩,
    fun tile sp hnotices hrelocs hsat _ _ hhome htier hmoving hmoves hatomics hspare => ⟨_, rfl, ?_⟩,
    fun ch lane rest hfails hlane => ⟨fun hspare => ⟨_, rfl, laneRepair_of_spare hfails hlane hspare⟩,
      fun hbeyond => ⟨_, rfl, laneRepair_of_beyond hfails hlane hbeyond⟩⟩,
    fun hlost => ⟨_, rfl, stackLost_of_channel hlost⟩, fun hdue => ⟨_, rfl, repairMapWrite_of_due hdue⟩,
    fun ch lane hheld hlane hfails => ⟨?_, ?_⟩⟩
  · refine ⟨_, congrArg Host.Outcome.next (rowRemap_of_spare hremaps hn hlt hdepth), ?_⟩
    obtain ⟨hmem, hpoison⟩ := readClean_readRowSectors s h.val key
    generalize readRowSectors s h.val key [] = r at hmem hpoison
    have hr : r.stack h.val = k := State.stack_of_hbm (s := s) (by rw [hmem]) _
    have hdone := rowRemapped_mem r h.val key n (SMap.getD (s.stack h.val).rows [] key)
    have hstack : (rowRemapped r h.val key n (SMap.getD (s.stack h.val).rows [] key)).stack h.val =
        k.remapped key n (SMap.getD (s.stack h.val).rows [] key) := by
      rw [State.stack, hdone, hr]
      exact SMap.getD_set_self ..
    refine ⟨?_, ?_, fun i => ?_, ?_, ?_, rowRemapped_raises ..⟩
    · rw [hstack, Stack.remapped, hremaps]
      exact List.filter_cons_of_neg (p := fun r => decide (r ≠ key)) (by simp)
    · rw [hdone, hmem]
    · rw [hdone]
      exact hpoison i
    · rw [hstack]
      exact SMap.getD_set_self ..
    · rw [hstack]
      exact SMap.getD_set_self ..
  · refine ⟨_, congrArg Host.Outcome.next (rowRemap_of_deep hremaps hdepth []), ?_⟩
    rw [State.stack_setStack, if_pos rfl]
    exact ⟨rfl, rfl, rfl⟩
  · obtain ⟨hmem, hdone⟩ := retireNotice_of_head hnotices hrelocs hsat hhome htier hmoving hmoves hatomics hspare
    refine ⟨hdone, by rw [hmem], ?_, ?_, by rw [hmem]⟩
    · rw [State.entry_congr (s := s.setEntry tile (eBit (s.entry tile) 61 true)) (by rw [hmem]; rfl) (by rw [hmem]; rfl),
        State.entry_setEntry_self _ _ (eBit_lt (s.entry_lt tile) (by decide) _), eMoving, bitAt_eBit, if_pos rfl]
    · rw [hmem]
      show (NSet.insert _ _).contains _ = true
      rw [NSet.contains_insert, decide_eq_true rfl, Bool.true_or]
  · have hfails' : ((s.bump (hbpPage h.val) 1).stack h.val).laneFails = [] := by rw [State.stack_bump]; exact hfails
    refine ⟨_, congrArg Host.Outcome.next ((periodicRetrain_of_held hheld ch.val [lane] false true).trans (trainChannel_lane hlane hfails' ch.val)),
      ?_, ?_⟩
    · rw [State.stack_setStack, if_pos rfl]
    · show (s.bump (hbpPage h.val) 1).mem.dram = _
      rw [State.bump_mem]
  · refine ⟨_, congrArg Host.Outcome.next ((periodicRetrain_of_held hheld ch.val [] false false).trans (trainChannel_dead ..)), ?_,
      State.bitAt_raise_self _ _ (by decide)⟩
    refine (congrArg Stack.lostChans ((State.stack_bump ..).trans ((State.stack_setStack ..).trans (if_pos rfl)))).trans ?_
    rw [State.stack_bump]

/-- Settles O29: reads and writes sector by sector through their decoded outcomes, the repairs through what each takes from its stack's record. -/
theorem hbmAccess : Obligations.HbmAccess := ⟨hbmReads, hbmWrites, hbmRepairs⟩

end Sys2Proof.Machine
end

section
/-! OBLIGATIONS. Moves of tiles, Stash space and the Stash's registers (R193-R195, R200-R202). -/

namespace Sys2Proof.Machine

/-! ### What ends a move or a request of the mover -/

theorem sendFlagAdds_mem (l : List MoveReq) (s : State) : (l.foldl (fun s r => sendFlagAdd s r.core r.ctx r.flag) s).mem = s.mem :=
  foldl_keep State.mem (fun s (r : MoveReq) => sendFlagAdd s r.core r.ctx r.flag) (fun _ _ => rfl) l s

theorem sendFlagAdds_regs (l : List MoveReq) (s : State) : (l.foldl (fun s r => sendFlagAdd s r.core r.ctx r.flag) s).regs = s.regs :=
  foldl_keep State.regs (fun s (r : MoveReq) => sendFlagAdd s r.core r.ctx r.flag) (fun _ _ => rfl) l s

theorem finishMoves_mem (s : State) (c : Nat) : (finishMoves s c).mem = { s.mem with movers := (finishMoves s c).mem.movers } := by
  unfold finishMoves
  dsimp only
  rw [sendFlagAdds_mem]
  rfl

theorem finishMoves_regs (s : State) (c : Nat) : (finishMoves s c).regs = s.regs := sendFlagAdds_regs _ _

theorem answerFaults_mem (s : State) (n kind : Nat) (ok : Bool) : (answerFaults s n kind ok).mem = s.mem := by
  unfold answerFaults
  refine foldl_keep State.mem _ (fun s e => foldl_keep State.mem _ (fun s k => ?_) _ s) _ s
  dsimp only
  split
  · split
    · exact (State.bump_mem ..).trans (State.bump_mem ..)
    · exact State.bump_mem ..
  · rfl

theorem wakeAgent_of_idle {s : State} (hheld : s.mem.held = []) (hwaiting : s.mem.waiting = []) (g : Nat) : wakeAgent s g = s := by
  unfold wakeAgent
  dsimp only
  rw [hheld, hwaiting]
  have hmem : ({ s.mem with held := [], waiting := [] } : Memory) = s.mem :=
    calc ({ s.mem with held := [], waiting := [] } : Memory)
      _ = { s.mem with held := s.mem.held, waiting := s.mem.waiting } := by rw [hheld, hwaiting]
      _ = s.mem := rfl
  exact congrArg (fun m => ({ s with mem := m } : State)) hmem

theorem relocate_of_none {s : State} {n : Nat} (h : (s.stack n).relocs = []) : relocate s n = s := by
  unfold relocate startReloc
  dsimp only
  rw [h]

theorem stashOf_dataTile {n : Nat} (h : isDataTile n = true) : stashOf n = none :=
  if_neg (by
    have hlt := of_decide_eq_true h
    unfold dataTileCount at hlt
    unfold stashTile0
    omega)

theorem aliasOf_dataTile {n : Nat} (h : isDataTile n = true) : aliasOf n = none :=
  if_neg (by
    have hlt := of_decide_eq_true h
    unfold dataTileCount at hlt
    omega)

/-! ### A tile of a JG.MOVE reaches its agent (R193, R194) -/

/-- A request after the outcome of its next tile. -/
def MoveReq.next (r : MoveReq) (code : Nat) : MoveReq :=
  { r with tile := (r.tile + 1) % 2 ^ 33, left := r.left - 1, moving := if code = 0 then r.moving + 1 else r.moving }

/-- The mover once the next tile of a request has its outcome. -/
def State.moveTold (s : State) (c : Nat) (mv : Mover) (r : MoveReq) (code : Nat) : State :=
  s.setMover c { mv with reqs := mv.reqs.map (fun q => if q.num = r.num then r.next code else q) }

section
variable {s : State} {c : Nat} {r : MoveReq} (hreq : (s.mover c).reqs.find? (fun q => decide (0 < q.left)) = some r) (hroom : s.inMove c < 8)
  (hsat : s.saturated (agentOf r.tile) = false)
include hreq hroom hsat

theorem moveTileRequest_of_data (hdata : isDataTile r.tile = true) (hmoving : eMoving (s.entry r.tile) = false) {f : Nat}
    (hout : moveOutcome (s.accept r.tile) c r = (0, f)) : moveTileRequest s c = finishMoves
      ((if r.tier = 1 then (((s.accept r.tile).moveTold c (s.mover c) r 0).takeFrame c f r.tile)
        else (s.accept r.tile).moveTold c (s.mover c) r 0).beginMove ⟨r.tile, .mover c r.num, r.tier, c, f, false⟩) c := by
  unfold moveTileRequest
  dsimp only
  rw [hreq]
  dsimp only
  rw [hdata, hmoving, hsat, if_neg (by simp; omega), if_pos rfl, hout]
  rfl

theorem moveTileRequest_of_other (hdata : isDataTile r.tile = false) : moveTileRequest s c =
    finishMoves (recordDecline (s.moveTold c (s.mover c) r 3) c r 3) c := by
  have hout : moveOutcome s c r = (3, 0) := if_pos (by rw [hdata]; rfl)
  unfold moveTileRequest
  dsimp only
  rw [hreq]
  dsimp only
  rw [hdata, hsat, if_neg (by simp; omega), if_neg Bool.false_ne_true, hout]
  rfl

end

/-- Memory is the same but for what an agent's trigger, the mover and a pool hold. -/
def MoverFrame (s t : State) : Prop :=
  t.mem = { s.mem with shared := t.mem.shared, movers := t.mem.movers, frames := t.mem.frames }

theorem MoverFrame.trans {s t r : State} (h : MoverFrame s t) (g : MoverFrame t r) : MoverFrame s r := by
  rw [MoverFrame] at h g ⊢
  rw [g, h]

theorem moverFrame_accept (s : State) (n : Nat) : MoverFrame s (s.accept n) := by rw [MoverFrame, accept_mem]

theorem moverFrame_moveTold (s : State) (c : Nat) (mv : Mover) (r : MoveReq) (code : Nat) : MoverFrame s (s.moveTold c mv r code) := rfl

theorem takeFrame_mem (s : State) (c f n : Nat) : (s.takeFrame c f n).mem = { s.mem with frames := SMap.set s.mem.frames (512 * c + f) n } := by
  have hbump : (s.bump ⟨.pool, c⟩ 2).mem = s.mem := State.bump_mem ..
  show ({ (s.bump ⟨.pool, c⟩ 2).mem with frames := _ } : Memory) = _
  rw [hbump]

theorem moverFrame_takeFrame (s : State) (c f n : Nat) : MoverFrame s (s.takeFrame c f n) := by rw [MoverFrame, takeFrame_mem]

/-- A move that begins sets MOVING and joins the moves; its requests end without touching memory. -/
theorem moveBegun_mem {s u : State} {m : Move} (hframe : MoverFrame s u)
    (hrest : s.mem.atomics.all (fun k => decide (k.addr / 0x8000 ≠ m.tile)) = true) (c : Nat) : (finishMoves (u.beginMove m) c).mem = { s.mem with
      shared := u.mem.shared, movers := (finishMoves (u.beginMove m) c).mem.movers, frames := u.mem.frames
      dir := SMap.set s.mem.dir (entryIdx m.tile) (BitVec.ofNat 64 (eBit (s.entry m.tile) 61 true)), moves := s.mem.moves ++ [m] } := by
  have hentry : u.entry m.tile = s.entry m.tile := State.entry_congr (by rw [hframe]) (by rw [hframe]) m.tile
  rw [finishMoves_mem, beginMove_mem (by rw [hframe]; exact hrest), hentry]
  have hmoves : u.mem.moves = s.mem.moves := by rw [hframe]
  have hdir : u.mem.dir = s.mem.dir := by rw [hframe]
  rw [hmoves, hdir, hframe]

theorem eMoving_of_begun {s t : State} {n : Nat}
    (hdir : t.mem.dir = SMap.set s.mem.dir (entryIdx n) (BitVec.ofNat 64 (eBit (s.entry n) 61 true))) (hinit : t.mem.dirInit = s.mem.dirInit) :
    eMoving (t.entry n) = true := by
  rw [State.entry_congr (s := s.setEntry n (eBit (s.entry n) 61 true)) hdir hinit,
    State.entry_setEntry_self _ _ (eBit_lt (s.entry_lt n) (by decide) _), eMoving, bitAt_eBit, if_pos rfl]

theorem moveOutcome_toHbm {s : State} {c : Nat} {r : MoveReq} (hdata : isDataTile r.tile = true) (hhome : s.hasHome r.tile = true)
    (htier : r.tier = 0) (hpool : eTier (s.entry r.tile) = 1) : moveOutcome s c r = (0, 0) := by
  unfold moveOutcome
  dsimp only
  rw [hdata, hhome, if_neg (by decide), if_pos htier, if_pos hpool]

theorem moveOutcome_toPool {s : State} {c f : Nat} {r : MoveReq} (hdata : isDataTile r.tile = true) (hhome : s.hasHome r.tile = true)
    (htier : r.tier = 1) (hhbm : eTier (s.entry r.tile) = 0)
    (hfree : (List.range 496).find? (fun f => decide (s.stkP c ≤ f) && (s.frameAt c f).isNone) = some f) : moveOutcome s c r = (0, f) := by
  unfold moveOutcome
  dsimp only
  rw [hdata, hhome, if_neg (by decide), if_neg (by omega), if_neg (by omega), hfree]

section
variable {s : State} {c : Nat} {r : MoveReq} (hreq : (s.mover c).reqs.find? (fun q => decide (0 < q.left)) = some r) (hroom : s.inMove c < 8)
  (hsat : s.saturated (agentOf r.tile) = false) (hdata : isDataTile r.tile = true) (hmoving : eMoving (s.entry r.tile) = false)
  (hhome : s.hasHome r.tile = true) (hrest : s.mem.atomics.all (fun k => decide (k.addr / 0x8000 ≠ r.tile)) = true)
include hreq hroom hsat hdata hmoving hhome hrest

theorem moveTileRequest_toHbm (htier : r.tier = 0) (hpool : eTier (s.entry r.tile) = 1) :
    eMoving ((moveTileRequest s c).entry r.tile) = true ∧
      (moveTileRequest s c).mem.moves = s.mem.moves ++ [⟨r.tile, .mover c r.num, 0, c, 0, false⟩] ∧
      (moveTileRequest s c).mem.dram = s.mem.dram := by
  have hhomes := sameHomes_accept s r.tile
  have hframe : MoverFrame s ((s.accept r.tile).moveTold c (s.mover c) r 0) := (moverFrame_accept ..).trans (moverFrame_moveTold ..)
  have hbegun := moveTileRequest_of_data hreq hroom hsat hdata hmoving (f := 0)
    (moveOutcome_toHbm hdata (by rw [hhomes.hasHome, hhome]) htier (by rw [hhomes.entry, hpool]))
  rw [if_neg (by omega), htier] at hbegun
  have hmem := moveBegun_mem (m := ⟨r.tile, .mover c r.num, 0, c, 0, false⟩) hframe hrest c
  rw [hbegun]
  exact ⟨eMoving_of_begun (s := s) (by rw [hmem]) (by rw [hmem]), by rw [hmem], by rw [hmem]⟩

theorem moveTileRequest_toPool {f : Nat} (htier : r.tier = 1) (hhbm : eTier (s.entry r.tile) = 0)
    (hfree : (List.range 496).find? (fun f => decide (s.stkP c ≤ f) && (s.frameAt c f).isNone) = some f) :
    eMoving ((moveTileRequest s c).entry r.tile) = true ∧ (moveTileRequest s c).frameAt c f = some r.tile ∧
      (moveTileRequest s c).mem.moves = s.mem.moves ++ [⟨r.tile, .mover c r.num, 1, c, f, false⟩] ∧
      (moveTileRequest s c).mem.dram = s.mem.dram := by
  have hhomes := sameHomes_accept s r.tile
  have hframes : (s.accept r.tile).mem.frames = s.mem.frames := by rw [accept_mem]
  have htold : MoverFrame s ((s.accept r.tile).moveTold c (s.mover c) r 0) := (moverFrame_accept ..).trans (moverFrame_moveTold ..)
  generalize hu : (s.accept r.tile).moveTold c (s.mover c) r 0 = u at htold
  have hframe := htold.trans (moverFrame_takeFrame u c f r.tile)
  have hbegun := moveTileRequest_of_data hreq hroom hsat hdata hmoving (f := f)
    (moveOutcome_toPool hdata (by rw [hhomes.hasHome, hhome]) htier (by rw [hhomes.entry, hhbm])
      (by simp only [hhomes.stkP, State.frameAt_of_frames hframes]; exact hfree))
  rw [if_pos htier, hu, htier] at hbegun
  have hmem := moveBegun_mem (m := ⟨r.tile, .mover c r.num, 1, c, f, false⟩) hframe hrest c
  rw [hbegun]
  refine ⟨eMoving_of_begun (s := s) (by rw [hmem]) (by rw [hmem]), ?_, by rw [hmem], by rw [hmem]⟩
  rw [State.frameAt, hmem, takeFrame_mem]
  exact SMap.get_set_self ..

end

theorem recordDecline_mem (s : State) (c : Nat) (r : MoveReq) (code : Nat) : (recordDecline s c r code).mem = s.mem := by
  unfold recordDecline
  dsimp only
  refine (State.bump_mem ..).trans ?_
  show (if _ then _ else _ : State).mem = _
  split
  · exact State.record_mem ..
  · exact State.record_mem ..

theorem recordDecline_raises (s : State) (c : Nat) (r : MoveReq) (code : Nat) :
    bitAt ((recordDecline s c r code).regN (movPage c) 0x018) 0 = true := by
  unfold recordDecline
  dsimp only
  rw [State.regN_bump, State.bitAt_raise_self _ _ (by decide)]

/-! ### Grants and commits (R193) -/

theorem copyLines_dram (s : State) (x y n : Nat) : (copyLines s x y n).mem.dram = Mem.copy s.mem.dram y n s.mem.dram x := by
  have hmem : ((s.readCounted x n).writeCounted y n).mem = s.mem := (writeCounted_mem ..).trans (readCounted_mem ..)
  unfold copyLines
  dsimp only
  generalize (s.readCounted x n).writeCounted y n = r at hmem
  show Mem.copy r.mem.dram y n r.mem.dram x = _
  rw [hmem]

theorem copyLines_mem (s : State) (x y n : Nat) : (copyLines s x y n).mem =
    { s.mem with dram := (copyLines s x y n).mem.dram, poison := (copyLines s x y n).mem.poison } := by
  have hmem : ((s.readCounted x n).writeCounted y n).mem = s.mem := (writeCounted_mem ..).trans (readCounted_mem ..)
  unfold copyLines
  dsimp only
  generalize (s.readCounted x n).writeCounted y n = r at hmem
  unfold State.putLines
  dsimp only
  rw [hmem]

/-- Payload and sidecar of a tile, copied to where its move takes it. -/
def moveCopied (s : State) (n : Nat) (m : Move) : State :=
  copyLines (copyLines s (s.home n).1 (moveDest s m).1 0x8000) (s.home n).2 (moveDest s m).2 0x400

theorem moveGrant_of_ready {s : State} {n : Nat} {m : Move} (hfind : s.mem.moves.find? (fun k => decide (k.tile = n) && !k.granted) = some m)
    (hrest : s.mem.atomics.all (fun k => decide (k.addr / 0x8000 ≠ n)) = true) : moveGrant s n =
    { moveCopied s n m with mem.moves := (moveCopied s n m).mem.moves.map (fun k => if k.tile = n then { k with granted := true } else k) } := by
  unfold moveGrant
  rw [hfind]
  dsimp only
  rw [settle_of_none hrest]
  rfl

/-- A tile's entry once its move by the mover has committed. -/
def movedEntry (e : Nat) (m : Move) : Nat :=
  putField (putField (putField (putField (eBit e 61 false) 50 8 (wrapSucc 8 (eMoves e))) 62 1 m.tier) 34 6 (if m.tier = 1 then m.cluster else 0))
    25 9 (if m.tier = 1 then m.frame else 0)

theorem movedEntry_lt {e : Nat} (h : e < 2 ^ 64) (m : Move) : movedEntry e m < 2 ^ 64 :=
  putField_lt (by decide) (putField_lt (by decide) (putField_lt (by decide) (putField_lt (by decide) (eBit_lt h (by decide) _) (by decide))
    (by decide)) (by decide)) (by decide)

theorem movedEntry_bits (e : Nat) (m : Move) : eMoving (movedEntry e m) = false ∧ eValid (movedEntry e m) = eValid e := by
  have hbit {j : Nat} (h : j = 61 ∨ j = 63) : bitAt (movedEntry e m) j = bitAt (eBit e 61 false) j := by
    rw [movedEntry, bitAt_putField _ _ _ (by decide), if_neg (by omega), bitAt_putField _ _ _ (by decide), if_neg (by omega),
      bitAt_putField _ _ _ (by decide), if_neg (by omega), bitAt_putField _ _ _ (by decide), if_neg (by omega)]
  refine ⟨?_, ?_⟩
  · rw [eMoving, hbit (.inl rfl), bitAt_eBit, if_pos rfl]
  · rw [eValid, hbit (.inr rfl), bitAt_eBit, if_neg (by decide)]
    rfl

theorem movedEntry_fields (e : Nat) {m : Move} (htier : m.tier < 2) (hcluster : m.cluster < 40) (hframe : m.frame < 512) :
    eTier (movedEntry e m) = m.tier ∧ eMoves (movedEntry e m) = (eMoves e + 1) % 256 ∧
      (m.tier = 1 → eCluster (movedEntry e m) = m.cluster ∧ eFrame (movedEntry e m) = m.frame) := by
  refine ⟨?_, ?_, fun hpool => ⟨?_, ?_⟩⟩
  · rw [eTier, movedEntry, field_putField_ne _ _ (by decide) (by omega), field_putField_ne _ _ (by decide) (by omega),
      field_putField_self _ _ (by decide) (by decide)]
    exact Nat.mod_eq_of_lt htier
  · rw [eMoves, movedEntry, field_putField_ne _ _ (by decide) (by omega), field_putField_ne _ _ (by decide) (by omega),
      field_putField_ne _ _ (by decide) (by omega), field_putField_self _ _ (by decide) (by decide), wrapSucc, Nat.mod_mod]
    rfl
  · rw [eCluster, movedEntry, field_putField_ne _ _ (by decide) (by omega), field_putField_self _ _ (by decide) (by decide), if_pos hpool,
      Nat.mod_eq_of_lt (by omega)]
  · rw [eFrame, movedEntry, field_putField_self _ _ (by decide) (by decide), if_pos hpool, Nat.mod_eq_of_lt (by omega)]

theorem freeFrame_mem (s : State) (c f : Nat) : (s.freeFrame c f).mem = { s.mem with frames := SMap.del s.mem.frames (512 * c + f) } := by
  have hbump : (s.bump ⟨.pool, c⟩ 3).mem = s.mem := State.bump_mem ..
  show ({ (s.bump ⟨.pool, c⟩ 3).mem with frames := _ } : Memory) = _
  rw [hbump]

theorem releaseFrame_mem (s : State) (n : Nat) : (releaseFrame s n).mem = { s.mem with frames := (releaseFrame s n).mem.frames } := by
  unfold releaseFrame
  split
  · rw [freeFrame_mem]
  · rfl

/-- The entry of a committed move, and the counts of its agent and its mover. -/
def moverCommitted (s : State) (n : Nat) (m : Move) (c num : Nat) : State :=
  let e := s.entry n
  let s := (releaseFrame { s with mem.moves := s.mem.moves.filter (fun k => decide (k.tile ≠ n)) } n).setEntry n (movedEntry e m)
  let s := (if agentOf n < 12 then s.bump ⟨.dir, agentOf n⟩ 3 else s).bump (movPage c) (if m.tier = 1 then 0 else 1)
  finishMoves (s.setMover c { s.mover c with
    reqs := (s.mover c).reqs.map (fun q => if q.num = num then { q with moving := q.moving - 1 } else q) }) c

theorem moverCommitted_mem (s : State) (n : Nat) (m : Move) (c num : Nat) : (moverCommitted s n m c num).mem = { s.mem with
    moves := s.mem.moves.filter (fun k => decide (k.tile ≠ n)), dir := SMap.set s.mem.dir (entryIdx n) (BitVec.ofNat 64 (movedEntry (s.entry n) m))
    frames := (moverCommitted s n m c num).mem.frames, movers := (moverCommitted s n m c num).mem.movers } := by
  unfold moverCommitted
  dsimp only
  have hfreed := releaseFrame_mem { s with mem.moves := s.mem.moves.filter (fun k => decide (k.tile ≠ n)) } n
  generalize releaseFrame { s with mem.moves := s.mem.moves.filter (fun k => decide (k.tile ≠ n)) } n = r at hfreed
  have hset : (r.setEntry n (movedEntry (s.entry n) m)).mem =
      { r.mem with dir := SMap.set r.mem.dir (entryIdx n) (BitVec.ofNat 64 (movedEntry (s.entry n) m)) } := rfl
  generalize r.setEntry n (movedEntry (s.entry n) m) = u at hset
  have hcounted : ((if agentOf n < 12 then u.bump ⟨.dir, agentOf n⟩ 3 else u).bump (movPage c) (if m.tier = 1 then 0 else 1)).mem = u.mem := by
    rw [State.bump_mem]
    split
    · exact State.bump_mem ..
    · rfl
  generalize (if agentOf n < 12 then u.bump ⟨.dir, agentOf n⟩ 3 else u).bump (movPage c) (if m.tier = 1 then 0 else 1) = w at hcounted
  have hmover (k : Mover) : (w.setMover c k).mem = { w.mem with movers := SMap.set w.mem.movers c k } := rfl
  rw [finishMoves_mem, hmover, hcounted, hset, hfreed]

theorem moveCommit_of_mover {s : State} {n c num : Nat} {m : Move} (hfind : s.mem.moves.find? (fun k => decide (k.tile = n) && k.granted) = some m)
    (hby : m.by_ = .mover c num) (hdata : isDataTile n = true) : moveCommit s n =
    relocate (wakeAgent (answerFaults (moverCommitted s n m c num) n 1 true) (agentOf n)) (agentOf n) := by
  unfold moveCommit
  rw [hfind]
  dsimp only
  rw [hby, stashOf_dataTile hdata]
  rfl

/-- A context waits for a tile that moves, and its enquiry is answered once the move is over. -/
theorem movingFaultEnquiry_of_rest {s : State} {id : CoreId} {n : Nat} (hstate : ((s.core id).sc n).state = scFaultWait)
    (hopen : ((s.core id).sc n).faultOpen = true) (hanswer : ((s.core id).sc n).answer = none) (hkind : ((s.core id).sc n).faultKind = 1)
    (hdata : isDataTile (tileNumber ((s.core id).sc n).cur ((s.core id).sc n).ctrs) = true)
    (hrest : eMoving (s.entry (tileNumber ((s.core id).sc n).cur ((s.core id).sc n).ctrs)) = false) :
    ((movingFaultEnquiry s id n).core id).sc n = { (s.core id).sc n with answer := some true } ∧ (movingFaultEnquiry s id n).mem = s.mem := by
  unfold movingFaultEnquiry
  dsimp only
  rw [aliasOf_dataTile hdata]
  dsimp only
  rw [if_pos ⟨hstate, hopen, hanswer, hkind, by rw [hrest]; rfl⟩]
  have hbump (r : State) (p : Page) (sel : Nat) : ((r.bump p sel).core id).sc n = (r.core id).sc n ∧ (r.bump p sel).mem = r.mem :=
    ⟨congrArg (Core.sc · n) (State.core_of_cores (State.bump_cores ..) id), State.bump_mem ..⟩
  have hset : ((s.setSc id n { (s.core id).sc n with answer := some true }).core id).sc n = { (s.core id).sc n with answer := some true } := by
    rw [State.core_setSc_self, Core.sc_setSc, if_pos rfl]
  split
  · exact ⟨(hbump ..).1.trans ((hbump ..).1.trans hset), (hbump ..).2.trans (hbump ..).2⟩
  · exact ⟨(hbump ..).1.trans hset, (hbump ..).2⟩

theorem movingFaultEnquiry_of_moving {s : State} {id : CoreId} {n : Nat}
    (hdata : isDataTile (tileNumber ((s.core id).sc n).cur ((s.core id).sc n).ctrs) = true)
    (hmoving : eMoving (s.entry (tileNumber ((s.core id).sc n).cur ((s.core id).sc n).ctrs)) = true) : movingFaultEnquiry s id n = s := by
  unfold movingFaultEnquiry
  dsimp only
  rw [aliasOf_dataTile hdata]
  dsimp only
  rw [if_neg (by rw [hmoving]; simp)]

theorem moves : Claims.Moves := by
  refine ⟨fun s c r hreq hroom hsat => ⟨fun hdata hmoving hhome hrest =>
      ⟨fun htier hpool => ⟨_, rfl, moveTileRequest_toHbm hreq hroom hsat hdata hmoving hhome hrest htier hpool⟩,
        fun f htier hhbm hfree => ⟨_, rfl, moveTileRequest_toPool hreq hroom hsat hdata hmoving hhome hrest htier hhbm hfree⟩⟩,
      fun hdata => ⟨_, congrArg Host.Outcome.next (moveTileRequest_of_other hreq hroom hsat hdata), ?_⟩⟩,
    fun s tile m hfind hrest => ⟨_, congrArg Host.Outcome.next (moveGrant_of_ready hfind hrest), ?_⟩,
    fun s tile m c num hfind hby hdata hheld hwaiting hrelocs htier hcluster hframe =>
      ⟨_, congrArg Host.Outcome.next (moveCommit_of_mover hfind hby hdata), ?_⟩,
    fun s id n hstate hopen hanswer hkind hdata => ⟨fun hrest =>
      ⟨_, rfl, movingFaultEnquiry_of_rest hstate hopen hanswer hkind hdata hrest⟩,
      fun hmoving => congrArg Host.Outcome.next (movingFaultEnquiry_of_moving hdata hmoving)⟩⟩
  · have hmem : (finishMoves (recordDecline (s.moveTold c.val (s.mover c.val) r 3) c.val r 3) c.val).mem = { s.mem with
        movers := (finishMoves (recordDecline (s.moveTold c.val (s.mover c.val) r 3) c.val r 3) c.val).mem.movers } := by
      rw [finishMoves_mem, recordDecline_mem]
      rfl
    refine ⟨by rw [hmem], by rw [hmem], by rw [hmem], ?_⟩
    rw [State.regN_congr (finishMoves_regs ..)]
    exact recordDecline_raises ..
  · have hmem : (moveCopied s tile m).mem = { s.mem with dram := (moveCopied s tile m).mem.dram, poison := (moveCopied s tile m).mem.poison } := by
      rw [moveCopied, copyLines_mem, copyLines_mem]
    refine ⟨?_, ?_, ?_⟩
    · show (moveCopied s tile m).mem.dram = _
      rw [moveCopied, copyLines_dram, copyLines_dram]
    · show (moveCopied s tile m).mem.dir = _
      rw [hmem]
    · show (moveCopied s tile m).mem.moves.map _ = _
      rw [hmem]
  · have hcommitted := moverCommitted_mem s tile m c num
    have hmem := (answerFaults_mem (moverCommitted s tile m c num) tile 1 true).trans hcommitted
    generalize answerFaults (moverCommitted s tile m c num) tile 1 true = r at hmem
    have hstack : r.stack (agentOf tile) = s.stack (agentOf tile) := State.stack_of_hbm (by rw [hmem]) _
    rw [wakeAgent_of_idle (by rw [hmem]; exact hheld) (by rw [hmem]; exact hwaiting), relocate_of_none (by rw [hstack]; exact hrelocs)]
    have hentry : r.entry tile = movedEntry (s.entry tile) m := by
      rw [State.entry_congr (s := s.setEntry tile (movedEntry (s.entry tile) m)) (by rw [hmem]; rfl) (by rw [hmem]; rfl),
        State.entry_setEntry_self _ _ (movedEntry_lt (s.entry_lt tile) m)]
    obtain ⟨hmoving, hvalid⟩ := movedEntry_bits (s.entry tile) m
    obtain ⟨htier', hmoves, hpool⟩ := movedEntry_fields (s.entry tile) htier hcluster hframe
    rw [hentry]
    exact ⟨hmoving, htier', hmoves, hvalid, hpool, by rw [hmem], by rw [hmem]⟩

end Sys2Proof.Machine
end

section
/-! OBLIGATIONS. Moves of tiles, Stash space and the Stash's registers (R193-R195, R200-R202). -/

namespace Sys2Proof.Machine

/-! ### Spills and fills of a Stash (R200, R201) -/

theorem stashSpill_of_first {s : State} {c d : Nat} {ds : List Nat} (hpush : (s.stash c).pop = false) (hrest : stashMoving s c = false)
    (hdepths : stashDepths s c (fun d e => eValid e && eTier e == 1 &&
      decide ((d : Int) < min (s.stkH c : Int) (((s.stash c).top : Int) + s.stkSpill c - s.stkP c))) = d :: ds)
    (htaken : d < (s.stash c).taken) (hmoving : eMoving (s.entry (stashTile c d)) = false) :
    stashSpill s c = s.beginMove ⟨stashTile c d, .stk c, 0, 0, 0, false⟩ := by
  unfold stashSpill
  dsimp only
  rw [hpush, hrest, if_neg (by decide), hdepths]
  exact if_pos (by rw [hmoving, decide_eq_true htaken]; rfl)

theorem stashFill_of_last {s : State} {c d : Nat} (hpop : (s.stash c).pop = true) (hrest : stashMoving s c = false) (hring : s.stkP c ≠ 0)
    (hdepths : (stashDepths s c (fun d e => eValid e && eTier e == 0 && decide ((s.stash c).top ≤ d + s.stkFill c))).getLast? = some d)
    (hfree : s.frameAt c (d % s.stkP c) = none) (hmoving : eMoving (s.entry (stashTile c d)) = false) : stashFill s c =
    (s.takeFrame c (d % s.stkP c) (stashTile c d)).beginMove ⟨stashTile c d, .stk c, 1, c, d % s.stkP c, false⟩ := by
  unfold stashFill
  dsimp only
  rw [hpop, hrest, if_neg (by simp [hring]), hdepths]
  exact if_neg (by rw [hfree, hmoving]; decide)

theorem stashSpill_of_pop {s : State} {c : Nat} (h : (s.stash c).pop = true) : stashSpill s c = s := by
  unfold stashSpill
  exact if_pos (by rw [h]; rfl)

theorem stashFill_of_push {s : State} {c : Nat} (h : (s.stash c).pop = false) : stashFill s c = s := by
  unfold stashFill
  exact if_pos (by rw [h, Bool.not_false, Bool.true_or, Bool.true_or])

/-! ### A tile that is taken away (R202) -/

/-- The entry of a tile whose home has been taken for a Stash. -/
def lentEntry (e : Nat) : Nat := eBit (eBit (eBit e 63 false) 62 false) 58 true

theorem lentEntry_lt {e : Nat} (h : e < 2 ^ 64) : lentEntry e < 2 ^ 64 :=
  eBit_lt (eBit_lt (eBit_lt h (by decide) _) (by decide) _) (by decide) _

theorem lentEntry_bits (e : Nat) : eValid (lentEntry e) = false ∧ eStashRes (lentEntry e) = true := by
  refine ⟨?_, ?_⟩
  · rw [eValid, lentEntry, bitAt_eBit, if_neg (by decide), bitAt_eBit, if_neg (by decide), bitAt_eBit, if_pos rfl]
  · rw [eStashRes, lentEntry, bitAt_eBit, if_pos rfl]

/-- The state once the home of a tile has been taken, as the `k`-th that the Stash has. -/
def takenAway (s : State) (c n k : Nat) : State :=
  let r := (releaseFrame s n).setEntry n (lentEntry (s.entry n))
  r.setStash c { r.stash c with taken := k }

theorem takenAway_mem (s : State) (c n k : Nat) : (takenAway s c n k).mem = { s.mem with
    frames := (takenAway s c n k).mem.frames, dir := SMap.set s.mem.dir (entryIdx n) (BitVec.ofNat 64 (lentEntry (s.entry n)))
    stashes := (takenAway s c n k).mem.stashes } := by
  have hfreed := releaseFrame_mem s n
  unfold takenAway
  dsimp only
  generalize releaseFrame s n = r at hfreed
  have hset (v : Stash) (e : Nat) : ((r.setEntry n e).setStash c v).mem =
      { r.mem with dir := SMap.set r.mem.dir (entryIdx n) (BitVec.ofNat 64 e), stashes := SMap.set r.mem.stashes c v } := rfl
  rw [hset, hfreed]

theorem takenAway_taken (s : State) (c n k : Nat) : ((takenAway s c n k).stash c).taken = k :=
  congrArg Stash.taken ((State.stash_setStash ..).trans (if_pos rfl))

theorem stashTakeAway_of_next {s : State} {c : Nat} (hlent : (s.stash c).taken < s.stkH c)
    (hmoving : eMoving (s.entry (s.lender c (s.stash c).taken)) = false) (hsat : s.saturated (agentOf (s.lender c (s.stash c).taken)) = false)
    (hatomics : s.mem.atomics = []) (hheld : s.mem.held = []) (hwaiting : s.mem.waiting = []) : stashTakeAway s c =
    takenAway (s.accept (s.lender c (s.stash c).taken)) c (s.lender c (s.stash c).taken) ((s.stash c).taken + 1) := by
  generalize hn : s.lender c (s.stash c).taken = n at hmoving hsat ⊢
  have hmem := accept_mem s n
  have htaken := takenAway_mem (s.accept n) c n ((s.stash c).taken + 1)
  unfold stashTakeAway
  dsimp only
  rw [hn, if_pos ⟨hlent, by rw [hmoving]; rfl, by rw [hsat]; rfl⟩, settle_of_none (by rw [hmem]; show s.mem.atomics.all _ = true; rw [hatomics]; rfl)]
  exact wakeAgent_of_idle (s := takenAway (s.accept n) c n ((s.stash c).taken + 1)) (by rw [htaken, hmem]; exact hheld)
    (by rw [htaken, hmem]; exact hwaiting) _

theorem stashMoves : Claims.StashMoves := by
  intro s c hatomics st lim
  have hrest (n : Nat) : s.mem.atomics.all (fun k => decide (k.addr / 0x8000 ≠ n)) = true := by rw [hatomics]; rfl
  refine ⟨fun d ds hpush hmoves hdepths htaken hmoving => ⟨_, congrArg Host.Outcome.next (stashSpill_of_first hpush hmoves hdepths htaken hmoving), ?_⟩,
    fun d hpop hmoves hring hdepths hfree hmoving => ⟨_, congrArg Host.Outcome.next (stashFill_of_last hpop hmoves hring hdepths hfree hmoving), ?_⟩,
    fun hpop => congrArg Host.Outcome.next (stashSpill_of_pop hpop), fun hpush => congrArg Host.Outcome.next (stashFill_of_push hpush),
    fun hlent hmoving hsat hheld hwaiting =>
      ⟨_, congrArg Host.Outcome.next (stashTakeAway_of_next hlent hmoving hsat hatomics hheld hwaiting), ?_⟩⟩
  · have hmem := beginMove_mem (s := s) (m := ⟨stashTile c.val d, .stk c.val, 0, 0, 0, false⟩) (hrest _)
    exact ⟨by rw [hmem], by rw [hmem], eMoving_of_begun (s := s) (by rw [hmem]) (by rw [hmem])⟩
  · have htaken := takeFrame_mem s c.val (d % s.stkP c.val) (stashTile c.val d)
    have hentry : (s.takeFrame c.val (d % s.stkP c.val) (stashTile c.val d)).entry (stashTile c.val d) = s.entry (stashTile c.val d) :=
      State.entry_congr (by rw [htaken]) (by rw [htaken]) _
    generalize s.takeFrame c.val (d % s.stkP c.val) (stashTile c.val d) = r at htaken hentry
    have hmem := beginMove_mem (s := r) (m := ⟨stashTile c.val d, .stk c.val, 1, c.val, d % s.stkP c.val, false⟩) (by rw [htaken]; exact hrest _)
    rw [hentry, htaken] at hmem
    refine ⟨by rw [hmem], eMoving_of_begun (s := s) (by rw [hmem]) (by rw [hmem]), by rw [hmem], ?_⟩
    rw [State.frameAt, hmem]
    exact SMap.get_set_self ..
  · obtain ⟨hvalid, hres⟩ := lentEntry_bits (s.entry (s.lender c.val st.taken))
    have hentry := (sameHomes_accept s (s.lender c.val st.taken)).entry (s.lender c.val st.taken)
    have haccepted := accept_mem s (s.lender c.val st.taken)
    generalize s.accept (s.lender c.val st.taken) = r at hentry haccepted
    have hmem := takenAway_mem r c.val (s.lender c.val st.taken) (st.taken + 1)
    have htaken := takenAway_taken r c.val (s.lender c.val st.taken) (st.taken + 1)
    generalize takenAway r c.val (s.lender c.val st.taken) (st.taken + 1) = t at hmem htaken
    have hlent : t.entry (s.lender c.val st.taken) = lentEntry (s.entry (s.lender c.val st.taken)) := by
      rw [State.entry_congr (s := r.setEntry (s.lender c.val st.taken) (lentEntry (r.entry (s.lender c.val st.taken)))) (by rw [hmem]; rfl)
        (by rw [hmem]; rfl), State.entry_setEntry_self _ _ (lentEntry_lt (r.entry_lt _)), hentry]
    exact ⟨htaken, by rw [hlent, hvalid], by rw [hlent, hres], by rw [hmem, haccepted]⟩

end Sys2Proof.Machine
end

section
/-! OBLIGATIONS. Moves of tiles, Stash space and the Stash's registers (R193-R195, R200-R202). -/

namespace Sys2Proof.Machine

/-! ### A release (R201) -/

theorem releaseMove_mem (s : State) (n : Nat) : (releaseMove s n).mem =
    { s.mem with moves := (releaseMove s n).mem.moves, frames := (releaseMove s n).mem.frames } := by
  unfold releaseMove
  split
  · dsimp only
    split
    · rw [freeFrame_mem]
    · rfl
  · rfl

/-- The entry of a tile that has lost its home. -/
def releasedEntry (e : Nat) : Nat := eBit (eBit e 63 false) 61 false

theorem releasedEntry_lt {e : Nat} (h : e < 2 ^ 64) : releasedEntry e < 2 ^ 64 := eBit_lt (eBit_lt h (by decide) _) (by decide) _

theorem releasedEntry_invalid (e : Nat) : eValid (releasedEntry e) = false := by
  rw [eValid, releasedEntry, bitAt_eBit, if_neg (by decide), bitAt_eBit, if_pos rfl]

theorem releaseDepth_mem (s : State) (c d : Nat) : (releaseDepth s c d).mem = { s.mem with
    moves := (releaseDepth s c d).mem.moves, frames := (releaseDepth s c d).mem.frames
    dir := SMap.set s.mem.dir (entryIdx (stashTile c d)) (BitVec.ofNat 64 (releasedEntry (s.entry (stashTile c d)))) } := by
  have hmoved := releaseMove_mem s (stashTile c d)
  have hentry : (releaseMove s (stashTile c d)).entry (stashTile c d) = s.entry (stashTile c d) :=
    State.entry_congr (by rw [hmoved]) (by rw [hmoved]) _
  rw [releaseDepth_eq, hentry, State.bump_mem]
  have hfreed := releaseFrame_mem (releaseMove s (stashTile c d)) (stashTile c d)
  generalize releaseFrame (releaseMove s (stashTile c d)) (stashTile c d) = r at hfreed
  have hset (e : Nat) : (r.setEntry (stashTile c d) e).mem =
      { r.mem with dir := SMap.set r.mem.dir (entryIdx (stashTile c d)) (BitVec.ofNat 64 e) } := rfl
  rw [hset, hfreed, hmoved]
  rfl

/-- A tile that still has a home had it before the release, and is not the one released. -/
theorem valid_of_releaseDepth {s : State} {c d n : Nat} (h : eValid ((releaseDepth s c d).entry n) = true) :
    eValid (s.entry n) = true ∧ entryIdx n ≠ entryIdx (stashTile c d) := by
  have hmem := releaseDepth_mem s c d
  have hlt := releasedEntry_lt (s.entry_lt (stashTile c d))
  by_cases hidx : entryIdx n = entryIdx (stashTile c d)
  · have hentry : (releaseDepth s c d).entry n = releasedEntry (s.entry (stashTile c d)) := by
      rw [State.entry, hmem, hidx]
      exact (congrArg BitVec.toNat (SMap.getD_set_self ..)).trans ((BitVec.toNat_ofNat ..).trans (Nat.mod_eq_of_lt hlt))
    rw [hentry, releasedEntry_invalid] at h
    cases h
  · refine ⟨?_, hidx⟩
    rwa [State.entry_congr (s := s.setEntry (stashTile c d) (releasedEntry (s.entry (stashTile c d)))) (by rw [hmem]; rfl) (by rw [hmem]; rfl),
      State.entry_setEntry_ne _ _ hidx] at h

/-- What a release of depths leaves of memory. -/
def Releases (s t : State) : Prop := t.mem = { s.mem with moves := t.mem.moves, frames := t.mem.frames, dir := t.mem.dir }

theorem releases_foldl (c : Nat) : ∀ (l : List Nat) (s : State), Releases s (l.foldl (fun s d => releaseDepth s c d) s) ∧
    ∀ n, eValid ((l.foldl (fun s d => releaseDepth s c d) s).entry n) = true →
      eValid (s.entry n) = true ∧ ∀ d ∈ l, entryIdx n ≠ entryIdx (stashTile c d)
  | [], s => ⟨rfl, fun n h => ⟨h, fun d hd => absurd hd List.not_mem_nil⟩⟩
  | d :: l, s => by
    obtain ⟨hmem, hvalid⟩ := releases_foldl c l (releaseDepth s c d)
    refine ⟨?_, fun n h => ?_⟩
    · rw [Releases, List.foldl_cons, hmem, releaseDepth_mem]
    · obtain ⟨hlater, hne⟩ := hvalid n h
      obtain ⟨hbefore, hidx⟩ := valid_of_releaseDepth hlater
      exact ⟨hbefore, fun j hj => (List.mem_cons.mp hj).elim (fun e => e ▸ hidx) (hne j)⟩

theorem entryIdx_stashTile (c d : Nat) : entryIdx (stashTile c d) = dataTileCount + 0x20000 * c + d := by
  unfold entryIdx stashTile stashTile0 dataTileCount
  rw [if_neg (by omega)]
  omega

/-- A Stash tile with a home is among the depths of its cluster. -/
theorem mem_stashDepths {s : State} {c d : Nat} (p : Nat → Nat → Bool) (hd : d < 0x20000) (hvalid : eValid (s.entry (stashTile c d)) = true)
    (hp : p d (s.entry (stashTile c d)) = true) : d ∈ stashDepths s c p := by
  have hidx := entryIdx_stashTile c d
  have hdata : isDataTile (stashTile c d) = false := decide_eq_false (by unfold stashTile stashTile0 dataTileCount; omega)
  rcases hget : SMap.get s.mem.dir (entryIdx (stashTile c d)) with _ | e
  · rw [State.entry, SMap.getD, hget, hdata, Bool.and_false] at hvalid
    exact absurd hvalid (by decide)
  · have hentry : s.entry (stashTile c d) = e.toNat := by rw [State.entry, SMap.getD, hget]; rfl
    refine List.mem_filterMap.mpr ⟨_, SMap.mem_of_get hget, ?_⟩
    unfold dataTileCount at hidx ⊢
    rw [hidx]
    dsimp only
    rw [if_pos (by omega), show (0x1700000 + 0x20000 * c + d - 0x1700000) % 0x20000 = d by omega, ← hentry]
    exact if_pos hp

theorem stashRelease_of_idle {s : State} {c : Nat} (hheld : s.mem.held = []) (hwaiting : s.mem.waiting = []) (r : Nat) :
    ((stashRelease s c r).stash c).top = r ∧ ((stashRelease s c r).stash c).pop = true ∧ (stashRelease s c r).mem.dram = s.mem.dram ∧
      ∀ d, d < 0x20000 → r ≤ d → eValid ((stashRelease s c r).entry (stashTile c d)) = false := by
  obtain ⟨hmem, hvalid⟩ := releases_foldl c (stashDepths s c (fun d e => eValid e && decide (r ≤ d))) s
  unfold stashRelease
  dsimp only
  generalize (stashDepths s c (fun d e => eValid e && decide (r ≤ d))).foldl (fun s d => releaseDepth s c d) s = u at hmem hvalid
  rw [wakeAgent_of_idle (s := u.setStash c { u.stash c with top := r, pop := true }) (by show u.mem.held = []; rw [hmem]; exact hheld)
    (by show u.mem.waiting = []; rw [hmem]; exact hwaiting)]
  refine ⟨congrArg Stash.top ((State.stash_setStash ..).trans (if_pos rfl)), congrArg Stash.pop ((State.stash_setStash ..).trans (if_pos rfl)),
    ?_, fun d hd hr => ?_⟩
  · show u.mem.dram = _
    rw [hmem]
  · show eValid (u.entry (stashTile c d)) = false
    refine Bool.eq_false_iff.mpr fun hstill => ?_
    obtain ⟨hbefore, hne⟩ := hvalid _ hstill
    exact hne d (mem_stashDepths _ hd hbefore (by rw [hbefore, decide_eq_true hr]; rfl)) rfl

/-! ### The Stash's registers (R201, R202) -/

/-- A write to one of the registers of a Stash, taken or logged. -/
theorem writeReg_stk {s s1 : State} {c off : Nat} {who : Requester} {v : Word} (h : WriteReaches s s1 (stkPage c) off who v.toNat)
    (hlo : 0x100 ≤ off) (hhi : off < 0x110) (h4 : off % 4 = 0) :
    writeReg s (stkPage c) off who v = stkWrite (seenBy s who) (stkPage c) who off v.toNat := by
  rw [writeReg_of_reaches h (by omega) h4, pageWrite_block _ _ _ _ _ hlo (by simp [isDebug, stkPage])]
  rfl

/-- A write that is ignored is logged, and changes no register and no byte. -/
theorem ignored_kept (s : State) (p : Page) (who : Requester) (off : Nat) : (tookOr (seenBy s who, false) p who off).mem = s.mem ∧
    (tookOr (seenBy s who, false) p who off).regs = s.regs ∧
    ((tookOr (seenBy s who, false) p who off).log p).writeSeq = wrapSucc 16 (s.log p).writeSeq :=
  ⟨seenBy_mem s who, seenBy_regs s who, (log_logReq_writeSeq ..).trans (congrArg (fun l : ErrLog => wrapSucc 16 l.writeSeq) (seenBy_log s who p))⟩

theorem stkReleaseWrite_of_top {s : State} {c v : Nat} (h : field v 17 0 ≤ (s.stash c).top) :
    stkReleaseWrite s c v = (stashRelease s c (field v 17 0), true) := if_pos h

theorem stkReleaseWrite_of_beyond {s : State} {c v : Nat} (h : (s.stash c).top < field v 17 0) : stkReleaseWrite s c v = (s, false) :=
  if_neg (Nat.not_le.mpr h)

theorem stkCfgWrite_base {s : State} {c : Nat} (htop : (s.stash c).top = 0) (hrest : stashMoving s c = false) (hlent : s.stkH c = 0) (v : Nat) :
    stkCfgWrite s c true v = (s.setRegN (stkPage c) 0x104 (field v 24 0), true) := by
  unfold stkCfgWrite
  rw [if_pos rfl]
  exact if_pos ⟨⟨htop, by rw [hrest]; rfl⟩, hlent⟩

theorem stkCfgWrite_size {s : State} {c v : Nat} (htop : (s.stash c).top = 0) (hrest : stashMoving s c = false) (hring : field v 8 0 ≤ 496)
    (hfit : field v 8 0 + s.stkH c ≤ 131072) (hframes : s.mem.frames = []) :
    stkCfgWrite s c false v = (s.setRegN (stkPage c) 0x100 (field v 26 0), true) := by
  unfold stkCfgWrite
  rw [if_neg Bool.false_ne_true]
  exact if_pos ⟨⟨htop, by rw [hrest]; rfl⟩, hring, hfit, by rw [hframes]; rfl⟩

theorem stkCfgWrite_of_busy {s : State} {c : Nat} (hbusy : ¬ ((s.stash c).top = 0 ∧ stashMoving s c = false)) (base : Bool) (v : Nat) :
    stkCfgWrite s c base v = (s, false) := by
  have hidle : ¬ ((s.stash c).top = 0 ∧ (!stashMoving s c) = true) := by rwa [Bool.not_eq_true']
  unfold stkCfgWrite
  cases base
  · rw [if_neg Bool.false_ne_true]
    exact if_neg fun h => hidle h.1
  · rw [if_pos rfl]
    exact if_neg fun h => hidle h.1

theorem hbmTilesWrite_more {s : State} {c v : Nat} (hmore : s.stkH c ≤ field v 16 0) (hfit : s.stkP c + field v 16 0 ≤ 131072)
    (hlend : (List.range (field v 16 0 - s.stkH c)).all (fun i => lendable s (s.lender c 0 + s.stkH c + i)) = true) :
    hbmTilesWrite s c v = (s.setRegN (stkPage c) 0x108 (field v 16 0), true) := by
  unfold hbmTilesWrite
  dsimp only
  rw [if_pos hmore]
  exact if_pos ⟨hfit, hlend⟩

theorem hbmTilesWrite_beyond {s : State} {c v : Nat} (hmore : s.stkH c ≤ field v 16 0) (hfit : 131072 < s.stkP c + field v 16 0) :
    hbmTilesWrite s c v = (s, false) := by
  unfold hbmTilesWrite
  dsimp only
  rw [if_pos hmore]
  exact if_neg fun h => Nat.not_le.mpr hfit h.1

theorem stashRegisters : Claims.StashRegisters := by
  intro s s1 c who v p st idle kept
  have hstash : (seenBy s who).stash c.val = st := seenBy_keep s who (State.stash · c.val) fun _ => rfl
  have hmoving : stashMoving (seenBy s who) c.val = stashMoving s c.val := by rw [stashMoving, stashMoving, seenBy_mem]
  have hP : (seenBy s who).stkP c.val = s.stkP c.val := seenBy_keep s who (State.stkP · c.val) fun _ => rfl
  have hH : (seenBy s who).stkH c.val = s.stkH c.val := seenBy_keep s who (State.stkH · c.val) fun _ => rfl
  have hset (off n k : Nat) (hk : k ≤ 32) (hn : n < 2 ^ k) : ((seenBy s who).setRegN p off n).regN p off = n :=
    (State.regN_setRegN_self ..).trans (Nat.mod_eq_of_lt (hn.trans_le (Nat.pow_le_pow_right (by decide) hk)))
  have hfield (hi : Nat) : field v.toNat hi 0 < 2 ^ (hi + 1) := field_lt ..
  refine ⟨fun hreach hheld hwaiting => ⟨fun htop => ?_, fun hbeyond => ?_⟩, fun hreach => ⟨fun hidle hlent => ?_, fun hbusy => ?_⟩,
    fun hreach => ⟨fun hidle hring hfit hframes => ?_, fun hbusy => ?_⟩, fun hreach hmore => ⟨fun hfit hlend => ?_, fun hfit => ?_⟩⟩
  · refine ⟨_, congrArg Host.Outcome.next ((writeReg_stk hreach (by decide) (by decide) (by decide)).trans
      (congrArg (tookOr · p who 0x10C) (stkReleaseWrite_of_top (s := seenBy s who) (c := c.val) (by rw [hstash]; exact htop)))), ?_⟩
    obtain ⟨htop', hpop, hdram, hvalid⟩ := stashRelease_of_idle (s := seenBy s who) (c := c.val) (by rw [seenBy_mem]; exact hheld)
      (by rw [seenBy_mem]; exact hwaiting) (field v.toNat 17 0)
    exact ⟨htop', hpop, hdram.trans (by rw [seenBy_mem]), hvalid⟩
  · exact ⟨_, congrArg Host.Outcome.next ((writeReg_stk hreach (by decide) (by decide) (by decide)).trans
      (congrArg (tookOr · p who 0x10C) (stkReleaseWrite_of_beyond (s := seenBy s who) (c := c.val) (by rw [hstash]; exact hbeyond)))), ignored_kept ..⟩
  · exact ⟨_, congrArg Host.Outcome.next ((writeReg_stk hreach (by decide) (by decide) (by decide)).trans
      (congrArg (tookOr · p who 0x104) (stkCfgWrite_base (s := seenBy s who) (c := c.val) (by rw [hstash]; exact hidle.1) (hmoving.trans hidle.2)
        (hH.trans hlent) v.toNat))), hset _ _ 25 (by decide) (hfield 24), seenBy_mem s who⟩
  · exact ⟨_, congrArg Host.Outcome.next ((writeReg_stk hreach (by decide) (by decide) (by decide)).trans
      (congrArg (tookOr · p who 0x104) (stkCfgWrite_of_busy (s := seenBy s who) (c := c.val) (by rw [hstash, hmoving]; exact hbusy) true v.toNat))),
      ignored_kept ..⟩
  · exact ⟨_, congrArg Host.Outcome.next ((writeReg_stk hreach (by decide) (by decide) (by decide)).trans
      (congrArg (tookOr · p who 0x100) (stkCfgWrite_size (s := seenBy s who) (c := c.val) (by rw [hstash]; exact hidle.1) (hmoving.trans hidle.2) hring
        (by rw [hH]; exact hfit) (by rw [seenBy_mem]; exact hframes)))), hset _ _ 27 (by decide) (hfield 26), seenBy_mem s who⟩
  · exact ⟨_, congrArg Host.Outcome.next ((writeReg_stk hreach (by decide) (by decide) (by decide)).trans
      (congrArg (tookOr · p who 0x100) (stkCfgWrite_of_busy (s := seenBy s who) (c := c.val) (by rw [hstash, hmoving]; exact hbusy) false v.toNat))),
      ignored_kept ..⟩
  · have hlend' : (List.range (field v.toNat 16 0 - (seenBy s who).stkH c.val)).all
        (fun i => lendable (seenBy s who) ((seenBy s who).lender c.val 0 + (seenBy s who).stkH c.val + i)) = true := by
      rw [hH]
      exact (seenBy_keep s who (fun r => (List.range (field v.toNat 16 0 - s.stkH c.val)).all
        (fun i => lendable r (r.lender c.val 0 + s.stkH c.val + i))) fun _ => rfl).trans hlend
    exact ⟨_, congrArg Host.Outcome.next ((writeReg_stk hreach (by decide) (by decide) (by decide)).trans
      (congrArg (tookOr · p who 0x108) (hbmTilesWrite_more (s := seenBy s who) (c := c.val) (by rw [hH]; exact hmore) (by rw [hP]; exact hfit) hlend'))),
      hset _ _ 17 (by decide) (hfield 16), seenBy_mem s who⟩
  · exact ⟨_, congrArg Host.Outcome.next ((writeReg_stk hreach (by decide) (by decide) (by decide)).trans
      (congrArg (tookOr · p who 0x108) (hbmTilesWrite_beyond (s := seenBy s who) (c := c.val) (by rw [hH]; exact hmore) (by rw [hP]; exact hfit)))),
      ignored_kept ..⟩

/-- Settles O27: moves, Stash space and the Stash's registers, through what each leaves of memory. -/
theorem movesAndStashSpace : Obligations.MovesAndStashSpace := ⟨moves, stashMoves, stashRegisters⟩

end Sys2Proof.Machine
end

section
/-! OBLIGATIONS. Register and memory requests of a Talel context (R204, R205, R355, R395). -/

namespace Sys2Proof.Machine

/-! ### A request at the head of its context -/

/-- A context with the request at its head taken. -/
def popped (s : State) (n : Nat) (rest : List Msg) : State := s.setTctx n { s.tctx n with ready := rest }

theorem talWrites_popped (s : State) (n : Nat) (rest : List Msg) : TalWrites s (popped s n rest) := talWrites_setTctx ..

theorem popped_tctx (s : State) (n : Nat) (rest : List Msg) : (popped s n rest).tctx n = { s.tctx n with ready := rest } :=
  (State.tctx_setTctx ..).trans (if_pos rfl)

theorem popped_mem (s : State) (n : Nat) (rest : List Msg) : (popped s n rest).mem = s.mem := (talWrites_popped s n rest).mem

/-- Registers of other pages, and of other offsets, are not those that count a page's contexts. -/
theorem Page.key_ne_of_off (p q : Page) {a b : Nat} (ha : a < 0x1000) (hb : b < 0x1000) (hne : a ≠ b) : p.key a ≠ q.key b := by
  intro h
  have hmod := congrArg (· % 0x1000) h
  simp only [p.key_mod ha, q.key_mod hb] at hmod
  exact hne hmod

theorem key_ne_stage (p : Page) {off : Nat} (hlt : off < 0x1000) (hne : off ≠ 0x014) : p.key off ≠ talPage.key 0x014 :=
  p.key_ne_of_off talPage hlt (by decide) hne

theorem popped_regN (s : State) (n : Nat) (rest : List Msg) (p : Page) {off : Nat} (hlt : off < 0x1000) (hne : off ≠ 0x014) :
    (popped s n rest).regN p off = s.regN p off := (talWrites_popped s n rest).reg p off (key_ne_stage p hlt hne)

/-- A context that has sent nothing since, and can answer at once. -/
structure Unsent (s u : State) (n : Nat) : Prop where
  st : (u.tctx n).st = 1
  unacked : (u.tctx n).unacked = (s.tctx n).unacked
  next : (u.tctx n).txNext = (s.tctx n).txNext
  queue : (u.tctx n).queue = []
  room : (u.tctx n).unacked.length < min (u.tctx n).cwnd u.cwndMax

theorem answers_of_unsent {s u : State} {n : Nat} (h : Unsent s u n) (m : Msg) (len data : Nat) :
    Answers s (answerReq u n m len data) n m len data := by
  obtain ⟨e, hunacked, hcls, hresp, htag, hlen, hdata, hpsn⟩ := respond_of_room m len data h.queue h.room
  unfold answerReq
  rw [if_pos h.st]
  exact ⟨e, by rw [hunacked, h.unacked], hcls, hresp, htag, hlen, hdata, by rw [hpsn, h.next]⟩

theorem Unsent.of_same {s t u : State} {n : Nat} (h : Unsent s t n) (hnet : u.net = t.net) (hmax : u.regN talPage 0x108 = t.regN talPage 0x108) :
    Unsent s u n := by
  have hctx : u.tctx n = t.tctx n := State.tctx_of_ctxs (by rw [hnet]) n
  exact ⟨by rw [hctx, h.st], by rw [hctx, h.unacked], by rw [hctx, h.next], by rw [hctx, h.queue],
    by rw [hctx, State.cwndMax_of_regN hmax]; exact h.room⟩

theorem talWrites_answerReq (s : State) (n : Nat) (m : Msg) (len data : Nat) : TalWrites s (answerReq s n m len data) := by
  unfold answerReq
  split
  · exact (talSends_sendMsg ..).writes
  · exact .refl s

theorem reqCode_congr {s t : State} {c d : TalCtx} (hkind : d.kind = c.kind) (hpart : d.part = c.part) (hepoch : t.epoch c.part = s.epoch c.part)
    (m : Msg) : reqCode t d m = reqCode s c m := by
  unfold reqCode
  rw [hkind, hpart, hepoch]

section
variable {s : State} {n : Nat} {m : Msg} {rest : List Msg} (h : RequestReady s n m rest)
include h

theorem RequestReady.unsent : Unsent s (popped s n rest) n := by
  obtain ⟨hst, -, hqueue, hroom, -⟩ := h
  have hctx := popped_tctx s n rest
  have hmax : (popped s n rest).cwndMax = s.cwndMax := State.cwndMax_of_regN (popped_regN s n rest talPage (by decide) (by decide))
  exact ⟨by rw [hctx, ← hst], by rw [hctx], by rw [hctx], by rw [hctx, ← hqueue], by rw [hctx, hmax]; exact hroom⟩

theorem RequestReady.code : reqCode (popped s n rest) ((popped s n rest).tctx n) m = 0 := by
  obtain ⟨-, -, -, -, hcode⟩ := h
  have hepoch : (popped s n rest).epoch (s.tctx n).part = s.epoch (s.tctx n).part := by
    have hkey : partPage.key (0x100 + 4 * (s.tctx n).part) ≠ talPage.key 0x014 := by
      show 0xA8A000 + (0x100 + 4 * (s.tctx n).part) ≠ 0xA81000 + 0x014
      omega
    rw [State.epoch, State.epoch, (talWrites_popped s n rest).reg _ _ hkey]
  exact (reqCode_congr (by rw [popped_tctx]) (by rw [popped_tctx]) hepoch m).trans hcode

theorem RequestReady.popReady {ok : Msg → Bool} (hok : ok m = true) : s.popReady n ok = some (m, popped s n rest) := by
  obtain ⟨hst, hready, -⟩ := h
  exact popReady_of_head _ hst hready hok

theorem RequestReady.withRequest {ok : Msg → Bool} (hok : ok m = true) (act : State → Msg → State) :
    withRequest s n ok act = act (popped s n rest) m := withRequest_of_ok _ act (h.popReady hok) h.code

end

theorem talelOf_popped (s : State) (n : Nat) (rest : List Msg) : talelOf (popped s n rest) n = .talel (Fin.ofNat 4 (s.tctx n).part) := by
  rw [talelOf, popped_tctx]

/-! ### Registers (R395) -/

theorem popped_domainUp (s : State) (n : Nat) (rest : List Msg) (d : Nat) : (popped s n rest).domainUp d = s.domainUp d := by
  have hpower : (popped s n rest).power = s.power := (talWrites_popped s n rest).onlyIn .power (by decide)
  have hfab : (popped s n rest).fab = s.fab := (talWrites_popped s n rest).onlyIn .fab (by decide)
  unfold State.domainUp State.domainState State.clock
  rw [hpower, hfab]

theorem popped_admits (s : State) (n : Nat) (rest : List Msg) (p : Page) (k : Fin 4) :
    (popped s n rest).admits p (.talel k) = s.admits p (.talel k) := by
  unfold State.admits State.owner State.reqPart
  rw [popped_regN s n rest p (by decide) (by decide)]

section
variable {s : State} {n : Nat} {m : Msg} {rest : List Msg} {p : Page} (hone : field m.data 7 2 = 0) (hpage : pageAt (field m.data 31 8) = some p)
  (hup : s.domainUp p.domain = true) (hadmits : s.admits p (.talel (Fin.ofNat 4 (s.tctx n).part)) = true)
include hpage hup hadmits

theorem busCheck_popped (v : Nat) (write : Bool) (hoff : field m.data 31 8 % 0x1000 ≠ 0x040) :
    busCheck (popped s n rest) (field m.data 31 8) (.talel (Fin.ofNat 4 (s.tctx n).part)) write v = (popped s n rest, .ok p) := by
  have hper : (Requester.talel (Fin.ofNat 4 (s.tctx n).part) == Requester.periscope) = false := rfl
  unfold busCheck
  dsimp only
  rw [hpage]
  dsimp only
  rw [hper, Bool.false_and, if_neg Bool.false_ne_true, if_neg Bool.false_ne_true, popped_domainUp, hup, popped_admits, hadmits, if_neg (by decide),
    if_neg (by rw [beq_false_of_ne hoff]; simp)]

include hone

/-- One register below OWNER passes the checks of a REG request. -/
theorem regCheck_popped (hoff : field m.data 31 8 % 0x1000 < 0x040) : regCheck (popped s n rest) n m = (popped s n rest, 0) := by
  unfold regCheck
  dsimp only
  rw [hpage]
  dsimp only
  rw [hone, talelOf_popped, popped_domainUp, hup, popped_admits, hadmits, if_neg (by omega), if_neg (by decide), if_neg (by decide),
    decide_eq_false (show ¬ 0x040 ≤ field m.data 31 8 % 0x1000 + 4 * 0 by omega), if_neg (by rw [Bool.and_false]; decide)]

end

theorem pageRead_id (s : State) (p : Page) (who : Requester) : pageRead s p who 0 = (s, .value (p.block.code * 2 ^ 24 + p.inst)) := by
  obtain ⟨b, i⟩ := p
  cases b <;> rfl

theorem regReads_one {s u : State} {who : Requester} {off x : Nat} (h : busRead s off who = (u, .value x)) :
    regReads s who off (0 + 1) = (u, x, false) := by
  rw [regReads, h]
  show (u, x + 2 ^ 32 * 0, false) = _
  rw [Nat.mul_zero, Nat.add_zero]

theorem pageWrite_imask (s : State) (p : Page) (who : Requester) (v t : Nat) : pageWrite s p who 0x01C v t =
    s.setReg p 0x01C (BitVec.ofNat 32 v &&& BitVec.ofNat 32 (2 ^ p.block.istBits - 1)) := by
  unfold pageWrite
  dsimp only
  rw [if_neg (by decide), if_pos rfl]

section
variable {s : State} {n : Nat} {m : Msg} {rest : List Msg} {p : Page} (h : RequestReady s n m rest) (hcls : m.cls = 1)
  (hone : field m.data 7 2 = 0) (hpage : pageAt (field m.data 31 8) = some p) (hup : s.domainUp p.domain = true)
  (hadmits : s.admits p (.talel (Fin.ofNat 4 (s.tctx n).part)) = true)
include h hcls hone hpage hup hadmits

theorem regRead_id (hop : field m.data 1 0 = 0) (hoff : field m.data 31 8 = p.key 0) :
    regRead s n = answerReq (popped s n rest) n m 4 (p.block.code * 2 ^ 24 + p.inst) := by
  have hmod : field m.data 31 8 % 0x1000 = 0 := by rw [hoff, p.key_mod (by decide)]
  have hread : busRead (popped s n rest) (field m.data 31 8) (.talel (Fin.ofNat 4 (s.tctx n).part)) =
      (popped s n rest, .value (p.block.code * 2 ^ 24 + p.inst)) := by
    rw [busRead_of_ok (busCheck_popped hpage hup hadmits 0 false (by omega)), hmod]
    exact pageRead_id ..
  unfold regRead
  rw [h.withRequest (by rw [isReg, hcls, hop]; rfl)]
  simp only [regCheck_popped hone hpage hup hadmits (show field m.data 31 8 % 0x1000 < 0x040 by omega)]
  rw [hone, talelOf_popped, regReads_one hread]

theorem regWrite_imask (hop : field m.data 1 0 = 1) (hoff : field m.data 31 8 = p.key 0x01C) : regWrite s n =
    answerReq ((popped s n rest).setReg p 0x01C (BitVec.ofNat 32 (m.data / 2 ^ 96) &&& BitVec.ofNat 32 (2 ^ p.block.istBits - 1))) n m 0 0 := by
  have hmod : field m.data 31 8 % 0x1000 = 0x01C := by rw [hoff, p.key_mod (by decide)]
  have hv : m.data / 2 ^ 96 % 2 ^ 32 = (BitVec.ofNat 32 (m.data / 2 ^ 96)).toNat := (BitVec.toNat_ofNat ..).symm
  have hwrite : (busWrite (popped s n rest) (field m.data 31 8) (.talel (Fin.ofNat 4 (s.tctx n).part)) (m.data / 2 ^ 96 % 2 ^ 32)).1 =
      (popped s n rest).setReg p 0x01C (BitVec.ofNat 32 (m.data / 2 ^ 96) &&& BitVec.ofNat 32 (2 ^ p.block.istBits - 1)) := by
    rw [hv, busWrite_of_ok (busCheck_popped hpage hup hadmits _ true (by omega)), hmod, pageWrite_imask, BitVec.ofNat_toNat, BitVec.setWidth_eq]
    rfl
  unfold regWrite
  rw [h.withRequest (by rw [isReg, hcls, hop]; rfl)]
  simp only [regCheck_popped hone hpage hup hadmits (show field m.data 31 8 % 0x1000 < 0x040 by omega)]
  rw [hone, talelOf_popped, regWrites, hwrite]
  rfl

end

/-! ### A piece of memory within one tile (R193) -/

theorem accessPieces_of_fit {a n tile off : Nat} {side : Bool} (hn : 0 < n) (hspot : spotOf a = .tile tile side off)
    (hfit : off + n ≤ if side then 0x400 else 0x8000) : accessPieces a n = [(a, n, 0)] := by
  have hmin : min n ((if side then 0x400 else 0x8000) - off) = n := by omega
  have hrest : piecesOf (a + n) 0 (0 + n) (n / 0x400 + 2) = [] := by rw [piecesOf, if_pos rfl]
  rw [accessPieces, piecesOf, if_neg (by omega), hspot]
  dsimp only
  rw [hmin, Nat.sub_self, hrest]

/-- An access that its agent carries out at once. -/
theorem arrive_of_done {s r : State} {h : Held} (hsat : s.saturated h.agent = false) (hholds : s.holdsFor h.tile = false)
    (hdone : performHeld (s.accept h.tile) h = (r, true)) : arrive s h = r := by
  have hholds' : (s.accept h.tile).holdsFor h.tile = false := by
    rw [State.holdsFor, accept_mem]
    exact hholds
  unfold arrive
  rw [if_neg (by rw [hsat]; decide)]
  dsimp only
  rw [if_neg (by rw [hholds']; decide), hdone]

theorem stashBusy_dataTile (s : State) {n : Nat} (h : isDataTile n = true) : stashBusy s n = false := by
  rw [stashBusy, stashOf_dataTile h]

/-- The access of one piece goes to its tile's agent. -/
theorem submit_of_tile {s : State} {key : UnitKey} {a n tile off : Nat} {side : Bool} {op : HeldOp} (hspot : spotOf a = .tile tile side off)
    (hserved : servedAt s key a n = none) (hpending : pendingAt s key a n = false) (hdata : isDataTile tile = true) :
    submit s key a n op = arrive s ⟨agentOf tile, tile, op⟩ := by
  unfold submit
  rw [hspot]
  dsimp only
  rw [hserved, hpending, stashBusy_dataTile s hdata, if_neg (by decide), stashOf_dataTile hdata]
  cases op <;> rfl

theorem LoadAns.join_zero (k v : Nat) : LoadAns.join k (.data v) (.data 0) = .data v := by
  show LoadAns.data (v + 2 ^ (8 * k) * 0) = _
  rw [Nat.mul_zero, Nat.add_zero]

/-- The outcome of one piece, served last. -/
theorem takeOutcome_of_last {s u : State} {key : UnitKey} {a n : Nat} {v : Nat} (hpieces : accessPieces a n = [(a, n, 0)])
    (hserved : servedAt s key a n = none) (hlast : u.mem.served = s.mem.served ++ [⟨key, a, n, .data v⟩]) :
    ∃ r : State, takeOutcome u key a n = some (r, .data v) ∧ r.mem.dram = u.mem.dram ∧ r.mem.dir = u.mem.dir ∧
      r.net = u.net ∧ r.regs = u.regs := by
  have hfind : servedAt u key a n = some (.data v) := by
    have hnone : s.mem.served.find? (fun e => decide (e.key = key ∧ e.addr = a ∧ e.len = n)) = none := Option.map_eq_none_iff.mp hserved
    rw [servedAt, hlast, List.find?_append, hnone]
    simp
  unfold takeOutcome
  dsimp only
  rw [hpieces, if_pos (by simp [hfind])]
  refine ⟨_, congrArg some (Prod.ext rfl ?_), rfl, rfl, rfl, rfl⟩
  show LoadAns.join n ((servedAt u key a n).getD .error) (.data 0) = _
  rw [hfind, Option.getD_some, LoadAns.join_zero]

/-! ### A tile at rest, from a context's request -/

section
variable {s : State} {part tile : Nat} (h : PlainTile s part tile)
include h

theorem PlainTile.popped {n : Nat} {rest : List Msg} : PlainTile (popped s n rest) part tile := by
  obtain ⟨hdata, hin, hsat, hhome, hmoving, hholds, hatomics⟩ := h
  have hmem := popped_mem s n rest
  have hentry : (Machine.popped s n rest).entry tile = s.entry tile := State.entry_congr (by rw [hmem]) (by rw [hmem]) tile
  refine ⟨hdata, ?_, ?_, ?_, ?_, ?_, ?_⟩
  · rw [← hin]
    unfold State.tileInPart
    rw [stashOf_dataTile hdata]
    have hkey (off : Nat) : (⟨.part, 0⟩ : Page).key off ≠ talPage.key 0x014 := by
      show 0xA8A000 + off ≠ 0xA81000 + 0x014
      omega
    dsimp only
    rw [(talWrites_popped s n rest).reg _ _ (hkey _), (talWrites_popped s n rest).reg _ _ (hkey _)]
  · rw [← hsat, State.saturated, State.saturated, State.heldCount, State.heldCount, hmem]
  · rw [State.hasHome, hentry]
    exact hhome
  · rw [hentry, hmoving]
  · rw [State.holdsFor, hmem]
    exact hholds
  · rw [hmem]
    exact hatomics

end

section
variable {s : State} {part tile a n off : Nat} {side : Bool} {key : UnitKey} (h : PlainTile s part tile) (hn : 0 < n)
  (hspot : spotOf a = .tile tile side off) (hfit : off + n ≤ if side then 0x400 else 0x8000)
include h hn hspot hfit

theorem reachesAll_of_plain : reachesAll s (some part) a n = true := by
  obtain ⟨-, hin, -⟩ := h
  rw [reachesAll, accessPieces_of_fit hn hspot hfit, List.all_cons, pieceTile, hspot]
  dsimp only
  rw [hin]
  rfl

/-- An answered access of a tile at rest is taken at once. -/
theorem takeOutcome_of_plain (hserved : servedAt s key a n = none) (hpending : pendingAt s key a n = false) {op : HeldOp} {r : State} {v : Nat}
    (hdone : performHeld (s.accept tile) ⟨agentOf tile, tile, op⟩ = (r, true)) (hlast : r.mem.served = s.mem.served ++ [⟨key, a, n, .data v⟩]) :
    submit s key a n op = r ∧ ∃ u : State, takeOutcome r key a n = some (u, .data v) ∧ u.mem.dram = r.mem.dram ∧
      u.mem.dir = r.mem.dir ∧ u.net = r.net ∧ u.regs = r.regs := by
  have hpieces := accessPieces_of_fit hn hspot hfit
  obtain ⟨hdata, -, hsat, -, -, hholds, -⟩ := h
  exact ⟨(submit_of_tile hspot hserved hpending hdata).trans (arrive_of_done hsat hholds hdone), takeOutcome_of_last hpieces hserved hlast⟩

end

/-- What an access that its agent carries out does not touch. -/
structure Apart (s t : State) : Prop where
  net : t.net = s.net
  reg : ∀ (p : Page) (off : Nat), off < 0x1000 → off ≠ 0x018 → t.regN p off = s.regN p off

theorem Apart.trans {s t r : State} (h : Apart s t) (g : Apart t r) : Apart s r :=
  ⟨g.net.trans h.net, fun p off hlt hne => (g.reg p off hlt hne).trans (h.reg p off hlt hne)⟩

theorem Apart.of_homes {s t : State} (hnet : t.net = s.net) (h : SameHomes s t) : Apart s t := ⟨hnet, fun p _ hlt hne => h.regN p hlt hne⟩

theorem Apart.of_regs {s t : State} (hnet : t.net = s.net) (h : t.regs = s.regs) : Apart s t := ⟨hnet, fun p off _ _ => State.regN_congr h p off⟩

theorem apart_accept (s : State) (n : Nat) : Apart s (s.accept n) := .of_homes (onlyIn_accept s n .net (by decide)) (sameHomes_accept s n)

theorem meetsPoison_congr {s t : State} (h : t.mem = { s.mem with shared := t.mem.shared }) (a n : Nat) : t.meetsPoison a n = s.meetsPoison a n := by
  have hpoison : t.mem.poison = s.mem.poison := by rw [h]
  have hbm : t.mem.hbm = s.mem.hbm := by rw [h]
  have hall : t.mem.allPoison = s.mem.allPoison := by rw [h]
  unfold State.meetsPoison State.placeLost State.anyLost State.stack
  rw [hpoison, hbm, hall]

theorem sameHomes_serveRead {s : State} {n : Nat} (hrest : s.mem.atomics.all (fun k => decide (k.addr / 0x8000 ≠ n)) = true) (side : Bool)
    (off len : Nat) : SameHomes s (serveRead s n side off len).1 := by
  have hread := sameHomes_readCounted s (s.tilePlace n side off) len
  unfold serveRead
  rw [settle_of_none hrest]
  dsimp only
  split
  · exact .ite (hread.trans (sameHomes_bump ..)) hread
  · exact hread

theorem apart_serveWrite {s : State} {n : Nat} (hrest : s.mem.atomics.all (fun k => decide (k.addr / 0x8000 ≠ n)) = true) (side : Bool)
    (off len v : Nat) : Apart s (serveWrite s n side off len v false) := by
  refine .of_homes (onlyIn_serveWrite s n side off len v false .net (by decide)) ?_
  have hput := put_mem (s.writeCounted (s.tilePlace n side off) len) (s.tilePlace n side off) len v
  rw [serveWrite_of_rest hrest]
  exact (sameHomes_writeCounted ..).trans (.of_mem (by rw [hput]) (by rw [hput]) (onlyIn_put _ _ _ _ .regs (by decide)))

section
variable {s : State} {part tile : Nat} (h : PlainTile s part tile)
include h

/-- A tile at rest that its agent has accepted an access to. -/
theorem PlainTile.accepted : eMoving ((s.accept tile).entry tile) = false ∧ (s.accept tile).hasHome tile = true ∧
    (s.accept tile).mem.atomics.all (fun k => decide (k.addr / 0x8000 ≠ tile)) = true ∧
    ∀ side off, (s.accept tile).tilePlace tile side off = s.tilePlace tile side off := by
  have hhomes := sameHomes_accept s tile
  obtain ⟨-, -, -, hhome, hmoving, -, hatomics⟩ := h
  exact ⟨by rw [hhomes.entry, hmoving], by rw [hhomes.hasHome, hhome], by rw [accept_mem]; exact hatomics, hhomes.tilePlace tile⟩

theorem performHeld_read {key : UnitKey} {a n off : Nat} {side : Bool} (hspot : spotOf a = .tile tile side off)
    (hclean : s.meetsPoison (s.tilePlace tile side off) n = false) : ∃ r, performHeld (s.accept tile) ⟨agentOf tile, tile, .read key a n⟩ = (r, true) ∧
      r.mem.served = s.mem.served ++ [⟨key, a, n, .data (Mem.read s.mem.dram (s.tilePlace tile side off) n)⟩] ∧ r.mem.dram = s.mem.dram ∧
      r.mem.dir = s.mem.dir ∧ Apart s r := by
  obtain ⟨hmoving, hhome, hrest, hplace⟩ := h.accepted
  have hmem := accept_mem s tile
  have hapart := apart_accept s tile
  have hpoison := meetsPoison_congr hmem (s.tilePlace tile side off) n
  have hdram : (s.accept tile).mem.dram = s.mem.dram := by rw [hmem]
  have hread := serveRead_of_clean hrest (side := side) (off := off) (len := n) (by rw [hplace, hpoison, hclean])
  have hreadmem := serveRead_mem hrest side off n
  have hreadapart : Apart (s.accept tile) (serveRead (s.accept tile) tile side off n).1 :=
    .of_homes (onlyIn_serveRead _ _ _ _ _ .net (by decide)) (sameHomes_serveRead hrest side off n)
  unfold performHeld
  dsimp only
  rw [hmoving, Bool.and_false, if_neg Bool.false_ne_true, readHome, hspot]
  dsimp only
  rw [if_pos hhome, ← hdram, ← hplace side off, ← hread]
  generalize serveRead (s.accept tile) tile side off n = r at hreadmem hreadapart
  refine ⟨_, rfl, ?_, ?_, ?_, (hapart.trans hreadapart).trans (.of_regs rfl rfl)⟩
  · show r.1.mem.served ++ _ = _
    rw [hreadmem, hmem]
  · show r.1.mem.dram = _
    rw [hreadmem]
  · show r.1.mem.dir = _
    rw [hreadmem, hmem]

theorem performHeld_write {key : UnitKey} {a n off v : Nat} {side : Bool} (hspot : spotOf a = .tile tile side off) :
    ∃ r, performHeld (s.accept tile) ⟨agentOf tile, tile, .write a n v false (some (.unit key))⟩ = (r, true) ∧
      r.mem.served = s.mem.served ++ [⟨key, a, n, .data 0⟩] ∧ r.mem.dram = (s.put (s.tilePlace tile side off) n v).mem.dram ∧
      r.mem.dir = s.mem.dir ∧ Apart s r := by
  obtain ⟨hmoving, hhome, hrest, hplace⟩ := h.accepted
  have hmem := accept_mem s tile
  have hput := (put_congr (s := s) (t := s.accept tile) (by rw [hmem]) (by rw [hmem]) (s.tilePlace tile side off) n v).1
  have hwrite := serveWrite_mem hrest side off n v
  have hapart := (apart_accept s tile).trans (apart_serveWrite hrest side off n v)
  rw [hplace, hput] at hwrite
  unfold performHeld
  dsimp only
  rw [hmoving, Bool.and_false, if_neg Bool.false_ne_true, hspot]
  dsimp only
  rw [if_pos hhome]
  generalize serveWrite (s.accept tile) tile side off n v false = r at hwrite hapart
  refine ⟨_, rfl, ?_, ?_, ?_, hapart.trans (.of_regs rfl rfl)⟩
  · show r.mem.served ++ _ = _
    rw [hwrite, hmem]
    rfl
  · show r.mem.dram = _
    rw [hwrite]
  · show r.mem.dir = _
    rw [hwrite, hmem]

end

theorem sameHomes_atomicCounted (s : State) (p : Page) (k : Nat) : SameHomes s (atomicCounted s p k) := by
  have hbump := sameHomes_bump s p 4
  exact .ite hbump ((hbump.raise p 2).trans (sameHomes_bumpBy ..))

/-- An addition of operands without a poison mark leaves every home where it is. -/
theorem sameHomes_applyAtomic (s : State) {a : Atomic} (hmarks : a.marks = []) : SameHomes s (applyAtomic s a) := by
  rw [applyAtomic_eq]
  refine .trans ?_ (sameHomes_atomicCounted ..)
  rw [atomicStored, if_pos (by rw [hmarks]; rfl)]
  exact (sameHomes_readCounted ..).trans (.of_mem rfl rfl rfl)

theorem applyAtomic_mem (s : State) {a : Atomic} (hmarks : a.marks = []) : (applyAtomic s a).mem = { s.mem with dram := (atomicSums s a).1 } := by
  have hcounted (r : State) (p : Page) (k : Nat) : (atomicCounted r p k).mem = r.mem := onlyIn_atomicCounted r p k .mem (by decide)
  rw [applyAtomic_eq, hcounted, atomicStored, if_pos (by rw [hmarks]; rfl)]
  show ({ (s.readCounted _ _).mem with dram := _ } : Memory) = _
  rw [readCounted_mem]

section
variable {s : State} {tile part : Nat} (h : PlainTile s part tile)
include h

theorem performHeld_fetchAdd {n : Nat} {a : Atomic} (htier : eTier (s.entry tile) = 0) (htile : a.addr / 0x8000 = tile) (hmarks : a.marks = [])
    (hlen : a.len = grainOf a.fmt) (hclean : s.meetsPoison (s.tilePlace tile false (a.addr % 0x8000)) a.len = false) :
    ∃ r, performHeld (s.accept tile) ⟨agentOf tile, tile, .fetchAdd n a⟩ = (r, true) ∧
      r.mem.served = s.mem.served ++ [⟨.talel n, a.addr, a.len, .data (Mem.read s.mem.dram (s.tilePlace tile false (a.addr % 0x8000)) a.len)⟩] ∧
      r.mem.dram = Mem.write s.mem.dram (s.tilePlace tile false (a.addr % 0x8000)) a.len
        (grainAdd a.fmt (Mem.read s.mem.dram (s.tilePlace tile false (a.addr % 0x8000)) a.len) (Mem.read a.bytes 0 a.len)).1 ∧
      r.mem.dir = s.mem.dir ∧ Apart s r := by
  obtain ⟨hmoving, hhome, hrest, hplace⟩ := h.accepted
  have hentry := (sameHomes_accept s tile).entry tile
  have hmem := accept_mem s tile
  have hpoison := meetsPoison_congr hmem (s.tilePlace tile false (a.addr % 0x8000)) a.len
  have hdram : (s.accept tile).mem.dram = s.mem.dram := by rw [hmem]
  have hatomic : atomicPlace (s.accept tile) a = s.tilePlace tile false (a.addr % 0x8000) := by
    rw [atomicPlace, htile]
    exact hplace false _
  have hsums : (atomicSums (s.accept tile) a).1 = Mem.write s.mem.dram (s.tilePlace tile false (a.addr % 0x8000)) a.len
      (grainAdd a.fmt (Mem.read s.mem.dram (s.tilePlace tile false (a.addr % 0x8000)) a.len) (Mem.read a.bytes 0 a.len)).1 := by
    rw [atomicSums, hlen, Nat.div_self (grainOf_pos _), addGrains_one, hatomic, hdram]
  have happlied := applyAtomic_mem (s.accept tile) hmarks
  have hapart : Apart s (applyAtomic (s.accept tile) a) := (apart_accept s tile).trans
    (.of_homes (onlyIn_applyAtomic _ a .net (by decide)) (sameHomes_applyAtomic _ hmarks))
  unfold performHeld
  dsimp only
  rw [hhome, hmoving, if_neg (by decide), if_neg (by decide), hentry, htier, if_neg (by decide), settle_of_none hrest, hatomic, hpoison, hclean,
    if_neg Bool.false_ne_true, hdram]
  generalize applyAtomic (s.accept tile) a = r at happlied hapart
  refine ⟨_, rfl, ?_, ?_, ?_, hapart.trans (.of_regs rfl rfl)⟩
  · show r.mem.served ++ _ = _
    rw [happlied, hmem]
  · show r.mem.dram = _
    rw [happlied, hsums]
  · show r.mem.dir = _
    rw [happlied, hmem]

end

/-! ### The requests (R355) -/

/-- A memory request that passes its checks asks for bytes. -/
theorem memLen_pos {s : State} {c : TalCtx} {m : Msg} (hcls : m.cls = 2) (hcode : reqCode s c m = 0) : 0 < field m.data 31 16 := by
  by_contra hzero
  have hlen : field m.data 31 16 < 4 := by omega
  unfold reqCode at hcode
  generalize (if modDist 16 m.epoch (s.epoch c.part) = 0 then 0 else if modDist 16 m.epoch (s.epoch c.part) < 2 ^ 15 then 12 else 9) = stale
    at hcode
  rw [hcls] at hcode
  simp only [hlen, true_or, or_true, if_true] at hcode
  split at hcode
  · cases hcode
  · split at hcode
    · contradiction
    · cases hcode

/-- What a request leaves, once the access that it made has been answered. -/
theorem RequestReady.answered {s r u : State} {n : Nat} {m : Msg} {rest : List Msg} (h : RequestReady s n m rest) (hapart : Apart (popped s n rest) r)
    (hnet : u.net = r.net) (hregs : u.regs = r.regs) (len data : Nat) :
    Answers s (answerReq u n m len data) n m len data ∧ (answerReq u n m len data).mem = u.mem := by
  have hunsent : Unsent s u n := h.unsent.of_same (hnet.trans hapart.net)
    ((State.regN_congr hregs talPage 0x108).trans (hapart.reg talPage 0x108 (by decide) (by decide)))
  exact ⟨answers_of_unsent hunsent m len data, (talWrites_answerReq u n m len data).mem⟩

section
variable (s : State) (n : Nat) (rest : List Msg)

theorem popped_servedAt (key : UnitKey) (a k : Nat) : servedAt (popped s n rest) key a k = servedAt s key a k := by
  rw [servedAt, servedAt, popped_mem]

theorem popped_pendingAt (key : UnitKey) (a k : Nat) : pendingAt (popped s n rest) key a k = pendingAt s key a k := by
  rw [pendingAt, pendingAt, popped_mem]

theorem popped_entry (k : Nat) : (popped s n rest).entry k = s.entry k := State.entry_congr (by rw [popped_mem]) (by rw [popped_mem]) k

theorem popped_tilePlace {tile : Nat} (hdata : isDataTile tile = true) (side : Bool) (off : Nat) :
    (popped s n rest).tilePlace tile side off = s.tilePlace tile side off := by
  unfold State.tilePlace State.home State.hbmHome State.hbmFrame
  rw [stashOf_dataTile hdata, popped_entry]

theorem popped_meetsPoison (a k : Nat) : (popped s n rest).meetsPoison a k = s.meetsPoison a k :=
  meetsPoison_congr (by rw [popped_mem]) a k

end

section
variable {s : State} {n : Nat} {m : Msg} {rest : List Msg} (h : RequestReady s n m rest) (hcls : m.cls = 2) {tile off : Nat} {side : Bool}
  (hplain : PlainTile s (s.tctx n).part tile) (hspot : spotOf (memAddr m) = .tile tile side off)
  (hfit : off + memLen m ≤ if side then 0x400 else 0x8000) (hnone : NothingAsked s n (memAddr m) (memLen m))
include h hcls hplain hspot hfit hnone

theorem talelRead_of_plain (hop : field m.data 1 0 = 0) (hclean : s.meetsPoison (s.tilePlace tile side off) (memLen m) = false) :
    Answers s (talelRead s n) n m (memLen m) (Mem.read s.mem.dram (s.tilePlace tile side off) (memLen m)) ∧
      (talelRead s n).mem.dram = s.mem.dram ∧ (talelRead s n).mem.dir = s.mem.dir := by
  obtain ⟨hserved, hpending⟩ := hnone
  have hn : 0 < memLen m := memLen_pos hcls h.code
  have hplain' := hplain.popped (n := n) (rest := rest)
  have hreach := reachesAll_of_plain hplain' hn hspot hfit
  have hpieces := accessPieces_of_fit hn hspot hfit
  have hplace := popped_tilePlace s n rest hplain.1 side off
  obtain ⟨r, hdone, hlast, hdram, hdir, hapart⟩ := performHeld_read hplain' (key := .talel n) (n := memLen m) hspot
    (by rw [hplace, popped_meetsPoison, hclean])
  obtain ⟨hsubmit, u, htake, hudram, hudir, hunet, huregs⟩ := takeOutcome_of_plain hplain' hn hspot hfit
    (by rw [popped_servedAt]; exact hserved) (by rw [popped_pendingAt]; exact hpending) hdone hlast
  have hread : unitRead (popped s n rest) (.talel n) (some (s.tctx n).part) (memAddr m) (memLen m) =
      (u, some (.data (Mem.read s.mem.dram (s.tilePlace tile side off) (memLen m)))) := by
    have hasked : (popped s n rest).askFor (.talel n) (some (s.tctx n).part) (memAddr m) (memLen m) = r := by
      rw [State.askFor, hreach, if_neg (by decide), hpieces]
      exact hsubmit
    unfold unitRead
    rw [hreach, if_neg (by decide), hasked]
    dsimp only
    rw [htake, hplace, popped_mem]
  have hrun : talelRead s n = answerReq u n m (memLen m) (Mem.read s.mem.dram (s.tilePlace tile side off) (memLen m)) := by
    unfold talelRead
    rw [h.popReady (by rw [isMem, hcls, hop]; rfl)]
    dsimp only
    rw [h.code, if_neg (by decide), popped_tctx]
    dsimp only
    rw [hread]
  obtain ⟨hanswers, hmem⟩ := h.answered hapart hunet huregs (memLen m) (Mem.read s.mem.dram (s.tilePlace tile side off) (memLen m))
  rw [hrun, hmem]
  exact ⟨hanswers, by rw [hudram, hdram, popped_mem], by rw [hudir, hdir, popped_mem]⟩

theorem talelWrite_of_plain (hop : field m.data 1 0 = 1) : Answers s (talelWrite s n) n m 0 0 ∧ (talelWrite s n).mem.dir = s.mem.dir ∧
    (talelWrite s n).mem.dram = (s.put (s.tilePlace tile side off) (memLen m) (m.data / 2 ^ 96 % 2 ^ (8 * memLen m))).mem.dram := by
  obtain ⟨hserved, hpending⟩ := hnone
  have hn : 0 < memLen m := memLen_pos hcls h.code
  have hplain' := hplain.popped (n := n) (rest := rest)
  have hreach := reachesAll_of_plain hplain' hn hspot hfit
  have hpieces := accessPieces_of_fit hn hspot hfit
  have hplace := popped_tilePlace s n rest hplain.1 side off
  obtain ⟨r, hdone, hlast, hdram, hdir, hapart⟩ := performHeld_write hplain' (key := .talel n) (n := memLen m)
    (v := m.data / 2 ^ 96 % 2 ^ (8 * memLen m)) hspot
  obtain ⟨hsubmit, u, htake, hudram, hudir, hunet, huregs⟩ := takeOutcome_of_plain hplain' hn hspot hfit
    (by rw [popped_servedAt]; exact hserved) (by rw [popped_pendingAt]; exact hpending) hdone hlast
  have hput := (put_congr (s := s) (t := popped s n rest) (by rw [popped_mem]) (by rw [popped_mem]) (s.tilePlace tile side off) (memLen m)
    (m.data / 2 ^ 96 % 2 ^ (8 * memLen m))).1
  have hwrite : unitWriteDone (popped s n rest) (.talel n) (some (s.tctx n).part) (memAddr m) (memLen m)
      (m.data / 2 ^ 96 % 2 ^ (8 * memLen m)) = (u, some true) := by
    unfold unitWriteDone
    rw [hreach, if_neg (by decide), hpieces]
    dsimp only
    rw [List.foldl_cons, List.foldl_nil, Nat.mul_zero, Nat.pow_zero, Nat.div_one, Nat.mod_mod, hsubmit, htake]
    rfl
  have hrun : talelWrite s n = answerReq u n m 0 0 := by
    unfold talelWrite
    rw [h.popReady (by rw [isMem, hcls, hop]; rfl)]
    dsimp only
    rw [h.code, if_neg (by decide), hspot, popped_tctx]
    dsimp only
    rw [hwrite]
  obtain ⟨hanswers, hmem⟩ := h.answered hapart hunet huregs 0 0
  rw [hrun, hmem]
  exact ⟨hanswers, by rw [hudir, hdir, popped_mem], by rw [hudram, hdram, hplace, hput]⟩

end

/-! ### One grain added and its old value returned (R204, R205) -/

theorem grainOf_dvd (fmt : Nat) : grainOf fmt ∣ 0x8000 := by
  unfold grainOf
  split <;> decide

/-- A grain at its own alignment lies within one tile. -/
theorem grain_fit {off fmt : Nat} (h : off % grainOf fmt = 0) : off % 0x8000 + grainOf fmt ≤ 0x8000 := by
  obtain ⟨k, hk⟩ := grainOf_dvd fmt
  have hpos := grainOf_pos fmt
  have hmod : off % 0x8000 % grainOf fmt = 0 := by rw [Nat.mod_mod_of_dvd _ (grainOf_dvd fmt), h]
  have hlt : off % 0x8000 < 0x8000 := Nat.mod_lt _ (by decide)
  obtain ⟨j, hj⟩ := Nat.dvd_of_mod_eq_zero hmod
  rw [hj, hk] at hlt ⊢
  have hjk : j + 1 ≤ k := Nat.lt_of_mul_lt_mul_left hlt
  calc grainOf fmt * j + grainOf fmt = grainOf fmt * (j + 1) := (Nat.mul_succ ..).symm
    _ ≤ grainOf fmt * k := Nat.mul_le_mul_left _ hjk

/-- A place within a data tile, in the data window. -/
theorem spotOf_dataTile {off : Nat} (h : isDataTile (off / 0x8000) = true) : spotOf off = .tile (off / 0x8000) false (off % 0x8000) := by
  have hlt := of_decide_eq_true h
  unfold dataTileCount at hlt
  exact if_pos (by omega)

/-- The operand that a fetch-add brings. -/
def fetchedAtomic (s : State) (n fmt off : Nat) (m : Msg) : Atomic :=
  ⟨talelOf s n, fmt, off, memLen m, Mem.write [] 0 (memLen m) (m.data / 2 ^ 96), []⟩

section
variable {s : State} {n : Nat} {m : Msg} {rest : List Msg} (h : RequestReady s n m rest) (hcls : m.cls = 2) {fmt off : Nat}
  (hplain : PlainTile s (s.tctx n).part (off / 0x8000)) (hspot : spotOf (memAddr m) = .alias_ fmt off)
  (hnone : NothingAsked s n off (memLen m))
include h hcls hplain hspot hnone

theorem talelFetchAdd_of_plain (hop : field m.data 1 0 = 2) (htier : eTier (s.entry (off / 0x8000)) = 0) (hlen : memLen m = grainOf fmt)
    (halign : off % memLen m = 0) (hclean : s.meetsPoison (s.tilePlace (off / 0x8000) false (off % 0x8000)) (memLen m) = false) :
    Answers s (talelFetchAdd s n) n m (memLen m) (Mem.read s.mem.dram (s.tilePlace (off / 0x8000) false (off % 0x8000)) (memLen m)) ∧
      (talelFetchAdd s n).mem.dram = Mem.write s.mem.dram (s.tilePlace (off / 0x8000) false (off % 0x8000)) (memLen m)
        (grainAdd fmt (Mem.read s.mem.dram (s.tilePlace (off / 0x8000) false (off % 0x8000)) (memLen m)) (m.data / 2 ^ 96 % 256 ^ memLen m)).1 := by
  obtain ⟨hserved, hpending⟩ := hnone
  have hn : 0 < memLen m := hlen ▸ grainOf_pos fmt
  have hplain' := hplain.popped (n := n) (rest := rest)
  have hplace := popped_tilePlace s n rest hplain.1 false (off % 0x8000)
  have hfit : off % 0x8000 + memLen m ≤ if false then 0x400 else 0x8000 := by
    rw [hlen] at halign ⊢
    exact grain_fit halign
  have hpieces := accessPieces_of_fit hn (spotOf_dataTile hplain.1) hfit
  obtain ⟨r, hdone, hlast, hdram, hdir, hapart⟩ := performHeld_fetchAdd hplain' (n := n) (a := fetchedAtomic (popped s n rest) n fmt off m)
    (by rw [popped_entry]; exact htier) rfl rfl hlen (by rw [popped_meetsPoison]; exact (congrArg (s.meetsPoison · _) hplace).trans hclean)
  obtain ⟨u, htake, hudram, hudir, hunet, huregs⟩ := takeOutcome_of_last (s := popped s n rest) (key := .talel n) hpieces
    (by rw [popped_servedAt]; exact hserved) hlast
  have harrive : arrive (popped s n rest) ⟨agentOf (off / 0x8000), off / 0x8000, .fetchAdd n (fetchedAtomic (popped s n rest) n fmt off m)⟩ = r := by
    obtain ⟨-, -, hsat, -, -, hholds, -⟩ := hplain'
    exact arrive_of_done hsat hholds hdone
  have htake' : takeOutcome r (.talel n) off (memLen m) = some (u, .data (Mem.read (popped s n rest).mem.dram
    ((popped s n rest).tilePlace (off / 0x8000) false (off % 0x8000)) (memLen m))) := htake
  have hdram' : r.mem.dram = Mem.write (popped s n rest).mem.dram ((popped s n rest).tilePlace (off / 0x8000) false (off % 0x8000)) (memLen m)
    (grainAdd fmt (Mem.read (popped s n rest).mem.dram ((popped s n rest).tilePlace (off / 0x8000) false (off % 0x8000)) (memLen m))
      (Mem.read (Mem.write [] 0 (memLen m) (m.data / 2 ^ 96)) 0 (memLen m))).1 := hdram
  have hin : (popped s n rest).tileInPart (some (s.tctx n).part) (off / 0x8000) = true := hplain'.2.1
  have hrun : talelFetchAdd s n = answerReq u n m (memLen m)
      (Mem.read (popped s n rest).mem.dram ((popped s n rest).tilePlace (off / 0x8000) false (off % 0x8000)) (memLen m)) := by
    unfold talelFetchAdd
    rw [h.popReady (by rw [isMem, hcls, hop]; rfl)]
    dsimp only
    rw [h.code, if_neg (by decide), hspot, popped_tctx]
    dsimp only
    rw [hin, if_neg (by decide), if_neg (not_not.mpr hlen), if_neg (not_not.mpr halign), popped_servedAt, hserved, popped_pendingAt, hpending,
      if_neg (by decide)]
    rw [fetchedAtomic] at harrive
    rw [harrive]
    rw [htake']
  obtain ⟨hanswers, hmem⟩ := h.answered hapart hunet huregs (memLen m)
    (Mem.read (popped s n rest).mem.dram ((popped s n rest).tilePlace (off / 0x8000) false (off % 0x8000)) (memLen m))
  rw [popped_mem, hplace] at hrun hanswers hdram'
  rw [Mem.read_write] at hdram'
  rw [popped_mem, hplace] at hmem
  rw [hrun, hmem]
  exact ⟨hanswers, hudram.trans hdram'⟩

end

/-- Settles O34: a request at the head of its context, the access it makes at a tile at rest, and the answer that leaves at once. -/
theorem talelRequests : Obligations.TalelRequests := by
  intro s n m rest h part addr len place
  refine ⟨fun p hcls hone hpage hup hadmits => ⟨fun hop hoff => ?_, fun hop hoff => ?_⟩,
    fun tile side off hcls hspot hplain hfit hnone => ⟨fun hop hclean => ⟨_, rfl, talelRead_of_plain h hcls hplain hspot hfit hnone hop hclean⟩,
      fun hop => ⟨_, rfl, talelWrite_of_plain h hcls hplain hspot hfit hnone hop⟩⟩,
    fun fmt off hcls hop hspot hplain htier hlen halign hnone hclean =>
      ⟨_, rfl, talelFetchAdd_of_plain h hcls hplain hspot hnone hop htier hlen halign hclean⟩⟩
  · refine ⟨_, congrArg Host.Outcome.next (regRead_id h hcls hone hpage hup hadmits hop hoff), answers_of_unsent h.unsent m 4 _, ?_⟩
    exact ((talWrites_popped s n.val rest).trans (talWrites_answerReq ..)).onlyIn.mono (by decide)
  · have hunsent : Unsent s ((popped s n.val rest).setReg p 0x01C (BitVec.ofNat 32 (m.data / 2 ^ 96) &&& BitVec.ofNat 32 (2 ^ p.block.istBits - 1))) n.val :=
      h.unsent.of_same rfl (congrArg BitVec.toNat (State.reg_setReg_ne _ _ (talPage.key_ne_of_off p (by decide) (by decide) (by decide))))
    refine ⟨_, congrArg Host.Outcome.next (regWrite_imask h hcls hone hpage hup hadmits hop hoff), answers_of_unsent hunsent m 0 0, ?_, ?_⟩
    · rw [(talWrites_answerReq ..).reg p 0x01C (key_ne_stage p (by decide) (by decide)), State.regN, State.reg_setReg_self,
        and_ones_toNat _ (istBits_le p.block), BitVec.toNat_ofNat]
      exact Nat.mod_mod_of_dvd _ (Nat.pow_dvd_pow 2 (istBits_le p.block))
    · exact (talWrites_answerReq ..).mem.trans (popped_mem s n.val rest)

end Sys2Proof.Machine
end

section
/-! OBLIGATIONS. Talel contexts open, close and fail (R346-R349, R354). -/

namespace Sys2Proof.Machine

/-! ### A message taken from a port -/

/-- A port's receive buffer with its first message taken. -/
def rxTaken (s : State) (i : Nat) (rest : List RxMsg) : State := s.setPort i { s.port i with rx := rest }

theorem talWrites_of_rxTaken {s t : State} {i : Nat} {rest : List RxMsg} (h : TalWrites (rxTaken s i rest) t) :
    (t.port i).rx = rest ∧ t.mem = s.mem :=
  ⟨(h.rx i).trans (by rw [rxTaken, State.port_setPort, if_pos rfl]), h.mem⟩

theorem popRxIf_of_head {s : State} {i : Nat} {r : RxMsg} {rest : List RxMsg} {ok : Msg → Bool} (h : (s.port i).rx = r :: rest)
    (hok : ok r.msg = true) : s.popRxIf i ok = some (r, rxTaken s i rest) := by
  unfold State.popRxIf State.popRx
  dsimp only
  rw [h]
  exact if_pos hok

/-- The test of a CTL message of one SUB. -/
theorem isCtl_of {m : Msg} (hgood : malformed m = false) (hcls : m.cls = 6) {k : Nat} (hsub : subOf m = k) :
    (!malformed m && m.cls == 6 && subOf m == k) = true := by
  rw [hgood, hcls, hsub]
  simp

theorem talWrites_bump (s : State) (p : Page) (k : Nat) : TalWrites s (s.bump p k) where
  onlyIn := (OnlyIn.refl s).bump.mono (by decide)
  rx i := congrArg Port.rx (s.port_bump p k i)
  reg _ _ _ := State.regN_bump ..
  stage := congrArg (field · 3 0) (State.regN_bump ..)

theorem statelessNak_ctxs (s : State) (i dst code tag psn : Nat) : (statelessNak s i dst code tag psn).net.ctxs = s.net.ctxs := by
  unfold statelessNak
  split
  · rw [State.raise_net, State.bump_net]
  · exact (transmit_ctxs ..).trans (by rw [State.bump_net])

theorem statelessNak_rx (s : State) (i dst code tag psn j : Nat) : ((statelessNak s i dst code tag psn).port j).rx = (s.port j).rx := by
  unfold statelessNak
  split
  · exact congrArg Port.rx (s.port_bump talPage 2 j :)
  · exact (transmit_rx ..).trans (congrArg Port.rx (s.port_bump talPage 1 j))

theorem statelessNak_mem (s : State) (i dst code tag psn : Nat) : (statelessNak s i dst code tag psn).mem = s.mem := by
  unfold statelessNak
  split
  · exact (State.bump_mem ..)
  · exact (talWrites_transmit ..).mem.trans (State.bump_mem ..)

/-- A message answered by a stateless NAK leaves no trace but its place in the buffer. -/
theorem statelessNak_of_rxTaken (s : State) (i : Nat) (rest : List RxMsg) (dst code tag psn : Nat) :
    let t := statelessNak (rxTaken s i rest) i dst code tag psn
    (t.port i).rx = rest ∧ t.net.ctxs = s.net.ctxs ∧ t.mem = s.mem :=
  ⟨(statelessNak_rx ..).trans (by rw [rxTaken, State.port_setPort, if_pos rfl]), statelessNak_ctxs .., statelessNak_mem ..⟩

/-! ### CONNECT (R346-R348) -/

/-- A context as a peer's first PSN and the port's own start it. -/
def openedCtx (s : State) (kind port part peer peerCtx peerPsn myPsn : Nat) : TalCtx :=
  { st := 1, kind := kind, port := port, part := part, peer := peer, peerCtx := peerCtx, peerPsn := peerPsn
    myPsn := myPsn, rxNext := psnNext peerPsn, txNext := psnNext myPsn, rto := s.rtoInit, cwnd := s.cwndInit }

theorem openCtx_tctx (s : State) (n kind port part peer peerCtx peerPsn myPsn m : Nat) :
    (openCtx s n kind port part peer peerCtx peerPsn myPsn).tctx m =
      if m = n then openedCtx s kind port part peer peerCtx peerPsn myPsn else s.tctx m := by
  rw [openCtx, State.tctx_of_ctxs (congrArg Network.ctxs (State.bump_net ..)), State.tctx_setTctx]
  rfl

theorem talWrites_openCtx (s : State) (n kind port part peer peerCtx peerPsn myPsn : Nat) :
    TalWrites s (openCtx s n kind port part peer peerCtx peerPsn myPsn) :=
  (talWrites_setTctx ..).trans (talWrites_bump ..)

/-- The ACCEPT of a context. -/
def acceptMsg (s : State) (n : Nat) : Msg :=
  stamp s n { cls := 6, tc := 3, psn := (s.tctx n).myPsn, len := 8, data := 3 + (s.tctx n).myPsn * 2 ^ 32 }

/-- A context whose ACCEPT has left. -/
def acceptedCtx (s : State) (n : Nat) : TalCtx :=
  { answered (s.tctx n) with txNext := psnNext (s.tctx n).myPsn, unacked := [⟨acceptMsg s n, s.tick, 0, false⟩] }

theorem sendAccept_tctx (s : State) (n m : Nat) : (sendAccept s n).tctx m = if m = n then acceptedCtx s n else s.tctx m :=
  (transmit_tctx ..).trans (State.tctx_setTctx ..)

theorem talWrites_sendAccept (s : State) (n : Nat) : TalWrites s (sendAccept s n) := (talWrites_setTctx ..).trans (talWrites_transmit ..)

/-- With no context OPEN, a CONNECT names none that is. -/
theorem find_of_none_open {l : List (Nat × TalCtx)} {ok : Nat × TalCtx → Bool} (h : l.all (fun e => decide (e.2.st ≠ 1)) = true)
    (hok : ∀ e, ok e = true → e.2.st = 1) : l.find? ok = none :=
  List.find?_eq_none.mpr fun e he hsame => of_decide_eq_true (List.all_eq_true.mp h e he) (hok e hsame)

theorem freeCtx_congr {s t : State} (h : t.net.ctxs = s.net.ctxs) (fuel k : Nat) : freeCtx t fuel k = freeCtx s fuel k := by
  induction fuel generalizing k with
  | zero => rfl
  | succ fuel ih => rw [freeCtx, freeCtx, State.tctx_of_ctxs h, ih]

section
variable {s : State} {i : Nat} {r : RxMsg} {rest : List RxMsg} (hrx : (s.port i).rx = r :: rest) (hgood : malformed r.msg = false)
  (hcls : r.msg.cls = 6) (hsub : subOf r.msg = 2) (hnew : s.net.ctxs.all (fun e => decide (e.2.st ≠ 1)) = true)
include hrx hgood hcls hsub hnew

theorem connectReceive_of_new : connectReceive s i = connectReceive.openNew i (rxTaken s i rest) r r.msg (field r.msg.data 15 8)
    (field r.msg.data 17 16) (field r.msg.data 55 32) := by
  unfold connectReceive
  rw [popRxIf_of_head hrx (isCtl_of hgood hcls hsub)]
  dsimp only
  rw [show (rxTaken s i rest).net.ctxs = s.net.ctxs from rfl, find_of_none_open hnew fun e he => by
    simp only [Bool.and_eq_true, beq_iff_eq] at he
    exact he.1.1.1]
  rfl

theorem connectReceive_of_admitted {n : Nat} (hkind : field r.msg.data 15 8 ≤ 2) (hadmitted : admitted s.stage347 (field r.msg.data 15 8) = true)
    (hport : kindOnPort i (field r.msg.data 15 8) = true) (hroom : field r.msg.data 15 8 = 0 → mgmtFull s = false)
    (hfree : freeCtx s 16384 0 = some n) : connectReceive s i = sendAccept (openCtx (rxTaken s i rest) n (field r.msg.data 15 8) i
      (field r.msg.data 17 16) r.peer r.msg.srcCtx (field r.msg.data 55 32) 0) n := by
  rw [connectReceive_of_new hrx hgood hcls hsub hnew, connectReceive.openNew, if_neg (by omega : ¬ 2 < field r.msg.data 15 8),
    show (rxTaken s i rest).stage347 = s.stage347 from rfl, hadmitted, if_neg (by decide), hport, if_neg (by decide),
    if_neg fun ⟨hzero, hfull⟩ => Bool.false_ne_true ((hroom hzero).symm.trans hfull), freeCtx_congr (s := s) (t := rxTaken s i rest) rfl, hfree]

theorem connectReceive_of_barred (hkind : field r.msg.data 15 8 ≤ 2)
    (hbarred : (admitted s.stage347 (field r.msg.data 15 8) && kindOnPort i (field r.msg.data 15 8)) = false) :
    ∃ code, connectReceive s i = statelessNak (rxTaken s i rest) i r.msg.srcCtx code r.msg.tag r.msg.psn := by
  rw [connectReceive_of_new hrx hgood hcls hsub hnew, connectReceive.openNew, if_neg (by omega : ¬ 2 < field r.msg.data 15 8),
    show (rxTaken s i rest).stage347 = s.stage347 from rfl]
  cases hadmitted : admitted s.stage347 (field r.msg.data 15 8) with
  | false => exact ⟨1, if_pos rfl⟩
  | true =>
    rw [hadmitted, Bool.true_and] at hbarred
    rw [hbarred]
    exact ⟨4, rfl⟩

end

/-! ### ACCEPT and NAK -/

/-- A context whose CTL ACK has left. -/
def ackedCtx (c : TalCtx) : TalCtx := { answered c with eceDue := false }

theorem sendAck_tctx (s : State) (n m : Nat) : (sendAck s n).tctx m = if m = n then ackedCtx (s.tctx n) else s.tctx m :=
  (transmit_tctx ..).trans (State.tctx_setTctx ..)

theorem talWrites_sendAck (s : State) (n : Nat) : TalWrites s (sendAck s n) := (talWrites_setTctx ..).trans (talWrites_transmit ..)

section
variable {s : State} {i : Nat} {r : RxMsg} {rest : List RxMsg} (hrx : (s.port i).rx = r :: rest) (hgood : malformed r.msg = false)
  (hcls : r.msg.cls = 6) {kind part psn : Nat}
include hrx hgood hcls

theorem acceptReceive_of_barred (hsub : subOf r.msg = 3) (hkind : kindOnPort i kind = false) :
    acceptReceive s i kind part psn = statelessNak (rxTaken s i rest) i r.msg.srcCtx 2 r.msg.tag r.msg.psn := by
  unfold acceptReceive
  rw [popRxIf_of_head hrx (isCtl_of hgood hcls hsub)]
  dsimp only
  rw [hkind]
  rfl

theorem acceptReceive_of_free (hsub : subOf r.msg = 3) (hkind : kindOnPort i kind = true) (hroom : kind = 0 → mgmtFull s = false)
    (hfree : (s.tctx r.msg.dstCtx).st = 0) : acceptReceive s i kind part psn =
      sendAck (openCtx (rxTaken s i rest) r.msg.dstCtx kind i (part % 4) r.peer r.msg.srcCtx (field r.msg.data 55 32) (psn % 2 ^ 24))
        r.msg.dstCtx := by
  have hfull : (kind == 0 && mgmtFull s) = false := by
    by_cases hzero : kind = 0
    · rw [hroom hzero, Bool.and_false]
    · rw [beq_false_of_ne hzero, Bool.false_and]
  unfold acceptReceive
  rw [popRxIf_of_head hrx (isCtl_of hgood hcls hsub)]
  dsimp only
  rw [hkind, hfull, if_neg (by decide), if_pos hfree]

theorem nakReceive_of_open (hsub : subOf r.msg = 1) (hst : (s.tctx r.msg.dstCtx).st = 1) (hport : (s.tctx r.msg.dstCtx).port = i)
    (hpeer : (s.tctx r.msg.dstCtx).peer = r.peer) (hctx : (s.tctx r.msg.dstCtx).peerCtx = r.msg.srcCtx) (hack : r.msg.ackpsn = none)
    (hqueue : (s.tctx r.msg.dstCtx).queue = []) : nakReceive s i false = (rxTaken s i rest).setTctx r.msg.dstCtx
      { s.tctx r.msg.dstCtx with unacked := (s.tctx r.msg.dstCtx).unacked.filter (fun u => decide (u.msg.psn ≠ field r.msg.data 119 96)) } := by
  have hnamed : (rxTaken s i rest).named i r = some r.msg.dstCtx := if_pos ⟨hst, hport, hpeer, hctx⟩
  unfold nakReceive
  rw [popRxIf_of_head hrx (isCtl_of hgood hcls hsub)]
  dsimp only
  rw [hnamed]
  dsimp only
  rw [hack]
  exact pump_of_empty (by rw [State.tctx_setTctx, if_pos rfl]; exact hqueue)

theorem nakReceive_of_closed (hsub : subOf r.msg = 1) (hst : (s.tctx r.msg.dstCtx).st ≠ 1) :
    nakReceive s i false = (rxTaken s i rest).bump talPage 11 := by
  have hnamed : (rxTaken s i rest).named i r = none := if_neg fun h => hst h.1
  unfold nakReceive
  rw [popRxIf_of_head hrx (isCtl_of hgood hcls hsub)]
  dsimp only
  rw [hnamed]
  rfl

end

/-! ### CLOSE and RELEASE (R346) -/

/-- A CLOSE taken, and with REASON REMOVAL its port out of the inputs of later steps. -/
def closeTaken (s : State) (n : Nat) (m : Msg) (rest : List Msg) : State :=
  if (s.tctx n).kind = 2 ∧ 1 ≤ (s.tctx n).port ∧ field m.data 15 8 = 1 then
    { popped s n rest with crs.absent := SMap.set s.crs.absent (s.unitNo ((s.tctx n).port - 1)) (field m.data 31 16) }
  else popped s n rest

theorem closeTaken_tctx (s : State) (n : Nat) (m : Msg) (rest : List Msg) : (closeTaken s n m rest).tctx n = { s.tctx n with ready := rest } := by
  unfold closeTaken
  split
  · exact popped_tctx s n rest
  · exact popped_tctx s n rest

theorem closeTaken_mem (s : State) (n : Nat) (m : Msg) (rest : List Msg) : (closeTaken s n m rest).mem = s.mem := by
  unfold closeTaken
  split
  · exact popped_mem s n rest
  · exact popped_mem s n rest

theorem closeReceive_of_close {s : State} {n : Nat} {m : Msg} {rest : List Msg} (hst : (s.tctx n).st = 1) (hready : (s.tctx n).ready = m :: rest)
    (hcls : m.cls = 6) (hsub : subOf m = 4) : closeReceive s n = closeCtx (sendAck (closeTaken s n m rest) n) n := by
  have hunit (p : Nat) : (popped s n rest).unitNo p = s.unitNo p := by
    unfold State.unitNo
    rw [(talWrites_popped s n rest).reg (portPage 17) 0x014 ((portPage 17).key_ne_of_base (by decide) (by decide) (by decide))]
  unfold closeReceive
  rw [show s.popReady n (fun m => m.cls == 6 && subOf m == 4) = some (m, popped s n rest) from
    popReady_of_head s hst hready (by rw [hcls, hsub]; rfl)]
  dsimp only
  rw [popped_tctx, hunit]
  rfl

theorem closeCtx_tctx (s : State) (n : Nat) : (closeCtx s n).tctx n =
    if (s.tctx n).unacked.isEmpty && (s.tctx n).queue.isEmpty then {} else { s.tctx n with st := 2 } := by
  unfold closeCtx
  dsimp only
  split
  · rw [State.tctx_setTctx, if_pos rfl]
  · rw [State.tctx_setTctx, if_pos rfl]

theorem closeCtx_dram (s : State) (n : Nat) : (closeCtx s n).mem.dram = s.mem.dram := by
  unfold closeCtx
  dsimp only
  split
  · rfl
  · rfl

section
variable {s : State} {n : Nat} {m : Msg} {rest : List Msg} (hst : (s.tctx n).st = 1) (hready : (s.tctx n).ready = m :: rest)
  (hcls : m.cls = 6) (hsub : subOf m = 4)
include hst hready hcls hsub

theorem closeReceive_tctx : (closeReceive s n).tctx n = if (s.tctx n).unacked.isEmpty && (s.tctx n).queue.isEmpty then {} else
    { ackedCtx { s.tctx n with ready := rest } with st := 2 } := by
  rw [closeReceive_of_close hst hready hcls hsub, closeCtx_tctx, sendAck_tctx, if_pos rfl, closeTaken_tctx]
  rfl

theorem closeReceive_dram : (closeReceive s n).mem.dram = s.mem.dram := by
  rw [closeReceive_of_close hst hready hcls hsub, closeCtx_dram, (talWrites_sendAck _ n).mem, closeTaken_mem]

end

theorem writeReg_cstate {s s1 : State} {who : Requester} {v : Word} (h : WriteReaches s s1 talPage 0x114 who v.toNat) :
    writeReg s talPage 0x114 who v = tookOr (cstateRelease (seenBy s who) v.toNat) talPage who 0x114 :=
  (writeReg_of_reaches h (by decide) (by decide)).trans (pageWrite_block _ _ _ _ _ (by decide) rfl)

theorem cstateRelease_seenBy (s : State) (who : Requester) {v : Word} (hgo : bitAt v.toNat 27 = true) :
    cstateRelease (seenBy s who) v.toNat =
    if (s.tctx (field (s.regN talPage 0x110) 13 0)).st = 3 then ((seenBy s who).setTctx (field (s.regN talPage 0x110) 13 0) {}, true)
    else (seenBy s who, false) := by
  unfold cstateRelease
  rw [hgo, State.regN_congr (seenBy_regs s who)]
  dsimp only
  rw [State.tctx_of_ctxs (seenBy_keep s who (·.net.ctxs) fun _ => rfl)]
  rfl


/-- Settles O32: what a port's next message leaves of it, of the contexts and of the one that it names. -/
theorem talelContexts : Obligations.TalelContexts := by
  intro s port i c
  refine ⟨fun r rest hrx hgood hcls => ⟨fun hsub hnew => ⟨fun n hkind hadm hport hroom hfree => ?_, fun hkind hbarred => ?_⟩,
    fun kind part psn hsub hport => ?_, fun kind part psn hsub hport hroom hfree => ?_, fun hsub hst hport hpeer hctx hack hqueue => ?_,
    fun hsub hst => ?_⟩, fun n m rest hst hready hcls hsub => ⟨fun hun hq => ?_, fun hun => ?_⟩, fun s1 who v h hgo => ⟨fun hst => ?_, fun hst => ?_⟩⟩
  · refine ⟨_, congrArg Host.Outcome.next (connectReceive_of_admitted hrx hgood hcls hsub hnew hkind hadm hport hroom hfree), ?_⟩
    obtain ⟨hrest, hmem⟩ := talWrites_of_rxTaken ((talWrites_openCtx (rxTaken s i rest) n (field r.msg.data 15 8) i (field r.msg.data 17 16) r.peer
      r.msg.srcCtx (field r.msg.data 55 32) 0).trans (talWrites_sendAccept _ n))
    have hown := (sendAccept_tctx (openCtx (rxTaken s i rest) n (field r.msg.data 15 8) i (field r.msg.data 17 16) r.peer r.msg.srcCtx
      (field r.msg.data 55 32) 0) n n).trans (if_pos rfl)
    rw [acceptedCtx, openCtx_tctx, if_pos rfl] at hown
    rw [hown]
    exact ⟨hrest, rfl, rfl, rfl, rfl, rfl, rfl, rfl, rfl, hmem, fun k hk => by rw [sendAccept_tctx, if_neg hk, openCtx_tctx, if_neg hk]; rfl⟩
  · obtain ⟨code, hcode⟩ := connectReceive_of_barred hrx hgood hcls hsub hnew hkind hbarred
    exact ⟨_, congrArg Host.Outcome.next hcode, statelessNak_of_rxTaken ..⟩
  · obtain ⟨hrest, hctxs, -⟩ := statelessNak_of_rxTaken s i rest r.msg.srcCtx 2 r.msg.tag r.msg.psn
    exact ⟨_, congrArg Host.Outcome.next (acceptReceive_of_barred hrx hgood hcls hsub hport), hrest, hctxs⟩
  · refine ⟨_, congrArg Host.Outcome.next (acceptReceive_of_free hrx hgood hcls hsub hport hroom hfree), ?_⟩
    obtain ⟨hrest, -⟩ := talWrites_of_rxTaken ((talWrites_openCtx (rxTaken s i rest) r.msg.dstCtx kind i (part % 4) r.peer
      r.msg.srcCtx (field r.msg.data 55 32) (psn % 2 ^ 24)).trans (talWrites_sendAck _ r.msg.dstCtx))
    rw [sendAck_tctx, if_pos rfl, openCtx_tctx, if_pos rfl]
    exact ⟨hrest, rfl, rfl, rfl, rfl, rfl, rfl⟩
  · refine ⟨_, congrArg Host.Outcome.next (nakReceive_of_open hrx hgood hcls hsub hst hport hpeer hctx hack hqueue),
      (talWrites_of_rxTaken (talWrites_setTctx ..)).1, ?_⟩
    rw [State.tctx_setTctx, if_pos rfl]
    exact ⟨rfl, hst⟩
  · refine ⟨_, congrArg Host.Outcome.next (nakReceive_of_closed hrx hgood hcls hsub hst), (talWrites_of_rxTaken (talWrites_bump ..)).1, ?_⟩
    rw [State.bump_net]
    rfl
  · refine ⟨_, rfl, (closeReceive_tctx hst hready hcls hsub).trans ?_, closeReceive_dram hst hready hcls hsub⟩
    rw [hun, hq]
    rfl
  · have hown := closeReceive_tctx hst hready hcls hsub
    rw [List.isEmpty_eq_false_iff.mpr hun, Bool.false_and, if_neg (by decide)] at hown
    refine ⟨_, rfl, ?_, ?_, closeReceive_dram hst hready hcls hsub⟩
    · exact congrArg TalCtx.st hown
    · exact (congrArg TalCtx.unacked hown :)
  · refine ⟨_, congrArg Host.Outcome.next ((writeReg_cstate h).trans (congrArg (tookOr · talPage who 0x114) ((cstateRelease_seenBy s who hgo).trans (if_pos hst)))), ?_, ?_⟩
    · exact (State.tctx_setTctx ..).trans (if_pos rfl)
    · exact seenBy_mem s who
  · refine ⟨_, congrArg Host.Outcome.next ((writeReg_cstate h).trans (congrArg (tookOr · talPage who 0x114) ((cstateRelease_seenBy s who hgo).trans (if_neg hst)))), ?_, ?_⟩
    · exact seenBy_keep s who (·.net) fun _ => rfl
    · exact (ignored_kept s talPage who 0x114).2.2

end Sys2Proof.Machine
end

section
/-! OBLIGATIONS. Management requests in chunks, reports and certificates (R418-R420, R428). -/

namespace Sys2Proof.Machine

/-! ### Chunks of a request (R418) -/

theorem sub_zero (d n : Nat) : sub d 0 n = d % 2 ^ (8 * n) := by simp [sub]

theorem sub_zero_one (d : Nat) : sub d 0 1 = d % 2 ^ 8 := sub_zero d 1

theorem sendChunk_ctx (s : State) (n tag op status chunk last len data : Nat) : sendChunk s (some n) tag op status chunk last len data =
    respond s n { cls := 7, tag := tag } (8 + len) (mgtData op status chunk last data) := rfl

theorem answers_mgtTaken {s t : State} {n len data : Nat} {m : Msg} (h : Answers (mgtTaken s) t n m len data) : Answers s t n m len data := h

/-- Two bytes of a header that are 0 within the three that are. -/
theorem sub_of_header {d : Nat} (h : d / 2 ^ 8 % 2 ^ 24 = 0) : sub d 1 1 = 0 ∧ sub d 2 2 = 0 := by
  unfold sub
  norm_num at h ⊢
  omega

theorem mgtData_answer (op status data : Nat) : mgtData op status 0 0 data = op + status * 2 ^ 8 + data * 2 ^ 64 := by simp [mgtData]

theorem mgtData_empty (op status : Nat) : mgtData op status 0 0 0 = op + status * 2 ^ 8 := by simp [mgtData]

/-- Does a chunk's header name an operation and nothing else? -/
def chunkBad (m : Msg) : Bool :=
  decide (m.len < 8) || decide (8200 < m.len - 8) || sub m.data 1 1 != 0 || sub m.data 6 2 != 0 || sub m.data 0 1 == 0 || decide (12 < sub m.data 0 1)

section
variable {s : State} {n : Nat} {m : Msg} {rest : List Msg} (hst : (s.tctx n).st = 1) (hready : (s.tctx n).ready = m :: rest) (hcls : m.cls = 7)
include hst hready hcls

theorem mgtChunk_of_busy {k : MgtOp} {c : Nat} (hmgt : (popped s n rest).sec.mgt = some k) (hctx : k.ctx = some c)
    (hopen : ((popped s n rest).tctx c).st = 1) (hcomplete : k.complete = true) :
    mgtChunk s n = sendAnswer (popped s n rest) (some n) m.tag (sub m.data 0 1) mgtBusy 0 0 := by
  unfold mgtChunk
  rw [show s.popReady n (fun m => m.cls == 7) = some (m, popped s n rest) from popReady_of_head s hst hready (by rw [hcls]; rfl)]
  dsimp only
  rw [hmgt]
  simp only [Option.filter, hctx, hopen, hcomplete, BEq.rfl, Bool.true_or, if_true]

theorem mgtChunk_of_first (hnone : s.sec.mgt = none) (hgood : chunkBad m = false) (hchunk : sub m.data 2 2 = 0) : mgtChunk s n =
    { popped s n rest with sec.mgt := some ⟨some n, m.tag, sub m.data 0 1, 1, sub m.data 4 2, sub m.data 8 (m.len - 8), m.len - 8,
      decide (sub m.data 4 2 = 0)⟩ } := by
  have hmgt : (popped s n rest).sec.mgt = none := hnone
  unfold mgtChunk
  rw [show s.popReady n (fun m => m.cls == 7) = some (m, popped s n rest) from popReady_of_head s hst hready (by rw [hcls]; rfl)]
  dsimp only
  rw [hmgt]
  dsimp only [Option.filter]
  rw [chunkBad] at hgood
  rw [if_neg Bool.false_ne_true, hgood, if_neg Bool.false_ne_true, hchunk]
  rfl

end

theorem mgtChunks (s : State) (n : Fin 16384) (m : Msg) (rest : List Msg) (hst : (s.tctx n.val).st = 1)
    (hready : (s.tctx n.val).ready = m :: rest) (hcls : m.cls = 7) (hqueue : (s.tctx n.val).queue = [])
    (hroom : (s.tctx n.val).unacked.length < min (s.tctx n.val).cwnd s.cwndMax) :
    let op := m.data % 2 ^ 8
    let last := m.data / 2 ^ 32 % 2 ^ 16
    (s.sec.mgt = none → 8 ≤ m.len → m.len ≤ 8200 → 1 ≤ op → op ≤ 12 → m.data / 2 ^ 8 % 2 ^ 24 = 0 → m.data / 2 ^ 48 % 2 ^ 16 = 0 →
      ∃ t, exec (.mgtChunk n) s = .next t ∧ (t.tctx n.val).ready = rest ∧ t.mem = s.mem ∧ t.flash = s.flash ∧
        t.sec = { s.sec with mgt := some ⟨some n.val, m.tag, op, 1, last, m.data / 2 ^ 64 % 2 ^ (8 * (m.len - 8)), m.len - 8,
          decide (last = 0)⟩ }) ∧
    (∀ k c, s.sec.mgt = some k → k.ctx = some c → (s.tctx c).st = 1 → k.complete = true → ∃ t, exec (.mgtChunk n) s = .next t ∧
      t.sec = s.sec ∧ (t.tctx n.val).ready = rest ∧ Answers s t n.val { cls := 7, tag := m.tag } 8 (op + 7 * 2 ^ 8)) := by
  intro op last
  refine ⟨fun hnone hmin hmax hop1 hop12 hheader hpad => ?_, fun k c hmgt hctx hopen hcomplete => ?_⟩
  · obtain ⟨hstatus, hchunk⟩ := sub_of_header hheader
    have hlen : ¬ m.len < 8 ∧ ¬ 8200 < m.len - 8 := by omega
    have hgood : chunkBad m = false := by
      rw [chunkBad, hstatus, show sub m.data 6 2 = 0 from hpad, sub_zero_one, decide_eq_false hlen.1, decide_eq_false hlen.2,
        beq_false_of_ne (by omega), decide_eq_false (by omega)]
      rfl
    have hrun := mgtChunk_of_first hst hready hcls hnone hgood hchunk
    rw [sub_zero_one] at hrun
    refine ⟨_, congrArg Host.Outcome.next hrun, ?_, popped_mem s n.val rest, (talWrites_popped s n.val rest).flash, ?_⟩
    · exact congrArg TalCtx.ready (popped_tctx s n.val rest)
    · rfl
  · have hopen' : ((popped s n.val rest).tctx c).st = 1 := by
      by_cases hc : c = n.val
      · rw [hc, popped_tctx]
        exact hst
      · rw [popped, State.tctx_setTctx, if_neg hc]
        exact hopen
    have hmgt' : (popped s n.val rest).sec.mgt = some k := (congrArg Security.mgt (talWrites_popped s n.val rest).sec).trans hmgt
    refine ⟨_, congrArg Host.Outcome.next (mgtChunk_of_busy hst hready hcls hmgt' hctx hopen' hcomplete), ?_⟩
    rw [sendAnswer_empty, sendChunk, sub_zero_one]
    have hown := popped_tctx s n.val rest
    have hsends := talSends_sendMsg (popped s n.val rest) n.val
      { cls := 7, resp := true, tc := tcOf 7, tag := m.tag, len := 8, data := mgtData op mgtBusy 0 0 0 }
    have hans := respond_of_room (s := popped s n.val rest) { cls := 7, tag := m.tag } 8 (mgtData op mgtBusy 0 0 0)
      (by rw [hown]; exact hqueue)
      (by
        rw [hown, State.cwndMax_of_regN (popped_regN s n.val rest talPage (by decide) (by decide))]
        exact hroom)
    refine ⟨hsends.writes.sec, (hsends.keeps TalCtx.ready fun _ => rfl).trans (congrArg TalCtx.ready hown), ?_⟩
    rw [Answers, hown, mgtData_empty op 7] at hans
    exact hans

/-! ### Reports and certificates on a context (R419, R420) -/

/-- An answer of one chunk with data. -/
theorem mgtSays_of_ready {s : State} {n : Nat} {k : MgtOp} {op : Nat} (h : MgtReady s n k op) (status data : Nat) {len : Nat} (hlen : len ≤ 8192) :
    MgtAnswers s (sendAnswer (mgtTaken s) k.ctx k.tag op status len data) n k status len (data % 2 ^ (8 * len)) ∧
      TalSends n (mgtTaken s) (sendAnswer (mgtTaken s) k.ctx k.tag op status len data) := by
  obtain ⟨-, hctx, -, hop, hqueue, hroom⟩ := h
  have hsends : TalSends n (mgtTaken s) (respond (mgtTaken s) n { cls := 7, tag := k.tag } (8 + len) (mgtData op status 0 0 (data % 2 ^ (8 * len)))) :=
    talSends_sendMsg ..
  have hans := answers_mgtTaken (respond_of_room (s := mgtTaken s) (n := n) { cls := 7, tag := k.tag } (8 + len)
    (mgtData op status 0 0 (data % 2 ^ (8 * len))) hqueue hroom)
  rw [sendAnswer_one _ _ _ _ _ _ hlen, hctx, sendChunk_ctx, sub_zero]
  generalize respond (mgtTaken s) n { cls := 7, tag := k.tag } (8 + len) (mgtData op status 0 0 (data % 2 ^ (8 * len))) = t at hsends hans
  rw [mgtData_answer] at hans
  exact ⟨⟨congrArg Security.mgt hsends.writes.sec, by rw [hop]; exact hans⟩, hsends⟩

theorem report_of_ready {s : State} {n : Nat} {k : MgtOp} (h : MgtReady s n k 1) :
    report s none = sendReport (mgtTaken s) k.ctx k.tag 1 k.len k.data := by
  unfold report
  rw [takeMgt_of_ready h]

theorem cert_of_ready {s : State} {n : Nat} {k : MgtOp} (h : MgtReady s n k 2) : cert s none = sendCert (mgtTaken s) k.ctx k.tag 2 := by
  unfold cert
  rw [takeMgt_of_ready h]

theorem sendReport_of_none {s : State} (dst : Option Nat) (tag op len nonce : Nat) (h : s.sec.identity = none) :
    sendReport s dst tag op len nonce = sendAnswer s dst tag op mgtUnprov 0 0 := by
  unfold sendReport
  rw [h]

theorem sendReport_of_len {s : State} (dst : Option Nat) (tag op nonce : Nat) {len : Nat} (h : s.sec.identity ≠ none) (hlen : len ≠ 32) :
    sendReport s dst tag op len nonce = sendAnswer s dst tag op mgtBadOp 0 0 := by
  unfold sendReport
  cases hid : s.sec.identity with
  | none => exact absurd hid h
  | some sk => exact if_pos hlen

theorem sendCert_of_none {s : State} (dst : Option Nat) (tag op : Nat) (h : s.sec.identity = none) :
    sendCert s dst tag op = sendAnswer s dst tag op mgtUnprov 0 0 := by
  unfold sendCert State.provisioned
  rw [h]
  rfl

theorem sendCert_of_identity {s : State} (dst : Option Nat) (tag op : Nat) (h : s.sec.identity ≠ none) :
    sendCert s dst tag op = sendAnswer s dst tag op mgtOk s.flash.cert.1 s.flash.cert.2 := by
  unfold sendCert State.provisioned
  rw [Option.isSome_iff_ne_none.mpr h]
  rfl

/-! ### The body of a report (R420) -/

/-- The device's measurements are of no counter. -/
theorem reportBody_bump (s : State) (p : Page) (sel nonce : Nat) : reportBody (s.bump p sel) nonce = reportBody s nonce := by
  have hconfig : configValues (s.bump p sel) = configValues s := by
    simp only [configValues, State.owner, State.regN_bump, State.bump_flash]
  have hspare : spareValues (s.bump p sel) = spareValues s := by
    have hsite : (s.bump p sel).siteOf = s.siteOf := by
      funext c
      rw [State.siteOf, State.bump_fab, State.siteOf]
    simp only [spareValues, State.activeSites, hsite, State.bump_mem]
  have hhash : (s.bump p sel).identityHash = s.identityHash := by rw [State.identityHash, State.bump_sec, State.identityHash]
  have hfloor : (s.bump p sel).svnFloor = s.svnFloor := by rw [State.svnFloor, State.bump_flash, State.bump_sec, State.svnFloor]
  have hpowered : (s.bump p sel).poweredSeconds = s.poweredSeconds := by
    rw [State.poweredSeconds, State.bump_ledger, State.bump_tick, State.poweredSeconds]
  unfold reportBody
  rw [hconfig, hspare, hhash, hfloor, hpowered, State.bump_sec, State.bump_flash]

/-- A field between what lies below it and what lies above. -/
theorem field_between {low mid high a b : Nat} (c : Nat) (hc : a + b = c) (hlow : low < 2 ^ a) (hmid : mid < 2 ^ b) (hhigh : 2 ^ c ∣ high) :
    (low + mid * 2 ^ a + high) / 2 ^ a % 2 ^ b = mid := by
  obtain ⟨k, rfl⟩ := hhigh
  have hsum : low + mid * 2 ^ a + 2 ^ c * k = low + 2 ^ a * (mid + 2 ^ b * k) := by
    rw [← hc, Nat.pow_add]
    ring
  rw [hsum, Nat.add_mul_div_left _ _ (Nat.two_pow_pos a), Nat.div_eq_of_lt hlow, Nat.zero_add, Nat.add_mul_mod_self_left, Nat.mod_eq_of_lt hmid]

theorem below_of_field {low mid a b : Nat} (c : Nat) (hc : a + b = c) (hlow : low < 2 ^ a) (hmid : mid < 2 ^ b) : low + mid * 2 ^ a < 2 ^ c := by
  subst hc
  have hle : (mid + 1) * 2 ^ a ≤ 2 ^ b * 2 ^ a := Nat.mul_le_mul_right _ hmid
  rw [Nat.pow_add, Nat.mul_comm (2 ^ a)]
  rw [Nat.succ_mul] at hle
  omega

/-- A value put at a byte offset of the body. -/
def putAt (off v : Nat) : Nat := v * 2 ^ (8 * off)

theorem dvd_putAt {c off : Nat} (v : Nat) (h : c ≤ 8 * off) : 2 ^ c ∣ putAt off v := Dvd.dvd.mul_left (Nat.pow_dvd_pow 2 h) v

/-- The fields of the body behind the identity's hash. -/
def bodyTail (s : State) : Nat :=
  let fw := match s.sec.running with | some i => i | none => ⟨0, 0⟩
  putAt 296 (s.flash.owner.getD 0 % 2 ^ 512) + (putAt 360 fw.version + (putAt 362 fw.svn + (putAt 363 s.svnFloor +
    (putAt 364 (s.sec.slot + 2 * b2n s.sec.fallback) + (putAt 368 s.poweredSeconds + (putAt 372 (s.flash.boots % 2 ^ 32) +
      (putAt 376 s.sec.lastAlarm.1 + putAt 377 s.sec.lastAlarm.2)))))))

theorem dvd_bodyTail (s : State) : 2 ^ 2368 ∣ bodyTail s :=
  dvd_add (dvd_putAt _ (by decide)) (dvd_add (dvd_putAt _ (by decide)) (dvd_add (dvd_putAt _ (by decide)) (dvd_add (dvd_putAt _ (by decide))
    (dvd_add (dvd_putAt _ (by decide)) (dvd_add (dvd_putAt _ (by decide)) (dvd_add (dvd_putAt _ (by decide)) (dvd_add (dvd_putAt _ (by decide))
      (dvd_putAt _ (by decide)))))))))

/-- The measurements between the nonce and the identity's hash. -/
def bodyMeasures (s : State) : Nat × Nat × Nat :=
  let fw := match s.sec.running with | some i => i | none => ⟨0, 0⟩
  (Config.shake256 fw.bodyEnd (sub fw.data 0 fw.bodyEnd) % 2 ^ 512, Config.measure 2 (configValues s) % 2 ^ 512,
    Config.measure 3 (spareValues s) % 2 ^ 512)

theorem reportBody_eq (s : State) (nonce : Nat) : reportBody s nonce =
    1 + putAt 2 512 + putAt 8 (nonce % 2 ^ 256) + putAt 40 (bodyMeasures s).1 + putAt 104 (bodyMeasures s).2.1 + putAt 168 (bodyMeasures s).2.2 +
      putAt 232 s.identityHash + bodyTail s := by
  unfold reportBody bodyTail bodyMeasures putAt
  cases s.sec.running with
  | none => simp only [Nat.add_assoc]
  | some i => simp only [Nat.add_assoc]

theorem identityHash_lt (s : State) : s.identityHash < 2 ^ 512 := by
  unfold State.identityHash
  split
  · exact Nat.mod_lt _ (Nat.two_pow_pos _)
  · exact Nat.two_pow_pos _

theorem head_lt : 1 + putAt 2 512 < 2 ^ 64 := by decide

theorem reportBody_nonce (s : State) (nonce : Nat) : reportBody s nonce / 2 ^ 64 % 2 ^ 256 = nonce % 2 ^ 256 := by
  have hdvd : 2 ^ 320 ∣ putAt 40 (bodyMeasures s).1 + putAt 104 (bodyMeasures s).2.1 + putAt 168 (bodyMeasures s).2.2 +
      putAt 232 s.identityHash + bodyTail s :=
    dvd_add (dvd_add (dvd_add (dvd_add (dvd_putAt _ (by decide)) (dvd_putAt _ (by decide))) (dvd_putAt _ (by decide))) (dvd_putAt _ (by decide)))
      ((Nat.pow_dvd_pow 2 (by decide)).trans (dvd_bodyTail s))
  have hfield := field_between (mid := nonce % 2 ^ 256) 320 rfl head_lt (Nat.mod_lt _ (Nat.two_pow_pos _)) hdvd
  rw [reportBody_eq]
  simp only [Nat.add_assoc] at hfield ⊢
  exact hfield

theorem reportBody_hash (s : State) (nonce : Nat) : reportBody s nonce / 2 ^ 1856 % 2 ^ 512 = s.identityHash := by
  have hmod (v w : Nat) : v % 2 ^ w < 2 ^ w := Nat.mod_lt _ (Nat.two_pow_pos _)
  have hlow := below_of_field 1856 rfl (below_of_field 1344 rfl (below_of_field 832 rfl (below_of_field 320 rfl head_lt (hmod nonce 256))
    (hmod _ 512 : (bodyMeasures s).1 < 2 ^ 512)) (hmod _ 512 : (bodyMeasures s).2.1 < 2 ^ 512)) (hmod _ 512 : (bodyMeasures s).2.2 < 2 ^ 512)
  have hfield := field_between (mid := s.identityHash) 2368 rfl hlow (identityHash_lt s) (dvd_bodyTail s)
  rw [reportBody_eq]
  exact hfield

/-! ### Reports and certificates at the service port (R428) -/

theorem sub_chunk (v k l : Nat) : sub v (8192 * k) l = v / 2 ^ (65536 * k) % 2 ^ (8 * l) := by
  rw [sub, ← Nat.mul_assoc]

/-- The service port has sent frames, the newest first. -/
def framesSent (s : State) (fs : List SvcFrame) : State := { s with sec.sent := fs ++ s.sec.sent }

theorem framesSent_framesSent (s : State) (fs gs : List SvcFrame) : framesSent (framesSent s fs) gs = framesSent s (gs ++ fs) := by
  unfold framesSent
  rw [List.append_assoc]

theorem sendChunk_service (s : State) (tag op status chunk last len data : Nat) :
    sendChunk s none tag op status chunk last len data = framesSent s [⟨op + status * 2 ^ 8, chunk, last, len, data⟩] := rfl

/-- The frame of one chunk of a report. -/
def reportFrame (op whole k : Nat) : SvcFrame :=
  ⟨op + mgtOk * 2 ^ 8, k, 3, min 8192 (30304 - 8192 * k), sub whole (8192 * k) (min 8192 (30304 - 8192 * k))⟩

/-- A report leaves the service port in four frames. -/
theorem sendAnswer_report (s : State) (op whole : Nat) : sendAnswer s none 0 op mgtOk 30304 whole =
    framesSent s [reportFrame op whole 3, reportFrame op whole 2, reportFrame op whole 1, reportFrame op whole 0] := by
  have hone (s : State) (k : Nat) : sendChunk s none 0 op mgtOk k (4 - 1) (min 8192 (30304 - 8192 * k))
      (sub whole (8192 * k) (min 8192 (30304 - 8192 * k))) = framesSent s [reportFrame op whole k] := rfl
  unfold sendAnswer
  rw [show max 1 ((30304 + 8191) / 8192) = 4 from rfl]
  dsimp only
  rw [show List.range 4 = [0, 1, 2, 3] from rfl]
  simp only [List.foldl_cons, List.foldl_nil, hone]
  rw [framesSent_framesSent, framesSent_framesSent, framesSent_framesSent]
  rfl

theorem reportFrame_eq (op whole : Nat) {k l : Nat} (h : min 8192 (30304 - 8192 * k) = l) :
    reportFrame op whole k = ⟨op + mgtOk * 2 ^ 8, k, 3, l, whole / 2 ^ (65536 * k) % 2 ^ (8 * l)⟩ := by
  rw [reportFrame, h, sub_chunk]

/-- What a report sends. -/
def reportSent (s : State) (sk nonce : Nat) : Nat :=
  reportBody s nonce + Config.slhSign sk 512 (reportBody s nonce) % 2 ^ (8 * sigLen) * 2 ^ 4096

theorem sendReport_of_identity {s : State} (dst : Option Nat) (tag op nonce sk : Nat) (h : s.sec.identity = some sk) :
    sendReport s dst tag op 32 nonce = sendAnswer (s.bump secPage 5) dst tag op mgtOk 30304 (reportSent s sk nonce) := by
  unfold sendReport
  rw [h]
  exact if_neg (not_not.mpr rfl)

theorem report_of_service {s : State} {f : SvcFrame} (h : SvcReady s f) :
    report s (some f) = sendReport (s.bump edgePage 4) none 0 (f.op % 2 ^ 8) f.len f.data := svcRequest_of_ready h _

theorem cert_of_service {s : State} {f : SvcFrame} (h : SvcReady s f) :
    cert s (some f) = sendCert (s.bump edgePage 4) none 0 (f.op % 2 ^ 8) := svcRequest_of_ready h _

/-- The frame with an outcome and data. -/
theorem svcSays_of_bump (s : State) (f : SvcFrame) (status data : Nat) {len : Nat} (hlen : len ≤ 8192) :
    SvcSays s (sendAnswer (s.bump edgePage 4) none 0 (f.op % 2 ^ 8) status len data) f status len (data % 2 ^ (8 * len)) := by
  rw [sendAnswer_one _ _ _ _ _ _ hlen, sub_zero, SvcSays, sendChunk]
  exact congrArg (_ :: ·) (congrArg Security.sent (State.bump_sec ..))

theorem serviceReports (s : State) (f : SvcFrame) (sk : Nat) (h : SvcReady s f) (hid : s.sec.identity = some sk) :
    let body := reportBody s f.data
    let whole := body + Config.slhSign sk 512 body % 2 ^ 238336 * 2 ^ 4096
    let part (k l : Nat) : SvcFrame := ⟨f.op % 2 ^ 8, k, 3, l, whole / 2 ^ (65536 * k) % 2 ^ (8 * l)⟩
    (f.len = 32 → ∃ t, exec (.report (some f)) s = .next t ∧ t.flash = s.flash ∧ t.mem = s.mem ∧
      t.sec.sent = [part 3 5728, part 2 8192, part 1 8192, part 0 8192] ++ s.sec.sent) ∧
    body / 2 ^ 64 % 2 ^ 256 = f.data % 2 ^ 256 ∧ body / 2 ^ 1856 % 2 ^ 512 = Config.shake256 64 (Config.publicKey sk) % 2 ^ 512 ∧
    (f.len ≠ 32 → ∃ t, exec (.report (some f)) s = .next t ∧ SvcSays s t f mgtBadOp 0 0) ∧
    (s.flash.cert.1 ≤ 8192 → ∃ t, exec (.cert (some f)) s = .next t ∧
      SvcSays s t f mgtOk s.flash.cert.1 (s.flash.cert.2 % 2 ^ (8 * s.flash.cert.1))) := by
  intro body whole part
  have hid' : (s.bump edgePage 4).sec.identity = some sk := by rw [State.bump_sec, hid]
  have hsome : (s.bump edgePage 4).sec.identity ≠ none := by rw [hid']; exact Option.some_ne_none sk
  have hwhole : reportSent (s.bump edgePage 4) sk f.data = whole := by
    rw [reportSent, reportBody_bump, show 8 * sigLen = 238336 from rfl]
  have hhash : s.identityHash = Config.shake256 64 (Config.publicKey sk) % 2 ^ 512 := by rw [State.identityHash, hid]
  refine ⟨fun hlen => ?_, reportBody_nonce s f.data, (reportBody_hash s f.data).trans hhash, fun hlen => ?_, fun hlen => ?_⟩
  · have hrun := report_of_service h
    rw [hlen, sendReport_of_identity _ _ _ _ _ hid', hwhole] at hrun
    rw [sendAnswer_report, reportFrame_eq _ _ (show min 8192 (30304 - 8192 * 3) = 5728 from rfl),
      reportFrame_eq _ _ (show min 8192 (30304 - 8192 * 2) = 8192 from rfl), reportFrame_eq _ _ (show min 8192 (30304 - 8192 * 1) = 8192 from rfl),
      reportFrame_eq _ _ (show min 8192 (30304 - 8192 * 0) = 8192 from rfl), show f.op % 2 ^ 8 + mgtOk * 2 ^ 8 = f.op % 2 ^ 8 from Nat.add_zero _] at hrun
    refine ⟨_, congrArg Host.Outcome.next hrun, ?_, ?_, ?_⟩
    · show ((s.bump edgePage 4).bump secPage 5).flash = s.flash
      rw [State.bump_flash, State.bump_flash]
    · show ((s.bump edgePage 4).bump secPage 5).mem = s.mem
      rw [State.bump_mem, State.bump_mem]
    · rw [framesSent, State.bump_sec, State.bump_sec]
  · exact ⟨_, congrArg Host.Outcome.next ((report_of_service h).trans (sendReport_of_len _ _ _ _ hsome hlen)), svcSays_of_bump s f mgtBadOp 0 (by decide)⟩
  · have hcert : (s.bump edgePage 4).flash = s.flash := State.bump_flash ..
    refine ⟨_, congrArg Host.Outcome.next ((cert_of_service h).trans (sendCert_of_identity _ _ _ hsome)), ?_⟩
    rw [hcert]
    exact svcSays_of_bump s f mgtOk s.flash.cert.2 hlen

theorem mgtChunksAndReports : Claims.MgtChunks := by
  refine ⟨mgtChunks, fun s n k => ⟨fun h hid => ?_, fun h hid hlen => ?_, fun h hid => ?_, fun h hid hlen => ?_⟩, serviceReports⟩
  · obtain ⟨hanswers, hsends⟩ := mgtSays_of_ready h mgtUnprov 0 (len := 0) (by decide)
    exact ⟨_, congrArg Host.Outcome.next ((report_of_ready h).trans (sendReport_of_none _ _ _ _ _ hid)), hanswers, hsends.writes.flash⟩
  · obtain ⟨hanswers, hsends⟩ := mgtSays_of_ready h mgtBadOp 0 (len := 0) (by decide)
    exact ⟨_, congrArg Host.Outcome.next ((report_of_ready h).trans (sendReport_of_len _ _ _ _ hid hlen)), hanswers, hsends.writes.flash⟩
  · exact ⟨_, congrArg Host.Outcome.next ((cert_of_ready h).trans (sendCert_of_none _ _ _ hid)), (mgtSays_of_ready h mgtUnprov 0 (len := 0) (by decide)).1⟩
  · exact ⟨_, congrArg Host.Outcome.next ((cert_of_ready h).trans (sendCert_of_identity _ _ _ hid)),
      (mgtSays_of_ready h mgtOk s.flash.cert.2 hlen).1⟩

end Sys2Proof.Machine
end

section
/-! OBLIGATIONS. Management requests that change flash, containment and alarms (R415, R419, R423, R424). -/

namespace Sys2Proof.Machine

/-! ### Requests and their answers -/

theorem MgtReady.isAdmin {s : State} {n : Nat} {k : MgtOp} {op : Nat} (h : MgtReady s n k op) :
    k.isAdmin (mgtTaken s) = ((s.tctx n).part == s.flash.admin) := congrArg (· == s.flash.admin) (h.part (t := mgtTaken s) rfl)

theorem MgtReady.of_admin {s : State} {n : Nat} {k : MgtOp} {op : Nat} (h : MgtReady s n k op) (hadmin : (s.tctx n).part = s.flash.admin) :
    k.isAdmin (mgtTaken s) = true := by
  rw [h.isAdmin, hadmin, beq_self_eq_true]

theorem MgtReady.of_other {s : State} {n : Nat} {k : MgtOp} {op : Nat} (h : MgtReady s n k op) (hother : ¬ (s.tctx n).part = s.flash.admin) :
    k.isAdmin (mgtTaken s) = false := by
  rw [h.isAdmin, beq_false_of_ne hother]

/-- An operation that ends with an outcome and nothing else. -/
theorem MgtReady.refused {s : State} {n : Nat} {k : MgtOp} {op : Nat} (h : MgtReady s n k op) (status : Nat) :
    MgtAnswers s (k.answer (mgtTaken s) status) n k status 0 0 ∧ TalWrites (mgtTaken s) (k.answer (mgtTaken s) status) := by
  obtain ⟨hanswers, hsends⟩ := mgtAnswers_of_ready (t := mgtTaken s) h rfl rfl rfl status
  exact ⟨hanswers, hsends.writes⟩

/-- An operation that has changed flash. -/
theorem MgtReady.withFlash {s : State} {n : Nat} {k : MgtOp} {op : Nat} (h : MgtReady s n k op) (f : Flash) (status : Nat) :
    MgtAnswers s (k.answer { mgtTaken s with flash := f } status) n k status 0 0 ∧ (k.answer { mgtTaken s with flash := f } status).flash = f := by
  obtain ⟨hanswers, hsends⟩ := mgtAnswers_of_ready (t := { mgtTaken s with flash := f }) h rfl rfl rfl status
  exact ⟨hanswers, hsends.writes.flash⟩

theorem sub_signature (d a : Nat) : sub d a sigLen = d / 2 ^ (8 * a) % 2 ^ 238336 := by rw [sub, show 8 * sigLen = 238336 from rfl]

/-! ### ENROL, FW_STAGE and FW_COMMIT (R415, R419) -/

/-- Who signs an enrolment: the root while there is no owner. -/
def enrolSigner (s : State) : Nat :=
  match s.flash.owner with
  | none => s.flash.rootKey
  | some h => Config.ownerKey h

section
variable {s : State} {n : Nat} {k : MgtOp} (h : MgtReady s n k 3)
include h

theorem enrol_of_other (hother : ¬ (s.tctx n).part = s.flash.admin) : enrol s = k.answer (mgtTaken s) mgtNotAdmin := by
  unfold enrol
  rw [takeMgt_of_ready h]
  dsimp only
  rw [h.of_other hother]
  rfl

theorem enrol_of_unprovisioned (hadmin : (s.tctx n).part = s.flash.admin) (hid : s.sec.identity = none) :
    enrol s = k.answer (mgtTaken s) mgtUnprov := by
  unfold enrol
  rw [takeMgt_of_ready h]
  dsimp only
  rw [h.of_admin hadmin, State.provisioned, show (mgtTaken s).sec.identity = none from hid]
  rfl

theorem enrol_of_admin (hadmin : (s.tctx n).part = s.flash.admin) (hid : s.sec.identity ≠ none) (hlen : k.len = 29856)
    (hroot : s.flash.owner = none → rootOk s = true) : enrol s =
      if Config.slhVerify (enrolSigner s) 2 128 (s.identityHash + sub k.data 0 64 * 2 ^ 512) (sub k.data 64 sigLen) then
        k.answer { mgtTaken s with flash := { s.flash with owner := some (Config.shake256 64 (sub k.data 0 64) % 2 ^ 512) } } mgtOk
      else k.answer (mgtTaken s) mgtBadSig := by
  have hgood : ((mgtTaken s).flash.owner.isSome || rootOk (mgtTaken s)) = true := by
    show (s.flash.owner.isSome || rootOk s) = true
    cases howner : s.flash.owner with
    | none => exact hroot howner
    | some h => rfl
  have hhash : (mgtTaken s).identityHash = s.identityHash := rfl
  have hprov : (mgtTaken s).provisioned = true := Option.isSome_iff_ne_none.mpr hid
  unfold enrol
  rw [takeMgt_of_ready h]
  dsimp only
  rw [h.of_admin hadmin, if_neg (by decide), hprov, if_neg (by decide), hlen, if_neg (by decide), hgood, hhash]
  cases hv : Config.slhVerify (enrolSigner s) 2 128 (s.identityHash + sub k.data 0 64 * 2 ^ 512) (sub k.data 64 sigLen) with
  | false => exact if_pos (congrArg (fun b => (!true || !b)) hv)
  | true => exact if_neg (Bool.eq_false_iff.mp (congrArg (fun b => (!true || !b)) hv))

end

section
variable {s : State} {n : Nat} {k : MgtOp}

theorem fwStage_of_ready (h : MgtReady s n k 4) : fwStage s = if (s.tctx n).part = s.flash.admin then
    k.answer { mgtTaken s with flash := s.flash.putImage (1 - s.sec.slot) ⟨k.len, k.data⟩ } mgtOk else k.answer (mgtTaken s) mgtNotAdmin := by
  unfold fwStage
  rw [takeMgt_of_ready h]
  dsimp only
  by_cases hadmin : (s.tctx n).part = s.flash.admin
  · rw [h.of_admin hadmin, if_pos hadmin]
    rfl
  · rw [h.of_other hadmin, if_neg hadmin]
    rfl

/-- An image goes into the slot that it is staged to and into no other. -/
theorem putImage_image (f : Flash) (slot : Nat) (i : Image) : (f.putImage (1 - slot) i).image (1 - slot) = some i ∧
    (f.putImage (1 - slot) i).image slot = f.image slot ∧ (f.putImage (1 - slot) i).preferred = f.preferred := by
  unfold Flash.putImage Flash.image
  by_cases hzero : slot = 0
  · subst hzero
    exact ⟨rfl, rfl, rfl⟩
  · have hslot : 1 - slot = 0 := by omega
    simp [hslot, hzero]

variable (h : MgtReady s n k 5)
include h

theorem fwCommit_of_other (hother : ¬ (s.tctx n).part = s.flash.admin) : fwCommit s = k.answer (mgtTaken s) mgtNotAdmin := by
  unfold fwCommit
  rw [takeMgt_of_ready h]
  dsimp only
  rw [h.of_other hother]
  rfl

/-- The flash after a commit of an image: its slot preferred, and with RAISE_SVN its SVN the floor. -/
def committedFlash (s : State) (raise : Bool) (i : Image) : Flash :=
  if raise then { s.flash with preferred := 1 - s.sec.slot, floor := i.svn, floorTag := Config.floorMac s.sec.wrapKey i.svn }
  else { s.flash with preferred := 1 - s.sec.slot }

section
variable (hadmin : (s.tctx n).part = s.flash.admin) (hlen : k.len = 1)
include hadmin hlen

theorem fwCommit_of_empty (himage : s.flash.image (1 - s.sec.slot) = none) : fwCommit s = k.answer (mgtTaken s) mgtState := by
  unfold fwCommit
  rw [takeMgt_of_ready h]
  dsimp only
  rw [h.of_admin hadmin, if_neg (by decide), hlen, if_neg (by decide)]
  rw [show (mgtTaken s).flash.image (1 - (mgtTaken s).sec.slot) = none from himage]

theorem fwCommit_of_image {i : Image} (himage : s.flash.image (1 - s.sec.slot) = some i) : fwCommit s =
    if signedOk s i then
      if i.svn < s.svnFloor then k.answer (mgtTaken s) mgtRollback
      else k.answer { mgtTaken s with flash := committedFlash s (bitAt k.data 0) i } mgtOk
    else k.answer (mgtTaken s) mgtBadSig := by
  have hsigned : signedOk (mgtTaken s) i = signedOk s i := rfl
  have hfloor : (mgtTaken s).svnFloor = s.svnFloor := rfl
  unfold fwCommit
  rw [takeMgt_of_ready h]
  dsimp only
  rw [h.of_admin hadmin, if_neg (by decide), hlen, if_neg (by decide)]
  rw [show (mgtTaken s).flash.image (1 - (mgtTaken s).sec.slot) = some i from himage]
  dsimp only
  rw [hsigned, hfloor]
  cases signedOk s i with
  | false => rfl
  | true =>
    rw [if_neg (by decide), if_pos rfl]
    unfold committedFlash
    cases bitAt k.data 0 with
    | false => rfl
    | true => rfl

end

end

/-! ### PROVISION and IDENTIFY (R423, R424) -/

/-- Every domain but the always-on ones at its reset, the working state gone. -/
def powerCleared (s : State) : State :=
  { s with
    counters := [(clkPage, 0), (partPg, 5), (pwrPage, 4)].foldl (fun m e => SMap.set m (e.1.base * 256 + e.2) s.tick) s.counters
    cores := [], opes := [], rowEngines := [], numIn := [], step := {}, net := { wire := s.net.wire }, crs := {}, upd := {}, num := {}
    mem := { repairFlash := s.mem.repairFlash, allPoison := s.mem.allPoison }
    ledger := {
      recs := s.ledger.flash, flash := s.ledger.flash, flashPowered := s.ledger.flashPowered, powered := s.ledger.flashPowered
      since := s.tick, lostTail := s.ledger.lostTail }
    fab := { sites := s.fab.sites, dead := s.fab.dead }
    irq := { boxes := s.irq.boxes.filter (fun e => decide (60 ≤ e.1)) }
    cont := {}
    sec := { s.sec with
      identity := none, wrapKey := 0, running := none, slot := 0, fallback := false, recovery := false, verified := false
      derived := false, fwVer := 0, mgt := none, removal := 0, removalAt := 0 }
    retireDue := [] }

/-- The power state as at power-up. -/
def powerCounted (s : State) : State :=
  { (s.setRegN secPage 0x110 0).setRegN edgePage 0x100 0 with power := { s.power with
    off := false, upDone := false, goodAt := s.tick, stageAt := s.tick, steps := 0, calm := 0, capping := false, thermal := false
    noReserve := false, portDown := none, asleep := [], waking := [] } }

/-- The pending requests of the always-on pages, and the stage of a retired module. -/
def powerRestarted (s : State) (cause : Nat) : State :=
  let s := spyPending (sparesPending ((powerCounted s).setField pwrPage 0x014 8 4 cause))
  if s.isRetired then s.enterStage stRetired else s

theorem powerOn_eq (s : State) : powerOn s = powerRestarted (powerCleared (resetPages s (fun p => !alwaysOn p.domain) (fun _ => false)))
    (field (s.regN pwrPage 0x014) 11 8) := rfl

theorem onlyIn_sparesPending (s : State) : OnlyIn s (sparesPending s) [.regs] := by
  unfold sparesPending
  dsimp only
  split
  · exact (OnlyIn.refl s).setField.setField.mono (by decide)
  · exact (OnlyIn.refl s).setField.setField.mono (by decide)

theorem onlyIn_powerRestarted (s : State) (cause : Nat) : OnlyIn s (powerRestarted s cause) [.regs, .power, .irq] := by
  have hcounted : OnlyIn s (powerCounted s) [.power, .regs] := (OnlyIn.refl s).setRegN.setRegN.putPower.mono (by decide)
  have hpending : OnlyIn s (spyPending (sparesPending ((powerCounted s).setField pwrPage 0x014 8 4 cause))) [.regs, .power, .irq] :=
    ((hcounted.setField.trans (onlyIn_sparesPending _)).trans (onlyIn_spyPending _)).mono (by decide)
  unfold powerRestarted
  dsimp only
  split
  · exact hpending.setField.mono (by decide)
  · exact hpending

/-- The flash outlives a power-up; no context runs, and nothing is derived or verified. -/
theorem powerOn_kept (s : State) : (powerOn s).flash = s.flash ∧ (powerOn s).cores = [] ∧ (powerOn s).sec.derived = false ∧
    (powerOn s).sec.verified = false := by
  have hrest := onlyIn_powerRestarted (powerCleared (resetPages s (fun p => !alwaysOn p.domain) (fun _ => false)))
    (field (s.regN pwrPage 0x014) 11 8)
  rw [← powerOn_eq] at hrest
  have hsec := hrest .sec (by decide)
  exact ⟨hrest .flash (by decide), hrest .cores (by decide), (congrArg Security.derived hsec :), (congrArg Security.verified hsec :)⟩

section
variable {s : State} {n : Nat} {k : MgtOp} (h : MgtReady s n k 12)
include h

theorem provision_of_identity (hid : s.sec.identity ≠ none) : provision s = k.answer (mgtTaken s) mgtState := by
  have hprov : (mgtTaken s).provisioned = true := Option.isSome_iff_ne_none.mpr hid
  unfold provision
  rw [takeMgt_of_ready h]
  dsimp only
  rw [hprov]
  rfl

/-- A new identity as a body brings it, with no owner. -/
def provisionedFlash (f : Flash) (l body : Nat) : Flash :=
  { f with
    blob := some (Config.provParts l body).1, helper := (Config.provParts l body).2.1
    cert := ((Config.provParts l body).2.2.1, (Config.provParts l body).2.2.2), owner := none }

theorem provision_of_none (hid : s.sec.identity = none) {l : Nat} (hlen : k.len = l + 29792) : provision s =
    if rootOk s && Config.slhVerify s.flash.rootKey 3 l (sub k.data 0 l) (sub k.data l sigLen) then
      powerOn { k.answer (mgtTaken s) mgtOk with flash := provisionedFlash s.flash l (sub k.data 0 l) }
    else k.answer (mgtTaken s) mgtBadSig := by
  have hprov : (mgtTaken s).provisioned = false := by
    rw [State.provisioned, show (mgtTaken s).sec.identity = none from hid]
    rfl
  have hroot : rootOk (mgtTaken s) = rootOk s := rfl
  have hflash : (k.answer (mgtTaken s) mgtOk).flash = s.flash := (h.refused mgtOk).2.flash
  have hsub : l + 29792 - sigLen = l := Nat.add_sub_cancel ..
  unfold provision
  rw [takeMgt_of_ready h]
  dsimp only
  rw [hprov, if_neg (by decide), hlen, if_neg (by unfold sigLen; omega), hsub, hroot, ← Bool.not_and]
  generalize k.answer (mgtTaken s) mgtOk = u at hflash ⊢
  show (if (!(rootOk s && Config.slhVerify s.flash.rootKey 3 l (sub k.data 0 l) (sub k.data l sigLen))) = true then _ else _) = _
  cases rootOk s && Config.slhVerify s.flash.rootKey 3 l (sub k.data 0 l) (sub k.data l sigLen) with
  | false => rfl
  | true =>
    rw [if_neg (by decide), if_pos rfl, provisionedFlash, hflash]

end

theorem identify_of_ready {s : State} {n : Nat} {k : MgtOp} (h : MgtReady s n k 11) : identify s =
    if k.len = 1 ∧ sub k.data 0 1 < 2 then k.answer ((mgtTaken s).setField edgePage 0x010 0 1 (sub k.data 0 1)) mgtOk
    else k.answer (mgtTaken s) mgtBadOp := by
  unfold identify
  rw [takeMgt_of_ready h]
  dsimp only
  by_cases hgood : k.len = 1 ∧ sub k.data 0 1 < 2
  · rw [if_pos hgood, if_neg (by omega)]
  · rw [if_neg hgood, if_pos (by omega)]

theorem mgtFirmware : Claims.MgtFirmware := by
  intro s n k admin key slot
  refine ⟨fun h => ⟨fun hother => ?_, fun hadmin hid => ?_, fun signer hadmin hid hlen hroot hsigner => ?_⟩,
    fun h => ⟨fun hother => ?_, fun hadmin => ?_⟩, fun h => ⟨fun hother => ?_, fun hadmin hlen himage => ?_,
    fun i hadmin hlen himage => ⟨fun hbad => ?_, fun hgood hold => ?_, fun hgood hnew => ?_⟩⟩, fun h l hlen => ?_,
    fun h => ⟨fun hlen hop => ?_, fun hlen => ?_⟩⟩
  · obtain ⟨hanswers, hwrites⟩ := h.refused mgtNotAdmin
    exact ⟨_, congrArg Host.Outcome.next (enrol_of_other h hother), hanswers, hwrites.flash⟩
  · obtain ⟨hanswers, hwrites⟩ := h.refused mgtUnprov
    exact ⟨_, congrArg Host.Outcome.next (enrol_of_unprovisioned h hadmin hid), hanswers, hwrites.flash⟩
  · have hrun := enrol_of_admin h hadmin hid hlen hroot
    have hsame : enrolSigner s = signer := by
      rw [hsigner]
      unfold enrolSigner
      cases s.flash.owner <;> rfl
    rw [hsame, sub_zero, sub_signature] at hrun
    refine ⟨fun hgood => ?_, fun hbad => ?_⟩
    · obtain ⟨hanswers, hflash⟩ := h.withFlash { s.flash with owner := some (Config.shake256 64 key % 2 ^ 512) } mgtOk
      exact ⟨_, congrArg Host.Outcome.next (hrun.trans (if_pos hgood)), hanswers, hflash⟩
    · obtain ⟨hanswers, hwrites⟩ := h.refused mgtBadSig
      exact ⟨_, congrArg Host.Outcome.next (hrun.trans (if_neg (Bool.eq_false_iff.mp hbad))), hanswers, hwrites.flash⟩
  · obtain ⟨hanswers, hwrites⟩ := h.refused mgtNotAdmin
    exact ⟨_, congrArg Host.Outcome.next ((fwStage_of_ready h).trans (if_neg hother)), hanswers, hwrites.flash⟩
  · obtain ⟨hanswers, hflash⟩ := h.withFlash (s.flash.putImage (1 - s.sec.slot) ⟨k.len, k.data⟩) mgtOk
    obtain ⟨hstaged, hother, hpreferred⟩ := putImage_image s.flash s.sec.slot ⟨k.len, k.data⟩
    refine ⟨_, congrArg Host.Outcome.next ((fwStage_of_ready h).trans (if_pos hadmin)), hanswers, ?_⟩
    rw [hflash]
    exact ⟨hstaged, hother, hpreferred⟩
  · obtain ⟨hanswers, hwrites⟩ := h.refused mgtNotAdmin
    exact ⟨_, congrArg Host.Outcome.next (fwCommit_of_other h hother), hanswers, hwrites.flash⟩
  · obtain ⟨hanswers, hwrites⟩ := h.refused mgtState
    exact ⟨_, congrArg Host.Outcome.next (fwCommit_of_empty h hadmin hlen himage), hanswers, hwrites.flash⟩
  · obtain ⟨hanswers, hwrites⟩ := h.refused mgtBadSig
    exact ⟨_, congrArg Host.Outcome.next ((fwCommit_of_image h hadmin hlen himage).trans (if_neg (Bool.eq_false_iff.mp hbad))), hanswers, hwrites.flash⟩
  · obtain ⟨hanswers, hwrites⟩ := h.refused mgtRollback
    exact ⟨_, congrArg Host.Outcome.next ((fwCommit_of_image h hadmin hlen himage).trans ((if_pos hgood).trans (if_pos hold))), hanswers, hwrites.flash⟩
  · obtain ⟨hanswers, hflash⟩ := h.withFlash (committedFlash s (bitAt k.data 0) i) mgtOk
    exact ⟨_, congrArg Host.Outcome.next ((fwCommit_of_image h hadmin hlen himage).trans ((if_pos hgood).trans (if_neg (Nat.not_lt.mpr hnew)))),
      hanswers, hflash⟩
  · intro body good
    have hbody : sub k.data 0 l = body := sub_zero k.data l
    refine ⟨fun hid => ?_, fun hid hbad => ?_, fun hid hroot hgood => ?_⟩
    · obtain ⟨hanswers, hwrites⟩ := h.refused mgtState
      exact ⟨_, congrArg Host.Outcome.next (provision_of_identity h hid), hanswers, hwrites.flash⟩
    · obtain ⟨hanswers, hwrites⟩ := h.refused mgtBadSig
      have hrun := provision_of_none h hid hlen
      rw [hbody, sub_signature, show Config.slhVerify s.flash.rootKey 3 l body (k.data / 2 ^ (8 * l) % 2 ^ 238336) = good from rfl,
        if_neg (by rcases hbad with hbad | hbad <;> simp [hbad])] at hrun
      exact ⟨_, congrArg Host.Outcome.next hrun, hanswers, hwrites.flash⟩
    · have hrun := provision_of_none h hid hlen
      rw [hbody, sub_signature, show Config.slhVerify s.flash.rootKey 3 l body (k.data / 2 ^ (8 * l) % 2 ^ 238336) = good from rfl, hroot, hgood, Bool.and_self,
        if_pos rfl] at hrun
      obtain ⟨hflash, hcores, hderived, hverified⟩ := powerOn_kept { k.answer (mgtTaken s) mgtOk with flash := provisionedFlash s.flash l body }
      exact ⟨_, congrArg Host.Outcome.next hrun, hflash, hcores, hderived, hverified⟩
  · have hrun := identify_of_ready h
    rw [sub_zero_one, if_pos ⟨hlen, hop⟩] at hrun
    obtain ⟨hanswers, hsends⟩ := mgtAnswers_of_ready (t := (mgtTaken s).setField edgePage 0x010 0 1 (k.data % 2 ^ 8)) h rfl
      (State.cwndMax_of_regN (State.regN_setField_ne _ _ _ _ (by decide))) rfl mgtOk
    refine ⟨_, congrArg Host.Outcome.next hrun, hanswers, hsends.writes.flash, ?_⟩
    rw [hsends.writes.reg edgePage 0x010 (by decide), State.bitAt_setField _ _ _ _ _ (by decide) (by decide), if_pos (by decide)]
    show bitAt (k.data % 2 ^ 8) 0 = bitAt k.data 0
    rw [bitAt_eq_testBit, bitAt_eq_testBit, Nat.testBit_mod_two_pow]
    rfl
  · obtain ⟨hanswers, hwrites⟩ := h.refused mgtBadOp
    refine ⟨_, congrArg Host.Outcome.next ((identify_of_ready h).trans (if_neg fun hgood => hlen hgood.1)), hanswers, ?_⟩
    exact hwrites.reg edgePage 0x010 (by decide)

end Sys2Proof.Machine
end

section
/-! OBLIGATIONS. Management requests of containment and alarms (R419, R423). -/

namespace Sys2Proof.Machine

/-! ### What a containment request leaves to its answer -/

/-- Contexts, management and the windows of contexts are as they were. -/
structure Answerable (s t : State) : Prop where
  net : t.net = s.net
  sec : t.sec = s.sec
  window : t.regN talPage 0x108 = s.regN talPage 0x108

theorem Answerable.refl (s : State) : Answerable s s := ⟨rfl, rfl, rfl⟩

theorem Answerable.trans {s t r : State} (h : Answerable s t) (g : Answerable t r) : Answerable s r :=
  ⟨g.net.trans h.net, g.sec.trans h.sec, g.window.trans h.window⟩

/-- The answer of a request that has acted. -/
theorem MgtReady.acted {s t : State} {n : Nat} {k : MgtOp} {op : Nat} (h : MgtReady s n k op) (ht : Answerable (mgtTaken s) t) (status : Nat) :
    MgtAnswers s (k.answer t status) n k status 0 0 ∧ TalWrites t (k.answer t status) := by
  obtain ⟨hanswers, hsends⟩ := mgtAnswers_of_ready h (State.tctx_of_ctxs (congrArg Network.ctxs ht.net) n) (State.cwndMax_of_regN ht.window)
    (congrArg Security.mgt ht.sec) status
  exact ⟨hanswers, hsends.writes⟩

theorem answerable_fence (s : State) {p : Nat} (hp : p < 4) : Answerable s (fence s p) := by
  have hfenced := fenced_fence s hp
  exact ⟨hfenced.onlyIn .net (by decide), hfenced.onlyIn .sec (by decide),
    hfenced.reg talPage 0x108 (by decide) (fun id => base_ne_corePage (by decide) id) fun q hq =>
      Page.key_ne_of_base (by decide) (by decide) (by
        rw [List.mem_singleton.mp hq]
        omega)⟩

theorem answerable_takeTrigger (s : State) (cause : Nat) {p : Nat} (cluster : Nat) (hp : p < 4) (hwarm : s.cont.warm = none) :
    Answerable s (takeTrigger s cause p cluster) := by
  have hnoted := onlyIn_triggerNoted s cause p cluster
  have hreg : (triggerNoted s cause p cluster).regN talPage 0x108 = s.regN talPage 0x108 := by
    rw [triggerNoted, State.regN_raise_ne _ _ (by decide), State.regN_record_ne _ _ (by decide)]
  have hbumped : Answerable s ((triggerNoted s cause p cluster).bump partPg 0) :=
    ⟨(State.bump_net ..).trans (hnoted .net (by decide)), (State.bump_sec ..).trans (hnoted .sec (by decide)), (State.regN_bump ..).trans hreg⟩
  by_cases hfree : SMap.get s.cont.resets p = none
  · rw [takeTrigger_of_free cause cluster hp hwarm hfree]
    exact (show Answerable s (resetBegun s cause p cluster) from ⟨hbumped.net, hbumped.sec, hbumped.window⟩).trans (answerable_fence _ hp)
  · rw [takeTrigger_of_reset cause cluster hp (.inr hfree)]
    exact hbumped

theorem answerable_takeTriggers (cause : Nat) (l : List Nat) (s : State) (hlt : ∀ p ∈ l, p < 4) (hwarm : s.cont.warm = none) :
    Answerable s (l.foldl (fun s p => takeTrigger s cause p 0) s) := by
  induction l generalizing s with
  | nil => exact .refl s
  | cons p l ih =>
    have hp := hlt p List.mem_cons_self
    obtain ⟨-, -, hkept⟩ := (resetsAsked_takeTrigger s cause 0 hp hwarm).kept
    exact (answerable_takeTrigger s cause 0 hp hwarm).trans (ih _ (fun q hq => hlt q (List.mem_cons_of_mem p hq)) (hkept.trans hwarm))

theorem answerable_partResetWrite (s : State) (v : Nat) (hwarm : s.cont.warm = none) : Answerable s (partResetWrite s v) :=
  answerable_takeTriggers 0xA _ s (fun _ hp => List.mem_range.mp (List.mem_filter.mp hp).1) hwarm

/-- An answer leaves the registers of the PART page. -/
theorem TalWrites.epochOf {s t : State} (h : TalWrites s t) (p : Nat) (hp : p < 4) : t.epochOf p = s.epochOf p :=
  congrArg (· % 2 ^ 16) (h.reg partPg (0x100 + 4 * p) (Page.key_ne_of_base (by decide) (by omega) (by decide)))

/-! ### MGT_PART_RESET and MGT_PART_KILL (R419) -/

theorem bitAt_mod {v j w : Nat} (h : j < w) : bitAt (v % 2 ^ w) j = bitAt v j := by
  rw [bitAt_eq_testBit, bitAt_eq_testBit, Nat.testBit_mod_two_pow, decide_eq_true h, Bool.true_and]

section
variable {s : State} {n : Nat} {k : MgtOp}

theorem mgtPartReset_of_admin (h : MgtReady s n k 6) (hlen : k.len = 1) (hmask : k.data % 2 ^ 8 < 16) (hadmin : (s.tctx n).part = s.flash.admin) :
    mgtPartReset s = k.answer (partResetWrite (mgtTaken s) (k.data % 2 ^ 8)) mgtOk := by
  unfold mgtPartReset
  rw [takeMgt_of_ready h]
  dsimp only
  rw [sub_zero_one, if_neg (by omega), h.of_admin hadmin]
  rfl

/-- A partition other than the requester's own keeps its bit. -/
theorem mgtPartReset_of_other (h : MgtReady s n k 6) (hlen : k.len = 1) (hmask : k.data % 2 ^ 8 < 16) (hother : ¬ (s.tctx n).part = s.flash.admin)
    {p : Nat} (hp : p < 4) (hbit : bitAt k.data p = true) (hne : p ≠ (s.tctx n).part) : mgtPartReset s = k.answer (mgtTaken s) mgtNotAdmin := by
  have hleft : bitAt (putField (k.data % 2 ^ 8) (s.tctx n).part 1 0) p = true := by
    rw [bitAt_putField _ _ _ (by decide), if_neg (by omega), bitAt_mod (by omega)]
    exact hbit
  have hsome : (putField (k.data % 2 ^ 8) (s.tctx n).part 1 0 != 0) = true := by
    rw [bne_iff_ne]
    intro hzero
    rw [hzero, bitAt_eq_testBit, Nat.zero_testBit] at hleft
    exact Bool.false_ne_true hleft
  unfold mgtPartReset
  rw [takeMgt_of_ready h]
  dsimp only
  rw [sub_zero_one, if_neg (by omega), h.of_other hother, h.part (t := mgtTaken s) rfl, hsome]
  rfl

/-- The value of PART.KILL that a request stands for. -/
theorem killValue {p j : Nat} (hp : p < 4) (hj : j < 16) :
    bitAt (2 ^ 31 + p * 16 + j) 31 = true ∧ field (2 ^ 31 + p * 16 + j) 5 4 = p ∧ field (2 ^ 31 + p * 16 + j) 3 0 = j := by
  refine ⟨?_, ?_, ?_⟩
  · rw [bitAt, show (2 ^ 31 + p * 16 + j) / 2 ^ 31 = 1 by omega]
    rfl
  · rw [field]
    norm_num
    omega
  · rw [field]
    norm_num
    omega

theorem mgtPartKill_of_allowed (h : MgtReady s n k 7) (hlen : k.len = 2) (hp : sub k.data 0 1 < 4) (hj : sub k.data 1 1 < 16)
    (hallowed : (s.tctx n).part = s.flash.admin ∨ sub k.data 0 1 = (s.tctx n).part) (hkill : s.cont.kill = none)
    (hreset : SMap.get s.cont.resets (sub k.data 0 1) = none) (hwarm : s.cont.warm = none) : mgtPartKill s =
      k.answer (haltClusters (killBegun (mgtTaken s) (sub k.data 0 1) (sub k.data 1 1)) (s.jobClusters (sub k.data 0 1) (sub k.data 1 1))) mgtOk := by
  obtain ⟨hgo, hpart, hjob⟩ := killValue hp hj
  have hwrite := killWrite_of_free (s := mgtTaken s) hgo hkill (by rw [hpart]; exact hreset) hwarm
  rw [hpart, hjob] at hwrite
  have hfirm : killByFirmware (mgtTaken s) (2 ^ 31 + sub k.data 0 1 * 16 + sub k.data 1 1) =
      haltClusters (killBegun (mgtTaken s) (sub k.data 0 1) (sub k.data 1 1)) (s.jobClusters (sub k.data 0 1) (sub k.data 1 1)) := by
    unfold killByFirmware
    rw [hwrite]
    rfl
  have hgood : (!(k.isAdmin (mgtTaken s)) && sub k.data 0 1 != (s.tctx n).part) = false := by
    rw [h.isAdmin]
    rcases hallowed with hadmin | hown
    · simp [hadmin]
    · simp [hown]
  unfold mgtPartKill
  rw [takeMgt_of_ready h]
  dsimp only
  rw [if_neg (by omega), h.part (t := mgtTaken s) rfl, hgood, if_neg (by decide), hfirm]

theorem mgtPartKill_of_other (h : MgtReady s n k 7) (hlen : k.len = 2) (hp : sub k.data 0 1 < 4) (hj : sub k.data 1 1 < 16)
    (hother : ¬ (s.tctx n).part = s.flash.admin) (hne : sub k.data 0 1 ≠ (s.tctx n).part) : mgtPartKill s = k.answer (mgtTaken s) mgtNotAdmin := by
  unfold mgtPartKill
  rw [takeMgt_of_ready h]
  dsimp only
  rw [if_neg (by omega), h.part (t := mgtTaken s) rfl, h.of_other hother, if_pos (by simp [hne])]

/-! ### MGT_WARM and ALARM_ACK (R419, R423) -/

theorem mgtWarm_of_ready (h : MgtReady s n k 8) : mgtWarm s =
    if (s.tctx n).part = s.flash.admin then startWarm (k.answer (mgtTaken s) mgtOk) 0 else k.answer (mgtTaken s) mgtNotAdmin := by
  unfold mgtWarm
  rw [takeMgt_of_ready h]
  dsimp only
  by_cases hadmin : (s.tctx n).part = s.flash.admin
  · rw [h.of_admin hadmin, if_pos hadmin]
    rfl
  · rw [h.of_other hadmin, if_neg hadmin]
    rfl

/-- The state in which a held alarm is released. -/
def alarmReleased (s : State) : State := { mgtTaken s with sec.held := false }

theorem alarmAck_of_other (h : MgtReady s n k 10) (hother : ¬ (s.tctx n).part = s.flash.admin) : alarmAck s = k.answer (mgtTaken s) mgtNotAdmin := by
  unfold alarmAck
  rw [takeMgt_of_ready h]
  dsimp only
  rw [h.of_other hother]
  rfl

theorem alarmAck_of_admin (h : MgtReady s n k 10) (hadmin : (s.tctx n).part = s.flash.admin) (hwarm : s.cont.warm = none) : alarmAck s =
    if s.sec.held then k.answer (warmStage (alarmReleased s)) mgtOk else k.answer (mgtTaken s) mgtState := by
  have hnone : ((mgtTaken s).cont.warm.isSome = true) = False := by
    rw [show (mgtTaken s).cont.warm = none from hwarm]
    exact eq_false Bool.false_ne_true
  unfold alarmAck
  rw [takeMgt_of_ready h]
  dsimp only
  rw [h.of_admin hadmin, if_neg (by decide), show (mgtTaken s).sec.held = s.sec.held from rfl]
  cases s.sec.held with
  | false => rfl
  | true =>
    rw [if_neg (by decide), if_pos rfl, alarmReleased]
    simp only [hnone, if_false]

end

/-- The stage after a release is set in TAL.STAGE and nowhere else. -/
theorem warmStage_kept (s : State) : OnlyIn s (warmStage s) [.regs] ∧ (warmStage s).regN talPage 0x108 = s.regN talPage 0x108 := by
  unfold warmStage
  split
  · exact ⟨(OnlyIn.refl s).mono (by decide), rfl⟩
  · split
    · exact ⟨(OnlyIn.refl s).setField.mono (by decide), State.regN_setField_ne _ _ _ _ (by decide)⟩
    · exact ⟨(OnlyIn.refl s).setField.mono (by decide), State.regN_setField_ne _ _ _ _ (by decide)⟩

theorem enterStage_stage (s : State) {n : Nat} (h : n < 2 ^ 4) : (s.enterStage n).stage347 = n := by
  rw [State.stage347, State.enterStage, State.regN_setField_self _ _ _ _ _ (by decide) (by decide), field_putField_self _ _ (by decide) (by decide)]
  exact Nat.mod_eq_of_lt h

theorem warmStage_ready {s : State} (hstage : s.stage347 = stMgmt) (hup : s.power.upDone = true) (hheld : s.sec.held = false)
    (hid : s.sec.identity ≠ none) (hremoval : s.sec.removal = 0) : (warmStage s).stage347 = stReady := by
  unfold warmStage
  rw [if_neg (by simp [hstage, hup, hheld, hid]), if_neg (by simp [hremoval])]
  exact enterStage_stage s (by decide)

theorem mgtContainment : Claims.MgtContainment := by
  intro s n k hwarm admin
  refine ⟨fun h hlen hmask => ⟨fun hadmin => ?_, fun p hp hother hbit hne => ?_⟩, fun h hlen => ?_,
    fun h => ⟨fun hadmin => ?_, fun hother => ?_⟩, fun h => ⟨fun hadmin hheld => ?_, fun hadmin hfree => ?_, fun hother => ?_⟩⟩
  · have hasked := resetsAsked_partResetWrite (mgtTaken s) (k.data % 2 ^ 8) hwarm
    obtain ⟨hanswers, hwrites⟩ := h.acted (answerable_partResetWrite (mgtTaken s) (k.data % 2 ^ 8) hwarm) mgtOk
    refine ⟨_, congrArg Host.Outcome.next (mgtPartReset_of_admin h hlen hmask hadmin), hanswers, fun p hp hbit hfree => ?_⟩
    obtain ⟨hreset, hepoch, hstopped⟩ := hasked.started p (List.mem_filter.mpr ⟨List.mem_range.mpr hp, (bitAt_mod (by omega)).trans hbit⟩) hfree
    refine ⟨(congrArg (fun c : Contain => SMap.get c.resets p) (hwrites.onlyIn .cont (by decide))).trans hreset,
      (hwrites.epochOf p hp).trans hepoch, fun id x hid hrun => ?_⟩
    rw [State.core_congr hwrites.cores, hstopped id x hid]
    exact congrArg Context.mode (Context.stopped_of_running hrun)
  · obtain ⟨hanswers, hwrites⟩ := h.refused mgtNotAdmin
    exact ⟨_, congrArg Host.Outcome.next (mgtPartReset_of_other h hlen hmask hother hp hbit hne), hanswers,
      hwrites.onlyIn .cont (by decide), hwrites.cores⟩
  · intro p j hp hj
    have hsub : sub k.data 0 1 = p := sub_zero_one k.data
    have hjob : sub k.data 1 1 = j := rfl
    refine ⟨fun hallowed hkill hreset => ?_, fun hother hne => ?_⟩
    · have hrun := mgtPartKill_of_allowed h hlen (by rw [hsub]; exact hp) hj (by rw [hsub]; exact hallowed) hkill (by rw [hsub]; exact hreset) hwarm
      rw [hsub, hjob] at hrun
      have hhalts := halts_haltClusters (killBegun (mgtTaken s) p j) (s.jobClusters p j) (jobClusters_lt s p j)
      obtain ⟨hanswers, hwrites⟩ := h.acted ⟨hhalts.onlyIn .net (by decide), hhalts.onlyIn .sec (by decide),
        hhalts.reg talPage 0x108 (by decide) fun id _ _ => base_ne_corePage (by decide) id⟩ mgtOk
      refine ⟨_, congrArg Host.Outcome.next hrun, hanswers, ?_, fun id x hid hrunning => ?_⟩
      · exact (hwrites.onlyIn .cont (by decide)).trans (hhalts.onlyIn .cont (by decide))
      · rw [State.core_congr hwrites.cores]
        exact hhalts.halting ((mem_jobClusters s p j id.cluster).mpr hid) hrunning
    · obtain ⟨hanswers, hwrites⟩ := h.refused mgtNotAdmin
      exact ⟨_, congrArg Host.Outcome.next (mgtPartKill_of_other h hlen (by rw [hsub]; exact hp) hj hother (by rw [hsub]; exact hne)), hanswers,
        hwrites.onlyIn .cont (by decide)⟩
  · obtain ⟨⟨hmgt, hanswers⟩, hwrites⟩ := h.refused mgtOk
    have hrun := (mgtWarm_of_ready h).trans (if_pos hadmin)
    have hcont : (k.answer (mgtTaken s) mgtOk).cont = s.cont := hwrites.onlyIn .cont (by decide)
    have htick : (k.answer (mgtTaken s) mgtOk).tick = s.tick := hwrites.onlyIn .tick (by decide)
    have hcore (id : CoreId) : (k.answer (mgtTaken s) mgtOk).core id = s.core id := State.core_congr hwrites.cores id
    generalize k.answer (mgtTaken s) mgtOk = u at hmgt hanswers hrun hcont htick hcore
    have hstarted := warmStarted_of_none (s := u) 0 (by rw [hcont]; exact hwarm)
    refine ⟨_, congrArg Host.Outcome.next hrun, ⟨?_, ?_⟩, ?_, fun id x _ hrunning => ?_⟩
    · exact (congrArg Security.mgt hstarted.sec).trans hmgt
    · rw [Answers, State.tctx_of_ctxs (congrArg Network.ctxs (hstarted.onlyIn .net (by decide))) n]
      exact hanswers
    · rw [hstarted.cont, ← htick]
      rfl
    · rw [hstarted.halts, hcore]
      exact congrArg Context.mode (Context.stopped_of_running hrunning)
  · obtain ⟨hanswers, hwrites⟩ := h.refused mgtNotAdmin
    exact ⟨_, congrArg Host.Outcome.next ((mgtWarm_of_ready h).trans (if_neg hother)), hanswers, hwrites.onlyIn .cont (by decide)⟩
  · obtain ⟨honly, hwindow⟩ := warmStage_kept (alarmReleased s)
    have hsec : (warmStage (alarmReleased s)).sec = (alarmReleased s).sec := honly .sec (by decide)
    obtain ⟨hanswers, hsends⟩ := mgtAnswers_of_ready (t := warmStage (alarmReleased s)) h
      (State.tctx_of_ctxs (congrArg Network.ctxs (honly .net (by decide))) n) (State.cwndMax_of_regN hwindow) (congrArg Security.mgt hsec) mgtOk
    refine ⟨_, congrArg Host.Outcome.next ((alarmAck_of_admin h hadmin hwarm).trans (if_pos hheld)), hanswers, ?_, fun hstage hup hid hremoval => ?_⟩
    · exact (congrArg Security.held (hsends.writes.sec.trans hsec) :)
    · exact hsends.writes.stage.trans (warmStage_ready (s := alarmReleased s) hstage hup rfl hid hremoval)
  · obtain ⟨hanswers, hwrites⟩ := h.refused mgtState
    refine ⟨_, congrArg Host.Outcome.next ((alarmAck_of_admin h hadmin hwarm).trans (if_neg (Bool.eq_false_iff.mp hfree))), hanswers, ?_⟩
    exact (congrArg Security.held hwrites.sec).trans hfree
  · obtain ⟨hanswers, hwrites⟩ := h.refused mgtNotAdmin
    exact ⟨_, congrArg Host.Outcome.next (alarmAck_of_other h hother), hanswers, (congrArg Security.held hwrites.sec :)⟩

/-- Settles O51: chunks and reports, flash and identity, and the requests of containment, each for the requester it needs. -/
theorem management : Obligations.Management := ⟨mgtChunksAndReports, mgtFirmware, mgtContainment⟩

end Sys2Proof.Machine
end

section
/-! SUPPORT. Reads and writes of device memory by units leave every register but the ISTATUS of the agents (R193, R383). -/

namespace Sys2Proof.Machine

/-- Between the two states no register but an ISTATUS has changed. -/
structure CtlKept (s t : State) : Prop where
  regN : ∀ (p : Page) (off : Nat), off < 0x1000 → off ≠ 0x018 → t.regN p off = s.regN p off

theorem CtlKept.refl (s : State) : CtlKept s s := ⟨fun _ _ _ _ => rfl⟩

theorem CtlKept.trans {s t r : State} (h : CtlKept s t) (g : CtlKept t r) : CtlKept s r :=
  ⟨fun p off hlt hne => (g.regN p off hlt hne).trans (h.regN p off hlt hne)⟩

theorem CtlKept.of_regs {s t : State} (h : t.regs = s.regs) : CtlKept s t := ⟨fun p off _ _ => State.regN_congr h p off⟩

theorem SameHomes.ctlKept {s t : State} (h : SameHomes s t) : CtlKept s t := ⟨fun p _ hlt hne => h.regN p hlt hne⟩

theorem CtlKept.ite {s t r : State} {c : Prop} [Decidable c] (h : CtlKept s t) (g : CtlKept s r) : CtlKept s (if c then t else r) := by
  split
  · exact h
  · exact g

theorem CtlKept.foldl {α : Type} {f : State → α → State} (hf : ∀ s x, CtlKept s (f s x)) (s : State) (l : List α) : CtlKept s (l.foldl f s) := by
  induction l generalizing s with
  | nil => exact .refl s
  | cons x l ih => exact (hf s x).trans (ih _)

/-! ### What serves an access -/

theorem ctlKept_applyAtomic (s : State) (a : Atomic) : CtlKept s (applyAtomic s a) := by
  rw [applyAtomic_eq]
  exact ((sameHomes_readCounted ..).ctlKept.trans (.of_regs (onlyIn_atomicStored _ _ _ _ .regs (by decide)))).trans (sameHomes_atomicCounted ..).ctlKept

theorem ctlKept_settle (s : State) (n : Nat) : CtlKept s (s.settle n) := by
  unfold State.settle
  exact (show CtlKept s { s with mem.atomics := s.mem.atomics.filter (fun a => decide (a.addr / 0x8000 ≠ n)) } from .of_regs rfl).trans
    (.foldl ctlKept_applyAtomic _ _)

theorem ctlKept_serveRead (s : State) (n : Nat) (side : Bool) (off len : Nat) : CtlKept s (serveRead s n side off len).1 := by
  have hread := (ctlKept_settle s n).trans (sameHomes_readCounted (s.settle n) ((s.settle n).tilePlace n side off) len).ctlKept
  unfold serveRead
  dsimp only
  split
  · exact .ite (hread.trans (sameHomes_bump ..).ctlKept) hread
  · exact hread

theorem ctlKept_serveWrite (s : State) (n : Nat) (side : Bool) (off len v : Nat) (bad : Bool) : CtlKept s (serveWrite s n side off len v bad) := by
  unfold serveWrite
  extract_lets s1 a s2 s3
  have hput : CtlKept s s2 := ((ctlKept_settle s n).trans (sameHomes_writeCounted s1 a len).ctlKept).trans (.of_regs (onlyIn_put _ a len v .regs (by decide)))
  exact .ite hput (hput.trans (.of_regs rfl))

theorem ctlKept_stashServe (s : State) (c : Nat) {r : StashReq} (h : HeldOp.plain (.store r)) : CtlKept s (stashServe s c r).1 := by
  obtain ⟨side, off, len, v, bad, hop⟩ := h
  have haccept : CtlKept s (stashAccept s c r.depth).1 := .of_regs (onlyIn_stashAccept s c r.depth .regs (by decide))
  unfold stashServe
  dsimp only
  generalize stashAccept s c r.depth = a at haccept ⊢
  obtain ⟨s1, ans⟩ := a
  rw [hop]
  cases ans with
  | spill => exact .refl s
  | lend => exact .refl s
  | moving => exact .refl s
  | refused => exact haccept
  | home => exact CtlKept.trans haccept (ctlKept_serveWrite ..)

theorem ctlKept_readHome (s : State) (n addr len : Nat) : CtlKept s (readHome s n addr len).1 := by
  unfold readHome
  split
  · split
    · exact ctlKept_serveRead ..
    · exact .refl s
  · exact .refl s

theorem ctlKept_performHeld (s : State) {h : Held} (hop : h.op.plain) : CtlKept s (performHeld s h).1 := by
  obtain ⟨agent, tile, op⟩ := h
  unfold performHeld
  cases op with
  | store r =>
    dsimp only
    split
    · exact ctlKept_stashServe s _ hop
    · exact .refl s
  | write addr len v bad who =>
    obtain rfl : who = none := hop
    dsimp only
    split
    · exact .refl s
    · split
      · split
        · exact ctlKept_serveWrite ..
        · exact .refl s
      · exact .refl s
  | read key addr len =>
    dsimp only
    split
    · exact .refl s
    · exact (ctlKept_readHome s tile addr len).trans (.of_regs rfl)
  | atomic a => exact hop.elim
  | fetchAdd n a => exact hop.elim
  | load core x => exact hop.elim
  | fetch core sc seq at_ side => exact hop.elim

theorem holdTold_of_plain (s : State) {h : Held} (hop : h.op.plain) : holdTold s h = (s, h) := by
  obtain ⟨agent, tile, op⟩ := h
  unfold holdTold
  cases op with
  | write addr len v bad who =>
    obtain rfl : who = none := hop
    rfl
  | store r => rfl
  | read key addr len => rfl
  | atomic a => rfl
  | fetchAdd n a => rfl
  | load core x => rfl
  | fetch core sc seq at_ side => rfl

theorem ctlKept_joined (s : State) (h : Held) : CtlKept s (joined s h) :=
  .ite (.of_regs (State.bump_regs ..)) (.ite (.of_regs (State.bump_regs ..)) (.of_regs rfl))

theorem ctlKept_hold (s : State) {h : Held} (hop : h.op.plain) : CtlKept s (s.hold h) := by
  rw [hold_eq, holdTold_of_plain s hop]
  exact ctlKept_joined s h

theorem ctlKept_arrive (s : State) {h : Held} (hop : h.op.plain) : CtlKept s (arrive s h) := by
  unfold arrive
  split
  · exact .of_regs rfl
  · have haccept := (sameHomes_accept s h.tile).ctlKept
    dsimp only
    split
    · exact haccept.trans (ctlKept_hold _ hop)
    · have hperform := ctlKept_performHeld (s.accept h.tile) hop
      generalize performHeld (s.accept h.tile) h = a at hperform ⊢
      obtain ⟨t, done⟩ := a
      cases done with
      | true => exact haccept.trans hperform
      | false => exact haccept.trans (CtlKept.trans hperform (ctlKept_hold t hop))

theorem ctlKept_submit (s : State) (key : UnitKey) (a n : Nat) {op : HeldOp} (hop : op.plain) : CtlKept s (submit s key a n op) := by
  unfold submit
  split
  · split
    · exact .refl s
    · split
      · obtain rfl := hop
        exact ctlKept_arrive s ⟨_, _, _, _, _, rfl⟩
      · exact ctlKept_arrive s hop
  · exact .refl s

theorem ctlKept_askFor (s : State) (key : UnitKey) (part : Option Nat) (a n : Nat) : CtlKept s (s.askFor key part a n) := by
  unfold State.askFor
  split
  · exact .refl s
  · exact .foldl (fun t (p : Nat × Nat × Nat) => ctlKept_submit t key p.1 p.2.1 (op := .read key p.1 p.2.1) trivial) s _

theorem logUnreached_regs (s : State) (key : UnitKey) (part : Option Nat) (write : Bool) (a n : Nat) :
    (logUnreached s key part write a n).regs = s.regs := by
  have hlog (c : Nat) : State.regs (match (accessPieces a n).find? (fun p => match spotOf p.1 with | .system _ => true | _ => false) with
      | some p => logSystemUnit s part c write p.1
      | none => s) = s.regs := by
    split
    · rfl
    · rfl
  unfold logUnreached
  cases key with
  | talel n => rfl
  | row c => exact hlog c
  | train => exact hlog 0

/-! ### Accesses of units -/

/-- What an access of memory by a unit can have touched. -/
structure Accesses (s t : State) : Prop where
  onlyIn : OnlyIn s t memParts
  ctl : CtlKept s t

theorem Accesses.refl (s : State) : Accesses s s := ⟨mems_refl s, .refl s⟩

theorem Accesses.trans {s t r : State} (h : Accesses s t) (g : Accesses t r) : Accesses s r := ⟨mems_trans h.onlyIn g.onlyIn, h.ctl.trans g.ctl⟩

theorem Accesses.crs {s t : State} (h : Accesses s t) : t.crs = s.crs := h.onlyIn .crs (by decide)
theorem Accesses.net {s t : State} (h : Accesses s t) : t.net = s.net := h.onlyIn .net (by decide)
theorem Accesses.step {s t : State} (h : Accesses s t) : t.step = s.step := h.onlyIn .step (by decide)

theorem accesses_askFor (s : State) (key : UnitKey) (part : Option Nat) (a n : Nat) : Accesses s (s.askFor key part a n) :=
  ⟨mems_askFor s key part a n, ctlKept_askFor s key part a n⟩

theorem accesses_trainAsk (s : State) (a n : Nat) : Accesses s (trainAsk s a n) := accesses_askFor s .train _ a n

theorem ctlKept_unitRead (s : State) (key : UnitKey) (part : Option Nat) (a n : Nat) : CtlKept s (unitRead s key part a n).1 := by
  unfold unitRead
  split
  · exact .of_regs (logUnreached_regs s key part false a n)
  · have hask := ctlKept_askFor s key part a n
    dsimp only
    generalize s.askFor key part a n = t at hask
    unfold takeOutcome
    dsimp only
    split
    · rename_i hsome
      split at hsome
      · obtain ⟨rfl, -⟩ := Prod.mk.inj (Option.some.inj hsome)
        exact CtlKept.trans hask (.of_regs rfl)
      · cases hsome
    · exact hask

theorem accesses_takeRead {s t : State} {key : UnitKey} {part : Option Nat} {a n v : Nat} {bad : Bool}
    (h : takeRead s key part a n = some (t, v, bad)) : Accesses s t := by
  refine ⟨mems_takeRead s h, ?_⟩
  have hread := ctlKept_unitRead s key part a n
  unfold takeRead at h
  generalize unitRead s key part a n = r at hread h
  obtain ⟨s', x⟩ := r
  cases x with
  | none => cases h
  | some x =>
    obtain ⟨rfl, -⟩ := Prod.mk.inj (Option.some.inj h)
    exact hread

theorem accesses_unitPost (s : State) (key : UnitKey) (part : Option Nat) (a n v : Nat) (bad : Bool) :
    Accesses s (unitPost s key part a n v bad none) := by
  refine ⟨mems_unitPost s key part a n v bad, ?_⟩
  unfold unitPost
  dsimp only
  have hlogged : CtlKept s (if reachesAll s part a n then s else logUnreached s key part true a n) :=
    .ite (.refl s) (.of_regs (logUnreached_regs s key part true a n))
  refine hlogged.trans (CtlKept.foldl ?_ _ _)
  intro t p
  split
  · split
    · exact .refl t
    · split
      · exact ctlKept_arrive t ⟨_, _, _, _, _, rfl⟩
      · exact ctlKept_arrive t rfl
  · exact .refl t

theorem accesses_trainWrite (s : State) (a n v : Nat) : Accesses s (trainWrite s a n v) := accesses_unitPost s .train _ a n v false

/-! ### Readings -/

/-- A reading whose accesses touch nothing else. -/
def Reads {α : Type} (m : Reading α) : Prop := ∀ s v t, m s = .ok (v, t) → Accesses s t

theorem reads_pure {α : Type} (v : α) : Reads (pure v : Reading α) := by
  intro s w t h
  obtain ⟨-, rfl⟩ := Prod.mk.inj (Except.ok.inj h)
  exact .refl s

theorem reads_get : Reads (get : Reading State) := by
  intro s w t h
  obtain ⟨-, rfl⟩ := Prod.mk.inj (Except.ok.inj h)
  exact .refl s

theorem reads_bind {α β : Type} {m : Reading α} {f : α → Reading β} (hm : Reads m) (hf : ∀ v, Reads (f v)) : Reads (m >>= f) := by
  intro s w t h
  obtain ⟨v, r, h1, h2⟩ := reading_bind_ok h
  exact (hm s v r h1).trans (hf v r w t h2)

theorem reads_ite {α : Type} {c : Prop} [Decidable c] {a b : Reading α} (ha : Reads a) (hb : Reads b) : Reads (if c then a else b) := by
  split
  · exact ha
  · exact hb

theorem reads_trainRead (a n : Nat) : Reads (trainRead a n) := by
  intro s v t h
  unfold trainRead at h
  split at h
  · cases h
  · rename_i hread
    obtain ⟨-, rfl⟩ := Prod.mk.inj (Except.ok.inj h)
    exact accesses_takeRead hread

theorem reads_tableRead (a n : Nat) : Reads (tableRead a n) := by
  intro s v t h
  unfold tableRead at h
  split at h
  · cases h
  · rename_i hread
    obtain ⟨-, rfl⟩ := Prod.mk.inj (Except.ok.inj h)
    have hacc := accesses_takeRead hread
    split
    · exact ⟨OnlyIn.mono hacc.onlyIn.trigger (by decide), hacc.ctl.trans (.of_regs rfl)⟩
    · exact hacc

end Sys2Proof.Machine
end

section
/-! SUPPORT. Carousel units: frames that arrive and leave, tables and segments (R250, R258, R260, R264, R275). -/

namespace Sys2Proof.Machine

/-! ### Units and tables -/

theorem State.unit_of_units {s t : State} (h : t.crs.units = s.crs.units) (u : Nat) : t.unit u = s.unit u := by
  unfold State.unit
  rw [h]

theorem State.unit_setUnit (s : State) (u : Nat) (x : CrsUnit) (v : Nat) : (s.setUnit u x).unit v = if v = u then x else s.unit v := SMap.getD_set ..

theorem State.unit_setUnit_self (s : State) (u : Nat) (x : CrsUnit) : (s.setUnit u x).unit u = x := (s.unit_setUnit u x u).trans (if_pos rfl)

/-- The bank of a step is in CRS.BANK, its words in the tables. -/
theorem State.bucket_of_banks {s t : State} (hreg : t.regN crsPage 0x110 = s.regN crsPage 0x110) (hbanks : t.crs.banks = s.crs.banks) (step b : Nat) :
    t.bucket step b = s.bucket step b := by
  have hbank : t.bankOf step = s.bankOf step := by rw [State.bankOf, hreg, State.bankOf]
  have hword (k i w : Nat) : t.bword k i w = s.bword k i w := by rw [State.bword, hbanks, State.bword]
  unfold State.bucket
  rw [hbank]
  simp only [hword]

theorem crsPage_ne (p : Page) {a b : Nat} (ha : a < 0x1000) (hb : b < 0x1000) (hne : a ≠ b) : p.key a ≠ crsPage.key b :=
  Page.key_ne_of_off p crsPage ha hb hne

theorem State.credit_of_crs {s t : State} (h : t.crs.credit = s.crs.credit) (c : Nat) : t.credit c = s.credit c := by
  unfold State.credit
  rw [h]

/-! ### Frames that leave (R258) -/

/-- The message in which a frame leaves. -/
def frameMsg (f : CrsFrame) : Msg :=
  { cls := if f.kind < 3 then 4 else 5, tc := if f.kind = 4 then 3 else 1, len := frameLen f, data := frameBytes f }

theorem sendFrame_of_open {s : State} {u : Nat} (f : CrsFrame) (h : (s.tctx (s.portCtx u)).st = 1) :
    sendFrame s u f = sendMsg (s.bump (unitPage u) 1) (s.portCtx u) (frameMsg f) := if_neg (not_not.mpr h)

theorem sendFrame_of_closed {s : State} {u : Nat} (f : CrsFrame) (h : (s.tctx (s.portCtx u)).st ≠ 1) : sendFrame s u f = s := if_pos h

theorem talWrites_sendFrame (s : State) (u : Nat) (f : CrsFrame) : TalWrites s (sendFrame s u f) := by
  by_cases h : (s.tctx (s.portCtx u)).st = 1
  · rw [sendFrame_of_open f h]
    exact (talWrites_bump ..).trans (talSends_sendMsg ..).writes
  · rw [sendFrame_of_closed f h]
    exact .refl s

/-- A frame leaves at once on an open context with nothing before it and a window that is open. -/
theorem sendFrame_of_room {s : State} {u : Nat} (f : CrsFrame) (hst : (s.tctx (s.portCtx u)).st = 1) (hqueue : (s.tctx (s.portCtx u)).queue = [])
    (hroom : (s.tctx (s.portCtx u)).unacked.length < min (s.tctx (s.portCtx u)).cwnd s.cwndMax) :
    LastSent s (sendFrame s u f) (s.portCtx u) (frameMsg f) := by
  have hctx : (s.bump (unitPage u) 1).tctx (s.portCtx u) = s.tctx (s.portCtx u) := State.tctx_of_ctxs (congrArg Network.ctxs (State.bump_net ..)) _
  have hmax : (s.bump (unitPage u) 1).cwndMax = s.cwndMax := State.cwndMax_of_regN (State.regN_bump ..)
  have hsent := sendMsg_of_room (s := s.bump (unitPage u) 1) (n := s.portCtx u) (frameMsg f) (by rw [hctx]; exact hqueue)
    (by rw [hctx, hmax]; exact hroom)
  rw [LastSent, hctx] at hsent
  rw [sendFrame_of_open f hst]
  exact hsent

/-! ### Frames that arrive (R260, R264, R350) -/

/-- A unit that has taken a frame from a message of its port differs in the message's context alone. -/
theorem takeMessage_eq {s s0 : State} {u n psn : Nat} {f : CrsFrame} (h : takeMessage s u n psn f = some s0) : ∃ c, s0 = s.putTctx n c := by
  unfold takeMessage at h
  dsimp only at h
  split at h
  · cases h
  · split at h
    · exact ⟨_, (Option.some.inj h).symm⟩
    · split at h
      · exact ⟨_, (Option.some.inj h).symm⟩
      · cases h

theorem takeMessage_onlyIn {s s0 : State} {u n psn : Nat} {f : CrsFrame} (h : takeMessage s u n psn f = some s0) : OnlyIn s s0 [.net] := by
  obtain ⟨c, rfl⟩ := takeMessage_eq h
  exact (OnlyIn.refl s).putTctx

theorem frameIn_of_good {s : State} (u : Nat) {f : CrsFrame} (hon : s.crsOn = true) (hkind : f.kind ≠ 0) (hmax : f.kind ≤ 4) (hstep : f.step < 65532)
    (hopen : s.tagClosed f.step = false) : frameIn s u f = (s.bump (unitPage u) 0, true) := by
  have hon' : (s.bump (unitPage u) 0).crsOn = true := by rw [State.crsOn, State.regN_bump]; exact hon
  have hopen' : (s.bump (unitPage u) 0).tagClosed f.step = false := by rw [State.tagClosed, State.regN_bump]; exact hopen
  have hgood : ¬ (f.kind = 0 ∨ 4 < f.kind ∨ (!isStep f.step) = true) := by
    have hvalid : isStep f.step = true := decide_eq_true hstep
    rw [hvalid]
    simp only [Bool.not_true, Bool.false_eq_true, or_false]
    omega
  unfold frameIn
  dsimp only
  rw [hon', if_neg (by decide), if_neg hgood, hopen', if_neg (by decide)]

theorem withFrame_of_none {s : State} {port : Nat} {m : CrsMsg} {f : CrsFrame} {act : State → State × Bool}
    (h : takeMessage s (s.unitNo port) m.ctx.val m.psn f = none) : withFrame s port m f act = s := by
  unfold withFrame
  rw [h]

theorem withFrame_of_taken {s s0 t : State} {port : Nat} {m : CrsMsg} {f : CrsFrame} {act : State → State × Bool}
    (h : takeMessage s (s.unitNo port) m.ctx.val m.psn f = some s0) (hact : act s0 = (t, true)) : withFrame s port m f act = t := by
  unfold withFrame
  rw [h]
  dsimp only
  rw [hact]

/-- A unit without the resends that a frame asked for. -/
def unstomped (s : State) (u : Nat) : State := s.setUnit u { s.unit u with stomped := [] }

theorem resendStomped_of_none {s : State} {u : Nat} (f : CrsFrame) (h : (s.unit u).stomped = []) : resendStomped s u f = (unstomped s u, []) := by
  unfold resendStomped
  dsimp only
  rw [h]
  rfl

/-! ### Segments that are freed, credits and pulls -/

/-- Between the two states credits, segments given back and pulls have changed, and frames have left. -/
structure Frees (s t : State) : Prop where
  onlyIn : OnlyIn s t [.crs, .net, .regs, .counters, .logs]
  reg : ∀ (p : Page) (off : Nat), p.key off ≠ talPage.key 0x014 → t.regN p off = s.regN p off
  crs : t.crs = { s.crs with credit := t.crs.credit, returned := t.crs.returned, pulls := t.crs.pulls }

theorem Frees.refl (s : State) : Frees s s := ⟨(OnlyIn.refl s).mono (by decide), fun _ _ _ => rfl, rfl⟩

theorem Frees.trans {s t r : State} (h : Frees s t) (g : Frees t r) : Frees s r where
  onlyIn := (h.onlyIn.trans g.onlyIn).mono (by decide)
  reg p off hk := (g.reg p off hk).trans (h.reg p off hk)
  crs := by rw [g.crs, h.crs]

theorem Frees.foldl {α : Type} {f : State → α → State} (hf : ∀ s a, Frees s (f s a)) (s : State) (l : List α) : Frees s (l.foldl f s) := by
  induction l generalizing s with
  | nil => exact .refl s
  | cons a l ih => exact (hf s a).trans (ih (f s a))

theorem Frees.of_crs {s t : State} (honly : OnlyIn s t [.crs])
    (h : t.crs = { s.crs with credit := t.crs.credit, returned := t.crs.returned, pulls := t.crs.pulls }) : Frees s t :=
  ⟨honly.mono (by decide), fun p off _ => State.regN_congr (honly .regs (by decide)) p off, h⟩

theorem TalWrites.frees {s t : State} (h : TalWrites s t) : Frees s t where
  onlyIn := h.onlyIn.mono (by decide)
  reg p off hk := h.reg p off hk
  crs := by rw [show t.crs = s.crs from h.onlyIn .crs (by decide)]

theorem Frees.units {s t : State} (h : Frees s t) : t.crs.units = s.crs.units := by rw [h.crs]
theorem Frees.pruned {s t : State} (h : Frees s t) : t.crs.pruned = s.crs.pruned := by rw [h.crs]
theorem Frees.mem {s t : State} (h : Frees s t) : t.mem = s.mem := h.onlyIn .mem (by decide)

theorem frees_addCredit (s : State) (c n : Nat) : Frees s (addCredit s c n) := .of_crs ((OnlyIn.refl s).putCrs) rfl

theorem freeSegment_kept (s : State) (u : Nat) (t : Tag) (seg : Nat) : OnlyIn s (freeSegment s u t seg) [.crs] ∧
    (freeSegment s u t seg).crs = { s.crs with returned := (freeSegment s u t seg).crs.returned } := by
  unfold freeSegment
  split
  · exact ⟨(OnlyIn.refl s).mono (by decide), rfl⟩
  · exact ⟨(OnlyIn.refl s).putCrs, rfl⟩

theorem frees_freeSegment (s : State) (u : Nat) (t : Tag) (seg : Nat) : Frees s (freeSegment s u t seg) := by
  obtain ⟨honly, hcrs⟩ := freeSegment_kept s u t seg
  exact .of_crs honly (by rw [hcrs])

theorem frees_freePartial (s : State) (u : Nat) (p : Partial) : Frees s (freePartial s u p) :=
  (frees_addCredit ..).trans (.foldl (fun t (g : Nat × Nat) => frees_freeSegment t u p.tag g.1) _ _)

theorem frees_addPull (s : State) (t : Tag) (retry : Option Nat) : Frees s (addPull s t retry) := by
  unfold addPull
  split
  · exact .refl s
  · exact .of_crs ((OnlyIn.refl s).putCrs) rfl

theorem frees_schedulePulls (s : State) (step q : Nat) : Frees s (schedulePulls s step q) := by
  unfold schedulePulls
  refine .foldl (fun t k => ?_) s _
  dsimp only
  split
  · exact .refl t
  · refine .foldl (fun r j => ?_) t _
    split
    · exact .refl r
    · exact frees_addPull ..

theorem frees_sendPrune (s : State) (c step : Nat) : Frees s (sendPrune s c step) := (talWrites_sendFrame ..).frees

/-! ### Segments offered to the children of a node (R273, R275) -/

/-- A child that has given up a credit. -/
def charged (s : State) (c : Nat) : State :=
  let s' : State := { s with crs.credit := SMap.set s.crs.credit c (s.credit c - 1) }
  if s.credit c - 1 = 0 then { s' with crs.dry := SMap.set s'.crs.dry c s'.tick } else s'

theorem serveChild_eq (s : State) (c : Nat) (f : CrsFrame) :
    serveChild s c f = if 32 ≤ c then collect (charged s c) (c - 32) f else sendFrame (charged s c) c f := rfl

theorem onlyIn_charged (s : State) (c : Nat) : OnlyIn s (charged s c) [.crs] := by
  unfold charged
  dsimp only
  split
  · exact (OnlyIn.refl s).putCrs
  · exact (OnlyIn.refl s).putCrs

theorem charged_crs (s : State) (c : Nat) : (charged s c).crs = { s.crs with credit := SMap.set s.crs.credit c (s.credit c - 1), dry := (charged s c).crs.dry } := by
  unfold charged
  dsimp only
  split
  · rfl
  · rfl

theorem charged_credit (s : State) (c : Nat) : (charged s c).credit c = s.credit c - 1 := by
  rw [State.credit, charged_crs]
  exact SMap.getD_set_self ..

/-- Does a segment wait for a child in some unit? -/
def waitsFor (s : State) (c : Nat) : Bool := s.crs.units.any (fun e => e.2.mc.any (fun m => m.children.contains c))

/-- A segment for one child that has credit and waits for nothing goes to it at once. -/
theorem offer_of_ready {s : State} {u c : Nat} {f : CrsFrame} (hpruned : s.crs.pruned.contains (c, f.step) = false) (hcredit : s.credit c ≠ 0)
    (hwait : waitsFor s c = false) : offer s u f [c] = freeSegment (serveChild s c f) u (frameTag f) f.segment := by
  have hready : (s.credit c == 0 || s.crs.units.any (fun e => e.2.mc.any (fun m => m.children.contains c))) = false := by
    rw [beq_false_of_ne hcredit]
    exact hwait
  have hkeep : [c].filter (fun c => !s.crs.pruned.contains (c, f.step)) = [c] := by
    simp only [List.filter_cons, hpruned, Bool.not_false, if_true, List.filter_nil]
  unfold offer
  rw [hkeep]
  simp only [List.foldl_cons, List.foldl_nil, hready]
  rfl

/-- A slice of one segment of which nothing is here yet is complete: it asks for admission (R274). -/
theorem collect_of_whole {s : State} {u : Nat} {f : CrsFrame} (hnone : (s.unit u).parts.any (fun p => p.tag == frameTag f) = false)
    (hone : (s.bucket f.step f.bucket).psegs = 1) : collect s u f =
    { s.setUnit u { s.unit u with parts := (s.unit u).parts.filter (fun q => !(q.tag == frameTag f)) } with
      step.asks := s.step.asks ++ [⟨f.step, (s.bucket f.step f.bucket).layer, (s.bucket f.step f.bucket).sliceBase + f.slice,
        .multicast u ⟨frameTag f, f.e, [(f.segment, f.data)]⟩⟩] } := by
  have hfind : (s.unit u).parts.find? (fun p => p.tag == frameTag f) = none := List.find?_eq_none.mpr fun p hp =>
    Bool.not_eq_true _ ▸ (List.any_eq_false.mp hnone p hp)
  unfold collect
  dsimp only
  rw [hfind, hone]
  rfl

end Sys2Proof.Machine
end

section
/-! OBLIGATIONS. Parameter multicast: frames, prunes and credits (R273-R276). -/

namespace Sys2Proof.Machine

/-! ### The owner sends a committed slice (R273) -/

/-- A slice of up to 64 lines is one segment. -/
theorem psegs_of_small {b : Bucket} (h : b.plines ≤ 64) : b.psegs = 1 := by
  have hpos : 1 ≤ b.plines := Nat.le_add_left ..
  unfold Bucket.psegs
  omega

theorem mcOut_lt {b : Bucket} {c : Nat} (h : c ∈ b.mcOut) : c < 16 := List.mem_range.mp (List.mem_filter.mp h).1

/-- The frame of a slice of one segment. -/
def sliceFrame (b : Bucket) (tag : Tag) (e x : Nat) : CrsFrame :=
  ⟨3, false, true, false, false, tag.step, tag.bucket, tag.slice, 0, b.plines - 1, 0, e, 0, x % 2 ^ (1024 * b.plines)⟩

/-- The state in which a slice that has been read goes out. -/
def sliceTaken (s1 : State) (rest : List (Tag × Nat)) (tag : Tag) : State :=
  trainWrite { s1 with crs.multicast := rest } (s1.taglogAddr tag.bucket tag.slice) 2 tag.step

theorem paramMulticast_of_read {s s1 : State} {tag : Tag} {e x c : Nat} {rest : List (Tag × Nat)} (hhead : s.crs.multicast = (tag, e) :: rest)
    (hcommits : s.step.commits.any (fun k => k.step == tag.step && k.bucket == tag.bucket && k.slice == tag.slice) = false)
    (hhoming : s.step.homing.any (fun h => h.commit.step == tag.step && h.commit.bucket == tag.bucket && h.commit.slice == tag.slice) = false)
    (hwaits : trainWaits s (s.taglogAddr tag.bucket tag.slice) 2 = false) (hshard : (s.bucket tag.step tag.bucket).shard = false)
    (hlines : (s.bucket tag.step tag.bucket).plines ≤ 64) (hout : (s.bucket tag.step tag.bucket).mcOut = [c])
    (hread : trainRead ((s.bucket tag.step tag.bucket).paramAddr tag) (128 * (s.bucket tag.step tag.bucket).plines) s = .ok (x, s1)) :
    paramMulticast s = offer (sliceTaken s1 rest tag) (s.bucket tag.step tag.bucket).redOut (sliceFrame (s.bucket tag.step tag.bucket) tag e x) [c] := by
  have hwhole : multicastLines (s.bucket tag.step tag.bucket) tag s = .ok (x, s1) := by
    rw [multicastLines, hshard]
    exact hread
  have hpiece : x / 2 ^ (65536 * 0) % 2 ^ (1024 * min 64 ((s.bucket tag.step tag.bucket).plines - 64 * 0)) =
      x % 2 ^ (1024 * (s.bucket tag.step tag.bucket).plines) := by
    rw [Nat.mul_zero, pow_zero, Nat.div_one, Nat.sub_zero, Nat.min_eq_right hlines]
  have hlen : min 64 ((s.bucket tag.step tag.bucket).plines - 64 * 0) = (s.bucket tag.step tag.bucket).plines := by
    rw [Nat.mul_zero, Nat.sub_zero, Nat.min_eq_right hlines]
  unfold paramMulticast
  rw [hhead]
  dsimp only
  rw [hcommits, hhoming, hwaits, if_neg (by decide), whenRead, hwhole]
  dsimp only
  rw [psegs_of_small hlines, show List.range 1 = [0] from rfl, List.foldl_cons, List.foldl_nil, hpiece, hlen, hshard, hout]
  rfl

/-- Reading a slice and marking it sent leaves the exchange as it was, but for the list of slices to send. -/
theorem sliceTaken_kept {s s1 : State} {a n x : Nat} (h : trainRead a n s = .ok (x, s1)) (rest : List (Tag × Nat)) (tag : Tag) :
    (sliceTaken s1 rest tag).crs = { s.crs with multicast := rest } ∧ (sliceTaken s1 rest tag).net = s.net ∧ CtlKept s (sliceTaken s1 rest tag) := by
  have hread := reads_trainRead a n s x s1 h
  have hwrite := accesses_trainWrite { s1 with crs.multicast := rest } (s1.taglogAddr tag.bucket tag.slice) 2 tag.step
  have hlist : CtlKept s1 { s1 with crs.multicast := rest } := .of_regs rfl
  refine ⟨hwrite.crs.trans ?_, hwrite.net.trans hread.net, (hread.ctl.trans hlist).trans hwrite.ctl⟩
  show ({ s1.crs with multicast := rest } : Carousel) = _
  rw [hread.crs]

/-! ### Frames that arrive (R273, R274, R276) -/

theorem bucket_bump (s : State) (p : Page) (k step b : Nat) : (s.bump p k).bucket step b = s.bucket step b :=
  State.bucket_of_banks (State.regN_bump ..) (congrArg Carousel.banks (State.bump_crs ..)) step b

section
variable {s0 : State} {u : Nat} {port : Nat} {f : CrsFrame} (hunit : s0.unitNo port = u) (hframe : frameIn s0 u f = (s0.bump (unitPage u) 0, true))
include hunit hframe

theorem paramFrame_of_other (hkind : f.kind = 3) (hother : (s0.bucket f.step f.bucket).mcIn ≠ u) :
    paramFrame s0 port f = (s0.bump (unitPage u) 0, true) := by
  unfold paramFrame
  dsimp only
  rw [if_neg (not_not.mpr hkind), hunit, hframe]
  dsimp only
  rw [bucket_bump, if_pos (by simp [hother])]

theorem paramFrame_of_local (hkind : f.kind = 3) (hvalid : (s0.bucket f.step f.bucket).valid = true) (hin : (s0.bucket f.step f.bucket).mcIn = u)
    (hshard : (s0.bucket f.step f.bucket).shard = false) (hlocal : (s0.bucket f.step f.bucket).mcLocal = true)
    (hout : (s0.bucket f.step f.bucket).mcOut = []) (hstomped : (s0.unit u).stomped = []) :
    paramFrame s0 port f = (offer (unstomped (s0.bump (unitPage u) 0) u) u f [localChild u], true) := by
  have hnone : ((s0.bump (unitPage u) 0).unit u).stomped = [] := by
    rw [State.unit_of_units (congrArg Carousel.units (State.bump_crs ..))]
    exact hstomped
  unfold paramFrame
  dsimp only
  rw [if_neg (not_not.mpr hkind), hunit, hframe]
  dsimp only
  rw [bucket_bump, hvalid, hin, hshard, hlocal, hout, if_neg (by simp), Bool.false_and, Bool.false_and,
    if_neg Bool.false_ne_true, resendStomped_of_none f hnone]
  rfl

/-- The state after the prune of a step has been counted. -/
def pruneNoted (s : State) (u : Nat) : State := (s.raise (unitPage u) 3).bump (unitPage u) 8

theorem prunedFrame_of_kind (hkind : f.kind = 4) : ∃ outs : State → List Nat, prunedFrame s0 port f =
    (let s := dropWaiting (dropPartials (pruneNoted (s0.bump (unitPage u) 0) u) u f.step) u f.step
     schedulePulls ((outs s).foldl (fun s c => sendPrune s c f.step) s) f.step u, true) := by
  refine ⟨fun s => ((s.bucketsFrom f.step u).flatMap (fun b => (s.bucket f.step b).mcOut)).eraseDups, ?_⟩
  unfold prunedFrame
  dsimp only
  rw [if_neg (not_not.mpr hkind), hunit, hframe]
  rfl

end

/-- The partial slices of a step are gone, and their segments are freed. -/
theorem frees_dropPartials (s : State) (u step : Nat) :
    Frees (s.setUnit u { s.unit u with parts := (s.unit u).parts.filter (fun p => p.tag.step != step) }) (dropPartials s u step) :=
  .foldl (fun t p => frees_freePartial t u p) _ _

theorem frees_dropWaiting (s : State) (u step : Nat) : ∃ mc, Frees (s.setUnit u { s.unit u with mc := mc }) (dropWaiting s u step) :=
  ⟨_, .foldl (fun t (m : McSeg) => frees_freeSegment t u (frameTag m.frame) m.frame.segment) _ _⟩

/-- What a unit's dropped partial slices leave of it and of the rest. -/
theorem dropPartials_kept (s : State) (u step : Nat) : OnlyIn s (dropPartials s u step) [.crs, .net, .regs, .counters, .logs] ∧
    (∀ (p : Page) (off : Nat), p.key off ≠ talPage.key 0x014 → (dropPartials s u step).regN p off = s.regN p off) ∧
    (dropPartials s u step).unit u = { s.unit u with parts := (s.unit u).parts.filter (fun p => p.tag.step != step) } ∧
    (dropPartials s u step).crs.pruned = s.crs.pruned := by
  have hfrees := frees_dropPartials s u step
  refine ⟨(((OnlyIn.refl s).putCrs).trans hfrees.onlyIn).mono (by decide), fun p off hk => (hfrees.reg p off hk).trans rfl, ?_, hfrees.pruned.trans rfl⟩
  rw [State.unit_of_units hfrees.units, State.unit_setUnit_self]

theorem dropWaiting_kept (s : State) (u step : Nat) : OnlyIn s (dropWaiting s u step) [.crs, .net, .regs, .counters, .logs] ∧
    (∀ (p : Page) (off : Nat), p.key off ≠ talPage.key 0x014 → (dropWaiting s u step).regN p off = s.regN p off) ∧
    ((dropWaiting s u step).unit u).parts = (s.unit u).parts := by
  obtain ⟨mc, hfrees⟩ := frees_dropWaiting s u step
  refine ⟨(((OnlyIn.refl s).putCrs).trans hfrees.onlyIn).mono (by decide), fun p off hk => (hfrees.reg p off hk).trans rfl, ?_⟩
  rw [State.unit_of_units hfrees.units, State.unit_setUnit_self]

/-! ### Prunes (R275) -/

/-- A unit whose segments of a step wait for a child no more. -/
def CrsUnit.without (x : CrsUnit) (c step : Nat) : CrsUnit :=
  { x with
    mc := (x.mc.filter (fun m => !(m.frame.step == step && m.children == [c]))).map (fun m => if m.frame.step = step then { m with children := NSet.erase m.children c } else m) }

/-- The units with a child pruned for a step, and the prune in the list of the last 8,192. -/
def childPruned (s : State) (c step : Nat) : State :=
  { s with crs.units := s.crs.units.map (fun e => (e.1, e.2.without c step)), crs.pruned := ((c, step) :: s.crs.pruned).take 8192 }

/-- No segment of the step waits for the child any more. -/
def Parted (x : CrsUnit) (c step : Nat) : Prop := ∀ k ∈ x.mc, k.frame.step = step → c ∉ k.children

theorem SMap.getD_map_snd {α : Type} (f : α → α) (m : SMap α) (d : α) (k : Nat) :
    SMap.getD (m.map (fun e => (e.1, f e.2))) d k = (SMap.get m k).elim d f := by
  unfold SMap.getD
  induction m with
  | nil => rfl
  | cons e m ih =>
    rw [List.map_cons, SMap.get, SMap.get]
    by_cases hk : k = e.1
    · simp only [hk, if_true]
      rfl
    · simp only [hk, if_false]
      exact ih

theorem parted_childPruned (s : State) (u c step : Nat) : Parted ((childPruned s c step).unit u) c step := by
  have hget : (childPruned s c step).unit u = (SMap.get s.crs.units u).elim {} (fun x => x.without c step) :=
    SMap.getD_map_snd (fun x : CrsUnit => x.without c step) s.crs.units {} u
  rw [hget]
  cases SMap.get s.crs.units u with
  | none => exact fun k hk => absurd hk List.not_mem_nil
  | some x =>
    intro k hk hstep hc
    obtain ⟨m, -, rfl⟩ := List.mem_map.mp hk
    by_cases hm : m.frame.step = step
    · rw [if_pos hm] at hc
      have herase := NSet.contains_erase m.children c c
      rw [decide_eq_false (not_not.mpr rfl), Bool.false_and] at herase
      exact Bool.false_ne_true (herase.symm.trans (List.contains_iff_mem.mpr hc))
    · rw [if_neg hm] at hstep
      exact hm hstep

/-- The prune is recorded and counted. -/
def pruneRecorded (s : State) (u c step : Nat) : State :=
  ((s.record (unitPage u) 0x118 (min c 31 * 2 ^ 16 + step)).raise (unitPage u) 2).bump (unitPage u) 7

/-- The segments that waited for the child alone are freed. -/
def segmentsFreed (s : State) (c step : Nat) : State :=
  (s.crs.units.flatMap (fun e => (e.2.mc.filter (fun m => m.frame.step == step && m.children == [c])).map (fun m => (e.1, m.frame)))).foldl
    (fun s e => freeSegment s e.1 (frameTag e.2) e.2.segment) (childPruned s c step)

theorem frees_segmentsFreed (s : State) (c step : Nat) : Frees (childPruned s c step) (segmentsFreed s c step) :=
  .foldl (fun t (e : Nat × CrsFrame) => frees_freeSegment t e.1 (frameTag e.2) e.2.segment) _ _

/-- This module's own delivery gives its partial slices up and pulls them; any other child is told. -/
def childTold (s : State) (u c step : Nat) : State :=
  if 32 ≤ c then schedulePulls (dropPartials s u step) step u else sendPrune s c step

theorem childTold_kept (s : State) (u c step : Nat) : OnlyIn s (childTold s u c step) [.crs, .net, .regs, .counters, .logs] ∧
    (childTold s u c step).crs.pruned = s.crs.pruned ∧ ((childTold s u c step).unit u).mc = (s.unit u).mc := by
  unfold childTold
  split
  · obtain ⟨honly, -, hunit, hpruned⟩ := dropPartials_kept s u step
    have hpulls := frees_schedulePulls (dropPartials s u step) step u
    refine ⟨(honly.trans hpulls.onlyIn).mono (by decide), hpulls.pruned.trans hpruned, ?_⟩
    rw [State.unit_of_units hpulls.units, hunit]
  · have hsent := frees_sendPrune s c step
    exact ⟨hsent.onlyIn, hsent.pruned, by rw [State.unit_of_units hsent.units]⟩

theorem pruneChild_eq (s : State) (u c step : Nat) : pruneChild s u c step = pruneRecorded (childTold (segmentsFreed s c step) u c step) u c step := rfl

/-- A child that is pruned keeps no segment of the step waiting. -/
theorem pruneChild_kept (s : State) (u c step : Nat) : (pruneChild s u c step).mem = s.mem ∧
    (pruneChild s u c step).crs.pruned = ((c, step) :: s.crs.pruned).take 8192 ∧ Parted ((pruneChild s u c step).unit u) c step ∧
    bitAt ((pruneChild s u c step).regN (unitPage u) 0x018) 2 = true := by
  have hfreed := frees_segmentsFreed s c step
  obtain ⟨honly, hpruned, hmc⟩ := childTold_kept (segmentsFreed s c step) u c step
  have hrecorded (r : State) : OnlyIn r (pruneRecorded r u c step) [.logs, .counters, .regs] := (OnlyIn.refl r).record.raise.bump.mono (by decide)
  have hcrs := hrecorded (childTold (segmentsFreed s c step) u c step) .crs (by decide)
  rw [pruneChild_eq]
  refine ⟨?_, ?_, ?_, ?_⟩
  · exact ((hrecorded _ .mem (by decide)).trans (honly .mem (by decide))).trans (hfreed.mem.trans rfl)
  · exact ((congrArg Carousel.pruned hcrs).trans hpruned).trans (hfreed.pruned.trans rfl)
  · unfold Parted
    rw [State.unit_of_units (congrArg Carousel.units hcrs), hmc, State.unit_of_units hfreed.units]
    exact parted_childPruned s u c step
  · rw [pruneRecorded, State.regN_bump, State.bitAt_raise_self _ _ (by decide)]

theorem pruneRow_of_dry {s : State} {u c : Nat} {w : McSeg} {ws : List McSeg} {cs : NSet} (hmc : (s.unit u).mc = w :: ws) (hchildren : w.children = c :: cs)
    (hcredit : s.credit c = 0) (hdry : SMap.getD s.crs.dry 0 c + s.regN (unitPage u) 0x108 ≤ s.tick) : pruneRow s u = pruneChild s u c w.frame.step := by
  have hfirst : (c :: cs).find? (fun c => s.credit c == 0 && decide (SMap.getD s.crs.dry 0 c + s.regN (unitPage u) 0x108 ≤ s.tick)) = some c := by
    rw [List.find?_cons, hcredit, decide_eq_true hdry]
    rfl
  unfold pruneRow
  dsimp only
  rw [hmc, List.findSome?_cons, hchildren, hfirst]
  rfl

/-! ### Credits that come back (R275) -/

theorem drainChild_of_none {s : State} {c : Nat} (h : waitsFor s c = false) (fuel : Nat) : drainChild s c fuel = s := by
  cases fuel with
  | zero => rfl
  | succ fuel =>
    have hnone : s.crs.units.findSome? (fun e => (e.2.mc.find? (fun m => m.children.contains c)).map (fun m => (e.1, m))) = none :=
      List.findSome?_eq_none_iff.mpr fun e he => by
        rw [Option.map_eq_none_iff, List.find?_eq_none]
        exact fun m hm => Bool.not_eq_true _ ▸ List.any_eq_false.mp (Bool.eq_false_iff.mpr (List.any_eq_false.mp h e he)) m hm
    rw [drainChild]
    split
    · rfl
    · rw [hnone]

/-! ### A slice that a frame completes (R274) -/

theorem SMap.mem_of_mem_set {α : Type} {m : SMap α} {k : Nat} {v : α} {e : Nat × α} (h : e ∈ SMap.set m k v) : e = (k, v) ∨ e ∈ m := by
  induction m with
  | nil => exact .inl (List.mem_singleton.mp h)
  | cons a m ih =>
    rw [SMap.set] at h
    split at h
    · rcases List.mem_cons.mp h with rfl | h
      · exact .inl rfl
      · exact .inr h
    · split at h
      · rcases List.mem_cons.mp h with rfl | h
        · exact .inl rfl
        · exact .inr (List.mem_cons_of_mem _ h)
      · rcases List.mem_cons.mp h with rfl | h
        · exact .inr List.mem_cons_self
        · exact (ih h).imp_right (List.mem_cons_of_mem _)

/-- A unit is in the list of units, or it holds nothing. -/
theorem unit_of_getD (s : State) (u : Nat) : (u, s.unit u) ∈ s.crs.units ∨ s.unit u = {} := by
  unfold State.unit SMap.getD
  cases h : SMap.get s.crs.units u with
  | none => exact .inr rfl
  | some x => exact .inl (SMap.mem_of_get h)

/-- A unit's resends are no segments that wait for a child. -/
theorem waitsFor_unstomped {s : State} {c : Nat} (u : Nat) (h : waitsFor s c = false) : waitsFor (unstomped s u) c = false := by
  have hunit : ¬ (s.unit u).mc.any (fun m => m.children.contains c) = true := by
    rcases unit_of_getD s u with hmem | hnone
    · exact List.any_eq_false.mp h _ hmem
    · rw [hnone]
      exact Bool.false_ne_true
  refine List.any_eq_false.mpr fun e he => ?_
  rcases SMap.mem_of_mem_set he with rfl | hmem
  · exact hunit
  · exact List.any_eq_false.mp h e hmem

/-- The slice of a frame, of one segment, as it asks for admission. -/
def wholeAsk (s : State) (u : Nat) (f : CrsFrame) : Ask :=
  ⟨f.step, (s.bucket f.step f.bucket).layer, (s.bucket f.step f.bucket).sliceBase + f.slice, .multicast u ⟨frameTag f, f.e, [(f.segment, f.data)]⟩⟩

theorem collect_kept {s : State} {u : Nat} {f : CrsFrame} (hnone : (s.unit u).parts.any (fun p => p.tag == frameTag f) = false)
    (hone : (s.bucket f.step f.bucket).psegs = 1) : OnlyIn s (collect s u f) [.step, .crs] ∧
    (collect s u f).crs.credit = s.crs.credit ∧ (collect s u f).step = { s.step with asks := s.step.asks ++ [wholeAsk s u f] } := by
  rw [collect_of_whole hnone hone]
  exact ⟨(OnlyIn.refl s).putCrs.putStep, rfl, rfl⟩

/-- A frame of a slice of one segment for this module's own delivery: the slice asks for admission, and the child's credit is spent. -/
theorem offer_local {s : State} {u : Nat} {f : CrsFrame} (hpruned : s.crs.pruned.contains (localChild u, f.step) = false)
    (hcredit : s.credit (localChild u) ≠ 0) (hwait : waitsFor s (localChild u) = false)
    (hparts : (s.unit u).parts.any (fun p => p.tag == frameTag f) = false) (hone : (s.bucket f.step f.bucket).psegs = 1) :
    OnlyIn s (offer s u f [localChild u]) [.crs, .step] ∧ (offer s u f [localChild u]).credit (localChild u) = s.credit (localChild u) - 1 ∧
      (offer s u f [localChild u]).step = { s.step with asks := s.step.asks ++ [wholeAsk s u f] } := by
  have hcharged := onlyIn_charged s (localChild u)
  have hcrs := charged_crs s (localChild u)
  have hunit : (charged s (localChild u)).unit u = s.unit u := State.unit_of_units (by rw [hcrs]) u
  have hbucket : (charged s (localChild u)).bucket f.step f.bucket = s.bucket f.step f.bucket :=
    State.bucket_of_banks (State.regN_congr (hcharged .regs (by decide)) ..) (by rw [hcrs]) ..
  have hstep : (charged s (localChild u)).step = s.step := hcharged .step (by decide)
  obtain ⟨hcollect, hcollected, hasked⟩ := collect_kept (s := charged s (localChild u)) (by rw [hunit]; exact hparts) (by rw [hbucket]; exact hone)
  rw [wholeAsk, hbucket, hstep] at hasked
  have hserve : serveChild s (localChild u) f = collect (charged s (localChild u)) u f := by
    rw [serveChild_eq, if_pos (by unfold localChild; omega), show localChild u - 32 = u from Nat.add_sub_cancel_left ..]
  obtain ⟨hfreed, hreturned⟩ := freeSegment_kept (collect (charged s (localChild u)) u f) u (frameTag f) f.segment
  rw [offer_of_ready hpruned hcredit hwait, hserve]
  refine ⟨((hcharged.trans hcollect).trans hfreed).mono (by decide), ?_, (hfreed .step (by decide)).trans hasked⟩
  rw [State.credit_of_crs ((congrArg Carousel.credit hreturned).trans hcollected), charged_credit]

/-- Settles O40: what leaves for a child at once, what a frame of another node brings, and how a child is pruned or paid back. -/
theorem carouselMulticast : Obligations.CarouselMulticast := by
  intro s s0 s1 port m f u taken waiting
  refine ⟨fun tag e rest x c hhead => ?_, fun hnone => ?_, fun hnone => ⟨?_, ?_⟩, fun htaken hon hstep hopen => ?_, fun w ws c cs hmc hchildren hcredit hdry => ?_,
    fun hmc => ?_, fun hwait => ?_⟩
  · intro b n frame hcommits hhoming hwaits hshard hlines hout hread hpruned hcredit hwait hst hqueue hroom
    have hlt : c < 16 := mcOut_lt (b := b) (hout ▸ List.mem_cons_self)
    obtain ⟨hcrs, hnet, hctl⟩ := sliceTaken_kept hread rest tag
    have hrun := paramMulticast_of_read hhead hcommits hhoming hwaits hshard hlines hout hread
    generalize sliceTaken s1 rest tag = r at hcrs hnet hctl hrun
    have hready : waitsFor r c = false := (congrArg (fun k : Carousel => k.units.any _) hcrs).trans hwait
    have hrcredit : r.credit c = s.credit c := State.credit_of_crs (congrArg Carousel.credit hcrs :) c
    rw [offer_of_ready (by rw [hcrs]; exact hpruned) (by rw [hrcredit]; exact hcredit) hready, serveChild_eq, if_neg (by omega)] at hrun
    have hcharged := onlyIn_charged r c
    have hctx (k : Nat) : (charged r c).tctx k = s.tctx k :=
      State.tctx_of_ctxs (congrArg Network.ctxs ((hcharged .net (by decide)).trans hnet)) k
    have hreg (p : Page) {off : Nat} (hoff : off < 0x1000) (hne : off ≠ 0x018) : (charged r c).regN p off = s.regN p off :=
      (State.regN_congr (hcharged .regs (by decide)) p off).trans (hctl.regN p off hoff hne)
    have hport : (charged r c).portCtx c = n := congrArg (· % 2 ^ 14) (hreg (unitPage c) (by decide) (by decide))
    have hmax : (charged r c).cwndMax = s.cwndMax := State.cwndMax_of_regN (hreg talPage (by decide) (by decide))
    obtain ⟨k, hlast, hcls, -, -, -, hdata, -⟩ := sendFrame_of_room (s := charged r c) (u := c) (sliceFrame b tag e x) (by rw [hport, hctx]; exact hst)
      (by rw [hport, hctx]; exact hqueue) (by rw [hport, hctx, hmax]; exact hroom)
    rw [hport, hctx] at hlast
    have hsent : (sendFrame (charged r c) c (sliceFrame b tag e x)).crs = (charged r c).crs :=
      (talWrites_sendFrame (charged r c) c (sliceFrame b tag e x)).onlyIn .crs (by decide)
    generalize sendFrame (charged r c) c (sliceFrame b tag e x) = v at hrun hlast hsent
    obtain ⟨hfreed, hkept⟩ := freeSegment_kept v b.redOut (frameTag (sliceFrame b tag e x)) 0
    refine ⟨_, k, congrArg Host.Outcome.next hrun, ?_, ?_, ?_, hcls, hdata⟩
    · have hlist := congrArg Carousel.multicast hkept
      rw [hsent, charged_crs, hcrs] at hlist
      exact hlist
    · refine (State.credit_of_crs (s := charged r c) ?_ c).trans ((charged_credit r c).trans (by rw [hrcredit]))
      have hcredits := congrArg Carousel.credit hkept
      rw [hsent] at hcredits
      exact hcredits
    · exact (congrArg TalCtx.unacked (State.tctx_of_ctxs (congrArg Network.ctxs (hfreed .net (by decide))) n)).trans hlast
  · exact congrArg Host.Outcome.next (by rw [paramMulticast, hnone])
  · exact congrArg Host.Outcome.next (withFrame_of_none hnone)
  · exact congrArg Host.Outcome.next (withFrame_of_none hnone)
  · intro b here tag
    have honly := takeMessage_onlyIn htaken
    have hcrs : s0.crs = s.crs := honly .crs (by decide)
    have hreg (p : Page) (off : Nat) : s0.regN p off = s.regN p off := State.regN_congr (honly .regs (by decide)) p off
    have hunit : s0.unitNo port.val = u := by rw [State.unitNo, hreg]; rfl
    have hbucket : s0.bucket f.step f.bucket = b := State.bucket_of_banks (hreg ..) (congrArg Carousel.banks hcrs) ..
    have hu : s0.unit u = s.unit u := State.unit_of_units (congrArg Carousel.units hcrs) u
    have hframe (hkind : f.kind ≠ 0) (hmax : f.kind ≤ 4) : frameIn s0 u f = (s0.bump (unitPage u) 0, true) :=
      frameIn_of_good u (by rw [State.crsOn, hreg]; exact hon) hkind hmax hstep (by rw [State.tagClosed, hreg]; exact hopen)
    refine ⟨fun hkind hvalid hin hshard hlocal hout hpsegs hstomped hparts hpruned hcredit hwait => ?_, fun hkind hother => ?_, fun hkind => ?_⟩
    · have hrun := paramFrame_of_local hunit (hframe (by omega) (by omega)) hkind (by rw [hbucket]; exact hvalid) (by rw [hbucket]; exact hin)
        (by rw [hbucket]; exact hshard) (by rw [hbucket]; exact hlocal) (by rw [hbucket]; exact hout) (by rw [hu]; exact hstomped)
      have hbumped : (s0.bump (unitPage u) 0).crs = s.crs := (State.bump_crs ..).trans hcrs
      have hrcrs : (unstomped (s0.bump (unitPage u) 0) u).crs = { s.crs with units := (unstomped (s0.bump (unitPage u) 0) u).crs.units } := by
        rw [← hbumped]
        rfl
      have hrwait : waitsFor (unstomped (s0.bump (unitPage u) 0) u) here = false :=
        waitsFor_unstomped u ((congrArg (fun k : Carousel => k.units.any _) hbumped).trans hwait)
      have hrunit : ((unstomped (s0.bump (unitPage u) 0) u).unit u).parts = (s.unit u).parts := by
        rw [unstomped, State.unit_setUnit_self, State.unit_of_units (congrArg Carousel.units hbumped)]
      have hronly : OnlyIn s0 (unstomped (s0.bump (unitPage u) 0) u) [.crs, .logs, .counters] := (OnlyIn.refl s0).bump.putCrs.mono (by decide)
      have hrstep : (unstomped (s0.bump (unitPage u) 0) u).step = s.step := (hronly .step (by decide)).trans (honly .step (by decide))
      have hrbucket : (unstomped (s0.bump (unitPage u) 0) u).bucket f.step f.bucket = b :=
        State.bucket_of_banks ((State.regN_congr (hronly .regs (by decide)) ..).trans (hreg ..)) (by rw [hrcrs]) ..
      generalize unstomped (s0.bump (unitPage u) 0) u = r at hrun hrcrs hrwait hrunit hronly hrstep hrbucket
      have hrcredit : r.credit here = s.credit here := State.credit_of_crs (by rw [hrcrs]) here
      obtain ⟨hoffer, hoffercredit, hofferstep⟩ := offer_local (s := r) (u := u) (f := f) (by rw [hrcrs]; exact hpruned) (by rw [hrcredit]; exact hcredit)
        hrwait (by rw [hrunit]; exact hparts) (by rw [hrbucket]; exact hpsegs)
      rw [hrcredit] at hoffercredit
      rw [wholeAsk, hrbucket, hrstep] at hofferstep
      exact ⟨_, congrArg Host.Outcome.next (withFrame_of_taken htaken hrun), (hronly.trans hoffer).mono (by decide), hoffercredit, hofferstep⟩
    · exact ⟨_, congrArg Host.Outcome.next (withFrame_of_taken htaken (paramFrame_of_other hunit (hframe (by omega) (by omega)) hkind
        (by rw [hbucket]; exact hother))), (OnlyIn.refl s0).bump.mono (by decide)⟩
    · obtain ⟨outs, hrun⟩ := prunedFrame_of_kind hunit (hframe (by omega) (by omega)) hkind
      have hnoted : OnlyIn s0 (pruneNoted (s0.bump (unitPage u) 0) u) [.logs, .counters, .regs] := (OnlyIn.refl s0).bump.raise.bump.mono (by decide)
      have hbit : bitAt ((pruneNoted (s0.bump (unitPage u) 0) u).regN (unitPage u) 0x018) 3 = true := by
        rw [pruneNoted, State.regN_bump, State.bitAt_raise_self _ _ (by decide)]
      generalize pruneNoted (s0.bump (unitPage u) 0) u = r at hrun hnoted hbit
      obtain ⟨hdrop, hdropreg, hdropunit, -⟩ := dropPartials_kept r u f.step
      obtain ⟨hwaiting, hwaitingreg, hwaitingunit⟩ := dropWaiting_kept (dropPartials r u f.step) u f.step
      have hsent := (Frees.foldl (fun t c => frees_sendPrune t c f.step) (dropWaiting (dropPartials r u f.step) u f.step) (outs (dropWaiting (dropPartials r u f.step) u f.step))).trans
        (frees_schedulePulls _ f.step u)
      refine ⟨_, congrArg Host.Outcome.next (withFrame_of_taken htaken hrun), ?_, ?_, ?_⟩
      · have hne : (unitPage u).key 0x018 ≠ talPage.key 0x014 := Page.key_ne_of_off _ _ (by decide) (by decide) (by decide)
        rw [hsent.reg _ _ hne, hwaitingreg _ _ hne, hdropreg _ _ hne]
        exact hbit
      · rw [State.unit_of_units hsent.units, hwaitingunit, hdropunit,
          State.unit_of_units (congrArg Carousel.units (hnoted .crs (by decide))), hu]
      · exact (((hsent.mem.trans (hwaiting .mem (by decide))).trans (hdrop .mem (by decide))).trans (hnoted .mem (by decide))).trans
          (honly .mem (by decide))
  · obtain ⟨hmem, hpruned, hparted, hraised⟩ := pruneChild_kept s port.val c w.frame.step
    exact ⟨_, congrArg Host.Outcome.next (pruneRow_of_dry hmc hchildren hcredit hdry), hpruned, hparted, hraised, hmem⟩
  · exact congrArg Host.Outcome.next (by rw [pruneRow, hmc]; rfl)
  · refine ⟨_, congrArg Host.Outcome.next (drainChild_of_none (s := addCredit s u 1) hwait 1024), ?_, ?_, rfl⟩
    · exact (OnlyIn.refl s).putCrs.mono (by decide)
    · exact SMap.getD_set_self ..

end Sys2Proof.Machine
end
